-- ==== Sys2Proof/Word.lean ====
section
/-! DEFINITION. The word types of the A640 (R9, R21, R45) and their plainest helpers. -/
namespace Sys2Proof

/-- A byte of any memory level (R27). -/
abbrev Byte := BitVec 8
/-- An architectural register (R21) and an instruction word (R67). -/
abbrev Word := BitVec 32
/-- The contents of a register pair (R22). -/
abbrev DWord := BitVec 64
/-- The contents of a register quad (R70). -/
abbrev QWord := BitVec 128
/-- A 7-bit register operand field (R25). -/
abbrev Fld := BitVec 7
/-- The five sticky flags of fst, in its bit order (R41). -/
abbrev Flags := BitVec 5

/-- Bits [lo + n - 1 : lo] of a natural number. -/
def bits (x lo n : Nat) : Nat := (x >>> lo) % 2 ^ n

/-- Bit i of a natural number. -/
def bit (x i : Nat) : Bool := x.testBit i

/-- x read as a two's complement number of w bits. -/
def toSigned (w x : Nat) : Int :=
  let y := x % 2 ^ w
  if 2 * y < 2 ^ w then (y : Int) else (y : Int) - (2 ^ w : Nat)

end Sys2Proof
end

