-- ==== Sys2Proof/Syntax.lean ====
section
/-!
DEFINITION. The actions of the A640 as plain data: one constructor of `Instr` per row of
spec/opcode_table.json, the 84 device events first (their operands are what the event carries) and after them
the 272 instruction words (their operand fields as the word holds them, R85 to R94).
-/
namespace Sys2Proof

/-- A position: word index and sub-slot bit (R73). -/
structure Pos where
  word : Nat
  sub : Bool := false
deriving DecidableEq, Repr

/-- Pushed entries on their way to the reserved entries `key` of a peer's queue (R166). -/
structure Push where
  ctx : Nat
  vc : Nat
  line : Nat
  ch : Nat
  key : Nat
  vals : List Word
  /-- the sending virtual core and line: the image header counts these reservations (R352) -/
  svc : Nat
  sline : Nat
deriving DecidableEq, Repr

/-- A long-latency result on its way back to its lanes (R74, R107): architectural registers, g registers,
flags and pushes it delivers. -/
structure Result where
  ctx : Nat
  vc : Nat
  line : Nat
  lanes : List Nat
  regs : List (Nat × Nat × Word)
  gs : List (Nat × Word)
  flags : List (Nat × Flags)
  pushes : List Push
  /-- step of its issue: the later write of a g register in issue order stands (R23) -/
  stamp : Nat
deriving DecidableEq, Repr

/-- What a gateway or an engine port knows of a page fault before its record is written (R314, R315). -/
structure FaultNote where
  ctx : Nat
  vc : Nat
  line : Nat
  die : Nat
  src : Nat
  cause : Nat
  kind : Nat
  vcache : Nat
  lvl : Nat
  ia : Nat
  va : Nat
  lanes : List Nat
  job : Option Nat
deriving DecidableEq, Repr

/-- The parameters that every rank's `cpyc` must share (R202). -/
structure CollParms where
  cid : Nat
  ckind : Nat
  rmask : Nat
  root : Nat
  ren : Bool
  rop : Nat
  rfmt : Nat
  sfmt : Nat
  elems : Nat
deriving DecidableEq, Repr

/-- Which tree of a collective a partial belongs to (R368). -/
structure CollKey where
  group : Option Nat
  parms : CollParms
  elem : Nat
  /-- how many collectives over these dimensions its rank had started before (notes/assumptions/98.md) -/
  seq : Nat := 0
deriving DecidableEq, Repr

/-- What the devices of a collective tell each other beside partials (R202, R369, R370; notes/assumptions/98.md): that a rank has
issued it, the window that the apex grants, an element's root, or the code with which every rank ends. -/
inductive CollNews where
  | issued (rank : Nat)
  | grant (w : Nat)
  | root (val : QWord)
  | failed (code : Nat)
deriving DecidableEq, Repr

/-- Such a message: its group, the collective, how many over its dimensions the sender had started before, the coordinates of the
device that it is for; and the port and class by which it arrived here. -/
structure CollMsg where
  group : Nat
  parms : CollParms
  seq : Nat
  dest : List Nat
  body : CollNews
  port : Option Nat := none
  cls : Nat := 0
deriving DecidableEq, Repr

/-- A partial of the saltern (R247): context, label of R36, value, flags, word address for `ctbm`. -/
structure Partial where
  ctx : Nat
  slot : Nat
  level : Nat
  index : Nat
  val : DWord
  flags : Flags
  addr : Nat := 0
  coll : Option CollKey := none
  /-- class of the virtual channel by which it reached this device (R366) -/
  cls : Nat := 0
deriving DecidableEq, Repr

/-- The pans of R247 and the memory-side units of R259. -/
inductive PanId where
  | core (ctx vc : Nat)
  | gateway (square : Nat)
  | fold (pair : Nat)
  /-- die `d`'s end of its bridge to die `e`, where it is not the fold pan of the two -/
  | bridge (d e : Nat)
  | hubEnd (die : Nat)
  | hub
  | port (p : Nat)
  | msu (bank : Nat)
deriving DecidableEq, Repr

/-- The access kinds of hit records (R388). -/
inductive AccKind where
  | store | atomic | engWrite | finalWrite | load | engRead | brk | host
deriving DecidableEq, Repr

/-- The bytes of one watchpoint that hit (R388): its number, the watched address as given, length, value before and
after. -/
structure WatchVal where
  wp : Nat
  addr : Nat
  len : Nat
  old : DWord
  new : DWord
deriving DecidableEq, Repr

/-- A watchpoint hit on its way to the debug unit (R382, R388). -/
structure Hit where
  sq : Nat
  vals : List WatchVal
  kind : AccKind
  lev : Nat
  ctx : Nat
  vc : Nat
  line : Nat
  lanes : List Nat
  pos : Pos
  /-- instructions issued by each line of the context's cores in the square when the match was performed: virtual
  core, line, count. Skids are counted from it. -/
  counts : List (Nat × Nat × Nat)
deriving DecidableEq, Repr

/-- Where a reply that arrives late is written: the destination field of an issued instruction (R75). -/
structure ReplyTo where
  ctx : Nat
  vc : Nat
  line : Nat
  lanes : List Nat
  regs : List (Nat × List Nat)
  gs : List Nat
  pushes : List Push
  stamp : Nat
deriving DecidableEq, Repr

/-- A definition record on its way to the hub (R210, R282). -/
structure VcReq where
  ctx : Nat
  n : Nat
  recd : BitVec 512
  aligned : Bool
  reply : Option ReplyTo
deriving DecidableEq, Repr

/-- The new frame of a page that moves, and whether management asked for the move (R318, R319). -/
structure PageMove where
  pa : Nat
  asked : Bool
deriving DecidableEq, Repr

/-- What a packet at the host port shows of Ethernet and IP (R371): its VLAN tags, whether it is a fragment, and whether it has IP
options or extension headers. -/
structure Net where
  vlans : List Nat := []
  fragment : Bool := false
  options : Bool := false
deriving DecidableEq, Repr

/-- A host frame (R372): its session, sequence number, acknowledgement and tag, its payload's bytes as they came, and the packet that
carried it (R371). An action's own arguments are what these bytes say. -/
structure Hdr where
  sess : Nat
  seq : Nat
  tag : BitVec 128
  ack : Nat := 0
  bytes : List Byte := []
  net : Net := {}
  udp : Nat := 31640
  /-- its UDP checksum is right -/
  checksum : Bool := true
deriving DecidableEq, Repr

/-- An ARP request or neighbour solicitation, and an echo request (R371): the address it asks for, and its packet. -/
structure Ask where
  addr : Nat
  net : Net := {}
  payload : List Byte := []
deriving DecidableEq, Repr

/-- The memories whose banks are grouped under one symbol code (R390); `which` is the core or the die. -/
inductive BankUnit where
  | lanePrivate | scratchpad | squareMem | market | l2
deriving DecidableEq, Repr

structure BankGroup where
  unit : BankUnit
  which : Nat
  group : Nat
deriving DecidableEq, Repr

/-- States of a Seler port (R364). -/
inductive PortState where
  | down | training | up | half
deriving DecidableEq, Repr

/-- A forced stop's reason, coded as kind of R352. -/
inductive StopKind where
  | deadline | scan | debug
deriving DecidableEq, Repr

/-- What a self-test finds (R399 steps 2 and 3): banks that fail, and units beyond repair, by the masks of R394. -/
structure SelfTest where
  banks : List (BankGroup × Nat) := []
  cores : List Nat := []
  squares : List Nat := []
  dies : List Nat := []
  ports : List Nat := []
  bd : List Nat := []
  lp : List Nat := []
  l2 : List Nat := []
deriving DecidableEq, Repr

/-- Pin straps (R398). -/
structure Straps where
  physel : Nat := 0
  pwrlim : Nat := 0
  bootmd : Nat := 0
  /-- what the self-test of this power-up finds -/
  test : SelfTest := {}
deriving DecidableEq, Repr

/-- One action of the A640: an instruction word or a device event. -/
inductive Instr where
  /-- LONG_LATENCY_RETURN (R107): A long-latency result returns, is written with its flags, and may make a parked or waiting gang eligible. -/
  | longLatencyReturn (r : Result)
  /-- GANG_PROMOTION (R242): A ready gang pending more than 4,096 cycles is promoted into the active set. -/
  | gangPromotion (ctx vc : Nat)
  /-- CHANNEL_PUSH_ARRIVE (R166): Pushed data fills reserved entries of a peer queue, waking a waiting pop. -/
  | channelPushArrive (p : Push)
  /-- STORE_PERFORM (R290): A write or L1 write-back takes effect at its home and enters coherence order. -/
  | storePerform (ctx vc ia : Nat)
  /-- GATEWAY_PAGE_FAULT (R150): A global access faults at a gateway or engine port, is held, and a fault record is written or held. -/
  | gatewayPageFault (n : FaultNote)
  /-- WRITEBACK_FAULT (R401): An L1 write-back faults at the gateway, is held there and writes a lanes-0 record. -/
  | writebackFault (n : FaultNote)
  /-- TRAP_RECORD_ENQUEUE (R341): A trap or debug record enters the context's trap queue when an entry is free. -/
  | trapRecordEnqueue (ctx : Nat)
  /-- PARTIAL_ARRIVE (R251): A partial arrives at or forms in a pan and meets, passes, stays or is held. -/
  | partialArrive (pan : PanId) (p : Partial)
  /-- PAN_HOLD_EXPIRY (R252): A held partial's hold time runs out and it moves to the next pan on its route. -/
  | panHoldExpiry (pan : PanId) (p : Partial)
  /-- CTBM_LEAF_ARRIVE (R259): A ctbm leaf reaches the memory-side unit at its home and pairs, is held or spills. -/
  | ctbmLeafArrive (p : Partial)
  /-- CLOSE_MARKER_ARRIVE (R262): A slot's close marker reaches a site, which passes its held partials and the marker on. -/
  | closeMarkerArrive (ctx slot : Nat) (site : PanId)
  /-- SLOT_RESOLVE (R263): After markers from all routes, the apex or unit gathers brine entries and resolves its trees level by level. -/
  | slotResolve (ctx slot : Nat)
  /-- SLOT_FINAL (R264): Once every finalisation write is performed the slot becomes final and waiting slot.wait returns. -/
  | slotFinal (ctx slot : Nat)
  /-- MMA_PASS_START (R327): A queued pass starts when its engines are free, occupies them and pushes its node into the cell stacks. -/
  | mmaPassStart (ctx vc q : Nat)
  /-- FUSION_WINDOW_EXPIRY (R327): A fusable pass stops waiting for other quarters after 4 cycles. -/
  | fusionWindowExpiry (ctx vc window : Nat)
  /-- DRAIN_SEQ_WRITE (R329): The drain sequencer sends a write when it holds credit for the write's home. -/
  | drainSeqWrite (ctx vc line q : Nat)
  /-- JOB_ELEMENT (R330): An engine reads and writes one element of a job at the homes once its edges allow. -/
  | jobElement (ctx job : Nat)
  /-- JOB_RETIRE (R333): A job whose writes are performed retires, writes home overlapping L1 lines and frees its scoreboard entries. -/
  | jobRetire (ctx job : Nat)
  /-- COLLECTIVE_WINDOW_GRANT (R369): The apex reserves hub pan entries and grants a collective its element window. -/
  | collectiveWindowGrant (ctx job w : Nat)
  /-- COLLECTIVE_ROOT_RETURN (R370): A collective root travels back to each rank and is written at its destination. -/
  | collectiveRootReturn (ctx job elem : Nat) (msg : CollMsg) (flags : Flags)
  /-- CKPT_GRANULE_COPY (R380): The checkpoint engine copies the next granule to the target or as CKDATA frames. -/
  | ckptGranuleCopy (ctx : Nat)
  /-- CKPT_COW_COPY (R380): A write to an uncopied granule stalls while the engine copies that granule first. -/
  | ckptCowCopy (ctx granule : Nat)
  /-- VC_ACCEPT (R282): The hub accepts or refuses a definition record and grants shares. -/
  | vcAccept (r : VcReq)
  /-- VC_MOVE_STEP (R283): A line is moved indivisibly from its old position to its new position. -/
  | vcMoveStep (ctx vcn line : Nat)
  /-- VC_COMMIT (R283): A resize, migration or release commits, freeing given-up shares. -/
  | vcCommit (ctx vcn : Nat)
  /-- PAGE_MIGRATE (R318): The hub copies a migratable page to a new frame and commits the new translation. -/
  | pageMigrate (ctx ia : Nat) (move : PageMove)
  /-- THRASH_THROTTLE_EXPIRY (R319): A page's placement-move throttle period ends and it becomes eligible again. -/
  | thrashThrottleExpiry (ctx ia : Nat)
  /-- LAUNCH (R222): A LAUNCH frame's record is checked and accepted into its queue, and ACCEPT is sent. -/
  | launch (h : Hdr) (queue : Nat) (recd : BitVec 2048)
  /-- LAUNCH_START (R223): The command processor starts the next offered launch, copies its data section and places threads. -/
  | launchStart (queue : Nat) (cores : List Nat)
  /-- UNIT_PLACE (R233): A waiting slice unit or batch is placed once room exists, forming its auto-groups. -/
  | unitPlace (uid : Nat)
  /-- EDGE_SATISFIED (R228): A producer completes and the command processor performs the edge's buffer actions. -/
  | edgeSatisfied (uid edge : Nat)
  /-- LAUNCH_COMPLETE (R238): When all threads exit and auto-groups dissolve, fbuf actions run and COMPL is sent. -/
  | launchComplete (uid : Nat)
  /-- PREEMPT_DELAY_EXPIRY (R223): An offered launch blocked past its class's delay raises pre-emption requests of lower contexts. -/
  | preemptDelayExpiry (queue : Nat)
  /-- PREEMPT_DEADLINE (R347): The pre-emption deadline passes and unreleased cores are stopped and scanned. -/
  | preemptDeadline (ctx : Nat)
  /-- CORE_RELEASE (R348): A core whose threads all exited, yielded or wait is released and its architectural record written. -/
  | coreRelease (ctx vc : Nat)
  /-- FORCED_STOP (R349): A core's clock stops, its L1 and write path drain and its body streams out. -/
  | forcedStop (ctx vc : Nat) (kind : StopKind)
  /-- SCAN_COMPLETE (R349): After acknowledgements and replies are caught the catch tail is appended and the core is idle. -/
  | scanComplete (ctx vc : Nat)
  /-- IMAGE_RESTORE (R355): An image or record is checked and restored onto a core with credits and requests reconciled. -/
  | imageRestore (ctx vc core : Nat)
  /-- CONTEXT_RESUME (R357): The command processor places the context again, restores its cores and lets threads issue. -/
  | contextResume (ctx : Nat) (cores : List Nat)
  /-- CONTEXT_MIGRATE (R14): The scheduler moves a context's virtual cores, rewriting the placement map and starting follow migrations. -/
  | contextMigrate (ctx : Nat) (cores : List Nat)
  /-- WATCHPOINT_HIT (R382): A matching access is performed, the square's context cores stop and hit and skid records are written. -/
  | watchpointHit (hit : Hit)
  /-- HOST_WRITE (R374): A WRITE frame's bytes are performed at their homes and WSTAT is returned. -/
  | hostWrite (h : Hdr) (window offset : Nat) (data : List Byte)
  /-- HOST_READ (R374): A READ frame is served at the homes and answered with DATA. -/
  | hostRead (h : Hdr) (window offset len : Nat)
  /-- LCT_ACK (R373): An ACK frame frees acknowledged frames from the retransmission window. -/
  | lctAck (h : Hdr) (ack : Nat)
  /-- LCT_RETRANSMIT_TIMEOUT (R373): An unacknowledged frame's timeout expires and frames are resent from the oldest. -/
  | lctRetransmitTimeout (sess : Nat)
  /-- CONTEXT_CREATE (R376): MGMT 0x01 creates a context with its core count, quota, page root and vc0. -/
  | contextCreate (h : Hdr) (ctx n quota : Nat) (priv : Bool) (root : Nat) (vc0 : Option (BitVec 512))
  /-- CONTEXT_DESTROY (R376): MGMT 0x02 destroys a context; its launches complete with 0x09 and jobs stop. -/
  | contextDestroy (h : Hdr) (ctx : Nat)
  /-- QUEUE_BIND (R222): MGMT 0x03 binds a queue to a context with a class. -/
  | queueBind (h : Hdr) (queue ctx cls : Nat)
  /-- QUEUE_UNBIND (R222): MGMT 0x03 unbinds a queue with no incomplete launch. -/
  | queueUnbind (h : Hdr) (queue : Nat)
  /-- RANGE_REGISTER_WRITE (R307): MGMT 0x04 checks and writes a range register. -/
  | rangeRegisterWrite (h : Hdr) (ctx k : Nat) (recd : BitVec 256)
  /-- PAGE_MAP (R311): MGMT 0x05 writes a page entry and commits it. -/
  | pageMap (h : Hdr) (ctx level ia : Nat) (entry : DWord)
  /-- PAGE_UNMAP (R311): MGMT 0x06 removes a page entry and commits. -/
  | pageUnmap (h : Hdr) (ctx level ia : Nat)
  /-- PAGE_CHANGE (R312): MGMT 0x07 changes a page entry and commits it in order. -/
  | pageChange (h : Hdr) (ctx level ia : Nat) (entry : DWord)
  /-- WINDOW_OPEN_CLOSE (R374): MGMT 0x08 opens or closes a host window. -/
  | windowOpenClose (h : Hdr) (opn : Bool) (window sess ctx base size : Nat) (rd wr : Bool)
  /-- SESSION_OPEN_CLOSE (R373): MGMT 0x09 opens or closes an LCT session with its key. -/
  | sessionOpenClose (h : Hdr) (opn : Bool) (sess ctx : Nat) (key : BitVec 256)
  /-- FAULT_RESOLVE (R316): MGMT 0x0A resolve answer re-executes the held accesses of a fault record. -/
  | faultResolve (h : Hdr) (die fid : Nat)
  /-- FAULT_FAIL (R316): MGMT 0x0A fail answer traps the parked lanes or retires the job with 0x05. -/
  | faultFail (h : Hdr) (die fid : Nat)
  /-- TRAP_RESUME (R343): MGMT 0x0B resume answer continues trapped lanes past the trapping instruction. -/
  | trapResume (h : Hdr) (ctx tseq : Nat)
  /-- TRAP_RETRY (R343): MGMT 0x0B retry answer re-executes the trapping instruction. -/
  | trapRetry (h : Hdr) (ctx tseq : Nat)
  /-- TRAP_ABANDON (R343): MGMT 0x0B abandon answer exits the trapped threads and fails the launch with 0x08. -/
  | trapAbandon (h : Hdr) (ctx tseq : Nat)
  /-- FABRIC_RECORD_WRITE (R365): MGMT 0x0C writes the device's fabric record, or routes in routed mode. -/
  | fabricRecordWrite (h : Hdr) (recd : BitVec 512) (routes : List (Nat × Nat))
  /-- FABRIC_GROUP_OP (R367): MGMT 0x0D creates a fabric group or binds a member. -/
  | fabricGroupOp (h : Hdr) (create : Bool) (gid ctx dev : Nat)
  /-- PORT_STATUS (R376): MGMT 0x0E reads port status or sets port addresses and VLANs. -/
  | portStatus (h : Hdr) (port : Nat) (set : Option (List Nat × List Nat))
  /-- CUT_MAP_READ (R378): MGMT 0x0F returns the cut map of a context's last cut. -/
  | cutMapRead (h : Hdr) (ctx : Nat)
  /-- DELAY_THRASH_SET (R376): MGMT 0x10 sets a class's pre-emption delay or the thrash parameters. -/
  | delayThrashSet (h : Hdr) (cls delay : Nat) (thrash : Option (Nat × Nat × Nat))
  /-- IMAGE_SUBMIT (R102): MGMT 0x11 has the Odmen loader check a kernel image and return its status and handle. -/
  | imageSubmit (h : Hdr) (ctx va len : Nat)
  /-- IMAGE_RELEASE (R376): MGMT 0x12 releases a kernel image handle. -/
  | imageRelease (h : Hdr) (ctx khnd : Nat)
  /-- QUOTA_SET (R284): MGMT 0x13 sets a context's share quota, starting resizes if lowered. -/
  | quotaSet (h : Hdr) (ctx quota : Nat)
  /-- MARKET_ALLOTMENT_SET (R272): MGMT 0x14 sets or changes a context's market allotment on a die. -/
  | marketAllotmentSet (h : Hdr) (ctx die base size : Nat)
  /-- ARP_REQUEST (R371): An ARP or neighbour discovery request on the host port is answered. -/
  | arpRequest (a : Ask)
  /-- ICMP_ECHO (R371): An ICMP or ICMPv6 echo request is answered. -/
  | icmpEcho (a : Ask)
  /-- FLIT_RETRANSMIT (R364): A flit whose CRC fails is retransmitted from the sender's retry buffer. -/
  | flitRetransmit (port : Nat)
  /-- PORT_STATE_CHANGE (R366): A Seler port changes state and striping uses only ports that are up. -/
  | portStateChange (port : Nat) (state : PortState)
  /-- BANK_MARK_FAILED (R391): A bank exceeding 64 corrections in 1 ms is marked failed and its rebuild starts. -/
  | bankMarkFailed (g : BankGroup) (bank : Nat)
  /-- BANK_REBUILD_ROW (R391): The rebuild walker rebuilds one row of a failed bank into the spare. -/
  | bankRebuildRow (g : BankGroup)
  /-- CLOCK_DROOP (R396): A supply sag moves a die to a slower clock step within 5 ns. -/
  | clockDroop (die tenths : Nat)
  /-- CLOCK_STEP_UP (R396): After 20 µs without sag the die rises one clock step. -/
  | clockStepUp (die : Nat)
  /-- GOVERNOR_ROUND (R397): Every 2 µs the power governor divides budget tokens among matrix engines and Seler ports. -/
  | governorRound (demand : List Nat)
  /-- THERMAL_LIMIT (R397): A sensor past its limit shrinks the token pool and writes a kind 0x09 log entry. -/
  | thermalLimit (die : Nat)
  /-- THERMAL_TRIP (R397): At the trip point the hub asserts THALRM. -/
  | thermalTrip
  /-- CORE_POWER_REMOVE (R397): 10 ms after the trip the hub removes core power and every context is lost. -/
  | corePowerRemove
  /-- POWER_UP (R399): The hub reads straps, self-tests, trains memory, writes the configuration block, draws the key and brings up the host port. -/
  | powerUp (straps : Straps)
  /-- UNASSIGNED_WORD_ISSUE (R84): A gang issues a word that is unassigned, which raises the illegal-instruction trap in the issuing lanes and has no other effect. -/
  | unassignedWordIssue (w : Word)
  /-- PRIORITY_FLOW_CONTROL_FRAME (R371): An IEEE 802.1Qbb priority flow control frame arrives on the host port and pauses or resumes transmission on one of the 8 priorities. -/
  | priorityFlowControlFrame (classes : BitVec 8) (paused : BitVec 8)
  /-- `add.i32` (R108). -/
  | addI32 (s : Bool) (d a b : Fld)
  /-- `sub.i32` (R108). -/
  | subI32 (s : Bool) (d a b : Fld)
  /-- `add.sat.i32` (R108). -/
  | addSatI32 (s : Bool) (d a b : Fld)
  /-- `sub.sat.i32` (R108). -/
  | subSatI32 (s : Bool) (d a b : Fld)
  /-- `add.sat.n32` (R108). -/
  | addSatN32 (s : Bool) (d a b : Fld)
  /-- `sub.sat.n32` (R108). -/
  | subSatN32 (s : Bool) (d a b : Fld)
  /-- `mullo.i32` (R108). -/
  | mulloI32 (s : Bool) (d a b : Fld)
  /-- `mulhi.i32` (R108). -/
  | mulhiI32 (s : Bool) (d a b : Fld)
  /-- `mulhi.n32` (R108). -/
  | mulhiN32 (s : Bool) (d a b : Fld)
  /-- `min.i32` (R108). -/
  | minI32 (s : Bool) (d a b : Fld)
  /-- `max.i32` (R108). -/
  | maxI32 (s : Bool) (d a b : Fld)
  /-- `min.n32` (R108). -/
  | minN32 (s : Bool) (d a b : Fld)
  /-- `max.n32` (R108). -/
  | maxN32 (s : Bool) (d a b : Fld)
  /-- `abs.i32` (R108). -/
  | absI32 (s : Bool) (d a : Fld)
  /-- `neg.i32` (R108). -/
  | negI32 (s : Bool) (d a : Fld)
  /-- `add.i64` (R109). -/
  | addI64 (s : Bool) (d a b : Fld)
  /-- `sub.i64` (R109). -/
  | subI64 (s : Bool) (d a b : Fld)
  /-- `mullo.i64` (R109). -/
  | mulloI64 (s : Bool) (d a b : Fld)
  /-- `mulhi.i64` (R109). -/
  | mulhiI64 (s : Bool) (d a b : Fld)
  /-- `mulhi.n64` (R109). -/
  | mulhiN64 (s : Bool) (d a b : Fld)
  /-- `min.i64` (R109). -/
  | minI64 (s : Bool) (d a b : Fld)
  /-- `max.i64` (R109). -/
  | maxI64 (s : Bool) (d a b : Fld)
  /-- `min.n64` (R109). -/
  | minN64 (s : Bool) (d a b : Fld)
  /-- `max.n64` (R109). -/
  | maxN64 (s : Bool) (d a b : Fld)
  /-- `neg.i64` (R109). -/
  | negI64 (s : Bool) (d a : Fld)
  /-- `abs.i64` (R109). -/
  | absI64 (s : Bool) (d a : Fld)
  /-- `and.b32` (R110). -/
  | andB32 (s : Bool) (d a b : Fld)
  /-- `or.b32` (R110). -/
  | orB32 (s : Bool) (d a b : Fld)
  /-- `xor.b32` (R110). -/
  | xorB32 (s : Bool) (d a b : Fld)
  /-- `andn.b32` (R110). -/
  | andnB32 (s : Bool) (d a b : Fld)
  /-- `orn.b32` (R110). -/
  | ornB32 (s : Bool) (d a b : Fld)
  /-- `xnor.b32` (R110). -/
  | xnorB32 (s : Bool) (d a b : Fld)
  /-- `not.b32` (R110). -/
  | notB32 (s : Bool) (d a : Fld)
  /-- `shl.b32` (R110). -/
  | shlB32 (s : Bool) (d a b : Fld)
  /-- `shr.b32` (R110). -/
  | shrB32 (s : Bool) (d a b : Fld)
  /-- `sar.b32` (R110). -/
  | sarB32 (s : Bool) (d a b : Fld)
  /-- `rotl.b32` (R110). -/
  | rotlB32 (s : Bool) (d a b : Fld)
  /-- `rotr.b32` (R110). -/
  | rotrB32 (s : Bool) (d a b : Fld)
  /-- `mov.b32` (R110). -/
  | movB32 (s : Bool) (d a : Fld)
  /-- `mov.b64` (R110). -/
  | movB64 (s : Bool) (d a : Fld)
  /-- `popc.b32` (R114). -/
  | popcB32 (s : Bool) (d a : Fld)
  /-- `clz.b32` (R114). -/
  | clzB32 (s : Bool) (d a : Fld)
  /-- `ctz.b32` (R114). -/
  | ctzB32 (s : Bool) (d a : Fld)
  /-- `brev.b32` (R114). -/
  | brevB32 (s : Bool) (d a : Fld)
  /-- `bfe.i32` (R115). -/
  | bfeI32 (s : Bool) (d a b : Fld)
  /-- `bfe.n32` (R115). -/
  | bfeN32 (s : Bool) (d a b : Fld)
  /-- `bfi.b32` (R115). -/
  | bfiB32 (s : Bool) (d a b : Fld)
  /-- `bsel.b32` (R116). -/
  | bselB32 (s : Bool) (d a b : Fld)
  /-- `shl.b64` (R111). -/
  | shlB64 (s : Bool) (d a b : Fld)
  /-- `shr.b64` (R111). -/
  | shrB64 (s : Bool) (d a b : Fld)
  /-- `sar.b64` (R111). -/
  | sarB64 (s : Bool) (d a b : Fld)
  /-- `popc.b64` (R114). -/
  | popcB64 (s : Bool) (d a : Fld)
  /-- `clz.b64` (R114). -/
  | clzB64 (s : Bool) (d a : Fld)
  /-- `set.eq.b32` (R117). -/
  | setEqB32 (s : Bool) (d a b : Fld)
  /-- `set.ne.b32` (R117). -/
  | setNeB32 (s : Bool) (d a b : Fld)
  /-- `set.lt.i32` (R117). -/
  | setLtI32 (s : Bool) (d a b : Fld)
  /-- `set.le.i32` (R117). -/
  | setLeI32 (s : Bool) (d a b : Fld)
  /-- `set.lt.n32` (R117). -/
  | setLtN32 (s : Bool) (d a b : Fld)
  /-- `set.le.n32` (R117). -/
  | setLeN32 (s : Bool) (d a b : Fld)
  /-- `set.eq.b64` (R117). -/
  | setEqB64 (s : Bool) (d a b : Fld)
  /-- `set.ne.b64` (R117). -/
  | setNeB64 (s : Bool) (d a b : Fld)
  /-- `set.lt.i64` (R117). -/
  | setLtI64 (s : Bool) (d a b : Fld)
  /-- `set.le.i64` (R117). -/
  | setLeI64 (s : Bool) (d a b : Fld)
  /-- `set.lt.n64` (R117). -/
  | setLtN64 (s : Bool) (d a b : Fld)
  /-- `set.le.n64` (R117). -/
  | setLeN64 (s : Bool) (d a b : Fld)
  /-- `sel.b32` (R117). -/
  | selB32 (s : Bool) (d a b : Fld)
  /-- `sel.b64` (R117). -/
  | selB64 (s : Bool) (d a b : Fld)
  /-- `addi.i32` (R112). -/
  | addiI32 (s : Bool) (d a : Fld) (i : BitVec 11)
  /-- `andi.b32` (R112). -/
  | andiB32 (s : Bool) (d a : Fld) (i : BitVec 11)
  /-- `ori.b32` (R112). -/
  | oriB32 (s : Bool) (d a : Fld) (i : BitVec 11)
  /-- `xori.b32` (R112). -/
  | xoriB32 (s : Bool) (d a : Fld) (i : BitVec 11)
  /-- `shli` (R113). -/
  | shli (s : Bool) (d a : Fld) (w : Bool) (c : BitVec 6)
  /-- `shri` (R113). -/
  | shri (s : Bool) (d a : Fld) (w : Bool) (c : BitVec 6)
  /-- `sari` (R113). -/
  | sari (s : Bool) (d a : Fld) (w : Bool) (c : BitVec 6)
  /-- `rotri` (R113). -/
  | rotri (s : Bool) (d a : Fld) (w : Bool) (c : BitVec 6)
  /-- `and.b64` (R110). -/
  | andB64 (s : Bool) (d a b : Fld)
  /-- `or.b64` (R110). -/
  | orB64 (s : Bool) (d a b : Fld)
  /-- `xor.b64` (R110). -/
  | xorB64 (s : Bool) (d a b : Fld)
  /-- `not.b64` (R110). -/
  | notB64 (s : Bool) (d a : Fld)
  /-- `rotl.b64` (R110). -/
  | rotlB64 (s : Bool) (d a b : Fld)
  /-- `rotr.b64` (R110). -/
  | rotrB64 (s : Bool) (d a b : Fld)
  /-- `movi` (R118). -/
  | movi (s : Bool) (d : Fld) (i : BitVec 18)
  /-- `movhi` (R118). -/
  | movhi (s : Bool) (d : Fld) (i : BitVec 16)
  /-- `movlo` (R118). -/
  | movlo (s : Bool) (d : Fld) (i : BitVec 16)
  /-- `adda.i` (R119). -/
  | addaI (s : Bool) (d a b : Fld)
  /-- `adda.n` (R119). -/
  | addaN (s : Bool) (d a b : Fld)
  /-- `mada.n32` (R119). -/
  | madaN32 (s : Bool) (d a b : Fld)
  /-- `ext.i32` (R119). -/
  | extI32 (s : Bool) (d a : Fld)
  /-- `ext.n32` (R119). -/
  | extN32 (s : Bool) (d a : Fld)
  /-- `trunc.b64` (R119). -/
  | truncB64 (s : Bool) (d a : Fld)
  /-- `srd` (R120). -/
  | srd (s : Bool) (d : Fld) (n : BitVec 8)
  /-- `srd.pos` (R120). -/
  | srdPos (s : Bool) (d : Fld)
  /-- `swr` (R120). -/
  | swr (s : Bool) (a : Fld) (n : BitVec 8)
  /-- `swr_fst` (R120). -/
  | swrFst (s : Bool) (a : Fld)
  /-- `swr_preq` (R218). -/
  | swrPreq (s : Bool) (a : Fld)
  /-- `swr_fltcc` (R218). -/
  | swrFltcc (s : Bool) (a : Fld)
  /-- `fadd.f32` (R121). -/
  | faddF32 (s : Bool) (d a b : Fld) (r : BitVec 2)
  /-- `fsub.f32` (R121). -/
  | fsubF32 (s : Bool) (d a b : Fld) (r : BitVec 2)
  /-- `fmul.f32` (R121). -/
  | fmulF32 (s : Bool) (d a b : Fld) (r : BitVec 2)
  /-- `ffma.f32` (R121). -/
  | ffmaF32 (s : Bool) (d a b : Fld) (r : BitVec 2)
  /-- `fadd.f64` (R121). -/
  | faddF64 (s : Bool) (d a b : Fld) (r : BitVec 2)
  /-- `fsub.f64` (R121). -/
  | fsubF64 (s : Bool) (d a b : Fld) (r : BitVec 2)
  /-- `fmul.f64` (R121). -/
  | fmulF64 (s : Bool) (d a b : Fld) (r : BitVec 2)
  /-- `ffma.f64` (R121). -/
  | ffmaF64 (s : Bool) (d a b : Fld) (r : BitVec 2)
  /-- `fadd.bf16x2` (R121). -/
  | faddBf16x2 (s : Bool) (d a b : Fld) (r : BitVec 2)
  /-- `fsub.bf16x2` (R121). -/
  | fsubBf16x2 (s : Bool) (d a b : Fld) (r : BitVec 2)
  /-- `fmul.bf16x2` (R121). -/
  | fmulBf16x2 (s : Bool) (d a b : Fld) (r : BitVec 2)
  /-- `ffma.bf16x2` (R121). -/
  | ffmaBf16x2 (s : Bool) (d a b : Fld) (r : BitVec 2)
  /-- `fadd.f16x2` (R121). -/
  | faddF16x2 (s : Bool) (d a b : Fld) (r : BitVec 2)
  /-- `fsub.f16x2` (R121). -/
  | fsubF16x2 (s : Bool) (d a b : Fld) (r : BitVec 2)
  /-- `fmul.f16x2` (R121). -/
  | fmulF16x2 (s : Bool) (d a b : Fld) (r : BitVec 2)
  /-- `ffma.f16x2` (R121). -/
  | ffmaF16x2 (s : Bool) (d a b : Fld) (r : BitVec 2)
  /-- `fmin.f32` (R122). -/
  | fminF32 (s : Bool) (d a b : Fld)
  /-- `fmax.f32` (R122). -/
  | fmaxF32 (s : Bool) (d a b : Fld)
  /-- `fabs.f32` (R122). -/
  | fabsF32 (s : Bool) (d a : Fld)
  /-- `fneg.f32` (R122). -/
  | fnegF32 (s : Bool) (d a : Fld)
  /-- `fcpsgn.f32` (R122). -/
  | fcpsgnF32 (s : Bool) (d a b : Fld)
  /-- `fdiv.f32` (R123). -/
  | fdivF32 (s : Bool) (d a b : Fld)
  /-- `fsqrt.f32` (R123). -/
  | fsqrtF32 (s : Bool) (d a : Fld)
  /-- `fset.eq.f32` (R124). -/
  | fsetEqF32 (s : Bool) (d a b : Fld)
  /-- `fset.ne.f32` (R124). -/
  | fsetNeF32 (s : Bool) (d a b : Fld)
  /-- `fset.lt.f32` (R124). -/
  | fsetLtF32 (s : Bool) (d a b : Fld)
  /-- `fset.le.f32` (R124). -/
  | fsetLeF32 (s : Bool) (d a b : Fld)
  /-- `fset.un.f32` (R124). -/
  | fsetUnF32 (s : Bool) (d a b : Fld)
  /-- `fclass.f32` (R125). -/
  | fclassF32 (s : Bool) (d a : Fld)
  /-- `fmin.f64` (R122). -/
  | fminF64 (s : Bool) (d a b : Fld)
  /-- `fmax.f64` (R122). -/
  | fmaxF64 (s : Bool) (d a b : Fld)
  /-- `fabs.f64` (R122). -/
  | fabsF64 (s : Bool) (d a : Fld)
  /-- `fneg.f64` (R122). -/
  | fnegF64 (s : Bool) (d a : Fld)
  /-- `fcpsgn.f64` (R122). -/
  | fcpsgnF64 (s : Bool) (d a b : Fld)
  /-- `fdiv.f64` (R123). -/
  | fdivF64 (s : Bool) (d a b : Fld)
  /-- `fsqrt.f64` (R123). -/
  | fsqrtF64 (s : Bool) (d a : Fld)
  /-- `fset.eq.f64` (R124). -/
  | fsetEqF64 (s : Bool) (d a b : Fld)
  /-- `fset.ne.f64` (R124). -/
  | fsetNeF64 (s : Bool) (d a b : Fld)
  /-- `fset.lt.f64` (R124). -/
  | fsetLtF64 (s : Bool) (d a b : Fld)
  /-- `fset.le.f64` (R124). -/
  | fsetLeF64 (s : Bool) (d a b : Fld)
  /-- `fset.un.f64` (R124). -/
  | fsetUnF64 (s : Bool) (d a b : Fld)
  /-- `fclass.f64` (R125). -/
  | fclassF64 (s : Bool) (d a : Fld)
  /-- `fmin.bf16x2` (R122). -/
  | fminBf16x2 (s : Bool) (d a b : Fld)
  /-- `fmax.bf16x2` (R122). -/
  | fmaxBf16x2 (s : Bool) (d a b : Fld)
  /-- `fabs.bf16x2` (R122). -/
  | fabsBf16x2 (s : Bool) (d a : Fld)
  /-- `fneg.bf16x2` (R122). -/
  | fnegBf16x2 (s : Bool) (d a : Fld)
  /-- `fmin.f16x2` (R122). -/
  | fminF16x2 (s : Bool) (d a b : Fld)
  /-- `fmax.f16x2` (R122). -/
  | fmaxF16x2 (s : Bool) (d a b : Fld)
  /-- `fabs.f16x2` (R122). -/
  | fabsF16x2 (s : Bool) (d a : Fld)
  /-- `fneg.f16x2` (R122). -/
  | fnegF16x2 (s : Bool) (d a : Fld)
  /-- `frcp.f32` (R126). -/
  | frcpF32 (s : Bool) (d a : Fld)
  /-- `frsqrt.f32` (R126). -/
  | frsqrtF32 (s : Bool) (d a : Fld)
  /-- `fexp2.f32` (R126). -/
  | fexp2F32 (s : Bool) (d a : Fld)
  /-- `flog2.f32` (R126). -/
  | flog2F32 (s : Bool) (d a : Fld)
  /-- `fsinpi.f32` (R126). -/
  | fsinpiF32 (s : Bool) (d a : Fld)
  /-- `fcospi.f32` (R126). -/
  | fcospiF32 (s : Bool) (d a : Fld)
  /-- `ftanh.f32` (R126). -/
  | ftanhF32 (s : Bool) (d a : Fld)
  /-- `frcp.f64` (R126). -/
  | frcpF64 (s : Bool) (d a : Fld)
  /-- `frsqrt.f64` (R126). -/
  | frsqrtF64 (s : Bool) (d a : Fld)
  /-- `fexp2.f64` (R126). -/
  | fexp2F64 (s : Bool) (d a : Fld)
  /-- `flog2.f64` (R126). -/
  | flog2F64 (s : Bool) (d a : Fld)
  /-- `cvt.dst.src` (R128). -/
  | cvt (s : Bool) (d a : Fld) (c : BitVec 4) (r : BitVec 2) (t : BitVec 4)
  /-- `cvtp.bf16x2.f32` (R129). -/
  | cvtpBf16x2F32 (s : Bool) (d a b : Fld)
  /-- `cvtp.f16x2.f32` (R129). -/
  | cvtpF16x2F32 (s : Bool) (d a b : Fld)
  /-- `ins.e8` (R129). -/
  | insE8 (s : Bool) (d a b : Fld)
  /-- `ins.e4` (R129). -/
  | insE4 (s : Bool) (d a b : Fld)
  /-- `ext.e8` (R129). -/
  | extE8 (s : Bool) (d a b : Fld)
  /-- `ext.e4` (R129). -/
  | extE4 (s : Bool) (d a b : Fld)
  /-- `cvt.s8.e8m0` (R130). -/
  | cvtS8E8m0 (s : Bool) (d a : Fld)
  /-- `cvt.e8m0.s8` (R130). -/
  | cvtE8m0S8 (s : Bool) (d a : Fld)
  /-- `scl.f32` (R130). -/
  | sclF32 (s : Bool) (d a b : Fld)
  /-- `scl.f64` (R130). -/
  | sclF64 (s : Bool) (d a b : Fld)
  /-- `dp4.i8` (R131). -/
  | dp4I8 (s : Bool) (d a b : Fld)
  /-- `dp4.n8` (R131). -/
  | dp4N8 (s : Bool) (d a b : Fld)
  /-- `dp4.f8e4m3` (R131). -/
  | dp4F8e4m3 (s : Bool) (d a b : Fld)
  /-- `dp4.f8e5m2` (R131). -/
  | dp4F8e5m2 (s : Bool) (d a b : Fld)
  /-- `dp8.i4` (R131). -/
  | dp8I4 (s : Bool) (d a b : Fld)
  /-- `dp8.n4` (R131). -/
  | dp8N4 (s : Bool) (d a b : Fld)
  /-- `dp8.f4e2m1` (R131). -/
  | dp8F4e2m1 (s : Bool) (d a b : Fld)
  /-- `ld.p` (R146). -/
  | ldP (s : Bool) (d a b : Fld) (t : BitVec 3)
  /-- `ld.c` (R146). -/
  | ldC (s : Bool) (d a b : Fld) (t : BitVec 3)
  /-- `st.p` (R146). -/
  | stP (s : Bool) (d a b : Fld) (w : BitVec 3)
  /-- `st.c` (R146). -/
  | stC (s : Bool) (d a b : Fld) (w : BitVec 3)
  /-- `ld.q` (R146). -/
  | ldQ (s : Bool) (d a b : Fld) (t : BitVec 3)
  /-- `ld.m` (R146). -/
  | ldM (s : Bool) (d a b : Fld) (t : BitVec 3)
  /-- `st.q` (R146). -/
  | stQ (s : Bool) (d a b : Fld) (w : BitVec 3)
  /-- `st.m` (R146). -/
  | stM (s : Bool) (d a b : Fld) (w : BitVec 3)
  /-- `ld.g` (R146). -/
  | ldG (s : Bool) (d a b : Fld) (t : BitVec 3)
  /-- `ld.g.nt` (R274). -/
  | ldGNt (s : Bool) (d a b : Fld) (t : BitVec 3)
  /-- `st.g` (R146). -/
  | stG (s : Bool) (d a b : Fld) (w : BitVec 3)
  /-- `st.g.nt` (R274). -/
  | stGNt (s : Bool) (d a b : Fld) (w : BitVec 3)
  /-- `prf.l1` (R152). -/
  | prfL1 (s : Bool) (a b : Fld)
  /-- `prf.l2` (R152). -/
  | prfL2 (s : Bool) (a b : Fld)
  /-- `atom.add` (R155). -/
  | atomAdd (s : Bool) (d a : Fld) (w : BitVec 3) (c : BitVec 4)
  /-- `atom.and` (R155). -/
  | atomAnd (s : Bool) (d a : Fld) (w : BitVec 3) (c : BitVec 4)
  /-- `atom.or` (R155). -/
  | atomOr (s : Bool) (d a : Fld) (w : BitVec 3) (c : BitVec 4)
  /-- `atom.xor` (R155). -/
  | atomXor (s : Bool) (d a : Fld) (w : BitVec 3) (c : BitVec 4)
  /-- `atom.min.i32` (R155). -/
  | atomMinI (s : Bool) (d a : Fld) (w : BitVec 3) (c : BitVec 4)
  /-- `atom.max.i32` (R155). -/
  | atomMaxI (s : Bool) (d a : Fld) (w : BitVec 3) (c : BitVec 4)
  /-- `atom.min.n32` (R155). -/
  | atomMinN (s : Bool) (d a : Fld) (w : BitVec 3) (c : BitVec 4)
  /-- `atom.max.n32` (R155). -/
  | atomMaxN (s : Bool) (d a : Fld) (w : BitVec 3) (c : BitVec 4)
  /-- `atom.exch` (R155). -/
  | atomExch (s : Bool) (d a : Fld) (w : BitVec 3) (c : BitVec 4)
  /-- `atom.cas` (R155). -/
  | atomCas (s : Bool) (d a : Fld) (w : BitVec 3) (c : BitVec 4)
  /-- `red.add` (R154). -/
  | redAdd (s : Bool) (d a : Fld) (w : BitVec 3) (c : BitVec 4)
  /-- `red.and` (R154). -/
  | redAnd (s : Bool) (d a : Fld) (w : BitVec 3) (c : BitVec 4)
  /-- `red.or` (R154). -/
  | redOr (s : Bool) (d a : Fld) (w : BitVec 3) (c : BitVec 4)
  /-- `red.xor` (R154). -/
  | redXor (s : Bool) (d a : Fld) (w : BitVec 3) (c : BitVec 4)
  /-- `red.min.i32` (R154). -/
  | redMinI (s : Bool) (d a : Fld) (w : BitVec 3) (c : BitVec 4)
  /-- `red.max.i32` (R154). -/
  | redMaxI (s : Bool) (d a : Fld) (w : BitVec 3) (c : BitVec 4)
  /-- `red.min.n32` (R154). -/
  | redMinN (s : Bool) (d a : Fld) (w : BitVec 3) (c : BitVec 4)
  /-- `red.max.n32` (R154). -/
  | redMaxN (s : Bool) (d a : Fld) (w : BitVec 3) (c : BitVec 4)
  /-- `fence.acq` (R158). -/
  | fenceAcq (s : Bool) (c : BitVec 4)
  /-- `fence.rel` (R159). -/
  | fenceRel (s : Bool) (c : BitVec 4)
  /-- `fence.ar` (R160). -/
  | fenceAr (s : Bool) (c : BitVec 4)
  /-- `fence.sc` (R299). -/
  | fenceSc (s : Bool) (c : BitVec 4)
  /-- `scset` (R161). -/
  | scset (s : Bool) (a : Fld) (c : BitVec 4)
  /-- `scinv` (R162). -/
  | scinv (s : Bool) (c : BitVec 4)
  /-- `scqry` (R162). -/
  | scqry (s : Bool) (d : Fld) (c : BitVec 4)
  /-- `scmem` (R162). -/
  | scmem (s : Bool) (d : Fld) (c : BitVec 4)
  /-- `ctb` (R189). -/
  | ctb (s : Bool) (d a b : Fld) (f : BitVec 4)
  /-- `ctbn` (R190). -/
  | ctbn (s : Bool) (d a : Fld) (f : BitVec 4)
  /-- `ctbm` (R191). -/
  | ctbm (s : Bool) (d a b : Fld) (f : BitVec 4)
  /-- `slot.open` (R188). -/
  | slotOpen (s : Bool) (d a b : Fld)
  /-- `slot.close` (R192). -/
  | slotClose (s : Bool) (d b : Fld)
  /-- `slot.wait` (R193). -/
  | slotWait (s : Bool) (d b : Fld)
  /-- `slot.stat` (R193). -/
  | slotStat (s : Bool) (d b : Fld)
  /-- `opr.def` (R172). -/
  | oprDef (s : Bool) (a : Fld) (n : BitVec 4)
  /-- `opr.rel` (R173). -/
  | oprRel (s : Bool) (n : BitVec 4)
  /-- `opr.qry` (R173). -/
  | oprQry (s : Bool) (d : Fld) (n : BitVec 4)
  /-- `stp` (R174). -/
  | stp (s : Bool) (d a : Fld) (n : BitVec 4)
  /-- `stp.sc` (R174). -/
  | stpSc (s : Bool) (d a : Fld) (n : BitVec 4)
  /-- `ldp` (R174). -/
  | ldp (s : Bool) (d a : Fld) (n : BitVec 4)
  /-- `ldp.sc` (R174). -/
  | ldpSc (s : Bool) (d a : Fld) (n : BitVec 4)
  /-- `mma` (R176). -/
  | mma (s : Bool) (t : BitVec 4) (g : BitVec 3) (x y p : BitVec 4)
  /-- `acc.clr` (R181). -/
  | accClr (s : Bool) (t : BitVec 4)
  /-- `acc.rd` (R182). -/
  | accRd (s : Bool) (d a : Fld) (t : BitVec 4)
  /-- `drain.F` (R183). -/
  | drain (s : Bool) (a : Fld) (t f : BitVec 4)
  /-- `drain.F.mxL` (R184). -/
  | drainMx (s : Bool) (d a : Fld) (m : BitVec 3) (t f : BitVec 4)
  /-- `cpy` (R201). -/
  | cpy (s : Bool) (d a : Fld)
  /-- `cpyc` (R202). -/
  | cpyc (s : Bool) (d a : Fld)
  /-- `chain` (R205). -/
  | chain (s : Bool) (d a : Fld)
  /-- `cpyw` (R206). -/
  | cpyw (s : Bool) (d a : Fld)
  /-- `ch.bind` (R164). -/
  | chBind (s : Bool) (a : Fld) (k : BitVec 3)
  /-- `ch.free` (R165). -/
  | chFree (s : Bool) (k : BitVec 3)
  /-- `ch.cnt` (R165). -/
  | chCnt (s : Bool) (d : Fld) (k : BitVec 3)
  /-- `rng` (R208). -/
  | rng (s : Bool) (d a b : Fld)
  /-- `rng.reg` (R209). -/
  | rngReg (s : Bool) (d a : Fld)
  /-- `rng.unreg` (R209). -/
  | rngUnreg (s : Bool) (d a : Fld)
  /-- `vcdef` (R210). -/
  | vcdef (s : Bool) (d a : Fld) (n : BitVec 3)
  /-- `vcqry` (R211). -/
  | vcqry (s : Bool) (d : Fld) (n : BitVec 3)
  /-- `ckcut` (R212). -/
  | ckcut (s : Bool) (d a : Fld)
  /-- `bnz` (R133). -/
  | bnz (s : Bool) (d : Fld) (o : BitVec 18)
  /-- `bz` (R133). -/
  | bz (s : Bool) (d : Fld) (o : BitVec 18)
  /-- `call` (R134). -/
  | call (s : Bool) (d : Fld) (o : BitVec 18)
  /-- `jmpi` (R135). -/
  | jmpi (s : Bool) (a : Fld)
  /-- `calli` (R135). -/
  | calli (s : Bool) (d a : Fld)
  /-- `ret` (R135). -/
  | ret (s : Bool) (a : Fld)
  /-- `exit` (R136). -/
  | exit (s : Bool)
  /-- `ychk` (R138). -/
  | ychk (s : Bool)
  /-- `yield` (R139). -/
  | yield (s : Bool)
  /-- `win` (R137). -/
  | win (s : Bool) (b : Fld)
  /-- `gnew` (R141). -/
  | gnew (s : Bool) (d a : Fld) (m : Bool)
  /-- `join` (R142). -/
  | join (s : Bool) (a : Fld)
  /-- `leave` (R143). -/
  | leave (s : Bool)
  /-- `bar` (R144). -/
  | bar (s : Bool)
  /-- `trap` (R213). -/
  | trap (s : Bool) (n : Fld)
  /-- `brk` (R213). -/
  | brk (s : Bool)
  /-- `nop` (R213). -/
  | nop (s : Bool)
  /-- `flt.replay` (R214). -/
  | fltReplay (s : Bool) (a : Fld)
  /-- `scan` (R215). -/
  | scanStop (s : Bool) (d a b : Fld)
  /-- `scan` (R215). -/
  | scanRestore (s : Bool) (d a b : Fld)
  /-- `scan` (R215). -/
  | scanRestart (s : Bool) (d a b : Fld)
  /-- `wpset` (R216). -/
  | wpset (s : Bool) (d a b : Fld)
  /-- `wpclr` (R216). -/
  | wpclr (s : Bool) (b : Fld)
  /-- `step` (R217). -/
  | step (s : Bool) (d a : Fld)
  /-- `dpair` (R79). -/
  | dpair (t u : Bool) (e f : BitVec 10)
deriving DecidableEq, Repr

end Sys2Proof
end

