-- ==== Sys2Proof/WellFormed.lean ====
section
/-!
DEFINITION. Which instructions are assigned encodings: the operand checks of R22, R25, R69, R70 and the
"Assigned" and "Unassigned" columns of R85 to R94. `Instr.ops` lists the register operands in the order in
which channels are popped, a, b, then d (R71).
-/
namespace Sys2Proof

/-- How an operand field is used (R69): `dstVG` and `srcDst` must name a v or g register. -/
inductive Use where
  | src | dst | dstVG | srcDst | srcDstEven
deriving DecidableEq, Repr

/-- One register operand: its use, its field and its width in 32-bit words (R70). -/
structure OpSpec where
  use : Use
  fld : Fld
  words : Nat
deriving DecidableEq, Repr

/-- What a register operand field names (R25). -/
inductive RegName where
  | v (i : Nat) | g (k : Nat) | pk (k : Nat) | ch (k : Nat)
deriving DecidableEq, Repr

/-- The decoding of a register operand field (R25). -/
def regName (f : Fld) : RegName :=
  let n := f.toNat
  if n < 104 then .v n else if n < 112 then .g (n - 104) else if n < 120 then .pk (n - 112) else .ch (n - 120)

/-- A name can hold an operand of so many words (R22, R70). -/
def RegName.holds : RegName → Nat → Bool
  | .v i, n => i % n == 0
  | .g k, n => n == 1 || (n == 2 && k % 2 == 0)
  | .pk _, n => n ≤ 2
  | .ch _, n => n ≤ 2

/-- The operand check of one field (R25, R69, R70, R154). -/
def OpSpec.ok (o : OpSpec) : Bool :=
  let r := regName o.fld
  r.holds o.words &&
  match o.use, r with
  | .src, _ => true
  | .dst, .pk _ => false
  | .dst, _ => true
  | .dstVG, .v _ | .dstVG, .g _ | .srcDst, .v _ | .srcDst, .g _ | .srcDstEven, .v _ => true
  | .srcDstEven, .g k => k % 2 == 0
  | _, _ => false

/-- Registers of a format's operand (R82): 64-bit formats take a pair. -/
def fmtWords (c : BitVec 4) : Nat :=
  if c = 0#4 || c = 9#4 || c = 12#4 || c = 13#4 then 2 else 1

/-- Registers of a load's or store's data (R88). -/
def ldWords (t : BitVec 3) : Nat := if t = 5#3 then 2 else if t = 6#3 then 4 else 1

/-- Registers of an atomic's operand and of its address, by b[6:4] (R89). -/
def atomWords (w : BitVec 3) : Nat := if w.getLsbD 0 then 2 else 1
def atomAddrWords (w : BitVec 3) : Nat := if w.toNat < 2 then 2 else 1

/-- The special registers that can be read: those of R41 and R218. -/
def readableSreg (n : BitVec 8) : Bool := n.toNat < 0x0E || (0x40 ≤ n.toNat && n.toNat ≤ 0x4C)
/-- The special registers that are RW or W1C (R41, R218). -/
def writableSreg (n : BitVec 8) : Bool := n.toNat == 0x08 || (0x40 ≤ n.toNat && n.toNat ≤ 0x46)

/-- The writable special registers that have a row of their own in the opcode table: fst, preq and fltcc. -/
def ownRowSreg (n : BitVec 8) : Bool := n == 0x08#8 || n == 0x41#8 || n == 0x45#8

/-- An integer format code (R82). -/
def isIntFmt (c : BitVec 4) : Bool := 10 ≤ c.toNat && c.toNat ≤ 13
/-- The conversions that R87 assigns. -/
def cvtOk (src dst : BitVec 4) : Bool := src.toNat < 14 && dst.toNat < 14 && !(isIntFmt src && isIntFmt dst)
/-- The store widths that R88 assigns. -/
def storeCode (w : BitVec 3) : Bool := !(w == 1#3 || w == 3#3 || w == 7#3)
/-- The source and accumulate format codes of contributes (R90, R186). -/
def contribFmt (f : BitVec 4) : Bool := f.toNat < 4 || (9 ≤ f.toNat && f.toNat < 14)

/-- The register operands of an instruction, in pop order (R71). -/
def Instr.ops : Instr → List OpSpec
  | .addI32 _ d a b => [⟨.src, a, 1⟩, ⟨.src, b, 1⟩, ⟨.dst, d, 1⟩]
  | .subI32 _ d a b => [⟨.src, a, 1⟩, ⟨.src, b, 1⟩, ⟨.dst, d, 1⟩]
  | .addSatI32 _ d a b => [⟨.src, a, 1⟩, ⟨.src, b, 1⟩, ⟨.dst, d, 1⟩]
  | .subSatI32 _ d a b => [⟨.src, a, 1⟩, ⟨.src, b, 1⟩, ⟨.dst, d, 1⟩]
  | .addSatN32 _ d a b => [⟨.src, a, 1⟩, ⟨.src, b, 1⟩, ⟨.dst, d, 1⟩]
  | .subSatN32 _ d a b => [⟨.src, a, 1⟩, ⟨.src, b, 1⟩, ⟨.dst, d, 1⟩]
  | .mulloI32 _ d a b => [⟨.src, a, 1⟩, ⟨.src, b, 1⟩, ⟨.dst, d, 1⟩]
  | .mulhiI32 _ d a b => [⟨.src, a, 1⟩, ⟨.src, b, 1⟩, ⟨.dst, d, 1⟩]
  | .mulhiN32 _ d a b => [⟨.src, a, 1⟩, ⟨.src, b, 1⟩, ⟨.dst, d, 1⟩]
  | .minI32 _ d a b => [⟨.src, a, 1⟩, ⟨.src, b, 1⟩, ⟨.dst, d, 1⟩]
  | .maxI32 _ d a b => [⟨.src, a, 1⟩, ⟨.src, b, 1⟩, ⟨.dst, d, 1⟩]
  | .minN32 _ d a b => [⟨.src, a, 1⟩, ⟨.src, b, 1⟩, ⟨.dst, d, 1⟩]
  | .maxN32 _ d a b => [⟨.src, a, 1⟩, ⟨.src, b, 1⟩, ⟨.dst, d, 1⟩]
  | .absI32 _ d a => [⟨.src, a, 1⟩, ⟨.dst, d, 1⟩]
  | .negI32 _ d a => [⟨.src, a, 1⟩, ⟨.dst, d, 1⟩]
  | .addI64 _ d a b => [⟨.src, a, 2⟩, ⟨.src, b, 2⟩, ⟨.dst, d, 2⟩]
  | .subI64 _ d a b => [⟨.src, a, 2⟩, ⟨.src, b, 2⟩, ⟨.dst, d, 2⟩]
  | .mulloI64 _ d a b => [⟨.src, a, 2⟩, ⟨.src, b, 2⟩, ⟨.dst, d, 2⟩]
  | .mulhiI64 _ d a b => [⟨.src, a, 2⟩, ⟨.src, b, 2⟩, ⟨.dst, d, 2⟩]
  | .mulhiN64 _ d a b => [⟨.src, a, 2⟩, ⟨.src, b, 2⟩, ⟨.dst, d, 2⟩]
  | .minI64 _ d a b => [⟨.src, a, 2⟩, ⟨.src, b, 2⟩, ⟨.dst, d, 2⟩]
  | .maxI64 _ d a b => [⟨.src, a, 2⟩, ⟨.src, b, 2⟩, ⟨.dst, d, 2⟩]
  | .minN64 _ d a b => [⟨.src, a, 2⟩, ⟨.src, b, 2⟩, ⟨.dst, d, 2⟩]
  | .maxN64 _ d a b => [⟨.src, a, 2⟩, ⟨.src, b, 2⟩, ⟨.dst, d, 2⟩]
  | .negI64 _ d a => [⟨.src, a, 2⟩, ⟨.dst, d, 2⟩]
  | .absI64 _ d a => [⟨.src, a, 2⟩, ⟨.dst, d, 2⟩]
  | .andB32 _ d a b => [⟨.src, a, 1⟩, ⟨.src, b, 1⟩, ⟨.dst, d, 1⟩]
  | .orB32 _ d a b => [⟨.src, a, 1⟩, ⟨.src, b, 1⟩, ⟨.dst, d, 1⟩]
  | .xorB32 _ d a b => [⟨.src, a, 1⟩, ⟨.src, b, 1⟩, ⟨.dst, d, 1⟩]
  | .andnB32 _ d a b => [⟨.src, a, 1⟩, ⟨.src, b, 1⟩, ⟨.dst, d, 1⟩]
  | .ornB32 _ d a b => [⟨.src, a, 1⟩, ⟨.src, b, 1⟩, ⟨.dst, d, 1⟩]
  | .xnorB32 _ d a b => [⟨.src, a, 1⟩, ⟨.src, b, 1⟩, ⟨.dst, d, 1⟩]
  | .notB32 _ d a => [⟨.src, a, 1⟩, ⟨.dst, d, 1⟩]
  | .shlB32 _ d a b => [⟨.src, a, 1⟩, ⟨.src, b, 1⟩, ⟨.dst, d, 1⟩]
  | .shrB32 _ d a b => [⟨.src, a, 1⟩, ⟨.src, b, 1⟩, ⟨.dst, d, 1⟩]
  | .sarB32 _ d a b => [⟨.src, a, 1⟩, ⟨.src, b, 1⟩, ⟨.dst, d, 1⟩]
  | .rotlB32 _ d a b => [⟨.src, a, 1⟩, ⟨.src, b, 1⟩, ⟨.dst, d, 1⟩]
  | .rotrB32 _ d a b => [⟨.src, a, 1⟩, ⟨.src, b, 1⟩, ⟨.dst, d, 1⟩]
  | .movB32 _ d a => [⟨.src, a, 1⟩, ⟨.dst, d, 1⟩]
  | .movB64 _ d a => [⟨.src, a, 2⟩, ⟨.dst, d, 2⟩]
  | .popcB32 _ d a => [⟨.src, a, 1⟩, ⟨.dst, d, 1⟩]
  | .clzB32 _ d a => [⟨.src, a, 1⟩, ⟨.dst, d, 1⟩]
  | .ctzB32 _ d a => [⟨.src, a, 1⟩, ⟨.dst, d, 1⟩]
  | .brevB32 _ d a => [⟨.src, a, 1⟩, ⟨.dst, d, 1⟩]
  | .bfeI32 _ d a b => [⟨.src, a, 1⟩, ⟨.src, b, 1⟩, ⟨.dst, d, 1⟩]
  | .bfeN32 _ d a b => [⟨.src, a, 1⟩, ⟨.src, b, 1⟩, ⟨.dst, d, 1⟩]
  | .bfiB32 _ d a b => [⟨.src, a, 1⟩, ⟨.src, b, 1⟩, ⟨.srcDst, d, 1⟩]
  | .bselB32 _ d a b => [⟨.src, a, 1⟩, ⟨.src, b, 1⟩, ⟨.dst, d, 1⟩]
  | .shlB64 _ d a b => [⟨.src, a, 2⟩, ⟨.src, b, 1⟩, ⟨.dst, d, 2⟩]
  | .shrB64 _ d a b => [⟨.src, a, 2⟩, ⟨.src, b, 1⟩, ⟨.dst, d, 2⟩]
  | .sarB64 _ d a b => [⟨.src, a, 2⟩, ⟨.src, b, 1⟩, ⟨.dst, d, 2⟩]
  | .popcB64 _ d a => [⟨.src, a, 2⟩, ⟨.dst, d, 1⟩]
  | .clzB64 _ d a => [⟨.src, a, 2⟩, ⟨.dst, d, 1⟩]
  | .setEqB32 _ d a b => [⟨.src, a, 1⟩, ⟨.src, b, 1⟩, ⟨.dst, d, 1⟩]
  | .setNeB32 _ d a b => [⟨.src, a, 1⟩, ⟨.src, b, 1⟩, ⟨.dst, d, 1⟩]
  | .setLtI32 _ d a b => [⟨.src, a, 1⟩, ⟨.src, b, 1⟩, ⟨.dst, d, 1⟩]
  | .setLeI32 _ d a b => [⟨.src, a, 1⟩, ⟨.src, b, 1⟩, ⟨.dst, d, 1⟩]
  | .setLtN32 _ d a b => [⟨.src, a, 1⟩, ⟨.src, b, 1⟩, ⟨.dst, d, 1⟩]
  | .setLeN32 _ d a b => [⟨.src, a, 1⟩, ⟨.src, b, 1⟩, ⟨.dst, d, 1⟩]
  | .setEqB64 _ d a b => [⟨.src, a, 2⟩, ⟨.src, b, 2⟩, ⟨.dst, d, 1⟩]
  | .setNeB64 _ d a b => [⟨.src, a, 2⟩, ⟨.src, b, 2⟩, ⟨.dst, d, 1⟩]
  | .setLtI64 _ d a b => [⟨.src, a, 2⟩, ⟨.src, b, 2⟩, ⟨.dst, d, 1⟩]
  | .setLeI64 _ d a b => [⟨.src, a, 2⟩, ⟨.src, b, 2⟩, ⟨.dst, d, 1⟩]
  | .setLtN64 _ d a b => [⟨.src, a, 2⟩, ⟨.src, b, 2⟩, ⟨.dst, d, 1⟩]
  | .setLeN64 _ d a b => [⟨.src, a, 2⟩, ⟨.src, b, 2⟩, ⟨.dst, d, 1⟩]
  | .selB32 _ d a b => [⟨.src, a, 1⟩, ⟨.src, b, 1⟩, ⟨.srcDst, d, 1⟩]
  | .selB64 _ d a b => [⟨.src, a, 2⟩, ⟨.src, b, 2⟩, ⟨.srcDst, d, 2⟩]
  | .addiI32 _ d a _ => [⟨.src, a, 1⟩, ⟨.dst, d, 1⟩]
  | .andiB32 _ d a _ => [⟨.src, a, 1⟩, ⟨.dst, d, 1⟩]
  | .oriB32 _ d a _ => [⟨.src, a, 1⟩, ⟨.dst, d, 1⟩]
  | .xoriB32 _ d a _ => [⟨.src, a, 1⟩, ⟨.dst, d, 1⟩]
  | .shli _ d a w _ => [⟨.src, a, (if w then 2 else 1)⟩, ⟨.dst, d, (if w then 2 else 1)⟩]
  | .shri _ d a w _ => [⟨.src, a, (if w then 2 else 1)⟩, ⟨.dst, d, (if w then 2 else 1)⟩]
  | .sari _ d a w _ => [⟨.src, a, (if w then 2 else 1)⟩, ⟨.dst, d, (if w then 2 else 1)⟩]
  | .rotri _ d a w _ => [⟨.src, a, (if w then 2 else 1)⟩, ⟨.dst, d, (if w then 2 else 1)⟩]
  | .andB64 _ d a b => [⟨.src, a, 2⟩, ⟨.src, b, 2⟩, ⟨.dst, d, 2⟩]
  | .orB64 _ d a b => [⟨.src, a, 2⟩, ⟨.src, b, 2⟩, ⟨.dst, d, 2⟩]
  | .xorB64 _ d a b => [⟨.src, a, 2⟩, ⟨.src, b, 2⟩, ⟨.dst, d, 2⟩]
  | .notB64 _ d a => [⟨.src, a, 2⟩, ⟨.dst, d, 2⟩]
  | .rotlB64 _ d a b => [⟨.src, a, 2⟩, ⟨.src, b, 1⟩, ⟨.dst, d, 2⟩]
  | .rotrB64 _ d a b => [⟨.src, a, 2⟩, ⟨.src, b, 1⟩, ⟨.dst, d, 2⟩]
  | .movi _ d _ => [⟨.dst, d, 1⟩]
  | .movhi _ d _ => [⟨.dst, d, 1⟩]
  | .movlo _ d _ => [⟨.srcDst, d, 1⟩]
  | .addaI _ d a b => [⟨.src, a, 2⟩, ⟨.src, b, 1⟩, ⟨.dst, d, 2⟩]
  | .addaN _ d a b => [⟨.src, a, 2⟩, ⟨.src, b, 1⟩, ⟨.dst, d, 2⟩]
  | .madaN32 _ d a b => [⟨.src, a, 1⟩, ⟨.src, b, 1⟩, ⟨.srcDst, d, 2⟩]
  | .extI32 _ d a => [⟨.src, a, 1⟩, ⟨.dst, d, 2⟩]
  | .extN32 _ d a => [⟨.src, a, 1⟩, ⟨.dst, d, 2⟩]
  | .truncB64 _ d a => [⟨.src, a, 2⟩, ⟨.dst, d, 1⟩]
  | .srd _ d _ => [⟨.dst, d, 1⟩]
  | .srdPos _ d => [⟨.dst, d, 1⟩]
  | .swr _ a _ => [⟨.src, a, 1⟩]
  | .swrFst _ a => [⟨.src, a, 1⟩]
  | .swrPreq _ a => [⟨.src, a, 1⟩]
  | .swrFltcc _ a => [⟨.src, a, 1⟩]
  | .faddF32 _ d a b _ => [⟨.src, a, 1⟩, ⟨.src, b, 1⟩, ⟨.dst, d, 1⟩]
  | .fsubF32 _ d a b _ => [⟨.src, a, 1⟩, ⟨.src, b, 1⟩, ⟨.dst, d, 1⟩]
  | .fmulF32 _ d a b _ => [⟨.src, a, 1⟩, ⟨.src, b, 1⟩, ⟨.dst, d, 1⟩]
  | .ffmaF32 _ d a b _ => [⟨.src, a, 1⟩, ⟨.src, b, 1⟩, ⟨.srcDst, d, 1⟩]
  | .faddF64 _ d a b _ => [⟨.src, a, 2⟩, ⟨.src, b, 2⟩, ⟨.dst, d, 2⟩]
  | .fsubF64 _ d a b _ => [⟨.src, a, 2⟩, ⟨.src, b, 2⟩, ⟨.dst, d, 2⟩]
  | .fmulF64 _ d a b _ => [⟨.src, a, 2⟩, ⟨.src, b, 2⟩, ⟨.dst, d, 2⟩]
  | .ffmaF64 _ d a b _ => [⟨.src, a, 2⟩, ⟨.src, b, 2⟩, ⟨.srcDst, d, 2⟩]
  | .faddBf16x2 _ d a b _ => [⟨.src, a, 1⟩, ⟨.src, b, 1⟩, ⟨.dst, d, 1⟩]
  | .fsubBf16x2 _ d a b _ => [⟨.src, a, 1⟩, ⟨.src, b, 1⟩, ⟨.dst, d, 1⟩]
  | .fmulBf16x2 _ d a b _ => [⟨.src, a, 1⟩, ⟨.src, b, 1⟩, ⟨.dst, d, 1⟩]
  | .ffmaBf16x2 _ d a b _ => [⟨.src, a, 1⟩, ⟨.src, b, 1⟩, ⟨.srcDst, d, 1⟩]
  | .faddF16x2 _ d a b _ => [⟨.src, a, 1⟩, ⟨.src, b, 1⟩, ⟨.dst, d, 1⟩]
  | .fsubF16x2 _ d a b _ => [⟨.src, a, 1⟩, ⟨.src, b, 1⟩, ⟨.dst, d, 1⟩]
  | .fmulF16x2 _ d a b _ => [⟨.src, a, 1⟩, ⟨.src, b, 1⟩, ⟨.dst, d, 1⟩]
  | .ffmaF16x2 _ d a b _ => [⟨.src, a, 1⟩, ⟨.src, b, 1⟩, ⟨.srcDst, d, 1⟩]
  | .fminF32 _ d a b => [⟨.src, a, 1⟩, ⟨.src, b, 1⟩, ⟨.dst, d, 1⟩]
  | .fmaxF32 _ d a b => [⟨.src, a, 1⟩, ⟨.src, b, 1⟩, ⟨.dst, d, 1⟩]
  | .fabsF32 _ d a => [⟨.src, a, 1⟩, ⟨.dst, d, 1⟩]
  | .fnegF32 _ d a => [⟨.src, a, 1⟩, ⟨.dst, d, 1⟩]
  | .fcpsgnF32 _ d a b => [⟨.src, a, 1⟩, ⟨.src, b, 1⟩, ⟨.dst, d, 1⟩]
  | .fdivF32 _ d a b => [⟨.src, a, 1⟩, ⟨.src, b, 1⟩, ⟨.dst, d, 1⟩]
  | .fsqrtF32 _ d a => [⟨.src, a, 1⟩, ⟨.dst, d, 1⟩]
  | .fsetEqF32 _ d a b => [⟨.src, a, 1⟩, ⟨.src, b, 1⟩, ⟨.dst, d, 1⟩]
  | .fsetNeF32 _ d a b => [⟨.src, a, 1⟩, ⟨.src, b, 1⟩, ⟨.dst, d, 1⟩]
  | .fsetLtF32 _ d a b => [⟨.src, a, 1⟩, ⟨.src, b, 1⟩, ⟨.dst, d, 1⟩]
  | .fsetLeF32 _ d a b => [⟨.src, a, 1⟩, ⟨.src, b, 1⟩, ⟨.dst, d, 1⟩]
  | .fsetUnF32 _ d a b => [⟨.src, a, 1⟩, ⟨.src, b, 1⟩, ⟨.dst, d, 1⟩]
  | .fclassF32 _ d a => [⟨.src, a, 1⟩, ⟨.dst, d, 1⟩]
  | .fminF64 _ d a b => [⟨.src, a, 2⟩, ⟨.src, b, 2⟩, ⟨.dst, d, 2⟩]
  | .fmaxF64 _ d a b => [⟨.src, a, 2⟩, ⟨.src, b, 2⟩, ⟨.dst, d, 2⟩]
  | .fabsF64 _ d a => [⟨.src, a, 2⟩, ⟨.dst, d, 2⟩]
  | .fnegF64 _ d a => [⟨.src, a, 2⟩, ⟨.dst, d, 2⟩]
  | .fcpsgnF64 _ d a b => [⟨.src, a, 2⟩, ⟨.src, b, 2⟩, ⟨.dst, d, 2⟩]
  | .fdivF64 _ d a b => [⟨.src, a, 2⟩, ⟨.src, b, 2⟩, ⟨.dst, d, 2⟩]
  | .fsqrtF64 _ d a => [⟨.src, a, 2⟩, ⟨.dst, d, 2⟩]
  | .fsetEqF64 _ d a b => [⟨.src, a, 2⟩, ⟨.src, b, 2⟩, ⟨.dst, d, 1⟩]
  | .fsetNeF64 _ d a b => [⟨.src, a, 2⟩, ⟨.src, b, 2⟩, ⟨.dst, d, 1⟩]
  | .fsetLtF64 _ d a b => [⟨.src, a, 2⟩, ⟨.src, b, 2⟩, ⟨.dst, d, 1⟩]
  | .fsetLeF64 _ d a b => [⟨.src, a, 2⟩, ⟨.src, b, 2⟩, ⟨.dst, d, 1⟩]
  | .fsetUnF64 _ d a b => [⟨.src, a, 2⟩, ⟨.src, b, 2⟩, ⟨.dst, d, 1⟩]
  | .fclassF64 _ d a => [⟨.src, a, 2⟩, ⟨.dst, d, 1⟩]
  | .fminBf16x2 _ d a b => [⟨.src, a, 1⟩, ⟨.src, b, 1⟩, ⟨.dst, d, 1⟩]
  | .fmaxBf16x2 _ d a b => [⟨.src, a, 1⟩, ⟨.src, b, 1⟩, ⟨.dst, d, 1⟩]
  | .fabsBf16x2 _ d a => [⟨.src, a, 1⟩, ⟨.dst, d, 1⟩]
  | .fnegBf16x2 _ d a => [⟨.src, a, 1⟩, ⟨.dst, d, 1⟩]
  | .fminF16x2 _ d a b => [⟨.src, a, 1⟩, ⟨.src, b, 1⟩, ⟨.dst, d, 1⟩]
  | .fmaxF16x2 _ d a b => [⟨.src, a, 1⟩, ⟨.src, b, 1⟩, ⟨.dst, d, 1⟩]
  | .fabsF16x2 _ d a => [⟨.src, a, 1⟩, ⟨.dst, d, 1⟩]
  | .fnegF16x2 _ d a => [⟨.src, a, 1⟩, ⟨.dst, d, 1⟩]
  | .frcpF32 _ d a => [⟨.src, a, 1⟩, ⟨.dst, d, 1⟩]
  | .frsqrtF32 _ d a => [⟨.src, a, 1⟩, ⟨.dst, d, 1⟩]
  | .fexp2F32 _ d a => [⟨.src, a, 1⟩, ⟨.dst, d, 1⟩]
  | .flog2F32 _ d a => [⟨.src, a, 1⟩, ⟨.dst, d, 1⟩]
  | .fsinpiF32 _ d a => [⟨.src, a, 1⟩, ⟨.dst, d, 1⟩]
  | .fcospiF32 _ d a => [⟨.src, a, 1⟩, ⟨.dst, d, 1⟩]
  | .ftanhF32 _ d a => [⟨.src, a, 1⟩, ⟨.dst, d, 1⟩]
  | .frcpF64 _ d a => [⟨.src, a, 2⟩, ⟨.dst, d, 2⟩]
  | .frsqrtF64 _ d a => [⟨.src, a, 2⟩, ⟨.dst, d, 2⟩]
  | .fexp2F64 _ d a => [⟨.src, a, 2⟩, ⟨.dst, d, 2⟩]
  | .flog2F64 _ d a => [⟨.src, a, 2⟩, ⟨.dst, d, 2⟩]
  | .cvt _ d a c _ t => [⟨.src, a, (fmtWords c)⟩, ⟨.dst, d, (fmtWords t)⟩]
  | .cvtpBf16x2F32 _ d a b => [⟨.src, a, 1⟩, ⟨.src, b, 1⟩, ⟨.dst, d, 1⟩]
  | .cvtpF16x2F32 _ d a b => [⟨.src, a, 1⟩, ⟨.src, b, 1⟩, ⟨.dst, d, 1⟩]
  | .insE8 _ d a b => [⟨.src, a, 1⟩, ⟨.src, b, 1⟩, ⟨.srcDst, d, 1⟩]
  | .insE4 _ d a b => [⟨.src, a, 1⟩, ⟨.src, b, 1⟩, ⟨.srcDst, d, 1⟩]
  | .extE8 _ d a b => [⟨.src, a, 1⟩, ⟨.src, b, 1⟩, ⟨.dst, d, 1⟩]
  | .extE4 _ d a b => [⟨.src, a, 1⟩, ⟨.src, b, 1⟩, ⟨.dst, d, 1⟩]
  | .cvtS8E8m0 _ d a => [⟨.src, a, 1⟩, ⟨.dst, d, 1⟩]
  | .cvtE8m0S8 _ d a => [⟨.src, a, 1⟩, ⟨.dst, d, 1⟩]
  | .sclF32 _ d a b => [⟨.src, a, 1⟩, ⟨.src, b, 1⟩, ⟨.dst, d, 1⟩]
  | .sclF64 _ d a b => [⟨.src, a, 2⟩, ⟨.src, b, 1⟩, ⟨.dst, d, 2⟩]
  | .dp4I8 _ d a b => [⟨.src, a, 1⟩, ⟨.src, b, 1⟩, ⟨.srcDst, d, 1⟩]
  | .dp4N8 _ d a b => [⟨.src, a, 1⟩, ⟨.src, b, 1⟩, ⟨.srcDst, d, 1⟩]
  | .dp4F8e4m3 _ d a b => [⟨.src, a, 1⟩, ⟨.src, b, 1⟩, ⟨.srcDst, d, 1⟩]
  | .dp4F8e5m2 _ d a b => [⟨.src, a, 1⟩, ⟨.src, b, 1⟩, ⟨.srcDst, d, 1⟩]
  | .dp8I4 _ d a b => [⟨.src, a, 1⟩, ⟨.src, b, 1⟩, ⟨.srcDst, d, 1⟩]
  | .dp8N4 _ d a b => [⟨.src, a, 1⟩, ⟨.src, b, 1⟩, ⟨.srcDst, d, 1⟩]
  | .dp8F4e2m1 _ d a b => [⟨.src, a, 1⟩, ⟨.src, b, 1⟩, ⟨.srcDst, d, 1⟩]
  | .ldP _ d a b t => [⟨.src, a, 1⟩, ⟨.src, b, 1⟩, ⟨.dst, d, (ldWords t)⟩]
  | .ldC _ d a b t => [⟨.src, a, 1⟩, ⟨.src, b, 1⟩, ⟨.dst, d, (ldWords t)⟩]
  | .stP _ d a b w => [⟨.src, a, 1⟩, ⟨.src, b, 1⟩, ⟨.src, d, (ldWords w)⟩]
  | .stC _ d a b w => [⟨.src, a, 1⟩, ⟨.src, b, 1⟩, ⟨.src, d, (ldWords w)⟩]
  | .ldQ _ d a b t => [⟨.src, a, 1⟩, ⟨.src, b, 1⟩, ⟨.dst, d, (ldWords t)⟩]
  | .ldM _ d a b t => [⟨.src, a, 1⟩, ⟨.src, b, 1⟩, ⟨.dst, d, (ldWords t)⟩]
  | .stQ _ d a b w => [⟨.src, a, 1⟩, ⟨.src, b, 1⟩, ⟨.src, d, (ldWords w)⟩]
  | .stM _ d a b w => [⟨.src, a, 1⟩, ⟨.src, b, 1⟩, ⟨.src, d, (ldWords w)⟩]
  | .ldG _ d a b t => [⟨.src, a, 2⟩, ⟨.src, b, 1⟩, ⟨.dst, d, (ldWords t)⟩]
  | .ldGNt _ d a b t => [⟨.src, a, 2⟩, ⟨.src, b, 1⟩, ⟨.dst, d, (ldWords t)⟩]
  | .stG _ d a b w => [⟨.src, a, 2⟩, ⟨.src, b, 1⟩, ⟨.src, d, (ldWords w)⟩]
  | .stGNt _ d a b w => [⟨.src, a, 2⟩, ⟨.src, b, 1⟩, ⟨.src, d, (ldWords w)⟩]
  | .prfL1 _ a b => [⟨.src, a, 2⟩, ⟨.src, b, 1⟩]
  | .prfL2 _ a b => [⟨.src, a, 2⟩, ⟨.src, b, 1⟩]
  | .atomAdd _ d a w _ => [⟨.src, a, (atomAddrWords w)⟩, ⟨.srcDstEven, d, (atomWords w)⟩]
  | .atomAnd _ d a w _ => [⟨.src, a, (atomAddrWords w)⟩, ⟨.srcDstEven, d, (atomWords w)⟩]
  | .atomOr _ d a w _ => [⟨.src, a, (atomAddrWords w)⟩, ⟨.srcDstEven, d, (atomWords w)⟩]
  | .atomXor _ d a w _ => [⟨.src, a, (atomAddrWords w)⟩, ⟨.srcDstEven, d, (atomWords w)⟩]
  | .atomMinI _ d a w _ => [⟨.src, a, (atomAddrWords w)⟩, ⟨.srcDstEven, d, (atomWords w)⟩]
  | .atomMaxI _ d a w _ => [⟨.src, a, (atomAddrWords w)⟩, ⟨.srcDstEven, d, (atomWords w)⟩]
  | .atomMinN _ d a w _ => [⟨.src, a, (atomAddrWords w)⟩, ⟨.srcDstEven, d, (atomWords w)⟩]
  | .atomMaxN _ d a w _ => [⟨.src, a, (atomAddrWords w)⟩, ⟨.srcDstEven, d, (atomWords w)⟩]
  | .atomExch _ d a w _ => [⟨.src, a, (atomAddrWords w)⟩, ⟨.srcDstEven, d, (atomWords w)⟩]
  | .atomCas _ d a w _ => [⟨.src, a, (atomAddrWords w)⟩, ⟨.srcDstEven, d, (2 * atomWords w)⟩]
  | .redAdd _ d a w _ => [⟨.src, a, (atomAddrWords w)⟩, ⟨.src, d, (atomWords w)⟩]
  | .redAnd _ d a w _ => [⟨.src, a, (atomAddrWords w)⟩, ⟨.src, d, (atomWords w)⟩]
  | .redOr _ d a w _ => [⟨.src, a, (atomAddrWords w)⟩, ⟨.src, d, (atomWords w)⟩]
  | .redXor _ d a w _ => [⟨.src, a, (atomAddrWords w)⟩, ⟨.src, d, (atomWords w)⟩]
  | .redMinI _ d a w _ => [⟨.src, a, (atomAddrWords w)⟩, ⟨.src, d, (atomWords w)⟩]
  | .redMaxI _ d a w _ => [⟨.src, a, (atomAddrWords w)⟩, ⟨.src, d, (atomWords w)⟩]
  | .redMinN _ d a w _ => [⟨.src, a, (atomAddrWords w)⟩, ⟨.src, d, (atomWords w)⟩]
  | .redMaxN _ d a w _ => [⟨.src, a, (atomAddrWords w)⟩, ⟨.src, d, (atomWords w)⟩]
  | .fenceAcq _ _ => []
  | .fenceRel _ _ => []
  | .fenceAr _ _ => []
  | .fenceSc _ _ => []
  | .scset _ a _ => [⟨.src, a, 2⟩]
  | .scinv _ _ => []
  | .scqry _ d _ => [⟨.dst, d, 2⟩]
  | .scmem _ d _ => [⟨.dst, d, 1⟩]
  | .ctb _ d a b f => [⟨.src, a, 2⟩, ⟨.src, b, 1⟩, ⟨.src, d, (fmtWords f)⟩]
  | .ctbn _ d a f => [⟨.src, a, 2⟩, ⟨.src, d, (fmtWords f)⟩]
  | .ctbm _ d a b f => [⟨.src, a, 2⟩, ⟨.src, b, 1⟩, ⟨.src, d, (fmtWords f)⟩]
  | .slotOpen _ d a b => [⟨.src, a, 2⟩, ⟨.src, b, 1⟩, ⟨.dst, d, 1⟩]
  | .slotClose _ d b => [⟨.src, b, 1⟩, ⟨.dst, d, 1⟩]
  | .slotWait _ d b => [⟨.src, b, 1⟩, ⟨.dst, d, 1⟩]
  | .slotStat _ d b => [⟨.src, b, 1⟩, ⟨.dst, d, 1⟩]
  | .oprDef _ a _ => [⟨.src, a, 1⟩]
  | .oprRel _ _ => []
  | .oprQry _ d _ => [⟨.dst, d, 1⟩]
  | .stp _ d a _ => [⟨.src, a, 1⟩, ⟨.src, d, 1⟩]
  | .stpSc _ d a _ => [⟨.src, a, 1⟩, ⟨.src, d, 1⟩]
  | .ldp _ d a _ => [⟨.src, a, 1⟩, ⟨.dst, d, 1⟩]
  | .ldpSc _ d a _ => [⟨.src, a, 1⟩, ⟨.dst, d, 1⟩]
  | .mma _ _ _ _ _ _ => []
  | .accClr _ _ => []
  | .accRd _ d a _ => [⟨.src, a, 1⟩, ⟨.dst, d, 2⟩]
  | .drain _ a _ _ => [⟨.src, a, 2⟩]
  | .drainMx _ d a _ _ _ => [⟨.src, a, 2⟩, ⟨.src, d, 2⟩]
  | .cpy _ d a => [⟨.src, a, 2⟩, ⟨.dst, d, 1⟩]
  | .cpyc _ d a => [⟨.src, a, 2⟩, ⟨.dst, d, 1⟩]
  | .chain _ d a => [⟨.src, a, 2⟩, ⟨.dst, d, 1⟩]
  | .cpyw _ d a => [⟨.src, a, 1⟩, ⟨.dst, d, 1⟩]
  | .chBind _ a _ => [⟨.src, a, 1⟩]
  | .chFree _ _ => []
  | .chCnt _ d _ => [⟨.dst, d, 1⟩]
  | .rng _ d a b => [⟨.src, a, 4⟩, ⟨.src, b, 2⟩, ⟨.dst, d, 4⟩]
  | .rngReg _ d a => [⟨.src, a, 2⟩, ⟨.dst, d, 1⟩]
  | .rngUnreg _ d a => [⟨.src, a, 2⟩, ⟨.dst, d, 1⟩]
  | .vcdef _ d a _ => [⟨.src, a, 2⟩, ⟨.dst, d, 1⟩]
  | .vcqry _ d _ => [⟨.dst, d, 1⟩]
  | .ckcut _ d a => [⟨.src, a, 2⟩, ⟨.dst, d, 1⟩]
  | .bnz _ d _ => [⟨.src, d, 1⟩]
  | .bz _ d _ => [⟨.src, d, 1⟩]
  | .call _ d _ => [⟨.dstVG, d, 1⟩]
  | .jmpi _ a => [⟨.src, a, 1⟩]
  | .calli _ d a => [⟨.src, a, 1⟩, ⟨.dstVG, d, 1⟩]
  | .ret _ a => [⟨.src, a, 1⟩]
  | .exit _ => []
  | .ychk _ => []
  | .yield _ => []
  | .win _ _ => []
  | .gnew _ d a _ => [⟨.src, a, 1⟩, ⟨.dst, d, 1⟩]
  | .join _ a => [⟨.src, a, 1⟩]
  | .leave _ => []
  | .bar _ => []
  | .trap _ _ => []
  | .brk _ => []
  | .nop _ => []
  | .fltReplay _ a => [⟨.src, a, 1⟩]
  | .scanStop _ d a b => [⟨.src, a, 2⟩, ⟨.src, b, 1⟩, ⟨.dst, d, 1⟩]
  | .scanRestore _ d a b => [⟨.src, a, 2⟩, ⟨.src, b, 1⟩, ⟨.dst, d, 1⟩]
  | .scanRestart _ d a b => [⟨.src, a, 2⟩, ⟨.src, b, 1⟩, ⟨.dst, d, 1⟩]
  | .wpset _ d a b => [⟨.src, a, 2⟩, ⟨.src, b, 1⟩, ⟨.dst, d, 1⟩]
  | .wpclr _ b => [⟨.src, b, 1⟩]
  | .step _ d a => [⟨.src, a, 1⟩, ⟨.dst, d, 1⟩]
  | .dpair _ _ _ _ => []
  | .longLatencyReturn _ => []
  | .gangPromotion _ _ => []
  | .channelPushArrive _ => []
  | .storePerform _ _ _ => []
  | .gatewayPageFault _ => []
  | .writebackFault _ => []
  | .trapRecordEnqueue _ => []
  | .partialArrive _ _ => []
  | .panHoldExpiry _ _ => []
  | .ctbmLeafArrive _ => []
  | .closeMarkerArrive _ _ _ => []
  | .slotResolve _ _ => []
  | .slotFinal _ _ => []
  | .mmaPassStart _ _ _ => []
  | .fusionWindowExpiry _ _ _ => []
  | .drainSeqWrite _ _ _ _ => []
  | .jobElement _ _ => []
  | .jobRetire _ _ => []
  | .collectiveWindowGrant _ _ _ => []
  | .collectiveRootReturn _ _ _ _ _ => []
  | .ckptGranuleCopy _ => []
  | .ckptCowCopy _ _ => []
  | .vcAccept _ => []
  | .vcMoveStep _ _ _ => []
  | .vcCommit _ _ => []
  | .pageMigrate _ _ _ => []
  | .thrashThrottleExpiry _ _ => []
  | .launch _ _ _ => []
  | .launchStart _ _ => []
  | .unitPlace _ => []
  | .edgeSatisfied _ _ => []
  | .launchComplete _ => []
  | .preemptDelayExpiry _ => []
  | .preemptDeadline _ => []
  | .coreRelease _ _ => []
  | .forcedStop _ _ _ => []
  | .scanComplete _ _ => []
  | .imageRestore _ _ _ => []
  | .contextResume _ _ => []
  | .contextMigrate _ _ => []
  | .watchpointHit _ => []
  | .hostWrite _ _ _ _ => []
  | .hostRead _ _ _ _ => []
  | .lctAck _ _ => []
  | .lctRetransmitTimeout _ => []
  | .contextCreate _ _ _ _ _ _ _ => []
  | .contextDestroy _ _ => []
  | .queueBind _ _ _ _ => []
  | .queueUnbind _ _ => []
  | .rangeRegisterWrite _ _ _ _ => []
  | .pageMap _ _ _ _ _ => []
  | .pageUnmap _ _ _ _ => []
  | .pageChange _ _ _ _ _ => []
  | .windowOpenClose _ _ _ _ _ _ _ _ _ => []
  | .sessionOpenClose _ _ _ _ _ => []
  | .faultResolve _ _ _ => []
  | .faultFail _ _ _ => []
  | .trapResume _ _ _ => []
  | .trapRetry _ _ _ => []
  | .trapAbandon _ _ _ => []
  | .fabricRecordWrite _ _ _ => []
  | .fabricGroupOp _ _ _ _ _ => []
  | .portStatus _ _ _ => []
  | .cutMapRead _ _ => []
  | .delayThrashSet _ _ _ _ => []
  | .imageSubmit _ _ _ _ => []
  | .imageRelease _ _ _ => []
  | .quotaSet _ _ _ => []
  | .marketAllotmentSet _ _ _ _ _ => []
  | .arpRequest _ => []
  | .icmpEcho _ => []
  | .flitRetransmit _ => []
  | .portStateChange _ _ => []
  | .bankMarkFailed _ _ => []
  | .bankRebuildRow _ => []
  | .clockDroop _ _ => []
  | .clockStepUp _ => []
  | .governorRound _ => []
  | .thermalLimit _ => []
  | .thermalTrip => []
  | .corePowerRemove => []
  | .powerUp _ => []
  | .unassignedWordIssue _ => []
  | .priorityFlowControlFrame _ _ => []

/-- The conditions on fields other than register operands (R85 to R94). -/
def Instr.fieldsOk : Instr → Bool
  | .addI32 _ _ _ _ => true
  | .subI32 _ _ _ _ => true
  | .addSatI32 _ _ _ _ => true
  | .subSatI32 _ _ _ _ => true
  | .addSatN32 _ _ _ _ => true
  | .subSatN32 _ _ _ _ => true
  | .mulloI32 _ _ _ _ => true
  | .mulhiI32 _ _ _ _ => true
  | .mulhiN32 _ _ _ _ => true
  | .minI32 _ _ _ _ => true
  | .maxI32 _ _ _ _ => true
  | .minN32 _ _ _ _ => true
  | .maxN32 _ _ _ _ => true
  | .absI32 _ _ _ => true
  | .negI32 _ _ _ => true
  | .addI64 _ _ _ _ => true
  | .subI64 _ _ _ _ => true
  | .mulloI64 _ _ _ _ => true
  | .mulhiI64 _ _ _ _ => true
  | .mulhiN64 _ _ _ _ => true
  | .minI64 _ _ _ _ => true
  | .maxI64 _ _ _ _ => true
  | .minN64 _ _ _ _ => true
  | .maxN64 _ _ _ _ => true
  | .negI64 _ _ _ => true
  | .absI64 _ _ _ => true
  | .andB32 _ _ _ _ => true
  | .orB32 _ _ _ _ => true
  | .xorB32 _ _ _ _ => true
  | .andnB32 _ _ _ _ => true
  | .ornB32 _ _ _ _ => true
  | .xnorB32 _ _ _ _ => true
  | .notB32 _ _ _ => true
  | .shlB32 _ _ _ _ => true
  | .shrB32 _ _ _ _ => true
  | .sarB32 _ _ _ _ => true
  | .rotlB32 _ _ _ _ => true
  | .rotrB32 _ _ _ _ => true
  | .movB32 _ _ _ => true
  | .movB64 _ _ _ => true
  | .popcB32 _ _ _ => true
  | .clzB32 _ _ _ => true
  | .ctzB32 _ _ _ => true
  | .brevB32 _ _ _ => true
  | .bfeI32 _ _ _ _ => true
  | .bfeN32 _ _ _ _ => true
  | .bfiB32 _ _ _ _ => true
  | .bselB32 _ _ _ _ => true
  | .shlB64 _ _ _ _ => true
  | .shrB64 _ _ _ _ => true
  | .sarB64 _ _ _ _ => true
  | .popcB64 _ _ _ => true
  | .clzB64 _ _ _ => true
  | .setEqB32 _ _ _ _ => true
  | .setNeB32 _ _ _ _ => true
  | .setLtI32 _ _ _ _ => true
  | .setLeI32 _ _ _ _ => true
  | .setLtN32 _ _ _ _ => true
  | .setLeN32 _ _ _ _ => true
  | .setEqB64 _ _ _ _ => true
  | .setNeB64 _ _ _ _ => true
  | .setLtI64 _ _ _ _ => true
  | .setLeI64 _ _ _ _ => true
  | .setLtN64 _ _ _ _ => true
  | .setLeN64 _ _ _ _ => true
  | .selB32 _ _ _ _ => true
  | .selB64 _ _ _ _ => true
  | .addiI32 _ _ _ _ => true
  | .andiB32 _ _ _ _ => true
  | .oriB32 _ _ _ _ => true
  | .xoriB32 _ _ _ _ => true
  | .shli _ _ _ w c => (w || decide (c.toNat < 32))
  | .shri _ _ _ w c => (w || decide (c.toNat < 32))
  | .sari _ _ _ w c => (w || decide (c.toNat < 32))
  | .rotri _ _ _ w c => (w || decide (c.toNat < 32))
  | .andB64 _ _ _ _ => true
  | .orB64 _ _ _ _ => true
  | .xorB64 _ _ _ _ => true
  | .notB64 _ _ _ => true
  | .rotlB64 _ _ _ _ => true
  | .rotrB64 _ _ _ _ => true
  | .movi _ _ _ => true
  | .movhi _ _ _ => true
  | .movlo _ _ _ => true
  | .addaI _ _ _ _ => true
  | .addaN _ _ _ _ => true
  | .madaN32 _ _ _ _ => true
  | .extI32 _ _ _ => true
  | .extN32 _ _ _ => true
  | .truncB64 _ _ _ => true
  | .srd _ _ n => readableSreg n
  | .srdPos _ _ => true
  | .swr _ _ n => writableSreg n && !ownRowSreg n
  | .swrFst _ _ => true
  | .swrPreq _ _ => true
  | .swrFltcc _ _ => true
  | .faddF32 _ _ _ _ _ => true
  | .fsubF32 _ _ _ _ _ => true
  | .fmulF32 _ _ _ _ _ => true
  | .ffmaF32 _ _ _ _ _ => true
  | .faddF64 _ _ _ _ _ => true
  | .fsubF64 _ _ _ _ _ => true
  | .fmulF64 _ _ _ _ _ => true
  | .ffmaF64 _ _ _ _ _ => true
  | .faddBf16x2 _ _ _ _ _ => true
  | .fsubBf16x2 _ _ _ _ _ => true
  | .fmulBf16x2 _ _ _ _ _ => true
  | .ffmaBf16x2 _ _ _ _ _ => true
  | .faddF16x2 _ _ _ _ _ => true
  | .fsubF16x2 _ _ _ _ _ => true
  | .fmulF16x2 _ _ _ _ _ => true
  | .ffmaF16x2 _ _ _ _ _ => true
  | .fminF32 _ _ _ _ => true
  | .fmaxF32 _ _ _ _ => true
  | .fabsF32 _ _ _ => true
  | .fnegF32 _ _ _ => true
  | .fcpsgnF32 _ _ _ _ => true
  | .fdivF32 _ _ _ _ => true
  | .fsqrtF32 _ _ _ => true
  | .fsetEqF32 _ _ _ _ => true
  | .fsetNeF32 _ _ _ _ => true
  | .fsetLtF32 _ _ _ _ => true
  | .fsetLeF32 _ _ _ _ => true
  | .fsetUnF32 _ _ _ _ => true
  | .fclassF32 _ _ _ => true
  | .fminF64 _ _ _ _ => true
  | .fmaxF64 _ _ _ _ => true
  | .fabsF64 _ _ _ => true
  | .fnegF64 _ _ _ => true
  | .fcpsgnF64 _ _ _ _ => true
  | .fdivF64 _ _ _ _ => true
  | .fsqrtF64 _ _ _ => true
  | .fsetEqF64 _ _ _ _ => true
  | .fsetNeF64 _ _ _ _ => true
  | .fsetLtF64 _ _ _ _ => true
  | .fsetLeF64 _ _ _ _ => true
  | .fsetUnF64 _ _ _ _ => true
  | .fclassF64 _ _ _ => true
  | .fminBf16x2 _ _ _ _ => true
  | .fmaxBf16x2 _ _ _ _ => true
  | .fabsBf16x2 _ _ _ => true
  | .fnegBf16x2 _ _ _ => true
  | .fminF16x2 _ _ _ _ => true
  | .fmaxF16x2 _ _ _ _ => true
  | .fabsF16x2 _ _ _ => true
  | .fnegF16x2 _ _ _ => true
  | .frcpF32 _ _ _ => true
  | .frsqrtF32 _ _ _ => true
  | .fexp2F32 _ _ _ => true
  | .flog2F32 _ _ _ => true
  | .fsinpiF32 _ _ _ => true
  | .fcospiF32 _ _ _ => true
  | .ftanhF32 _ _ _ => true
  | .frcpF64 _ _ _ => true
  | .frsqrtF64 _ _ _ => true
  | .fexp2F64 _ _ _ => true
  | .flog2F64 _ _ _ => true
  | .cvt _ _ _ c _ t => cvtOk c t
  | .cvtpBf16x2F32 _ _ _ _ => true
  | .cvtpF16x2F32 _ _ _ _ => true
  | .insE8 _ _ _ _ => true
  | .insE4 _ _ _ _ => true
  | .extE8 _ _ _ _ => true
  | .extE4 _ _ _ _ => true
  | .cvtS8E8m0 _ _ _ => true
  | .cvtE8m0S8 _ _ _ => true
  | .sclF32 _ _ _ _ => true
  | .sclF64 _ _ _ _ => true
  | .dp4I8 _ _ _ _ => true
  | .dp4N8 _ _ _ _ => true
  | .dp4F8e4m3 _ _ _ _ => true
  | .dp4F8e5m2 _ _ _ _ => true
  | .dp8I4 _ _ _ _ => true
  | .dp8N4 _ _ _ _ => true
  | .dp8F4e2m1 _ _ _ _ => true
  | .ldP _ _ _ _ t => t != 7#3
  | .ldC _ _ _ _ t => t != 7#3
  | .stP _ _ _ _ w => storeCode w
  | .stC _ _ _ _ w => storeCode w
  | .ldQ _ _ _ _ t => t != 7#3
  | .ldM _ _ _ _ t => t != 7#3
  | .stQ _ _ _ _ w => storeCode w
  | .stM _ _ _ _ w => storeCode w
  | .ldG _ _ _ _ t => t != 7#3
  | .ldGNt _ _ _ _ t => t != 7#3
  | .stG _ _ _ _ w => storeCode w
  | .stGNt _ _ _ _ w => storeCode w
  | .prfL1 _ _ _ => true
  | .prfL2 _ _ _ => true
  | .atomAdd _ _ _ w _ => decide (w.toNat < 4)
  | .atomAnd _ _ _ w _ => decide (w.toNat < 4)
  | .atomOr _ _ _ w _ => decide (w.toNat < 4)
  | .atomXor _ _ _ w _ => decide (w.toNat < 4)
  | .atomMinI _ _ _ w _ => decide (w.toNat < 4)
  | .atomMaxI _ _ _ w _ => decide (w.toNat < 4)
  | .atomMinN _ _ _ w _ => decide (w.toNat < 4)
  | .atomMaxN _ _ _ w _ => decide (w.toNat < 4)
  | .atomExch _ _ _ w _ => decide (w.toNat < 4)
  | .atomCas _ _ _ w _ => decide (w.toNat < 4)
  | .redAdd _ _ _ w _ => decide (w.toNat < 4)
  | .redAnd _ _ _ w _ => decide (w.toNat < 4)
  | .redOr _ _ _ w _ => decide (w.toNat < 4)
  | .redXor _ _ _ w _ => decide (w.toNat < 4)
  | .redMinI _ _ _ w _ => decide (w.toNat < 4)
  | .redMaxI _ _ _ w _ => decide (w.toNat < 4)
  | .redMinN _ _ _ w _ => decide (w.toNat < 4)
  | .redMaxN _ _ _ w _ => decide (w.toNat < 4)
  | .fenceAcq _ _ => true
  | .fenceRel _ _ => true
  | .fenceAr _ _ => true
  | .fenceSc _ _ => true
  | .scset _ _ c => decide (4 ≤ c.toNat)
  | .scinv _ c => decide (4 ≤ c.toNat)
  | .scqry _ _ _ => true
  | .scmem _ _ _ => true
  | .ctb _ _ _ _ f => contribFmt f
  | .ctbn _ _ _ f => contribFmt f
  | .ctbm _ _ _ _ f => contribFmt f
  | .slotOpen _ _ _ _ => true
  | .slotClose _ _ _ => true
  | .slotWait _ _ _ => true
  | .slotStat _ _ _ => true
  | .oprDef _ _ _ => true
  | .oprRel _ _ => true
  | .oprQry _ _ _ => true
  | .stp _ _ _ _ => true
  | .stpSc _ _ _ _ => true
  | .ldp _ _ _ _ => true
  | .ldpSc _ _ _ _ => true
  | .mma _ _ _ _ _ p => decide (p.toNat < 14)
  | .accClr _ _ => true
  | .accRd _ _ _ _ => true
  | .drain _ _ _ f => decide (f.toNat < 10)
  | .drainMx _ _ _ m _ f => (decide (1 ≤ m.toNat) && decide (m.toNat < 4) && decide (4 ≤ f.toNat) && decide (f.toNat < 9))
  | .cpy _ _ _ => true
  | .cpyc _ _ _ => true
  | .chain _ _ _ => true
  | .cpyw _ _ _ => true
  | .chBind _ _ _ => true
  | .chFree _ _ => true
  | .chCnt _ _ _ => true
  | .rng _ _ _ b => (b == 106#7 || b == 108#7 || b == 110#7)
  | .rngReg _ _ _ => true
  | .rngUnreg _ _ _ => true
  | .vcdef _ _ _ _ => true
  | .vcqry _ _ _ => true
  | .ckcut _ _ _ => true
  | .bnz _ _ _ => true
  | .bz _ _ _ => true
  | .call _ _ _ => true
  | .jmpi _ _ => true
  | .calli _ _ _ => true
  | .ret _ _ => true
  | .exit _ => true
  | .ychk _ => true
  | .yield _ => true
  | .win _ b => decide (b.toNat < 52)
  | .gnew _ _ _ _ => true
  | .join _ _ => true
  | .leave _ => true
  | .bar _ => true
  | .trap _ _ => true
  | .brk _ => true
  | .nop _ => true
  | .fltReplay _ _ => true
  | .scanStop _ _ _ _ => true
  | .scanRestore _ _ _ _ => true
  | .scanRestart _ _ _ _ => true
  | .wpset _ _ _ _ => true
  | .wpclr _ _ => true
  | .step _ _ _ => true
  | .dpair _ _ _ _ => true
  | .longLatencyReturn _ => true
  | .gangPromotion _ _ => true
  | .channelPushArrive _ => true
  | .storePerform _ _ _ => true
  | .gatewayPageFault _ => true
  | .writebackFault _ => true
  | .trapRecordEnqueue _ => true
  | .partialArrive _ _ => true
  | .panHoldExpiry _ _ => true
  | .ctbmLeafArrive _ => true
  | .closeMarkerArrive _ _ _ => true
  | .slotResolve _ _ => true
  | .slotFinal _ _ => true
  | .mmaPassStart _ _ _ => true
  | .fusionWindowExpiry _ _ _ => true
  | .drainSeqWrite _ _ _ _ => true
  | .jobElement _ _ => true
  | .jobRetire _ _ => true
  | .collectiveWindowGrant _ _ _ => true
  | .collectiveRootReturn _ _ _ _ _ => true
  | .ckptGranuleCopy _ => true
  | .ckptCowCopy _ _ => true
  | .vcAccept _ => true
  | .vcMoveStep _ _ _ => true
  | .vcCommit _ _ => true
  | .pageMigrate _ _ _ => true
  | .thrashThrottleExpiry _ _ => true
  | .launch _ _ _ => true
  | .launchStart _ _ => true
  | .unitPlace _ => true
  | .edgeSatisfied _ _ => true
  | .launchComplete _ => true
  | .preemptDelayExpiry _ => true
  | .preemptDeadline _ => true
  | .coreRelease _ _ => true
  | .forcedStop _ _ _ => true
  | .scanComplete _ _ => true
  | .imageRestore _ _ _ => true
  | .contextResume _ _ => true
  | .contextMigrate _ _ => true
  | .watchpointHit _ => true
  | .hostWrite _ _ _ _ => true
  | .hostRead _ _ _ _ => true
  | .lctAck _ _ => true
  | .lctRetransmitTimeout _ => true
  | .contextCreate _ _ _ _ _ _ _ => true
  | .contextDestroy _ _ => true
  | .queueBind _ _ _ _ => true
  | .queueUnbind _ _ => true
  | .rangeRegisterWrite _ _ _ _ => true
  | .pageMap _ _ _ _ _ => true
  | .pageUnmap _ _ _ _ => true
  | .pageChange _ _ _ _ _ => true
  | .windowOpenClose _ _ _ _ _ _ _ _ _ => true
  | .sessionOpenClose _ _ _ _ _ => true
  | .faultResolve _ _ _ => true
  | .faultFail _ _ _ => true
  | .trapResume _ _ _ => true
  | .trapRetry _ _ _ => true
  | .trapAbandon _ _ _ => true
  | .fabricRecordWrite _ _ _ => true
  | .fabricGroupOp _ _ _ _ _ => true
  | .portStatus _ _ _ => true
  | .cutMapRead _ _ => true
  | .delayThrashSet _ _ _ _ => true
  | .imageSubmit _ _ _ _ => true
  | .imageRelease _ _ _ => true
  | .quotaSet _ _ _ => true
  | .marketAllotmentSet _ _ _ _ _ => true
  | .arpRequest _ => true
  | .icmpEcho _ => true
  | .flitRetransmit _ => true
  | .portStateChange _ _ => true
  | .bankMarkFailed _ _ => true
  | .bankRebuildRow _ => true
  | .clockDroop _ _ => true
  | .clockStepUp _ => true
  | .governorRound _ => true
  | .thermalLimit _ => true
  | .thermalTrip => true
  | .corePowerRemove => true
  | .powerUp _ => true
  | .unassignedWordIssue _ => true
  | .priorityFlowControlFrame _ _ => true

/-- An instruction is well formed when its encoding is assigned (R84): its operand checks hold. -/
def Instr.wf (i : Instr) : Bool := i.fieldsOk && i.ops.all OpSpec.ok

/-- The instruction is a word of the instruction set, and not a device event. -/
def Instr.isWord : Instr → Bool
  | .addI32 _ _ _ _ => true
  | .subI32 _ _ _ _ => true
  | .addSatI32 _ _ _ _ => true
  | .subSatI32 _ _ _ _ => true
  | .addSatN32 _ _ _ _ => true
  | .subSatN32 _ _ _ _ => true
  | .mulloI32 _ _ _ _ => true
  | .mulhiI32 _ _ _ _ => true
  | .mulhiN32 _ _ _ _ => true
  | .minI32 _ _ _ _ => true
  | .maxI32 _ _ _ _ => true
  | .minN32 _ _ _ _ => true
  | .maxN32 _ _ _ _ => true
  | .absI32 _ _ _ => true
  | .negI32 _ _ _ => true
  | .addI64 _ _ _ _ => true
  | .subI64 _ _ _ _ => true
  | .mulloI64 _ _ _ _ => true
  | .mulhiI64 _ _ _ _ => true
  | .mulhiN64 _ _ _ _ => true
  | .minI64 _ _ _ _ => true
  | .maxI64 _ _ _ _ => true
  | .minN64 _ _ _ _ => true
  | .maxN64 _ _ _ _ => true
  | .negI64 _ _ _ => true
  | .absI64 _ _ _ => true
  | .andB32 _ _ _ _ => true
  | .orB32 _ _ _ _ => true
  | .xorB32 _ _ _ _ => true
  | .andnB32 _ _ _ _ => true
  | .ornB32 _ _ _ _ => true
  | .xnorB32 _ _ _ _ => true
  | .notB32 _ _ _ => true
  | .shlB32 _ _ _ _ => true
  | .shrB32 _ _ _ _ => true
  | .sarB32 _ _ _ _ => true
  | .rotlB32 _ _ _ _ => true
  | .rotrB32 _ _ _ _ => true
  | .movB32 _ _ _ => true
  | .movB64 _ _ _ => true
  | .popcB32 _ _ _ => true
  | .clzB32 _ _ _ => true
  | .ctzB32 _ _ _ => true
  | .brevB32 _ _ _ => true
  | .bfeI32 _ _ _ _ => true
  | .bfeN32 _ _ _ _ => true
  | .bfiB32 _ _ _ _ => true
  | .bselB32 _ _ _ _ => true
  | .shlB64 _ _ _ _ => true
  | .shrB64 _ _ _ _ => true
  | .sarB64 _ _ _ _ => true
  | .popcB64 _ _ _ => true
  | .clzB64 _ _ _ => true
  | .setEqB32 _ _ _ _ => true
  | .setNeB32 _ _ _ _ => true
  | .setLtI32 _ _ _ _ => true
  | .setLeI32 _ _ _ _ => true
  | .setLtN32 _ _ _ _ => true
  | .setLeN32 _ _ _ _ => true
  | .setEqB64 _ _ _ _ => true
  | .setNeB64 _ _ _ _ => true
  | .setLtI64 _ _ _ _ => true
  | .setLeI64 _ _ _ _ => true
  | .setLtN64 _ _ _ _ => true
  | .setLeN64 _ _ _ _ => true
  | .selB32 _ _ _ _ => true
  | .selB64 _ _ _ _ => true
  | .addiI32 _ _ _ _ => true
  | .andiB32 _ _ _ _ => true
  | .oriB32 _ _ _ _ => true
  | .xoriB32 _ _ _ _ => true
  | .shli _ _ _ _ _ => true
  | .shri _ _ _ _ _ => true
  | .sari _ _ _ _ _ => true
  | .rotri _ _ _ _ _ => true
  | .andB64 _ _ _ _ => true
  | .orB64 _ _ _ _ => true
  | .xorB64 _ _ _ _ => true
  | .notB64 _ _ _ => true
  | .rotlB64 _ _ _ _ => true
  | .rotrB64 _ _ _ _ => true
  | .movi _ _ _ => true
  | .movhi _ _ _ => true
  | .movlo _ _ _ => true
  | .addaI _ _ _ _ => true
  | .addaN _ _ _ _ => true
  | .madaN32 _ _ _ _ => true
  | .extI32 _ _ _ => true
  | .extN32 _ _ _ => true
  | .truncB64 _ _ _ => true
  | .srd _ _ _ => true
  | .srdPos _ _ => true
  | .swr _ _ _ => true
  | .swrFst _ _ => true
  | .swrPreq _ _ => true
  | .swrFltcc _ _ => true
  | .faddF32 _ _ _ _ _ => true
  | .fsubF32 _ _ _ _ _ => true
  | .fmulF32 _ _ _ _ _ => true
  | .ffmaF32 _ _ _ _ _ => true
  | .faddF64 _ _ _ _ _ => true
  | .fsubF64 _ _ _ _ _ => true
  | .fmulF64 _ _ _ _ _ => true
  | .ffmaF64 _ _ _ _ _ => true
  | .faddBf16x2 _ _ _ _ _ => true
  | .fsubBf16x2 _ _ _ _ _ => true
  | .fmulBf16x2 _ _ _ _ _ => true
  | .ffmaBf16x2 _ _ _ _ _ => true
  | .faddF16x2 _ _ _ _ _ => true
  | .fsubF16x2 _ _ _ _ _ => true
  | .fmulF16x2 _ _ _ _ _ => true
  | .ffmaF16x2 _ _ _ _ _ => true
  | .fminF32 _ _ _ _ => true
  | .fmaxF32 _ _ _ _ => true
  | .fabsF32 _ _ _ => true
  | .fnegF32 _ _ _ => true
  | .fcpsgnF32 _ _ _ _ => true
  | .fdivF32 _ _ _ _ => true
  | .fsqrtF32 _ _ _ => true
  | .fsetEqF32 _ _ _ _ => true
  | .fsetNeF32 _ _ _ _ => true
  | .fsetLtF32 _ _ _ _ => true
  | .fsetLeF32 _ _ _ _ => true
  | .fsetUnF32 _ _ _ _ => true
  | .fclassF32 _ _ _ => true
  | .fminF64 _ _ _ _ => true
  | .fmaxF64 _ _ _ _ => true
  | .fabsF64 _ _ _ => true
  | .fnegF64 _ _ _ => true
  | .fcpsgnF64 _ _ _ _ => true
  | .fdivF64 _ _ _ _ => true
  | .fsqrtF64 _ _ _ => true
  | .fsetEqF64 _ _ _ _ => true
  | .fsetNeF64 _ _ _ _ => true
  | .fsetLtF64 _ _ _ _ => true
  | .fsetLeF64 _ _ _ _ => true
  | .fsetUnF64 _ _ _ _ => true
  | .fclassF64 _ _ _ => true
  | .fminBf16x2 _ _ _ _ => true
  | .fmaxBf16x2 _ _ _ _ => true
  | .fabsBf16x2 _ _ _ => true
  | .fnegBf16x2 _ _ _ => true
  | .fminF16x2 _ _ _ _ => true
  | .fmaxF16x2 _ _ _ _ => true
  | .fabsF16x2 _ _ _ => true
  | .fnegF16x2 _ _ _ => true
  | .frcpF32 _ _ _ => true
  | .frsqrtF32 _ _ _ => true
  | .fexp2F32 _ _ _ => true
  | .flog2F32 _ _ _ => true
  | .fsinpiF32 _ _ _ => true
  | .fcospiF32 _ _ _ => true
  | .ftanhF32 _ _ _ => true
  | .frcpF64 _ _ _ => true
  | .frsqrtF64 _ _ _ => true
  | .fexp2F64 _ _ _ => true
  | .flog2F64 _ _ _ => true
  | .cvt _ _ _ _ _ _ => true
  | .cvtpBf16x2F32 _ _ _ _ => true
  | .cvtpF16x2F32 _ _ _ _ => true
  | .insE8 _ _ _ _ => true
  | .insE4 _ _ _ _ => true
  | .extE8 _ _ _ _ => true
  | .extE4 _ _ _ _ => true
  | .cvtS8E8m0 _ _ _ => true
  | .cvtE8m0S8 _ _ _ => true
  | .sclF32 _ _ _ _ => true
  | .sclF64 _ _ _ _ => true
  | .dp4I8 _ _ _ _ => true
  | .dp4N8 _ _ _ _ => true
  | .dp4F8e4m3 _ _ _ _ => true
  | .dp4F8e5m2 _ _ _ _ => true
  | .dp8I4 _ _ _ _ => true
  | .dp8N4 _ _ _ _ => true
  | .dp8F4e2m1 _ _ _ _ => true
  | .ldP _ _ _ _ _ => true
  | .ldC _ _ _ _ _ => true
  | .stP _ _ _ _ _ => true
  | .stC _ _ _ _ _ => true
  | .ldQ _ _ _ _ _ => true
  | .ldM _ _ _ _ _ => true
  | .stQ _ _ _ _ _ => true
  | .stM _ _ _ _ _ => true
  | .ldG _ _ _ _ _ => true
  | .ldGNt _ _ _ _ _ => true
  | .stG _ _ _ _ _ => true
  | .stGNt _ _ _ _ _ => true
  | .prfL1 _ _ _ => true
  | .prfL2 _ _ _ => true
  | .atomAdd _ _ _ _ _ => true
  | .atomAnd _ _ _ _ _ => true
  | .atomOr _ _ _ _ _ => true
  | .atomXor _ _ _ _ _ => true
  | .atomMinI _ _ _ _ _ => true
  | .atomMaxI _ _ _ _ _ => true
  | .atomMinN _ _ _ _ _ => true
  | .atomMaxN _ _ _ _ _ => true
  | .atomExch _ _ _ _ _ => true
  | .atomCas _ _ _ _ _ => true
  | .redAdd _ _ _ _ _ => true
  | .redAnd _ _ _ _ _ => true
  | .redOr _ _ _ _ _ => true
  | .redXor _ _ _ _ _ => true
  | .redMinI _ _ _ _ _ => true
  | .redMaxI _ _ _ _ _ => true
  | .redMinN _ _ _ _ _ => true
  | .redMaxN _ _ _ _ _ => true
  | .fenceAcq _ _ => true
  | .fenceRel _ _ => true
  | .fenceAr _ _ => true
  | .fenceSc _ _ => true
  | .scset _ _ _ => true
  | .scinv _ _ => true
  | .scqry _ _ _ => true
  | .scmem _ _ _ => true
  | .ctb _ _ _ _ _ => true
  | .ctbn _ _ _ _ => true
  | .ctbm _ _ _ _ _ => true
  | .slotOpen _ _ _ _ => true
  | .slotClose _ _ _ => true
  | .slotWait _ _ _ => true
  | .slotStat _ _ _ => true
  | .oprDef _ _ _ => true
  | .oprRel _ _ => true
  | .oprQry _ _ _ => true
  | .stp _ _ _ _ => true
  | .stpSc _ _ _ _ => true
  | .ldp _ _ _ _ => true
  | .ldpSc _ _ _ _ => true
  | .mma _ _ _ _ _ _ => true
  | .accClr _ _ => true
  | .accRd _ _ _ _ => true
  | .drain _ _ _ _ => true
  | .drainMx _ _ _ _ _ _ => true
  | .cpy _ _ _ => true
  | .cpyc _ _ _ => true
  | .chain _ _ _ => true
  | .cpyw _ _ _ => true
  | .chBind _ _ _ => true
  | .chFree _ _ => true
  | .chCnt _ _ _ => true
  | .rng _ _ _ _ => true
  | .rngReg _ _ _ => true
  | .rngUnreg _ _ _ => true
  | .vcdef _ _ _ _ => true
  | .vcqry _ _ _ => true
  | .ckcut _ _ _ => true
  | .bnz _ _ _ => true
  | .bz _ _ _ => true
  | .call _ _ _ => true
  | .jmpi _ _ => true
  | .calli _ _ _ => true
  | .ret _ _ => true
  | .exit _ => true
  | .ychk _ => true
  | .yield _ => true
  | .win _ _ => true
  | .gnew _ _ _ _ => true
  | .join _ _ => true
  | .leave _ => true
  | .bar _ => true
  | .trap _ _ => true
  | .brk _ => true
  | .nop _ => true
  | .fltReplay _ _ => true
  | .scanStop _ _ _ _ => true
  | .scanRestore _ _ _ _ => true
  | .scanRestart _ _ _ _ => true
  | .wpset _ _ _ _ => true
  | .wpclr _ _ => true
  | .step _ _ _ => true
  | .dpair _ _ _ _ => true
  | .longLatencyReturn _ => false
  | .gangPromotion _ _ => false
  | .channelPushArrive _ => false
  | .storePerform _ _ _ => false
  | .gatewayPageFault _ => false
  | .writebackFault _ => false
  | .trapRecordEnqueue _ => false
  | .partialArrive _ _ => false
  | .panHoldExpiry _ _ => false
  | .ctbmLeafArrive _ => false
  | .closeMarkerArrive _ _ _ => false
  | .slotResolve _ _ => false
  | .slotFinal _ _ => false
  | .mmaPassStart _ _ _ => false
  | .fusionWindowExpiry _ _ _ => false
  | .drainSeqWrite _ _ _ _ => false
  | .jobElement _ _ => false
  | .jobRetire _ _ => false
  | .collectiveWindowGrant _ _ _ => false
  | .collectiveRootReturn _ _ _ _ _ => false
  | .ckptGranuleCopy _ => false
  | .ckptCowCopy _ _ => false
  | .vcAccept _ => false
  | .vcMoveStep _ _ _ => false
  | .vcCommit _ _ => false
  | .pageMigrate _ _ _ => false
  | .thrashThrottleExpiry _ _ => false
  | .launch _ _ _ => false
  | .launchStart _ _ => false
  | .unitPlace _ => false
  | .edgeSatisfied _ _ => false
  | .launchComplete _ => false
  | .preemptDelayExpiry _ => false
  | .preemptDeadline _ => false
  | .coreRelease _ _ => false
  | .forcedStop _ _ _ => false
  | .scanComplete _ _ => false
  | .imageRestore _ _ _ => false
  | .contextResume _ _ => false
  | .contextMigrate _ _ => false
  | .watchpointHit _ => false
  | .hostWrite _ _ _ _ => false
  | .hostRead _ _ _ _ => false
  | .lctAck _ _ => false
  | .lctRetransmitTimeout _ => false
  | .contextCreate _ _ _ _ _ _ _ => false
  | .contextDestroy _ _ => false
  | .queueBind _ _ _ _ => false
  | .queueUnbind _ _ => false
  | .rangeRegisterWrite _ _ _ _ => false
  | .pageMap _ _ _ _ _ => false
  | .pageUnmap _ _ _ _ => false
  | .pageChange _ _ _ _ _ => false
  | .windowOpenClose _ _ _ _ _ _ _ _ _ => false
  | .sessionOpenClose _ _ _ _ _ => false
  | .faultResolve _ _ _ => false
  | .faultFail _ _ _ => false
  | .trapResume _ _ _ => false
  | .trapRetry _ _ _ => false
  | .trapAbandon _ _ _ => false
  | .fabricRecordWrite _ _ _ => false
  | .fabricGroupOp _ _ _ _ _ => false
  | .portStatus _ _ _ => false
  | .cutMapRead _ _ => false
  | .delayThrashSet _ _ _ _ => false
  | .imageSubmit _ _ _ _ => false
  | .imageRelease _ _ _ => false
  | .quotaSet _ _ _ => false
  | .marketAllotmentSet _ _ _ _ _ => false
  | .arpRequest _ => false
  | .icmpEcho _ => false
  | .flitRetransmit _ => false
  | .portStateChange _ _ => false
  | .bankMarkFailed _ _ => false
  | .bankRebuildRow _ => false
  | .clockDroop _ _ => false
  | .clockStepUp _ => false
  | .governorRound _ => false
  | .thermalLimit _ => false
  | .thermalTrip => false
  | .corePowerRemove => false
  | .powerUp _ => false
  | .unassignedWordIssue _ => false
  | .priorityFlowControlFrame _ _ => false

end Sys2Proof
end

