-- ==== Sys2Proof/Decode.lean ====
section
/-!
DEFINITION. Instruction words: the split of R67, the opcode map of R85 to R94 read from major and fn (or the
sub-fields that the map names), the operand checks, and the encoder. What reads a word is marked noncomputable only
because Lean's runtime has no tag for the constructors of `Instr` above the 245th: the kernel evaluates all of it.
-/
namespace Sys2Proof

/-- Why a word is not an instruction. -/
inductive DecodeError where
  /-- The word is unassigned (R84): issuing it raises the illegal-instruction trap. -/
  | unassigned (w : Word)
  /-- Fewer than four bytes are left, or the width is not that of an instruction word (R67). -/
  | notAWord
deriving DecidableEq, Repr

/-- The word with the base fields of R67: S, major, d, a, b, fn. -/
def mkWord (s : Bool) (maj : BitVec 6) (d a b : Fld) (fn : BitVec 4) : Word :=
  (BitVec.ofBool s ++ maj ++ d ++ a ++ b ++ fn : BitVec (1 + 6 + 7 + 7 + 7 + 4))

def wordS (w : Word) : Bool := w.getLsbD 31
def wordMajor (w : Word) : BitVec 6 := w.extractLsb' 25 6
def wordD (w : Word) : Fld := w.extractLsb' 18 7
def wordA (w : Word) : Fld := w.extractLsb' 11 7
def wordB (w : Word) : Fld := w.extractLsb' 4 7
def wordFn (w : Word) : BitVec 4 := w.extractLsb' 0 4

def decode00 (s : Bool) (d a b : Fld) (fn : BitVec 4) : Option Instr :=
  match fn.toNat with
  | 1 => some (.addI32 s d a b)
  | 2 => some (.subI32 s d a b)
  | 3 => some (.addSatI32 s d a b)
  | 4 => some (.subSatI32 s d a b)
  | 5 => some (.addSatN32 s d a b)
  | 6 => some (.subSatN32 s d a b)
  | 7 => some (.mulloI32 s d a b)
  | 8 => some (.mulhiI32 s d a b)
  | 9 => some (.mulhiN32 s d a b)
  | 10 => some (.minI32 s d a b)
  | 11 => some (.maxI32 s d a b)
  | 12 => some (.minN32 s d a b)
  | 13 => some (.maxN32 s d a b)
  | 14 => if b == 0#7 then some (.absI32 s d a) else none
  | 15 => if b == 0#7 then some (.negI32 s d a) else none
  | _ => none

def decode01 (s : Bool) (d a b : Fld) (fn : BitVec 4) : Option Instr :=
  match fn.toNat with
  | 0 => some (.addI64 s d a b)
  | 1 => some (.subI64 s d a b)
  | 2 => some (.mulloI64 s d a b)
  | 3 => some (.mulhiI64 s d a b)
  | 4 => some (.mulhiN64 s d a b)
  | 5 => some (.minI64 s d a b)
  | 6 => some (.maxI64 s d a b)
  | 7 => some (.minN64 s d a b)
  | 8 => some (.maxN64 s d a b)
  | 9 => if b == 0#7 then some (.negI64 s d a) else none
  | 10 => if b == 0#7 then some (.absI64 s d a) else none
  | _ => none

def decode02 (s : Bool) (d a b : Fld) (fn : BitVec 4) : Option Instr :=
  match fn.toNat with
  | 0 => some (.andB32 s d a b)
  | 1 => some (.orB32 s d a b)
  | 2 => some (.xorB32 s d a b)
  | 3 => some (.andnB32 s d a b)
  | 4 => some (.ornB32 s d a b)
  | 5 => some (.xnorB32 s d a b)
  | 6 => if b == 0#7 then some (.notB32 s d a) else none
  | 7 => some (.shlB32 s d a b)
  | 8 => some (.shrB32 s d a b)
  | 9 => some (.sarB32 s d a b)
  | 10 => some (.rotlB32 s d a b)
  | 11 => some (.rotrB32 s d a b)
  | 12 => if b == 0#7 then some (.movB32 s d a) else none
  | 13 => if b == 0#7 then some (.movB64 s d a) else none
  | _ => none

def decode03 (s : Bool) (d a b : Fld) (fn : BitVec 4) : Option Instr :=
  match fn.toNat with
  | 0 => if b == 0#7 then some (.popcB32 s d a) else none
  | 1 => if b == 0#7 then some (.clzB32 s d a) else none
  | 2 => if b == 0#7 then some (.ctzB32 s d a) else none
  | 3 => if b == 0#7 then some (.brevB32 s d a) else none
  | 4 => some (.bfeI32 s d a b)
  | 5 => some (.bfeN32 s d a b)
  | 6 => some (.bfiB32 s d a b)
  | 7 => some (.bselB32 s d a b)
  | 8 => some (.shlB64 s d a b)
  | 9 => some (.shrB64 s d a b)
  | 10 => some (.sarB64 s d a b)
  | 11 => if b == 0#7 then some (.popcB64 s d a) else none
  | 12 => if b == 0#7 then some (.clzB64 s d a) else none
  | _ => none

def decode04 (s : Bool) (d a b : Fld) (fn : BitVec 4) : Option Instr :=
  match fn.toNat with
  | 0 => some (.setEqB32 s d a b)
  | 1 => some (.setNeB32 s d a b)
  | 2 => some (.setLtI32 s d a b)
  | 3 => some (.setLeI32 s d a b)
  | 4 => some (.setLtN32 s d a b)
  | 5 => some (.setLeN32 s d a b)
  | 6 => some (.setEqB64 s d a b)
  | 7 => some (.setNeB64 s d a b)
  | 8 => some (.setLtI64 s d a b)
  | 9 => some (.setLeI64 s d a b)
  | 10 => some (.setLtN64 s d a b)
  | 11 => some (.setLeN64 s d a b)
  | 12 => some (.selB32 s d a b)
  | 13 => some (.selB64 s d a b)
  | _ => none

def decode05 (s : Bool) (d a b : Fld) (fn : BitVec 4) : Option Instr :=
  some (.addiI32 s d a (b ++ fn))

def decode06 (s : Bool) (d a b : Fld) (fn : BitVec 4) : Option Instr :=
  some (.andiB32 s d a (b ++ fn))

def decode07 (s : Bool) (d a b : Fld) (fn : BitVec 4) : Option Instr :=
  some (.oriB32 s d a (b ++ fn))

def decode08 (s : Bool) (d a b : Fld) (fn : BitVec 4) : Option Instr :=
  some (.xoriB32 s d a (b ++ fn))

def decode09 (s : Bool) (d a b : Fld) (fn : BitVec 4) : Option Instr :=
  if b.extractLsb' 2 2 == 0#2 && b.extractLsb' 5 2 == 0#2 then some (.shli s d a (b.getLsbD 4) ((b.extractLsb' 0 2) ++ fn))
  else if b.extractLsb' 2 2 == 0#2 && b.extractLsb' 5 2 == 1#2 then some (.shri s d a (b.getLsbD 4) ((b.extractLsb' 0 2) ++ fn))
  else if b.extractLsb' 2 2 == 0#2 && b.extractLsb' 5 2 == 2#2 then some (.sari s d a (b.getLsbD 4) ((b.extractLsb' 0 2) ++ fn))
  else if b.extractLsb' 2 2 == 0#2 && b.extractLsb' 5 2 == 3#2 then some (.rotri s d a (b.getLsbD 4) ((b.extractLsb' 0 2) ++ fn))
  else none

def decode0A (s : Bool) (d a b : Fld) (fn : BitVec 4) : Option Instr :=
  match fn.toNat with
  | 0 => some (.andB64 s d a b)
  | 1 => some (.orB64 s d a b)
  | 2 => some (.xorB64 s d a b)
  | 3 => if b == 0#7 then some (.notB64 s d a) else none
  | 4 => some (.rotlB64 s d a b)
  | 5 => some (.rotrB64 s d a b)
  | _ => none

def decode0B (s : Bool) (d a b : Fld) (fn : BitVec 4) : Option Instr :=
  some (.movi s d (a ++ b ++ fn))

def decode0C (s : Bool) (d a b : Fld) (fn : BitVec 4) : Option Instr :=
  if a.extractLsb' 5 2 == 0#2 then some (.movhi s d ((a.extractLsb' 0 5) ++ b ++ fn))
  else none

def decode0D (s : Bool) (d a b : Fld) (fn : BitVec 4) : Option Instr :=
  if a.extractLsb' 5 2 == 0#2 then some (.movlo s d ((a.extractLsb' 0 5) ++ b ++ fn))
  else none

def decode0E (s : Bool) (d a b : Fld) (fn : BitVec 4) : Option Instr :=
  match fn.toNat with
  | 0 => some (.addaI s d a b)
  | 1 => some (.addaN s d a b)
  | 2 => some (.madaN32 s d a b)
  | 3 => if b == 0#7 then some (.extI32 s d a) else none
  | 4 => if b == 0#7 then some (.extN32 s d a) else none
  | 5 => if b == 0#7 then some (.truncB64 s d a) else none
  | _ => none

def decode0F (s : Bool) (d a b : Fld) (fn : BitVec 4) : Option Instr :=
  if a == 0#7 && b == 16#7 && fn == 6#4 then some (.srdPos s d)
  else if d == 0#7 && b == 64#7 && fn == 8#4 then some (.swrFst s a)
  else if d == 0#7 && b == 68#7 && fn == 1#4 then some (.swrPreq s a)
  else if d == 0#7 && b == 68#7 && fn == 5#4 then some (.swrFltcc s a)
  else if a == 0#7 && b.extractLsb' 4 3 == 0#3 then some (.srd s d ((b.extractLsb' 0 4) ++ fn))
  else if d == 0#7 && b.extractLsb' 4 3 == 4#3 then some (.swr s a ((b.extractLsb' 0 4) ++ fn))
  else none

def decode10 (s : Bool) (d a b : Fld) (fn : BitVec 4) : Option Instr :=
  if fn.extractLsb' 0 2 == 0#2 then some (.faddF32 s d a b (fn.extractLsb' 2 2))
  else if fn.extractLsb' 0 2 == 1#2 then some (.fsubF32 s d a b (fn.extractLsb' 2 2))
  else if fn.extractLsb' 0 2 == 2#2 then some (.fmulF32 s d a b (fn.extractLsb' 2 2))
  else if fn.extractLsb' 0 2 == 3#2 then some (.ffmaF32 s d a b (fn.extractLsb' 2 2))
  else none

def decode11 (s : Bool) (d a b : Fld) (fn : BitVec 4) : Option Instr :=
  if fn.extractLsb' 0 2 == 0#2 then some (.faddF64 s d a b (fn.extractLsb' 2 2))
  else if fn.extractLsb' 0 2 == 1#2 then some (.fsubF64 s d a b (fn.extractLsb' 2 2))
  else if fn.extractLsb' 0 2 == 2#2 then some (.fmulF64 s d a b (fn.extractLsb' 2 2))
  else if fn.extractLsb' 0 2 == 3#2 then some (.ffmaF64 s d a b (fn.extractLsb' 2 2))
  else none

def decode12 (s : Bool) (d a b : Fld) (fn : BitVec 4) : Option Instr :=
  if fn.extractLsb' 0 2 == 0#2 then some (.faddBf16x2 s d a b (fn.extractLsb' 2 2))
  else if fn.extractLsb' 0 2 == 1#2 then some (.fsubBf16x2 s d a b (fn.extractLsb' 2 2))
  else if fn.extractLsb' 0 2 == 2#2 then some (.fmulBf16x2 s d a b (fn.extractLsb' 2 2))
  else if fn.extractLsb' 0 2 == 3#2 then some (.ffmaBf16x2 s d a b (fn.extractLsb' 2 2))
  else none

def decode13 (s : Bool) (d a b : Fld) (fn : BitVec 4) : Option Instr :=
  if fn.extractLsb' 0 2 == 0#2 then some (.faddF16x2 s d a b (fn.extractLsb' 2 2))
  else if fn.extractLsb' 0 2 == 1#2 then some (.fsubF16x2 s d a b (fn.extractLsb' 2 2))
  else if fn.extractLsb' 0 2 == 2#2 then some (.fmulF16x2 s d a b (fn.extractLsb' 2 2))
  else if fn.extractLsb' 0 2 == 3#2 then some (.ffmaF16x2 s d a b (fn.extractLsb' 2 2))
  else none

def decode14 (s : Bool) (d a b : Fld) (fn : BitVec 4) : Option Instr :=
  match fn.toNat with
  | 0 => some (.fminF32 s d a b)
  | 1 => some (.fmaxF32 s d a b)
  | 2 => if b == 0#7 then some (.fabsF32 s d a) else none
  | 3 => if b == 0#7 then some (.fnegF32 s d a) else none
  | 4 => some (.fcpsgnF32 s d a b)
  | 5 => some (.fdivF32 s d a b)
  | 6 => if b == 0#7 then some (.fsqrtF32 s d a) else none
  | 7 => some (.fsetEqF32 s d a b)
  | 8 => some (.fsetNeF32 s d a b)
  | 9 => some (.fsetLtF32 s d a b)
  | 10 => some (.fsetLeF32 s d a b)
  | 11 => some (.fsetUnF32 s d a b)
  | 12 => if b == 0#7 then some (.fclassF32 s d a) else none
  | _ => none

def decode15 (s : Bool) (d a b : Fld) (fn : BitVec 4) : Option Instr :=
  match fn.toNat with
  | 0 => some (.fminF64 s d a b)
  | 1 => some (.fmaxF64 s d a b)
  | 2 => if b == 0#7 then some (.fabsF64 s d a) else none
  | 3 => if b == 0#7 then some (.fnegF64 s d a) else none
  | 4 => some (.fcpsgnF64 s d a b)
  | 5 => some (.fdivF64 s d a b)
  | 6 => if b == 0#7 then some (.fsqrtF64 s d a) else none
  | 7 => some (.fsetEqF64 s d a b)
  | 8 => some (.fsetNeF64 s d a b)
  | 9 => some (.fsetLtF64 s d a b)
  | 10 => some (.fsetLeF64 s d a b)
  | 11 => some (.fsetUnF64 s d a b)
  | 12 => if b == 0#7 then some (.fclassF64 s d a) else none
  | _ => none

def decode16 (s : Bool) (d a b : Fld) (fn : BitVec 4) : Option Instr :=
  match fn.toNat with
  | 0 => some (.fminBf16x2 s d a b)
  | 1 => some (.fmaxBf16x2 s d a b)
  | 2 => if b == 0#7 then some (.fabsBf16x2 s d a) else none
  | 3 => if b == 0#7 then some (.fnegBf16x2 s d a) else none
  | 4 => some (.fminF16x2 s d a b)
  | 5 => some (.fmaxF16x2 s d a b)
  | 6 => if b == 0#7 then some (.fabsF16x2 s d a) else none
  | 7 => if b == 0#7 then some (.fnegF16x2 s d a) else none
  | _ => none

def decode17 (s : Bool) (d a b : Fld) (fn : BitVec 4) : Option Instr :=
  match fn.toNat with
  | 0 => if b == 0#7 then some (.frcpF32 s d a) else none
  | 1 => if b == 0#7 then some (.frsqrtF32 s d a) else none
  | 2 => if b == 0#7 then some (.fexp2F32 s d a) else none
  | 3 => if b == 0#7 then some (.flog2F32 s d a) else none
  | 4 => if b == 0#7 then some (.fsinpiF32 s d a) else none
  | 5 => if b == 0#7 then some (.fcospiF32 s d a) else none
  | 6 => if b == 0#7 then some (.ftanhF32 s d a) else none
  | _ => none

def decode18 (s : Bool) (d a b : Fld) (fn : BitVec 4) : Option Instr :=
  match fn.toNat with
  | 0 => if b == 0#7 then some (.frcpF64 s d a) else none
  | 1 => if b == 0#7 then some (.frsqrtF64 s d a) else none
  | 2 => if b == 0#7 then some (.fexp2F64 s d a) else none
  | 3 => if b == 0#7 then some (.flog2F64 s d a) else none
  | _ => none

def decode1C (s : Bool) (d a b : Fld) (fn : BitVec 4) : Option Instr :=
  if b.extractLsb' 0 1 == 0#1 then some (.cvt s d a (b.extractLsb' 3 4) (b.extractLsb' 1 2) fn)
  else none

noncomputable def decode1D (s : Bool) (d a b : Fld) (fn : BitVec 4) : Option Instr :=
  match fn.toNat with
  | 0 => some (.cvtpBf16x2F32 s d a b)
  | 1 => some (.cvtpF16x2F32 s d a b)
  | 2 => some (.insE8 s d a b)
  | 3 => some (.insE4 s d a b)
  | 4 => some (.extE8 s d a b)
  | 5 => some (.extE4 s d a b)
  | _ => none

noncomputable def decode1E (s : Bool) (d a b : Fld) (fn : BitVec 4) : Option Instr :=
  match fn.toNat with
  | 0 => if b == 0#7 then some (.cvtS8E8m0 s d a) else none
  | 1 => if b == 0#7 then some (.cvtE8m0S8 s d a) else none
  | 2 => some (.sclF32 s d a b)
  | 3 => some (.sclF64 s d a b)
  | _ => none

noncomputable def decode1F (s : Bool) (d a b : Fld) (fn : BitVec 4) : Option Instr :=
  match fn.toNat with
  | 0 => some (.dp4I8 s d a b)
  | 1 => some (.dp4N8 s d a b)
  | 2 => some (.dp4F8e4m3 s d a b)
  | 3 => some (.dp4F8e5m2 s d a b)
  | 4 => some (.dp8I4 s d a b)
  | 5 => some (.dp8N4 s d a b)
  | 6 => some (.dp8F4e2m1 s d a b)
  | _ => none

noncomputable def decode20 (s : Bool) (d a b : Fld) (fn : BitVec 4) : Option Instr :=
  if fn.extractLsb' 3 1 == 0#1 then some (.ldP s d a b (fn.extractLsb' 0 3))
  else if fn.extractLsb' 3 1 == 1#1 then some (.ldC s d a b (fn.extractLsb' 0 3))
  else none

noncomputable def decode21 (s : Bool) (d a b : Fld) (fn : BitVec 4) : Option Instr :=
  if fn.extractLsb' 3 1 == 0#1 then some (.stP s d a b (fn.extractLsb' 0 3))
  else if fn.extractLsb' 3 1 == 1#1 then some (.stC s d a b (fn.extractLsb' 0 3))
  else none

noncomputable def decode22 (s : Bool) (d a b : Fld) (fn : BitVec 4) : Option Instr :=
  if fn.extractLsb' 3 1 == 0#1 then some (.ldQ s d a b (fn.extractLsb' 0 3))
  else if fn.extractLsb' 3 1 == 1#1 then some (.ldM s d a b (fn.extractLsb' 0 3))
  else none

noncomputable def decode23 (s : Bool) (d a b : Fld) (fn : BitVec 4) : Option Instr :=
  if fn.extractLsb' 3 1 == 0#1 then some (.stQ s d a b (fn.extractLsb' 0 3))
  else if fn.extractLsb' 3 1 == 1#1 then some (.stM s d a b (fn.extractLsb' 0 3))
  else none

noncomputable def decode24 (s : Bool) (d a b : Fld) (fn : BitVec 4) : Option Instr :=
  if fn.extractLsb' 3 1 == 0#1 then some (.ldG s d a b (fn.extractLsb' 0 3))
  else if fn.extractLsb' 3 1 == 1#1 then some (.ldGNt s d a b (fn.extractLsb' 0 3))
  else none

noncomputable def decode25 (s : Bool) (d a b : Fld) (fn : BitVec 4) : Option Instr :=
  if fn.extractLsb' 3 1 == 0#1 then some (.stG s d a b (fn.extractLsb' 0 3))
  else if fn.extractLsb' 3 1 == 1#1 then some (.stGNt s d a b (fn.extractLsb' 0 3))
  else none

noncomputable def decode26 (s : Bool) (d a b : Fld) (fn : BitVec 4) : Option Instr :=
  match fn.toNat with
  | 0 => if d == 0#7 then some (.prfL1 s a b) else none
  | 1 => if d == 0#7 then some (.prfL2 s a b) else none
  | _ => none

noncomputable def decode28 (s : Bool) (d a b : Fld) (fn : BitVec 4) : Option Instr :=
  match fn.toNat with
  | 0 => some (.atomAdd s d a (b.extractLsb' 4 3) (b.extractLsb' 0 4))
  | 1 => some (.atomAnd s d a (b.extractLsb' 4 3) (b.extractLsb' 0 4))
  | 2 => some (.atomOr s d a (b.extractLsb' 4 3) (b.extractLsb' 0 4))
  | 3 => some (.atomXor s d a (b.extractLsb' 4 3) (b.extractLsb' 0 4))
  | 4 => some (.atomMinI s d a (b.extractLsb' 4 3) (b.extractLsb' 0 4))
  | 5 => some (.atomMaxI s d a (b.extractLsb' 4 3) (b.extractLsb' 0 4))
  | 6 => some (.atomMinN s d a (b.extractLsb' 4 3) (b.extractLsb' 0 4))
  | 7 => some (.atomMaxN s d a (b.extractLsb' 4 3) (b.extractLsb' 0 4))
  | 8 => some (.atomExch s d a (b.extractLsb' 4 3) (b.extractLsb' 0 4))
  | 9 => some (.atomCas s d a (b.extractLsb' 4 3) (b.extractLsb' 0 4))
  | _ => none

noncomputable def decode29 (s : Bool) (d a b : Fld) (fn : BitVec 4) : Option Instr :=
  match fn.toNat with
  | 0 => some (.redAdd s d a (b.extractLsb' 4 3) (b.extractLsb' 0 4))
  | 1 => some (.redAnd s d a (b.extractLsb' 4 3) (b.extractLsb' 0 4))
  | 2 => some (.redOr s d a (b.extractLsb' 4 3) (b.extractLsb' 0 4))
  | 3 => some (.redXor s d a (b.extractLsb' 4 3) (b.extractLsb' 0 4))
  | 4 => some (.redMinI s d a (b.extractLsb' 4 3) (b.extractLsb' 0 4))
  | 5 => some (.redMaxI s d a (b.extractLsb' 4 3) (b.extractLsb' 0 4))
  | 6 => some (.redMinN s d a (b.extractLsb' 4 3) (b.extractLsb' 0 4))
  | 7 => some (.redMaxN s d a (b.extractLsb' 4 3) (b.extractLsb' 0 4))
  | _ => none

noncomputable def decode2A (s : Bool) (d a b : Fld) (fn : BitVec 4) : Option Instr :=
  match fn.toNat with
  | 0 => if d == 0#7 && a == 0#7 && b.extractLsb' 4 3 == 0#3 then some (.fenceAcq s (b.extractLsb' 0 4)) else none
  | 1 => if d == 0#7 && a == 0#7 && b.extractLsb' 4 3 == 0#3 then some (.fenceRel s (b.extractLsb' 0 4)) else none
  | 2 => if d == 0#7 && a == 0#7 && b.extractLsb' 4 3 == 0#3 then some (.fenceAr s (b.extractLsb' 0 4)) else none
  | 3 => if d == 0#7 && a == 0#7 && b.extractLsb' 4 3 == 0#3 then some (.fenceSc s (b.extractLsb' 0 4)) else none
  | _ => none

noncomputable def decode2B (s : Bool) (d a b : Fld) (fn : BitVec 4) : Option Instr :=
  match fn.toNat with
  | 0 => if d == 0#7 && b.extractLsb' 4 3 == 0#3 then some (.scset s a (b.extractLsb' 0 4)) else none
  | 1 => if d == 0#7 && a == 0#7 && b.extractLsb' 4 3 == 0#3 then some (.scinv s (b.extractLsb' 0 4)) else none
  | 2 => if a == 0#7 && b.extractLsb' 4 3 == 0#3 then some (.scqry s d (b.extractLsb' 0 4)) else none
  | 3 => if a == 0#7 && b.extractLsb' 4 3 == 0#3 then some (.scmem s d (b.extractLsb' 0 4)) else none
  | _ => none

noncomputable def decode2C (s : Bool) (d a b : Fld) (fn : BitVec 4) : Option Instr :=
  some (.ctb s d a b fn)

noncomputable def decode2D (s : Bool) (d a b : Fld) (fn : BitVec 4) : Option Instr :=
  if b == 0#7 then some (.ctbn s d a fn)
  else none

noncomputable def decode2E (s : Bool) (d a b : Fld) (fn : BitVec 4) : Option Instr :=
  some (.ctbm s d a b fn)

noncomputable def decode2F (s : Bool) (d a b : Fld) (fn : BitVec 4) : Option Instr :=
  match fn.toNat with
  | 0 => some (.slotOpen s d a b)
  | 1 => if a == 0#7 then some (.slotClose s d b) else none
  | 2 => if a == 0#7 then some (.slotWait s d b) else none
  | 3 => if a == 0#7 then some (.slotStat s d b) else none
  | _ => none

noncomputable def decode30 (s : Bool) (d a b : Fld) (fn : BitVec 4) : Option Instr :=
  match fn.toNat with
  | 0 => if d == 0#7 && b.extractLsb' 4 3 == 0#3 then some (.oprDef s a (b.extractLsb' 0 4)) else none
  | 1 => if d == 0#7 && a == 0#7 && b.extractLsb' 4 3 == 0#3 then some (.oprRel s (b.extractLsb' 0 4)) else none
  | 2 => if a == 0#7 && b.extractLsb' 4 3 == 0#3 then some (.oprQry s d (b.extractLsb' 0 4)) else none
  | _ => none

noncomputable def decode31 (s : Bool) (d a b : Fld) (fn : BitVec 4) : Option Instr :=
  match fn.toNat with
  | 0 => if b.extractLsb' 4 3 == 0#3 then some (.stp s d a (b.extractLsb' 0 4)) else none
  | 1 => if b.extractLsb' 4 3 == 0#3 then some (.stpSc s d a (b.extractLsb' 0 4)) else none
  | 2 => if b.extractLsb' 4 3 == 0#3 then some (.ldp s d a (b.extractLsb' 0 4)) else none
  | 3 => if b.extractLsb' 4 3 == 0#3 then some (.ldpSc s d a (b.extractLsb' 0 4)) else none
  | _ => none

noncomputable def decode32 (s : Bool) (d a b : Fld) (fn : BitVec 4) : Option Instr :=
  if d.extractLsb' 4 3 == 0#3 && b.extractLsb' 4 3 == 0#3 then some (.mma s (d.extractLsb' 0 4) (a.extractLsb' 4 3) (a.extractLsb' 0 4) (b.extractLsb' 0 4) fn)
  else none

noncomputable def decode33 (s : Bool) (d a b : Fld) (fn : BitVec 4) : Option Instr :=
  match fn.toNat with
  | 0 => if d == 0#7 && a == 0#7 && b.extractLsb' 4 3 == 0#3 then some (.accClr s (b.extractLsb' 0 4)) else none
  | 1 => if b.extractLsb' 4 3 == 0#3 then some (.accRd s d a (b.extractLsb' 0 4)) else none
  | _ => none

noncomputable def decode34 (s : Bool) (d a b : Fld) (fn : BitVec 4) : Option Instr :=
  if d == 0#7 && b.extractLsb' 4 3 == 0#3 then some (.drain s a (b.extractLsb' 0 4) fn)
  else some (.drainMx s d a (b.extractLsb' 4 3) (b.extractLsb' 0 4) fn)

noncomputable def decode36 (s : Bool) (d a b : Fld) (fn : BitVec 4) : Option Instr :=
  match fn.toNat with
  | 0 => if b == 0#7 then some (.cpy s d a) else none
  | 1 => if b == 0#7 then some (.cpyc s d a) else none
  | 2 => if b == 0#7 then some (.chain s d a) else none
  | 3 => if b == 0#7 then some (.cpyw s d a) else none
  | _ => none

noncomputable def decode37 (s : Bool) (d a b : Fld) (fn : BitVec 4) : Option Instr :=
  match fn.toNat with
  | 0 => if d == 0#7 && b.extractLsb' 3 4 == 0#4 then some (.chBind s a (b.extractLsb' 0 3)) else none
  | 1 => if d == 0#7 && a == 0#7 && b.extractLsb' 3 4 == 0#4 then some (.chFree s (b.extractLsb' 0 3)) else none
  | 2 => if a == 0#7 && b.extractLsb' 3 4 == 0#4 then some (.chCnt s d (b.extractLsb' 0 3)) else none
  | _ => none

noncomputable def decode38 (s : Bool) (d a b : Fld) (fn : BitVec 4) : Option Instr :=
  match fn.toNat with
  | 0 => some (.rng s d a b)
  | 1 => if b == 0#7 then some (.rngReg s d a) else none
  | 2 => if b == 0#7 then some (.rngUnreg s d a) else none
  | _ => none

noncomputable def decode39 (s : Bool) (d a b : Fld) (fn : BitVec 4) : Option Instr :=
  match fn.toNat with
  | 0 => if b.extractLsb' 3 4 == 0#4 then some (.vcdef s d a (b.extractLsb' 0 3)) else none
  | 1 => if a == 0#7 && b.extractLsb' 3 4 == 0#4 then some (.vcqry s d (b.extractLsb' 0 3)) else none
  | 2 => if b == 0#7 then some (.ckcut s d a) else none
  | _ => none

noncomputable def decode3A (s : Bool) (d a b : Fld) (fn : BitVec 4) : Option Instr :=
  some (.bnz s d (a ++ b ++ fn))

noncomputable def decode3B (s : Bool) (d a b : Fld) (fn : BitVec 4) : Option Instr :=
  some (.bz s d (a ++ b ++ fn))

noncomputable def decode3C (s : Bool) (d a b : Fld) (fn : BitVec 4) : Option Instr :=
  some (.call s d (a ++ b ++ fn))

noncomputable def decode3D (s : Bool) (d a b : Fld) (fn : BitVec 4) : Option Instr :=
  match fn.toNat with
  | 0 => if d == 0#7 && b == 0#7 then some (.jmpi s a) else none
  | 1 => if b == 0#7 then some (.calli s d a) else none
  | 2 => if d == 0#7 && b == 0#7 then some (.ret s a) else none
  | 3 => if d == 0#7 && a == 0#7 && b == 0#7 then some (.exit s) else none
  | 4 => if d == 0#7 && a == 0#7 && b == 0#7 then some (.ychk s) else none
  | 5 => if d == 0#7 && a == 0#7 && b == 0#7 then some (.yield s) else none
  | 6 => if d == 0#7 && a == 0#7 then some (.win s b) else none
  | 7 => if b.extractLsb' 1 6 == 0#6 then some (.gnew s d a (b.getLsbD 0)) else none
  | 8 => if d == 0#7 && b == 0#7 then some (.join s a) else none
  | 9 => if d == 0#7 && a == 0#7 && b == 0#7 then some (.leave s) else none
  | 10 => if d == 0#7 && a == 0#7 && b == 0#7 then some (.bar s) else none
  | _ => none

noncomputable def decode3E (s : Bool) (d a b : Fld) (fn : BitVec 4) : Option Instr :=
  match fn.toNat with
  | 0 => if d == 0#7 && a == 0#7 then some (.trap s b) else none
  | 1 => if d == 0#7 && a == 0#7 && b == 0#7 then some (.brk s) else none
  | 2 => if d == 0#7 && a == 0#7 && b == 0#7 then some (.nop s) else none
  | 3 => if d == 0#7 && b == 0#7 then some (.fltReplay s a) else none
  | 4 => some (.scanStop s d a b)
  | 5 => some (.wpset s d a b)
  | 6 => if d == 0#7 && a == 0#7 then some (.wpclr s b) else none
  | 7 => if b == 0#7 then some (.step s d a) else none
  | _ => none

noncomputable def decode3F (s : Bool) (d a b : Fld) (fn : BitVec 4) : Option Instr :=
  match fn.toNat with
  | 0 => some (.dpair s (d.getLsbD 6) ((d.extractLsb' 0 6) ++ (a.extractLsb' 3 4)) ((a.extractLsb' 0 3) ++ b))
  | _ => none

/-- The opcode map: major first (R84). -/
noncomputable def decodeFields (s : Bool) (maj : BitVec 6) (d a b : Fld) (fn : BitVec 4) : Option Instr :=
  match maj.toNat with
  | 0 => decode00 s d a b fn
  | 1 => decode01 s d a b fn
  | 2 => decode02 s d a b fn
  | 3 => decode03 s d a b fn
  | 4 => decode04 s d a b fn
  | 5 => decode05 s d a b fn
  | 6 => decode06 s d a b fn
  | 7 => decode07 s d a b fn
  | 8 => decode08 s d a b fn
  | 9 => decode09 s d a b fn
  | 10 => decode0A s d a b fn
  | 11 => decode0B s d a b fn
  | 12 => decode0C s d a b fn
  | 13 => decode0D s d a b fn
  | 14 => decode0E s d a b fn
  | 15 => decode0F s d a b fn
  | 16 => decode10 s d a b fn
  | 17 => decode11 s d a b fn
  | 18 => decode12 s d a b fn
  | 19 => decode13 s d a b fn
  | 20 => decode14 s d a b fn
  | 21 => decode15 s d a b fn
  | 22 => decode16 s d a b fn
  | 23 => decode17 s d a b fn
  | 24 => decode18 s d a b fn
  | 28 => decode1C s d a b fn
  | 29 => decode1D s d a b fn
  | 30 => decode1E s d a b fn
  | 31 => decode1F s d a b fn
  | 32 => decode20 s d a b fn
  | 33 => decode21 s d a b fn
  | 34 => decode22 s d a b fn
  | 35 => decode23 s d a b fn
  | 36 => decode24 s d a b fn
  | 37 => decode25 s d a b fn
  | 38 => decode26 s d a b fn
  | 40 => decode28 s d a b fn
  | 41 => decode29 s d a b fn
  | 42 => decode2A s d a b fn
  | 43 => decode2B s d a b fn
  | 44 => decode2C s d a b fn
  | 45 => decode2D s d a b fn
  | 46 => decode2E s d a b fn
  | 47 => decode2F s d a b fn
  | 48 => decode30 s d a b fn
  | 49 => decode31 s d a b fn
  | 50 => decode32 s d a b fn
  | 51 => decode33 s d a b fn
  | 52 => decode34 s d a b fn
  | 54 => decode36 s d a b fn
  | 55 => decode37 s d a b fn
  | 56 => decode38 s d a b fn
  | 57 => decode39 s d a b fn
  | 58 => decode3A s d a b fn
  | 59 => decode3B s d a b fn
  | 60 => decode3C s d a b fn
  | 61 => decode3D s d a b fn
  | 62 => decode3E s d a b fn
  | 63 => decode3F s d a b fn
  | _ => none

/-- The decoder of one word: map, then operand checks (R84). Every other word is unassigned. -/
noncomputable def decodeWord (w : Word) : Except DecodeError Instr :=
  match decodeFields (wordS w) (wordMajor w) (wordD w) (wordA w) (wordB w) (wordFn w) with
  | some i => if i.wf then .ok i else .error (.unassigned w)
  | none => .error (.unassigned w)

/-- The little-endian word at the head of a list of bytes (R9). -/
def wordOfBytes : List Byte → Option (Word × List Byte)
  | b0 :: b1 :: b2 :: b3 :: rest => some (b3 ++ b2 ++ b1 ++ b0, rest)
  | _ => none

/-- The bytes of a word as memory holds them (R9). -/
def bytesOfWord (w : Word) : List Byte :=
  [w.extractLsb' 0 8, w.extractLsb' 8 8, w.extractLsb' 16 8, w.extractLsb' 24 8]

/-- The decoder on bytes: one instruction and the bytes that follow it. -/
noncomputable def decode (bs : List Byte) : Except DecodeError (Instr × List Byte) :=
  match wordOfBytes bs with
  | none => .error .notAWord
  | some (w, rest) =>
    match decodeWord w with
    | .ok i => .ok (i, rest)
    | .error e => .error e

/-- The host's question: what the decoder reads from the word w of a row of `nbits` bits. -/
noncomputable def decodeTableWord (nbits w : Nat) : Option Instr :=
  if nbits ≤ 32 then
    match decode (bytesOfWord (BitVec.ofNat 32 w)) with
    | .ok (i, _) => some i
    | .error _ => none
  else none

/-- The encoder: the word of an instruction (R67, R85 to R94). A device event has no word. -/
def encode : Instr → Option Word
  | .addI32 s d a b => some (mkWord s 0#6 d a b 1#4)
  | .subI32 s d a b => some (mkWord s 0#6 d a b 2#4)
  | .addSatI32 s d a b => some (mkWord s 0#6 d a b 3#4)
  | .subSatI32 s d a b => some (mkWord s 0#6 d a b 4#4)
  | .addSatN32 s d a b => some (mkWord s 0#6 d a b 5#4)
  | .subSatN32 s d a b => some (mkWord s 0#6 d a b 6#4)
  | .mulloI32 s d a b => some (mkWord s 0#6 d a b 7#4)
  | .mulhiI32 s d a b => some (mkWord s 0#6 d a b 8#4)
  | .mulhiN32 s d a b => some (mkWord s 0#6 d a b 9#4)
  | .minI32 s d a b => some (mkWord s 0#6 d a b 10#4)
  | .maxI32 s d a b => some (mkWord s 0#6 d a b 11#4)
  | .minN32 s d a b => some (mkWord s 0#6 d a b 12#4)
  | .maxN32 s d a b => some (mkWord s 0#6 d a b 13#4)
  | .absI32 s d a => some (mkWord s 0#6 d a 0#7 14#4)
  | .negI32 s d a => some (mkWord s 0#6 d a 0#7 15#4)
  | .addI64 s d a b => some (mkWord s 1#6 d a b 0#4)
  | .subI64 s d a b => some (mkWord s 1#6 d a b 1#4)
  | .mulloI64 s d a b => some (mkWord s 1#6 d a b 2#4)
  | .mulhiI64 s d a b => some (mkWord s 1#6 d a b 3#4)
  | .mulhiN64 s d a b => some (mkWord s 1#6 d a b 4#4)
  | .minI64 s d a b => some (mkWord s 1#6 d a b 5#4)
  | .maxI64 s d a b => some (mkWord s 1#6 d a b 6#4)
  | .minN64 s d a b => some (mkWord s 1#6 d a b 7#4)
  | .maxN64 s d a b => some (mkWord s 1#6 d a b 8#4)
  | .negI64 s d a => some (mkWord s 1#6 d a 0#7 9#4)
  | .absI64 s d a => some (mkWord s 1#6 d a 0#7 10#4)
  | .andB32 s d a b => some (mkWord s 2#6 d a b 0#4)
  | .orB32 s d a b => some (mkWord s 2#6 d a b 1#4)
  | .xorB32 s d a b => some (mkWord s 2#6 d a b 2#4)
  | .andnB32 s d a b => some (mkWord s 2#6 d a b 3#4)
  | .ornB32 s d a b => some (mkWord s 2#6 d a b 4#4)
  | .xnorB32 s d a b => some (mkWord s 2#6 d a b 5#4)
  | .notB32 s d a => some (mkWord s 2#6 d a 0#7 6#4)
  | .shlB32 s d a b => some (mkWord s 2#6 d a b 7#4)
  | .shrB32 s d a b => some (mkWord s 2#6 d a b 8#4)
  | .sarB32 s d a b => some (mkWord s 2#6 d a b 9#4)
  | .rotlB32 s d a b => some (mkWord s 2#6 d a b 10#4)
  | .rotrB32 s d a b => some (mkWord s 2#6 d a b 11#4)
  | .movB32 s d a => some (mkWord s 2#6 d a 0#7 12#4)
  | .movB64 s d a => some (mkWord s 2#6 d a 0#7 13#4)
  | .popcB32 s d a => some (mkWord s 3#6 d a 0#7 0#4)
  | .clzB32 s d a => some (mkWord s 3#6 d a 0#7 1#4)
  | .ctzB32 s d a => some (mkWord s 3#6 d a 0#7 2#4)
  | .brevB32 s d a => some (mkWord s 3#6 d a 0#7 3#4)
  | .bfeI32 s d a b => some (mkWord s 3#6 d a b 4#4)
  | .bfeN32 s d a b => some (mkWord s 3#6 d a b 5#4)
  | .bfiB32 s d a b => some (mkWord s 3#6 d a b 6#4)
  | .bselB32 s d a b => some (mkWord s 3#6 d a b 7#4)
  | .shlB64 s d a b => some (mkWord s 3#6 d a b 8#4)
  | .shrB64 s d a b => some (mkWord s 3#6 d a b 9#4)
  | .sarB64 s d a b => some (mkWord s 3#6 d a b 10#4)
  | .popcB64 s d a => some (mkWord s 3#6 d a 0#7 11#4)
  | .clzB64 s d a => some (mkWord s 3#6 d a 0#7 12#4)
  | .setEqB32 s d a b => some (mkWord s 4#6 d a b 0#4)
  | .setNeB32 s d a b => some (mkWord s 4#6 d a b 1#4)
  | .setLtI32 s d a b => some (mkWord s 4#6 d a b 2#4)
  | .setLeI32 s d a b => some (mkWord s 4#6 d a b 3#4)
  | .setLtN32 s d a b => some (mkWord s 4#6 d a b 4#4)
  | .setLeN32 s d a b => some (mkWord s 4#6 d a b 5#4)
  | .setEqB64 s d a b => some (mkWord s 4#6 d a b 6#4)
  | .setNeB64 s d a b => some (mkWord s 4#6 d a b 7#4)
  | .setLtI64 s d a b => some (mkWord s 4#6 d a b 8#4)
  | .setLeI64 s d a b => some (mkWord s 4#6 d a b 9#4)
  | .setLtN64 s d a b => some (mkWord s 4#6 d a b 10#4)
  | .setLeN64 s d a b => some (mkWord s 4#6 d a b 11#4)
  | .selB32 s d a b => some (mkWord s 4#6 d a b 12#4)
  | .selB64 s d a b => some (mkWord s 4#6 d a b 13#4)
  | .addiI32 s d a i => some (mkWord s 5#6 d a ((i.extractLsb' 4 7)) ((i.extractLsb' 0 4)))
  | .andiB32 s d a i => some (mkWord s 6#6 d a ((i.extractLsb' 4 7)) ((i.extractLsb' 0 4)))
  | .oriB32 s d a i => some (mkWord s 7#6 d a ((i.extractLsb' 4 7)) ((i.extractLsb' 0 4)))
  | .xoriB32 s d a i => some (mkWord s 8#6 d a ((i.extractLsb' 4 7)) ((i.extractLsb' 0 4)))
  | .shli s d a w c => some (mkWord s 9#6 d a (0#2 ++ (BitVec.ofBool w) ++ 0#2 ++ (c.extractLsb' 4 2)) ((c.extractLsb' 0 4)))
  | .shri s d a w c => some (mkWord s 9#6 d a (1#2 ++ (BitVec.ofBool w) ++ 0#2 ++ (c.extractLsb' 4 2)) ((c.extractLsb' 0 4)))
  | .sari s d a w c => some (mkWord s 9#6 d a (2#2 ++ (BitVec.ofBool w) ++ 0#2 ++ (c.extractLsb' 4 2)) ((c.extractLsb' 0 4)))
  | .rotri s d a w c => some (mkWord s 9#6 d a (3#2 ++ (BitVec.ofBool w) ++ 0#2 ++ (c.extractLsb' 4 2)) ((c.extractLsb' 0 4)))
  | .andB64 s d a b => some (mkWord s 10#6 d a b 0#4)
  | .orB64 s d a b => some (mkWord s 10#6 d a b 1#4)
  | .xorB64 s d a b => some (mkWord s 10#6 d a b 2#4)
  | .notB64 s d a => some (mkWord s 10#6 d a 0#7 3#4)
  | .rotlB64 s d a b => some (mkWord s 10#6 d a b 4#4)
  | .rotrB64 s d a b => some (mkWord s 10#6 d a b 5#4)
  | .movi s d i => some (mkWord s 11#6 d ((i.extractLsb' 11 7)) ((i.extractLsb' 4 7)) ((i.extractLsb' 0 4)))
  | .movhi s d i => some (mkWord s 12#6 d (0#2 ++ (i.extractLsb' 11 5)) ((i.extractLsb' 4 7)) ((i.extractLsb' 0 4)))
  | .movlo s d i => some (mkWord s 13#6 d (0#2 ++ (i.extractLsb' 11 5)) ((i.extractLsb' 4 7)) ((i.extractLsb' 0 4)))
  | .addaI s d a b => some (mkWord s 14#6 d a b 0#4)
  | .addaN s d a b => some (mkWord s 14#6 d a b 1#4)
  | .madaN32 s d a b => some (mkWord s 14#6 d a b 2#4)
  | .extI32 s d a => some (mkWord s 14#6 d a 0#7 3#4)
  | .extN32 s d a => some (mkWord s 14#6 d a 0#7 4#4)
  | .truncB64 s d a => some (mkWord s 14#6 d a 0#7 5#4)
  | .srd s d n => some (mkWord s 15#6 d 0#7 (0#3 ++ (n.extractLsb' 4 4)) ((n.extractLsb' 0 4)))
  | .srdPos s d => some (mkWord s 15#6 d 0#7 16#7 6#4)
  | .swr s a n => some (mkWord s 15#6 0#7 a (4#3 ++ (n.extractLsb' 4 4)) ((n.extractLsb' 0 4)))
  | .swrFst s a => some (mkWord s 15#6 0#7 a 64#7 8#4)
  | .swrPreq s a => some (mkWord s 15#6 0#7 a 68#7 1#4)
  | .swrFltcc s a => some (mkWord s 15#6 0#7 a 68#7 5#4)
  | .faddF32 s d a b r => some (mkWord s 16#6 d a b (r ++ 0#2))
  | .fsubF32 s d a b r => some (mkWord s 16#6 d a b (r ++ 1#2))
  | .fmulF32 s d a b r => some (mkWord s 16#6 d a b (r ++ 2#2))
  | .ffmaF32 s d a b r => some (mkWord s 16#6 d a b (r ++ 3#2))
  | .faddF64 s d a b r => some (mkWord s 17#6 d a b (r ++ 0#2))
  | .fsubF64 s d a b r => some (mkWord s 17#6 d a b (r ++ 1#2))
  | .fmulF64 s d a b r => some (mkWord s 17#6 d a b (r ++ 2#2))
  | .ffmaF64 s d a b r => some (mkWord s 17#6 d a b (r ++ 3#2))
  | .faddBf16x2 s d a b r => some (mkWord s 18#6 d a b (r ++ 0#2))
  | .fsubBf16x2 s d a b r => some (mkWord s 18#6 d a b (r ++ 1#2))
  | .fmulBf16x2 s d a b r => some (mkWord s 18#6 d a b (r ++ 2#2))
  | .ffmaBf16x2 s d a b r => some (mkWord s 18#6 d a b (r ++ 3#2))
  | .faddF16x2 s d a b r => some (mkWord s 19#6 d a b (r ++ 0#2))
  | .fsubF16x2 s d a b r => some (mkWord s 19#6 d a b (r ++ 1#2))
  | .fmulF16x2 s d a b r => some (mkWord s 19#6 d a b (r ++ 2#2))
  | .ffmaF16x2 s d a b r => some (mkWord s 19#6 d a b (r ++ 3#2))
  | .fminF32 s d a b => some (mkWord s 20#6 d a b 0#4)
  | .fmaxF32 s d a b => some (mkWord s 20#6 d a b 1#4)
  | .fabsF32 s d a => some (mkWord s 20#6 d a 0#7 2#4)
  | .fnegF32 s d a => some (mkWord s 20#6 d a 0#7 3#4)
  | .fcpsgnF32 s d a b => some (mkWord s 20#6 d a b 4#4)
  | .fdivF32 s d a b => some (mkWord s 20#6 d a b 5#4)
  | .fsqrtF32 s d a => some (mkWord s 20#6 d a 0#7 6#4)
  | .fsetEqF32 s d a b => some (mkWord s 20#6 d a b 7#4)
  | .fsetNeF32 s d a b => some (mkWord s 20#6 d a b 8#4)
  | .fsetLtF32 s d a b => some (mkWord s 20#6 d a b 9#4)
  | .fsetLeF32 s d a b => some (mkWord s 20#6 d a b 10#4)
  | .fsetUnF32 s d a b => some (mkWord s 20#6 d a b 11#4)
  | .fclassF32 s d a => some (mkWord s 20#6 d a 0#7 12#4)
  | .fminF64 s d a b => some (mkWord s 21#6 d a b 0#4)
  | .fmaxF64 s d a b => some (mkWord s 21#6 d a b 1#4)
  | .fabsF64 s d a => some (mkWord s 21#6 d a 0#7 2#4)
  | .fnegF64 s d a => some (mkWord s 21#6 d a 0#7 3#4)
  | .fcpsgnF64 s d a b => some (mkWord s 21#6 d a b 4#4)
  | .fdivF64 s d a b => some (mkWord s 21#6 d a b 5#4)
  | .fsqrtF64 s d a => some (mkWord s 21#6 d a 0#7 6#4)
  | .fsetEqF64 s d a b => some (mkWord s 21#6 d a b 7#4)
  | .fsetNeF64 s d a b => some (mkWord s 21#6 d a b 8#4)
  | .fsetLtF64 s d a b => some (mkWord s 21#6 d a b 9#4)
  | .fsetLeF64 s d a b => some (mkWord s 21#6 d a b 10#4)
  | .fsetUnF64 s d a b => some (mkWord s 21#6 d a b 11#4)
  | .fclassF64 s d a => some (mkWord s 21#6 d a 0#7 12#4)
  | .fminBf16x2 s d a b => some (mkWord s 22#6 d a b 0#4)
  | .fmaxBf16x2 s d a b => some (mkWord s 22#6 d a b 1#4)
  | .fabsBf16x2 s d a => some (mkWord s 22#6 d a 0#7 2#4)
  | .fnegBf16x2 s d a => some (mkWord s 22#6 d a 0#7 3#4)
  | .fminF16x2 s d a b => some (mkWord s 22#6 d a b 4#4)
  | .fmaxF16x2 s d a b => some (mkWord s 22#6 d a b 5#4)
  | .fabsF16x2 s d a => some (mkWord s 22#6 d a 0#7 6#4)
  | .fnegF16x2 s d a => some (mkWord s 22#6 d a 0#7 7#4)
  | .frcpF32 s d a => some (mkWord s 23#6 d a 0#7 0#4)
  | .frsqrtF32 s d a => some (mkWord s 23#6 d a 0#7 1#4)
  | .fexp2F32 s d a => some (mkWord s 23#6 d a 0#7 2#4)
  | .flog2F32 s d a => some (mkWord s 23#6 d a 0#7 3#4)
  | .fsinpiF32 s d a => some (mkWord s 23#6 d a 0#7 4#4)
  | .fcospiF32 s d a => some (mkWord s 23#6 d a 0#7 5#4)
  | .ftanhF32 s d a => some (mkWord s 23#6 d a 0#7 6#4)
  | .frcpF64 s d a => some (mkWord s 24#6 d a 0#7 0#4)
  | .frsqrtF64 s d a => some (mkWord s 24#6 d a 0#7 1#4)
  | .fexp2F64 s d a => some (mkWord s 24#6 d a 0#7 2#4)
  | .flog2F64 s d a => some (mkWord s 24#6 d a 0#7 3#4)
  | .cvt s d a c r t => some (mkWord s 28#6 d a (c ++ r ++ 0#1) t)
  | .cvtpBf16x2F32 s d a b => some (mkWord s 29#6 d a b 0#4)
  | .cvtpF16x2F32 s d a b => some (mkWord s 29#6 d a b 1#4)
  | .insE8 s d a b => some (mkWord s 29#6 d a b 2#4)
  | .insE4 s d a b => some (mkWord s 29#6 d a b 3#4)
  | .extE8 s d a b => some (mkWord s 29#6 d a b 4#4)
  | .extE4 s d a b => some (mkWord s 29#6 d a b 5#4)
  | .cvtS8E8m0 s d a => some (mkWord s 30#6 d a 0#7 0#4)
  | .cvtE8m0S8 s d a => some (mkWord s 30#6 d a 0#7 1#4)
  | .sclF32 s d a b => some (mkWord s 30#6 d a b 2#4)
  | .sclF64 s d a b => some (mkWord s 30#6 d a b 3#4)
  | .dp4I8 s d a b => some (mkWord s 31#6 d a b 0#4)
  | .dp4N8 s d a b => some (mkWord s 31#6 d a b 1#4)
  | .dp4F8e4m3 s d a b => some (mkWord s 31#6 d a b 2#4)
  | .dp4F8e5m2 s d a b => some (mkWord s 31#6 d a b 3#4)
  | .dp8I4 s d a b => some (mkWord s 31#6 d a b 4#4)
  | .dp8N4 s d a b => some (mkWord s 31#6 d a b 5#4)
  | .dp8F4e2m1 s d a b => some (mkWord s 31#6 d a b 6#4)
  | .ldP s d a b t => some (mkWord s 32#6 d a b (0#1 ++ t))
  | .ldC s d a b t => some (mkWord s 32#6 d a b (1#1 ++ t))
  | .stP s d a b w => some (mkWord s 33#6 d a b (0#1 ++ w))
  | .stC s d a b w => some (mkWord s 33#6 d a b (1#1 ++ w))
  | .ldQ s d a b t => some (mkWord s 34#6 d a b (0#1 ++ t))
  | .ldM s d a b t => some (mkWord s 34#6 d a b (1#1 ++ t))
  | .stQ s d a b w => some (mkWord s 35#6 d a b (0#1 ++ w))
  | .stM s d a b w => some (mkWord s 35#6 d a b (1#1 ++ w))
  | .ldG s d a b t => some (mkWord s 36#6 d a b (0#1 ++ t))
  | .ldGNt s d a b t => some (mkWord s 36#6 d a b (1#1 ++ t))
  | .stG s d a b w => some (mkWord s 37#6 d a b (0#1 ++ w))
  | .stGNt s d a b w => some (mkWord s 37#6 d a b (1#1 ++ w))
  | .prfL1 s a b => some (mkWord s 38#6 0#7 a b 0#4)
  | .prfL2 s a b => some (mkWord s 38#6 0#7 a b 1#4)
  | .atomAdd s d a w c => some (mkWord s 40#6 d a (w ++ c) 0#4)
  | .atomAnd s d a w c => some (mkWord s 40#6 d a (w ++ c) 1#4)
  | .atomOr s d a w c => some (mkWord s 40#6 d a (w ++ c) 2#4)
  | .atomXor s d a w c => some (mkWord s 40#6 d a (w ++ c) 3#4)
  | .atomMinI s d a w c => some (mkWord s 40#6 d a (w ++ c) 4#4)
  | .atomMaxI s d a w c => some (mkWord s 40#6 d a (w ++ c) 5#4)
  | .atomMinN s d a w c => some (mkWord s 40#6 d a (w ++ c) 6#4)
  | .atomMaxN s d a w c => some (mkWord s 40#6 d a (w ++ c) 7#4)
  | .atomExch s d a w c => some (mkWord s 40#6 d a (w ++ c) 8#4)
  | .atomCas s d a w c => some (mkWord s 40#6 d a (w ++ c) 9#4)
  | .redAdd s d a w c => some (mkWord s 41#6 d a (w ++ c) 0#4)
  | .redAnd s d a w c => some (mkWord s 41#6 d a (w ++ c) 1#4)
  | .redOr s d a w c => some (mkWord s 41#6 d a (w ++ c) 2#4)
  | .redXor s d a w c => some (mkWord s 41#6 d a (w ++ c) 3#4)
  | .redMinI s d a w c => some (mkWord s 41#6 d a (w ++ c) 4#4)
  | .redMaxI s d a w c => some (mkWord s 41#6 d a (w ++ c) 5#4)
  | .redMinN s d a w c => some (mkWord s 41#6 d a (w ++ c) 6#4)
  | .redMaxN s d a w c => some (mkWord s 41#6 d a (w ++ c) 7#4)
  | .fenceAcq s c => some (mkWord s 42#6 0#7 0#7 (0#3 ++ c) 0#4)
  | .fenceRel s c => some (mkWord s 42#6 0#7 0#7 (0#3 ++ c) 1#4)
  | .fenceAr s c => some (mkWord s 42#6 0#7 0#7 (0#3 ++ c) 2#4)
  | .fenceSc s c => some (mkWord s 42#6 0#7 0#7 (0#3 ++ c) 3#4)
  | .scset s a c => some (mkWord s 43#6 0#7 a (0#3 ++ c) 0#4)
  | .scinv s c => some (mkWord s 43#6 0#7 0#7 (0#3 ++ c) 1#4)
  | .scqry s d c => some (mkWord s 43#6 d 0#7 (0#3 ++ c) 2#4)
  | .scmem s d c => some (mkWord s 43#6 d 0#7 (0#3 ++ c) 3#4)
  | .ctb s d a b f => some (mkWord s 44#6 d a b f)
  | .ctbn s d a f => some (mkWord s 45#6 d a 0#7 f)
  | .ctbm s d a b f => some (mkWord s 46#6 d a b f)
  | .slotOpen s d a b => some (mkWord s 47#6 d a b 0#4)
  | .slotClose s d b => some (mkWord s 47#6 d 0#7 b 1#4)
  | .slotWait s d b => some (mkWord s 47#6 d 0#7 b 2#4)
  | .slotStat s d b => some (mkWord s 47#6 d 0#7 b 3#4)
  | .oprDef s a n => some (mkWord s 48#6 0#7 a (0#3 ++ n) 0#4)
  | .oprRel s n => some (mkWord s 48#6 0#7 0#7 (0#3 ++ n) 1#4)
  | .oprQry s d n => some (mkWord s 48#6 d 0#7 (0#3 ++ n) 2#4)
  | .stp s d a n => some (mkWord s 49#6 d a (0#3 ++ n) 0#4)
  | .stpSc s d a n => some (mkWord s 49#6 d a (0#3 ++ n) 1#4)
  | .ldp s d a n => some (mkWord s 49#6 d a (0#3 ++ n) 2#4)
  | .ldpSc s d a n => some (mkWord s 49#6 d a (0#3 ++ n) 3#4)
  | .mma s t g x y p => some (mkWord s 50#6 (0#3 ++ t) (g ++ x) (0#3 ++ y) p)
  | .accClr s t => some (mkWord s 51#6 0#7 0#7 (0#3 ++ t) 0#4)
  | .accRd s d a t => some (mkWord s 51#6 d a (0#3 ++ t) 1#4)
  | .drain s a t f => some (mkWord s 52#6 0#7 a (0#3 ++ t) f)
  | .drainMx s d a m t f => some (mkWord s 52#6 d a (m ++ t) f)
  | .cpy s d a => some (mkWord s 54#6 d a 0#7 0#4)
  | .cpyc s d a => some (mkWord s 54#6 d a 0#7 1#4)
  | .chain s d a => some (mkWord s 54#6 d a 0#7 2#4)
  | .cpyw s d a => some (mkWord s 54#6 d a 0#7 3#4)
  | .chBind s a k => some (mkWord s 55#6 0#7 a (0#4 ++ k) 0#4)
  | .chFree s k => some (mkWord s 55#6 0#7 0#7 (0#4 ++ k) 1#4)
  | .chCnt s d k => some (mkWord s 55#6 d 0#7 (0#4 ++ k) 2#4)
  | .rng s d a b => some (mkWord s 56#6 d a b 0#4)
  | .rngReg s d a => some (mkWord s 56#6 d a 0#7 1#4)
  | .rngUnreg s d a => some (mkWord s 56#6 d a 0#7 2#4)
  | .vcdef s d a n => some (mkWord s 57#6 d a (0#4 ++ n) 0#4)
  | .vcqry s d n => some (mkWord s 57#6 d 0#7 (0#4 ++ n) 1#4)
  | .ckcut s d a => some (mkWord s 57#6 d a 0#7 2#4)
  | .bnz s d o => some (mkWord s 58#6 d ((o.extractLsb' 11 7)) ((o.extractLsb' 4 7)) ((o.extractLsb' 0 4)))
  | .bz s d o => some (mkWord s 59#6 d ((o.extractLsb' 11 7)) ((o.extractLsb' 4 7)) ((o.extractLsb' 0 4)))
  | .call s d o => some (mkWord s 60#6 d ((o.extractLsb' 11 7)) ((o.extractLsb' 4 7)) ((o.extractLsb' 0 4)))
  | .jmpi s a => some (mkWord s 61#6 0#7 a 0#7 0#4)
  | .calli s d a => some (mkWord s 61#6 d a 0#7 1#4)
  | .ret s a => some (mkWord s 61#6 0#7 a 0#7 2#4)
  | .exit s => some (mkWord s 61#6 0#7 0#7 0#7 3#4)
  | .ychk s => some (mkWord s 61#6 0#7 0#7 0#7 4#4)
  | .yield s => some (mkWord s 61#6 0#7 0#7 0#7 5#4)
  | .win s b => some (mkWord s 61#6 0#7 0#7 b 6#4)
  | .gnew s d a m => some (mkWord s 61#6 d a (0#6 ++ (BitVec.ofBool m)) 7#4)
  | .join s a => some (mkWord s 61#6 0#7 a 0#7 8#4)
  | .leave s => some (mkWord s 61#6 0#7 0#7 0#7 9#4)
  | .bar s => some (mkWord s 61#6 0#7 0#7 0#7 10#4)
  | .trap s n => some (mkWord s 62#6 0#7 0#7 n 0#4)
  | .brk s => some (mkWord s 62#6 0#7 0#7 0#7 1#4)
  | .nop s => some (mkWord s 62#6 0#7 0#7 0#7 2#4)
  | .fltReplay s a => some (mkWord s 62#6 0#7 a 0#7 3#4)
  | .scanStop s d a b => some (mkWord s 62#6 d a b 4#4)
  | .scanRestore s d a b => some (mkWord s 62#6 d a b 4#4)
  | .scanRestart s d a b => some (mkWord s 62#6 d a b 4#4)
  | .wpset s d a b => some (mkWord s 62#6 d a b 5#4)
  | .wpclr s b => some (mkWord s 62#6 0#7 0#7 b 6#4)
  | .step s d a => some (mkWord s 62#6 d a 0#7 7#4)
  | .dpair t u e f => some (mkWord t 63#6 ((BitVec.ofBool u) ++ (e.extractLsb' 4 6)) ((e.extractLsb' 0 4) ++ (f.extractLsb' 7 3)) ((f.extractLsb' 0 7)) 0#4)
  | .longLatencyReturn _ => none
  | .gangPromotion _ _ => none
  | .channelPushArrive _ => none
  | .storePerform _ _ _ => none
  | .gatewayPageFault _ => none
  | .writebackFault _ => none
  | .trapRecordEnqueue _ => none
  | .partialArrive _ _ => none
  | .panHoldExpiry _ _ => none
  | .ctbmLeafArrive _ => none
  | .closeMarkerArrive _ _ _ => none
  | .slotResolve _ _ => none
  | .slotFinal _ _ => none
  | .mmaPassStart _ _ _ => none
  | .fusionWindowExpiry _ _ _ => none
  | .drainSeqWrite _ _ _ _ => none
  | .jobElement _ _ => none
  | .jobRetire _ _ => none
  | .collectiveWindowGrant _ _ _ => none
  | .collectiveRootReturn _ _ _ _ _ => none
  | .ckptGranuleCopy _ => none
  | .ckptCowCopy _ _ => none
  | .vcAccept _ => none
  | .vcMoveStep _ _ _ => none
  | .vcCommit _ _ => none
  | .pageMigrate _ _ _ => none
  | .thrashThrottleExpiry _ _ => none
  | .launch _ _ _ => none
  | .launchStart _ _ => none
  | .unitPlace _ => none
  | .edgeSatisfied _ _ => none
  | .launchComplete _ => none
  | .preemptDelayExpiry _ => none
  | .preemptDeadline _ => none
  | .coreRelease _ _ => none
  | .forcedStop _ _ _ => none
  | .scanComplete _ _ => none
  | .imageRestore _ _ _ => none
  | .contextResume _ _ => none
  | .contextMigrate _ _ => none
  | .watchpointHit _ => none
  | .hostWrite _ _ _ _ => none
  | .hostRead _ _ _ _ => none
  | .lctAck _ _ => none
  | .lctRetransmitTimeout _ => none
  | .contextCreate _ _ _ _ _ _ _ => none
  | .contextDestroy _ _ => none
  | .queueBind _ _ _ _ => none
  | .queueUnbind _ _ => none
  | .rangeRegisterWrite _ _ _ _ => none
  | .pageMap _ _ _ _ _ => none
  | .pageUnmap _ _ _ _ => none
  | .pageChange _ _ _ _ _ => none
  | .windowOpenClose _ _ _ _ _ _ _ _ _ => none
  | .sessionOpenClose _ _ _ _ _ => none
  | .faultResolve _ _ _ => none
  | .faultFail _ _ _ => none
  | .trapResume _ _ _ => none
  | .trapRetry _ _ _ => none
  | .trapAbandon _ _ _ => none
  | .fabricRecordWrite _ _ _ => none
  | .fabricGroupOp _ _ _ _ _ => none
  | .portStatus _ _ _ => none
  | .cutMapRead _ _ => none
  | .delayThrashSet _ _ _ _ => none
  | .imageSubmit _ _ _ _ => none
  | .imageRelease _ _ _ => none
  | .quotaSet _ _ _ => none
  | .marketAllotmentSet _ _ _ _ _ => none
  | .arpRequest _ => none
  | .icmpEcho _ => none
  | .flitRetransmit _ => none
  | .portStateChange _ _ => none
  | .bankMarkFailed _ _ => none
  | .bankRebuildRow _ => none
  | .clockDroop _ _ => none
  | .clockStepUp _ => none
  | .governorRound _ => none
  | .thermalLimit _ => none
  | .thermalTrip => none
  | .corePowerRemove => none
  | .powerUp _ => none
  | .unassignedWordIssue _ => none
  | .priorityFlowControlFrame _ _ => none

end Sys2Proof
end

