-- ==== Sys2Proof/Config.lean ====
section
/-!
DEFINITION. What the manual leaves to the implementation: constants without a body (free values, notes/assumptions/1.md
and the rows they are named in), so that no proof can see what they are, and the limits of R2, R15, R18.
-/
namespace Sys2Proof.Config

/-- Cycles that a clock of so many tenths of GHz counts in the n-th step (R5, R42: only clk shows them). Free value. -/
opaque cyclesOf : Nat → Nat → Nat
/-- Nanoseconds since power-up at the n-th step (R395). Free value. -/
opaque nanosAt : Nat → Nat
/-- h of R255: "a fixed function of the 64-bit label", otherwise open. Free value. -/
opaque brineHash : DWord → Nat
/-- Revision of a physical core (R218: "Per part"). Free value. -/
opaque coreRev : Nat → Word
/-- Revision of the hub (R394). Free value. -/
opaque hubRev : Word
/-- The device key that the hub draws from its random source (R354), of the step of the power-up. Free value. -/
opaque deviceKey : Nat → BitVec 256
/-- The key of session 0, from the provisioning record (R373, R399). Free value. -/
opaque session0Key : BitVec 256
/-- The port's addresses, from the provisioning record (R399). Free value. -/
opaque provAddrs : List Nat
/-- The priority that a session names (R371: where it does so is not given). Free value. -/
opaque sessionPriority : Nat → Nat
/-- The body bytes of a scan image that the manual does not lay out (R351): image number and offset. Free value. -/
opaque imageByte : Nat → Nat → Byte
/-- Request credits of a core's street interface, by virtual channel (R352, R355: the allotment is not given). Free value. -/
opaque allotment : Nat → Nat
/-- Replies caught on a virtual channel, of an image (R352: which channel a reply takes is not given). Free value. -/
opaque imageCaught : Nat → Nat → Nat
/-- Watts drawn by hub, memory and host port (R397: no figure). Free value. -/
opaque fixedDraw : Nat
/-- What a slot yields whose brine region software has written or named (R258): step and number. Free value. -/
opaque anyWord : Nat → Nat → DWord
/-- The hash by which messages are striped over the ports of a direction that are up (R366): source and destination
coordinates and the virtual channel. Free value. -/
opaque portHash : List Nat → List Nat → Nat → Nat
/-- The bytes of an LCT frame's fields ahead of its data (R372 gives the fields and not their widths): frame type, fields. Free value. -/
opaque payloadHead : Nat → List Nat → List Byte
/-- The width of the window that an apex grants, less 1 (R369: between 1 and 64), of the step. Free value. -/
opaque windowWidth : Nat → Nat

/-- Where in the backing area a tile's rows go (R328: no layout): virtual core, line, tile. Free value. -/
opaque tilePlace : Nat → Nat → Nat → Nat
/-- A byte that another device returns for a one-sided copy (R201): device, address, step. Free value. -/
opaque remoteByte : Nat → Nat → Nat → Byte

/-- Limits of R2, R15, R18, R222. -/
def coresPerSquare : Nat := 16
def squaresPerDie : Nat := 10
def dies : Nat := 4
def cores : Nat := 640
def maxContexts : Nat := 1024
def queues : Nat := 8192
def queueDepth : Nat := 64
def sessions : Nat := 256
def trapQueueDepth : Nat := 64
def faultBufferDepth : Nat := 256
def scoreboardEntries : Nat := 32
def heldLimit : Nat := 64
def catchBuffer : Nat := 1024
def jobsPerContext : Nat := 4096
def jobsPerEngine : Nat := 64
def passQueue : Nat := 8
def streamTable : Nat := 64
def outstandingFrames : Nat := 256
/-- Where the loader keeps accepted images: no context can write there (R103). The place is the model's choice, notes/assumptions/11.md. -/
def codeBase : Nat := 0x01FF00000000
def codeStride : Nat := 0x2000000

end Sys2Proof.Config
end

