-- ==== Sys2Proof/Machine/State.lean ====
section
/-!
DEFINITION. The state of the A640 as plain data: threads, gang lines, cores, squares, dies, contexts, the saltern,
jobs, launches, virtual caches, translation, the host side, power; and the device right after power-up.
Everything a context owns is kept under its virtual names (context, virtual core), since the manual's own names are
virtual (R14, R44) and the placement map alone says which physical core holds it.
-/
namespace Sys2Proof.Machine

/-- Bytes of one memory level, in canonical form: addresses rising, no entry equal to `unlisted`. -/
abbrev Memory := List Host.Cell
/-- What a byte of memory that nothing has written reads as. DESIGN CHOICE, notes/assumptions/6.md (unsafe). -/
def unlisted : Byte := 0#8
/-- Architectural registers of a thread; an unlisted register holds zero (R235). -/
abbrev RegFile := List (Nat × Word)
/-- A finite table. -/
abbrev Tbl (κ α : Type) := List (κ × α)

/-- Why a step stops with a fault. No action of the manual does: traps, parked faults and stops are next states. -/
inductive Fault where
  /-- Raised by no action. Kept so that the type names the one way in which this model could stop: a state in which the
  device holds no power (R397) executes nothing. Safe. -/
  | powerRemoved
deriving DecidableEq, Repr

/-- Why a step is refused. -/
inductive Refusal where
  /-- An instruction without a meaning in this model. Safe. -/
  | notModelled (mnemonic : String)
deriving DecidableEq, Repr

/-- Memory levels, coded as lev of R216 and dlev of R199; lane-private memory has no code there. -/
inductive Lvl where
  | g | m | q | c | p
deriving DecidableEq, Repr

/-- The operations of R154, by fn. -/
inductive AtomOp where
  | add | and | or | xor | minI | maxI | minN | maxN | exch | cas
deriving DecidableEq, Repr

inductive FenceKind where
  | acq | rel | ar | sc
deriving DecidableEq, Repr

/-- The generation of a scope entry that a lane read at issue (R39). -/
structure ScopeGen where
  valid : Bool
  gen : Nat
  point : Nat
  cset : Nat
  vmask : Nat
deriving DecidableEq, Repr

/-- A memory access of one lane with the operand values it read at its original issue (R150). -/
inductive MemReq where
  | load (lvl : Lvl) (nt : Bool) (addr bytes : Nat) (signed : Bool) (dst : ReplyTo)
  | store (lvl : Lvl) (nt : Bool) (addr : Nat) (data : List Byte)
  | atom (lvl : Lvl) (op : AtomOp) (bytes addr : Nat) (v cmp : DWord) (sc : Nat) (gen : ScopeGen) (dst : Option ReplyTo)
  | fence (k : FenceKind) (sc : Nat) (gen : ScopeGen)
  | barrier
  | ctb (fmt : Nat) (index : DWord) (slot : Nat) (val : DWord)
  | ctbn (fmt : Nat) (label val : DWord)
  | ctbm (fmt : Nat) (addr : Nat) (b : Word) (val : DWord)
  | scset (sc addr : Nat)
  | drain (line q : Nat)
  /-- a plane store or load: reservation number, record, scale or element, row and k position, value or destination (R174) -/
  | stp (opr : Nat) (recd : BitVec 256) (scale : Bool) (row kk x : Nat)
  | ldp (opr : Nat) (recd : BitVec 256) (scale : Bool) (row kk words : Nat) (dst : ReplyTo)
  /-- waits until the lane of the gang that performs an instruction once for the gang has performed it -/
  | follow (lane : Nat) (pos : Pos)
deriving DecidableEq, Repr

/-- A stretch of a global access: intermediate address, length, attribute, virtual address (R292, R293). -/
structure Span where
  ia : Nat
  len : Nat
  attr : Nat
  va : Nat
deriving DecidableEq, Repr

/-- A held access and its place in program order (R150), with the range-register translation that it got at its issue
(R292). -/
structure Held where
  pos : Pos
  req : MemReq
  map : Option (List Span) := none
  /-- waits for the answer of a fault record (R316) about this page -/
  faulted : Option Nat := none
deriving DecidableEq, Repr

/-- What a lane does (R132, R74, R144, R150, R341, R139). Lanes of a slice with equal position and status are one
frontier entry. -/
inductive Stat where
  | run
  /-- past an S point: waits until the results of all lanes with this number have returned (R74) -/
  | sync (id : Nat)
  | bar
  /-- parked with held accesses (R150); one number for the lanes that parked together -/
  | parked (id : Nat)
  /-- parked at a register backing fault or a record fault: the whole instruction re-executes (R78, R197) -/
  | parkedRetry (id : Nat)
  /-- its trap number, and whether a machine trap stopped it (R338) -/
  | trapped (tseq : Nat) (machine : Bool)
  | yielded
deriving DecidableEq, Repr

/-- A thread, from placement to exit (R17 to R21, R41, R235). -/
structure Thread where
  launch : Nat := 0
  role : Nat := 0
  tid : Nat := 0
  /-- architectural registers, 32 bits each -/
  regs : RegFile := []
  wb : Nat := 0
  fst : Flags := 0#5
  /-- handle of the current group; 0xFFFF_FFFF for none -/
  group : Word := 0xFFFFFFFF#32
  diverted : Bool := false
  pos : Pos := ⟨0, false⟩
  /-- the dictionary pair at `pos` has been opened: its halves issue one by one (R79) -/
  opened : Bool := false
  stat : Stat := .run
  held : List Held := []
  /-- the trap was taken by the first held access: `pos` is the continue position (R400) -/
  heldTrap : Bool := false
  /-- waits at a channel pop or peek (R240) -/
  chanWait : Bool := false
  /-- lane-private memory (R27) -/
  priv : Memory := []
  /-- registers that are held in the register backing area, with their place there: a virtual address in the area that the
  launch record names, or an offset in the context's default area (R26, R224, R376) -/
  cold : List (Nat × Nat) := []
  /-- registers with an uncorrectable error (R105), and registers with a single-bit error, which the next read corrects (R393) -/
  badRegs : List Nat := []
  softRegs : List Nat := []
  /-- step of the last issue (R240) -/
  last : Nat := 0
  /-- its gang stalled at issue when so many actions had been taken: it is not ready until another one is (R240) -/
  stalled : Option Nat := none
deriving DecidableEq, Repr

/-- A place in a core: virtual core, gang line, lane of the line (4 × slice + position). -/
structure Place where
  ctx : Nat
  vc : Nat
  line : Nat
  lane : Nat
deriving DecidableEq, Repr

structure LineKey where
  ctx : Nat
  vc : Nat
  line : Nat
deriving DecidableEq, Repr

structure CoreKey where
  ctx : Nat
  vc : Nat
deriving DecidableEq, Repr

/-- An entry of a receive queue: data, or space reserved for data on its way (R166). -/
inductive QEnt where
  | data (w : Word)
  | resv (key : Nat)
deriving DecidableEq, Repr

/-- A channel of a gang line (R24, R164). -/
structure Chan where
  bound : Bool := false
  word : Word := 0#32
  queue : List QEnt := []
deriving DecidableEq, Repr

/-- A partial of an accumulator tile: node (level, index) with one value per cell (R178). -/
structure TEntry where
  level : Nat
  index : Nat
  cells : List DWord
deriving DecidableEq, Repr

/-- An accumulator tile (R181): class 0 clear, 1 float, 2 FP64, 3 integer; k is the extent K of its reduction. -/
structure Tile where
  cls : Nat := 0
  k : Nat := 0
  complete : Bool := false
  flags : Flags := 0#5
  entries : List TEntry := []
deriving DecidableEq, Repr

/-- One write of a drain sequencer, of at most 64 bytes (R329): virtual and intermediate address, attribute, bytes. -/
structure DrainWrite where
  va : Nat
  ia : Nat
  attr : Nat
  bytes : List Byte
deriving DecidableEq, Repr

/-- A drain sequencer's remaining writes, and the lanes of its quarter, the lowest of which they belong to (R185, R329). -/
structure DrainSeq where
  lanes : List Nat
  pos : Pos
  writes : List DrainWrite
  /-- the rest of the writes are the held access of the lowest lane (R150, R185) -/
  held : Bool := false
deriving DecidableEq, Repr

/-- A gang line (R18, R23, R232). -/
structure Line where
  launch : Nat := 0
  role : Nat := 0
  /-- slices given out so far (R232: a position is never reused) -/
  slices : Nat := 0
  g : List Word := [0, 0, 0, 0, 0, 0, 0, 0]
  /-- for each g register, the step of the issue whose value it holds (R23: the later write in issue order stands) -/
  gLast : Tbl Nat Nat := []
  chans : List Chan := List.replicate 8 {}
  /-- tiles that are not clear, by 16 × quarter + number (R34) -/
  tiles : Tbl Nat Tile := []
  /-- tiles whose rows are held in a backing page, with their place in the backing area (R328) -/
  tileAway : Tbl Nat Nat := []
  drains : Tbl Nat DrainSeq := []
deriving DecidableEq, Repr

/-- A pass or another matrix instruction in a quarter engine's queue (R324). -/
inductive Pass where
  /-- `window`: it still waits for quarters to join; passes with one `fuse` number, of one gang's issue, have joined each other
  (R327); the lanes of its quarter and their position, at which it reads the scratchpad -/
  | mma (line tile oprA oprB : Nat) (recA recB : BitVec 256) (chunk : Word) (fn : Nat) (window : Bool) (fuse : Nat) (lanes : List Nat) (pos : Pos)
  | clear (line tile : Nat)
  | read (line tile : Nat) (sel : List (Nat × Word)) (reply : ReplyTo) (pos : Pos)
  /-- format and block length, the lanes of its quarter and their position, the stretches of its elements and of its scales -/
  | drain (line tile f L : Nat) (lanes : List Nat) (pos : Pos) (elems scales : List Span)
deriving DecidableEq, Repr

/-- The store that wrote a dirty byte: its gang line, lane and position (R388). -/
structure Writer where
  line : Nat
  lane : Nat
  pos : Pos
  /-- the store is the write of an atomic (R155) -/
  atomic : Bool := false
deriving DecidableEq, Repr

/-- A line of L1 (R273): intermediate line address, class, fill epoch, and per byte valid, dirty and data. -/
structure L1Line where
  ia : Nat
  cls : Nat
  epoch : Nat
  /-- offset, data, dirty: the bytes this line holds -/
  bytes : List (Nat × Byte × Bool)
  /-- the last store to each dirty byte, by offset: the issuer that a hit record names when the byte reaches its home (R388) -/
  stores : Tbl Nat Writer := []
deriving DecidableEq, Repr

/-- A byte interval of a job or of a scoreboard entry (R198, R332). -/
structure Interval where
  lvl : Lvl
  /-- first and last bytes; for global memory, of each stretch of intermediate addresses -/
  spans : List (Nat × Nat)
  write : Bool
  job : Nat
deriving DecidableEq, Repr

/-- A member of a group. -/
structure Member where
  vc : Nat
  line : Nat
  lane : Nat
deriving DecidableEq, Repr

/-- A group (R20, R140 to R145). -/
structure Group where
  gen : Nat
  /-- the core within its square that it was made on: part of its handle (R140) -/
  core : Nat := 0
  square : Bool
  base : Nat
  alloc : Nat
  cap : Nat
  launch : Option Nat
  members : List Member
  arrived : List Member
deriving DecidableEq, Repr

/-- An operand reservation (R33, R170). -/
structure Opr where
  recd : BitVec 256
  group : Word
  /-- its owner's record: virtual core and number (R33) -/
  owner : Nat × Nat := (0, 0)
deriving DecidableEq, Repr

/-- A span of a dissolved group that returns once the jobs then in it have retired (R143): in the memory of a square, or the
core's scratchpad; its first byte and length; the jobs with their generations. -/
structure Returning where
  sq : Option Nat
  base : Nat
  len : Nat
  jobs : List (Nat × Nat)
deriving DecidableEq, Repr

/-- Where a virtual core's state is (R348, R349, R357). -/
inductive CoreRun where
  | running
  /-- its issue is stopped by a debug stop of square `sq` (R382, R387) -/
  | debugStopped (sq : Nat)
  /-- its clock is stopped and its image streams out (R349); the square whose debug stop it stood under, and clk at the stop -/
  | scanning (kind : StopKind) (sq : Option Nat) (clk : DWord)
  /-- saved as an architectural record (R348) -/
  | record
  /-- saved as a scan image (R349, R351): image number -/
  | image (seq : Nat)
  /-- never placed yet -/
  | unplaced
deriving DecidableEq, Repr

/-- A gang of the active or the pending set (R241): its line and slices, and since when. -/
structure GangRec where
  line : Nat
  slices : List Nat
  active : Bool
  since : Nat
  /-- it stood at `bar` (R245) -/
  atBar : Bool := false
deriving DecidableEq, Repr

/-- A `step` in progress on a stopped core (R217, R383). -/
structure StepSt where
  line : Nat
  left : Nat
  made : Nat
  reply : ReplyTo
  /-- the switch marker of the `step` word -/
  sb : Bool
deriving DecidableEq, Repr

/-- The state that a virtual core holds privately. -/
structure Core where
  run : CoreRun := .running
  /-- the physical core of its first placement: the square and the core within it by which group handles and channel words name
  it, wherever it is since (R44, R140, R164); notes/assumptions/109.md -/
  home : Option Nat := none
  /-- the counter clk when the core was last taken off its place, and the step at which it was placed again (R42) -/
  clkBase : DWord := 0#64
  clkFrom : Option Nat := none
  scratch : Memory := []
  l1 : List L1Line := []
  /-- line addresses of L1 in the order of their last use, the least recent first (R273) -/
  l1Used : List Nat := []
  /-- fill epochs of the classes that have left 0 (R158) -/
  epochs : Tbl Nat Nat := []
  groups : Tbl Nat Group := []
  groupGens : Tbl Nat Nat := []
  returning : List Returning := []
  oprs : Tbl Nat Opr := []
  board : List Interval := []
  /-- returning flits that the catch buffer has taken since the clock stopped (R349) -/
  caught : Nat := 0
  engines : Tbl Nat (List Pass) := []
  /-- tiles, as line and 16 × quarter + number, in the order of their last use, the least recent first (R328) -/
  tileUsed : List (Nat × Nat) := []
  gangs : List GangRec := []
  step : Option StepSt := none
  /-- instructions issued, by line (skids, R382) -/
  issued : Tbl Nat Nat := []
deriving DecidableEq, Repr

/-- An allocation of square memory (R141). -/
structure Alloc where
  ctx : Nat
  vc : Nat
  num : Nat
  base : Nat
  len : Nat
deriving DecidableEq, Repr

/-- A watchpoint (R216): for level 0 the watched intermediate address. -/
structure Watch where
  ctx : Nat
  kind : Nat
  lev : Nat
  len : Nat
  addr : Nat
  shown : Nat
deriving DecidableEq, Repr

/-- A debug stop of a square for a context (R382, R387): the watchpoints that have hit and are not yet cleared, whether
any has hit, and whether a `brk` has. -/
structure DStop where
  ctx : Nat
  hits : List Nat
  anyHit : Bool
  brk : Bool
deriving DecidableEq, Repr

structure Square where
  sqm : Memory := []
  allocs : List Alloc := []
  watches : Tbl Nat Watch := []
  stops : List DStop := []
deriving DecidableEq, Repr

/-- A record of a fault buffer (R315): `stale` once the held access it answers has been re-executed elsewhere (R336). -/
structure FaultRec where
  fid : Nat
  note : FaultNote
  stale : Bool := false
deriving DecidableEq, Repr

structure Die where
  market : Memory := []
  faults : List FaultRec := []
  /-- faults that found the buffer full (R317) -/
  heldFaults : List FaultNote := []
  nextFid : Nat := 0
  /-- tenths of GHz (R396), and the clocks before it, the latest first: until which step, and how fast (R5, R42) -/
  clock : Nat := 33
  clocks : List (Nat × Nat) := []
  marketRetired : Bool := false
  /-- power budget of its matrix engines (R397) -/
  budget : Nat := 0
deriving DecidableEq, Repr

/-- States of a virtual cache (R211, R282). -/
inductive VState where
  | undefined | stable | resizing | migrating | releasing
deriving DecidableEq, Repr

/-- A line of L2 and where it is (R280): its line number in lines of its size, the share and the way of that share that hold
it, its sectors that have been filled, the offsets of its dirty bytes, and whether it still stands at a position that a change
takes from it (R283). -/
structure L2Line where
  line : Nat
  /-- log2 of its size in 128-byte sectors -/
  lsz : Nat := 0
  share : Nat := 0
  way : Nat := 0
  sectors : List Nat := []
  dirty : List Nat := []
  old : Bool := false
deriving DecidableEq, Repr

/-- A virtual cache (R31, R277, R282): record, shares in grant order, and the accepted change. -/
structure VCache where
  state : VState := .undefined
  recd : BitVec 512 := 0
  shares : List Nat := []
  oldRec : BitVec 512 := 0
  oldShares : List Nat := []
  /-- the valid lines, the least recently used first (R281) -/
  lines : List L2Line := []
  /-- the squares of a follow migration that starts after the change in progress commits (R284) -/
  followNext : Option Nat := none
deriving DecidableEq, Repr

/-- States of a slot (R187). -/
inductive SState where
  | free | opened | closing | final
deriving DecidableEq, Repr

/-- How a slot ended if a check inside the saltern failed (R265). -/
inductive SlotCheck where
  | arith
  | machine (addr : Nat)
deriving DecidableEq, Repr

/-- A reduction slot (R35, R186, R187, R249, R255). -/
structure Slot where
  state : SState := .free
  desc : BitVec 512 := 0
  serial : Nat := 0
  /-- brine address and size of the previous open (R255) -/
  prevBrine : Option (Nat × Nat) := none
  /-- highest of 0x04, 0x05, 0x06 recorded (R193) -/
  code : Nat := 0
  flags : Flags := 0#5
  incomplete : Bool := false
  apex : PanId := .hub
  markers : Nat := 0
  expect : Nat := 0
  /-- the sites that had a partial to spill and found no entry (R256) -/
  exhausted : List PanId := []
  check : Option SlotCheck := none
  /-- indices of the brine entries that it has spilled since it opened, oldest first (R254) -/
  spilled : List Nat := []
  /-- software has written its brine region or named it in a job: its roots, flags and status are open until the region is
  cleared (R258) -/
  tainted : Bool := false
deriving DecidableEq, Repr

/-- Engines that carry jobs (R196). -/
inductive Eng where
  | copy | chain | cut | scan
deriving DecidableEq, Repr

/-- What a job does. -/
inductive JobKind where
  | copy (recd : BitVec 4096)
  | coll (recd : BitVec 4096) (parms : CollParms) (rank ranks window : Nat) (formed : List Nat)
  | chain (recd : BitVec 1024)
  /-- granules as (virtual address, intermediate number), ascending; those not yet copied -/
  | cut (recd : BitVec 512) (all todo : List (Nat × Nat))
  | scan (op : Nat) (core : Nat) (buf : Nat)
deriving DecidableEq, Repr

/-- A job (R196 to R207, R331). -/
structure Job where
  gen : Nat
  eng : Eng
  kind : JobKind
  vc : Nat
  square : Nat
  next : Nat := 0
  total : Nat := 0
  code : Nat := 0
  edge : Bool := false
  flags : Flags := 0#5
  badAddr : Nat := 0
  retired : Bool := false
  ivals : List Interval := []
  after : List Nat := []
  /-- of a collective: how many over its dimensions its rank had started before (notes/assumptions/98.md) -/
  seq : Nat := 0
  /-- the range registers in force at admission (R197, R307) -/
  ranges : Tbl Nat (BitVec 256) := []
  stalled : Bool := false
deriving DecidableEq, Repr

/-- A registered random stream (R209). -/
structure Stream where
  key : DWord
  base : BitVec 128
  count : DWord
deriving DecidableEq, Repr

/-- A range register after reset (R306): every field zero, attr 0b01. -/
def rangeReset : BitVec 256 := BitVec.ofNat 256 (2 ^ 194)

/-- The translation state of a context (R30, R306, R309, R319). -/
structure Trans where
  root : Nat := 0
  ranges : Tbl Nat (BitVec 256) := (List.range 16).map (fun k => (k, rangeReset))
  /-- entries of its page tables by their physical addresses in the hub's memory (R309, R311); an unlisted entry is zero -/
  pages : Tbl Nat DWord := []
  /-- nanoseconds at which each leaf was moved, and leaves that are throttled (R319) -/
  moves : Tbl Nat (List Nat) := []
  throttled : List Nat := []
  market : Tbl Nat (Nat × Nat) := []
deriving DecidableEq, Repr

/-- The trap queue of a context (R341): records written, records waiting, and the number of the next. -/
structure Traps where
  queue : List (BitVec 256) := []
  waiting : List (BitVec 256) := []
  tseq : Nat := 0
  /-- answers that came while their lanes were away (R343): trap number and action -/
  late : List (Nat × Nat) := []
deriving DecidableEq, Repr

/-- The privileged settings of a context (R218). -/
structure Settings where
  priv : Bool := false
  preq : Bool := false
  yhnd : Nat := 0
  ylim : Nat := 0x10000
  dline : Nat := 0x10
  ckperm : Bool := false
  tsel : Nat := 0
  dbst : Word := 0#32
  fltc : Word := 0#32
deriving DecidableEq, Repr

/-- Checkpoint state of a context (R212, R377, R378). -/
structure Ckpt where
  dirty : List Nat := []
  map : List Nat := []
  cut : Option Nat := none
deriving DecidableEq, Repr

/-- A context (R14, R15, R40). -/
structure Ctx where
  n : Nat := 1
  quota : Nat := 0
  set : Settings := {}
  /-- placement map: virtual core to physical core (R14) -/
  place : Tbl Nat Nat := []
  scopes : Tbl Nat ScopeGen := []
  trans : Trans := {}
  vcs : Tbl Nat VCache := []
  slots : Tbl Nat Slot := []
  jobs : Tbl Nat Job := []
  jobGens : Tbl Nat Nat := []
  /-- the stream table, by entry (R209) -/
  streams : Tbl Nat Stream := []
  traps : Traps := {}
  ckpt : Ckpt := {}
  /-- bytes of the default register backing area that the hub sets aside (R376) -/
  backing : Nat := 0
  /-- image number of the next image (R352) -/
  imgSeq : Nat := 0
  /-- square allocations saved with the context's last core of a square (R353), with their bytes from zero on -/
  slices : List (Alloc × Memory) := []
  /-- the last physical core of each virtual core (R284) -/
  was : Tbl Nat Nat := []
  /-- collectives started, by the dimensions that they span (notes/assumptions/98.md) -/
  collSeq : Tbl Nat Nat := []
  /-- launches that waited for cores when the request flag was raised (R357) -/
  before : List Nat := []
deriving DecidableEq, Repr

/-- A hardware queue (R222). -/
structure Queue where
  ctx : Nat
  cls : Nat
  next : Nat := 1
  items : List Nat := []
deriving DecidableEq, Repr

inductive LState where
  | waiting | started | done
deriving DecidableEq, Repr

/-- A launch (R223 to R238). -/
structure Launch where
  queue : Nat
  seq : Nat
  ctx : Nat
  recd : BitVec 2048
  state : LState := .waiting
  edges : List Nat := []
  /-- slice units not yet placed, in order: role and unit (R233) -/
  units : List (Nat × Nat) := []
  live : Nat := 0
  placed : Bool := false
  code : Nat := 0
  /-- virtual cores on which its threads ran, and those on which its cinv actions are done (R227) -/
  cores : List Nat := []
  groups : List (Nat × Nat) := []
  /-- the jobs that it admitted, with their generations -/
  jobs : List (Nat × Nat) := []
  /-- the session that submitted it -/
  sess : Nat := 0
deriving DecidableEq, Repr

/-- An accepted kernel image (R100 to R103). -/
structure Kernel where
  ctx : Nat
  code : List Word
  dict : List Word
  blocks : List (Nat × Nat)
  roles : List (Nat × Nat)
  data : List Byte
  priv : Bool := false
  released : Bool := false
deriving DecidableEq, Repr

/-- What a late reply waits for (R193, R206). -/
inductive WaitOn where
  | slot (ctx slot : Nat)
  | job (ctx job : Nat)
deriving DecidableEq, Repr

structure Wait where
  on : WaitOn
  reply : ReplyTo
  pos : Pos
deriving DecidableEq, Repr

/-- Dirty bytes of a write-back held at a gateway (R401). -/
structure WbHeld where
  ctx : Nat
  vc : Nat
  ia : Nat
  bytes : List (Nat × Byte)
  /-- the class of its line (R158, R159) -/
  cls : Nat := 8
  /-- the last store to each of the bytes, by offset in the line (R388) -/
  stores : Tbl Nat Writer := []
  /-- a drain's write to an SO range: a release goes before it and an acquire after it (R292) -/
  so : Bool := false
deriving DecidableEq, Repr

/-- An atomic that has read and has still to write (R156, R301): whose it is, the cores of its scope, the place of its bytes
(global: intermediate addresses; square memory: the square and the address), and the bytes that it will write. -/
structure HalfAtom where
  ctx : Nat
  vc : Nat
  line : Nat
  lane : Nat
  pos : Pos
  vmask : Nat
  /-- the square, of an atomic on square memory -/
  sq : Option Nat := none
  reads : Bool
  bytes : List (Nat × Byte)
deriving DecidableEq, Repr

/-- A scan image that a `scan` or a deadline wrote (R349 to R356): whose it is, what a restore checks, its regions as offset and
bytes, and the state that its open layout stands for: threads, lines and core. -/
structure Image where
  ctx : Nat
  vc : Nat
  seq : Nat
  /-- the square of the debug stop that a kind 2 image was taken under (R387) -/
  sq : Option Nat
  rev : Word
  cfg : Nat
  parts : List (Nat × List Byte)
  threads : Tbl Place Thread := []
  lines : Tbl LineKey Line := []
  core : Core := {}
  /-- entries that its lines had reserved in other cores' queues: the push, and how many (counters 16 to 31) -/
  resv : List (Push × Nat) := []
  waits : List Wait := []
  /-- the core pan (R266) -/
  pan : List Partial := []
deriving DecidableEq, Repr

/-- What travels on a Seler port: a collective's partial (R368), news of a collective (R369, R370), or an engine's access to a
member of a fabric group on the device at some coordinates (R201, R367). -/
inductive Message where
  | part (p : Partial)
  | coll (elem : Nat) (m : CollMsg) (flags : Flags)
  | remote (coord : List Nat) (group addr : Nat) (write : Bool) (len : Nat) (bytes : List Byte)
deriving DecidableEq, Repr

/-- Frames to the host and messages to other devices (R372, R364). -/
inductive Frame where
  | ack (sess : Nat) (ack : Nat)
  | accept (sess queue seq refusal credit : Nat)
  | compl (sess queue seq code credit : Nat)
  | data (sess status : Nat) (bytes : List Byte)
  | wstat (sess status : Nat)
  | mgmt (code status : Nat) (payload : List Nat)
  | event (rec : BitVec 256)
  | ckdata (sess stream cut va half : Nat) (bytes : List Byte)
  | ckend (sess stream cut count : Nat)
  | arp (addr : Nat)
  | icmp (payload : List Byte)
  /-- a message on a Seler port, with its virtual channel and class (R364, R366) -/
  | seler (port vc cls : Nat) (m : Message)
deriving DecidableEq, Repr

/-- What has left the device: an LCT frame with its 32-byte header (R372), or anything else. -/
structure Sent where
  frame : Frame
  hdr : Option (BitVec 256) := none
deriving DecidableEq, Repr

/-- An LCT session (R373). -/
structure Session where
  ctx : Nat
  key : BitVec 256
  /-- sequence number of the next frame accepted, and of the next frame sent -/
  expect : Nat := 1
  next : Nat := 1
  acked : Nat := 0
  unacked : List (Nat × Frame) := []
  /-- frames of the host that have taken effect and are not acknowledged yet: the number, and that of the ACCEPT that must leave first -/
  owed : List (Nat × Nat) := []
deriving DecidableEq, Repr

/-- A window (R374). -/
structure Window where
  sess : Nat
  ctx : Nat
  base : Nat
  size : Nat
  rd : Bool
  wr : Bool
deriving DecidableEq, Repr

/-- The fabric side (R364 to R369). -/
structure Fabric where
  recd : BitVec 512 := 0
  routes : List (Nat × Nat) := []
  /-- groups that exist, and their members: id, device id, context -/
  groupIds : List Nat := []
  groups : List (Nat × Nat × Nat) := []
  ports : Tbl Nat PortState := []
  portBudget : List Nat := []
  /-- hub pan entries reserved for collectives, by context and job (R369) -/
  granted : Tbl (Nat × Nat) Nat := []
  retransmits : Tbl Nat Nat := []
  /-- collectives that other ranks have told of: group, rank, parameters, and how many over their dimensions it had started before -/
  issued : List (Nat × Nat × CollParms × Nat) := []
  /-- failures of collectives that this device's rank has not issued yet: group, parameters, number, code -/
  failed : List (Nat × CollParms × Nat × Nat) := []
deriving DecidableEq, Repr

/-- The rebuild state of a bank group (R391). -/
structure BankSt where
  failed : List Nat := []
  spareUsed : Bool := false
  /-- the bank whose place the spare has taken -/
  replaced : Option Nat := none
  /-- nanoseconds at which symbols of each bank were corrected, within the last millisecond -/
  corrected : Tbl Nat (List Nat) := []
  rebuilding : Option (Nat × Nat) := none
  lost : Bool := false
deriving DecidableEq, Repr

/-- Presence, errors and counters: what the configuration block reports (R394, R395). -/
structure Ras where
  absentCores : List Nat := []
  absentSquares : List Nat := []
  absentDies : List Nat := []
  absentPorts : List Nat := []
  /-- absent bonded DRAM channels (32 × die + channel), LPDDR-6 channels, and L2 bank groups (4 × die + group) -/
  absentBd : List Nat := []
  absentLp : List Nat := []
  absentL2 : List Nat := []
  banks : Tbl BankGroup BankSt := []
  log : List (BitVec 256) := []
  logn : Nat := 0
  retiredCores : List Nat := []
  retiredMarkets : List Nat := []
  retiredL2 : List (Nat × Nat) := []
  /-- the counters of offset 0x200 on, by number -/
  counters : Tbl Nat Nat := []
deriving DecidableEq, Repr

inductive Power where
  | off | up | halted | portDown
deriving DecidableEq, Repr

/-- The host side and the hub's own settings (R222, R319, R371 to R376, R396 to R399). -/
structure Hub where
  power : Power := .up
  straps : Straps := {}
  /-- the key drawn at power-up, which nothing can read (R354) -/
  deviceKey : BitVec 256 := 0
  sessions : Tbl Nat Session := []
  windows : Tbl Nat Window := []
  fabric : Fabric := {}
  ras : Ras := {}
  portErrors : Nat := 0
  addrs : List Nat := []
  /-- VLAN ids of the host port, at most 8 (R371, R376) -/
  vlans : List Nat := []
  /-- priorities that the host has paused (R371), and the frames that wait for them, with their sessions and numbers -/
  paused : BitVec 8 := 0#8
  portQueue : List (Nat × Nat × Frame) := []
  /-- the provisioning record in the one-time fuses is not blank (R399) -/
  prov : Bool := true
  /-- pre-emption delay of each class in nanoseconds (R223), and thrash N, W, T (R319) in nanoseconds -/
  delays : List Nat := [100000, 100000, 100000, 100000]
  thrash : Nat × Nat × Nat := (4, 1000000, 10000000)
  /-- launch numbers and kernel handles given out -/
  nextLaunch : Nat := 0
  nextKhnd : Nat := 1
  /-- power limit in watts, the periods by which thermal limits have shrunk the token pool, and the THALRM pin (R397) -/
  pool : Nat := 3600
  shrunk : Nat := 0
  /-- virtual address of the configuration block, which cfglo and cfghi show (R218, R394). The manual gives none: the top
  4 KiB of the space at reset, notes/assumptions/16.md -/
  cfgAddr : BitVec 57 := 0x1FFFFFFFFFFF000#57
  therm : Bool := false
  /-- round-robin pointers of the four classes (R223) -/
  turn : List Nat := [0, 0, 0, 0]
  hubClock : Nat := 33
  /-- cores stopped by `scan` op 0 and restartable in place: physical core, context, virtual core (R215) -/
  stopped : List (Nat × Nat × Nat) := []
deriving DecidableEq, Repr

/-- The gang whose instruction is being issued (R239): context, virtual core, line, active lanes in ascending order,
and its position. The model's own latch, set by `step` before it runs an instruction. -/
structure Issue where
  ctx : Nat := 0
  vc : Nat := 0
  line : Nat := 0
  lanes : List Nat := []
  pos : Pos := ⟨0, false⟩
  /-- the word at the position, or the dictionary index of a pair half: info of an illegal-instruction trap (R339) -/
  info : Nat := 0
  /-- the word that issues: info of a privileged-instruction trap (R339) -/
  word : Nat := 0
  /-- this issue has been counted among its line's (R217, R382) -/
  counted : Bool := false
  /-- the channel entries that its lanes have read: channel and lane, in the order of the queue. They leave the queue as their
  lanes complete (R166, R338) -/
  pops : List (Nat × Nat) := []
deriving DecidableEq, Repr

/-- The model's own data: steps taken, the choices to come, numbers given out, residue mismatches to come. -/
structure Aux where
  time : Nat := 0
  /-- actions taken so far -/
  acts : Nat := 0
  /-- which agent moves next (R240, R289: orders that the manual leaves open); notes/assumptions/2.md -/
  oracle : List Nat := []
  /-- the next unused number: S points, reservations, parked entries -/
  serial : Nat := 0
  /-- for each residue-checked operation to come: 0 no mismatch, 1 one mismatch, 2 a second one (R389) -/
  residue : List Nat := []
  /-- how the atomics to come execute: 0 as one action at the home, 1 with a write that follows the read later (R301), 2 in the
  issuing core's L1 (R155); notes/assumptions/25.md -/
  atoms : List Nat := []
  /-- what comes of accesses to other devices (R367): 0 done, 1 refused there, 2 stalled by a page fault there -/
  remote : List Nat := []
  lastCore : Nat := 0
deriving DecidableEq, Repr

/-- A byte of an on-chip memory: its level, g for a dirty byte of L1; the core (context and virtual core), the square or the
die that holds it; its address there, for L1 the intermediate address, for lane-private memory 512 × (32 × line + lane) + offset. -/
structure ChipAt where
  lvl : Lvl
  owner : Nat × Nat
  addr : Nat
deriving DecidableEq, Repr

/-- A symbol of a codeword (R390): its group, its bank in the group (0 to 15 data, 16 and 17 check, 18 spare) and the codeword's
number in the group, one for each row. -/
structure SymAt where
  grp : BankGroup
  bank : Nat
  word : Nat
deriving DecidableEq, Repr

/-- A store under SECDED, beside register files and pans (R393): a tile, the issue queue of a line, the range scoreboard of a core,
or its catch buffer. -/
inductive StoreAt where
  | tile (ctx vc line key : Nat)
  | issue (ctx vc line : Nat)
  | board (ctx vc : Nat)
  | caught (ctx vc : Nat)
deriving DecidableEq, Repr

/-- The machine. -/
structure State where
  aux : Aux := {}
  issue : Issue := {}
  /-- actions in flight inside the device, and frames and events that have come in from outside -/
  agenda : List Instr := []
  threads : Tbl Place Thread := []
  lines : Tbl LineKey Line := []
  cores : Tbl CoreKey Core := []
  squares : Tbl Nat Square := []
  dies : Tbl Nat Die := []
  mem : Memory := []
  /-- physical addresses whose bytes are uncorrectable (R151) -/
  uncorr : List Nat := []
  /-- symbols of DRAM bursts that read wrong, by physical address: one in a burst is corrected, two are not (R393) -/
  dramSyms : List Nat := []
  /-- bytes of on-chip memories that are uncorrectable (R151, R390, R393) -/
  badChip : List ChipAt := []
  /-- symbols of the bank groups' codewords that read wrong (R390) -/
  badSyms : List SymAt := []
  /-- stores under SECDED that hold an error, and whether it is more than one bit (R393) -/
  badStores : List (StoreAt × Bool) := []
  /-- entries of pans that are uncorrectable (R265) -/
  badPans : List (PanId × Partial) := []
  ctxs : Tbl Nat Ctx := []
  queues : Tbl Nat Queue := []
  launches : Tbl Nat Launch := []
  kernels : Tbl Nat Kernel := []
  pans : Tbl PanId (List Partial) := []
  /-- root stores of the memory-side units (R259) -/
  roots : List Partial := []
  waits : List Wait := []
  wbHeld : List WbHeld := []
  /-- atomics between their read and their write, oldest first -/
  halves : List HalfAtom := []
  images : List Image := []
  hub : Hub := {}
  out : List Sent := []
deriving DecidableEq, Repr

/-- The device right after power-up (R399 step 7): no context, no thread, no job; session 0 open with the key of
the provisioning record; the ports down (R364 gives no state: notes/assumptions/14.md). -/
def State.reset : State :=
  { hub := { deviceKey := Config.deviceKey 0, sessions := [(0, { ctx := 0, key := Config.session0Key })], addrs := Config.provAddrs, pool := 3600 } }

end Sys2Proof.Machine
end

