-- ==== Sys2Proof/Machine/Ops.lean ====
section
/-!
DEFINITION. The named operations over tables, memory, registers and frontiers, taking a trap (R341, R342), parking
(R78, R150), and finishing the issue of an instruction (R74, R132).
-/
namespace Sys2Proof.Machine

/-! ## Tables -/

def look {κ α : Type} [DecidableEq κ] : List (κ × α) → κ → Option α
  | [], _ => none
  | (k', v) :: r, k => if k' = k then some v else look r k

def put {κ α : Type} [DecidableEq κ] : List (κ × α) → κ → α → List (κ × α)
  | [], k, v => [(k, v)]
  | (k', v') :: r, k, v => if k' = k then (k, v) :: r else (k', v') :: put r k v

def del {κ α : Type} [DecidableEq κ] : List (κ × α) → κ → List (κ × α)
  | [], _ => []
  | (k', v') :: r, k => if k' = k then del r k else (k', v') :: del r k

def setNth {α : Type} : List α → Nat → α → List α
  | [], _, _ => []
  | _ :: r, 0, v => v :: r
  | x :: r, n + 1, v => x :: setNth r n v

def removeNth {α : Type} : List α → Nat → List α
  | [], _ => []
  | _ :: r, 0 => r
  | x :: r, n + 1 => x :: removeNth r n

/-- The least number below `n` (from 0) that a list does not hold. -/
def leastFree (used : List Nat) (n : Nat) : Option Nat := (List.range n).find? (fun i => !used.contains i)

/-- Each element once, in the order of first occurrence. -/
def dedup {α : Type} [DecidableEq α] (l : List α) : List α :=
  l.foldl (fun acc x => if acc.contains x then acc else acc ++ [x]) []

def insertOn {α : Type} (f : α → Nat) (x : α) : List α → List α
  | [] => [x]
  | y :: r => if f x ≤ f y then x :: y :: r else y :: insertOn f x r
/-- In ascending order of a key. -/
def sortOn {α : Type} (f : α → Nat) (l : List α) : List α := l.foldr (insertOn f) []
def sortNat (l : List Nat) : List Nat := sortOn id l

/-! ## Sparse maps in canonical form: keys rising, no entry equal to the default -/

def sget {α : Type} (dflt : α) : List (Nat × α) → Nat → α
  | [], _ => dflt
  | (a, v) :: r, k => if a = k then v else sget dflt r k

def sset {α : Type} [DecidableEq α] (dflt : α) : List (Nat × α) → Nat → α → List (Nat × α)
  | [], k, v => if v = dflt then [] else [(k, v)]
  | (a, w) :: r, k, v =>
    if k < a then (if v = dflt then (a, w) :: r else (k, v) :: (a, w) :: r)
    else if k = a then (if v = dflt then r else (k, v) :: r)
    else (a, w) :: sset dflt r k v

/-- The canonical form, above a lower bound. -/
def swfFrom {α : Type} [DecidableEq α] (dflt : α) : Nat → List (Nat × α) → Bool
  | _, [] => true
  | lo, (a, v) :: r => decide (lo ≤ a) && decide (v ≠ dflt) && swfFrom dflt (a + 1) r

def swf {α : Type} [DecidableEq α] (dflt : α) (m : List (Nat × α)) : Bool := swfFrom dflt 0 m

/-- Every key from lo to hi takes the default. -/
def sclear {α : Type} (m : List (Nat × α)) (lo hi : Nat) : List (Nat × α) :=
  m.filter (fun c => c.1 < lo || hi < c.1)

/-- The canonical form of a memory. -/
def Memory.wf (m : Memory) : Bool := swf unlisted m
def Memory.byte (m : Memory) (a : Nat) : Byte := sget unlisted m a
def Memory.setByte (m : Memory) (a : Nat) (b : Byte) : Memory := sset unlisted m a b
/-- Bytes a, a + 1, … -/
def Memory.readBytes (m : Memory) (a : Nat) : Nat → List Byte
  | 0 => []
  | n + 1 => m.byte a :: Memory.readBytes m (a + 1) n
def Memory.writeBytes (m : Memory) (a : Nat) : List Byte → Memory
  | [] => m
  | b :: bs => Memory.writeBytes (m.setByte a b) (a + 1) bs
/-- Bytes lo to hi become zero. `unlisted` is zero, so they leave the list. -/
def Memory.zero (m : Memory) (lo hi : Nat) : Memory := sclear m lo hi

/-- Little-endian value of bytes (R9). -/
def natOfBytes : List Byte → Nat
  | [] => 0
  | b :: bs => b.toNat + 256 * natOfBytes bs
/-- The n little-endian bytes of a value (R9). -/
def bytesOfNat : Nat → Nat → List Byte
  | _, 0 => []
  | x, n + 1 => BitVec.ofNat 8 x :: bytesOfNat (x / 256) n

/-- The 32-bit words of a value, low word first. -/
def wordsOfNat : Nat → Nat → List Word
  | _, 0 => []
  | x, n + 1 => BitVec.ofNat 32 x :: wordsOfNat (x / 2 ^ 32) n
def natOfWords : List Word → Nat
  | [] => 0
  | w :: ws => w.toNat + 2 ^ 32 * natOfWords ws

/-! ## Accessors -/

def State.serial (s : State) : Nat := s.aux.serial
def State.bump (s : State) : State := { s with aux := { s.aux with serial := s.aux.serial + 1 } }
def State.post (s : State) (i : Instr) : State := { s with agenda := s.agenda ++ [i] }
def State.send (s : State) (f : Frame) : State := { s with out := s.out ++ [{ frame := f }] }

def State.ctx? (s : State) (c : Nat) : Option Ctx := look s.ctxs c
def State.ctx (s : State) (c : Nat) : Ctx := (look s.ctxs c).getD {}
def State.modCtx (s : State) (c : Nat) (f : Ctx → Ctx) : State :=
  match look s.ctxs c with
  | none => s
  | some x => { s with ctxs := put s.ctxs c (f x) }

/-- The session bound to a context (R373). -/
def State.sessionOf (s : State) (c : Nat) : Nat := ((s.hub.sessions.find? (fun e => e.1 != 0 && e.2.ctx == c)).map (·.1)).getD 0

def State.core (s : State) (c v : Nat) : Core := (look s.cores ⟨c, v⟩).getD {}
def State.modCore (s : State) (c v : Nat) (f : Core → Core) : State :=
  { s with cores := put s.cores ⟨c, v⟩ (f (s.core c v)) }

def State.line (s : State) (c v l : Nat) : Line := (look s.lines ⟨c, v, l⟩).getD {}
def State.modLine (s : State) (c v l : Nat) (f : Line → Line) : State :=
  { s with lines := put s.lines ⟨c, v, l⟩ (f (s.line c v l)) }

def State.thread (s : State) (p : Place) : Thread := (look s.threads p).getD {}
def State.modThread (s : State) (p : Place) (f : Thread → Thread) : State :=
  match look s.threads p with
  | none => s
  | some t => { s with threads := put s.threads p (f t) }

def State.square (s : State) (q : Nat) : Square := (look s.squares q).getD {}
def State.modSquare (s : State) (q : Nat) (f : Square → Square) : State :=
  { s with squares := put s.squares q (f (s.square q)) }
def State.die (s : State) (d : Nat) : Die := (look s.dies d).getD {}
def State.modDie (s : State) (d : Nat) (f : Die → Die) : State :=
  { s with dies := put s.dies d (f (s.die d)) }

/-- The thread at a lane of the issuing gang's line. -/
def State.lane (s : State) (l : Nat) : Thread := s.thread ⟨s.issue.ctx, s.issue.vc, s.issue.line, l⟩
def State.modLane (s : State) (l : Nat) (f : Thread → Thread) : State :=
  s.modThread ⟨s.issue.ctx, s.issue.vc, s.issue.line, l⟩ f
def State.modLanes (s : State) (ls : List Nat) (f : Thread → Thread) : State :=
  ls.foldl (fun s l => s.modLane l f) s
def State.issLine (s : State) : Line := s.line s.issue.ctx s.issue.vc s.issue.line
def State.modIssLine (s : State) (f : Line → Line) : State := s.modLine s.issue.ctx s.issue.vc s.issue.line f
def State.issCore (s : State) : Core := s.core s.issue.ctx s.issue.vc
def State.modIssCore (s : State) (f : Core → Core) : State := s.modCore s.issue.ctx s.issue.vc f
def State.issCtx (s : State) : Ctx := s.ctx s.issue.ctx
def State.modIssCtx (s : State) (f : Ctx → Ctx) : State := s.modCtx s.issue.ctx f

/-- The physical core that holds a virtual core (R14); the square and die of a physical core (R13). -/
def State.phys? (s : State) (c v : Nat) : Option Nat := look (s.ctx c).place v
def State.phys (s : State) (c v : Nat) : Nat := (s.phys? c v).getD 0
def squareOf (phys : Nat) : Nat := phys / 16
def dieOf (phys : Nat) : Nat := phys / 160
def State.issPhys (s : State) : Nat := s.phys s.issue.ctx s.issue.vc
/-- The physical core by which handles and channel words name a virtual core (R44, R140, R164). -/
def State.homeOf (s : State) (c v : Nat) : Nat := (s.core c v).home.getD (s.phys c v)
/-- The virtual core that a context keeps on a physical core. -/
def State.vcoreAt (s : State) (c phys : Nat) : Option Nat :=
  ((s.ctx c).place.find? (fun e => e.2 == phys)).map (·.1)

/-- A virtual core holds its state on a physical core, with its clock running or stopped by a debug unit: what comes to
its lanes acts on them. -/
def State.coreHere (s : State) (c v : Nat) : Bool :=
  (match (s.core c v).run with
   | .running | .debugStopped _ => true
   | _ => false) && (s.phys? c v).isSome

/-- Is a physical core, a die present (R2, R394)? -/
def State.corePresent (s : State) (p : Nat) : Bool :=
  p < Config.cores && !s.hub.ras.absentCores.contains p && !s.hub.ras.absentSquares.contains (squareOf p) &&
    !s.hub.ras.absentDies.contains (dieOf p)
def State.diePresent (s : State) (d : Nat) : Bool := d < Config.dies && !s.hub.ras.absentDies.contains d
def State.squarePresent (s : State) (q : Nat) : Bool :=
  q < 40 && !s.hub.ras.absentSquares.contains q && s.diePresent (q / 10)

/-- Flits that return to a core whose clock is stopped go to its catch buffer (R349). -/
def State.catchFlits (s : State) (c v n : Nat) : State :=
  match (s.core c v).run with
  | .scanning .. => s.modCore c v (fun x => { x with caught := x.caught + n })
  | _ => s
/-- Flits on their way back to a core, one for each lane or entry: its credits allow no more than its catch buffer holds (R350). -/
def State.repliesOut (s : State) (c v : Nat) : Nat :=
  (s.agenda.map (fun i => match i with
    | .longLatencyReturn r => if r.ctx = c ∧ r.vc = v then r.lanes.length else 0
    | .channelPushArrive p => if p.ctx = c ∧ p.vc = v then p.vals.length else 0
    | _ => 0)).sum

/-- All the flits that a core has still coming or may come to have: replies on their way, entries reserved in its queues, held accesses,
waits, queued reads of tiles, and definitions that the hub judges. Its credits and the room in its queues keep them within its catch
buffer (R350). -/
def State.flitsDue (s : State) (c v : Nat) : Nat :=
  (s.agenda.map (fun i => match i with
    | .longLatencyReturn r => if r.ctx = c ∧ r.vc = v then r.lanes.length else 0
    | .vcAccept q => (match q.reply with
      | some r => if r.ctx = c ∧ r.vc = v then r.lanes.length else 0
      | none => 0)
    | _ => 0)).sum +
  ((s.lines.filter (fun e => e.1.ctx == c && e.1.vc == v)).map (fun e => (e.2.chans.map (fun ch => (ch.queue.filter (fun q => match q with
    | .resv _ => true
    | _ => false)).length)).sum)).sum +
  ((s.threads.filter (fun e => e.1.ctx == c && e.1.vc == v)).map (fun e => e.2.held.length)).sum +
  ((s.waits.filter (fun w => w.reply.ctx == c && w.reply.vc == v)).map (fun w => w.reply.lanes.length)).sum +
  ((s.core c v).engines.map (fun e => (e.2.map (fun p => match p with
    | .read _ _ _ r _ => r.lanes.length
    | _ => 0)).sum)).sum

/-! ## Launches, images, positions -/

def State.launchOf (s : State) (t : Thread) : Option Launch := look s.launches t.launch
/-- khnd of a launch record (R224). -/
def khndOf (r : BitVec 2048) : Nat := bits r.toNat 32 32
def State.kernelOf (s : State) (t : Thread) : Option Kernel :=
  match s.launchOf t with
  | none => none
  | some l => look s.kernels (khndOf l.recd)

/-- The block that holds a word: its priority (R101). -/
def blockPriority : List (Nat × Nat) → Nat → Nat
  | [], _ => 0
  | (start, prio) :: r, w => if w < start then 0 else
      match r with
      | (next, _) :: _ => if w < next then prio else blockPriority r w
      | [] => prio
def isBlockStart (k : Kernel) (w : Nat) : Bool := k.blocks.any (fun b => b.1 == w) && decide (w < k.code.length)

/-- The position after a lane's (R132, R79). -/
def nextPos (t : Thread) : Pos :=
  if t.opened && !t.pos.sub then ⟨t.pos.word, true⟩ else ⟨t.pos.word + 1, false⟩
def nextOpened (t : Thread) : Bool := t.opened && !t.pos.sub

/-! ## Results outstanding (R74) -/

/-- The lanes of a place that an action in flight will write. -/
def instrReturns : Instr → Option (Nat × Nat × Nat × List Nat)
  | .longLatencyReturn r => some (r.ctx, r.vc, r.line, r.lanes)
  | .vcAccept q => q.reply.map (fun p => (p.ctx, p.vc, p.line, p.lanes))
  | _ => none

def Pass.returnsTo (p : Pass) : List Nat :=
  match p with
  | .read _ _ _ r _ => r.lanes
  | .drain _ _ _ _ lanes _ _ _ => lanes
  | _ => []
def Pass.line : Pass → Nat
  | .mma l _ _ _ _ _ _ _ _ _ _ _ => l
  | .clear l _ => l
  | .read l _ _ _ _ => l
  | .drain l _ _ _ _ _ _ _ => l

/-- A long-latency result of the lane is outstanding. -/
def State.outstanding (s : State) (p : Place) : Bool :=
  s.agenda.any (fun i => match instrReturns i with
    | some (c, v, l, ls) => c == p.ctx && v == p.vc && l == p.line && ls.contains p.lane
    | none => false) ||
  s.waits.any (fun w => w.reply.ctx == p.ctx && w.reply.vc == p.vc && w.reply.line == p.line && w.reply.lanes.contains p.lane) ||
  (s.core p.ctx p.vc).engines.any (fun e => e.2.any (fun q => q.line == p.line && q.returnsTo.contains p.lane))

/-- The lanes of a line with their threads. -/
def State.lineThreads (s : State) (c v l : Nat) : List (Nat × Thread) :=
  (s.threads.filter (fun e => e.1.ctx == c && e.1.vc == v && e.1.line == l)).map (fun e => (e.1.lane, e.2))
def State.coreThreads (s : State) (c v : Nat) : List (Place × Thread) :=
  s.threads.filter (fun e => e.1.ctx == c && e.1.vc == v)

/-- A lane may issue: it runs, or it stands at an S point whose results have all returned (R74, R132). -/
def State.eligible (s : State) (p : Place) (t : Thread) : Bool :=
  match t.stat with
  | .run => true
  | .sync id => !(s.lineThreads p.ctx p.vc p.line).any
      (fun e => e.2.stat == .sync id && s.outstanding { p with lane := e.1 })
  | .parked id => !(s.lineThreads p.ctx p.vc p.line).any
      (fun e => e.2.stat == .parked id && (!e.2.held.isEmpty || s.outstanding { p with lane := e.1 }))
  | _ => false

/-! ## Finishing an issue -/

/-- The issue counts as one of its line's instructions, and as one issue of a `step` of the line (R217, R382). -/
def State.countIssue (s : State) : State :=
  if s.issue.counted then s else
  let l := s.issue.line
  let s := s.modIssCore (fun x => { x with
    issued := put x.issued l ((look x.issued l).getD 0 + 1)
    step := match x.step with
      | some st => some (if st.line = l then { st with left := st.left - 1, made := st.made + 1 } else st)
      | none => none })
  { s with issue := { s.issue with counted := true } }

/-- The lanes leave the position for `next`; at an S point lanes with held accesses park (R150) and the others wait
for their results (R74). -/
def State.moveTo (s : State) (sb : Bool) (lanes : List Nat) (next : Nat → Thread → Pos × Bool) : State :=
  let id := s.aux.serial
  (lanes.foldl (fun s l => s.modLane l (fun t =>
    { t with
      pos := (next l t).1
      opened := (next l t).2
      last := s.aux.time
      chanWait := false
      stalled := none
      stat := if sb then (if t.held.isEmpty then .sync id else .parked id) else .run })) s).bump

def setChan (l : Line) (k : Nat) (c : Chan) : Line := { l with chans := setNth l.chans k c }

/-- The entries that these lanes have read leave their queues; those of lanes that trap stay (R166, R338). -/
def State.popFor (s : State) (lanes : List Nat) : State :=
  match s.issue.pops with
  | [] => s
  | ps =>
    let s := (dedup (ps.map (·.1))).foldl (fun s k => s.modIssLine (fun x =>
      let c := x.chans.getD k {}
      let mine := (ps.filter (fun e => e.1 == k)).map (·.2)
      let kept := ((c.queue.zip mine).filter (fun e => !lanes.contains e.2)).map (·.1)
      setChan x k { c with queue := kept ++ c.queue.drop mine.length })) s
    { s with issue := { s.issue with pops := ps.filter (fun e => !lanes.contains e.2) } }

/-- The instruction has issued in these lanes, which go on to `next`. -/
def State.finishTo (s : State) (sb : Bool) (lanes : List Nat) (next : Nat → Thread → Pos × Bool) : State :=
  (if lanes.isEmpty then s else (s.popFor lanes).countIssue).moveTo sb lanes next

def State.finish (s : State) (sb : Bool) (lanes : List Nat) : State :=
  s.finishTo sb lanes (fun _ t => (nextPos t, nextOpened t))

/-- The gang stays at its position, and is ready to try again once another action has been taken (a stall at issue, R240). -/
def State.stall (s : State) : State := s.modLanes s.issue.lanes (fun t => { t with stalled := some s.aux.acts })

/-- Lanes park together at their position until their held accesses are performed and their results are back. -/
def State.parkHere (s : State) (lanes : List Nat) : State :=
  (s.modLanes lanes (fun t => { t with stat := .parked s.aux.serial })).bump

/-- Lanes that hold accesses park where they stand (R150): past a fence or `scset`, which completes before the next
instruction of its gang issues (R157, R161). -/
def State.parkHeld (s : State) (lanes : List Nat) : State :=
  (s.modLanes lanes (fun t => if t.stat == .run && !t.held.isEmpty then { t with stat := .parked s.aux.serial } else t)).bump

/-- The gang waits at a channel pop or peek until entries arrive (R166, R240). -/
def State.stallChan (s : State) : State :=
  s.modLanes s.issue.lanes (fun t => { t with chanWait := true })

/-! ## Taking a trap -/

/-- The trap codes of R339. -/
inductive TrapCode where
  | illegal | privileged | controlTarget | windowBounds | group | channel | alignment | privateBounds | onChipBounds
  | range | staleIndex | nonMember | recordFormat | matrix | slot | jobTable | translation | software | breakpoint
  | machineCheck | arithCheck
deriving DecidableEq, Repr

def TrapCode.code : TrapCode → Nat
  | .illegal => 0x01 | .privileged => 0x02 | .controlTarget => 0x03 | .windowBounds => 0x04 | .group => 0x05
  | .channel => 0x06 | .alignment => 0x07 | .privateBounds => 0x08 | .onChipBounds => 0x09 | .range => 0x0A
  | .staleIndex => 0x0B | .nonMember => 0x0C | .recordFormat => 0x0D | .matrix => 0x0E | .slot => 0x0F
  | .jobTable => 0x10 | .translation => 0x11 | .software => 0x12 | .breakpoint => 0x13
  | .machineCheck => 0x20 | .arithCheck => 0x21

/-- The machine traps of R338. -/
def TrapCode.isMachine : TrapCode → Bool
  | .machineCheck | .arithCheck => true
  | _ => false

/-- A trap as one lane takes it (R338, R339). -/
structure Trap where
  code : TrapCode
  cause : Nat := 0
  info : Nat := 0
  /-- the error log entry that comes with it: kind, loc and addr (R395) -/
  log : Option (Nat × Nat × Nat) := none
deriving DecidableEq, Repr

/-- Bit l of a lanes field for each lane. -/
def laneMask (ls : List Nat) : Nat := ls.foldl (fun m l => m ||| 2 ^ l) 0

/-- The trap record of R342. -/
def trapRecord (t : Trap) (pos : Pos) (ctx vc tseq line : Nat) (lanes : List Nat) : BitVec 256 :=
  BitVec.ofNat 256 (laneMask lanes % 2 ^ 32 + line * 2 ^ 32 + (tseq % 2 ^ 16) * 2 ^ 48 + vc * 2 ^ 64 + ctx * 2 ^ 128 +
    (t.cause % 256) * 2 ^ 144 + t.code.code * 2 ^ 152 + (if pos.sub then 2 ^ 169 else 0) +
    (pos.word % 2 ^ 22) * 2 ^ 170 + (t.info % 2 ^ 64) * 2 ^ 192)

/-- A record joins those that wait for an entry of the context's trap queue (R341, R388). -/
def State.queueRecord (s : State) (c : Nat) (r : BitVec 256) : State :=
  (s.modCtx c (fun x => { x with traps := { x.traps with waiting := x.traps.waiting ++ [r], tseq := (x.traps.tseq + 1) % 2 ^ 16 } })).post
    (.trapRecordEnqueue c)

/-- An entry of the error log (R394, R395): kind, action, context or 0x3FF, loc, address. The log keeps 96 entries. -/
def State.logError (s : State) (kind action ctx loc addr : Nat) : State :=
  let e := BitVec.ofNat 256 (action * 2 ^ 76 + kind * 2 ^ 80 + (ctx % 1024) * 2 ^ 86 + loc * 2 ^ 96 + (addr % 2 ^ 64) * 2 ^ 128 +
    (Config.nanosAt s.aux.time % 2 ^ 64) * 2 ^ 192)
  let r := s.hub.ras
  { s with hub := { s.hub with ras := { r with
      log := if r.log.length < 96 then r.log ++ [e] else setNth r.log (r.logn % 96) e
      logn := r.logn + 1 } } }

/-- Adding to a counter of the configuration block; counters saturate (R394). -/
def State.count (s : State) (k n : Nat) : State :=
  { s with hub := { s.hub with ras := { s.hub.ras with
      counters := put s.hub.ras.counters k (min (2 ^ 64 - 1) ((look s.hub.ras.counters k).getD 0 + n)) } } }

/-- The error report of uncorrectable data: a log entry, and the counter at 0x228 (R394, R395). -/
def State.reportError (s : State) (kind action ctx loc addr : Nat) : State := (s.logError kind action ctx loc addr).count 5 1

/-- loc of R395 for a physical address: its memory and, as its group, the channel (R270, R271). -/
def dramLoc (pa : Nat) : Nat :=
  if pa < 2 ^ 38 then pa / 2 ^ 36 * 2 ^ 28 + 8 * 2 ^ 24 + (pa / 2 ^ 9 % 32 ^^^ pa / 2 ^ 14 % 32) * 2 ^ 18
  else 15 * 2 ^ 28 + 9 * 2 ^ 24 + (pa / 2 ^ 12 % 32 ^^^ pa / 2 ^ 17 % 32) * 2 ^ 18

/-- Taking one trap: the lanes leave their frontier entry as a trapped entry at `pos`, and one record names them
(R341). Taking an exception is this operation, whatever raised it. -/
def State.takeTrap (s : State) (p : LineKey) (lanes : List Nat) (pos : Pos) (t : Trap) : State :=
  if lanes.isEmpty then s else
  let s := match t.log with
    | some (kind, loc, addr) => s.reportError kind 1 p.ctx loc addr
    | none => s
  let s := if s.issue.ctx = p.ctx ∧ s.issue.vc = p.vc ∧ s.issue.line = p.line ∧ s.issue.pos = pos ∧ lanes.all (fun l => s.issue.lanes.contains l) then
    s.countIssue else s
  let q := (s.ctx p.ctx).traps.tseq
  let s := lanes.foldl (fun s l => s.modThread ⟨p.ctx, p.vc, p.line, l⟩ (fun x => { x with stat := .trapped q t.code.isMachine })) s
  s.queueRecord p.ctx (trapRecord t pos p.ctx p.vc q p.line lanes)

/-- The traps that the lanes of one issue take: lanes with one code, cause and info form one trap (R341). -/
def State.takeTraps (s : State) (p : LineKey) (pos : Pos) (ts : List (Nat × Trap)) : State :=
  (dedup (ts.map (·.2))).foldl (fun s t => s.takeTrap p ((ts.filter (fun e => e.2 == t)).map (·.1)) pos t) s

def State.issKey (s : State) : LineKey := ⟨s.issue.ctx, s.issue.vc, s.issue.line⟩
/-- Traps of the issuing gang at its position. -/
def State.trapIssue (s : State) (ts : List (Nat × Trap)) : State := s.takeTraps s.issKey s.issue.pos ts
/-- Every lane of the issuing gang takes one trap. -/
def State.trapAll (s : State) (t : Trap) : State := s.takeTrap s.issKey s.issue.lanes s.issue.pos t

/-- Return from a trap: management's answers (R343). -/
def State.clearTrap (s : State) (p : Place) (retry : Bool) : State :=
  s.modThread p (fun t => if retry then { t with stat := .run } else { t with stat := .run, pos := nextPos t, opened := nextOpened t })

/-- Residue-checked operations of these lanes (R389): the lanes whose operation mismatches twice, and the state after
the repeats are counted and second mismatches logged. -/
def State.residueCheck (s : State) (ctx die action : Nat) (lanes : List Nat) : List Nat × State :=
  let z := lanes.zip s.aux.residue
  let bad := (z.filter (fun e => e.2 == 2)).map (·.1)
  let reps := (z.filter (fun e => e.2 != 0)).length
  let s := { s with aux := { s.aux with residue := s.aux.residue.drop lanes.length } }
  let s := if reps = 0 then s else s.count 4 reps
  (bad, bad.foldl (fun s _ => s.logError 0x06 action ctx (die * 2 ^ 28) 0) s)

/-- The clock of a die at a step: the running one, or the one that ran until a later step (R5, R396). -/
def Die.clockAt (d : Die) (t : Nat) : Nat := ((d.clocks.filter (fun e => decide (t < e.1))).getLast?.map (·.2)).getD d.clock
/-- The cycles that a die's clock has counted over n steps from a on. -/
def State.cyclesFrom (s : State) (d a : Nat) : Nat → Nat
  | 0 => 0
  | n + 1 => s.cyclesFrom d a n + Config.cyclesOf (a + n) ((s.die d).clockAt (a + n))
/-- The counter clk of a virtual core at this step (R42): the cycles of its die's running clock during which it was placed. -/
def State.clk (s : State) (c v : Nat) : DWord :=
  let x := s.core c v
  match x.clkFrom with
  | none => x.clkBase
  | some a => x.clkBase + BitVec.ofNat 64 (s.cyclesFrom (dieOf (s.phys c v)) a (s.aux.time - a))

/-! ## Stores under SECDED (R393) -/

/-- A store is read: a single-bit error is corrected and counted, a greater one is found. -/
def State.readStore (s : State) (x : StoreAt) : Bool × State :=
  if s.badStores.isEmpty then (false, s) else
  let t : State := { s with badStores := s.badStores.filter (fun e => e.1 != x) }
  (s.badStores.contains (x, true), if s.badStores.contains (x, false) then t.count 3 1 else t)
/-- The machine check of such a store of a core, with its log entry (R395). -/
def State.storeCheck (s : State) (c v : Nat) : Trap :=
  { code := .machineCheck, log := some (4, dieOf (s.phys c v) * 2 ^ 28 + 10 * 2 ^ 24 + s.phys c v, 0) }

end Sys2Proof.Machine
end

