-- ==== Sys2Proof/Machine/Pages.lean ====
section
/-!
DEFINITION. Translation: range registers (R306 to R308), the page table and its walk (R309, R310, R313), and the checks of
R314.
-/
namespace Sys2Proof.Machine

/-! ## Range registers -/

def rrBase (r : BitVec 256) : Nat := bits r.toNat 0 57
def rrLimit (r : BitVec 256) : Nat := bits r.toNat 64 57
def rrIa (r : BitVec 256) : Nat := bits r.toNat 128 52
def rrRd (r : BitVec 256) : Bool := r.getLsbD 192
def rrWr (r : BitVec 256) : Bool := r.getLsbD 193
def rrAttr (r : BitVec 256) : Nat := bits r.toNat 194 2
def rrValid (r : BitVec 256) : Bool := r.getLsbD 199

def insertSpan (x : Span) : List Span → List Span
  | [] => [x]
  | y :: r => if x.va ≤ y.va then x :: y :: r else y :: insertSpan x r

/-- The stretches that map n bytes at va with the needed permission, in order; none where a byte is not mapped
(R147, R308). -/
def mapSpans (tbl : Tbl Nat (BitVec 256)) (va n : Nat) (rd wr : Bool) : Option (List Span) :=
  let parts := (tbl.filterMap (fun e =>
    let r := e.2
    let lo := max va (rrBase r)
    let hi := min (va + n - 1) (rrLimit r)
    if rrValid r && (!rd || rrRd r) && (!wr || rrWr r) && decide (lo ≤ hi) && decide (0 < n) then
      some { ia := rrIa r + (lo - rrBase r), len := hi + 1 - lo, attr := rrAttr r, va := lo : Span }
    else none)).foldr insertSpan []
  if (parts.map (·.len)).sum = n then some parts else none

/-- Intermediate addresses from here on name the configuration block, which the hub maps into every privileged context
(R394); no range register reaches them. -/
def cfgIa : Nat := 2 ^ 52

def State.mapVa (s : State) (c va n : Nat) (rd wr : Bool) : Option (List Span) :=
  let a := s.hub.cfgAddr.toNat
  if (s.ctx c).set.priv && decide (a ≤ va) && decide (va + n ≤ a + 4096) && decide (0 < n) then
    some [{ ia := cfgIa + (va - a), len := n, attr := 1, va := va }]
  else mapSpans (s.ctx c).trans.ranges va n rd wr

/-- The stronger of the attributes of an access: SO over RC over UO (R293). -/
def strongest (ss : List Span) : Nat := ss.foldl (fun m x => max m x.attr) 0
/-- The intermediate addresses of an access, byte by byte. -/
def spanIas (ss : List Span) : List Nat := ss.flatMap (fun x => (List.range x.len).map (fun i => x.ia + i))

/-! ## Page walk -/

structure PFault where
  cause : Nat
  lvl : Nat
  vcn : Nat
  ia : Nat
deriving DecidableEq, Repr

def peValid (e : DWord) : Bool := e.getLsbD 63
def peKind (e : DWord) : Nat := bits e.toNat 61 2
def peVc (e : DWord) : Nat := bits e.toNat 58 3
def peWr (e : DWord) : Bool := e.getLsbD 57
def peRd (e : DWord) : Bool := e.getLsbD 56
def peMig (e : DWord) : Bool := e.getLsbD 55
def pePa (e : DWord) : Nat := bits e.toNat 12 36 * 2 ^ 12

/-- The lowest intermediate-address bit that a level's index or offset leaves out (R309). -/
def levelShift (L : Nat) : Nat := if L = 0 then 18 else if L = 1 then 25 else if L = 2 then 32 else 42
/-- The size of the page that a fault is about: that of the leaf met, or the smallest where none was (notes/assumptions/35.md). -/
def faultShift (cause L : Nat) : Nat := if cause = 1 then 18 else levelShift L

/-- Index bits of a level (R309). -/
def levelBits (L : Nat) : Nat := if 2 ≤ L then 10 else 7
/-- Where the entry for an intermediate address stands in the table of a level at `base` (R309). -/
def entryIn (base L ia : Nat) : Nat := base + 8 * ((ia >>> levelShift L) % 2 ^ levelBits L)
def pageSize (L : Nat) : Nat := 2 ^ levelShift L

/-- The walk from the table at `base` downward (R313): the leaf and its level. The first argument is the table's level
plus one. -/
def walkFrom (pages : Tbl Nat DWord) (ia : Nat) : Nat → Nat → Except PFault (Nat × DWord)
  | 0, _ => .error ⟨1, 0, 0, ia⟩
  | L + 1, base =>
    match look pages (entryIn base L ia) with
    | none => .error ⟨1, L, 0, ia⟩
    | some e =>
      if !peValid e then .error ⟨1, L, 0, ia⟩
      else if peKind e = 0 then walkFrom pages ia L (pePa e)
      else .ok (L, e)

def State.walk (s : State) (c ia : Nat) : Except PFault (Nat × DWord) :=
  walkFrom (s.ctx c).trans.pages ia 4 (s.ctx c).trans.root

/-- The physical address at which the walk of an intermediate address reads its entry of level L; none where it ends above. -/
def entryFrom (pages : Tbl Nat DWord) (L ia : Nat) : Nat → Nat → Option Nat
  | 0, _ => none
  | M + 1, base =>
    let a := entryIn base M ia
    if M = L then some a else
    match look pages a with
    | some e => if peValid e && peKind e == 0 then entryFrom pages L ia M (pePa e) else none
    | none => none
def Trans.entryAt (t : Trans) (L ia : Nat) : Option Nat := entryFrom t.pages L ia 4 t.root

/-- The leaves that a walk can reach from the table at `base`, whose index prefix is `pre`: level, intermediate page number,
entry. -/
def leavesFrom (pages : Tbl Nat DWord) : Nat → Nat → Nat → List (Nat × Nat × DWord)
  | 0, _, _ => []
  | L + 1, base, pre => pages.flatMap (fun x =>
    if base ≤ x.1 && decide (x.1 < base + 8 * 2 ^ levelBits L) && (x.1 - base) % 8 == 0 && peValid x.2 then
      let p := pre * 2 ^ levelBits L + (x.1 - base) / 8
      if peKind x.2 = 0 then leavesFrom pages L (pePa x.2) p else [(L, p, x.2)]
    else [])
def Trans.leaves (t : Trans) : List (Nat × Nat × DWord) := leavesFrom t.pages 4 t.root 0

/-- The physical address of a byte under a leaf. -/
def leafPa (L : Nat) (e : DWord) (ia : Nat) : Nat := pePa e + ia % 2 ^ levelShift L
def State.paOf (s : State) (c ia : Nat) : Nat :=
  match s.walk c ia with
  | .ok (L, e) => leafPa L e ia
  | .error _ => 0

/-- Frames that hold code, a dictionary or a block table (R103). -/
def isCodeFrame (pa : Nat) : Bool := decide (Config.codeBase ≤ pa)

def State.vcOf (s : State) (c n : Nat) : VCache := (look (s.ctx c).vcs n).getD {}
def State.modVc (s : State) (c n : Nat) (f : VCache → VCache) : State :=
  s.modCtx c (fun x => { x with vcs := put x.vcs n (f ((look x.vcs n).getD {})) })

/-- The checks of R314, in the order of its causes. -/
def State.checkPage (s : State) (c ia : Nat) (rd wr : Bool) : Except PFault (Nat × DWord) :=
  if cfgIa ≤ ia then (if wr then .error ⟨2, 0, 0, ia⟩ else .ok (0, 0xA100000000000000#64)) else
  match s.walk c ia with
  | .error f => .error f
  | .ok (L, e) =>
    let st := (s.vcOf c (peVc e)).state
    if (rd && !peRd e) || (wr && !peWr e) || (wr && isCodeFrame (leafPa L e ia)) then .error ⟨2, L, peVc e, ia⟩
    else if st == .undefined || st == .releasing then .error ⟨3, L, peVc e, ia⟩
    else .ok (L, e)

/-- The accessed and dirty marks of the leaf (R310). -/
def State.markLeaf (s : State) (c ia : Nat) (wr : Bool) : State :=
  match s.walk c ia with
  | .error _ => s
  | .ok (L, e) =>
    match (s.ctx c).trans.entryAt L ia with
    | none => s
    | some a =>
      let e' := e ||| 0x40000000000000#64 ||| (if wr then 0x20000000000000#64 else 0#64)
      s.modCtx c (fun x => { x with trans := { x.trans with pages := put x.trans.pages a e' } })

end Sys2Proof.Machine
end

