-- ==== Sys2Proof/Machine/Operands.lean ====
section
/-!
DEFINITION. Operand forms (R25, R69 to R71): reading window and g registers and channels for every active lane,
register claims (R78, R105), and delivering results to registers, g registers and channels (R23, R104, R166).
-/
namespace Sys2Proof.Machine

/-! ## Names -/

/-- Architectural registers of a v operand of n words (R21, R70). -/
def archRegs (wb i n : Nat) : List Nat := (List.range n).map (fun j => wb + i + j)

/-- g registers of a g operand of n words; a write to g0 is discarded (R23, R70). -/
def gRegs (k n : Nat) : List Nat := if k = 0 then [] else (List.range n).map (fun j => k + j)

def readG (g : List Word) (k n : Nat) : List Word :=
  if k = 0 then List.replicate n 0#32 else (List.range n).map (fun j => g.getD (k + j) 0#32)

def readV (t : Thread) (i n : Nat) : List Word := (archRegs t.wb i n).map (fun r => sget 0#32 t.regs r)

/-- The value of a window register pair or of a single register. -/
def Thread.v (t : Thread) (i : Nat) : Word := sget 0#32 t.regs (t.wb + i)

/-! ## Channels (R164 to R167) -/

def chanDepth (c : Chan) : Nat := 32 * 2 ^ bits c.word.toNat 0 2
def dataCount (q : List QEnt) : Nat := (q.filter (fun e => match e with | .data _ => true | _ => false)).length

/-- The first m entries, if all of them are data. -/
def takeData : Nat → List QEnt → Option (List Word)
  | 0, _ => some []
  | n + 1, .data w :: r => (takeData n r).map (w :: ·)
  | _ + 1, _ => none

/-- Where pushes through a binding word go (R164): virtual core, line, channel; none where no core of the context is. -/
def State.peerOf (s : State) (c v line : Nat) (w : Word) : Option (Nat × Nat × Nat) :=
  let x := w.toNat
  let pch := bits x 19 3
  match bits x 30 2 with
  | 0 => some (v, line, pch)
  | 1 => some (v, bits x 22 4, pch)
  | 2 => ((List.range (s.ctx c).n).find? (fun v' => s.homeOf c v' == squareOf (s.homeOf c v) * 16 + bits x 26 4)).map (fun v' => (v', bits x 22 4, pch))
  | _ => none

inductive ChanCheck where
  | ready | wait | full | trap (cause : Nat)
deriving DecidableEq, Repr

/-- Can m entries be popped or peeked, after `skip` entries that earlier fields pop (R71, R166, R167)? -/
def checkPop (c : Chan) (m skip : Nat) : ChanCheck :=
  if !c.bound then .trap 1
  else if m > chanDepth c then .trap 3
  else match takeData m (c.queue.drop skip) with
    | some _ => .ready
    | none => .wait

/-- Can m entries be reserved at the peer (R166, R167)? At another core the flits that it has coming stay within its catch buffer
(R350). -/
def State.checkPush (s : State) (c v line : Nat) (ch : Chan) (m : Nat) : ChanCheck :=
  if !ch.bound then .trap 1 else
  match s.peerOf c v line ch.word with
  | none => .trap 2
  | some (v', l', k) =>
    match look s.lines ⟨c, v', l'⟩ with
    | none => .trap 2
    | some pl =>
      let pc := pl.chans.getD k {}
      if !pc.bound then .trap 2
      else if m > chanDepth pc then .trap 3
      else if pc.queue.length + m ≤ chanDepth pc ∧ (v' = v ∨ s.flitsDue c v' + m ≤ Config.catchBuffer) then .ready
      else .full

/-- Reserved entries whose data will never come are given up (R151). -/
def State.unreserve (s : State) (ps : List Push) : State :=
  ps.foldl (fun s p => s.modLine p.ctx p.vc p.line (fun l =>
    let ch := l.chans.getD p.ch {}
    setChan l p.ch { ch with queue := ch.queue.filter (fun e => e != .resv p.key) })) s

/-- Reserve m entries of the peer queue; the push that will fill them (R166). -/
def State.reserve (s : State) (c v line k m : Nat) : State × List Push :=
  match s.peerOf c v line ((s.line c v line).chans.getD k {}).word with
  | none => (s, [])
  | some (v', l', k') =>
    let key := s.aux.serial
    (((s.modLine c v' l' (fun pl =>
        let pc := pl.chans.getD k' {}
        setChan pl k' { pc with queue := pc.queue ++ List.replicate m (QEnt.resv key) })).bump),
      [{ ctx := c, vc := v', line := l', ch := k', key := key, vals := [], svc := v, sline := line }])

/-- Data fills the entries reserved under its key, in order (R166). -/
def fillQueue : List QEnt → Nat → List Word → List QEnt
  | .resv key :: r, k, w :: ws => if key = k then .data w :: fillQueue r k ws else .resv key :: fillQueue r k (w :: ws)
  | e :: r, k, ws => e :: fillQueue r k ws
  | [], _, _ => []

/-! ## Register claims (R78, R105) -/

def opIsSrc (o : OpSpec) : Bool := o.use == .src || o.use == .srcDst || o.use == .srcDstEven
def opIsDst (o : OpSpec) : Bool := o.use != .src

/-- Architectural registers that the operands name in a lane. -/
def claims (t : Thread) (ops : List OpSpec) : List Nat :=
  ops.flatMap (fun o => match regName o.fld with
    | .v i => archRegs t.wb i o.words
    | _ => [])

/-- A source register with an uncorrectable error (R105, R340 order 1). -/
def badClaim (t : Thread) (ops : List OpSpec) : Option Nat :=
  (claims t (ops.filter (opIsSrc ·))).find? (fun r => t.badRegs.contains r)
/-- rback and rbsz of a launch record, in bytes (R224). -/
def rbArea (r : BitVec 2048) : Nat × Nat := (bits r.toNat 256 57, 4096 * bits r.toNat 320 32)
/-- Does an access of a launch's backing area fault at a place in it? The context's default area never does (R376). -/
def State.areaFault (s : State) (c launch p : Nat) (wr : Bool) : Option PFault :=
  match look s.launches launch with
  | none => none
  | some l =>
    if (rbArea l.recd).2 = 0 then none else
    match s.mapVa c p 4 true wr with
    | some (x :: _) => (match s.checkPage c x.ia true wr with
      | .ok _ => none
      | .error f => some f)
    | _ => some ⟨1, 3, 0, 0⟩
def State.coldFault (s : State) (c : Nat) (t : Thread) (p : Nat) (wr : Bool) : Option PFault := s.areaFault c t.launch p wr
/-- An access of a launch's backing area leaves its marks in the page's leaf, and a write its granule's (R310, R377). -/
def State.markArea (s : State) (c launch p : Nat) (wr : Bool) : State :=
  match look s.launches launch with
  | none => s
  | some l =>
    if (rbArea l.recd).2 = 0 then s else
    match s.mapVa c p 4 true wr with
    | some (x :: _) =>
      let s := s.markLeaf c x.ia wr
      if wr then s.modCtx c (fun y => { y with ckpt := { y.ckpt with dirty := if y.ckpt.dirty.contains (x.ia / 2 ^ 14) then y.ckpt.dirty else y.ckpt.dirty ++ [x.ia / 2 ^ 14] } })
      else s
    | _ => s
/-- A register named by the operands that backing store holds and whose page faults (R78, R340 order 4): the fault, the
virtual address, and whether it is only written. -/
def State.coldClaim (s : State) (l : Nat) (ops : List OpSpec) : Option (PFault × Nat × Bool) :=
  let t := s.lane l
  let find (rs : List Nat) (w : Bool) : Option (PFault × Nat × Bool) :=
    rs.findSome? (fun r => (look t.cold r).bind (fun p => (s.coldFault s.issue.ctx t p false).map (fun f => (f, p, w))))
  if t.cold.isEmpty then none else
  match find (claims t (ops.filter (opIsSrc ·))) false with
  | some x => some x
  | none => find (claims t ops) true

/-- Lanes park at the instruction's position and will re-execute it whole (R78, R197). -/
def State.parkRetry (s : State) (lanes : List Nat) : State :=
  (s.modLanes lanes (fun t => { t with stat := .parkedRetry s.aux.serial })).bump

/-- A fault note of a core of the issuing gang (R315). -/
def State.coreNote (s : State) (cause kind vcn lvl ia va : Nat) (lanes : List Nat) : FaultNote :=
  { ctx := s.issue.ctx, vc := s.issue.vc, line := s.issue.line, die := dieOf s.issPhys, src := 0, cause := cause, kind := kind
    vcache := vcn, lvl := lvl, ia := ia, va := va, lanes := lanes, job := none }
/-- Page and cause of a fault, by which the faults of one instruction are merged (R315). -/
def PFault.page (f : PFault) : Nat × Nat × Nat := (f.cause, f.lvl, f.ia >>> faultShift f.cause f.lvl)

/-- One note for each page and cause of the backing faults of an issue, with all their lanes (R315); its kind is that of the first
lane's access. -/
def State.noteBacking (s : State) (hit : List (Nat × PFault × Nat × Bool)) : State :=
  (dedup (hit.map (fun e => e.2.1.page))).foldl (fun s k =>
    match hit.filter (fun e => e.2.1.page == k) with
    | (l, f, va, w) :: r =>
      s.post (.gatewayPageFault (s.coreNote f.cause (if w then 1 else 0) f.vcn f.lvl f.ia va (l :: r.map (·.1))))
    | [] => s) s

/-- Register backing faults of the issue: the lanes that park, one note per page (R78, R339). The other lanes' registers
come back from backing store. -/
def State.parkCold (s : State) (ops : List OpSpec) (lanes : List Nat) : State × List Nat :=
  if lanes.all (fun l => (s.lane l).cold.isEmpty) then (s, lanes) else
  let hit := lanes.filterMap (fun l => (s.coldClaim l ops).map (fun p => (l, p)))
  let s := s.noteBacking hit
  let go := lanes.filter (fun l => !(hit.map (·.1)).contains l)
  let s := go.foldl (fun s l =>
    let t := s.lane l
    (t.cold.filter (fun e => (claims t ops).contains e.1)).foldl (fun s e => s.markArea s.issue.ctx t.launch e.2 false) s) s
  let s := s.modLanes go (fun t => { t with cold := t.cold.filter (fun e => !(claims t ops).contains e.1) })
  (if hit.isEmpty then s else s.parkRetry (hit.map (·.1)), go)

/-- A cold register moves to backing store (R26): to a place in the area that its launch names, whose page takes the write,
or in the context's default area. -/
def State.spillReg (s : State) (p : Place) (r place : Nat) : State :=
  match look s.threads p with
  | none => s
  | some t =>
    match s.launchOf t with
    | none => s
    | some l =>
      let area := rbArea l.recd
      let inArea := if area.2 = 0 then decide (place + 4 ≤ (s.ctx p.ctx).backing) else decide (area.1 ≤ place) && decide (place + 4 ≤ area.1 + area.2)
      if decide (512 ≤ r) || (look t.cold r).isSome || !inArea || (s.coldFault p.ctx t place true).isSome then s
      else (s.modThread p (fun t => { t with cold := put t.cold r place })).markArea p.ctx t.launch place true

/-! ## Reading the operands of an issue -/

/-- What the operands of an issue give: nothing goes on, or these lanes go on with these values, one list of words
per source operand in pop order. -/
inductive Prep where
  | halt (s : State)
  | go (lanes : List Nat) (vals : List (Nat × List (List Word))) (s : State)

/-- The checks of the channel operands in field order, with the entries that earlier fields pop. Space for a push is judged
on the queue as it stands: entries that the same instruction pops do not count as free (DESIGN CHOICE,
notes/assumptions/91.md). -/
def State.chanChecks (s : State) (n : Nat) : List OpSpec → (Nat → Nat) → Option (Nat × ChanCheck)
  | [], _ => none
  | o :: os, popped =>
    let line := s.issLine
    let m := n * o.words
    match regName o.fld, opIsSrc o with
    | .ch k, true =>
      match checkPop (line.chans.getD k {}) m (popped k) with
      | .ready => s.chanChecks n os (fun j => if j = k then popped k + m else popped j)
      | c => some (k, c)
    | .pk k, true =>
      match checkPop (line.chans.getD k {}) m (popped k) with
      | .ready => s.chanChecks n os popped
      | c => some (k, c)
    | .ch k, false =>
      match s.checkPush s.issue.ctx s.issue.vc s.issue.line (line.chans.getD k {}) m with
      | .ready => s.chanChecks n os popped
      | c => some (k, c)
    | _, _ => s.chanChecks n os popped

/-- A write of a g register that a tile read, a wait, or a definition that the hub still judges will make. -/
def State.gLate (s : State) (r : Nat) : Bool :=
  s.issCore.engines.any (fun e => e.2.any (fun p => match p with
    | .read l _ _ q _ => l == s.issue.line && q.gs.contains r
    | _ => false)) ||
  s.waits.any (fun w => w.reply.ctx == s.issue.ctx && w.reply.vc == s.issue.vc && w.reply.line == s.issue.line && w.reply.gs.contains r) ||
  s.agenda.any (fun i => match i with
    | .vcAccept q => (match q.reply with
      | some p => p.ctx == s.issue.ctx && p.vc == s.issue.vc && p.line == s.issue.line && p.gs.contains r
      | none => false)
    | _ => false)

/-- Where a memory request's result goes. -/
def MemReq.dst : MemReq → Option ReplyTo
  | .load _ _ _ _ _ d => some d
  | .atom _ _ _ _ _ _ _ _ d => d
  | .ldp _ _ _ _ _ _ d => some d
  | _ => none

/-- A reply that the issue fills in for each lane. -/
def noReply : ReplyTo := { ctx := 0, vc := 0, line := 0, lanes := [], regs := [], gs := [], pushes := [], stamp := 0 }

/-- Another gang's long-latency write of a g register that an operand reads is outstanding, or held (R78). -/
def State.gPending (s : State) (ops : List OpSpec) : Bool :=
  ops.any (fun o => opIsSrc o && match regName o.fld with
    | .g k => (gRegs k o.words).any (fun r => s.agenda.any (fun i => match i with
        | .longLatencyReturn q => q.ctx == s.issue.ctx && q.vc == s.issue.vc && q.line == s.issue.line && q.gs.any (·.1 == r)
        | _ => false) ||
        (s.lineThreads s.issue.ctx s.issue.vc s.issue.line).any (fun e => e.2.held.any (fun h => match h.req.dst with
          | some q => q.gs.contains r
          | none => false)) || s.gLate r)
    | _ => false)

/-- The value of one source operand in every lane; a channel's entries from `skip` on. -/
def State.readOperand (s : State) (lanes : List Nat) (skip : Nat) (o : OpSpec) : List (Nat × List Word) :=
  let entries (k : Nat) : List (Nat × List Word) :=
    let q := (takeData (lanes.length * o.words) ((s.issLine.chans.getD k {}).queue.drop skip)).getD []
    lanes.zipIdx.map (fun e => (e.1, (q.drop (e.2 * o.words)).take o.words))
  match regName o.fld with
  | .v i => lanes.map (fun l => (l, readV (s.lane l) i o.words))
  | .g k => lanes.map (fun l => (l, readG s.issLine.g k o.words))
  | .pk k => entries k
  | .ch k => entries k

/-- The source operands in field order: their values, and the entries that they pop (R71, R166). -/
def State.readOperands (s : State) (lanes : List Nat) : List OpSpec → List (Nat × Nat) → List (List (Nat × List Word)) × List (Nat × Nat)
  | [], pops => ([], pops)
  | o :: os, pops =>
    let chan := match regName o.fld with
      | .ch k => some k
      | .pk k => some k
      | _ => none
    let skip := match chan with
      | some k => (pops.filter (fun e => e.1 == k)).length
      | none => 0
    let more := match regName o.fld with
      | .ch k => lanes.flatMap (fun l => List.replicate o.words (k, l))
      | _ => []
    let rest := State.readOperands s lanes os (pops ++ more)
    (s.readOperand lanes skip o :: rest.1, rest.2)

/-- The machine check of a register, and its log entry (R105, R395). -/
def State.registerCheck (s : State) (r : Nat) : Trap :=
  { code := .machineCheck, cause := 1, info := r, log := some (5, dieOf s.issPhys * 2 ^ 28 + 6 * 2 ^ 24 + s.issPhys, r) }

/-- Single-bit errors of source registers are corrected and counted (R393). -/
def State.correctRegs (s : State) (ops : List OpSpec) (lanes : List Nat) : State :=
  lanes.foldl (fun s l =>
    let soft := (s.lane l).softRegs
    let hit := soft.filter ((claims (s.lane l) (ops.filter (opIsSrc ·))).contains ·)
    if hit.isEmpty then s else (s.modLane l (fun t => { t with softRegs := soft.filter (fun r => !hit.contains r) })).count 3 hit.length) s

/-- Reading the operands: traps, register faults, channel waits, then the values (R71, R78, R105, R167, R340). -/
def State.prepare (s : State) (privileged : Bool) (ops : List OpSpec) : Prep :=
  let lanes := s.issue.lanes
  let bad := lanes.filterMap (fun l => (badClaim (s.lane l) ops).map (fun r => (l, s.registerCheck r)))
  let lanes := lanes.filter (fun l => !bad.any (·.1 == l))
  let s1 := s.trapIssue bad
  if lanes.isEmpty then .halt s1 else
  if privileged && !s.issCtx.set.priv then
    .halt (s1.takeTrap s.issKey lanes s.issue.pos { code := .privileged, info := s.issue.word }) else
  match (s1.correctRegs ops lanes).parkCold ops lanes with
  | (s2, lanes) =>
    if lanes.isEmpty then .halt s2 else
    match s2.chanChecks lanes.length ops (fun _ => 0) with
    | some (k, .trap c) => .halt (s2.takeTrap s.issKey lanes s.issue.pos { code := .channel, cause := c, info := k })
    | some (_, .wait) => .halt s2.stallChan
    | some _ => .halt s2.stall
    | none =>
      if s2.gPending ops then .halt s2.stall else
      let r := s2.readOperands lanes (ops.filter (opIsSrc ·)) []
      .go lanes (lanes.map (fun l => (l, r.1.map (fun col => (look col l).getD []))))
        (match r.2 with
         | [] => s2
         | pops => { s2 with issue := { s2.issue with pops := pops } })

/-! ## Delivering results -/

/-- Where a destination operand's results go in these lanes; entries of a channel are reserved now (R166). -/
def State.replyTo (s : State) (lanes : List Nat) (o : OpSpec) : State × ReplyTo :=
  let base : ReplyTo := { ctx := s.issue.ctx, vc := s.issue.vc, line := s.issue.line, lanes := lanes, regs := [], gs := [], pushes := [], stamp := s.aux.time }
  match regName o.fld with
  | .v i => (s, { base with regs := lanes.map (fun l => (l, archRegs (s.lane l).wb i o.words)) })
  | .g k => (s, { base with gs := gRegs k o.words })
  | .pk _ => (s, base)
  | .ch k =>
    let r := s.reserve s.issue.ctx s.issue.vc s.issue.line k (lanes.length * o.words)
    (r.1, { base with pushes := r.2 })

/-- The result that a reply carries, given every lane's words and flags. A g destination takes the words of the lowest lane
that goes on: where the lowest active lane parks or traps the manual names none (DESIGN CHOICE, notes/assumptions/30.md). -/
def replyResult (r : ReplyTo) (vals : List (Nat × List Word × Flags)) : Result :=
  { ctx := r.ctx, vc := r.vc, line := r.line, lanes := r.lanes, stamp := r.stamp
    regs := vals.flatMap (fun (l, ws, _) => (((look r.regs l).getD []).zip ws).map (fun (a, w) => (l, a, w)))
    gs := match vals with
      | (_, ws, _) :: _ => r.gs.zip ws
      | [] => []
    flags := vals.map (fun (l, _, f) => (l, f))
    pushes := r.pushes.map (fun p => { p with vals := vals.flatMap (fun (_, ws, _) => ws) }) }

/-- Writing one architectural register of a thread. An uncorrectable error of the register stays: the manual does not say
that a write ends it (DESIGN CHOICE, notes/assumptions/27.md). -/
def Thread.setReg (t : Thread) (r : Nat) (w : Word) : Thread := { t with regs := sset 0#32 t.regs r w }

/-- Writing a result: registers, g registers that no later issue has written (R23), flags (R107), pushes (R166). -/
def State.applyResult (s : State) (r : Result) : State :=
  let s := r.regs.foldl (fun s e => s.modThread ⟨r.ctx, r.vc, r.line, e.1⟩ (fun t => t.setReg e.2.1 e.2.2)) s
  let s := if r.gs.isEmpty then s else s.modLine r.ctx r.vc r.line (fun x =>
    r.gs.foldl (fun x e => if r.stamp < (look x.gLast e.1).getD 0 then x
      else { x with g := setNth x.g e.1 e.2, gLast := put x.gLast e.1 r.stamp }) x)
  let s := r.flags.foldl (fun s e => s.modThread ⟨r.ctx, r.vc, r.line, e.1⟩ (fun t => { t with fst := t.fst ||| e.2 })) s
  r.pushes.foldl (fun s p => s.post (.channelPushArrive p)) s

/-- The results of an issue: written now, or in flight if the instruction is long-latency (R74, R75). -/
def State.deliver (s : State) (long : Bool) (lanes : List Nat) (o : OpSpec) (vals : List (Nat × List Word × Flags)) : State :=
  if lanes.isEmpty then s else
  let r := s.replyTo lanes o
  let res := replyResult r.2 vals
  if long then r.1.post (.longLatencyReturn res) else r.1.applyResult res

/-- A form with a channel source is long-latency whatever its class (R75). -/
def readsChannel (ops : List OpSpec) : Bool :=
  ops.any (fun o => opIsSrc o && match regName o.fld with | .pk _ | .ch _ => true | _ => false)

/-- The destination of an instruction's operands. -/
def dstOf (ops : List OpSpec) : Option OpSpec := ops.find? (opIsDst ·)

/-- The shape of the instructions of majors 0x00 to 0x1F (R104): read, compute each lane, write d, advance.
`checked`: the operation carries residue checks, and a second mismatch traps its lane (R121, R389). -/
def State.compute (s : State) (sb long checked : Bool) (ops : List OpSpec) (f : List (List Word) → List Word × Flags) :
    Host.Outcome State Fault Refusal :=
  match s.prepare false ops with
  | .halt s => .next s
  | .go lanes vals s =>
    let chk := if checked then s.residueCheck s.issue.ctx (dieOf s.issPhys) 1 lanes else ([], s)
    let bad := chk.1
    let s := chk.2
    let s := s.trapIssue (bad.map (fun l => (l, { code := .arithCheck })))
    let lanes := lanes.filter (fun l => !bad.contains l)
    let res := (vals.filter (fun e => !bad.contains e.1)).map (fun e => (e.1, f e.2))
    match dstOf ops with
    | some o => .next ((s.deliver (long || readsChannel ops) lanes o res).finish sb lanes)
    | none => .next (s.finish sb lanes)

/-! ## Typed operands -/

def w32 (ws : List Word) : Word := ws.getD 0 0#32
def w64 (ws : List Word) : DWord := (ws.getD 1 0#32) ++ (ws.getD 0 0#32)
def w128 (ws : List Word) : QWord := (ws.getD 3 0#32) ++ (ws.getD 2 0#32) ++ (ws.getD 1 0#32) ++ (ws.getD 0 0#32)
def of32 (w : Word) : List Word := [w]
def of64 (d : DWord) : List Word := [d.extractLsb' 0 32, d.extractLsb' 32 32]
def of128 (q : QWord) : List Word := [q.extractLsb' 0 32, q.extractLsb' 32 32, q.extractLsb' 64 32, q.extractLsb' 96 32]
/-- Operand lists of the common formats (R69): d, a, b of so many words; d, a; with d read as well. -/
def dab (nd na nb : Nat) (d a b : Fld) : List OpSpec := [⟨.src, a, na⟩, ⟨.src, b, nb⟩, ⟨.dst, d, nd⟩]
def da (nd na : Nat) (d a : Fld) : List OpSpec := [⟨.src, a, na⟩, ⟨.dst, d, nd⟩]
def dabR (nd na nb : Nat) (d a b : Fld) : List OpSpec := [⟨.src, a, na⟩, ⟨.src, b, nb⟩, ⟨.srcDst, d, nd⟩]
/-- The value of the n-th source operand. -/
def arg (vs : List (List Word)) (n : Nat) : List Word := vs.getD n []

end Sys2Proof.Machine
end

