-- ==== Sys2Proof/Machine/Alu.lean ====
section
/-!
DEFINITION. Integer, logic, shift, bit-field, compare, move and address instructions (R108 to R119) and the
special-register moves (R120, R218): majors 0x00 to 0x0F.
-/
namespace Sys2Proof.Machine

/-- A form with two 32-bit sources (R104). No form of this file sets a flag (R108). -/
def alu32 (f : Word → Word → Word) (vs : List (List Word)) : List Word × Flags :=
  (of32 (f (w32 (arg vs 0)) (w32 (arg vs 1))), 0#5)
def alu64 (f : DWord → DWord → DWord) (vs : List (List Word)) : List Word × Flags :=
  (of64 (f (w64 (arg vs 0)) (w64 (arg vs 1))), 0#5)
/-- A 64-bit source and a 32-bit source. -/
def alu64x32 (f : DWord → Word → DWord) (vs : List (List Word)) : List Word × Flags :=
  (of64 (f (w64 (arg vs 0)) (w32 (arg vs 1))), 0#5)
def un32 (f : Word → Word) (vs : List (List Word)) : List Word × Flags := (of32 (f (w32 (arg vs 0))), 0#5)
def un64 (f : DWord → DWord) (vs : List (List Word)) : List Word × Flags := (of64 (f (w64 (arg vs 0))), 0#5)
def un64to32 (f : DWord → Word) (vs : List (List Word)) : List Word × Flags := (of32 (f (w64 (arg vs 0))), 0#5)
def un32to64 (f : Word → DWord) (vs : List (List Word)) : List Word × Flags := (of64 (f (w32 (arg vs 0))), 0#5)
/-- 1 if the relation holds, else 0 (R117). -/
def rel32 (f : Word → Word → Bool) : List (List Word) → List Word × Flags := alu32 (fun x y => if f x y then 1#32 else 0#32)
def rel64 (f : DWord → DWord → Bool) (vs : List (List Word)) : List Word × Flags :=
  (of32 (if f (w64 (arg vs 0)) (w64 (arg vs 1)) then 1#32 else 0#32), 0#5)

/-- The exact result clamped to a range of w bits (R45, R108). -/
def clampI (lo hi x : Int) : Int := if x < lo then lo else if hi < x then hi else x
def addSatI (x y : Word) : Word := BitVec.ofInt 32 (clampI (-2 ^ 31) (2 ^ 31 - 1) (x.toInt + y.toInt))
def subSatI (x y : Word) : Word := BitVec.ofInt 32 (clampI (-2 ^ 31) (2 ^ 31 - 1) (x.toInt - y.toInt))
def addSatN (x y : Word) : Word := BitVec.ofNat 32 (min (x.toNat + y.toNat) (2 ^ 32 - 1))
def subSatN (x y : Word) : Word := BitVec.ofNat 32 (x.toNat - y.toNat)
/-- High half of a signed or unsigned product. -/
def mulHiS {w : Nat} (x y : BitVec w) : BitVec w := BitVec.ofInt w ((x.toInt * y.toInt) / 2 ^ w)
def mulHiU {w : Nat} (x y : BitVec w) : BitVec w := BitVec.ofNat w ((x.toNat * y.toNat) / 2 ^ w)
def absBv {w : Nat} (x : BitVec w) : BitVec w := BitVec.ofInt w (if x.toInt < 0 then -x.toInt else x.toInt)

/-- Shifts and rotates by a count taken modulo the width (R110, R111). -/
def shlMod {w : Nat} (x : BitVec w) (n : Nat) : BitVec w := x <<< (n % w)
def shrMod {w : Nat} (x : BitVec w) (n : Nat) : BitVec w := x >>> (n % w)
def sarMod {w : Nat} (x : BitVec w) (n : Nat) : BitVec w := x.sshiftRight (n % w)
def rotlMod {w : Nat} (x : BitVec w) (n : Nat) : BitVec w := (x <<< (n % w)) ||| (x >>> (w - n % w))
def rotrMod {w : Nat} (x : BitVec w) (n : Nat) : BitVec w := (x >>> (n % w)) ||| (x <<< (w - n % w))

/-- Bit counts and reversal (R114). -/
def popCount {w : Nat} (x : BitVec w) : Nat := ((List.range w).filter (fun i => x.getLsbD i)).length
def leadingZeros {w : Nat} (x : BitVec w) : Nat :=
  match (List.range w).find? (fun i => x.getLsbD (w - 1 - i)) with
  | some i => i
  | none => w
def trailingZeros {w : Nat} (x : BitVec w) : Nat :=
  match (List.range w).find? (fun i => x.getLsbD i) with
  | some i => i
  | none => w
def bitReverse (x : Word) : Word :=
  BitVec.ofNat 32 ((List.range 32).foldl (fun acc i => if x.getLsbD (31 - i) then acc + 2 ^ i else acc) 0)

/-- Field position and width of bfe and bfi (R115). -/
def fieldPos (b : Word) : Nat := bits b.toNat 0 5
def fieldLen (b : Word) : Nat := min (bits b.toNat 8 6) (32 - fieldPos b)
def bfeN (x b : Word) : Word := BitVec.ofNat 32 (bits x.toNat (fieldPos b) (fieldLen b))
def bfeI (x b : Word) : Word :=
  if fieldLen b = 0 then 0#32 else BitVec.ofInt 32 (toSigned (fieldLen b) (bits x.toNat (fieldPos b) (fieldLen b)))
/-- n low bits set at position p. -/
def fieldMask (p n : Nat) : Word := BitVec.ofNat 32 ((2 ^ n - 1) * 2 ^ p)
def bfi (x b d : Word) : Word :=
  let m := fieldMask (fieldPos b) (fieldLen b)
  (d &&& ~~~m) ||| ((x <<< fieldPos b) &&& m)

/-- Byte select (R116): result bytes from k = 0 upward; `prev` is result byte k - 1. -/
def bselByte (x : Word) (sel : Nat) (prev : Option Byte) : Byte :=
  match sel with
  | 4 => 0x00#8
  | 5 => 0xFF#8
  | 6 => match prev with
    | some p => if p.getLsbD 7 then 0xFF#8 else 0x00#8
    | none => 0x00#8
  | 7 => prev.getD 0x00#8
  | n => x.extractLsb' (8 * n) 8
def bsel (x b : Word) : Word :=
  let r0 := bselByte x (bits b.toNat 0 3) none
  let r1 := bselByte x (bits b.toNat 3 3) (some r0)
  let r2 := bselByte x (bits b.toNat 6 3) (some r1)
  let r3 := bselByte x (bits b.toNat 9 3) (some r2)
  r3 ++ r2 ++ r1 ++ r0

/-! ## Integer arithmetic -/

/-- R108: d := (a + b) mod 2^32. -/
def execAddI32 (sw : Bool) (d a b : Fld) (s : State) : Host.Outcome State Fault Refusal :=
  s.compute sw false false (dab 1 1 1 d a b) (alu32 fun x y => x + y)
/-- R108: d := (a - b) mod 2^32. -/
def execSubI32 (sw : Bool) (d a b : Fld) (s : State) : Host.Outcome State Fault Refusal :=
  s.compute sw false false (dab 1 1 1 d a b) (alu32 fun x y => x - y)
/-- R108: the signed sum, clamped. -/
def execAddSatI32 (sw : Bool) (d a b : Fld) (s : State) : Host.Outcome State Fault Refusal :=
  s.compute sw false false (dab 1 1 1 d a b) (alu32 fun x y => addSatI x y)
/-- R108: the signed difference, clamped. -/
def execSubSatI32 (sw : Bool) (d a b : Fld) (s : State) : Host.Outcome State Fault Refusal :=
  s.compute sw false false (dab 1 1 1 d a b) (alu32 fun x y => subSatI x y)
/-- R108: the unsigned sum, clamped. -/
def execAddSatN32 (sw : Bool) (d a b : Fld) (s : State) : Host.Outcome State Fault Refusal :=
  s.compute sw false false (dab 1 1 1 d a b) (alu32 fun x y => addSatN x y)
/-- R108: the unsigned difference, clamped at 0. -/
def execSubSatN32 (sw : Bool) (d a b : Fld) (s : State) : Host.Outcome State Fault Refusal :=
  s.compute sw false false (dab 1 1 1 d a b) (alu32 fun x y => subSatN x y)
/-- R108: low half of the product. -/
def execMulloI32 (sw : Bool) (d a b : Fld) (s : State) : Host.Outcome State Fault Refusal :=
  s.compute sw false false (dab 1 1 1 d a b) (alu32 fun x y => x * y)
/-- R108: bits [63:32] of the signed product. -/
def execMulhiI32 (sw : Bool) (d a b : Fld) (s : State) : Host.Outcome State Fault Refusal :=
  s.compute sw false false (dab 1 1 1 d a b) (alu32 fun x y => mulHiS x y)
/-- R108: bits [63:32] of the unsigned product. -/
def execMulhiN32 (sw : Bool) (d a b : Fld) (s : State) : Host.Outcome State Fault Refusal :=
  s.compute sw false false (dab 1 1 1 d a b) (alu32 fun x y => mulHiU x y)
/-- R108: lesser, signed. -/
def execMinI32 (sw : Bool) (d a b : Fld) (s : State) : Host.Outcome State Fault Refusal :=
  s.compute sw false false (dab 1 1 1 d a b) (alu32 fun x y => if x.toInt ≤ y.toInt then x else y)
/-- R108: greater, signed. -/
def execMaxI32 (sw : Bool) (d a b : Fld) (s : State) : Host.Outcome State Fault Refusal :=
  s.compute sw false false (dab 1 1 1 d a b) (alu32 fun x y => if x.toInt ≤ y.toInt then y else x)
/-- R108: lesser, unsigned. -/
def execMinN32 (sw : Bool) (d a b : Fld) (s : State) : Host.Outcome State Fault Refusal :=
  s.compute sw false false (dab 1 1 1 d a b) (alu32 fun x y => if x.toNat ≤ y.toNat then x else y)
/-- R108: greater, unsigned. -/
def execMaxN32 (sw : Bool) (d a b : Fld) (s : State) : Host.Outcome State Fault Refusal :=
  s.compute sw false false (dab 1 1 1 d a b) (alu32 fun x y => if x.toNat ≤ y.toNat then y else x)
/-- R108: absolute value modulo 2^32. -/
def execAbsI32 (sw : Bool) (d a : Fld) (s : State) : Host.Outcome State Fault Refusal :=
  s.compute sw false false (da 1 1 d a) (un32 fun x => absBv x)
/-- R108: two's complement negation. -/
def execNegI32 (sw : Bool) (d a : Fld) (s : State) : Host.Outcome State Fault Refusal :=
  s.compute sw false false (da 1 1 d a) (un32 fun x => -x)
/-- R109: sum modulo 2^64. -/
def execAddI64 (sw : Bool) (d a b : Fld) (s : State) : Host.Outcome State Fault Refusal :=
  s.compute sw false false (dab 2 2 2 d a b) (alu64 fun x y => x + y)
/-- R109: difference modulo 2^64. -/
def execSubI64 (sw : Bool) (d a b : Fld) (s : State) : Host.Outcome State Fault Refusal :=
  s.compute sw false false (dab 2 2 2 d a b) (alu64 fun x y => x - y)
/-- R109: low 64 bits of the product. -/
def execMulloI64 (sw : Bool) (d a b : Fld) (s : State) : Host.Outcome State Fault Refusal :=
  s.compute sw false false (dab 2 2 2 d a b) (alu64 fun x y => x * y)
/-- R109: bits [127:64] of the signed product. -/
def execMulhiI64 (sw : Bool) (d a b : Fld) (s : State) : Host.Outcome State Fault Refusal :=
  s.compute sw false false (dab 2 2 2 d a b) (alu64 fun x y => mulHiS x y)
/-- R109: bits [127:64] of the unsigned product. -/
def execMulhiN64 (sw : Bool) (d a b : Fld) (s : State) : Host.Outcome State Fault Refusal :=
  s.compute sw false false (dab 2 2 2 d a b) (alu64 fun x y => mulHiU x y)
/-- R109: lesser, signed. -/
def execMinI64 (sw : Bool) (d a b : Fld) (s : State) : Host.Outcome State Fault Refusal :=
  s.compute sw false false (dab 2 2 2 d a b) (alu64 fun x y => if x.toInt ≤ y.toInt then x else y)
/-- R109: greater, signed. -/
def execMaxI64 (sw : Bool) (d a b : Fld) (s : State) : Host.Outcome State Fault Refusal :=
  s.compute sw false false (dab 2 2 2 d a b) (alu64 fun x y => if x.toInt ≤ y.toInt then y else x)
/-- R109: lesser, unsigned. -/
def execMinN64 (sw : Bool) (d a b : Fld) (s : State) : Host.Outcome State Fault Refusal :=
  s.compute sw false false (dab 2 2 2 d a b) (alu64 fun x y => if x.toNat ≤ y.toNat then x else y)
/-- R109: greater, unsigned. -/
def execMaxN64 (sw : Bool) (d a b : Fld) (s : State) : Host.Outcome State Fault Refusal :=
  s.compute sw false false (dab 2 2 2 d a b) (alu64 fun x y => if x.toNat ≤ y.toNat then y else x)
/-- R109: negation. -/
def execNegI64 (sw : Bool) (d a : Fld) (s : State) : Host.Outcome State Fault Refusal :=
  s.compute sw false false (da 2 2 d a) (un64 fun x => -x)
/-- R109: absolute value modulo 2^64. -/
def execAbsI64 (sw : Bool) (d a : Fld) (s : State) : Host.Outcome State Fault Refusal :=
  s.compute sw false false (da 2 2 d a) (un64 fun x => absBv x)

/-! ## Logic, shifts and rotates -/

/-- R110: bitwise on 32 bits. -/
def execAndB32 (sw : Bool) (d a b : Fld) (s : State) : Host.Outcome State Fault Refusal :=
  s.compute sw false false (dab 1 1 1 d a b) (alu32 fun x y => x &&& y)
/-- R110: bitwise on 32 bits. -/
def execOrB32 (sw : Bool) (d a b : Fld) (s : State) : Host.Outcome State Fault Refusal :=
  s.compute sw false false (dab 1 1 1 d a b) (alu32 fun x y => x ||| y)
/-- R110: bitwise on 32 bits. -/
def execXorB32 (sw : Bool) (d a b : Fld) (s : State) : Host.Outcome State Fault Refusal :=
  s.compute sw false false (dab 1 1 1 d a b) (alu32 fun x y => x ^^^ y)
/-- R110: bitwise on 32 bits. -/
def execAndnB32 (sw : Bool) (d a b : Fld) (s : State) : Host.Outcome State Fault Refusal :=
  s.compute sw false false (dab 1 1 1 d a b) (alu32 fun x y => x &&& ~~~y)
/-- R110: bitwise on 32 bits. -/
def execOrnB32 (sw : Bool) (d a b : Fld) (s : State) : Host.Outcome State Fault Refusal :=
  s.compute sw false false (dab 1 1 1 d a b) (alu32 fun x y => x ||| ~~~y)
/-- R110: bitwise on 32 bits. -/
def execXnorB32 (sw : Bool) (d a b : Fld) (s : State) : Host.Outcome State Fault Refusal :=
  s.compute sw false false (dab 1 1 1 d a b) (alu32 fun x y => ~~~(x ^^^ y))
/-- R110: complement. -/
def execNotB32 (sw : Bool) (d a : Fld) (s : State) : Host.Outcome State Fault Refusal :=
  s.compute sw false false (da 1 1 d a) (un32 fun x => ~~~x)
/-- R110: shift or rotate by b mod 32. -/
def execShlB32 (sw : Bool) (d a b : Fld) (s : State) : Host.Outcome State Fault Refusal :=
  s.compute sw false false (dab 1 1 1 d a b) (alu32 fun x y => shlMod x y.toNat)
/-- R110: shift or rotate by b mod 32. -/
def execShrB32 (sw : Bool) (d a b : Fld) (s : State) : Host.Outcome State Fault Refusal :=
  s.compute sw false false (dab 1 1 1 d a b) (alu32 fun x y => shrMod x y.toNat)
/-- R110: shift or rotate by b mod 32. -/
def execSarB32 (sw : Bool) (d a b : Fld) (s : State) : Host.Outcome State Fault Refusal :=
  s.compute sw false false (dab 1 1 1 d a b) (alu32 fun x y => sarMod x y.toNat)
/-- R110: shift or rotate by b mod 32. -/
def execRotlB32 (sw : Bool) (d a b : Fld) (s : State) : Host.Outcome State Fault Refusal :=
  s.compute sw false false (dab 1 1 1 d a b) (alu32 fun x y => rotlMod x y.toNat)
/-- R110: shift or rotate by b mod 32. -/
def execRotrB32 (sw : Bool) (d a b : Fld) (s : State) : Host.Outcome State Fault Refusal :=
  s.compute sw false false (dab 1 1 1 d a b) (alu32 fun x y => rotrMod x y.toNat)
/-- R110: bit-preserving move. -/
def execMovB32 (sw : Bool) (d a : Fld) (s : State) : Host.Outcome State Fault Refusal :=
  s.compute sw false false (da 1 1 d a) (un32 fun x => x)
/-- R110: bit-preserving move of a pair. -/
def execMovB64 (sw : Bool) (d a : Fld) (s : State) : Host.Outcome State Fault Refusal :=
  s.compute sw false false (da 2 2 d a) (un64 fun x => x)
/-- R110: bitwise on pairs. -/
def execAndB64 (sw : Bool) (d a b : Fld) (s : State) : Host.Outcome State Fault Refusal :=
  s.compute sw false false (dab 2 2 2 d a b) (alu64 fun x y => x &&& y)
/-- R110: bitwise on pairs. -/
def execOrB64 (sw : Bool) (d a b : Fld) (s : State) : Host.Outcome State Fault Refusal :=
  s.compute sw false false (dab 2 2 2 d a b) (alu64 fun x y => x ||| y)
/-- R110: bitwise on pairs. -/
def execXorB64 (sw : Bool) (d a b : Fld) (s : State) : Host.Outcome State Fault Refusal :=
  s.compute sw false false (dab 2 2 2 d a b) (alu64 fun x y => x ^^^ y)
/-- R110: complement of a pair. -/
def execNotB64 (sw : Bool) (d a : Fld) (s : State) : Host.Outcome State Fault Refusal :=
  s.compute sw false false (da 2 2 d a) (un64 fun x => ~~~x)
/-- R110: rotate a pair by b mod 64. -/
def execRotlB64 (sw : Bool) (d a b : Fld) (s : State) : Host.Outcome State Fault Refusal :=
  s.compute sw false false (dab 2 2 1 d a b) (alu64x32 fun x y => rotlMod x y.toNat)
/-- R110: rotate a pair by b mod 64. -/
def execRotrB64 (sw : Bool) (d a b : Fld) (s : State) : Host.Outcome State Fault Refusal :=
  s.compute sw false false (dab 2 2 1 d a b) (alu64x32 fun x y => rotrMod x y.toNat)
/-- R111: shift a pair by b mod 64. -/
def execShlB64 (sw : Bool) (d a b : Fld) (s : State) : Host.Outcome State Fault Refusal :=
  s.compute sw false false (dab 2 2 1 d a b) (alu64x32 fun x y => shlMod x y.toNat)
/-- R111: shift a pair by b mod 64. -/
def execShrB64 (sw : Bool) (d a b : Fld) (s : State) : Host.Outcome State Fault Refusal :=
  s.compute sw false false (dab 2 2 1 d a b) (alu64x32 fun x y => shrMod x y.toNat)
/-- R111: shift a pair by b mod 64. -/
def execSarB64 (sw : Bool) (d a b : Fld) (s : State) : Host.Outcome State Fault Refusal :=
  s.compute sw false false (dab 2 2 1 d a b) (alu64x32 fun x y => sarMod x y.toNat)
/-- R112: a + sign-extended immediate. -/
def execAddiI32 (sw : Bool) (d a : Fld) (i : BitVec 11) (s : State) : Host.Outcome State Fault Refusal :=
  s.compute sw false false (da 1 1 d a) (un32 fun x => x + i.signExtend 32)
/-- R112: logic with a zero-extended immediate. -/
def execAndiB32 (sw : Bool) (d a : Fld) (i : BitVec 11) (s : State) : Host.Outcome State Fault Refusal :=
  s.compute sw false false (da 1 1 d a) (un32 fun x => x &&& i.setWidth 32)
/-- R112: logic with a zero-extended immediate. -/
def execOriB32 (sw : Bool) (d a : Fld) (i : BitVec 11) (s : State) : Host.Outcome State Fault Refusal :=
  s.compute sw false false (da 1 1 d a) (un32 fun x => x ||| i.setWidth 32)
/-- R112: logic with a zero-extended immediate. -/
def execXoriB32 (sw : Bool) (d a : Fld) (i : BitVec 11) (s : State) : Host.Outcome State Fault Refusal :=
  s.compute sw false false (da 1 1 d a) (un32 fun x => x ^^^ i.setWidth 32)
/-- R113: shift by immediate, of a register or of a pair. -/
def execShli (sw : Bool) (d a : Fld) (w : Bool) (c : BitVec 6) (s : State) : Host.Outcome State Fault Refusal :=
  if w then s.compute sw false false (da 2 2 d a) (un64 fun x => shlMod x c.toNat)
  else s.compute sw false false (da 1 1 d a) (un32 fun x => shlMod x c.toNat)
/-- R113: shift by immediate, of a register or of a pair. -/
def execShri (sw : Bool) (d a : Fld) (w : Bool) (c : BitVec 6) (s : State) : Host.Outcome State Fault Refusal :=
  if w then s.compute sw false false (da 2 2 d a) (un64 fun x => shrMod x c.toNat)
  else s.compute sw false false (da 1 1 d a) (un32 fun x => shrMod x c.toNat)
/-- R113: shift by immediate, of a register or of a pair. -/
def execSari (sw : Bool) (d a : Fld) (w : Bool) (c : BitVec 6) (s : State) : Host.Outcome State Fault Refusal :=
  if w then s.compute sw false false (da 2 2 d a) (un64 fun x => sarMod x c.toNat)
  else s.compute sw false false (da 1 1 d a) (un32 fun x => sarMod x c.toNat)
/-- R113: shift by immediate, of a register or of a pair. -/
def execRotri (sw : Bool) (d a : Fld) (w : Bool) (c : BitVec 6) (s : State) : Host.Outcome State Fault Refusal :=
  if w then s.compute sw false false (da 2 2 d a) (un64 fun x => rotrMod x c.toNat)
  else s.compute sw false false (da 1 1 d a) (un32 fun x => rotrMod x c.toNat)

/-! ## Bits and fields -/

/-- R114: number of 1 bits. -/
def execPopcB32 (sw : Bool) (d a : Fld) (s : State) : Host.Outcome State Fault Refusal :=
  s.compute sw false false (da 1 1 d a) (un32 fun x => BitVec.ofNat 32 (popCount x))
/-- R114: leading zeros; 32 for 0. -/
def execClzB32 (sw : Bool) (d a : Fld) (s : State) : Host.Outcome State Fault Refusal :=
  s.compute sw false false (da 1 1 d a) (un32 fun x => BitVec.ofNat 32 (leadingZeros x))
/-- R114: trailing zeros; 32 for 0. -/
def execCtzB32 (sw : Bool) (d a : Fld) (s : State) : Host.Outcome State Fault Refusal :=
  s.compute sw false false (da 1 1 d a) (un32 fun x => BitVec.ofNat 32 (trailingZeros x))
/-- R114: bit reversal. -/
def execBrevB32 (sw : Bool) (d a : Fld) (s : State) : Host.Outcome State Fault Refusal :=
  s.compute sw false false (da 1 1 d a) (un32 fun x => bitReverse x)
/-- R114: number of 1 bits of a pair. -/
def execPopcB64 (sw : Bool) (d a : Fld) (s : State) : Host.Outcome State Fault Refusal :=
  s.compute sw false false (da 1 2 d a) (un64to32 fun x => BitVec.ofNat 32 (popCount x))
/-- R114: leading zeros of a pair. -/
def execClzB64 (sw : Bool) (d a : Fld) (s : State) : Host.Outcome State Fault Refusal :=
  s.compute sw false false (da 1 2 d a) (un64to32 fun x => BitVec.ofNat 32 (leadingZeros x))
/-- R115: field, sign-extended. -/
def execBfeI32 (sw : Bool) (d a b : Fld) (s : State) : Host.Outcome State Fault Refusal :=
  s.compute sw false false (dab 1 1 1 d a b) (alu32 fun x y => bfeI x y)
/-- R115: field, zero-extended. -/
def execBfeN32 (sw : Bool) (d a b : Fld) (s : State) : Host.Outcome State Fault Refusal :=
  s.compute sw false false (dab 1 1 1 d a b) (alu32 fun x y => bfeN x y)
/-- R115: field insert; d is read. -/
def execBfiB32 (sw : Bool) (d a b : Fld) (s : State) : Host.Outcome State Fault Refusal :=
  s.compute sw false false (dabR 1 1 1 d a b) (fun vs => (of32 (bfi (w32 (arg vs 0)) (w32 (arg vs 1)) (w32 (arg vs 2))), 0#5))
/-- R116: byte select. -/
def execBselB32 (sw : Bool) (d a b : Fld) (s : State) : Host.Outcome State Fault Refusal :=
  s.compute sw false false (dab 1 1 1 d a b) (alu32 fun x y => bsel x y)

/-! ## Compare and select -/

/-- R117: equality. -/
def execSetEqB32 (sw : Bool) (d a b : Fld) (s : State) : Host.Outcome State Fault Refusal :=
  s.compute sw false false (dab 1 1 1 d a b) (rel32 fun x y => x == y)
/-- R117: equality. -/
def execSetNeB32 (sw : Bool) (d a b : Fld) (s : State) : Host.Outcome State Fault Refusal :=
  s.compute sw false false (dab 1 1 1 d a b) (rel32 fun x y => x != y)
/-- R117: order. -/
def execSetLtI32 (sw : Bool) (d a b : Fld) (s : State) : Host.Outcome State Fault Refusal :=
  s.compute sw false false (dab 1 1 1 d a b) (rel32 fun x y => decide (x.toInt < y.toInt))
/-- R117: order. -/
def execSetLeI32 (sw : Bool) (d a b : Fld) (s : State) : Host.Outcome State Fault Refusal :=
  s.compute sw false false (dab 1 1 1 d a b) (rel32 fun x y => decide (x.toInt ≤ y.toInt))
/-- R117: order. -/
def execSetLtN32 (sw : Bool) (d a b : Fld) (s : State) : Host.Outcome State Fault Refusal :=
  s.compute sw false false (dab 1 1 1 d a b) (rel32 fun x y => decide (x.toNat < y.toNat))
/-- R117: order. -/
def execSetLeN32 (sw : Bool) (d a b : Fld) (s : State) : Host.Outcome State Fault Refusal :=
  s.compute sw false false (dab 1 1 1 d a b) (rel32 fun x y => decide (x.toNat ≤ y.toNat))
/-- R117: equality of pairs. -/
def execSetEqB64 (sw : Bool) (d a b : Fld) (s : State) : Host.Outcome State Fault Refusal :=
  s.compute sw false false (dab 1 2 2 d a b) (rel64 fun x y => x == y)
/-- R117: equality of pairs. -/
def execSetNeB64 (sw : Bool) (d a b : Fld) (s : State) : Host.Outcome State Fault Refusal :=
  s.compute sw false false (dab 1 2 2 d a b) (rel64 fun x y => x != y)
/-- R117: order of pairs. -/
def execSetLtI64 (sw : Bool) (d a b : Fld) (s : State) : Host.Outcome State Fault Refusal :=
  s.compute sw false false (dab 1 2 2 d a b) (rel64 fun x y => decide (x.toInt < y.toInt))
/-- R117: order of pairs. -/
def execSetLeI64 (sw : Bool) (d a b : Fld) (s : State) : Host.Outcome State Fault Refusal :=
  s.compute sw false false (dab 1 2 2 d a b) (rel64 fun x y => decide (x.toInt ≤ y.toInt))
/-- R117: order of pairs. -/
def execSetLtN64 (sw : Bool) (d a b : Fld) (s : State) : Host.Outcome State Fault Refusal :=
  s.compute sw false false (dab 1 2 2 d a b) (rel64 fun x y => decide (x.toNat < y.toNat))
/-- R117: order of pairs. -/
def execSetLeN64 (sw : Bool) (d a b : Fld) (s : State) : Host.Outcome State Fault Refusal :=
  s.compute sw false false (dab 1 2 2 d a b) (rel64 fun x y => decide (x.toNat ≤ y.toNat))
/-- R117: d := d ≠ 0 ? a : b. -/
def execSelB32 (sw : Bool) (d a b : Fld) (s : State) : Host.Outcome State Fault Refusal :=
  s.compute sw false false (dabR 1 1 1 d a b) (fun vs => (of32 (if w32 (arg vs 2) ≠ 0#32 then w32 (arg vs 0) else w32 (arg vs 1)), 0#5))
/-- R117: the same on pairs. -/
def execSelB64 (sw : Bool) (d a b : Fld) (s : State) : Host.Outcome State Fault Refusal :=
  s.compute sw false false (dabR 2 2 2 d a b) (fun vs => (of64 (if w64 (arg vs 2) ≠ 0#64 then w64 (arg vs 0) else w64 (arg vs 1)), 0#5))

/-! ## Moves, immediates and addresses -/

/-- R118: sign-extended immediate. -/
def execMovi (sw : Bool) (d : Fld) (i : BitVec 18) (s : State) : Host.Outcome State Fault Refusal :=
  s.compute sw false false [⟨.dst, d, 1⟩] (fun _ => (of32 (i.signExtend 32), 0#5))
/-- R118: immediate to the high half. -/
def execMovhi (sw : Bool) (d : Fld) (i : BitVec 16) (s : State) : Host.Outcome State Fault Refusal :=
  s.compute sw false false [⟨.dst, d, 1⟩] (fun _ => (of32 (i ++ 0#16), 0#5))
/-- R118: immediate to the low half; d is read. -/
def execMovlo (sw : Bool) (d : Fld) (i : BitVec 16) (s : State) : Host.Outcome State Fault Refusal :=
  s.compute sw false false [⟨.srcDst, d, 1⟩] (fun vs => (of32 ((w32 (arg vs 0)).extractLsb' 16 16 ++ i), 0#5))
/-- R119: a + sign-extended b. -/
def execAddaI (sw : Bool) (d a b : Fld) (s : State) : Host.Outcome State Fault Refusal :=
  s.compute sw false false (dab 2 2 1 d a b) (alu64x32 fun x y => x + y.signExtend 64)
/-- R119: a + zero-extended b. -/
def execAddaN (sw : Bool) (d a b : Fld) (s : State) : Host.Outcome State Fault Refusal :=
  s.compute sw false false (dab 2 2 1 d a b) (alu64x32 fun x y => x + y.setWidth 64)
/-- R119: d + a × b, a and b unsigned. -/
def execMadaN32 (sw : Bool) (d a b : Fld) (s : State) : Host.Outcome State Fault Refusal :=
  s.compute sw false false (dabR 2 1 1 d a b) (fun vs => (of64 (w64 (arg vs 2) + (w32 (arg vs 0)).setWidth 64 * (w32 (arg vs 1)).setWidth 64), 0#5))
/-- R119: sign extension to a pair. -/
def execExtI32 (sw : Bool) (d a : Fld) (s : State) : Host.Outcome State Fault Refusal :=
  s.compute sw false false (da 2 1 d a) (un32to64 fun x => x.signExtend 64)
/-- R119: zero extension to a pair. -/
def execExtN32 (sw : Bool) (d a : Fld) (s : State) : Host.Outcome State Fault Refusal :=
  s.compute sw false false (da 2 1 d a) (un32to64 fun x => x.setWidth 64)
/-- R119: low register of a pair. -/
def execTruncB64 (sw : Bool) (d a : Fld) (s : State) : Host.Outcome State Fault Refusal :=
  s.compute sw false false (da 1 2 d a) (un64to32 fun x => x.extractLsb' 0 32)

/-! ## Special-register moves (R41, R42, R120, R218) -/

/-- The launch's thread count (R230). -/
def nthrOf (r : BitVec 2048) : Nat :=
  bits r.toNat 640 40 + bits r.toNat 768 40 + bits r.toNat 896 40 + bits r.toNat 1024 40

/-- The context that tsel names, if it is resident (R218). -/
def State.target (s : State) : Option Nat :=
  let t := s.issCtx.set.tsel
  if (s.ctx? t).isSome then some t else none

/-- The value of a special register for a lane of the issuing gang (R41, R218). -/
def State.readSreg (s : State) (n : Nat) (l : Nat) : Word :=
  let t := s.lane l
  let x := s.issCtx
  let nthr := match s.launchOf t with | some a => nthrOf a.recd | none => 0
  let tgt (f : Ctx → Word) : Word := match s.target with | some c => f (s.ctx c) | none => 0#32
  match n with
  | 0x00 => BitVec.ofNat 32 t.tid
  | 0x01 => BitVec.ofNat 32 (bits t.tid 32 8)
  | 0x02 => BitVec.ofNat 32 nthr
  | 0x03 => BitVec.ofNat 32 (bits nthr 32 8)
  | 0x04 => BitVec.ofNat 32 t.role
  | 0x05 => BitVec.ofNat 32 s.issue.vc
  | 0x06 => BitVec.ofNat 32 (s.issue.line * 2 ^ 7 + (8 * s.issue.line + l / 4))
  | 0x07 => t.group
  | 0x08 => t.fst.setWidth 32
  | 0x09 => BitVec.ofNat 32 t.wb
  | 0x0A => (s.clk s.issue.ctx s.issue.vc).extractLsb' 0 32
  | 0x0B => (s.clk s.issue.ctx s.issue.vc).extractLsb' 32 32
  | 0x0C => BitVec.ofNat 32 s.issue.ctx
  | 0x0D => x.set.fltc
  | 0x40 => BitVec.ofNat 32 (x.set.tsel + (if s.target.isSome then 2 ^ 31 else 0))
  | 0x41 => tgt (fun c => if c.set.preq then 1#32 else 0#32)
  | 0x42 => tgt (fun c => BitVec.ofNat 32 c.set.yhnd)
  | 0x43 => tgt (fun c => BitVec.ofNat 32 c.set.ylim)
  | 0x44 => tgt (fun c => BitVec.ofNat 32 c.set.dline)
  | 0x45 => tgt (fun c => c.set.fltc)
  | 0x46 => tgt (fun c => if c.set.ckperm then 1#32 else 0#32)
  | 0x47 => tgt (fun c => if c.set.priv then 1#32 else 0#32)
  | 0x48 => Config.coreRev s.issPhys
  | 0x49 => BitVec.ofNat 32 (s.die (dieOf s.issPhys)).faults.length
  | 0x4A => x.set.dbst
  | 0x4B => BitVec.ofNat 32 s.hub.cfgAddr.toNat
  | 0x4C => BitVec.ofNat 32 (bits s.hub.cfgAddr.toNat 32 25)
  | _ => 0#32

/-- Launches that are offered and have not started (R223): each queue's oldest, once its edges are satisfied. -/
def State.waitingLaunches (s : State) : List Nat :=
  s.queues.filterMap (fun e => (e.2.items.find? (fun u => match look s.launches u with
    | some l => l.state == .waiting
    | none => false)).bind (fun u => match look s.launches u with
      | some l => if l.edges.isEmpty then some u else none
      | none => none))

/-- Threads that yielded on a core go on past their `yield`: their registers read zero, and so do the g registers of a
line all of whose threads yielded (R139). -/
def State.wakeYielded (s : State) (c v : Nat) : State :=
  let ts := s.coreThreads c v
  let lines := dedup (ts.map (fun e => e.1.line))
  let s := (lines.filter (fun l => ts.all (fun e => e.1.line != l || e.2.stat == .yielded))).foldl (fun s l =>
    s.modLine c v l (fun x => { x with g := [0, 0, 0, 0, 0, 0, 0, 0] })) s
  (ts.filter (fun e => e.2.stat == .yielded)).foldl (fun s e => s.modThread e.1 (fun t => { t with stat := .run, regs := [] })) s

/-- Raising or clearing a context's pre-emption request flag (R218, R347): a raised flag starts the deadline; a cleared
one ends it, threads that yielded on cores not yet released go on, and cores already released are placed again. -/
def State.setPreq (s : State) (c : Nat) (on : Bool) : State :=
  let was := (s.ctx c).set.preq
  let s := s.modCtx c (fun x => { x with set := { x.set with preq := on } })
  if on == was then s
  else if on then (s.modCtx c (fun x => { x with before := s.waitingLaunches })).post (.preemptDeadline c)
  else
    let s : State := { s with agenda := s.agenda.filter (· != .preemptDeadline c) }
    let s : State := (s.ctx c).place.foldl (fun s e => s.wakeYielded c e.1) s
    if (s.ctx c).place.length < (s.ctx c).n && !(s.ctx c).was.isEmpty && !s.agenda.contains (.contextResume c []) then
      s.post (.contextResume c []) else s

/-- A lane's write to a special register (R120, R218). -/
def State.writeSreg (s : State) (n : Nat) (l : Nat) (w : Word) : State :=
  let tgt (f : Settings → Settings) : State :=
    match s.target with
    | some c => s.modCtx c (fun x => { x with set := f x.set })
    | none => s
  match n with
  | 0x08 => s.modLane l (fun t => { t with fst := t.fst &&& ~~~(w.setWidth 5) })
  | 0x40 => s.modIssCtx (fun x => { x with set := { x.set with tsel := bits w.toNat 0 10 } })
  | 0x41 => match s.target with
    | some c => s.setPreq c (w.getLsbD 0)
    | none => s
  | 0x42 => tgt (fun c => { c with yhnd := bits w.toNat 0 22 })
  | 0x43 => tgt (fun c => { c with ylim := w.toNat })
  | 0x44 => tgt (fun c => { c with dline := w.toNat })
  | 0x45 => if w.getLsbD 31 then tgt (fun c => { c with fltc := 0#32 }) else s
  | 0x46 => tgt (fun c => { c with ckperm := w.getLsbD 0 })
  | _ => s

/-- A special register numbered 0x40 or above is privileged (R95). -/
def sregPrivileged (n : Nat) : Bool := 0x40 ≤ n

/-- Reading a special register, shared by the read forms (R120). -/
def State.readSpecial (s : State) (sw : Bool) (priv : Bool) (d : Fld) (f : State → Nat → Word) : Host.Outcome State Fault Refusal :=
  match s.prepare priv [⟨.dst, d, 1⟩] with
  | .halt s => .next s
  | .go lanes _ s =>
    .next ((s.deliver false lanes ⟨.dst, d, 1⟩ (lanes.map (fun l => (l, of32 (f s l), 0#5)))).finish sw lanes)

/-- Writing a special register: each active lane writes, in ascending order (R120). -/
def State.writeSpecial (s : State) (sw : Bool) (a : Fld) (n : Nat) : Host.Outcome State Fault Refusal :=
  match s.prepare (sregPrivileged n) [⟨.src, a, 1⟩] with
  | .halt s => .next s
  | .go lanes vals s =>
    .next ((vals.foldl (fun s e => s.writeSreg n e.1 (w32 (arg e.2 0))) s).finish sw lanes)

/-- R120: read a special register. -/
def execSrd (sw : Bool) (d : Fld) (n : BitVec 8) (s : State) : Host.Outcome State Fault Refusal :=
  s.readSpecial sw (sregPrivileged n.toNat) d (fun s l => s.readSreg n.toNat l)
/-- R120: the lane position, in [1:0]. -/
def execSrdPos (sw : Bool) (d : Fld) (s : State) : Host.Outcome State Fault Refusal :=
  s.readSpecial sw false d (fun _ l => BitVec.ofNat 32 (l % 4))
/-- R120, R218: write a special register. -/
def execSwr (sw : Bool) (a : Fld) (n : BitVec 8) (s : State) : Host.Outcome State Fault Refusal :=
  s.writeSpecial sw a n.toNat
/-- R120: clear bits of fst. -/
def execSwrFst (sw : Bool) (a : Fld) (s : State) : Host.Outcome State Fault Refusal := s.writeSpecial sw a 0x08
/-- R218: raise or clear the target's pre-emption request flag. -/
def execSwrPreq (sw : Bool) (a : Fld) (s : State) : Host.Outcome State Fault Refusal := s.writeSpecial sw a 0x41
/-- R218: clear the target's fltc. -/
def execSwrFltcc (sw : Bool) (a : Fld) (s : State) : Host.Outcome State Fault Refusal := s.writeSpecial sw a 0x45

end Sys2Proof.Machine
end

