-- ==== Sys2Proof/Machine/CfgBlock.lean ====
section
/-!
DEFINITION. The configuration block (R394) as the hub shows it, with its SHA-256 hash (FIPS 180-4).
-/
namespace Sys2Proof.Machine

/-! ## SHA-256 (FIPS 180-4) -/

def shaK : List Word :=
  [0x428A2F98#32, 0x71374491#32, 0xB5C0FBCF#32, 0xE9B5DBA5#32, 0x3956C25B#32, 0x59F111F1#32, 0x923F82A4#32, 0xAB1C5ED5#32] ++
  [0xD807AA98#32, 0x12835B01#32, 0x243185BE#32, 0x550C7DC3#32, 0x72BE5D74#32, 0x80DEB1FE#32, 0x9BDC06A7#32, 0xC19BF174#32] ++
  [0xE49B69C1#32, 0xEFBE4786#32, 0x0FC19DC6#32, 0x240CA1CC#32, 0x2DE92C6F#32, 0x4A7484AA#32, 0x5CB0A9DC#32, 0x76F988DA#32] ++
  [0x983E5152#32, 0xA831C66D#32, 0xB00327C8#32, 0xBF597FC7#32, 0xC6E00BF3#32, 0xD5A79147#32, 0x06CA6351#32, 0x14292967#32] ++
  [0x27B70A85#32, 0x2E1B2138#32, 0x4D2C6DFC#32, 0x53380D13#32, 0x650A7354#32, 0x766A0ABB#32, 0x81C2C92E#32, 0x92722C85#32] ++
  [0xA2BFE8A1#32, 0xA81A664B#32, 0xC24B8B70#32, 0xC76C51A3#32, 0xD192E819#32, 0xD6990624#32, 0xF40E3585#32, 0x106AA070#32] ++
  [0x19A4C116#32, 0x1E376C08#32, 0x2748774C#32, 0x34B0BCB5#32, 0x391C0CB3#32, 0x4ED8AA4A#32, 0x5B9CCA4F#32, 0x682E6FF3#32] ++
  [0x748F82EE#32, 0x78A5636F#32, 0x84C87814#32, 0x8CC70208#32, 0x90BEFFFA#32, 0xA4506CEB#32, 0xBEF9A3F7#32, 0xC67178F2#32]
def shaInit : List Word := [0x6A09E667#32, 0xBB67AE85#32, 0x3C6EF372#32, 0xA54FF53A#32, 0x510E527F#32, 0x9B05688C#32, 0x1F83D9AB#32, 0x5BE0CD19#32]

def shaSmall0 (x : Word) : Word := x.rotateRight 7 ^^^ x.rotateRight 18 ^^^ (x >>> 3)
def shaSmall1 (x : Word) : Word := x.rotateRight 17 ^^^ x.rotateRight 19 ^^^ (x >>> 10)
def shaBig0 (x : Word) : Word := x.rotateRight 2 ^^^ x.rotateRight 13 ^^^ x.rotateRight 22
def shaBig1 (x : Word) : Word := x.rotateRight 6 ^^^ x.rotateRight 11 ^^^ x.rotateRight 25

/-- The message schedule, latest word first: 16 words grow to 64. -/
def shaSchedule : Nat → List Word → List Word
  | 0, w => w
  | n + 1, w =>
    shaSchedule n ((shaSmall1 (w.getD 1 0#32) + w.getD 6 0#32 + shaSmall0 (w.getD 14 0#32) + w.getD 15 0#32) :: w)

def shaRound (h : List Word) (k w : Word) : List Word :=
  match h with
  | [a, b, c, d, e, f, g, x] =>
    let t1 := x + shaBig1 e + ((e &&& f) ^^^ (~~~e &&& g)) + k + w
    let t2 := shaBig0 a + ((a &&& b) ^^^ (a &&& c) ^^^ (b &&& c))
    [t1 + t2, a, b, c, d + t1, e, f, g]
  | x => x

def shaBlock (h : List Word) (block : List Word) : List Word :=
  let w := (shaSchedule 48 block.reverse).reverse
  let r := (shaK.zip w).foldl (fun h kw => shaRound h kw.1 kw.2) h
  (h.zip r).map (fun e => e.1 + e.2)

/-- Four bytes, most significant first. -/
def beWords : List Byte → List Word
  | a :: b :: c :: d :: r => (a ++ b ++ c ++ d) :: beWords r
  | _ => []
def beBytes (ws : List Word) : List Byte :=
  ws.flatMap (fun w => [w.extractLsb' 24 8, w.extractLsb' 16 8, w.extractLsb' 8 8, w.extractLsb' 0 8])

/-- Blocks of 16 words. -/
def shaBlocks : Nat → List Word → List Word → List Word
  | 0, h, _ => h
  | n + 1, h, ws => shaBlocks n (shaBlock h (ws.take 16)) (ws.drop 16)

def sha256 (m : List Byte) : List Byte :=
  let pad := (119 - m.length % 64) % 64
  let p := m ++ [0x80#8] ++ List.replicate pad 0#8 ++ (bytesOfNat (8 * m.length) 8).reverse
  beBytes (shaBlocks (p.length / 64) shaInit (beWords p))

/-- HMAC-SHA-256 (FIPS 198-1) under a key of 32 bytes. -/
def hmacSha256 (key m : List Byte) : List Byte :=
  let k := key ++ List.replicate (64 - key.length) 0#8
  sha256 (k.map (· ^^^ 0x5C#8) ++ sha256 (k.map (· ^^^ 0x36#8) ++ m))

/-! ## The block -/

def maskOf (n : Nat) (p : Nat → Bool) : Nat := laneMask ((List.range n).filter p)

/-- Bytes of bonded DRAM on a die, and of LPDDR-6 (R270, R394). -/
def State.bdSize (s : State) (d : Nat) : Nat :=
  if s.diePresent d then 0x60000000 * ((List.range 32).filter (fun c => !s.hub.ras.absentBd.contains (32 * d + c))).length else 0
def State.lpSize (s : State) : Nat := 0x800000000 * ((List.range 32).filter (fun c => !s.hub.ras.absentLp.contains c)).length
def lpBase : Nat := 0x010000000000

/-- Is a physical address within memory that is present (R271)? -/
def State.paPresent (s : State) (pa : Nat) : Bool :=
  (List.range 4).any (fun d => decide (d * 2 ^ 36 ≤ pa) && decide (pa < d * 2 ^ 36 + s.bdSize d)) ||
    (decide (lpBase ≤ pa) && decide (pa < lpBase + s.lpSize))

/-- Bytes 0x000 to 0x0BF: presence. The rest, to 0x0FF, is zero. -/
def State.cfgPresence (s : State) : List Byte :=
  let r := s.hub.ras
  bytesOfNat 0x4B434647 4 ++ bytesOfNat 1 2 ++ bytesOfNat 0 2 ++ bytesOfNat (Config.coreRev 0).toNat 4 ++ bytesOfNat Config.hubRev.toNat 4 ++
    bytesOfNat (maskOf 640 s.corePresent) 80 ++ bytesOfNat (maskOf 40 s.squarePresent) 8 ++ bytesOfNat (maskOf 4 s.diePresent) 4 ++
    bytesOfNat (maskOf 32 (fun p => !r.absentPorts.contains p)) 4 ++
    (List.range 4).flatMap (fun d => bytesOfNat (maskOf 32 (fun c => s.diePresent d && !r.absentBd.contains (32 * d + c))) 4) ++
    bytesOfNat (maskOf 32 (fun c => !r.absentLp.contains c)) 4 ++ bytesOfNat 0 4 ++ bytesOfNat s.lpSize 8 ++
    (List.range 4).flatMap (fun d => bytesOfNat (s.bdSize d) 8) ++
    (List.range 4).flatMap (fun d => bytesOfNat (maskOf 4 (fun g => s.diePresent d && !r.absentL2.contains (4 * d + g))) 4) ++
    List.replicate 64 0#8

/-- The configuration hash: cfg of R352 (R394). -/
def State.cfgHash (s : State) : List Byte := (sha256 s.cfgPresence).take 16

/-- A byte of the block (R394). -/
def State.cfgByte (s : State) (a : Nat) : Byte :=
  let r := s.hub.ras
  if a < 0x100 then s.cfgPresence.getD a 0#8
  else if a < 0x110 then s.cfgHash.getD (a - 0x100) 0#8
  else if a < 0x114 then (bytesOfNat r.logn 4).getD (a - 0x110) 0#8
  else if 0x120 ≤ a ∧ a < 0x170 then (bytesOfNat (laneMask r.retiredCores) 80).getD (a - 0x120) 0#8
  else if 0x178 ≤ a ∧ a < 0x17C then (bytesOfNat (laneMask r.retiredMarkets) 4).getD (a - 0x178) 0#8
  else if 0x17C ≤ a ∧ a < 0x18C then
    ((List.range 4).flatMap (fun d => bytesOfNat (laneMask ((r.retiredL2.filter (·.1 == d)).map (·.2))) 4)).getD (a - 0x17C) 0#8
  else if 0x200 ≤ a ∧ a < 0x250 then (bytesOfNat ((look r.counters ((a - 0x200) / 8)).getD 0) 8).getD (a % 8) 0#8
  else if 0x400 ≤ a then (bytesOfNat ((r.log.getD ((a - 0x400) / 32) 0#256).toNat) 32).getD (a % 32) 0#8
  else 0#8

end Sys2Proof.Machine
end

