-- ==== Sys2Proof/Machine/Frames.lean ====
section
/-!
DEFINITION. Lamvon Command Transport: headers and tags (R372), what the port drops (R371), sequence numbers, acknowledgement, the
window of unacknowledged frames (R373), and the mould of a management operation (R376). ACK frames and retransmission.
-/
namespace Sys2Proof.Machine

/-- Sequence numbers wrap from 0xFFFF_FFFF to 1. -/
def seqNext (n : Nat) : Nat := if n = 0xFFFFFFFF then 1 else n + 1

def State.modSess (s : State) (n : Nat) (f : Session → Session) : State :=
  match look s.hub.sessions n with
  | none => s
  | some x => { s with hub := { s.hub with sessions := put s.hub.sessions n (f x) } }

/-! ## Headers and tags (R372) -/

/-- The type of a frame of the device, its fields, and the bytes after them. Frames with type 0 are no LCT frames. -/
def Frame.kind : Frame → Nat
  | .ack .. => 0x02 | .accept .. => 0x11 | .compl .. => 0x12 | .data .. => 0x22 | .wstat .. => 0x23 | .mgmt .. => 0x31 | .event _ => 0x40
  | .ckdata .. => 0x50 | .ckend .. => 0x50 | .arp _ => 0 | .icmp _ => 0 | .seler .. => 0
def Frame.fields : Frame → List Nat
  | .accept _ q n r _ => [q, n, r]
  | .compl _ q n k _ => [q, n, k]
  | .data _ st _ => [st]
  | .wstat _ st => [st]
  | .mgmt code st pay => [code, st] ++ pay
  | .ckdata _ st n va half _ => [st, n, va, half]
  | .ckend _ st n k => [st, n, k]
  | _ => []
def Frame.tail : Frame → List Byte
  | .data _ _ l | .ckdata _ _ _ _ _ l => l
  | .event r => bytesOfNat r.toNat 32
  | _ => []
/-- The payload of a frame. -/
def Frame.payload (f : Frame) : List Byte := (if f.fields = [] then [] else Config.payloadHead f.kind f.fields) ++ f.tail
/-- The free depth of a queue that ACCEPT and COMPL carry. -/
def Frame.credit : Frame → Nat
  | .accept _ _ _ _ n | .compl _ _ _ _ n => n
  | _ => 0

/-- The header before its tag is known: version 1. -/
def lctHead (ty sess seq ack credit len : Nat) : Nat :=
  2 ^ 4 + ty % 2 ^ 8 * 2 ^ 8 + sess % 2 ^ 16 * 2 ^ 16 + seq % 2 ^ 32 * 2 ^ 32 + ack % 2 ^ 32 * 2 ^ 64 + credit % 2 ^ 16 * 2 ^ 96 + len % 2 ^ 16 * 2 ^ 112
/-- The first 128 bits of HMAC-SHA-256 under the session's key over the header with tag zero and the payload. -/
def lctTag (key : BitVec 256) (head : Nat) (payload : List Byte) : Nat :=
  natOfBytes ((hmacSha256 (bytesOfNat key.toNat 32) (bytesOfNat head 32 ++ payload)).take 16)
/-- The header of frame f, number n of session x. -/
def lctHeader (x : Session) (sess n : Nat) (f : Frame) : BitVec 256 :=
  let head := lctHead f.kind sess n x.acked f.credit f.payload.length
  BitVec.ofNat 256 (head + lctTag x.key head f.payload * 2 ^ 128)

/-- The tag of a frame from outside, of type ty, is the one that its session's key gives. -/
def Session.tagHolds (x : Session) (h : Hdr) (ty : Nat) : Bool := h.tag.toNat == lctTag x.key (lctHead ty h.sess h.seq h.ack 0 h.bytes.length) h.bytes

/-! ## The port and the sessions (R371, R373) -/

/-- The port takes a packet: no fragment, no IP options, and at most one VLAN tag, of an id that it has (R371). A packet without a tag
is taken whatever ids are set: DESIGN CHOICE, notes/assumptions/102.md. -/
def State.packetOk (s : State) (n : Net) : Bool :=
  !n.fragment && !n.options && (match n.vlans with
    | [] => true
    | [v] => s.hub.vlans.contains v
    | _ => false)
/-- It is a packet of LCT: its UDP port, checksum and length. -/
def State.lctOk (s : State) (h : Hdr) : Bool := s.packetOk h.net && h.udp == 31640 && h.checksum && decide (h.bytes.length ≤ 9000)

/-- Frame f, number n of a session, leaves by the host port. -/
def State.emit (s : State) (sess n : Nat) (f : Frame) : State :=
  match look s.hub.sessions sess with
  | none => s
  | some x => { s with out := s.out ++ [{ frame := f, hdr := some (lctHeader x sess n f) }] }

/-- A frame leaves by the host port, unless the host has paused its session's priority (R371): then it waits. -/
def State.toPort (s : State) (sess n : Nat) (f : Frame) : State :=
  if s.hub.paused.getLsbD (Config.sessionPriority sess % 8) then { s with hub := { s.hub with portQueue := s.hub.portQueue ++ [(sess, n, f)] } }
  else s.emit sess n f

/-- A frame of the device on a session: it gets the next number and leaves at once, or when an acknowledgement makes
room among the 256 frames that may be unacknowledged. A closed session sends nothing. -/
def State.sendSess (s : State) (n : Nat) (f : Frame) : State :=
  match look s.hub.sessions n with
  | none => s
  | some x =>
    let s := s.modSess n (fun x => { x with next := seqNext x.next, unacked := x.unacked ++ [(x.next, f)] })
    if x.unacked.length < Config.outstandingFrames then s.toPort n x.next f else s

/-- Is a sequence number at or before another, on numbers that wrap? -/
def seqAtOrBefore (a b : Nat) : Bool := decide ((b + 2 ^ 32 - a) % 2 ^ 32 < 2 ^ 31)

/-- The acknowledgement of the host's frame with number seq. -/
def State.acknowledge (s : State) (sess seq : Nat) : State := (s.modSess sess (fun x => { x with acked := seq })).toPort sess 0 (.ack sess seq)

/-- A frame of the device no longer waits for room in the window. -/
def Session.hasLeft (x : Session) (n : Nat) : Bool := !(x.unacked.drop Config.outstandingFrames).any (·.1 == n)

/-- Acknowledgements that were owed are sent, in order, as far as the frames they wait for have left. -/
def State.payOwed (sess : Nat) : List (Nat × Nat) → State → State
  | [], s => s
  | e :: r, s =>
    match look s.hub.sessions sess with
    | some x => if x.hasLeft e.2 then State.payOwed sess r ((s.modSess sess (fun x => { x with owed := r })).acknowledge sess e.1) else s
    | none => s

/-- The host has acknowledged the frames up to a number: they are free, and frames that come within the window leave. The trap records
among them leave their queue (R341). -/
def State.ackUpTo (s : State) (sess ack : Nat) : State :=
  match look s.hub.sessions sess with
  | none => s
  | some x =>
    let gone := x.unacked.filter (fun e => seqAtOrBefore e.1 ack)
    if gone = [] then s else
    let left := x.unacked.filter (fun e => !seqAtOrBefore e.1 ack)
    let fresh := (left.drop (Config.outstandingFrames - gone.length)).take gone.length
    let s := s.modSess sess (fun x => { x with unacked := left })
    let s := fresh.foldl (fun s e => s.toPort sess e.1 e.2) s
    let s := gone.foldl (fun s e => match e.2 with
      | .event r => { s with ctxs := s.ctxs.map (fun c => (c.1, { c.2 with traps := { c.2.traps with queue := c.2.traps.queue.erase r } })) }
      | _ => s) s
    State.payOwed sess x.owed s

/-- The device takes frames once it is up (R399). -/
def State.poweredUp (s : State) : Bool := s.hub.power == .up

/-- What becomes of a frame of type ty from outside: dropped with the state after it, or it passes the port, its session is open and
its tag holds. A frame whose tag fails is counted. Management frames come on session 0 only. -/
def State.arrived (s : State) (h : Hdr) (ty : Nat) : Option Session × State :=
  if !s.poweredUp || !s.lctOk h then (none, s) else
  match look s.hub.sessions h.sess with
  | none => (none, s)
  | some x =>
    if !x.tagHolds h ty then (none, { s with hub := { s.hub with portErrors := s.hub.portErrors + 1 } })
    else if ty == 0x30 && h.sess != 0 then (none, s)
    else (some x, s)

/-- A frame from outside is accepted if it arrives and is the next in sequence. Its header acknowledges frames of the device. -/
def State.takeFrame (s : State) (h : Hdr) (ty : Nat) : Option State × State :=
  match s.arrived h ty with
  | (none, s) => (none, s)
  | (some x, s) =>
    if h.seq ≠ x.expect then (none, s)
    else
      let s := s.modSess h.sess (fun x => { x with expect := seqNext x.expect })
      (some (if h.ack = 0 then s else s.ackUpTo h.sess h.ack), s)

/-- The frame has taken effect: it is acknowledged, once frame `need` of the device has left, and after the frames before it. -/
def State.tookEffect (s : State) (h : Hdr) (need : Nat := 0) : State :=
  match look s.hub.sessions h.sess with
  | none => s
  | some x =>
    if x.owed = [] ∧ x.hasLeft need = true then s.acknowledge h.sess h.seq
    else s.modSess h.sess (fun x => { x with owed := x.owed ++ [(h.seq, need)] })

/-- Status codes of MGMT replies. -/
def mgDone : Nat := 0
def mgRefused : Nat := 1
def mgNone : Nat := 2

/-- What a management operation does: its status, its payload, and the state after it. -/
abbrev MgOp := State → Nat × List Nat × State
def refused (s : State) : Nat × List Nat × State := (mgRefused, [], s)
def noObject (s : State) : Nat × List Nat × State := (mgNone, [], s)
def done (s : State) : Nat × List Nat × State := (mgDone, [], s)

/-- The mould of a management operation: the frame is accepted, the operation done, the reply sent, the frame
acknowledged (R373, R376). -/
def State.mgmt (s : State) (h : Hdr) (code : Nat) (f : MgOp) : Host.Outcome State Fault Refusal :=
  match s.takeFrame h 0x30 with
  | (none, s) => .next s
  | (some s, _) =>
    let r := f s
    .next ((r.2.2.sendSess 0 (.mgmt code r.1 r.2.1)).tookEffect h)

/-- LCT_ACK (R373): an ACK frame. -/
def execLctAck (h : Hdr) (ack : Nat) (s : State) : Host.Outcome State Fault Refusal :=
  .next (match s.arrived { h with ack := ack } 0x02 with
    | (none, s) => s
    | (some _, s) => s.ackUpTo h.sess ack)

/-- LCT_RETRANSMIT_TIMEOUT (R373): every unacknowledged frame is sent again, from the oldest. -/
def execLctRetransmitTimeout (sess : Nat) (s : State) : Host.Outcome State Fault Refusal :=
  match look s.hub.sessions sess with
  | none => .next s
  | some x => .next (if s.poweredUp then (x.unacked.take Config.outstandingFrames).foldl (fun s e => s.toPort sess e.1 e.2) s else s)

/-- TRAP_RECORD_ENQUEUE (R341, R388): the oldest record that waits enters the context's trap queue when an entry is free,
and goes to management on session 0. -/
def execTrapRecordEnqueue (ctx : Nat) (s : State) : Host.Outcome State Fault Refusal :=
  match s.ctx? ctx with
  | none => .next s
  | some x =>
    match x.traps.waiting with
    | [] => .next s
    | r :: rest =>
      if Config.trapQueueDepth ≤ x.traps.queue.length then .next (s.post (.trapRecordEnqueue ctx)) else
      .next ((s.modCtx ctx (fun x => { x with traps := { x.traps with queue := x.traps.queue ++ [r], waiting := rest } })).sendSess 0 (.event r))

end Sys2Proof.Machine
end

