-- ==== Sys2Proof/Machine/Access.lean ====
section
/-!
DEFINITION. Memory access: L2 (R280, R281, R283, R287), accesses at the homes with checkpoint copy-on-write (R380), dirty
granules (R377), watchpoints (R216) and atomics between their read and their write (R156, R301), L1 (R273, R274, R158, R159),
the on-chip levels (R147), and the interval checks of the range scoreboard (R149, R332).
-/
namespace Sys2Proof.Machine

/-! ## Granules and memory slices -/

/-- 16-KiB granules of intermediate address space (R377). -/
def granuleOf (ia : Nat) : Nat := ia / 2 ^ 14

/-- The cells of a memory from `lo` on, `n` bytes, numbered from zero. -/
def memSlice (m : Memory) (lo n : Nat) : Memory :=
  (m.filter (fun e => lo ≤ e.1 && decide (e.1 < lo + n))).map (fun e => (e.1 - lo, e.2))
/-- n bytes from `lo` on become the cells given. -/
def memPaste (m : Memory) (lo n : Nat) (cells : Memory) : Memory :=
  cells.foldl (fun m e => m.setByte (lo + e.1) e.2) (m.zero lo (lo + n - 1))

def isSet (l : List Nat) (x : Nat) : Bool := l.contains x
def addNat (l : List Nat) (x : Nat) : List Nat := if l.contains x then l else l ++ [x]

/-! ## L2 (R270, R280, R281, R283, R287) -/

def vcLsz (r : BitVec 512) : Nat := bits r.toNat 82 2
def vcWpol (r : BitVec 512) : Nat := bits r.toNat 84 2
def vcRepl (r : BitVec 512) : Nat := bits r.toNat 86 2
def vcG (r : BitVec 512) : Nat := 2 ^ bits r.toNat 80 2

/-- The shares that may hold a line of physical address pa, and its set (R280). -/
def linePlace (r : BitVec 512) (shares : List Nat) (pa : Nat) : Nat × List Nat :=
  let lsz := vcLsz r
  let lam := pa >>> (7 + lsz)
  let g := vcG r
  let group := (lam >>> (10 - lsz)) % max 1 (shares.length / g)
  (lam % 2 ^ (10 - lsz), (shares.drop (group * g)).take g)

def L2Line.pa (l : L2Line) : Nat := l.line <<< (7 + l.lsz)
def L2Line.bytes (l : L2Line) : Nat := 2 ^ (7 + l.lsz)
/-- The line is that of a physical address; the sector of the address in it. -/
def L2Line.tag (l : L2Line) (pa : Nat) : Bool := l.line == pa >>> (7 + l.lsz)
def L2Line.sector (l : L2Line) (pa : Nat) : Nat := (pa >>> 7) % 2 ^ l.lsz
/-- A sector of the line is filled, and these offsets of the sector are dirty. -/
def L2Line.fill (l : L2Line) (pa : Nat) (wr : List Nat) : L2Line :=
  { l with sectors := addNat l.sectors (l.sector pa), dirty := (wr.map (fun o => 128 * l.sector pa + o)).foldl addNat l.dirty }
/-- Does the line stand in a way of a share, in some of n physical sets from `lo` on? -/
def L2Line.inWay (l : L2Line) (share way lo n : Nat) : Bool :=
  let first := (l.line <<< l.lsz) % 1024
  l.share == share && l.way == way && decide (lo < first + 2 ^ l.lsz) && decide (first < lo + n)

/-- The ways that the line of pa may take (R280): share, way, and the lines that stand there. -/
def VCache.ways (x : VCache) (pa : Nat) : List (Nat × Nat × List L2Line) :=
  let z := vcLsz x.recd
  let lo := ((pa >>> (7 + z)) <<< z) % 1024
  (linePlace x.recd x.shares pa).2.flatMap (fun h => [0, 1].map (fun w => (h, w, x.lines.filter (fun y => y.inWay h w lo (2 ^ z)))))
/-- The victim chooser (R281, R287): the first way that is invalid, else the least recently used one that is not pinned. -/
def VCache.victim (x : VCache) (pin : L2Line → Bool) (pa : Nat) : Option (Nat × Nat × List L2Line) :=
  let ws := x.ways pa
  match ws.find? (fun w => w.2.2.isEmpty) with
  | some w => some w
  | none =>
    let ws := ws.filter (fun w => !w.2.2.any pin)
    (x.lines.find? (fun y => ws.any (fun w => w.2.2.contains y))).bind (fun y => ws.find? (fun w => w.2.2.contains y))
/-- A sector comes in at its line's new position, with its dirty offsets; a line that is not there takes a way, as the least
or the most recently used of its set. None: every way is pinned, and the request waits (R281, R283, R287). -/
def VCache.fill (x : VCache) (pin : L2Line → Bool) (pa : Nat) (wr : List Nat) (least : Bool) : Option VCache :=
  match x.lines.find? (fun y => !y.old && y.tag pa) with
  | some y => some { x with lines := x.lines.filter (· != y) ++ [y.fill pa wr] }
  | none => (x.victim pin pa).map (fun (h, w, out) =>
    let y := ({ line := pa >>> (7 + vcLsz x.recd), lsz := vcLsz x.recd, share := h, way := w } : L2Line).fill pa wr
    let rest := x.lines.filter (fun l => !out.contains l)
    { x with lines := if least then y :: rest else rest ++ [y] })
/-- The move step: a line leaves its old position for its new one, sector by sector with its dirty bytes (R283). -/
def VCache.moveLine (x : VCache) (pin : L2Line → Bool) (l : L2Line) : Option VCache :=
  l.sectors.foldlM (fun (x : VCache) k => x.fill pin (l.pa + 128 * k) ((l.dirty.filter (fun o => o / 128 == k)).map (· % 128)) false)
    { x with lines := x.lines.filter (· != l) }
/-- An access at the home to a 128-byte sector: a read, or a write of these offsets. A line found at its old position, whichever
of its sectors are filled, moves first, unless a job pins it or it cannot be read: it then stays the one position of its
physical line, and a missing sector fills there; a write that misses allocates under wpol 0 alone; a fill enters as the least
recently used line under repl 1 or for a load that bypasses (R274, R281, R283, R287, R288). -/
def VCache.touch (x : VCache) (pin bad : L2Line → Bool) (pa : Nat) (wr : List Nat) (nt : Bool) : Option VCache :=
  if x.state = .undefined ∨ x.state = .releasing ∨ x.shares = [] then some x else
  let d := if vcWpol x.recd = 2 then [] else wr
  match x.lines.find? (fun l => l.old && l.tag pa) with
  | some l =>
    if pin l || bad l then some { x with lines := x.lines.filter (· != l) ++ [l.fill pa d] }
    else (x.moveLine pin l).bind (fun x => x.fill pin pa d false)
  | none =>
    if x.lines.any (fun l => !l.old && l.tag pa) then x.fill pin pa d false
    else if !wr.isEmpty && vcWpol x.recd != 0 then some x
    else x.fill pin pa d (nt || vcRepl x.recd == 1)
/-- The share that holds the line of an address, or will receive it on fill (R32, R280, R283). -/
def VCache.shareOf (x : VCache) (pin : L2Line → Bool) (pa : Nat) : Nat :=
  match x.lines.find? (fun l => l.old && l.tag pa) with
  | some l => l.share
  | none =>
    match x.lines.find? (fun l => !l.old && l.tag pa) with
    | some l => l.share
    | none => ((x.victim pin pa).map (·.1)).getD ((linePlace x.recd x.shares pa).2.headD 0)

def spansOf (ias : List Nat) : List (Nat × Nat) := ias.map (fun a => (a, a))
def overlaps (lo hi : Nat) (spans : List (Nat × Nat)) : Bool := spans.any (fun x => x.1 ≤ hi && lo ≤ x.2)

/-- A line is pinned: an engine job in flight has an interval in it (R287), or an atomic that has read has still to write it, which
holds its line as one operation would (R156, R286). -/
def State.linePinned (s : State) (c : Nat) (l : L2Line) : Bool :=
  if s.halves.any (fun h => h.ctx == c && h.sq.isNone && h.bytes.any (fun e => l.tag (s.paOf c e.1))) then true else
  let js := (s.ctx c).jobs.filter (fun j => !j.2.retired)
  if js.isEmpty then false else
  (s.ctx c).trans.leaves.any (fun (L, p, e) => decide (pePa e ≤ l.pa) && decide (l.pa < pePa e + pageSize L) &&
    (let a := p <<< levelShift L + (l.pa - pePa e)
     js.any (fun j => j.2.ivals.any (fun i => i.lvl == .g && overlaps a (a + l.bytes - 1) i.spans))))
/-- Physical addresses whose bytes cannot be read: those that are uncorrectable, and those of a 64-byte burst with two wrong symbols
(R151, R393). -/
def State.lostPas (s : State) : List Nat :=
  s.uncorr ++ s.dramSyms.filter (fun a => s.dramSyms.any (fun b => a != b && a / 64 == b / 64))
def State.lostPa (s : State) (pa : Nat) : Bool :=
  s.uncorr.contains pa || (!s.dramSyms.isEmpty && decide (2 ≤ ((dedup s.dramSyms).filter (fun a => a / 64 == pa / 64)).length))
/-- A 128-byte sector is read from memory: one wrong symbol of a burst is corrected, counted and logged (R393 to R395;
notes/assumptions/111.md). -/
def State.correctDram (s : State) (c pa : Nat) : State :=
  (s.dramSyms.filter (fun a => a / 128 == pa / 128 && !s.lostPa a)).foldl (fun s a => (s.count 0 1).logError 7 0 c (dramLoc a) a) s

/-- A line holds an uncorrectable byte: the walker leaves it, and the change stops (R288). -/
def State.lineBad (s : State) (l : L2Line) : Bool := s.lostPas.any (fun a => l.pa ≤ a && decide (a < l.pa + l.bytes))

/-- An access reaches the home of a sector; none while it has to wait there (R287). -/
def State.touchL2 (s : State) (c vcn pa : Nat) (wr : List Nat) (nt : Bool) : Option State :=
  ((s.vcOf c vcn).touch (s.linePinned c) s.lineBad pa wr nt).map (fun x => s.modVc c vcn (fun _ => x))

/-- The fault code of a request that waits at the home, for a way (R287) or for a checkpoint copy (R380): no fault of R314. -/
def l2Full (ia : Nat) : PFault := ⟨0, 0, 0, ia⟩
def PFault.waits (f : PFault) : Bool := f.cause == 0

/-- The bytes of a slot's brine region that software must leave alone: from the open on those of its descriptor, and of a
free slot those of its last open (R258): first byte and 4-KiB units. -/
def Slot.region (x : Slot) : Nat × Nat :=
  if x.state = .free then x.prevBrine.getD (0, 0) else (bits x.desc.toNat 192 57, bits x.desc.toNat 256 32)

/-- The physical stretches under stretches of intermediate addresses, first and last bytes. -/
def State.physSpans (s : State) (c : Nat) (spans : List (Nat × Nat)) : List (Nat × Nat) :=
  (s.ctx c).trans.leaves.flatMap (fun (L, p, e) =>
    let a := p <<< levelShift L
    spans.filterMap (fun x =>
      let lo := max a x.1
      let hi := min (a + pageSize L - 1) x.2
      if lo ≤ hi then some (pePa e + (lo - a), pePa e + (hi - a)) else none))

/-- Do stretches of intermediate addresses hold a byte in common? Two pages with one frame are one place (R289). -/
def State.spansMeet (s : State) (c : Nat) (xs ys : List (Nat × Nat)) : Bool :=
  xs.any (fun x => overlaps x.1 x.2 ys) ||
    (!xs.isEmpty && !ys.isEmpty && (let p := s.physSpans c ys; (s.physSpans c xs).any (fun x => overlaps x.1 x.2 p)))

/-- Software touches stretches of intermediate addresses, first and last bytes: the slots of the context whose brine region
meets them may take any values (R258). -/
def State.taint (s : State) (c : Nat) (spans : List (Nat × Nat)) : State :=
  if (s.ctx c).slots.all (fun e => e.2.region.2 == 0) then s else
  let hit (x : Slot) : Bool := decide (0 < x.region.2) &&
    s.spansMeet c (((mapSpans (s.ctx c).trans.ranges x.region.1 (4096 * x.region.2) false true).getD []).map (fun y => (y.ia, y.ia + y.len - 1))) spans
  s.modCtx c (fun z => { z with slots := z.slots.map (fun e => (e.1, { e.2 with tainted := e.2.tainted || hit e.2 })) })

def State.homeByte (s : State) (c ia : Nat) : Byte := if cfgIa ≤ ia then s.cfgByte (ia - cfgIa) else s.mem.byte (s.paOf c ia)
/-- An uncorrectable byte among these (R151). -/
def State.badByte (s : State) (c : Nat) (ias : List Nat) : Option Nat := ias.find? (fun ia => decide (ia < cfgIa) && s.lostPa (s.paOf c ia))

/-! ## On-chip levels -/

def State.chipByte (s : State) (c v : Nat) (lvl : Lvl) (a : Nat) : Byte :=
  match lvl with
  | .c => (s.core c v).scratch.byte a
  | .q => (s.square (squareOf (s.phys c v))).sqm.byte a
  | .m => (s.die (bits a 25 2)).market.byte (bits a 0 25)
  | _ => 0#8
def State.chipRead (s : State) (c v : Nat) (lvl : Lvl) (a n : Nat) : List Byte := (List.range n).map (fun i => s.chipByte c v lvl (a + i))
/-- The place of a byte as an access of a core names it. -/
def State.chipAt (s : State) (c v : Nat) (l : Lvl) (a : Nat) : ChipAt :=
  match l with
  | .q => ⟨.q, (squareOf (s.phys c v), 0), a⟩
  | .m => ⟨.m, (bits a 25 2, 0), bits a 0 25⟩
  | l => ⟨l, (c, v), a⟩
/-- The data symbol of an on-chip byte: its group, bank and codeword, the words lying across the banks (R270, R390); L1 has none. -/
def State.symOf (s : State) (x : ChipAt) : Option SymAt :=
  let core (u : BankUnit) (p g b w : Nat) : Option SymAt := some ⟨⟨u, p, g⟩, b, w⟩
  match x.lvl with
  | .p => core .lanePrivate (s.phys x.owner.1 x.owner.2) 0 (x.addr / 512 % 16) (x.addr / 8192 * 512 + x.addr % 512)
  | .c => core .scratchpad (s.phys x.owner.1 x.owner.2) (x.addr / 4 % 64 / 16) (x.addr / 4 % 16) (x.addr / 256 * 4 + x.addr % 4)
  | .q => core .squareMem (16 * x.owner.1 + x.addr / 2 ^ 18) 0 (x.addr / 4 % 16) (x.addr % 2 ^ 18 / 64 * 4 + x.addr % 4)
  | .m => core .market x.owner.1 (x.addr / 64 % 128 / 16) (x.addr / 64 % 16) (x.addr / 8192 * 64 + x.addr % 64)
  | .g => none
/-- The banks of a group whose symbols of a codeword are erasures: those marked failed, but for the one that the spare has replaced,
or has been rebuilt for so far (R390, R391). -/
def BankSt.erased (b : BankSt) (word : Nat) : List Nat :=
  b.failed.filter (fun k => decide (k < 18) && b.replaced != some k && !(match b.rebuilding with
    | some (k', row) => k' == k && decide (word < row)
    | none => false))
/-- The wrong symbols of a codeword at positions that are not known: of banks that take part in it. -/
def State.wrongSyms (s : State) (g : BankGroup) (word : Nat) : List SymAt :=
  let b := (look s.hub.ras.banks g).getD {}
  let out := b.erased word
  s.badSyms.filter (fun y => y.grp == g && y.word == word && !out.contains y.bank && b.replaced != some y.bank && (decide (y.bank < 18) || b.replaced.isSome))
/-- More is wrong in a codeword than its two check symbols correct (R390). -/
def State.wordLost (s : State) (g : BankGroup) (word : Nat) : Bool :=
  decide (2 < 2 * (s.wrongSyms g word).length + (((look s.hub.ras.banks g).getD {}).erased word).length)
/-- The first uncorrectable byte of n from a place on: how far it lies from it (R151, R390). -/
def State.badAt (s : State) (x : ChipAt) (n : Nat) : Option Nat :=
  if s.badChip.isEmpty && s.badSyms.isEmpty then none else (List.range n).find? (fun k =>
    let y : ChipAt := { x with addr := x.addr + k }
    s.badChip.contains y || (!s.badSyms.isEmpty && (match s.symOf y with
      | some z => s.wordLost z.grp z.word
      | none => false)))
/-- Bytes that are written can be read again: their symbols and the check symbols of their codewords are written. -/
def State.clearBad (s : State) (x : ChipAt) (n : Nat) : State :=
  if s.badChip.isEmpty && s.badSyms.isEmpty then s else
  let syms := (List.range n).filterMap (fun k => s.symOf { x with addr := x.addr + k })
  { s with
    badChip := s.badChip.filter (fun y => !(y.lvl == x.lvl && y.owner == x.owner && decide (x.addr ≤ y.addr) && decide (y.addr < x.addr + n)))
    badSyms := s.badSyms.filter (fun y => !(syms.any (fun z => z.grp == y.grp && z.word == y.word && (z.bank == y.bank || y.bank == 16 || y.bank == 17)))) }
/-- A symbol of a bank is corrected (R390, R391): it is counted, and with more than 64 in a millisecond the bank is marked failed. -/
def State.correctSym (s : State) (y : SymAt) : State :=
  let b := (look s.hub.ras.banks y.grp).getD {}
  let now := Config.nanosAt s.aux.time
  let past := ((look b.corrected y.bank).getD []).filter (fun t => decide (now ≤ t + 1000000)) ++ [now]
  let s := s.count 0 1
  let s : State := { s with hub := { s.hub with ras := { s.hub.ras with banks := put s.hub.ras.banks y.grp { b with corrected := put b.corrected y.bank past } } } }
  if 64 < past.length ∧ !b.failed.contains y.bank then s.post (.bankMarkFailed y.grp y.bank) else s
/-- On-chip bytes have been read: the wrong symbols of their codewords were corrected. -/
def State.noteRead (s : State) (xs : List ChipAt) : State :=
  if s.badSyms.isEmpty then s else
  (dedup ((xs.filterMap s.symOf).map (fun z => (z.grp, z.word)))).foldl (fun s k => (s.wrongSyms k.1 k.2).foldl State.correctSym s) s
def State.noteReads (s : State) (x : ChipAt) (n : Nat) : State :=
  if s.badSyms.isEmpty then s else s.noteRead ((List.range n).map (fun k => { x with addr := x.addr + k }))

/-- loc of R395 for an on-chip byte: unit, group, bank and physical core (R270, R390). -/
def State.chipLoc (s : State) (x : ChipAt) : Nat :=
  let core (p unit g b : Nat) : Nat := dieOf p * 2 ^ 28 + unit * 2 ^ 24 + g * 2 ^ 18 + b * 2 ^ 13 + p
  match x.lvl with
  | .p => core (s.phys x.owner.1 x.owner.2) 1 0 (x.addr / 512 % 16)
  | .c => core (s.phys x.owner.1 x.owner.2) 2 (x.addr / 4 % 64 / 16) (x.addr / 4 % 16)
  | .q => core (16 * x.owner.1 + x.addr / 2 ^ 18) 3 0 (x.addr / 4 % 16)
  | .g => core (s.phys x.owner.1 x.owner.2) 7 0 0
  | _ => x.owner.1 * 2 ^ 28 + 4 * 2 ^ 24 + (x.addr / 64 % 128 / 16) * 2 ^ 18 + (x.addr / 64 % 16) * 2 ^ 13

/-- The machine check of an uncorrectable byte on chip; of a dirty byte of L1 its log entry has kind 0x08 (R151, R395). -/
def State.chipCheck (s : State) (x : ChipAt) (a : Nat) : Trap := { code := .machineCheck, info := a, log := some (if x.lvl = .g then 8 else 4, s.chipLoc x, x.addr) }

/-- Bytes take effect in an on-chip memory. -/
def State.chipPut (s : State) (c v : Nat) (lvl : Lvl) (a : Nat) (bs : List Byte) : State :=
  let s := s.clearBad (s.chipAt c v lvl a) bs.length
  match lvl with
  | .c => s.modCore c v (fun x => { x with scratch := x.scratch.writeBytes a bs })
  | .q => s.modSquare (squareOf (s.phys c v)) (fun x => { x with sqm := x.sqm.writeBytes a bs })
  | .m => s.modDie (bits a 25 2) (fun x => { x with market := x.market.writeBytes (bits a 0 25) bs })
  | _ => s

/-- The level codes of R216 and R199. -/
def Lvl.lev : Lvl → Nat
  | .g => 0 | .m => 1 | .q => 2 | .c => 3 | .p => 0
def lvlOf (n : Nat) : Lvl := if n = 0 then .g else if n = 1 then .m else if n = 2 then .q else .c

/-- The private allotment p of a thread's role (R27, R225). -/
def State.allotP (s : State) (t : Thread) : Nat :=
  match s.launchOf t with
  | none => 0
  | some l => 16 * bits l.recd.toNat (640 + 128 * t.role + 48) 6

/-- The bounds checks of R147 for an on-chip level: does the access lie in memory that it may touch? -/
def State.chipOk (s : State) (c v : Nat) (lvl : Lvl) (a n : Nat) : Bool :=
  match lvl with
  | .c => decide (a + n ≤ 2 ^ 20)
  | .q =>
    let q := squareOf (s.phys c v)
    decide (a + n ≤ 2 ^ 22) && s.corePresent (q * 16 + bits a 18 4) &&
      (s.square q).allocs.any (fun x => x.ctx == c && decide (x.base ≤ a) && decide (a + n ≤ x.base + x.len))
  | .m =>
    decide (a + n ≤ 2 ^ 27) && s.diePresent (bits a 25 2) &&
      (match look (s.ctx c).trans.market (bits a 25 2) with
       | some (b, z) => decide (b ≤ bits a 0 25) && decide (bits a 0 25 + n ≤ b + z)
       | none => false)
  | _ => false

/-! ## Watchpoints (R216, R382) -/

/-- Who makes an access, as a hit record names it. -/
structure Who where
  kind : AccKind
  vc : Nat := 0
  line : Nat := 0
  lanes : List Nat := []
  pos : Pos := ⟨0, false⟩
  /-- the square whose memory an engine reads or writes -/
  sq : Option Nat := none
deriving DecidableEq, Repr

/-- The watched bytes as they stand; those of square memory in square q. -/
def State.watched (s : State) (c v q : Nat) (w : Watch) : DWord :=
  let n := 2 ^ w.len
  let bs := if w.lev = 0 then (List.range n).map (fun i => s.homeByte c (w.addr + i))
    else if w.lev = 2 then (List.range n).map (fun i => (s.square q).sqm.byte (w.addr + i))
    else s.chipRead c v (lvlOf w.lev) w.addr n
  BitVec.ofNat 64 (natOfBytes bs)

/-- Instructions that the context's lines have issued on the cores of a square. -/
def State.squareCounts (s : State) (c q : Nat) : List (Nat × Nat × Nat) :=
  (s.ctx c).place.flatMap (fun e => if squareOf e.2 = q then (s.core c e.1).issued.map (fun i => (e.1, i.1, i.2)) else [])

/-- The watchpoints that an access of a core, or of an engine to square `sq`, matches: for each square those of its debug unit. -/
def State.matching (s : State) (c v : Nat) (sq : Option Nat) (lvl : Lvl) (spans : List (Nat × Nat)) (rd wr : Bool) : List (Nat × List (Nat × Watch)) :=
  s.squares.filterMap (fun e =>
    let ok (w : Watch) := w.ctx == c && w.lev == lvl.lev && ((wr && w.kind != 1) || (rd && w.kind != 0)) &&
      overlaps w.addr (w.addr + 2 ^ w.len - 1) spans && (decide (w.lev < 2) || sq.getD (squareOf (s.phys c v)) == e.1)
    let ws := (List.range 4).filterMap (fun i => match look e.2.watches i with
      | some w => if ok w then some (i, w) else none
      | none => none)
    if ws.isEmpty then none else some (e.1, ws))

/-- Hits of an access that took the machine from s to t: one for each square that has matching watchpoints. -/
def State.observe (t s : State) (c v : Nat) (who : Who) (lvl : Lvl) (spans : List (Nat × Nat)) (rd wr : Bool) : State :=
  (s.matching c v who.sq lvl spans rd wr).foldl (fun t e =>
    t.post (.watchpointHit { sq := e.1, kind := who.kind, lev := lvl.lev, ctx := c, vc := who.vc, line := who.line, lanes := who.lanes, pos := who.pos
                             vals := e.2.map (fun (i, w) => { wp := i, addr := w.shown, len := 2 ^ w.len, old := s.watched c v e.1 w, new := t.watched c v e.1 w })
                             counts := s.squareCounts c e.1 })) t

/-! ## Checkpoint cuts (R212, R378 to R380) -/

def cutTarget (r : BitVec 512) : Nat := bits r.toNat 64 57
def cutKind (r : BitVec 512) : Nat := bits r.toNat 48 2
def cutFull (r : BitVec 512) : Bool := bit r.toNat 51
def cutCover (r : BitVec 512) : Nat := bits r.toNat 32 16
def cutSize (r : BitVec 512) : Nat := bits r.toNat 0 32

/-- The bytes of a granule at its home, which a checkpoint copy reads past L2 (notes/assumptions/89.md), whatever its page
permits (notes/assumptions/107.md). -/
def State.granuleCells (s : State) (c g : Nat) : Except PFault Memory :=
  (s.walk c (g * 2 ^ 14)).map (fun le => memSlice s.mem (leafPa le.1 le.2 (g * 2 ^ 14)) (2 ^ 14))

/-- Does a granule hold an uncorrectable byte? -/
def State.granuleBad (s : State) (c g : Nat) : Bool :=
  let pa := s.paOf c (g * 2 ^ 14)
  s.lostPas.any (fun a => pa ≤ a && decide (a < pa + 2 ^ 14))

/-- The intermediate address of the first such byte. -/
def State.granuleBadAt (s : State) (c g : Nat) : Nat :=
  let pa := s.paOf c (g * 2 ^ 14)
  match s.lostPas.find? (fun a => pa ≤ a && decide (a < pa + 2 ^ 14)) with
  | some a => g * 2 ^ 14 + (a - pa)
  | none => 0

/-- The error report of an uncorrectable byte that an agent of the device meets, without a trap (R395). -/
def State.reportBad (s : State) (c ia : Nat) : State := s.reportError 4 0 c (dramLoc (s.paOf c ia)) (s.paOf c ia)

/-- Where 4-KiB piece j of the k-th granule goes in a kind 0 target: its physical address (R378). -/
def State.targetPiece (s : State) (c : Nat) (ranges : Tbl Nat (BitVec 256)) (tgt k j : Nat) : Except PFault (Nat × Nat) :=
  match mapSpans ranges (tgt + k * 2 ^ 14 + j * 2 ^ 12) (2 ^ 12) false true with
  | some (sp :: _) =>
    (s.checkPage c sp.ia false true).map (fun le => (leafPa le.1 le.2 sp.ia, sp.ia))
  | _ => .error ⟨1, 3, 0, 0⟩

/-- Writing a granule's contents to a kind 0 target: an engine write (R216, R258, R377). A piece that meets an atomic between its
read and its write waits for it (R155). -/
def State.writeTarget (s : State) (c : Nat) (ranges : Tbl Nat (BitVec 256)) (tgt k : Nat) (cells : Memory) : Except PFault State :=
  [0, 1, 2, 3].foldlM (fun s j =>
    match s.targetPiece c ranges tgt k j with
    | .error f => .error f
    | .ok (pa, ia) =>
      let span := (ia, ia + 2 ^ 12 - 1)
      if s.halves.any (fun h => h.ctx == c && h.sq.isNone && s.spansMeet c (spansOf (h.bytes.map (·.1))) [span]) then .error (l2Full ia) else
      let t : State := { s with
        mem := memPaste s.mem pa (2 ^ 12) (memSlice cells (j * 2 ^ 12) (2 ^ 12))
        uncorr := s.uncorr.filter (fun a => !(decide (pa ≤ a) && decide (a < pa + 2 ^ 12)))
        dramSyms := s.dramSyms.filter (fun a => !(decide (pa ≤ a) && decide (a < pa + 2 ^ 12))) }
      let t := ((t.markLeaf c ia true).taint c [span]).modCtx c (fun x => { x with ckpt := { x.ckpt with dirty := addNat x.ckpt.dirty (granuleOf ia) } })
      .ok (t.observe s c 0 { kind := .engWrite } .g [span] false true)) s

/-- Position of a granule in a cut. -/
def indexOf (l : List (Nat × Nat)) (g : Nat) : Nat := l.findIdx (fun e => e.2 == g)

/-- Copying one granule of a cut out: to the target, or as two CKDATA frames (R378 to R380). The engine reads it (R216, R310). -/
def State.copyOut (s : State) (c : Nat) (j : Job) (jn : Nat) (r : BitVec 512) (all : List (Nat × Nat)) (g : Nat) (cells : Memory) :
    Except PFault State :=
  let k := indexOf all g
  let s := (s.markLeaf c (g * 2 ^ 14) false).observe s c 0 { kind := .engRead } .g [(g * 2 ^ 14, g * 2 ^ 14 + 2 ^ 14 - 1)] true false
  if cutKind r = 0 then
    if cutSize r < 4 * (k + 1) then .ok s else s.writeTarget c j.ranges (cutTarget r) k cells
  else
    let va := (all.getD k (0, 0)).1
    let half (h : Nat) := Frame.ckdata (s.sessionOf c) (bits (cutTarget r) 0 16) jn va h (Memory.readBytes (memSlice cells (h * 8192) 8192) 0 8192)
    .ok ((s.sendSess (s.sessionOf c) (half 0)).sendSess (s.sessionOf c) (half 1))

/-- The cut that a context is copying (R212). -/
def State.activeCut (s : State) (c : Nat) : Option (Nat × Job) :=
  match (s.ctx c).ckpt.cut with
  | none => none
  | some n => (look (s.ctx c).jobs n).map (fun j => (n, j))

def State.modJob (s : State) (c n : Nat) (f : Job → Job) : State :=
  s.modCtx c (fun x => match look x.jobs n with
    | none => x
    | some j => { x with jobs := put x.jobs n (f j) })

/-- The engine copies a granule of a context's cut at once, ahead of its order. None while the target cannot take it. -/
def State.cowOne (s : State) (c g : Nat) : Option State :=
  match s.activeCut c with
  | none => some s
  | some (n, j) =>
    match j.kind with
    | .cut r all todo =>
      if !(todo.any (fun e => e.2 == g)) then some s else
      match s.granuleCells c g with
      | .error _ => some s
      | .ok cells =>
        if s.granuleBad c g then
          some ((s.reportBad c (s.granuleBadAt c g)).modJob c n (fun j => { j with
            code := 3, badAddr := s.granuleBadAt c g, kind := .cut r all (todo.takeWhile (fun e => e.2 != g)) }))
        else
        match s.copyOut c j n r all g cells with
        | .ok s => some (s.modJob c n (fun j => { j with kind := .cut r all (todo.filter (fun e => e.2 != g)) }))
        | .error _ => none
    | _ => some s
/-- Two granules of a context are one: two pages map their frame (R289). -/
def State.sameGranule (s : State) (c g h : Nat) : Bool :=
  g == h || (g % 2 ^ 4 == h % 2 ^ 4 && (match s.walk c (g * 2 ^ 14), s.walk c (h * 2 ^ 14) with
    | .ok (L, e), .ok (M, f) => leafPa L e (g * 2 ^ 14) == leafPa M f (h * 2 ^ 14)
    | _, _ => false))
/-- Copy-on-write: before a write to a granule that a cut has still to copy, under whatever address, the engine copies its old
contents at once (R212, R380). None while the target cannot take them: the write stalls. -/
def State.cowStep (s : State) (c g : Nat) : Option State :=
  match s.activeCut c with
  | some (_, { kind := .cut _ _ todo, .. }) => ((todo.map (·.2)).filter (s.sameGranule c g)).foldlM (fun s h => State.cowOne s c h) s
  | _ => some s
/-- The copy, where the target takes it. -/
def State.cowCopy (s : State) (c g : Nat) : State := (s.cowStep c g).getD s

/-! ## Writing at the homes -/

/-- Bytes take effect at their homes: every page has been checked, every line has found its way in L2, and a checkpoint copy has
been made (R287, R290, R377, R380). -/
def State.putBytes (s : State) (c : Nat) (l : List (Nat × Byte)) : State :=
  let gs := dedup (l.map (fun e => granuleOf e.1))
  let s := gs.foldl (fun s g => s.cowCopy c g) s
  let s := (dedup (l.map (fun e => e.1 / 128 * 128))).foldl (fun s ia =>
    match s.walk c ia with
    | .ok (L, e) =>
      let s := s.markLeaf c ia true
      (s.touchL2 c (peVc e) (leafPa L e ia) ((l.filter (fun e => e.1 / 128 * 128 == ia)).map (·.1 - ia)) false).getD s
    | .error _ => s) s
  let s := l.foldl (fun s e =>
    let pa := s.paOf c e.1
    { s with mem := s.mem.setByte pa e.2, uncorr := s.uncorr.filter (· != pa), dramSyms := s.dramSyms.filter (· != pa) }) s
  s.modCtx c (fun x => { x with ckpt := { x.ckpt with dirty := gs.foldl addNat x.ckpt.dirty } })

def lineOf (ia : Nat) : Nat := ia / 128 * 128

/-! ## Atomics between their read and their write (R156, R301) -/

/-- The write of such an atomic: it takes effect at its home. -/
def State.performHalf (s : State) (h : HalfAtom) : State :=
  let who : Who := { kind := .atomic, vc := h.vc, line := h.line, lanes := [h.lane], pos := h.pos }
  let as := h.bytes.map (·.1)
  match h.sq with
  | none => ((s.putBytes h.ctx h.bytes).taint h.ctx (spansOf as)).observe s h.ctx h.vc who .g (spansOf as) false true
  | some _ => (s.chipPut h.ctx h.vc .q (as.headD 0) (h.bytes.map (·.2))).observe s h.ctx h.vc who .q (spansOf as) false true
/-- The writes of the atomics chosen, the oldest first. -/
def State.settleHalves (s : State) (pick : HalfAtom → Bool) : State :=
  let mine := s.halves.filter pick
  if mine.isEmpty then s else
  mine.foldl (fun s h => s.performHalf h) { s with halves := s.halves.filter (fun h => !pick h) }
/-- Does such an atomic write one of these bytes of global memory, by physical address, or of square memory? -/
def State.halfMeets (s : State) (c : Nat) (ias : List Nat) (h : HalfAtom) : Bool :=
  h.ctx == c && h.sq.isNone && h.bytes.any (fun e => ias.any (fun a => e.1 == a || (e.1 % 2 ^ 18 == a % 2 ^ 18 && s.paOf c e.1 == s.paOf c a)))
def halfIn (q a n : Nat) (h : HalfAtom) : Bool := h.sq == some q && h.bytes.any (fun e => decide (a ≤ e.1) && decide (e.1 < a + n))
/-- A core's own: every access of it to the bytes finds them written (R148, R291), and so does all that follows a release. -/
def ofCore (c v : Nat) (h : HalfAtom) : Bool := h.ctx == c && h.vc == v
/-- Is the atomic mutually atomic with one of core v under vmask (R156)? -/
def mutualWith (c v vmask : Nat) (h : HalfAtom) : Bool := h.ctx == c && h.vmask.testBit v && vmask.testBit h.vc

/-- A write that is no atomic finds no atomic between its read and its write (R155). -/
def State.putIa (s : State) (c : Nat) (l : List (Nat × Byte)) : State :=
  (s.settleHalves (s.halfMeets c (l.map (·.1)))).putBytes c l
/-- The same for a write of software or of an engine, which a slot's brine region does not bear (R258). -/
def State.writeIa (s : State) (c : Nat) (l : List (Nat × Byte)) : State := (s.putIa c l).taint c (l.map (fun e => (e.1, e.1)))
def State.chipWrite (s : State) (c v : Nat) (lvl : Lvl) (a : Nat) (bs : List Byte) : State :=
  (if lvl = .q then s.settleHalves (halfIn (squareOf (s.phys c v)) a bs.length) else s).chipPut c v lvl a bs

/-! ## Bytes held at a gateway, and translation (R310 to R314, R401) -/

/-- The class of a line whose page had no entry when it was stored to: it counts as every class (notes/assumptions/21.md). -/
def anyClass : Nat := 8
def inClass (cls : Nat → Bool) (k : Nat) : Bool := k == anyClass || cls k

/-- Two lines of a context are one: two pages map their frame (R289). -/
def State.sameLine (s : State) (c la lb : Nat) : Bool :=
  la == lb || (la % 2 ^ 18 == lb % 2 ^ 18 && (match s.walk c la, s.walk c lb with
    | .ok (L, e), .ok (M, f) => leafPa L e la == leafPa M f lb
    | _, _ => false))
def heldOf (s : State) (c v la : Nat) (w : WbHeld) : Bool := w.ctx == c && w.vc == v && s.sameLine c w.ia la
/-- The byte at its home, as the core sees it: its own held byte if it has one (R148, R401). -/
def State.viewByte (s : State) (c v ia : Nat) : Byte :=
  match s.wbHeld.reverse.findSome? (fun w => if heldOf s c v (lineOf ia) w then look w.bytes (w.ia + ia % 128) else none) with
  | some b => b
  | none => s.homeByte c ia

/-- Translation at a gateway or engine port, with the marks it leaves (R310, R313, R314), and the line's way in L2: a read
takes it now, and a write that does not read must find one when it is performed (R281, R287). Before a write the checkpoint
engine copies the granule, or the write stalls (R380). -/
def State.openPage (s : State) (c ia : Nat) (rd wr : Bool) (nt : Bool := false) : Except PFault State :=
  match s.checkPage c ia rd wr with
  | .error f => .error f
  | .ok (L, e) =>
    if cfgIa ≤ ia then .ok s else
    match s.touchL2 c (peVc e) (leafPa L e ia) (if rd then [] else [ia % 128]) nt with
    | none => .error (l2Full ia)
    | some t =>
      let t := ((if rd then t.correctDram c (leafPa L e ia) else s)).markLeaf c ia false
      match if wr then t.cowStep c (granuleOf ia) else some t with
      | none => .error (l2Full ia)
      | some t => .ok t

/-- Every page that the bytes touch. -/
def State.openPages (s : State) (c : Nat) (ias : List Nat) (rd wr : Bool) (nt : Bool := false) : Except PFault State :=
  (dedup (ias.map (fun a => a / 128 * 128))).foldlM (fun s ia =>
    s.openPage c (((ias.find? (fun a => a / 128 * 128 == ia)).getD ia)) rd wr nt) s

/-- Stored bytes of a core take effect at their homes, where each store that wrote some of them is an access (R216, R388). -/
def State.writeStored (s : State) (c v la : Nat) (bytes : List (Nat × Byte)) (stores : Tbl Nat Writer) : State :=
  let t := s.writeIa c bytes
  let mine (w : Option Writer) : List Nat := (bytes.map (·.1)).filter (fun a => look stores (a - la) == w)
  (dedup (bytes.map (fun e => look stores (e.1 - la)))).foldl (fun t w =>
    let who : Who := match w with
      | some w => { kind := if w.atomic then .atomic else .store, vc := v, line := w.line, lanes := [w.lane], pos := w.pos }
      | none => { kind := .store, vc := v }
    t.observe s c v who .g (spansOf (mine w)) false true) t

/-- The write-back bytes held at a gateway that a choice names are performed where their page translates and their home takes
them (R287, R380, R401). -/
def State.flushHeld (s : State) (pick : WbHeld → Bool) : State :=
  let pick (w : WbHeld) : Bool := !w.so && pick w
  let mine := s.wbHeld.filter pick
  if mine.isEmpty then s else
  mine.foldl (fun s w => match s.openPage w.ctx w.ia false true with
    | .ok s => s.writeStored w.ctx w.vc w.ia w.bytes w.stores
    | .error _ => { s with wbHeld := s.wbHeld ++ [w] }) { s with wbHeld := s.wbHeld.filter (fun w => !pick w) }

/-- A core's own held bytes of the lines that it accesses: its later accesses find them performed, if their page
translates (notes/assumptions/33.md). -/
def State.flushOwn (s : State) (c v : Nat) (las : List Nat) : State := s.flushHeld (fun w => las.any (fun la => heldOf s c v la w))

/-! ## L1 -/

def State.epochOf (s : State) (c v cls : Nat) : Nat := (look (s.core c v).epochs cls).getD 0
def State.l1Find (s : State) (c v la : Nat) : Option L1Line := (s.core c v).l1.find? (fun x => x.ia == la)

/-- A line whose clean bytes are dropped if its epoch is past (R158). -/
def State.fresh (s : State) (c v : Nat) (x : L1Line) : L1Line :=
  if x.epoch = s.epochOf c v x.cls then x
  else { x with bytes := x.bytes.filter (fun b => b.2.2), epoch := s.epochOf c v x.cls }

/-- The byte of an intermediate address that L1 can supply. -/
def State.l1Byte (s : State) (c v ia : Nat) : Option Byte :=
  match s.l1Find c v (lineOf ia) with
  | none => none
  | some x => (look (s.fresh c v x).bytes (ia % 128)).map (·.1)

/-- The virtual cache id of the page that maps a line, if one does (R273). -/
def State.pageClass (s : State) (c ia : Nat) : Nat :=
  match s.walk c ia with
  | .ok (_, e) => peVc e
  | .error _ => anyClass

/-- A write-back of the core to the same page has faulted for the same cause, and its record is not yet answered. -/
def State.wbNoted (s : State) (n : FaultNote) : Bool :=
  let same (m : FaultNote) : Bool := m.lanes.isEmpty && m.job.isNone && m.ctx == n.ctx && m.vc == n.vc && m.cause == n.cause &&
    m.lvl == n.lvl && m.ia >>> faultShift m.cause m.lvl == n.ia >>> faultShift n.cause n.lvl
  s.agenda.any (fun i => match i with
    | .writebackFault m => same m
    | _ => false) || (s.die n.die).faults.any (fun r => same r.note) || (s.die n.die).heldFaults.any same

/-- Lines leave L1. -/
def State.l1Remove (s : State) (c v : Nat) (p : L1Line → Bool) : State :=
  s.modCore c v (fun y => { y with
    l1 := y.l1.filter (fun x => !p x), l1Used := y.l1Used.filter (fun a => y.l1.any (fun x => x.ia == a && !p x)) })
/-- A line is the most recently used of L1 (R273). -/
def State.l1Touch (s : State) (c v la : Nat) : State :=
  s.modCore c v (fun y => { y with l1Used := y.l1Used.filter (· != la) ++ [la] })

/-- A dirty byte of L1 has a parity error: an access of level g in `badChip` (R393). -/
def State.parityBad (s : State) (c v ia : Nat) : Bool :=
  s.badChip.contains ⟨.g, (c, v), ia⟩ && (match s.l1Find c v (lineOf ia) with
    | some x => ((look x.bytes (ia % 128)).map (·.2)).getD false
    | none => false)

/-- Dirty bytes of a line go home after the core's older bytes of it, or are held at the gateway with one record for their
page if it faults (R291, R401). A byte with a parity error is not delivered: it stays as it is, and the error is logged (R393;
notes/assumptions/108.md). -/
def State.writeBack (s : State) (c v : Nat) (la : Nat) : State :=
  match s.l1Find c v la with
  | none => s
  | some x =>
    let dirty := (x.bytes.filter (fun b => b.2.2)).map (fun b => (la + b.1, b.2.1))
    let bad := if s.badChip.isEmpty then [] else dirty.filter (fun b => s.parityBad c v b.1)
    let s := bad.foldl (fun s b => s.reportError 8 0 c (s.chipLoc ⟨.g, (c, v), b.1⟩) (s.paOf c b.1)) s
    let d := dirty.filter (fun b => !bad.contains b)
    match d with
    | [] => s
    | (a, _) :: _ =>
      let s := s.flushOwn c v [la]
      match s.openPage c a false true with
      | .ok s1 =>
        let s2 := s1.writeStored c v la d x.stores
        let cls := if x.cls = anyClass then s1.pageClass c la else x.cls
        s2.modCore c v (fun y => { y with l1 := y.l1.map (fun z => if z.ia == la then
          { z with cls := cls, epoch := if x.cls = anyClass then s1.epochOf c v cls else z.epoch
                   bytes := x.bytes.map (fun b => (b.1, b.2.1, b.2.2 && bad.any (fun e => e.1 == la + b.1))), stores := [] } else z) })
      | .error f =>
        let s := s.l1Remove c v (fun z => z.ia == la)
        let s : State := { s with wbHeld := s.wbHeld ++ [{ ctx := c, vc := v, ia := la, bytes := d, cls := x.cls, stores := x.stores }] }
        let n : FaultNote := { ctx := c, vc := v, line := 0, die := dieOf (s.phys c v), src := 0, cause := f.cause, kind := 1
                               vcache := f.vcn, lvl := f.lvl, ia := a, va := 0, lanes := [], job := none }
        if f.waits || s.wbNoted n then s else s.post (.writebackFault n)

/-- Write-backs of every dirty line of the classes chosen. -/
def State.writeBackAll (s : State) (c v : Nat) (cls : Nat → Bool) : State :=
  ((s.core c v).l1.filter (fun x => inClass cls x.cls && x.bytes.any (fun b => b.2.2))).foldl (fun s x => s.writeBack c v x.ia) s

/-- The stretches of the context's windows for the host, as intermediate addresses (R374). -/
def State.windowSpans (s : State) (c : Nat) : List Span :=
  s.hub.windows.flatMap (fun w => if w.2.ctx = c then (s.mapVa c w.2.base w.2.size false false).getD [] else [])
/-- A line of the context lies in one of them. -/
def State.inWindows (s : State) (c la : Nat) : Bool :=
  s.spansMeet c [(la, la + 127)] ((s.windowSpans c).map (fun y => (y.ia, y.ia + y.len - 1)))
/-- Dirty lines of a core that lie in a host window of the context. -/
def State.windowLines (s : State) (c v : Nat) : List Nat :=
  ((s.core c v).l1.filter (fun x => x.bytes.any (fun b => b.2.2) && s.inWindows c x.ia)).map (·.ia)

/-- Write-back bytes of the core are held at a gateway that a release of some classes, or one of lines in host windows, has to
see performed: it stalls (R401). -/
def State.wbWaits (s : State) (c v cset : Nat) (windows : Bool) : Bool :=
  s.wbHeld.any (fun w => w.ctx == c && w.vc == v && ((cset != 0 && inClass (fun k => cset.testBit k) w.cls) || (windows && s.inWindows c w.ia)))
/-- The same for a release under a generation; under point 0 it leaves L1 alone (R160). -/
def State.relWaits (s : State) (c v cset point : Nat) : Bool := point != 0 && s.wbWaits c v cset (point == 2)
/-- The classes of cset whose epoch would wrap. -/
def State.wrapping (s : State) (c v cset : Nat) : Nat := laneMask ((List.range 8).filter (fun k => cset.testBit k && s.epochOf c v k == 63))
/-- An acquire's sweep at a wrap waits for the bytes of its classes (R158, R401). -/
def State.acqWaits (s : State) (c v cset point : Nat) : Bool :=
  let w := s.wrapping c v cset
  point != 0 && w != 0 && s.wbWaits c v w false

/-- A line takes its place as the most recently used of its set; a ninth line of the set evicts the one least recently used
(R270, R273). -/
def State.l1Insert (s : State) (c v : Nat) (x : L1Line) : State :=
  let y := s.core c v
  let set := y.l1.filter (fun z => z.ia != x.ia && z.ia / 128 % 128 == x.ia / 128 % 128)
  let s := match decide (8 ≤ set.length), set with
    | true, first :: _ =>
      let victim := (y.l1Used.find? (fun a => set.any (fun z => z.ia == a))).getD first.ia
      (s.writeBack c v victim).l1Remove c v (fun z => z.ia == victim)
    | _, _ => s
  (s.modCore c v (fun y => { y with l1 := y.l1.filter (fun z => z.ia != x.ia) ++ [x] })).l1Touch c v x.ia

/-- A line leaves L1 after its dirty bytes have gone home (R155, R274, R292). -/
def State.l1Drop (s : State) (c v la : Nat) : State :=
  (s.writeBack c v la).l1Remove c v (fun z => z.ia == la)
/-- A core keeps one copy of a line: one that it holds under another intermediate address leaves (R289, R291). -/
def State.dropAliases (s : State) (c v : Nat) (las : List Nat) : State :=
  ((s.core c v).l1.filter (fun x => las.any (fun la => la != x.ia && s.sameLine c x.ia la))).foldl (fun s x => s.l1Drop c v x.ia) s
/-- What a core's access at the home finds done: its own atomics, held bytes and other copies of the whole lines, which a fill
brings in (R148, R291, R301). -/
def State.ownFirst (s : State) (c v : Nat) (ias : List Nat) : State :=
  let las := dedup (ias.map lineOf)
  let mine (h : HalfAtom) : Bool := ofCore c v h && h.sq.isNone && h.bytes.any (fun e => las.any (s.sameLine c (lineOf e.1)))
  (((if s.halves.isEmpty then s else s.settleHalves mine).flushOwn c v las).dropAliases c v las)

/-- Fetching a line from its home, merging the core's own dirty bytes over it (R158, R273). Bytes that are uncorrectable
at the home are not filled, so that each access to them finds them so (R151). -/
def State.l1Fill (s : State) (c v la cls : Nat) : State :=
  let own := match s.l1Find c v la with
    | some x => x.bytes.filter (fun b => b.2.2)
    | none => []
  let bytes := (List.range 128).filterMap (fun i => match look own i with
    | some b => some (i, b)
    | none => if (s.badByte c [la + i]).isSome then none else some (i, (s.viewByte c v (la + i), false)))
  s.l1Insert c v { ia := la, cls := cls, epoch := s.epochOf c v cls, bytes := bytes
                   stores := ((s.l1Find c v la).map (·.stores)).getD [] }

/-- The acquire of R158 on a class. -/
def State.bumpEpoch (s : State) (c v k : Nat) : State :=
  let e := s.epochOf c v k
  if e = 63 then
    let s := (s.writeBackAll c v (· == k)).l1Remove c v (fun z => z.cls == k)
    s.modCore c v (fun y => { y with epochs := put y.epochs k 0 })
  else s.modCore c v (fun y => { y with epochs := put y.epochs k (e + 1) })
def classes (cset : Nat) : List Nat := (List.range 8).filter (fun k => cset.testBit k)
/-- Acquire and release under a generation (R158 to R160). Point 0 leaves L1 alone. Under point 2 an acquire also makes the host's
writes seen: clean bytes of lines in the context's host windows go, whatever their class (R298). -/
def State.acquire (s : State) (c v cset point : Nat) : State :=
  if point = 0 then s else
  let s := (classes cset).foldl (fun s k => s.bumpEpoch c v k) s
  if point = 2 then s.modCore c v (fun y => { y with l1 := y.l1.map (fun x =>
    if s.inWindows c x.ia then { x with bytes := x.bytes.filter (fun b => b.2.2) } else x) }) else s
/-- Before it, the writes of the core's atomics are performed; under point 2 also its dirty lines in host windows (R298). -/
def State.release (s : State) (c v cset point : Nat) : State :=
  let s := s.settleHalves (ofCore c v)
  if point = 0 then s else
  let s := s.writeBackAll c v (fun k => cset.testBit k)
  if point = 2 then (s.windowLines c v).foldl (fun s la => s.writeBack c v la) s else s
/-- The write-backs that an acquire needs before an epoch wraps. -/
def State.preSweep (s : State) (c v cset point : Nat) : State :=
  let w := s.wrapping c v cset
  if point = 0 ∨ w = 0 then s else s.writeBackAll c v (fun k => w.testBit k)

/-- Pieces of an access within L1 lines. -/
def linesOf (ias : List Nat) : List Nat := dedup (ias.map lineOf)

inductive AccErr where
  | page (f : PFault)
  /-- uncorrectable data, by intermediate address and, of a job, virtual address; or a market that has been retired -/
  | bad (ia : Nat) (va : Option Nat := none)
  | dead (a : Nat)
  /-- an uncorrectable byte on chip, its place and its address -/
  | chip (x : ChipAt) (a : Nat)
deriving DecidableEq, Repr

/-- A global load through L1 (R273); `nt` never fills it (R274). -/
def State.loadL1 (s : State) (c v : Nat) (ias : List Nat) (nt : Bool) : Except AccErr (List Byte × State) :=
  let step (s : State) (la : Nat) : Except AccErr State :=
    let mine := ias.filter (fun a => lineOf a == la)
    match if s.badChip.isEmpty then none else mine.find? (fun a => s.parityBad c v a) with
    | some a => .error (.chip ⟨.g, (c, v), a⟩ a)
    | none =>
    if mine.all (fun a => (s.l1Byte c v a).isSome) then .ok (s.l1Touch c v la) else
    let s := s.ownFirst c v mine
    match s.checkPage c (mine.headD la) true false with
    | .error f => .error (.page f)
    | .ok (_, e) =>
      match s.openPage c (mine.headD la) true false nt with
      | .error f => .error (.page f)
      | .ok s =>
        match s.badByte c (mine.filter (fun a => (s.l1Byte c v a).isNone)) with
        | some a => .error (.bad a)
        | none => .ok (if nt then s else s.l1Fill c v la (peVc e))
  match (linesOf ias).foldlM step s with
  | .error e => .error e
  | .ok s => .ok (ias.map (fun a => (s.l1Byte c v a).getD (s.viewByte c v a)), s)

/-- A global load at the homes, leaving no copy in L1 (R292). -/
def State.loadHome (s : State) (c v : Nat) (ias : List Nat) (nt : Bool := false) : Except AccErr (List Byte × State) :=
  let s := (linesOf ias).foldl (fun s la => s.l1Drop c v la) (s.ownFirst c v ias)
  match s.openPages c ias true false nt with
  | .error f => .error (.page f)
  | .ok s =>
    match s.badByte c ias with
    | some a => .error (.bad a)
    | none => .ok (ias.map (fun a => s.viewByte c v a), s)

/-- A global store at the homes, leaving no copy in L1 (R274, R292). -/
def State.storeHome (s : State) (c v : Nat) (who : Who) (l : List (Nat × Byte)) : Except AccErr State :=
  let s := (linesOf (l.map (·.1))).foldl (fun s la => s.l1Drop c v la) (s.ownFirst c v (l.map (·.1)))
  match s.openPages c (l.map (·.1)) false true with
  | .error f => .error (.page f)
  | .ok s => .ok ((s.writeIa c l).observe s c v who .g (spansOf (l.map (·.1))) false true)

/-- A global store into L1: its bytes stay dirty in their lines, and their page is translated when they are written back
(R273, R401; notes/assumptions/21.md). -/
def State.storeL1 (s : State) (c v : Nat) (who : Who) (l : List (Nat × Byte)) : State :=
  let s : State := if s.badChip.isEmpty then s else { s with badChip := s.badChip.filter (fun x => !(x.lvl == .g && x.owner == (c, v) && (l.map (·.1)).contains x.addr)) }
  let s := s.dropAliases c v (linesOf (l.map (·.1)))
  (linesOf (l.map (·.1))).foldl (fun s la =>
    let x : L1Line := match s.l1Find c v la with
      | some x => s.fresh c v x
      | none =>
        let cls := s.pageClass c la
        { ia := la, cls := cls, epoch := s.epochOf c v cls, bytes := [] }
    let mine := l.filter (fun e => lineOf e.1 == la)
    let b := mine.foldl (fun (b : List (Nat × Byte × Bool)) e => put b (e.1 % 128) (e.2, true)) x.bytes
    let w := mine.foldl (fun (w : Tbl Nat Writer) e => put w (e.1 % 128) ⟨who.line, who.lanes.headD 0, who.pos, who.kind == .atomic⟩) x.stores
    s.l1Insert c v { x with bytes := b, stores := w }) s

/-- Drain writes to SO ranges that a core's lines left behind go home in their order, each behind a release and before an acquire;
one that still has to wait, and those after it, stay held (R292, R401). -/
def State.flushSo (s : State) (c v : Nat) : State :=
  let pick (w : WbHeld) : Bool := w.so && w.ctx == c && w.vc == v
  let mine := s.wbHeld.filter pick
  if mine.isEmpty then s else
  (mine.foldl (fun (x : Bool × State) w =>
    let keep (s : State) : Bool × State := (true, { s with wbHeld := s.wbHeld ++ [w] })
    if x.1 then keep x.2 else
    let s := x.2.release c v 0xFF 2
    if s.relWaits c v 0xFF 2 then keep s else
    match (s.l1Drop c v w.ia).openPage c w.ia false true with
    | .error _ => keep s
    | .ok s => (false, (s.writeStored c v w.ia w.bytes w.stores).acquire c v 0xFF 2)) (false, { s with wbHeld := s.wbHeld.filter (fun w => !pick w) })).2

/-! ## The range scoreboard (R149, R332) -/

/-- Does an access of a core wait for a job in flight? -/
def State.boardWaits (s : State) (c v : Nat) (lvl : Lvl) (spans : List (Nat × Nat)) (store : Bool) : Bool :=
  (s.core c v).board.any (fun i => i.lvl == lvl && (store || i.write) && (if lvl = .g then s.spansMeet c i.spans spans else i.spans.any (fun x => overlaps x.1 x.2 spans)))

end Sys2Proof.Machine
end

