-- ==== Sys2Proof/Machine/Flags.lean ====
section
/-!
DEFINITION. The five sticky flags of fst (R41, R56).
-/
namespace Sys2Proof.Machine

/-- Bits of fst (R41): [4] invalid, [3] divide-by-zero, [2] overflow, [1] underflow, [0] inexact. -/
def flInvalid : Flags := 16#5
def flDivZero : Flags := 8#5
def flOverflow : Flags := 4#5
def flUnderflow : Flags := 2#5
def flInexact : Flags := 1#5

/-- A flag that is raised under a condition. -/
def flagIf (c : Bool) (f : Flags) : Flags := if c then f else 0#5

/-- Overflow always comes with inexact (R56). -/
def flOverflowInexact : Flags := flOverflow ||| flInexact

/-- The OR of flags raised by several elements (R64). -/
def orFlags (fs : List Flags) : Flags := fs.foldl (fun a b => a ||| b) 0#5

end Sys2Proof.Machine
end

