-- ==== Sys2Proof/Machine/Num.lean ====
section
/-!
DEFINITION. The floating-point formats of R47 to R50, exact values, rounding (R51 to R56), and the arithmetic of
R121 to R125 and R128 on them.
-/
namespace Sys2Proof.Machine

/-- What the top exponent code holds (R47). -/
inductive Top where
  | infNan | nanOnly | finite
deriving DecidableEq, Repr

/-- A floating-point format: fraction bits, bias, code of the greatest finite value, whole width. -/
structure Fmt where
  width : Nat
  m : Nat
  bias : Nat
  maxCode : Nat
  top : Top
  /-- conversions into it saturate on overflow in every mode (R54) -/
  sat : Bool
deriving DecidableEq, Repr

def fmtF64 : Fmt := ⟨64, 52, 1023, 0x7FEFFFFFFFFFFFFF, .infNan, false⟩
def fmtA56 : Fmt := ⟨56, 46, 255, 0x7FBFFFFFFFFFFF, .infNan, false⟩
def fmtF32 : Fmt := ⟨32, 23, 127, 0x7F7FFFFF, .infNan, false⟩
def fmtBf16 : Fmt := ⟨16, 7, 127, 0x7F7F, .infNan, false⟩
def fmtF16 : Fmt := ⟨16, 10, 15, 0x7BFF, .infNan, false⟩
def fmtF8e5m2 : Fmt := ⟨8, 2, 15, 0x7B, .infNan, true⟩
def fmtF8e4m3 : Fmt := ⟨8, 3, 7, 0x7E, .nanOnly, true⟩
def fmtF6e3m2 : Fmt := ⟨6, 2, 3, 0x1F, .finite, true⟩
def fmtF6e2m3 : Fmt := ⟨6, 3, 1, 0x1F, .finite, true⟩
def fmtF4e2m1 : Fmt := ⟨4, 1, 1, 0x7, .finite, true⟩

/-- The floating-point format of a format code (R82). Codes 0xA and above name no floating-point format. -/
def floatFmt : Nat → Option Fmt
  | 0 => some fmtF64
  | 1 => some fmtF32
  | 2 => some fmtBf16
  | 3 => some fmtF16
  | 4 => some fmtF8e5m2
  | 5 => some fmtF8e4m3
  | 6 => some fmtF6e3m2
  | 7 => some fmtF6e2m3
  | 8 => some fmtF4e2m1
  | 9 => some fmtA56
  | _ => none

/-- Rounding modes (R51). -/
inductive RMode where
  | rn | rz | ru | rd
deriving DecidableEq, Repr

def rmodeOf (c : BitVec 2) : RMode := if c = 0#2 then .rn else if c = 1#2 then .rz else if c = 2#2 then .ru else .rd

/-- An exact real, an infinity or NaN. `fin neg man exp sticky`: the magnitude is man × 2^exp, or, if `sticky`, lies
strictly between man × 2^exp and (man + 1) × 2^exp. -/
inductive Exact where
  | nan
  | inf (neg : Bool)
  | fin (neg : Bool) (man : Nat) (exp : Int) (sticky : Bool)
deriving DecidableEq, Repr

/-- The value of a code (R47), and whether it is a signalling NaN. High bits of x beyond the width are ignored. -/
def unpack (F : Fmt) (x : Nat) : Exact × Bool :=
  let x := x % 2 ^ F.width
  let neg := x.testBit (F.width - 1)
  let e := bits x F.m (F.width - 1 - F.m)
  let f := bits x 0 F.m
  let mag := x % 2 ^ (F.width - 1)
  if F.maxCode < mag then
    match F.top with
    | .infNan => if f = 0 then (.inf neg, false) else (.nan, !f.testBit (F.m - 1))
    | _ => (.nan, false)
  else if e = 0 then (.fin neg f (1 - (F.bias : Int) - F.m) false, false)
  else (.fin neg (f + 2 ^ F.m) ((e : Int) - F.bias - F.m) false, false)

/-- The canonical NaN (R49); +0 in the formats without NaN (R54). -/
def canonNan (F : Fmt) : Nat :=
  match F.top with
  | .infNan => 2 ^ (F.width - 1) - 2 ^ F.m + 2 ^ (F.m - 1)
  | .nanOnly => F.maxCode + 1
  | .finite => 0

def signBit (F : Fmt) (neg : Bool) : Nat := if neg then 2 ^ (F.width - 1) else 0
/-- ±∞ of a format that has it. -/
def infCode (F : Fmt) (neg : Bool) : Nat := signBit F neg + (2 ^ (F.width - 1) - 2 ^ F.m)
def maxCodeOf (F : Fmt) (neg : Bool) : Nat := signBit F neg + F.maxCode

/-- man with its low `drop` bits rounded off in a mode, and whether the result differs from the exact value. -/
def roundShift (md : RMode) (neg : Bool) (man : Nat) (sticky : Bool) (drop : Int) : Nat × Bool :=
  if drop ≤ 0 then (man * 2 ^ (-drop).toNat, sticky) else
  let k := drop.toNat
  let q := man / 2 ^ k
  let r := man % 2 ^ k
  let half := 2 ^ (k - 1)
  let inexact := r ≠ 0 || sticky
  let up := match md with
    | .rn => decide (half < r) || (r == half && (sticky || q % 2 == 1))
    | .rz => false
    | .ru => !neg && inexact
    | .rd => neg && inexact
  (if up then q + 1 else q, inexact)

/-- Bits of a number: the least n with x < 2^n. -/
def bitLen (x : Nat) : Nat := if x = 0 then 0 else Nat.log2 x + 1

/-- The code of a magnitude q × 2^e with q < 2^(m + 1) and, unless the value is subnormal, q ≥ 2^m. -/
def encodeMag (F : Fmt) (q : Nat) (e : Int) : Nat :=
  if q < 2 ^ F.m then q else ((e + F.m + F.bias).toNat) * 2 ^ F.m + (q - 2 ^ F.m)

/-- Steps 2 to 5 of R52 with R53, R54 and the flags of R56. -/
def pack (F : Fmt) (md : RMode) : Exact → Nat × Flags
  | .nan => (canonNan F, flagIf (F.top == .finite) flInvalid)
  | .inf neg => if F.top == .infNan then (infCode F neg, 0#5) else (maxCodeOf F neg, flInvalid)
  | .fin neg man exp sticky =>
    if man = 0 && !sticky then (signBit F neg, 0#5) else
    let p := F.m + 1
    let eLead : Int := exp + (bitLen man : Int) - p
    let u := roundShift md neg man sticky (eLead - exp)
    let uq := if u.1 = 2 ^ p then 2 ^ F.m else u.1
    let ue : Int := if u.1 = 2 ^ p then eLead + 1 else eLead
    let tiny := decide (ue + F.m + F.bias < 1)
    if !tiny && decide (F.maxCode < encodeMag F uq ue) then
      let toInf := match md with
        | .rn => true
        | .rz => false
        | .ru => !neg
        | .rd => neg
      (if F.sat || !toInf then maxCodeOf F neg else infCode F neg, flOverflowInexact)
    else
      let eMin : Int := 1 - (F.bias : Int) - F.m
      let e := if eLead < eMin then eMin else eLead
      let r := roundShift md neg man sticky (e - exp)
      let q := if r.1 = 2 ^ p then 2 ^ F.m else r.1
      let e := if r.1 = 2 ^ p then e + 1 else e
      (signBit F neg + encodeMag F q e, flagIf r.2 flInexact ||| flagIf (r.2 && tiny) flUnderflow)

/-- `rne` of R52. -/
def rne (F : Fmt) (x : Exact) : Nat × Flags := pack F .rn x

/-! ## Exact operations -/

/-- A signed integer times 2^exp, with the sign that a zero takes. -/
def ofInt (x : Int) (exp : Int) (zeroNeg : Bool) : Exact :=
  if x = 0 then .fin zeroNeg 0 0 false else .fin (decide (x < 0)) x.natAbs exp false

def signed (neg : Bool) (man : Nat) : Int := if neg then -(man : Int) else man

def negate : Exact → Exact
  | .nan => .nan
  | .inf n => .inf (!n)
  | .fin n m e s => .fin (!n) m e s

/-- x + y, exactly, and invalid for ∞ − ∞ (R52, R56). Zero signs by R52. -/
def exactAdd (md : RMode) : Exact → Exact → Exact × Flags
  | .nan, _ => (.nan, 0#5)
  | _, .nan => (.nan, 0#5)
  | .inf a, .inf b => if a = b then (.inf a, 0#5) else (.nan, flInvalid)
  | .inf a, _ => (.inf a, 0#5)
  | _, .inf b => (.inf b, 0#5)
  | .fin na ma ea _, .fin nb mb eb _ =>
    let e := if ea ≤ eb then ea else eb
    let x := signed na (ma * 2 ^ (ea - e).toNat) + signed nb (mb * 2 ^ (eb - e).toNat)
    (ofInt x e (if na = nb then na else md == .rd), 0#5)

/-- x × y, exactly, and invalid for 0 × ∞. -/
def exactMul : Exact → Exact → Exact × Flags
  | .nan, _ => (.nan, 0#5)
  | _, .nan => (.nan, 0#5)
  | .inf a, .inf b => (.inf (a != b), 0#5)
  | .inf a, .fin b m _ _ => if m = 0 then (.nan, flInvalid) else (.inf (a != b), 0#5)
  | .fin a m _ _, .inf b => if m = 0 then (.nan, flInvalid) else (.inf (a != b), 0#5)
  | .fin na ma ea _, .fin nb mb eb _ => (.fin (na != nb) (ma * mb) (ea + eb) false, 0#5)

/-- x / y, to more bits than any format keeps (R123). -/
def exactDiv : Exact → Exact → Exact × Flags
  | .nan, _ => (.nan, 0#5)
  | _, .nan => (.nan, 0#5)
  | .inf _, .inf _ => (.nan, flInvalid)
  | .inf a, .fin b _ _ _ => (.inf (a != b), 0#5)
  | .fin a _ _ _, .inf b => (.fin (a != b) 0 0 false, 0#5)
  | .fin na ma ea _, .fin nb mb eb _ =>
    if mb = 0 then (if ma = 0 then (.nan, flInvalid) else (.inf (na != nb), flDivZero))
    else if ma = 0 then (.fin (na != nb) 0 0 false, 0#5)
    else
      let k := 60 + bitLen mb
      let x := ma * 2 ^ k
      (.fin (na != nb) (x / mb) (ea - eb - k) (decide (x % mb ≠ 0)), 0#5)

/-- The integer square root: bits i - 1 … 0 are tried from the top. -/
def isqrtFrom (n : Nat) : Nat → Nat → Nat
  | 0, r => r
  | i + 1, r => if (r + 2 ^ i) * (r + 2 ^ i) ≤ n then isqrtFrom n i (r + 2 ^ i) else isqrtFrom n i r
def isqrt (n : Nat) : Nat := isqrtFrom n (bitLen n / 2 + 1) 0

/-- √x (R123). -/
def exactSqrt : Exact → Exact × Flags
  | .nan => (.nan, 0#5)
  | .inf n => if n then (.nan, flInvalid) else (.inf false, 0#5)
  | .fin n m e _ =>
    if m = 0 then (.fin n 0 0 false, 0#5)
    else if n then (.nan, flInvalid)
    else
      let k : Nat := if (e % 2 = 0) then 128 else 129
      let x := m * 2 ^ k
      let r := isqrt x
      (.fin false r ((e - k) / 2) (decide (r * r ≠ x)), 0#5)

/-- x × 2^k. -/
def exactScale (k : Int) : Exact → Exact
  | .fin n m e s => .fin n m (e + k) s
  | x => x

/-- x < y on numbers; zeros compare equal. False if either is NaN. -/
def exactLt : Exact → Exact → Bool
  | .nan, _ => false
  | _, .nan => false
  | .inf a, .inf b => a && !b
  | .inf a, _ => a
  | _, .inf b => !b
  | .fin na ma ea _, .fin nb mb eb _ =>
    let e := if ea ≤ eb then ea else eb
    decide (signed na (ma * 2 ^ (ea - e).toNat) < signed nb (mb * 2 ^ (eb - e).toNat))
def exactEq : Exact → Exact → Bool
  | .nan, _ => false
  | _, .nan => false
  | x, y => !exactLt x y && !exactLt y x

def Exact.isNan : Exact → Bool
  | .nan => true
  | _ => false
def Exact.neg : Exact → Bool
  | .nan => false
  | .inf n => n
  | .fin n _ _ _ => n

/-! ## Operations on codes, with their flags -/

/-- invalid, if an input is a signalling NaN (R50). -/
def snan (b : Bool) : Flags := flagIf b flInvalid

def fAdd (F : Fmt) (md : RMode) (x y : Nat) : Nat × Flags :=
  let a := unpack F x
  let b := unpack F y
  let e := exactAdd md a.1 b.1
  let r := pack F md e.1
  (r.1, r.2 ||| e.2 ||| snan (a.2 || b.2))
/-- R121: the sign of b is inverted before the add; a NaN stays a NaN. -/
def fSub (F : Fmt) (md : RMode) (x y : Nat) : Nat × Flags :=
  let a := unpack F x
  let b := unpack F y
  let e := exactAdd md a.1 (negate b.1)
  let r := pack F md e.1
  (r.1, r.2 ||| e.2 ||| snan (a.2 || b.2))
def fMul (F : Fmt) (md : RMode) (x y : Nat) : Nat × Flags :=
  let a := unpack F x
  let b := unpack F y
  let e := exactMul a.1 b.1
  let r := pack F md e.1
  (r.1, r.2 ||| e.2 ||| snan (a.2 || b.2))
/-- R121: one rounding; 0 × ∞ is invalid whatever z holds. -/
def fFma (F : Fmt) (md : RMode) (x y z : Nat) : Nat × Flags :=
  let a := unpack F x
  let b := unpack F y
  let c := unpack F z
  let p := exactMul a.1 b.1
  let e := exactAdd md p.1 c.1
  let r := pack F md e.1
  (r.1, r.2 ||| e.2 ||| p.2 ||| snan (a.2 || b.2 || c.2))
def fDiv (F : Fmt) (x y : Nat) : Nat × Flags :=
  let a := unpack F x
  let b := unpack F y
  let e := exactDiv a.1 b.1
  let r := rne F e.1
  (r.1, r.2 ||| e.2 ||| snan (a.2 || b.2))
def fSqrt (F : Fmt) (x : Nat) : Nat × Flags :=
  let a := unpack F x
  let e := exactSqrt a.1
  let r := rne F e.1
  (r.1, r.2 ||| e.2 ||| snan a.2)

/-- IEEE 754-2019 minimum and maximum: NaN if either is NaN, −0 < +0 (R63, R122). -/
def fMinMax (F : Fmt) (max : Bool) (x y : Nat) : Nat × Flags :=
  let a := unpack F x
  let b := unpack F y
  if a.1.isNan || b.1.isNan then (canonNan F, snan (a.2 || b.2)) else
  let lt := exactLt a.1 b.1 || (exactEq a.1 b.1 && a.1.neg && !b.1.neg)
  ((if lt = max then y else x) % 2 ^ F.width, 0#5)

/-- A code with its sign set as given; NaN becomes canonical (R122). -/
def fWithSign (F : Fmt) (sign : Bool → Bool) (x : Nat) : Nat × Flags :=
  let a := unpack F x
  if a.1.isNan then (canonNan F, snan a.2)
  else (signBit F (sign (x.testBit (F.width - 1))) + x % 2 ^ (F.width - 1), 0#5)
def fAbs (F : Fmt) (x : Nat) : Nat × Flags := fWithSign F (fun _ => false) x
def fNeg (F : Fmt) (x : Nat) : Nat × Flags := fWithSign F (fun n => !n) x
def fCpsgn (F : Fmt) (x y : Nat) : Nat × Flags := fWithSign F (fun _ => y.testBit (F.width - 1)) x

/-- Floating compares (R124). -/
inductive FRel where
  | eq | ne | lt | le | un
deriving DecidableEq, Repr
def fCompare (F : Fmt) (r : FRel) (x y : Nat) : Bool × Flags :=
  let a := unpack F x
  let b := unpack F y
  let un := a.1.isNan || b.1.isNan
  let sig := snan (a.2 || b.2)
  match r with
  | .eq => (exactEq a.1 b.1, sig)
  | .ne => (!exactEq a.1 b.1, sig)
  | .lt => (exactLt a.1 b.1, snan un)
  | .le => (!un && !exactLt b.1 a.1, snan un)
  | .un => (un, sig)

/-- The class bit of R125. -/
def fClass (F : Fmt) (x : Nat) : Nat × Flags :=
  match unpack F x with
  | (.nan, s) => (if s then 2 ^ 8 else 2 ^ 9, snan s)
  | (.inf n, _) => (if n then 2 ^ 0 else 2 ^ 7, 0#5)
  | (.fin n m _ _, _) =>
    (if m = 0 then (if n then 2 ^ 3 else 2 ^ 4)
     else if m < 2 ^ F.m then (if n then 2 ^ 2 else 2 ^ 5)
     else (if n then 2 ^ 1 else 2 ^ 6), 0#5)

/-- x × 2^s in a format (R130). -/
def fScale (F : Fmt) (x : Nat) (k : Int) : Nat × Flags :=
  let a := unpack F x
  let r := rne F (exactScale k a.1)
  (r.1, r.2 ||| snan a.2)

/-! ## Conversions (R53 to R55, R128) -/

/-- An integer format: signed, bits. -/
def intFmt : Nat → Option (Bool × Nat)
  | 10 => some (true, 32)
  | 11 => some (false, 32)
  | 12 => some (true, 64)
  | 13 => some (false, 64)
  | _ => none

/-- Float to float. -/
def cvtFF (S D : Fmt) (md : RMode) (x : Nat) : Nat × Flags :=
  let a := unpack S x
  let r := pack D md a.1
  (r.1, r.2 ||| snan a.2)

/-- The integer that a value rounds to, and whether it was no integer. -/
def roundInt (md : RMode) (neg : Bool) (man : Nat) (exp : Int) : Int × Bool :=
  let r := roundShift md neg man false (-exp)
  (signed neg r.1, r.2)

/-- Float to integer (R55). -/
def cvtFI (S : Fmt) (sgn : Bool) (w : Nat) (md : RMode) (x : Nat) : Nat × Flags :=
  let lo : Int := if sgn then -(2 ^ (w - 1) : Nat) else 0
  let hi : Int := if sgn then (2 ^ (w - 1) : Nat) - 1 else (2 ^ w : Nat) - 1
  match (unpack S x).1 with
  | .nan => (0, flInvalid)
  | .inf n => ((BitVec.ofInt w (if n then lo else hi)).toNat, flInvalid)
  | .fin n m e _ =>
    let r := roundInt md n m e
    if r.1 < lo then ((BitVec.ofInt w lo).toNat, flInvalid)
    else if hi < r.1 then ((BitVec.ofInt w hi).toNat, flInvalid)
    else ((BitVec.ofInt w r.1).toNat, flagIf r.2 flInexact)

/-- Integer to float. -/
def cvtIF (sgn : Bool) (w : Nat) (D : Fmt) (md : RMode) (x : Nat) : Nat × Flags :=
  let v : Int := if sgn then toSigned w x else ((x % 2 ^ w : Nat) : Int)
  pack D md (ofInt v 0 false)

/-- `cvt` (R128): format codes of source and destination. Codes that R87 does not assign never come here. -/
def convert (src dst : Nat) (md : RMode) (x : Nat) : Nat × Flags :=
  match floatFmt src, floatFmt dst, intFmt src, intFmt dst with
  | some S, some D, _, _ => cvtFF S D md x
  | some S, _, _, some (sgn, w) => cvtFI S sgn w md x
  | _, some D, some (sgn, w), _ => cvtIF sgn w D md x
  | _, _, _, _ => (0, 0#5)

/-! ## Block scales (R57) -/

/-- An s8 scale: none for a zero block. -/
def s8Scale (x : Nat) : Option Int := if x % 256 = 128 then none else some (toSigned 8 x)

/-- The exponent of the leading bit. -/
def leadExp (man : Nat) (exp : Int) : Int := exp + bitLen man - 1

end Sys2Proof.Machine
end

