-- ==== Sys2Proof/Machine/Tree.lean ====
section
/-!
DEFINITION. The summation tree of R61 to R66: operators, nodes, labels (R36), and the residual stack of an accumulator
cell (R178).
-/
namespace Sys2Proof.Machine

/-- Reduction operators (R63), coded as op of R186. -/
inductive TreeOp where
  | add | max | min | and | or | xor
deriving DecidableEq, Repr

def treeOp? : Nat → Option TreeOp
  | 0 => some .add
  | 1 => some .max
  | 2 => some .min
  | 3 => some .and
  | 4 => some .or
  | 5 => some .xor
  | _ => none
def TreeOp.bitwise : TreeOp → Bool
  | .and | .or | .xor => true
  | _ => false

/-- An accumulate format: floating point, or an integer of so many bits. -/
inductive Acc where
  | float (F : Fmt)
  | int (sgn : Bool) (w : Nat)
deriving DecidableEq, Repr

/-- The accumulate format of a format code (R186). -/
def accOf (code : Nat) : Option Acc :=
  match floatFmt code, intFmt code with
  | some F, _ => some (.float F)
  | none, some (s, w) => some (.int s w)
  | none, none => none

/-- Bytes of a format in memory (R186). -/
def accBytes (code : Nat) : Nat :=
  if code = 0 || code = 9 || code = 12 || code = 13 then 8 else if code = 2 || code = 3 then 2 else 4

/-- The combining node of R61 and R63. -/
def combine (op : TreeOp) (acc : Acc) (l r : Nat) : Nat × Flags :=
  match acc with
  | .float F =>
    match op with
    | .max => fMinMax F true l r
    | .min => fMinMax F false l r
    | _ => fAdd F .rn l r
  | .int sgn w =>
    let x := l % 2 ^ w
    let y := r % 2 ^ w
    let less := if sgn then decide (toSigned w x ≤ toSigned w y) else decide (x ≤ y)
    (match op with
     | .add => (x + y) % 2 ^ w
     | .max => if less then y else x
     | .min => if less then x else y
     | .and => x &&& y
     | .or => x ||| y
     | .xor => x ^^^ y, 0#5)

/-- The value of an empty root (R63). -/
def emptyRoot (op : TreeOp) (acc : Acc) : Nat :=
  match acc, op with
  | .float F, .max => infCode F true
  | .float F, .min => infCode F false
  | .float _, _ => 0
  | .int sgn w, .max => if sgn then 2 ^ (w - 1) else 0
  | .int sgn w, .min => if sgn then 2 ^ (w - 1) - 1 else 2 ^ w - 1
  | .int _ w, .and => 2 ^ w - 1
  | .int _ _, _ => 0

/-- A node: empty, or a value with the flags raised below it. -/
abbrev Node := Option (Nat × Flags)

/-- A node from its two children: empty children pass (R61). -/
def join2 (op : TreeOp) (acc : Acc) : Node → Node → Node
  | none, none => none
  | some x, none => some x
  | none, some y => some y
  | some x, some y =>
    let c := combine op acc x.1 y.1
    some (c.1, c.2 ||| x.2 ||| y.2)

/-- One level of the tree: siblings meet, left with right. -/
def level (op : TreeOp) (acc : Acc) : List Node → List Node
  | x :: y :: r => join2 op acc x y :: level op acc r
  | [x] => [x]
  | [] => []

/-- `tree_root` over 2^k leaves (R61). -/
def treeRoot (op : TreeOp) (acc : Acc) : Nat → List Node → Node
  | 0, ls => ls.headD none
  | k + 1, ls => treeRoot op acc k (level op acc ls)

/-- The level of the root: the least k with N ≤ 2^k (R61). -/
def rootLevel (N : Nat) : Nat := if N ≤ 1 then 0 else Nat.log2 (N - 1) + 1

/-- A node label and its parts (R36). -/
def label (slot level index : Nat) : Nat := slot * 2 ^ 56 + level * 2 ^ 50 + index
def labelSlot (l : Nat) : Nat := bits l 56 8
def labelLevel (l : Nat) : Nat := bits l 50 6
def labelIndex (l : Nat) : Nat := bits l 0 50

/-- `decompose` of R66, for at most `fuel` pieces, levels tried downward. -/
def pieceLevel (a b : Nat) : Nat → Nat
  | 0 => 0
  | L + 1 => if a % 2 ^ (L + 1) = 0 && decide (a + 2 ^ (L + 1) ≤ b) then L + 1 else pieceLevel a b L
def decompose : Nat → Nat → Nat → List (Nat × Nat)
  | 0, _, _ => []
  | fuel + 1, a, b =>
    if a < b then
      let L := pieceLevel a b 48
      (L, a / 2 ^ L) :: decompose fuel (a + 2 ^ L) b
    else []

/-- Forming a leaf from a value in format F for an accumulate format (R62, R189). An integer wider than the accumulate format, which R203
lets a collective have, is taken modulo its width: DESIGN CHOICE, notes/assumptions/115.md. -/
def leafOf (F fmt : Nat) (x : Nat) : Nat × Flags :=
  match floatFmt F, floatFmt fmt, intFmt F, intFmt fmt with
  | some S, some D, _, _ => cvtFF S D .rn x
  | _, _, some (sgn, w), some (_, v) => ((BitVec.ofInt v (if sgn then toSigned w x else ((x % 2 ^ w : Nat) : Int))).toNat, 0#5)
  | _, _, _, _ => (0, 0#5)

/-- A source format suits an accumulate format (R189). -/
def suits (F fmt : Nat) : Bool :=
  match floatFmt F, floatFmt fmt, intFmt F, intFmt fmt with
  | some _, some _, _, _ => true
  | _, _, some (_, w), some (_, v) => decide (w ≤ v)
  | _, _, _, _ => false

/-! ## The packed dot products (R131) -/

/-- Element i of width w of a packed register (R46). -/
def elem (x w i : Nat) : Nat := bits x (w * i) w

/-- dpK with integer elements. -/
def dotInt (sgn : Bool) (w n : Nat) (a b d : Nat) : Nat × Flags :=
  let v (x : Nat) : Int := if sgn then toSigned w x else (x : Int)
  let sum := (List.range n).foldl (fun (acc : Int) i => acc + v (elem a w i) * v (elem b w i)) 0
  ((((d : Int) + sum) % 2 ^ 32).toNat, 0#5)

/-- Leaf formation for a product of two elements (R62). -/
def productLeaf (S T D : Fmt) (x y : Nat) : Nat × Flags :=
  let a := unpack S x
  let b := unpack T y
  let e := exactMul a.1 b.1
  let r := rne D e.1
  (r.1, r.2 ||| e.2 ||| snan (a.2 || b.2))

/-- dpK with floating-point elements: the tree over the products, then the add of d. -/
def dotFloat (S : Fmt) (w k : Nat) (a b d : Nat) : Nat × Flags :=
  let leaves := (List.range (2 ^ k)).map (fun i => some (productLeaf S S fmtF32 (elem a w i) (elem b w i)))
  match treeRoot .add (.float fmtF32) k leaves with
  | some root =>
    let r := fAdd fmtF32 .rn d root.1
    (r.1, r.2 ||| root.2)
  | none => (d, 0#5)

end Sys2Proof.Machine
end

