-- ==== Sys2Proof/Machine/Tiles.lean ====
section
/-!
DEFINITION. Operand reservations and their plane layout (R170, R171, R174, R325), the leaves of a matrix pass (R177, R59,
R60, R320), the stack of a tile (R178, R181), and the passes of the quarter engines (R324, R327).
-/
namespace Sys2Proof.Machine

/-! ## Reservation records (R170, R171) -/

def rsKext (r : BitVec 256) : Nat := bits r.toNat 128 20
def rsSofs (r : BitVec 256) : Nat := bits r.toNat 96 20
def rsBase (r : BitVec 256) : Nat := bits r.toNat 64 20
def rsLayout (r : BitVec 256) : Bool := bit r.toNat 31
def rsTiles (r : BitVec 256) : Nat := bits r.toNat 25 3
def rsChunks (r : BitVec 256) : Nat := bits r.toNat 19 6
def rsPlanes (r : BitVec 256) : Nat := bits r.toNat 13 6
def rsBlk (r : BitVec 256) : Nat := bits r.toNat 11 2
def rsEfmt (r : BitVec 256) : Nat := bits r.toNat 7 4

/-- The float format of efmt; none for the integer formats. -/
def rsFmt (r : BitVec 256) : Option Fmt := if rsEfmt r = 1 ∨ 9 ≤ rsEfmt r then none else floatFmt (rsEfmt r)
def rsInt (r : BitVec 256) : Bool := decide (14 ≤ rsEfmt r)

/-- Rows or columns of one tile, R and C, planes of an element, bytes of a plane (R171, R325). -/
def rsTileRows (r : BitVec 256) : Nat := if rsLayout r && rsEfmt r == 0 then 8 else 16
def rsR (r : BitVec 256) : Nat := rsTileRows r * (rsTiles r + 1)
def rsC (r : BitVec 256) : Nat := 64 * (rsChunks r + 1)
def rsN (r : BitVec 256) : Nat :=
  match rsFmt r with
  | some F => F.width - F.m + rsPlanes r
  | none => 8
def rsQ (r : BitVec 256) : Nat := 8 * rsTileRows r
/-- Block length, and scale entries. -/
def rsL (r : BitVec 256) : Nat := 4 * 2 ^ rsBlk r
def rsScales (r : BitVec 256) : Nat := if rsBlk r = 0 then 0 else rsR r * rsC r / rsL r
/-- Bytes of the data region: R × C × n bits, rounded up to 128 bytes. -/
def rsBytes (r : BitVec 256) : Nat := (rsR r * rsC r * rsN r + 1023) / 1024 * 128

/-- The regions of a reservation: first byte and length. -/
def rsRegions (r : BitVec 256) : List (Nat × Nat) :=
  (rsBase r, rsBytes r) :: (if rsBlk r = 0 then [] else [(rsSofs r, rsScales r)])
def regionSpans (r : BitVec 256) : List (Nat × Nat) := (rsRegions r).map (fun x => (x.1, x.1 + x.2 - 1))

/-- Cause 0x2 of R169. -/
def rsInvalid (r : BitVec 256) : Bool :=
  bits r.toNat 148 108 != 0 || bits r.toNat 116 12 != 0 || bits r.toNat 84 12 != 0 || bits r.toNat 32 32 != 0 ||
  bits r.toNat 28 3 != 0 || bits r.toNat 0 7 != 0 || rsBase r % 128 != 0 ||
  ((rsFmt r).isNone && !rsInt r) ||
  (match rsFmt r with
   | some F => rsPlanes r == 0 || decide (F.m + 1 < rsPlanes r)
   | none => rsPlanes r != 8) ||
  (if rsBlk r = 0 then rsSofs r != 0 else !(decide (4 ≤ rsEfmt r) && decide (rsEfmt r ≤ 8)))

def meets (x y : Nat × Nat) : Bool := decide (x.1 < y.1 + y.2) && decide (y.1 < x.1 + x.2)

/-- Cause 0x3 of R169, but for the number: bounds, and overlaps with itself and the core's other reservations. -/
def rsMisplaced (others : List (BitVec 256)) (r : BitVec 256) : Bool :=
  (rsRegions r).any (fun x => decide (2 ^ 20 < x.1 + x.2)) ||
  (match rsRegions r with
   | [x, y] => meets x y
   | _ => false) ||
  others.any (fun o => (rsRegions o).any (fun y => (rsRegions r).any (fun x => meets x y)))

/-! ## Elements (R174, R325) -/

/-- Where the planes of an element stand: row r, local k position kk. The byte of its first plane, and its bit. -/
def planeAt (r : BitVec 256) (row kk : Nat) : Nat × Nat :=
  let t := row / rsTileRows r
  let i := row % rsTileRows r * 64 + kk % 64
  (rsBase r + (t * (rsChunks r + 1) + kk / 64) * rsQ r * rsN r + i / 8, i % 8)

/-- The bytes that hold an element's bits, one for each plane. -/
def elemBytes (r : BitVec 256) (row kk : Nat) : List Nat := (List.range (rsN r)).map (fun j => (planeAt r row kk).1 + j * rsQ r)

def ofBits (l : List Bool) : Nat := l.foldl (fun x b => 2 * x + (if b then 1 else 0)) 0
/-- The n bits of x, most significant first. -/
def toBits (x n : Nat) : List Bool := (List.range n).map (fun i => x.testBit (n - 1 - i))

/-- Exponent bits of a format. -/
def Fmt.e (F : Fmt) : Nat := F.width - 1 - F.m

/-- Truncation to p significand positions, the hidden one counted first (R174). -/
def truncCode (F : Fmt) (p x : Nat) : Nat := x / 2 ^ (F.m + 1 - p) * 2 ^ (F.m + 1 - p)

/-- The plane bits of an element, in plane order. -/
def planeBits (r : BitVec 256) (x : Nat) : List Bool :=
  match rsFmt r with
  | some F =>
    let p := rsPlanes r
    let x := x % 2 ^ F.width
    x.testBit (F.width - 1) :: toBits (bits x F.m F.e) F.e ++ [decide (bits x F.m F.e ≠ 0)] ++ toBits (bits x 0 F.m / 2 ^ (F.m + 1 - p)) (p - 1)
  | none => toBits (x % 256) 8
/-- The element that plane bits hold, in its register layout. -/
def elemOfBits (r : BitVec 256) (l : List Bool) : Nat :=
  match rsFmt r with
  | some F => ofBits (l.take (1 + F.e) ++ l.drop (2 + F.e)) * 2 ^ (F.m + 1 - rsPlanes r)
  | none => ofBits l

def readElem (m : Memory) (r : BitVec 256) (row kk : Nat) : Nat :=
  elemOfBits r ((elemBytes r row kk).map (fun a => (m.byte a).getLsbD (planeAt r row kk).2))
def setBit (b : Byte) (i : Nat) (v : Bool) : Byte := if v then b ||| (1#8 <<< i) else b &&& ~~~(1#8 <<< i)
def writeElem (m : Memory) (r : BitVec 256) (row kk x : Nat) : Memory :=
  ((elemBytes r row kk).zip (planeBits r x)).foldl (fun m e => m.setByte e.1 (setBit (m.byte e.1) (planeAt r row kk).2 e.2)) m

/-- The scale entry of the block that holds (row, kk). -/
def scaleAt (r : BitVec 256) (row kk : Nat) : Nat := rsSofs r + row * (rsC r / rsL r) + kk / rsL r

/-- The bytes of an element or a scale entry. -/
def oprBytes (scale : Bool) (r : BitVec 256) (row kk : Nat) : List Nat := if scale then [scaleAt r row kk] else elemBytes r row kk
/-- An element or a scale entry is written. -/
def storeElem (scale : Bool) (m : Memory) (r : BitVec 256) (row kk x : Nat) : Memory :=
  if scale then m.setByte (scaleAt r row kk) (BitVec.ofNat 8 x) else writeElem m r row kk x
/-- An element, or a scale entry with its sign, as `ldp` loads it into so many words. -/
def loadElem (scale : Bool) (m : Memory) (r : BitVec 256) (row kk words : Nat) : List Word :=
  if scale then [(m.byte (scaleAt r row kk)).signExtend 32] else wordsOfNat (readElem m r row kk) words

/-! ## Leaves (R177) -/

/-- An operand of a product: its code, its block's scale, and whether the block is a zero block (R59). -/
structure MElem where
  code : Nat
  scale : Int
  zero : Bool

/-- The element of a row of a tile, for a chunk slot, reduced to p significand positions. -/
def operandElem (m : Memory) (r : BitVec 256) (p row kk : Nat) : MElem :=
  let z := rsBlk r != 0 && (m.byte (scaleAt r row kk)) == 0x80#8
  if z then { code := 0, scale := 0, zero := true } else
  let x := readElem m r row kk
  { code := match rsFmt r with
      | some F => truncCode F p x
      | none => x
    scale := if rsBlk r = 0 then 0 else (m.byte (scaleAt r row kk)).toInt
    zero := false }

/-- The class of a pair of reservations (R176): 0 where they do not combine. -/
def mmaClass (ra rb : BitVec 256) : Nat :=
  let f (x : Nat) : Bool := decide (2 ≤ x) && decide (x ≤ 8)
  if f (rsEfmt ra) && f (rsEfmt rb) then 1
  else if rsEfmt ra = 0 ∧ rsEfmt rb = 0 then 2
  else if rsInt ra && rsInt rb then 3 else 0

/-- Leaf and cell format of a class. -/
def clsAcc (cls : Nat) : Acc := if cls = 1 then .float fmtA56 else if cls = 2 then .float fmtF64 else .int true 56

/-- The leaf of two operands. -/
def mmaLeaf (ra rb : BitVec 256) (x y : MElem) : Nat × Flags :=
  if x.zero || y.zero then (0, 0#5) else
  match rsFmt ra, rsFmt rb with
  | some FA, some FB =>
    let a := unpack FA x.code
    let b := unpack FB y.code
    let e := exactMul a.1 b.1
    let r := rne (if mmaClass ra rb = 2 then fmtF64 else fmtA56) (exactScale (x.scale + y.scale) e.1)
    (r.1, r.2 ||| e.2 ||| snan (a.2 || b.2))
  | _, _ =>
    let v (r : BitVec 256) (c : Nat) : Int := if rsEfmt r = 14 then toSigned 8 c else (c : Int)
    ((BitVec.ofInt 56 (v ra x.code * v rb y.code)).toNat, 0#5)

/-- Fields of the chunk word (R176). -/
def cwKc (w : Word) : Nat := bits w.toNat 18 14
def cwAc (w : Word) : Nat := bits w.toNat 12 6
def cwBc (w : Word) : Nat := bits w.toNat 6 6
def cwAt (w : Word) : Nat := bits w.toNat 3 3
def cwBt (w : Word) : Nat := bits w.toNat 0 3

/-- pA of R177. -/
def declared (ra : BitVec 256) (fn : Nat) : Nat := if fn = 0 then rsPlanes ra else min (rsPlanes ra) (4 * fn)

/-- The nodes (6, c) of every cell of quarter q's tile, in row-major order, with the flags raised. -/
def mmaNodes (m : Memory) (ra rb : BitVec 256) (w : Word) (fn q : Nat) : List DWord × Flags :=
  let K := rsKext ra + 1
  let live := (List.range 64).filter (fun kk => decide (64 * cwKc w + kk < K))
  let row (r : BitVec 256) (p i slot : Nat) : List MElem := live.map (fun kk => operandElem m r p i (64 * slot + kk))
  let rows := (List.range 16).map (fun i => row ra (declared ra fn) (16 * (cwAt w + q) + i) (cwAc w))
  let cols := (List.range (rsTileRows rb)).map (fun j => row rb (rsPlanes rb) (rsTileRows rb * cwBt w + j) (cwBc w))
  let cells := rows.flatMap (fun x => cols.map (fun y =>
    (treeRoot .add (clsAcc (mmaClass ra rb)) 6 (List.zipWith (fun a b => some (mmaLeaf ra rb a b)) x y ++ List.replicate (64 - live.length) none)).getD (0, 0#5)))
  (cells.map (fun c => BitVec.ofNat 64 c.1), orFlags (cells.map (·.2)))

/-- The scratchpad bytes that quarter q's pass reads: of each block within K its scale entry, and the planes that it takes of
each element whose block's scale and some scale across from it are not −128 (R175, R320, R326). Elements at eight consecutive
positions share their bytes. -/
def mmaReads (m : Memory) (ra rb : BitVec 256) (w : Word) (fn q : Nat) : List Nat :=
  let K := rsKext ra + 1
  let live (kk : Nat) : Bool := decide (64 * cwKc w + kk < K)
  let zero (r : BitVec 256) (row k : Nat) : Bool := rsBlk r != 0 && m.byte (scaleAt r row k) == 0x80#8
  let rowsA := (List.range 16).map (fun i => 16 * (cwAt w + q) + i)
  let rowsB := (List.range (rsTileRows rb)).map (fun j => rsTileRows rb * cwBt w + j)
  let side (r o : BitVec 256) (rows across : List Nat) (slot oslot p : Nat) : List Nat := rows.flatMap (fun i => (List.range 8).flatMap (fun h =>
    if !live (8 * h) then [] else
    let k := 64 * slot + 8 * h
    (if rsBlk r = 0 then [] else [scaleAt r i k]) ++
    (if zero r i k || across.all (fun j => zero o j (64 * oslot + 8 * h)) then [] else (elemBytes r i k).take (rsN r - (rsPlanes r - p)))))
  side ra rb rowsA rowsB (cwAc w) (cwBc w) (declared ra fn) ++ side rb ra rowsB rowsA (cwBc w) (cwAc w) (rsPlanes rb)

/-! ## The stack of a tile (R178) -/

/-- Two siblings combine, cell by cell. -/
def combineCells (acc : Acc) (l r : List DWord) : List DWord × Flags :=
  let c := List.zipWith (fun x y => combine .add acc x.toNat y.toNat) l r
  (c.map (fun x => BitVec.ofNat 64 x.1), orFlags (c.map (·.2)))

/-- `insert` of R178. The root is the entry (k, 0) of a complete tile. -/
def Tile.insert (t : Tile) : Nat → Nat → Nat → List DWord → Tile
  | 0, _, _, _ => t
  | fuel + 1, L, i, v =>
    if rootLevel t.k ≤ L then { t with complete := true, entries := [{ level := rootLevel t.k, index := 0, cells := v }] } else
    let s := i ^^^ 1
    if t.k ≤ s * 2 ^ L then t.insert fuel (L + 1) (i / 2) v else
    match t.entries.find? (fun e => e.level == L && e.index == s) with
    | some u =>
      let c := if i % 2 = 0 then combineCells (clsAcc t.cls) v u.cells else combineCells (clsAcc t.cls) u.cells v
      Tile.insert { t with entries := t.entries.filter (fun e => e != u), flags := t.flags ||| c.2 } fuel (L + 1) (i / 2) c.1
    | none => { t with entries := t.entries ++ [{ level := L, index := i, cells := v }] }

/-- A chunk's node enters a tile, which takes its class and extent from its first (R181). -/
def Tile.addChunk (t : Tile) (cls K c : Nat) (cells : List DWord) (fl : Flags) : Tile :=
  Tile.insert { t with cls := cls, k := K, flags := t.flags ||| fl } 64 6 c cells

/-- Chunk c lies within an entry of the stack, or the tile is complete (cause 0x8). -/
def Tile.covered (t : Tile) (c : Nat) : Bool := t.complete || t.entries.any (fun e => e.index == c / 2 ^ (e.level - 6))

/-- Entries in ascending order of first leaf (R182). -/
def insertEntry (x : TEntry) : List TEntry → List TEntry
  | [] => [x]
  | y :: r => if x.index * 2 ^ x.level ≤ y.index * 2 ^ y.level then x :: y :: r else y :: insertEntry x r
def Tile.sorted (t : Tile) : List TEntry := t.entries.foldr insertEntry []

/-! ## Draining (R183, R184) -/

/-- A cell's exact value. -/
def cellExact (cls : Nat) (x : DWord) : Exact × Bool :=
  if cls = 3 then (ofInt (toSigned 56 x.toNat) 0 false, false)
  else unpack (if cls = 2 then fmtF64 else fmtA56) x.toNat

/-- Bits of an element in memory, by format code. -/
def drainBits (f : Nat) : Nat :=
  match floatFmt f with
  | some F => if f = 9 then 64 else F.width
  | none => 0

/-- One cell in format F (R183). -/
def drainCell (cls f : Nat) (scale : Int) (x : DWord) : Nat × Flags :=
  match floatFmt f with
  | none => (0, 0#5)
  | some F =>
    if cls = 3 ∧ f = 9 then ((BitVec.ofInt 64 (toSigned 56 x.toNat)).toNat, 0#5) else
    let u := cellExact cls x
    let r := pack F .rn (exactScale (-scale) u.1)
    (r.1, r.2 ||| snan u.2)

/-- emax of an MX format (R184). -/
def emaxOf (f : Nat) : Int := if f = 5 then 8 else if f = 4 then 15 else if f = 6 then 4 else 2

/-- The scale of a block: none for an all-zero block. -/
def blockScale (cls f : Nat) (cells : List DWord) : Option Int :=
  let xs := cells.map (fun x => (cellExact cls x).1)
  if xs.all (fun x => match x with
    | .fin _ m _ _ => m == 0
    | _ => false) then none else
  let es := xs.filterMap (fun x => match x with
    | .fin _ m e _ => if m = 0 then none else some (leadExp m e)
    | _ => none)
  match es with
  | [] => some 0
  | e :: r => some (max (-127) (min 127 (r.foldl max e - emaxOf f)))

def chunksOf {α : Type} (n : Nat) : Nat → List α → List (List α)
  | 0, _ => []
  | fuel + 1, l => if l.isEmpty then [] else l.take n :: chunksOf n fuel (l.drop n)

/-- The elements, the scale bytes and the flags of a drain; L is 0 for a drain without scales. -/
def drainValues (t : Tile) (f L : Nat) : List Nat × List Byte × Flags :=
  let cells := ((t.entries.head?).map (·.cells)).getD []
  if L = 0 then
    let r := cells.map (drainCell t.cls f 0)
    (r.map (·.1), [], orFlags (r.map (·.2)))
  else
    let bs := (chunksOf L 256 cells).map (fun b => (b, blockScale t.cls f b))
    let r : List (List Nat × Byte × Flags) := bs.map (fun e => match e.2 with
      | none => (e.1.map (fun _ => 0), 0x80#8, 0#5)
      | some k =>
        let x := e.1.map (drainCell t.cls f k)
        (x.map (·.1), BitVec.ofInt 8 k, orFlags (x.map (·.2))))
    (r.flatMap (·.1), r.map (fun x => x.2.1), orFlags (r.map (fun x => x.2.2)))

/-- Elements packed in memory, w bits each (R58). -/
def packElems (w : Nat) (es : List Nat) : List Byte :=
  bytesOfNat (es.foldr (fun e acc => e % 2 ^ w + acc * 2 ^ w) 0) (w * es.length / 8)

/-- The bytes of an element or scale destination. -/
def drainLengths (cls f L : Nat) : Nat × Nat :=
  let cells := if cls = 2 then 128 else 256
  (drainBits f * cells / 8, if L = 0 then 0 else cells / L)

/-- Writes of at most 64 bytes over the stretches of a destination; one that crosses stretches takes the stronger of their
attributes (R293, R329). -/
def drainChunks (ss : List Span) (bs : List Byte) : List DrainWrite :=
  let a := (ss.head?.map (·.va)).getD 0
  (chunksOf 64 64 bs).zipIdx.flatMap (fun e =>
    let lo := a + 64 * e.2
    let hi := lo + e.1.length
    let hit := ss.filter (fun x => decide (x.va < hi) && decide (lo < x.va + x.len))
    hit.map (fun x =>
      let u := max lo x.va
      { va := u, ia := x.ia + (u - x.va), attr := strongest hit, bytes := (e.1.drop (u - lo)).take (min hi (x.va + x.len) - u) }))

def Line.drainOf (l : Line) (q : Nat) : Option DrainSeq := look l.drains q
def State.drains (s : State) (c v line : Nat) : Tbl Nat DrainSeq := (s.line c v line).drains
def State.modDrain (s : State) (c v line q : Nat) (f : DrainSeq → DrainSeq) : State :=
  s.modLine c v line (fun x => match look x.drains q with
    | some d => { x with drains := put x.drains q (f d) }
    | none => x)
def State.dropDrain (s : State) (c v line q : Nat) : State := s.modLine c v line (fun x => { x with drains := del x.drains q })

/-- The held accesses of a quarter's lanes for a drain that cannot write yet: the lowest lane's writes, which the others
follow (R150, R185). -/
def State.holdDrain (s : State) (c v line q : Nat) (d : DrainSeq) (fault : Option Nat) : State :=
  let l0 := d.lanes.headD 0
  let s := s.modDrain c v line q (fun x => { x with held := true })
  d.lanes.foldl (fun s l => s.modThread ⟨c, v, line, l⟩ (fun t => { t with held := t.held ++
    [{ pos := d.pos, req := if l = l0 then .drain line q else .follow l0 d.pos, faulted := fault }] })) s

/-! ## The tile store (R328) -/

/-- Rows that a tile uses: one for its root, or one for each entry of its stack. -/
def Tile.rows (t : Tile) : Nat := t.entries.length
/-- Where a tile's rows go in the backing area of its line's launch; the spec gives no layout (notes/assumptions/97.md). -/
def State.tilePlace (s : State) (c v line key : Nat) : Nat :=
  match look s.launches (s.line c v line).launch with
  | none => 0
  | some l => (rbArea l.recd).1 + Config.tilePlace v line key % ((rbArea l.recd).2 + 1)

/-! ## Passes -/

def tileKey (q n : Nat) : Nat := 16 * q + n
def Line.tile (l : Line) (q n : Nat) : Tile := (look l.tiles (tileKey q n)).getD {}
def Line.setTile (l : Line) (q n : Nat) (t : Tile) : Line :=
  { l with tiles := if t == {} then del l.tiles (tileKey q n) else put l.tiles (tileKey q n) t }

def State.queue (s : State) (c v q : Nat) : List Pass := (look (s.core c v).engines q).getD []
def State.setQueue (s : State) (c v q : Nat) (l : List Pass) : State :=
  s.modCore c v (fun x => { x with engines := if l.isEmpty then del x.engines q else put x.engines q l })

def Pass.tile : Pass → Nat
  | .mma _ t _ _ _ _ _ _ _ _ _ _ => t
  | .clear _ t => t
  | .read _ t _ _ _ => t
  | .drain _ t _ _ _ _ _ _ => t
/-- Does a pass name a reservation? -/
def Pass.names (p : Pass) (n : Nat) : Bool :=
  match p with
  | .mma _ _ a b _ _ _ _ _ _ _ _ => a == n || b == n
  | _ => false

/-- The shapes that a tile has as the passes queued on it are done, the last first: its stack without values. -/
def State.shapesAfter (s : State) (c v line q n : Nat) : List Tile :=
  ((s.queue c v q).filter (fun p => p.line == line && p.tile == n)).foldl (fun (ts : List Tile) p =>
    let t := ts.headD {}
    (match p with
    | .mma _ _ _ _ ra rb w _ _ _ _ _ => t.addChunk (mmaClass ra rb) (rsKext ra + 1) (cwKc w) [] 0#5
    | .clear _ _ => {}
    | .read .. | .drain .. => t) :: ts) [(s.line c v line).tile q n]
/-- The shape that a tile will have once they are done. -/
def State.shapeAfter (s : State) (c v line q n : Nat) : Tile := (s.shapesAfter c v line q n).headD {}
/-- The rows that the tile needs until then (R328). -/
def State.rowsAfter (s : State) (c v line q n : Nat) : Nat := (s.shapesAfter c v line q n).foldl (fun m t => max m t.rows) 0

/-- Tiles of a quarter whose rows are in its engine's store, or will be: line, key, and the rows that each needs until the passes
queued on it are done. -/
def State.tilesIn (s : State) (c v q : Nat) : List (Nat × Nat × Nat) :=
  let here := s.lines.flatMap (fun e => if e.1.ctx = c ∧ e.1.vc = v then
    e.2.tiles.filterMap (fun t => if t.1 / 16 = q ∧ (look e.2.tileAway t.1).isNone then some (e.1.line, t.1) else none) else [])
  (dedup (here ++ (s.queue c v q).map (fun p => (p.line, tileKey q p.tile)))).map (fun k => (k.1, k.2, s.rowsAfter c v k.1 q (k.2 % 16)))

/-- The value of an entry as `acc.rd` gives it (R182). -/
def cellWords (cls : Nat) (x : DWord) : List Word :=
  of64 (if cls = 3 then BitVec.ofInt 64 (toSigned 56 x.toNat) else x)

/-- `acc.rd` of one selector. -/
def readTile (t : Tile) (sel : Word) : List Word :=
  let form := bits sel.toNat 12 2
  let e := t.sorted[bits sel.toNat 8 4]?
  match form, e with
  | 0, some e => cellWords t.cls (e.cells.getD (bits sel.toNat 0 8) 0#64)
  | 1, some e => [BitVec.ofNat 32 e.index, BitVec.ofNat 32 (2 ^ 31 + (if t.complete then 2 ^ 30 else 0) + e.level)]
  | 2, _ => [BitVec.ofNat 32 (t.flags.toNat + t.cls * 256 + (if t.complete then 1024 else 0)), BitVec.ofNat 32 (t.k - 1)]
  | _, _ => [0#32, 0#32]

/-- The lanes that a pass reads its tile for, what they push, and their position. -/
def Pass.consumers : Pass → List Nat
  | .mma _ _ _ _ _ _ _ _ _ _ lanes _ => lanes
  | .clear _ _ => []
  | .read _ _ _ reply _ => reply.lanes
  | .drain _ _ _ _ lanes _ _ _ => lanes
def Pass.pushes : Pass → List Push
  | .read _ _ _ reply _ => reply.pushes
  | _ => []
def Pass.place : Pass → Pos
  | .mma _ _ _ _ _ _ _ _ _ _ _ pos => pos
  | .drain _ _ _ _ _ pos _ _ => pos
  | .read _ _ _ _ pos => pos
  | .clear _ _ => ⟨0, false⟩

/-- So many more accesses fit among those that a core holds (R150). -/
def State.heldRoom (s : State) (c v n : Nat) : Bool := decide (((s.coreThreads c v).map (fun e => e.2.held.length)).sum + n ≤ Config.heldLimit)

/-- A pass takes effect. A tile store that cannot be read stops the lanes of the pass (R393). An `mma` reads its scratchpad bytes as loads of its lanes (R175, R216); a byte that is uncorrectable stops
them (R390). A drain's values and flags fill its quarter's sequencer; where its lowest lane still holds accesses, its writes are
held behind them, if the core has room (R150, R185). -/
def State.runPass (s : State) (c v q : Nat) (p : Pass) : State :=
  let s := s.modCore c v (fun x => { x with tileUsed := x.tileUsed.filter (· != (p.line, tileKey q p.tile)) ++ [(p.line, tileKey q p.tile)] })
  let store := s.readStore (.tile c v p.line (tileKey q p.tile))
  let s := store.2
  if store.1 && p.consumers != [] then (s.unreserve p.pushes).takeTrap ⟨c, v, p.line⟩ (p.consumers.filter (fun k => (look s.threads ⟨c, v, p.line, k⟩).isSome))
    p.place (s.storeCheck c v) else
  match p with
  | .mma l n _ _ ra rb w fn _ _ lanes pos =>
    let reads := mmaReads (s.core c v).scratch ra rb w fn q
    match if s.badChip.isEmpty && s.badSyms.isEmpty then none else reads.find? (fun a => (s.badAt (s.chipAt c v .c a) 1).isSome) with
    | some a =>
      let here := lanes.filter (fun k => (look s.threads ⟨c, v, l, k⟩).isSome)
      let tr := s.chipCheck (s.chipAt c v .c a) a
      if here.isEmpty then s.reportError 4 0 c (s.chipLoc (s.chipAt c v .c a)) a else s.takeTrap ⟨c, v, l⟩ here pos tr
    | none =>
    let s := (s.observe s c v { kind := .load, vc := v, line := l, lanes := lanes, pos := pos } .c (spansOf reads) true false).noteRead
      (reads.map (s.chipAt c v .c))
    let r := mmaNodes (s.core c v).scratch ra rb w fn q
    s.modLine c v l (fun x => x.setTile q n ((x.tile q n).addChunk (mmaClass ra rb) (rsKext ra + 1) (cwKc w) r.1 r.2))
  | .clear l n => s.modLine c v l (fun x => x.setTile q n {})
  | .read l n sel reply _ =>
    let t := (s.line c v l).tile q n
    s.post (.longLatencyReturn (replyResult reply (sel.map (fun e => (e.1, readTile t e.2, 0#5)))))
  | .drain l n f L lanes pos se sd =>
    let t := (s.line c v l).tile q n
    let r := drainValues t f L
    let d : DrainSeq := { lanes := lanes, pos := pos, writes := drainChunks se (packElems (drainBits f) r.1) ++ drainChunks sd r.2.1 }
    let s := lanes.foldl (fun s k => s.modThread ⟨c, v, l, k⟩ (fun x => { x with fst := x.fst ||| t.flags ||| r.2.2 })) s
    let s := s.modLine c v l (fun x => { x with drains := put x.drains q d })
    if (s.thread ⟨c, v, l, lanes.headD 0⟩).held.isEmpty || !s.heldRoom c v lanes.length then s.post (.drainSeqWrite c v l q) else s.holdDrain c v l q d none

/-- The first pass of an engine's queue starts. -/
def State.startPass (s : State) (c v q : Nat) : State :=
  match s.queue c v q with
  | [] => s
  | p :: r => (s.setQueue c v q r).runPass c v q p

/-- The passes of an engine up to the last that names one of these reservations have read their data. -/
def State.runNaming (s : State) (c v q : Nat) (ns : List Nat) : Nat → State
  | 0 => s
  | fuel + 1 => if (s.queue c v q).any (fun p => ns.any p.names) then State.runNaming (s.startPass c v q) c v q ns fuel else s

/-- The reservations of a group, on whichever cores of its context, are released after the passes that name them (R33, R143,
R173). -/
def State.releaseOprs (s : State) (c : Nat) (owner : Nat × Nat) : State :=
  s.cores.foldl (fun s e =>
    let v := e.1.vc
    let ns := (e.2.oprs.filter (fun o => o.2.owner == owner)).map (·.1)
    if e.1.ctx ≠ c || ns.isEmpty then s else
    let s := (List.range 4).foldl (fun s q => State.runNaming s c v q ns 8) s
    s.modCore c v (fun x => { x with oprs := x.oprs.filter (fun o => o.2.owner != owner) })) s

end Sys2Proof.Machine
end

