-- ==== Sys2Proof/Machine/Group.lean ====
section
/-!
DEFINITION. Groups and barriers (R20, R140 to R145), scope generations (R37 to R39), the end of a `step` (R217, R383),
the exit of a thread (R136), and the meanings of `gnew`, `join`, `leave` and `bar`.
-/
namespace Sys2Proof.Machine

/-! ## Handles and membership -/

def noGroup : Word := 0xFFFFFFFF#32

/-- A group handle (R140). -/
def groupHandle (base core : Nat) (square : Bool) (gen num : Nat) : Word :=
  BitVec.ofNat 32 (base % 1024 * 2 ^ 22 + core % 16 * 2 ^ 18 + (if square then 2 ^ 17 else 0) + gen % 64 * 2 ^ 11 + num % 32)

/-- A group of a context with the virtual core that holds its record and its number. -/
structure GroupAt where
  vc : Nat
  num : Nat
  g : Group
deriving DecidableEq, Repr

/-- The groups of a context. -/
def State.groupsOf (s : State) (c : Nat) : List GroupAt :=
  s.cores.flatMap (fun e => if e.1.ctx = c then e.2.groups.map (fun g => ⟨e.1.vc, g.1, g.2⟩) else [])

/-- The group of a thread (R20). -/
def State.groupOf (s : State) (c : Nat) (m : Member) : Option GroupAt := (s.groupsOf c).find? (fun x => x.g.members.contains m)

def State.modGroup (s : State) (c v num : Nat) (f : Group → Group) : State :=
  s.modCore c v (fun x => match look x.groups num with
    | none => x
    | some g => { x with groups := put x.groups num (f g) })

/-- The record of a thread's group: virtual core and number. -/
def State.groupKey (s : State) (c : Nat) (m : Member) : Nat × Nat :=
  match s.groupOf c m with
  | some x => (x.vc, x.num)
  | none => (0, 0)

/-- The group that a handle names for a core: the live group of the context on the core that the handle names, by the square and
the number of their first placements (R44, R140, R142); none if the handle is stale, or names a square group whose record now
stands in another square. -/
def State.groupNamed (s : State) (c v : Nat) (h : Word) : Option GroupAt :=
  let x := h.toNat
  if bits x 5 6 ≠ 0 then none else
  (s.groupsOf c).find? (fun y => y.num == bits x 0 5 && y.g.core == bits x 18 4 && y.g.gen == bits x 11 6 &&
    s.homeOf c y.vc % 16 == bits x 18 4 && squareOf (s.homeOf c y.vc) == squareOf (s.homeOf c v) &&
    (match s.phys? c y.vc with
     | some p => !y.g.square || squareOf p == squareOf (s.phys c v)
     | none => false))

/-! ## Scope generations (R37 to R39) -/

def vmaskOf (n : Nat) : Nat := 2 ^ n - 1

/-- `scope_gen` for a thread: the entry's valid bit, generation, point, cset and vmask as it stands. -/
def State.scopeGen (s : State) (c : Nat) (m : Member) (sc : Nat) : ScopeGen :=
  let n := (s.ctx c).n
  match sc with
  | 0 => ⟨true, 0, 0, 0xFF, 2 ^ m.vc⟩
  | 1 => match s.groupOf c m with
    | none => ⟨false, 0, 1, 0xFF, 0⟩
    | some x => ⟨true, 0, 1, 0xFF, laneMask (x.g.members.map (·.vc))⟩
  | 2 => ⟨true, 0, 1, 0xFF, vmaskOf n⟩
  | 3 => ⟨true, 0, 2, 0xFF, vmaskOf n⟩
  | k => (look (s.ctx c).scopes k).getD ⟨false, 0, 1, 0, 0⟩

/-! ## Barriers (R144, R145) -/

/-- Every current member has arrived. -/
def phaseDone (g : Group) : Bool := !g.members.isEmpty && g.members.all (fun m => g.arrived.contains m)

/-- The phase completes: each waiting thread performs an acquire under sc1 and continues, and a new phase opens. It waits while
the sweep of an acquire at a wrap has bytes held (R401). -/
def State.completePhase (s : State) (c v num : Nat) : State :=
  match look (s.core c v).groups num with
  | none => s
  | some g =>
    if !phaseDone g then s else
    let cores := dedup (g.arrived.map (·.vc))
    let s := cores.foldl (fun s v' => s.preSweep c v' 0xFF 1) s
    if cores.any (fun v' => s.acqWaits c v' 0xFF 1) then s else
    let s := cores.foldl (fun s v' => s.acquire c v' 0xFF 1) s
    let s := g.arrived.foldl (fun s m => s.modThread ⟨c, m.vc, m.line, m.lane⟩ (fun t => if t.stat = .bar then { t with stat := .run } else t)) s
    s.modGroup c v num (fun g => { g with arrived := [] })
/-- Phases that wait for nothing more complete. -/
def State.completePhases (s : State) (c : Nat) : State := (s.groupsOf c).foldl (fun s x => s.completePhase c x.vc x.num) s

/-- A thread arrives at its group's phase. -/
def State.arriveBar (s : State) (c : Nat) (m : Member) : State :=
  match s.groupOf c m with
  | none => s
  | some x =>
    let s := s.modThread ⟨c, m.vc, m.line, m.lane⟩ (fun t => { t with stat := .bar })
    s.modGroup c x.vc x.num (fun g => { g with arrived := g.arrived ++ [m] })

/-! ## Leaving and dissolving (R143, R145) -/

/-- A launch whose threads have all exited and whose auto-groups have dissolved completes (R238). -/
def State.checkLaunch (s : State) (uid : Nat) : State :=
  match look s.launches uid with
  | none => s
  | some l =>
    if l.live = 0 && l.units.isEmpty && l.placed && l.groups.isEmpty && l.state == .started && !s.agenda.contains (.launchComplete uid) then
      s.post (.launchComplete uid)
    else s

/-- Units that wait for room try again (R233, R234). -/
def State.wakeUnits (s : State) : State :=
  s.launches.foldl (fun s e =>
    if e.2.state == .started && !e.2.units.isEmpty && !s.agenda.contains (.unitPlace e.1) then s.post (.unitPlace e.1) else s) s

/-- The square whose memory a job's address names: where the context's allocation stands, or the span that it returns from, which
its issuing core's square was at admission. -/
def State.jobSquare (s : State) (c : Nat) (j : Job) (a : Nat) : Nat :=
  let holds (q : Nat) : Bool := (s.square q).allocs.any (fun x => x.ctx == c && decide (x.base ≤ a) && decide (a < x.base + x.len)) ||
    s.cores.any (fun e => e.1.ctx == c && e.2.returning.any (fun x => x.sq == some q && decide (x.base ≤ a) && decide (a < x.base + x.len)))
  if holds j.square then j.square else
  match s.squares.find? (fun e => holds e.1) with
  | some e => e.1
  | none => j.square

/-- The jobs in flight that name bytes of a span, with their generations: in a square's memory or a core's scratchpad. -/
def State.jobsIn (s : State) (c v : Nat) (sq : Option Nat) (lo len : Nat) : List (Nat × Nat) :=
  ((s.ctx c).jobs.filter (fun e => !e.2.retired &&
    (match sq with
     | some q => s.jobSquare c e.2 lo == q
     | none => e.2.vc == v) &&
    e.2.ivals.any (fun i => i.lvl == (if sq.isSome then Lvl.q else Lvl.c) && i.spans.any (fun x => x.1 < lo + len && lo ≤ x.2)))).map (fun e => (e.1, e.2.gen))

/-- The square that holds a group's allocation; the one of its record's core if it has none. -/
def State.groupSquare (s : State) (c v num : Nat) : Nat :=
  ((s.squares.find? (fun e => e.2.allocs.any (fun a => a.ctx == c && a.vc == v && a.num == num))).map (·.1)).getD (squareOf (s.phys c v))

/-- The last member has left: reservations are released, the span returns once the jobs that then stand in it have retired, the
number becomes free (R20, R33, R143). -/
def State.dissolve (s : State) (c v num : Nat) (g : Group) : State :=
  let q := s.groupSquare c v num
  let s := s.settleHalves (fun h => h.ctx == c && h.sq.isSome)
  let s := s.releaseOprs c (v, num)
  let sq := if g.square then some q else none
  let jobs := s.jobsIn c v sq (g.base * 4096) (g.alloc * 4096)
  let s := s.modSquare q (fun x => { x with allocs := x.allocs.filter (fun a => !(a.ctx == c && a.vc == v && a.num == num)) })
  let s := s.modCtx c (fun x => { x with slices := x.slices.filter (fun e => !(e.1.vc == v && e.1.num == num)) })
  let s := s.modCore c v (fun x => { x with
    groups := del x.groups num
    returning := if g.alloc = 0 || jobs.isEmpty then x.returning
      else x.returning ++ [{ sq := sq, base := g.base * 4096, len := g.alloc * 4096, jobs := jobs }] })
  let s := match g.launch with
    | none => s
    | some uid =>
      let s : State := match look s.launches uid with
        | none => s
        | some l => { s with launches := put s.launches uid { l with groups := l.groups.filter (· != (v, num)) } }
      s.checkLaunch uid
  s.wakeUnits

/-- A thread leaves its group, if it has one. -/
def State.leaveGroup (s : State) (c : Nat) (m : Member) : State :=
  match s.groupOf c m with
  | none => s
  | some x =>
    let g := { x.g with members := x.g.members.filter (· != m), arrived := x.g.arrived.filter (· != m) }
    let s := s.modThread ⟨c, m.vc, m.line, m.lane⟩ (fun t => { t with group := noGroup })
    let s := s.modGroup c x.vc x.num (fun _ => g)
    if g.members.isEmpty then s.dissolve c x.vc x.num g else s.completePhase c x.vc x.num

/-! ## Spans (R141) -/

/-- A returned span is still taken: a job that was in it has not retired (R143). -/
def State.stillTaken (s : State) (c : Nat) (r : Returning) : Bool :=
  r.jobs.any (fun j => match look (s.ctx c).jobs j.1 with
    | some x => x.gen == j.2 && !x.retired
    | none => false)

/-- Spans of the scratchpad, or of the square's memory, that are not free. -/
def State.takenSpans (s : State) (c v : Nat) (sq : Bool) : List (Nat × Nat) :=
  let q := squareOf (s.phys c v)
  let back (k : CoreKey) (x : Core) (sq : Option Nat) := (x.returning.filter (fun r => r.sq == sq && s.stillTaken k.ctx r)).map (fun r => (r.base, r.len))
  if sq then
    (s.square q).allocs.map (fun a => (a.base, a.len)) ++ s.cores.flatMap (fun e => back e.1 e.2 (some q)) ++
      (List.range 16).filterMap (fun k => if s.corePresent (16 * q + k) then none else some (k * 2 ^ 18, 2 ^ 18))
  else
    (s.core c v).groups.filterMap (fun g => if g.2.square || g.2.alloc = 0 then none else some (g.2.base * 4096, g.2.alloc * 4096)) ++
      back ⟨c, v⟩ (s.core c v) none

/-- The lowest free span of so many 4-KiB units: its base in units. -/
def lowestSpan (taken : List (Nat × Nat)) (units total : Nat) : Option Nat :=
  if units = 0 then some 0 else
  (List.range (total + 1 - units)).find? (fun b => taken.all (fun t => t.1 + t.2 ≤ b * 4096 || (b + units) * 4096 ≤ t.1))

/-- Making a group: its handle, or the failure value of R141. Number, span and membership as `gnew` gives them. The manual does
not say which free number is taken, nor the generation of a number's first use: the lowest, and 0 (DESIGN CHOICE,
notes/assumptions/94.md). -/
def State.makeGroup (s : State) (c v : Nat) (sq : Bool) (alloc cap : Nat) (launch : Option Nat) (ms : List Member) : Word × State :=
  match leastFree ((s.core c v).groups.map (·.1)) 32 with
  | none => (0xFFFFFFFF#32, s)
  | some num =>
    match lowestSpan (s.takenSpans c v sq) alloc (if sq then 1024 else 256) with
    | none => (0xFFFFFFFE#32, s)
    | some base =>
      let s := ms.foldl (fun s m => s.leaveGroup c m) s
      let phys := s.phys c v
      let gen := (look (s.core c v).groupGens num).getD 0
      let s := s.clearBad (s.chipAt c v (if sq then .q else .c) (base * 4096)) (alloc * 4096)
      let h := groupHandle base (s.homeOf c v % 16) sq gen num
      let g : Group := { gen := gen, core := s.homeOf c v % 16, square := sq, base := base, alloc := alloc, cap := cap, launch := launch, members := ms, arrived := [] }
      let s := s.modCore c v (fun x => { x with
        groups := put x.groups num g
        groupGens := put x.groupGens num ((gen + 1) % 64)
        scratch := if sq || alloc = 0 then x.scratch else x.scratch.zero (base * 4096) ((base + alloc) * 4096 - 1) })
      let s := if sq && alloc ≠ 0 then s.modSquare (squareOf phys) (fun q => { q with
          sqm := q.sqm.zero (base * 4096) ((base + alloc) * 4096 - 1)
          allocs := q.allocs ++ [{ ctx := c, vc := v, num := num, base := base * 4096, len := alloc * 4096 }] }) else s
      (h, ms.foldl (fun s m => s.modThread ⟨c, m.vc, m.line, m.lane⟩ (fun t => { t with group := h })) s)

/-! ## The end of a `step` (R217, R383) -/

/-- The step in progress on a core ends: dbst is written in the stepping context, d becomes 0, and its gang goes on. -/
def State.endStep (s : State) (c v code : Nat) : State :=
  match (s.core c v).step with
  | none => s
  | some st =>
    let r := st.reply
    let s := s.modCore c v (fun x => { x with step := none })
    let s := s.modCtx r.ctx (fun x => { x with set := { x.set with dbst := BitVec.ofNat 32 (code * 2 ^ 24 + st.made % 2 ^ 16) } })
    let s := s.applyResult (replyResult r (r.lanes.map (fun l => (l, [0#32], 0#5))))
    let id := s.aux.serial
    (r.lanes.foldl (fun s l => s.modThread ⟨r.ctx, r.vc, r.line, l⟩ (fun t =>
      { t with pos := nextPos t, opened := nextOpened t, stat := if st.sb then .sync id else .run })) s).bump

/-- Is a line stepped, and not yet at the end of its step? -/
def State.stepped (s : State) (c v line : Nat) : Bool :=
  match (s.core c v).step with
  | some st => st.line == line
  | none => false

/-! ## The exit of a thread (R136, R145, R232, R245) -/

/-- The writes of a drain that its line leaves behind are sent at once (R136, R232). One that has to wait for a job, or whose
page faults, or whose release has to wait, is held at the gateway as a write-back is, since no lane is left to park
(notes/assumptions/95.md). -/
def State.sendDrain (s : State) (c v line : Nat) (d : DrainSeq) : State :=
  d.writes.foldl (fun s w =>
    let l := w.bytes.zipIdx.map (fun e => (w.ia + e.2, e.1))
    let mine (la : Nat) : List (Nat × Byte) := l.filter (fun e => lineOf e.1 == la)
    let hold (s : State) : State := { s with wbHeld := s.wbHeld ++ (dedup (l.map (fun e => lineOf e.1))).map (fun la =>
      { ctx := c, vc := v, ia := la, bytes := mine la, so := decide (w.attr = 2)
        stores := (mine la).map (fun e => (e.1 - la, ⟨line, d.lanes.headD 0, d.pos, false⟩)) }) }
    if s.boardWaits c v .g [(w.ia, w.ia + w.bytes.length - 1)] true then hold s else
    let s := if w.attr = 2 then s.release c v 0xFF 2 else s
    if w.attr == 2 && s.relWaits c v 0xFF 2 then hold s else
    match s.storeHome c v { kind := .store, vc := v, line := line, lanes := [d.lanes.headD 0], pos := d.pos } l with
    | .ok t => if w.attr = 2 then t.acquire c v 0xFF 2 else t
    | .error (.page f) =>
      let n : FaultNote := { ctx := c, vc := v, line := 0, die := dieOf (s.phys c v), src := 0, cause := f.cause, kind := 1
                             vcache := f.vcn, lvl := f.lvl, ia := f.ia, va := 0, lanes := [], job := none }
      if f.waits || s.wbNoted n then hold s else (hold s).post (.writebackFault n)
    | .error _ => hold s) s

/-- A line is released when every thread placed in it has exited (R232). -/
def State.releaseLine (s : State) (c v line : Nat) : State :=
  if (s.lineThreads c v line).isEmpty then
    let s := (s.line c v line).drains.foldl (fun s d => s.sendDrain c v line d.2) s
    let s : State := { s with lines := del s.lines ⟨c, v, line⟩ }
    (s.modCore c v (fun x => { x with
      engines := (x.engines.map (fun e => (e.1, e.2.filter (fun p => p.line != line)))).filter (fun e => !e.2.isEmpty)
      gangs := x.gangs.filter (fun g => g.line != line) })).wakeUnits
  else s

def State.exitThread (s : State) (p : Place) : State :=
  match look s.threads p with
  | none => s
  | some t =>
    let s := s.leaveGroup p.ctx ⟨p.vc, p.line, p.lane⟩
    let s : State := { s with threads := del s.threads p }
    let s : State := match look s.launches t.launch with
      | none => s
      | some l => { s with launches := put s.launches t.launch { l with live := l.live - 1 } }
    (s.releaseLine p.ctx p.vc p.line).checkLaunch t.launch

/-! ## The meanings -/

/-- Accesses that a core holds (R150). -/
def State.heldCount (s : State) (c v : Nat) : Nat := ((s.coreThreads c v).map (fun e => e.2.held.length)).sum

/-- A lane's quarter has a sequencer that still writes, other than as a held access of the lane: a release of the lane waits for
it (R322). -/
def State.draining (s : State) (c v line lane : Nat) : Bool := (s.line c v line).drains.any (fun d => d.1 == lane / 8 && !d.2.held)

/-- An instruction that acts once its S point has passed (R76, R138, R144): its lanes wait at their position for
their results, and lanes with held accesses park there. None if nothing is awaited. -/
def State.syncFirst (s : State) (keep : Thread → Bool) : Option State :=
  let lanes := s.issue.lanes
  if lanes.any (fun l => s.outstanding ⟨s.issue.ctx, s.issue.vc, s.issue.line, l⟩ || (keep (s.lane l) && !(s.lane l).held.isEmpty)) then
    some (s.moveTo true lanes (fun _ t => (t.pos, t.opened)))
  else none

def State.issMember (s : State) (l : Nat) : Member := ⟨s.issue.vc, s.issue.line, l⟩

/-- `gnew d, a, m` (R141). -/
def execGnew (sw : Bool) (d a : Fld) (m : Bool) (s : State) : Host.Outcome State Fault Refusal :=
  match s.prepare false (da 1 1 d a) with
  | .halt s => .next s
  | .go lanes vals s =>
    let x := (w32 (arg ((vals.headD (0, [])).2) 0)).toNat
    let alloc := bits x 20 12
    let cap := bits x 0 11
    let bad := decide (bits x 11 9 ≠ 0) || decide ((if m then 1024 else 256) < alloc) || decide (cap = 0) ||
      decide ((if m then 1024 else 512) < cap) || decide (cap < lanes.length)
    let r := if bad then (0xFFFFFFFD#32, s) else
      s.makeGroup s.issue.ctx s.issue.vc m alloc cap none (lanes.map s.issMember)
    .next ((r.2.deliver (readsChannel (da 1 1 d a)) lanes ⟨.dst, d, 1⟩ (lanes.map (fun l => (l, of32 r.1, 0#5)))).finish sw lanes)

/-- `join a` (R142). -/
def execJoin (_sw : Bool) (a : Fld) (s : State) : Host.Outcome State Fault Refusal :=
  match s.prepare false [⟨.src, a, 1⟩] with
  | .halt s => .next s
  | .go lanes vals s =>
    let h := w32 (arg ((vals.headD (0, [])).2) 0)
    let c := s.issue.ctx
    let fail (k : Nat) : Host.Outcome State Fault Refusal := .next (s.takeTrap s.issKey lanes s.issue.pos { code := .group, cause := k, info := h.toNat })
    match s.groupNamed c s.issue.vc h with
    | none => fail 1
    | some x =>
      if !x.g.square && x.vc ≠ s.issue.vc then fail 2 else
      let new := (lanes.map s.issMember).filter (fun m => !x.g.members.contains m)
      if x.g.cap < x.g.members.length + new.length then fail 3 else
      let s := new.foldl (fun s m => s.leaveGroup c m) s
      let s := s.modGroup c x.vc x.num (fun g => { g with members := g.members ++ new })
      let s := new.foldl (fun s m => s.modThread ⟨c, m.vc, m.line, m.lane⟩ (fun t => { t with group := h })) s
      .next (s.finish true lanes)

/-- `leave` (R143). -/
def execLeave (_sw : Bool) (s : State) : Host.Outcome State Fault Refusal :=
  let lanes := s.issue.lanes
  .next ((lanes.foldl (fun s l => s.leaveGroup s.issue.ctx (s.issMember l)) s).finish true lanes)

/-- `bar` (R144, R145, R150): after the S point, a release under sc1 and the arrival. Lanes with held accesses hold
the barrier as well and park past it. -/
def execBar (_sw : Bool) (s : State) : Host.Outcome State Fault Refusal :=
  match s.syncFirst (fun _ => false) with
  | some s => .next s
  | none =>
    let c := s.issue.ctx
    let v := s.issue.vc
    let lanes := s.issue.lanes
    let held := lanes.filter (fun l => !(s.lane l).held.isEmpty)
    let free := lanes.filter (fun l => (s.lane l).held.isEmpty)
    let inGroup := free.filter (fun l => (s.groupOf c (s.issMember l)).isSome)
    let s1 := if inGroup.isEmpty then s else s.release c v 0xFF 1
    if !inGroup.isEmpty && s1.relWaits c v 0xFF 1 then .next s1.stall else
    if !held.isEmpty && decide (Config.heldLimit < s.heldCount c v + held.length) then .next s.stall else
    if (inGroup ++ held).any (fun l => s.draining c v s.issue.line l) then .next s.stall else
    let s2 := s1.modLanes held (fun t => { t with held := t.held ++ [{ pos := s.issue.pos, req := .barrier }] })
    let s3 := s2.finish true held
    let s4 := s3.finish false free
    let s5 := inGroup.foldl (fun s l => s.arriveBar c (s.issMember l)) s4
    let s6 := (dedup (inGroup.filterMap (fun l => (s.groupOf c (s.issMember l)).map (fun x => (x.vc, x.num))))).foldl
      (fun s g => s.completePhase c g.1 g.2) s5
    let waits := inGroup.any (fun l => (s6.lane l).stat == .bar)
    .next (if waits && s6.stepped c v s.issue.line then s6.endStep c v 1 else s6)

end Sys2Proof.Machine
end

