-- ==== Sys2Proof/Machine/Saltern.lean ====
section
/-!
DEFINITION. The saltern (R247 to R266): pans, routes and the apex, meeting, spilling to the brine region, close
markers, resolution and the final writes; and the fabric grid on which collective partials travel (R365, R366, R368).
-/
namespace Sys2Proof.Machine

/-! ## Slot descriptors (R186) -/

def sdExt (d : BitVec 512) : Nat := bits d.toNat 0 48 + 1
def sdTrees (d : BitVec 512) : Nat := bits d.toNat 64 24 + 1
def sdOp (d : BitVec 512) : Nat := bits d.toNat 88 4
def sdFmt (d : BitVec 512) : Nat := bits d.toNat 92 4
def sdMode (d : BitVec 512) : Bool := bit d.toNat 96
def sdAccm (d : BitVec 512) : Bool := bit d.toNat 97
def sdDest (d : BitVec 512) : Nat := bits d.toNat 128 57
def sdBrine (d : BitVec 512) : Nat := bits d.toNat 192 57
def sdBrsz (d : BitVec 512) : Nat := bits d.toNat 256 32

def State.slotOf (s : State) (c n : Nat) : Slot := (look (s.ctx c).slots n).getD {}
def State.modSlot (s : State) (c n : Nat) (f : Slot → Slot) : State :=
  s.modCtx c (fun x => { x with slots := put x.slots n (f ((look x.slots n).getD {})) })

/-! ## The fabric grid (R365, R366) -/

def fabDims (r : BitVec 512) : Nat := bits r.toNat 2 2 + 1
def fabMode (r : BitVec 512) : Nat := bits r.toNat 0 2
def fabSize (r : BitVec 512) (i : Nat) : Nat := bits r.toNat (32 + 8 * i) 8 + 1
def fabCoord (r : BitVec 512) (i : Nat) : Nat := bits r.toNat (64 + 8 * i) 8
def fabCoords (r : BitVec 512) : List Nat := (List.range 4).map (fabCoord r)
def gridDims (mask : Nat) : List Nat := (List.range 4).filter (fun i => mask.testBit i)

/-- Ranks of a collective: the product of the sizes of its dimensions (R202). -/
def State.collRanks (s : State) (mask : Nat) : Nat := ((gridDims mask).map (fabSize s.hub.fabric.recd)).foldl (· * ·) 1
/-- The rank of a coordinate: mixed radix, lowest dimension fastest (R202). -/
def rankOf (r : BitVec 512) (coords : List Nat) : List Nat → Nat
  | [] => 0
  | i :: is => coords.getD i 0 + fabSize r i * rankOf r coords is
/-- The coordinates of a rank. -/
def coordOfRank (r : BitVec 512) : List Nat → Nat → List Nat → List Nat
  | [], _, cs => cs
  | i :: is, k, cs => coordOfRank r is (k / fabSize r i) (setNth cs i (k % fabSize r i))

/-- The direction of the next hop (R366): lowest differing dimension, shorter way, + on a tie. -/
def hopDir (r : BitVec 512) (dst : List Nat) : Option Nat :=
  let me := fabCoords r
  match (List.range (fabDims r)).find? (fun i => me.getD i 0 != dst.getD i 0) with
  | none => none
  | some i =>
    let n := fabSize r i
    let up := (dst.getD i 0 + n - me.getD i 0) % n
    some (2 * i + (if up ≤ n - up then 0 else 1))
def portsOfDir (r : BitVec 512) (dir : Nat) : List Nat :=
  let n := if fabDims r ≤ 2 then 8 else if fabDims r = 3 then 5 else 4
  (List.range n).map (fun k => n * dir + k)
def State.portUp (s : State) (p : Nat) : Bool :=
  match look s.hub.fabric.ports p with
  | some .up => true
  | some .half => true
  | _ => false
/-- The dimension of a port, and the class of the next hop (R366): a message starts each dimension in class 0 and moves to class 1
where it crosses the dateline. `came` is the port and the class by which it reached this device. -/
def dimOfPort (r : BitVec 512) (q : Nat) : Nat := q / (portsOfDir r 0).length / 2
def hopClass (r : BitVec 512) (came : Option (Nat × Nat)) (d : Nat) : Nat :=
  let i := d / 2
  let crosses := fabCoord r i == (if d % 2 = 0 then fabSize r i - 1 else 0)
  match crosses, came with
  | true, _ => 1
  | false, some (q, k) => if dimOfPort r q = i then k else 0
  | false, none => 0
/-- The port of a direction that a message on a virtual channel leaves by: of those that are up, the one that the striping hash
names, which is open (notes/assumptions/22.md). -/
def State.upPort (s : State) (dst : List Nat) (vc d : Nat) : Option Nat :=
  let r := s.hub.fabric.recd
  let up := (portsOfDir r d).filter s.portUp
  up[Config.portHash (fabCoords r) dst vc % up.length]?
/-- The virtual channels of R364, each in classes 0 and 1; management has the fourth. -/
def vcRequest : Nat := 0
def vcReply : Nat := 1
def vcPartial : Nat := 2
/-- The port that a message to a coordinate leaves by: in a torus on the route of R366, in a routed fabric by the routes. -/
def State.portTo (s : State) (dst : List Nat) (vc : Nat) : Option Nat :=
  let r := s.hub.fabric.recd
  if fabMode r = 2 then (hopDir r dst).bind (s.upPort dst vc)
  else (s.hub.fabric.routes.find? (fun e => e.1 == rankOf r dst [0, 1, 2, 3])).bind (fun e => if s.portUp e.2 then some e.2 else none)
/-- The class of a message's next hop to a coordinate. -/
def State.classTo (s : State) (came : Option (Nat × Nat)) (dst : List Nat) : Nat :=
  let r := s.hub.fabric.recd
  if fabMode r = 2 then ((hopDir r dst).map (hopClass r came)).getD 0 else 0

/-- The coordinates of a collective's apex device (R249, R368). -/
def State.collApex (s : State) (p : CollParms) : List Nat :=
  coordOfRank s.hub.fabric.recd (gridDims p.rmask) (if p.ckind = 2 then 0 else p.root) (fabCoords s.hub.fabric.recd)
def State.atCollApex (s : State) (p : CollParms) : Bool := s.collApex p == fabCoords s.hub.fabric.recd

/-- The direction of the next hop on the reverse of the route from dst to a collective's apex (R370): the highest dimension in which
this device differs from dst, against the way of that route. -/
def backDir (r : BitVec 512) (apex dst : List Nat) : Option Nat :=
  let me := fabCoords r
  match (List.range (fabDims r)).reverse.find? (fun i => me.getD i 0 != dst.getD i 0) with
  | none => none
  | some i =>
    let n := fabSize r i
    let up := (apex.getD i 0 + n - dst.getD i 0) % n
    some (2 * i + (if up ≤ n - up then 1 else 0))
/-- The port and class by which news of a collective leaves: what an apex sends takes the reverse routes (R370). -/
def State.newsPort (s : State) (m : CollMsg) : Option (Nat × Nat) :=
  let r := s.hub.fabric.recd
  let vc := match m.body with
    | .issued _ => vcRequest
    | _ => vcReply
  let back := match m.body with
    | .grant _ | .root _ => true
    | _ => false
  if fabMode r = 2 then
    (if back then backDir r (s.collApex m.parms) m.dest else hopDir r m.dest).bind (fun d =>
      (s.upPort m.dest vc d).map (fun q => (q, hopClass r (m.port.map (fun p => (p, m.cls))) d)))
  else (s.portTo m.dest vc).map (fun q => (q, 0))
/-- News leaves for the device that it is for, or waits here while no port of its direction is up. -/
def State.sendNews (s : State) (c elem : Nat) (m : CollMsg) (fl : Flags) : State :=
  match s.newsPort m with
  | some (q, k) => s.send (.seler q (match m.body with
      | .issued _ => vcRequest
      | _ => vcReply) k (.coll elem { m with port := none, cls := 0 } fl))
  | none => s.post (.collectiveRootReturn c 0 elem m fl)
/-- A rank's own number among the ranks of a collective (R202). -/
def State.ownRank (s : State) (mask : Nat) : Nat := rankOf s.hub.fabric.recd (fabCoords s.hub.fabric.recd) (gridDims mask)
/-- News for every other rank of a collective. -/
def State.tellRanks (s : State) (c group : Nat) (p : CollParms) (seq elem : Nat) (body : CollNews) (fl : Flags) : State :=
  let r := s.hub.fabric.recd
  (List.range (s.collRanks p.rmask)).foldl (fun s k =>
    if k = s.ownRank p.rmask then s else
    s.sendNews c elem { group := group, parms := p, seq := seq, dest := coordOfRank r (gridDims p.rmask) k (fabCoords r), body := body } fl) s

/-- The device id of coordinates in a torus (R365), by which a member of a fabric group is bound to its device's coordinates (R367). -/
def State.deviceAt (s : State) (coords : List Nat) : Nat := rankOf s.hub.fabric.recd coords [0, 1, 2, 3]
def State.ownDevice (s : State) : Nat := s.deviceAt (fabCoords s.hub.fabric.recd)
/-- The fabric group that a context belongs to, and the context of a group on this device (R367). -/
def State.fabGroup (s : State) (c : Nat) : Option Nat :=
  (s.hub.fabric.groups.find? (fun g => g.2.1 == s.ownDevice && g.2.2 == c)).map (·.1)
def State.groupCtx (s : State) (g : Nat) : Option Nat :=
  (s.hub.fabric.groups.find? (fun x => x.1 == g && x.2.1 == s.ownDevice)).map (·.2.2)

/-! ## Trees -/

/-- What rules the tree of a partial: operator, format, extent, root level, trees. -/
structure TreeParms where
  op : TreeOp
  acc : Acc
  fmt : Nat
  n : Nat
  k : Nat
  trees : Nat
deriving DecidableEq, Repr

def descParms (d : BitVec 512) : Option TreeParms :=
  match treeOp? (sdOp d), accOf (sdFmt d) with
  | some op, some acc => some { op := op, acc := acc, fmt := sdFmt d, n := sdExt d, k := rootLevel (sdExt d), trees := sdTrees d }
  | _, _ => none
def State.treeParms (s : State) (p : Partial) : Option TreeParms :=
  match p.coll with
  | some key =>
    match treeOp? key.parms.rop, accOf key.parms.rfmt with
    | some op, some acc =>
      let n := s.collRanks key.parms.rmask
      some { op := op, acc := acc, fmt := key.parms.rfmt, n := n, k := rootLevel n, trees := 1 }
    | _, _ => none
  | none => descParms (s.slotOf p.ctx p.slot).desc

/-- Partials of one tree context: same context, slot and, address-keyed, address (R248); of a collective, same group, cid and element
(R368). A context without a fabric group is alone in its collectives. -/
def sameTree (p q : Partial) : Bool :=
  match p.coll, q.coll with
  | some k, some l => k.group == l.group && k.parms.cid == l.parms.cid && k.elem == l.elem && (k.group.isSome || p.ctx == q.ctx)
  | none, none => p.ctx == q.ctx && p.slot == q.slot && p.addr == q.addr
  | _, _ => false
def sameLabel (p q : Partial) : Bool := sameTree p q && p.level == q.level && p.index == q.index
def siblings (p q : Partial) : Bool := sameTree p q && p.level == q.level && p.index == q.index ^^^ 1
/-- The node (L, i) lies wholly at tree positions of N or above. -/
def beyond (t : TreeParms) (L i : Nat) : Bool := decide (t.n ≤ (i % 2 ^ (t.k - L)) * 2 ^ L)

def parentOf (p : Partial) (val : Nat) (fl : Flags) : Partial :=
  { p with level := p.level + 1, index := p.index / 2, val := BitVec.ofNat 64 val, flags := fl }

/-- loc of R395 for a pan or a holding buffer: unit 0xA on its die or the hub. -/
def State.panLoc (s : State) (i : PanId) : Nat :=
  let die := match i with
    | .core c v => dieOf (s.phys c v)
    | .gateway q => q / 10
    | .hubEnd d => d
    | .fold f => 2 * f
    | .bridge d _ => d
    | .msu b => b / 64
    | _ => 15
  die * 2 ^ 28 + 10 * 2 ^ 24 + (match i with
    | .core c v => s.phys c v
    | _ => 0)

/-- An add that carries a residue check (R265): a second mismatch among the operations to come. -/
def State.saltCheck (s : State) (ctx loc : Nat) (t : TreeParms) : Bool × State :=
  if t.op == .add && (t.fmt == 0 || t.fmt == 9) then
    match s.aux.residue with
    | [] => (false, s)
    | r :: rs =>
      let s := { s with aux := { s.aux with residue := rs } }
      let s := if r = 0 then s else s.count 4 1
      (r == 2, if r = 2 then s.logError 0x06 0 ctx loc 0 else s)
  else (false, s)

/-- Two siblings meet: the parent, or a failed residue check. -/
def State.meet (s : State) (loc : Nat) (t : TreeParms) (p q : Partial) : Option Partial × State :=
  let l := if p.index % 2 = 0 then p else q
  let r := if p.index % 2 = 0 then q else p
  let c := combine t.op t.acc l.val.toNat r.val.toNat
  let k := s.saltCheck p.ctx loc t
  (if k.1 then none else some { parentOf l c.1 (c.2 ||| l.flags ||| r.flags) with cls := max l.cls r.cls }, k.2)

/-- Codes 0x04 to 0x06, the highest of which stands (R192). -/
def State.recordCode (s : State) (c n code : Nat) : State := s.modSlot c n (fun x => { x with code := max x.code code })

/-- A slot ends without a code and without writes (R265), once. -/
def State.failSlot (s : State) (c n : Nat) (k : SlotCheck) : State :=
  let x := s.slotOf c n
  if x.check.isSome || !(x.state == .opened || x.state == .closing) then s else
  (s.modSlot c n (fun x => { x with check := some k })).post (.slotFinal c n)
def isColl (q : CollParms) (j : Job) : Bool :=
  match j.kind with
  | .coll _ r .. => r == q && !j.retired
  | _ => false
/-- A live job of a context's collective of this cid. -/
def isCid (cid : Nat) (j : Job) : Bool :=
  match j.kind with
  | .coll _ r .. => r.cid == cid && !j.retired
  | _ => false
/-- The context on this device that a collective's partial belongs to (R367). -/
def State.collCtx (s : State) (p : Partial) (key : CollKey) : Option Nat :=
  match key.group with
  | some g => s.groupCtx g
  | none => some p.ctx
/-- A partial of a collective whose parameters differ from those of this device's job, or of a partial here, of the same group and
cid (R202): the other key. -/
def State.collMismatch (s : State) (p : Partial) (key : CollKey) : Option CollKey :=
  let odd (q : CollParms) : Bool := q.cid == key.parms.cid && q != key.parms
  match ((((s.collCtx p key).map (fun c => (s.ctx c).jobs)).getD []).findSome? (fun e => match e.2.kind with
      | .coll _ r .. => if odd r && !e.2.retired then some ({ group := key.group, parms := r, elem := 0, seq := e.2.seq } : CollKey) else none
      | _ => none)) with
  | some k => some k
  | none => s.pans.findSome? (fun e => e.2.findSome? (fun q => match q.coll with
      | some k => if k.group == key.group && (k.group.isSome || q.ctx == p.ctx) && odd k.parms then some k else none
      | none => none))
/-- Jobs that a choice names end with a code, if they have none yet. -/
def State.failJobs (s : State) (c : Nat) (pick : Job → Bool) (code : Nat) : State :=
  ((s.ctx c).jobs.filter (fun e => e.2.code == 0 && pick e.2)).foldl (fun s e =>
    (s.modJob c e.1 (fun j => { j with code := code, stalled := false })).post (.jobRetire c e.1)) s
/-- Nothing of a collective stays here. -/
def State.dropColl (s : State) (c : Nat) (group : Option Nat) (cid : Nat) : State :=
  let mine (p : Partial) : Bool := match p.coll with
    | some k => k.group == group && k.parms.cid == cid && (group.isSome || p.ctx == c)
    | none => false
  { s with
    pans := (s.pans.map (fun (e : PanId × List Partial) => (e.1, e.2.filter (fun p => !mine p)))).filter (fun e => !e.2.isEmpty)
    agenda := s.agenda.filter (fun i => match i with
      | .partialArrive _ p => !mine p
      | _ => true)
    hub := { s.hub with fabric := { s.hub.fabric with issued := s.hub.fabric.issued.filter (fun e => !(some e.1 == group && e.2.2.1.cid == cid)) } } }
/-- A collective ends for every rank that issued it: with code 0x04, and no destination written, where its parameters do not match
(R202, R370); with 0x06 after a second mismatch in a pan add (R362). Every other rank is told (notes/assumptions/98.md). -/
def State.failColl (s : State) (ctx : Nat) (key : CollKey) (code : Nat) : State :=
  let c := match key.group with
    | some g => s.groupCtx g
    | none => some ctx
  let s := match c with
    | some c => s.failJobs c (isCid key.parms.cid) code
    | none => s
  let s := s.dropColl ctx key.group key.parms.cid
  match key.group with
  | some g => s.tellRanks (c.getD ctx) g key.parms key.seq 0 (.failed code) 0#5
  | none => s
/-- The second mismatch of an add that forms a partial of a slot or of a collective (R265, R362). -/
def State.failAdd (s : State) (p : Partial) : State :=
  match p.coll with
  | none => s.failSlot p.ctx p.slot .arith
  | some key => s.failColl p.ctx key 6

/-- A pan entry of a slot is uncorrectable. -/
def State.panBad (s : State) (i : PanId) (p : Partial) : Bool := !s.badPans.isEmpty && p.coll.isNone && s.badPans.contains (i, p)
/-- Its slot ends with the machine check, and no value of the entry is used (R265); the spec gives a pan entry no address, so the
address that the trap carries is free (notes/assumptions/27.md). -/
def State.failPan (s : State) (i : PanId) (p : Partial) : State :=
  ({ s with badPans := s.badPans.filter (fun e => !(e.2.ctx == p.ctx && e.2.slot == p.slot && e.2.coll.isNone)) }.reportError 4 0 p.ctx (s.panLoc i) 0).failSlot
    p.ctx p.slot (.machine (Config.anyWord s.aux.time 0).toNat)

/-! ## Routes (R249, R250) -/

/-- The region of an apex holds a physical core. -/
def State.covers (s : State) (apex : PanId) (phys : Nat) : Bool :=
  match apex with
  | .core c v => s.phys? c v == some phys
  | .gateway q => squareOf phys == q
  | .hubEnd d => dieOf phys == d
  | .fold f => dieOf phys / 2 == f
  | _ => true
/-- A core that a region holds. -/
def State.regionCore (s : State) (apex : PanId) : Nat :=
  match apex with
  | .core c v => s.phys c v
  | .gateway q => 16 * q
  | .hubEnd d => 160 * d
  | .fold f => 320 * f
  | _ => 0
/-- The apex of the smallest region that holds two cores, not below a given height. -/
def regionHeight : PanId → Nat
  | .core _ _ => 0
  | .gateway _ => 1
  | .hubEnd _ => 2
  | .fold _ => 3
  | _ => 4
def apexOver (h a b : Nat) : PanId :=
  if h ≤ 1 && squareOf a == squareOf b then .gateway (squareOf a)
  else if h ≤ 2 && dieOf a == dieOf b then .hubEnd (dieOf a)
  else if h ≤ 3 && dieOf a / 2 == dieOf b / 2 then .fold (dieOf a / 2)
  else .hub
/-- The apex of the smallest region that holds these cores; the package without any (R249). -/
def apexOf (ctx : Nat) (cores : List (Nat × Nat)) : PanId :=
  match cores with
  | [] => .hub
  | [(v, _)] => .core ctx v
  | (_, p) :: rest => rest.foldl (fun a e => match a with
      | .hub => .hub
      | .gateway q => if squareOf e.2 = q then .gateway q else apexOver 2 (16 * q) e.2
      | .hubEnd d => if dieOf e.2 = d then .hubEnd d else apexOver 3 (160 * d) e.2
      | .fold f => if dieOf e.2 / 2 = f then .fold f else .hub
      | x => x) (.gateway (squareOf p))

def State.pan (s : State) (i : PanId) : List Partial := (look s.pans i).getD []
def State.setPan (s : State) (i : PanId) (l : List Partial) : State :=
  { s with pans := if l.isEmpty then del s.pans i else put s.pans i l }

def inSlot (c n : Nat) (p : Partial) : Bool := p.ctx == c && p.slot == n && p.coll.isNone

/-- The apex rises to hold a contributor outside its region; the old apex's partials move up (R250). A core-pan apex whose
core is saved rises when the core is placed again. -/
def State.raiseApex (s : State) (c n phys : Nat) : State :=
  let x := s.slotOf c n
  let away := match x.apex with
    | .core c v => (s.phys? c v).isNone
    | _ => false
  if away || s.covers x.apex phys then s else
  let a := apexOver (max 1 (regionHeight x.apex)) (s.regionCore x.apex) phys
  let old := (s.pan x.apex).filter (inSlot c n)
  let s := (s.setPan x.apex ((s.pan x.apex).filter (fun p => !inSlot c n p))).modSlot c n (fun x => { x with apex := a })
  let s := old.foldl (fun s p => if s.panBad x.apex p then s.failPan x.apex p else s.post (.partialArrive a p)) s
  s.pans.foldl (fun s e => (e.2.filter (inSlot c n)).foldl (fun s p => s.post (.panHoldExpiry e.1 p)) s) s

/-- The physical cores on which a context has placed threads, with their virtual cores (R249). -/
def State.threadCores (s : State) (c : Nat) : List (Nat × Nat) :=
  (dedup ((s.threads.filter (fun e => e.1.ctx == c)).map (fun e => e.1.vc))).filterMap (fun v => (s.phys? c v).map (fun p => (v, p)))
/-- A placement, a resumption or a migration raises the apexes of a context's slots (R250, R266). -/
def State.raiseApexes (s : State) (c : Nat) : State :=
  let open' := (s.ctx c).slots.filter (fun e => (e.2.state == .opened || e.2.state == .closing) && !sdMode e.2.desc)
  open'.foldl (fun s e => (s.threadCores c).foldl (fun s p => s.raiseApex c e.1 p.2) s) s

/-- The pan of a core that is saved: it waits with its core (R266). -/
def State.panAway (s : State) (i : PanId) : Bool :=
  match i with
  | .core c v => (s.phys? c v).isNone
  | _ => false

/-- Where a partial goes next. -/
inductive Hop where
  | pan (i : PanId)
  | out (port : Nat)
  | stay
deriving DecidableEq, Repr

def State.nextHop (s : State) (at' : PanId) (p : Partial) : Hop :=
  match p.coll with
  | some key =>
    match at' with
    | .hub => if s.atCollApex key.parms then .stay else
        match s.portTo (s.collApex key.parms) vcPartial with
        | some q => .out q
        | none => .stay
    | _ => if s.atCollApex key.parms then .pan .hub else
        match s.portTo (s.collApex key.parms) vcPartial with
        | some q => .out q
        | none => .stay
  | none =>
    let apex := (s.slotOf p.ctx p.slot).apex
    if apex = at' || s.panAway apex then .stay else
    match at' with
    | .core c v => .pan (.gateway (squareOf (s.phys c v)))
    | .gateway q => .pan (match apex with
        | .hubEnd d => .hubEnd d
        | .fold f => .fold f
        | _ => .fold (q / 20))
    | .hubEnd d => .pan (match apex with
        | .fold f => .fold f
        | _ => .fold (d / 2))
    | .bridge d _ => .pan (.fold (d / 2))
    | .fold _ => .pan .hub
    | _ => .stay

def State.forward (s : State) (at' : PanId) (p : Partial) : State :=
  match s.nextHop at' p with
  | .pan i => s.post (.partialArrive i p)
  | .out q =>
    let came := match at' with
      | .port x => some (x, p.cls)
      | _ => none
    let k := match p.coll with
      | some key => s.classTo came (s.collApex key.parms)
      | none => 0
    s.send (.seler q vcPartial k (.part { p with cls := k }))
  | .stay => s.setPan at' (s.pan at' ++ [p])

/-- Entries of a pan (R247); the hub pan without those reserved for collectives (R369). -/
def State.panCapacity (s : State) : PanId → Nat
  | .core _ _ => 64
  | .gateway _ => 32
  | .fold _ => 256
  | .bridge _ _ => 256
  | .hubEnd _ => 256
  | .hub => 1024 - 16 * (s.hub.fabric.granted.map (·.2)).sum
  | .port _ => 256
  | .msu _ => 16

/-! ## The brine region (R254 to R257) -/

def brineEntries (d : BitVec 512) : Nat := 128 * sdBrsz d
def partialLabel (p : Partial) : Nat := label p.slot p.level p.index

/-- The 32 bytes of a brine entry (R254). -/
def brineBytes (p : Partial) (serial : Nat) : List Byte :=
  bytesOfNat (partialLabel p + p.val.toNat * 2 ^ 64 + p.flags.toNat * 2 ^ 128 + serial * 2 ^ 136 + p.addr * 2 ^ 160) 32

/-- The stretches of m brine entries from the k-th on. -/
def State.brineEnts (s : State) (c : Nat) (d : BitVec 512) (k m : Nat) : List Span :=
  (mapSpans (s.ctx c).trans.ranges (sdBrine d + 32 * k) (32 * m) false true).getD []
/-- The stretches of a slot's brine region. -/
def State.brineSpans (s : State) (c : Nat) (d : BitVec 512) : List Span :=
  if sdBrsz d = 0 then [] else s.brineEnts c d 0 (brineEntries d)
/-- The intermediate addresses of a brine entry. -/
def State.brineIas (s : State) (c : Nat) (d : BitVec 512) (i : Nat) : List Nat := spanIas (s.brineEnts c d i 1)
/-- First intermediate addresses of the pages that stretches touch. -/
def pagesOf (ss : List Span) : List Nat :=
  dedup (ss.flatMap (fun x => (List.range ((x.ia + x.len - 1) / 2 ^ 18 - x.ia / 2 ^ 18 + 1)).map (fun i => (x.ia / 2 ^ 18 + i) * 2 ^ 18)))
/-- Every page of the region takes a write; a spill or a probe waits while one does not (R314; notes/assumptions/23.md). -/
def State.brineReady (s : State) (c n : Nat) : Bool :=
  let d := (s.slotOf c n).desc
  sdBrsz d == 0 || (let ss := s.brineSpans c d
    !ss.isEmpty && (pagesOf ss).all (fun ia => match s.checkPage c ia true true with
      | .ok _ => true
      | .error _ => false))

/-- The first free index from `start` on, wrapping. -/
def freeEntry (used : List Nat) (E start : Nat) : Nat → Option Nat
  | 0 => none
  | fuel + 1 => if used.contains start then freeEntry used E ((start + 1) % E) fuel else some start

/-- Where the search for a partial or its sibling starts (R255). -/
def brineStart (p : Partial) (E : Nat) : Nat :=
  if E = 0 then 0 else Config.brineHash (BitVec.ofNat 64 (label p.slot (p.level + 1) (p.index / 2))) % E

/-- The partial that a brine entry holds: its label, value, flags and address as its bytes stand. None where it is not live: its ser
is not the slot's current one, or its label names another slot (R254). -/
def State.brineEntry (s : State) (c n i : Nat) : Option Partial :=
  let x := s.slotOf c n
  let w := natOfBytes ((s.brineIas c x.desc i).map (s.homeByte c))
  let lab := bits w 0 64
  if bits w 136 16 = x.serial ∧ labelSlot lab = n then
    some { ctx := c, slot := n, level := labelLevel lab, index := labelIndex lab, val := BitVec.ofNat 64 (bits w 64 64)
           flags := BitVec.ofNat 5 (bits w 128 5), addr := bits w 160 52 }
  else none
/-- A slot's live entries, in the order in which they were spilled (R254). -/
def State.liveBrine (s : State) (c n : Nat) : List (Nat × Partial) :=
  (s.slotOf c n).spilled.filterMap (fun i => (s.brineEntry c n i).map (fun p => (i, p)))

/-- Where a partial would be spilled: none if the region is exhausted (R255, R256). -/
def State.spillAt (s : State) (p : Partial) : Option Nat :=
  let E := brineEntries (s.slotOf p.ctx p.slot).desc
  let used := (s.liveBrine p.ctx p.slot).map (·.1)
  if E ≤ used.length then none else freeEntry used E (brineStart p E) (used.length + 1)

/-- Spilling a partial at a site, or exhaustion (R255, R256). While the home of its entry cannot take it (R287, R380), it is on its
way to the site again. -/
def State.spill (s : State) (site : PanId) (p : Partial) : State :=
  let x := s.slotOf p.ctx p.slot
  match s.spillAt p with
  | none => (s.recordCode p.ctx p.slot 4).modSlot p.ctx p.slot (fun x => { x with exhausted := if x.exhausted.contains site then x.exhausted else site :: x.exhausted })
  | some i =>
    let ias := s.brineIas p.ctx x.desc i
    match s.openPages p.ctx ias false true with
    | .error _ => s.post (.partialArrive site p)
    | .ok s =>
      let t := s.putIa p.ctx (ias.zip (brineBytes p x.serial))
      (t.observe s p.ctx 0 { kind := .finalWrite } .g (spansOf ias) false true).modSlot p.ctx p.slot
        (fun x => { x with spilled := x.spilled.filter (· != i) ++ [i] })

/-- Freeing an entry: its ser field becomes 0 in the same access as the probe or the gathering, which reads these stretches
(R254, R255; that a gathering is matched as a probe is: notes/assumptions/101.md). None while its home cannot take the access (R287,
R380). -/
def State.freeBrine (s : State) (c n i : Nat) (spans : List (Nat × Nat)) : Option State :=
  let x := s.slotOf c n
  let ias := s.brineIas c x.desc i
  match s.openPages c ias true true with
  | .error _ => none
  | .ok s =>
    let t := s.putIa c (((ias.drop 17).take 2).map (fun a => (a, 0#8)))
    some ((t.observe s c 0 { kind := .engRead } .g spans true false).modSlot c n (fun x => { x with spilled := x.spilled.filter (· != i) }))

/-- The live entry with the sibling's label (R255). -/
def State.probe (s : State) (p : Partial) : Option (Nat × Partial) := (s.liveBrine p.ctx p.slot).find? (fun e => siblings p e.2)
/-- The stretches that a probe reads: from its start, wrapping, to the entry that it finds, or the whole region
(notes/assumptions/101.md). -/
def State.probeSpans (s : State) (p : Partial) (found : Option Nat) : List (Nat × Nat) :=
  let d := (s.slotOf p.ctx p.slot).desc
  let E := brineEntries d
  let k := brineStart p E
  let parts := match found with
    | some i => if k ≤ i then [(k, i + 1 - k)] else [(k, E - k), (0, i + 1)]
    | none => [(0, E)]
  (parts.flatMap (fun x => s.brineEnts p.ctx d x.1 x.2)).map (fun y => (y.ia, y.ia + y.len - 1))

/-! ## Meeting (R251 to R253) -/

/-- The root of a collective's element tree goes back to every rank, with its flags (R370). -/
def State.collRoot (s : State) (p : Partial) (key : CollKey) : State :=
  let val := p.val.setWidth 128
  let here := fabCoords s.hub.fabric.recd
  match s.collCtx p key with
  | none => s
  | some c =>
    let s := ((s.ctx c).jobs.filter (fun e => isColl key.parms e.2)).foldl (fun s e =>
      s.post (.collectiveRootReturn c e.1 key.elem
        { group := key.group.getD 0, parms := key.parms, seq := e.2.seq, dest := here, body := .root val } p.flags)) s
    match key.group with
    | some g => s.tellRanks c g key.parms key.seq key.elem (.root val) p.flags
    | none => s

/-- The partials of a pan that take its entries, as far as another one of their kind does: roots stay until finalisation
beside them (R251, R257), and the hub pan keeps entries for collectives (R247, R369). -/
def State.loose (s : State) (i : PanId) (p : Partial) : List Partial :=
  (s.pan i).filter (fun q => (match s.treeParms q with
    | some t => q.level < t.k
    | none => true) && (i != .hub || q.coll.isSome == p.coll.isSome))

/-- Entries that a pan must free before it holds another partial (R253). -/
def State.overfull (s : State) (i : PanId) (p : Partial) : Nat :=
  if i == .hub && p.coll.isSome then 0 else (s.loose i p).length + 1 - s.panCapacity i
/-- A partial goes on from a pan: it is spilled at an apex or a memory-side unit, or forwarded (R252, R253). One whose direction has
no port up stays where it is (notes/assumptions/112.md). -/
def State.passOn (s : State) (i : PanId) (q : Partial) : State :=
  match i, s.nextHop i q, q.coll with
  | .msu _, _, _ => s.spill i q
  | _, .stay, none => s.spill i q
  | _, _, _ => s.forward i q
/-- A held partial gives up its entry. -/
def State.evict (s : State) (i : PanId) (q : Partial) : State :=
  let t := s.setPan i ((s.pan i).filter (fun r => r != q))
  if s.panBad i q then t.failPan i q else t.passOn i q

/-- A partial is held in a pan, which frees the entries held longest first if it is full (R252, R253). Where all its entries are
reserved for collectives, the partial goes on itself. -/
def State.hold (s : State) (i : PanId) (p : Partial) : State :=
  let n := s.overfull i p
  let old := (s.loose i p).take n
  let s := old.foldl (fun s q => s.evict i q) s
  if old.length < n then s.passOn i p else
  let s := s.setPan i (s.pan i ++ [p])
  match i, s.nextHop i p with
  | .msu _, _ => s
  | _, .stay => s
  | _, _ => s.post (.panHoldExpiry i p)

/-- A site that pairs and spills: the apex of a slot, or a memory-side unit. -/
def State.atApex (s : State) (i : PanId) (p : Partial) : Bool :=
  p.coll.isNone && (match i with
    | .msu _ => true
    | _ => (s.slotOf p.ctx p.slot).apex == i)

/-- R251, for a partial at a pan; `fuel` bounds the levels it can climb. A site that found the brine region exhausted discards
what it would have to pair, hold or spill (R256). -/
def State.arrive : Nat → State → PanId → Partial → State
  | 0, s, _, _ => s
  | fuel + 1, s, i, p =>
    match s.treeParms p with
    | none => s
    | some t =>
      let x := s.slotOf p.ctx p.slot
      if p.coll.isNone && x.check.isSome then s else
      match p.coll.bind (fun k => (s.collMismatch p k).map (fun l => (k, l))) with
      | some (k, l) => (s.failColl p.ctx k 4).failColl p.ctx l 4
      | none =>
      match (s.pan i).find? (sameLabel p) with
      | some q =>
        let s := s.setPan i ((s.pan i).filter (fun r => r != q))
        if p.coll.isSome then s else s.recordCode p.ctx p.slot 6
      | none =>
        let spent := p.coll.isNone && x.exhausted.contains i
        match if p.level < t.k then (s.pan i).find? (siblings p) else none with
        | some q =>
          if spent then s else
          let s := s.setPan i ((s.pan i).filter (fun r => r != q))
          if s.panBad i q then s.failPan i q else
          match s.meet (s.panLoc i) t p q with
          | (some r, s) => State.arrive fuel s i r
          | (none, s) => s.failAdd p
        | none =>
          if decide (t.k ≤ p.level) then
            (match p.coll, i with
             | some key, .hub => s.collRoot p key
             | some _, _ => s.forward i p
             | none, .msu _ => match s.roots.find? (sameLabel p) with
               | some q => ({ s with roots := s.roots.filter (fun r => r != q) } : State).recordCode p.ctx p.slot 6
               | none => { s with roots := s.roots ++ [p] }
             | none, _ => s.setPan i (s.pan i ++ [p]))
          else if beyond t p.level (p.index ^^^ 1) then State.arrive fuel s i (parentOf p p.val.toNat p.flags)
          else if spent then s
          else if !s.atApex i p || x.spilled.isEmpty then s.hold i p
          else
            match s.probe p with
            | some (n, q) =>
              let ias := s.brineIas p.ctx x.desc n
              (match s.badByte p.ctx ias with
               | some a => (s.reportBad p.ctx a).failSlot p.ctx p.slot (.machine (sdBrine x.desc + 32 * n))
               | none =>
                 match s.freeBrine p.ctx p.slot n (s.probeSpans p (some n)) with
                 | none => s.post (.partialArrive i p)
                 | some s =>
                 match s.meet (s.panLoc i) t p q with
                 | (some r, s) => State.arrive fuel s i r
                 | (none, s) => s.failAdd p)
            | none => (s.observe s p.ctx 0 { kind := .engRead } .g (s.probeSpans p none) true false).hold i p

/-- A partial that may need the brine region waits while a page of it does not translate. -/
def State.brineWaits (s : State) (i : PanId) (p : Partial) : Bool :=
  s.atApex i p && (decide (0 < s.overfull i p) || !(s.slotOf p.ctx p.slot).spilled.isEmpty) &&
    ((p :: (s.loose i p).take (s.overfull i p)).any (fun q => q.coll.isNone && !s.brineReady q.ctx q.slot))

/-- A partial of a collective that its rank here has finished (R370): nothing waits for it. -/
def State.collOver (s : State) (p : Partial) : Bool :=
  match p.coll with
  | none => false
  | some key => (match s.collCtx p key with
    | some c => decide (key.seq < (look (s.ctx c).collSeq key.parms.rmask).getD 0) && !(s.ctx c).jobs.any (fun e => isCid key.parms.cid e.2)
    | none => false)

/-- R250, R251: a partial arrives at, or forms in, a pan. -/
def execPartialArrive (pan : PanId) (p : Partial) (s : State) : Host.Outcome State Fault Refusal :=
  if s.panAway pan || s.brineWaits pan p then .next (s.post (.partialArrive pan p)) else
  if s.collOver p then .next s else
  let s := match pan, p.coll with
    | .core c v, none => s.raiseApex p.ctx p.slot (s.phys c v)
    | _, _ => s
  .next (s.arrive 64 pan p)

/-- R252: the hold time of a partial that is still held runs out, and it moves on. -/
def execPanHoldExpiry (pan : PanId) (p : Partial) (s : State) : Host.Outcome State Fault Refusal :=
  if s.panAway pan then .next (s.post (.panHoldExpiry pan p)) else
  let root := match s.treeParms p with
    | some t => decide (t.k ≤ p.level)
    | none => false
  .next (if (s.pan pan).contains p && !root && decide (s.nextHop pan p ≠ .stay) then
    let t := s.setPan pan ((s.pan pan).filter (fun q => q != p))
    if s.panBad pan p then t.failPan pan p else t.forward pan p
  else s)

/-! ## Memory-side units (R259 to R261) -/

/-- The bank that is home to an intermediate address: that of the share that holds its line, or will receive it (R32, R280). -/
def State.homeBank (s : State) (c ia : Nat) : Nat :=
  match s.walk c ia with
  | .error _ => 0
  | .ok (L, e) => (s.vcOf c (peVc e)).shareOf (s.linePinned c) (leafPa L e ia) / 8

/-- The partials of memory-side units stand at the home of their word, wherever a change has moved it (R261, R283). -/
def State.rehome (s : State) (c : Nat) : State :=
  s.pans.foldl (fun s e => match e.1 with
    | .msu b =>
      let here := s.pan e.1
      let gone := here.filter (fun p => p.ctx == c && s.homeBank c p.addr != b && !s.brineWaits (.msu (s.homeBank c p.addr)) p)
      if gone.isEmpty then s else
      let s := s.setPan e.1 (here.filter (fun p => !gone.contains p))
      let s : State := { s with badPans := s.badPans.map (fun b => if b.1 == e.1 && gone.contains b.2 then (.msu (s.homeBank c b.2.addr), b.2) else b) }
      gone.foldl (fun s p => s.hold (.msu (s.homeBank c p.addr)) p) s
    | _ => s) s

/-- R259: a ctbm leaf reaches the unit at its home, as an access to its line. It waits while every way of the line's set is
pinned (R287), or while the region does not translate. -/
def execCtbmLeafArrive (p : Partial) (s : State) : Host.Outcome State Fault Refusal :=
  let again := s.post (.ctbmLeafArrive p)
  match s.walk p.ctx p.addr with
  | .error _ => .next again
  | .ok (L, e) =>
    match s.touchL2 p.ctx (peVc e) (leafPa L e p.addr) [] false with
    | none => .next again
    | some t =>
      let t := t.rehome p.ctx
      let i := PanId.msu (t.homeBank p.ctx p.addr)
      .next (if t.brineWaits i p then again else t.arrive 64 i p)

/-! ## Close, resolution, final writes (R262 to R264) -/

/-- The partials of a slot at a site move on, whatever their hold times. -/
def State.flushSite (s : State) (c n : Nat) (i : PanId) : State :=
  let mine := (s.pan i).filter (inSlot c n)
  let s := s.setPan i ((s.pan i).filter (fun p => !inSlot c n p))
  mine.foldl (fun s p => if s.panBad i p then s.failPan i p else s.forward i p) s

/-- R262: a close marker reaches a site, after the partials of the slot that are on their way there; at the apex, or at a memory-side unit, it is counted. -/
def execCloseMarkerArrive (ctx slot : Nat) (site : PanId) (s : State) : Host.Outcome State Fault Refusal :=
  let x := s.slotOf ctx slot
  if x.state ≠ .closing then .next s
  else if (s.panAway site && (s.pan site).any (inSlot ctx slot)) || s.agenda.any (fun i => match i with
      | .partialArrive j p => j == site && inSlot ctx slot p
      | _ => false) then .next (s.post (.closeMarkerArrive ctx slot site)) else
  let here := { ctx := ctx, slot := slot, level := 0, index := 0, val := 0#64, flags := 0#5 : Partial }
  let site := if s.panAway site then x.apex else site
  match site, s.nextHop site here with
  | .msu _, _ | _, .stay | _, .out _ =>
    let s := s.modSlot ctx slot (fun x => { x with markers := x.markers + 1 })
    .next (if x.markers + 1 = x.expect then s.post (.slotResolve ctx slot) else s)
  | _, .pan i => .next ((s.flushSite ctx slot site).post (.closeMarkerArrive ctx slot i))

/-- Partials of a slot still on their way, or held away from where it resolves. -/
def State.partialsAfoot (s : State) (c n : Nat) : Bool :=
  s.agenda.any (fun i => match i with
    | .partialArrive _ p => inSlot c n p
    | .ctbmLeafArrive p => inSlot c n p
    | _ => false) ||
  s.pans.any (fun e => e.2.any (fun p => inSlot c n p && decide (s.nextHop e.1 p ≠ .stay)))

/-- What a site away from there holds moves on (R262). -/
def State.flushAway (s : State) (c n : Nat) : State :=
  s.pans.foldl (fun s e => if (s.pan e.1).any (fun p => inSlot c n p && decide (s.nextHop e.1 p ≠ .stay)) then s.flushSite c n e.1 else s) s

/-- Resolution of one level of one tree: partials of the level from the least index up (R263). -/
structure Resolved where
  parts : List Partial
  incomplete : Bool
  overlap : Bool
  failed : Bool

def leastAt (L : Nat) (ps : List Partial) : Option Partial :=
  (ps.filter (fun p => p.level == L)).foldl (fun b p =>
    match b with
    | none => some p
    | some q => if p.index < q.index then some p else b) none

def resolveLevel (loc : Nat) (t : TreeParms) (value : Bool) (L : Nat) : Nat → State → Resolved → Resolved × State
  | 0, s, r => (r, s)
  | fuel + 1, s, r =>
    match leastAt L r.parts with
    | none => (r, s)
    | some p =>
      let rest := r.parts.erase p
      match rest.find? (siblings p) with
      | some q =>
        let rest := rest.erase q
        match s.meet loc t p q with
        | (none, s) => ({ r with parts := rest, failed := true }, s)
        | (some u, s) =>
          resolveLevel loc t value L fuel s
            { r with parts := if rest.any (sameLabel u) then rest else u :: rest, overlap := r.overlap || rest.any (sameLabel u) }
      | none =>
        let u := parentOf p p.val.toNat p.flags
        resolveLevel loc t value L fuel s
          { r with parts := if rest.any (sameLabel u) then rest else u :: rest
                   overlap := r.overlap || rest.any (sameLabel u)
                   incomplete := r.incomplete || (value && !beyond t L (p.index ^^^ 1)) }

def resolveFrom (loc : Nat) (t : TreeParms) (value : Bool) : Nat → Nat → State → Resolved → Resolved × State
  | 0, _, s, r => (r, s)
  | fuel + 1, L, s, r =>
    let q := resolveLevel loc t value L (r.parts.length + 1) s r
    resolveFrom loc t value fuel (L + 1) q.2 q.1

/-- Two partials of one label among those gathered meet here at the latest (R192, R251). -/
def dedupLabels : List Partial → List Partial × Bool
  | [] => ([], false)
  | p :: r =>
    let d := dedupLabels r
    if r.any (sameLabel p) then (d.1.filter (fun q => !sameLabel p q), true) else (p :: d.1, d.2)

/-- A root as it is written: its intermediate addresses, its value and its flags. -/
structure RootWrite where
  ias : List Nat
  val : Nat
  flags : Flags

/-- The roots of a slot whose trees are resolved, in the order of their writes: ascending trees, or ascending addresses
(R263, R268). -/
def State.rootWrites (s : State) (c : Nat) (t : TreeParms) (d : BitVec 512) (roots : List Partial) : List RootWrite :=
  let w := accBytes t.fmt
  if sdMode d then
    (sortOn (·.addr) roots).map (fun p => { ias := (List.range w).map (fun i => p.addr + i), val := p.val.toNat, flags := p.flags })
  else
    (List.range t.trees).map (fun k =>
      let ias := match mapSpans (s.ctx c).trans.ranges (sdDest d + k * w) w false true with
        | some ss => spanIas ss
        | none => []
      match roots.find? (fun p => p.index == k) with
      | some p => { ias := ias, val := p.val.toNat, flags := p.flags }
      | none => { ias := ias, val := emptyRoot t.op t.acc, flags := 0#5 })

/-- One final write: with accm the read of the word, the combine with its residue check and the write are one operation
(R265, R268). An error where the check fails twice. -/
def State.rootWrite (s : State) (c loc : Nat) (t : TreeParms) (accm : Bool) (w : RootWrite) : Except State (Flags × State) :=
  let put (s : State) (x : Nat) : State :=
    (s.putIa c (w.ias.zip (bytesOfNat x (accBytes t.fmt)))).observe s c 0 { kind := .finalWrite } .g (spansOf w.ias) accm true
  if accm then
    let s := s.settleHalves (s.halfMeets c w.ias)
    let r := combine t.op t.acc (natOfBytes (w.ias.map (fun a => s.homeByte c a))) w.val
    let k := s.saltCheck c loc t
    if k.1 then .error k.2 else .ok (r.2 ||| w.flags, put k.2 r.1)
  else .ok (w.flags, put s w.val)
def State.rootWriteAll (c loc : Nat) (t : TreeParms) (accm : Bool) : List RootWrite → State → Flags → Except State (Flags × State)
  | [], s, f => .ok (f, s)
  | w :: r, s, f =>
    match s.rootWrite c loc t accm w with
    | .error e => .error e
    | .ok (g, s) => State.rootWriteAll c loc t accm r s (f ||| g)

/-- Nothing of a slot is left anywhere (R188, R265). -/
def State.clearSlot (s : State) (c n : Nat) : State :=
  { s with
    pans := (s.pans.map (fun (e : PanId × List Partial) => (e.1, e.2.filter (fun p => !inSlot c n p)))).filter (fun e => !e.2.isEmpty)
    roots := s.roots.filter (fun p => !inSlot c n p)
    agenda := s.agenda.filter (fun i => match i with
      | .partialArrive _ p => !inSlot c n p
      | .ctbmLeafArrive p => !inSlot c n p
      | .panHoldExpiry _ p => !inSlot c n p
      | .closeMarkerArrive x y _ | .slotResolve x y | .slotFinal x y => !(x == c && y == n)
      | _ => true) }

/-- The live entries of a slot's brine region in ascending order (R262). -/
def State.liveSorted (s : State) (c n : Nat) : List (Nat × Partial) := sortOn (·.1) (s.liveBrine c n)
/-- They are gathered or freed, in that order (R254, R262). None while a home cannot take an access. -/
def State.freeLive (s : State) (c n : Nat) : Option State :=
  (s.liveSorted c n).foldlM (fun (s : State) (e : Nat × Partial) =>
    s.freeBrine c n e.1 ((s.brineIas c (s.slotOf c n).desc e.1).map (fun a => (a, a)))) s

/-- R262 to R264: once no partial is on its way, the sites gather the brine entries, resolve level by level and write
the roots; while a page of a root or of the region does not translate, the writes wait (notes/assumptions/23.md). A slot whose
brine region software has touched takes any values (R258). -/
def execSlotResolve (ctx slot : Nat) (s : State) : Host.Outcome State Fault Refusal :=
  let x := s.slotOf ctx slot
  match x.state == .closing, descParms x.desc with
  | true, some t =>
    if x.check.isSome then .next s
    else if s.partialsAfoot ctx slot then .next ((s.flushAway ctx slot).post (.slotResolve ctx slot))
    else if !x.spilled.isEmpty && !s.brineReady ctx slot then .next (s.post (.slotResolve ctx slot)) else
    match (s.liveSorted ctx slot).find? (fun e => (s.badByte ctx (s.brineIas ctx x.desc e.1)).isSome) with
    | some e => .next ((s.reportBad ctx (((s.brineIas ctx x.desc e.1).find? (fun a => (s.badByte ctx [a]).isSome)).getD 0)).failSlot ctx slot (.machine (sdBrine x.desc + 32 * e.1)))
    | none =>
      match s.pans.findSome? (fun e => (e.2.find? (fun p => inSlot ctx slot p && s.panBad e.1 p)).map (fun p => (e.1, p))) with
      | some e => .next (s.failPan e.1 e.2)
      | none =>
      let held := s.pans.flatMap (fun e => e.2.filter (inSlot ctx slot)) ++ s.roots.filter (inSlot ctx slot)
      let d := dedupLabels (held ++ (s.liveSorted ctx slot).map (·.2))
      let loc := s.panLoc x.apex
      let r := resolveFrom loc t (!sdMode x.desc) t.k 0 s { parts := d.1, incomplete := false, overlap := d.2, failed := false }
      if r.1.failed then .next (r.2.failSlot ctx slot .arith) else
      let roots := r.1.parts
      let missing := !sdMode x.desc && decide (roots.length < t.trees)
      let code := max x.code (if r.1.overlap then 6 else 0)
      let accm := sdMode x.desc && sdAccm x.desc
      let ws : List RootWrite :=
        if x.tainted then ((r.2.rootWrites ctx t x.desc roots).zipIdx 3).map (fun w => { w.1 with val := (Config.anyWord s.aux.time w.2).toNat })
        else if 4 ≤ code then [] else r.2.rootWrites ctx t x.desc roots
      match (r.2.freeLive ctx slot).map (fun (s : State) => s.openPages ctx (ws.flatMap (·.ias)) accm true) with
      | none => .next (s.post (.slotResolve ctx slot))
      | some (.error _) => .next (s.post (.slotResolve ctx slot))
      | some (.ok s1) =>
        match State.rootWriteAll ctx loc t (accm && !x.tainted) ws s1 0#5 with
        | .error e => .next (({ r.2 with aux := e.aux, hub := e.hub } : State).failSlot ctx slot .arith)
        | .ok (fl, s3) =>
        .next (((s3.clearSlot ctx slot).modSlot ctx slot (fun y => { y with
          code := if x.tainted then (Config.anyWord s.aux.time 0).toNat else code
          incomplete := r.1.incomplete || missing
          flags := if x.tainted then (Config.anyWord s.aux.time 1).setWidth 5 else fl })).post (.slotFinal ctx slot))
  | _, _ => .next s

/-- The status word of R187. -/
def stateCode : SState → Nat
  | .free => 0 | .opened => 1 | .closing => 2 | .final => 3
def slotWord (code : Nat) (st : SState) (fl : Flags) : Word := BitVec.ofNat 32 (code * 2 ^ 24 + stateCode st * 2 ^ 20 + fl.toNat)
/-- The final status (R264; R258). Of a slot that ended by a check it has the codes recorded before: DESIGN CHOICE, notes/assumptions/118.md. -/
def finalWord (x : Slot) : Word :=
  if x.tainted then slotWord x.code .final x.flags else
  let code := if x.code ≠ 0 then x.code else if x.incomplete then 3 else 0
  slotWord code .final (if code = 0 || code = 3 then x.flags else 0#5)

/-- A slot is free again; its serial and previous brine region stay (R193, R255). -/
def State.freeSlot (s : State) (c n : Nat) : State :=
  s.modSlot c n (fun x => { state := .free, serial := x.serial, prevBrine := some (sdBrine x.desc, sdBrsz x.desc), tainted := x.tainted })

/-- A wait on a final slot is answered: the status and an acquire under sc2, or the machine trap of R265. It goes on waiting
while the acquire's sweep at a wrap has bytes held (R401). -/
def State.answerWait (s : State) (c n : Nat) (r : ReplyTo) (pos : Pos) : State :=
  let x := s.slotOf c n
  match x.state with
  | .final =>
    (match x.check with
    | some .arith => (s.freeSlot c n).takeTrap ⟨r.ctx, r.vc, r.line⟩ r.lanes pos { code := .arithCheck }
    | some (.machine a) => (s.freeSlot c n).takeTrap ⟨r.ctx, r.vc, r.line⟩ r.lanes pos { code := .machineCheck, info := a }
    | none =>
      let s := s.preSweep r.ctx r.vc 0xFF 1
      if s.acqWaits r.ctx r.vc 0xFF 1 then { s with waits := s.waits ++ [{ on := .slot c n, reply := r, pos := pos }] } else
      ((s.freeSlot c n).acquire r.ctx r.vc 0xFF 1).post (.longLatencyReturn (replyResult r (r.lanes.map (fun l => (l, [finalWord x], 0#5))))))
  | st => s.post (.longLatencyReturn (replyResult r (r.lanes.map (fun l => (l, [slotWord 7 st 0#5], 0#5)))))

/-- The waits on a slot are answered. -/
def State.answerWaits (s : State) (c n : Nat) : State :=
  let mine := s.waits.filter (fun w => w.on == .slot c n)
  mine.foldl (fun s w => s.answerWait c n w.reply w.pos) { s with waits := s.waits.filter (fun w => w.on != .slot c n) }

/-- R254, R264: the slot becomes final and the waits on it return. One that ends by a check frees its brine entries first, and
waits while a page of its region does not translate. -/
def execSlotFinal (ctx slot : Nat) (s : State) : Host.Outcome State Fault Refusal :=
  let x := s.slotOf ctx slot
  if !x.spilled.isEmpty && !s.brineReady ctx slot then .next (s.post (.slotFinal ctx slot)) else
  match s.freeLive ctx slot with
  | none => .next (s.post (.slotFinal ctx slot))
  | some s => .next (((s.clearSlot ctx slot).modSlot ctx slot (fun x => { x with state := .final, spilled := [] })).answerWaits ctx slot)

/-! ## Contributing (R189 to R191) -/

/-- What a contribute meets. -/
inductive Contrib where
  | done (s : State)
  | trap (t : Trap)
  | page (f : PFault)

/-- The slot checks of R195 for a lane. -/
def slotTrap (x : Slot) (n F : Nat) (keyed exact : Bool) : Option Trap :=
  if x.state ≠ .opened then some { code := .slot, cause := 1, info := n }
  else if sdMode x.desc ≠ keyed then some { code := .slot, cause := 3, info := n }
  else if if exact then F ≠ sdFmt x.desc else !suits F (sdFmt x.desc) then some { code := .slot, cause := 2, info := n }
  else none

/-- `ctb` (R189). -/
def State.contribute (s : State) (c v F : Nat) (a : DWord) (n : Nat) (val : DWord) : Contrib :=
  let x := s.slotOf c n
  match slotTrap x n F false false, descParms x.desc with
  | some t, _ => .trap t
  | none, none => .done s
  | none, some t =>
    let i := a.toNat
    if 2 ^ 48 ≤ i || decide (t.trees ≤ i >>> t.k) || decide (t.n ≤ i % 2 ^ t.k) then .done (s.recordCode c n 5) else
    let l := leafOf F t.fmt val.toNat
    .done (s.post (.partialArrive (.core c v) { ctx := c, slot := n, level := 0, index := i, val := BitVec.ofNat 64 l.1, flags := l.2 }))

/-- A formed node taken as it stands, but for a NaN (R190). -/
def nodeValue (fmt x : Nat) : Nat × Flags :=
  match floatFmt fmt, intFmt fmt with
  | some F, _ => let u := unpack F x
    if u.1.isNan then (canonNan F, snan u.2) else (x % 2 ^ F.width, 0#5)
  | none, some (_, w) => (x % 2 ^ w, 0#5)
  | none, none => (x, 0#5)

/-- `ctbn` (R190). -/
def State.contributeNode (s : State) (c v F : Nat) (lab val : DWord) : Contrib :=
  let n := labelSlot lab.toNat
  let x := s.slotOf c n
  match slotTrap x n F false true, descParms x.desc with
  | some t, _ => .trap t
  | none, none => .done s
  | none, some t =>
    let L := labelLevel lab.toNat
    let i := labelIndex lab.toNat
    if t.k < L || decide (t.trees * 2 ^ (t.k - L) ≤ i) || beyond t L i then .done (s.recordCode c n 5) else
    let u := nodeValue t.fmt val.toNat
    .done (s.post (.partialArrive (.core c v) { ctx := c, slot := n, level := L, index := i, val := BitVec.ofNat 64 u.1, flags := u.2 }))

/-- `ctbm` (R191): slot checks, alignment, range (the translation `map` of its issue), then as a store, then the leaf goes to its home. -/
def State.contributeMem (s : State) (c F : Nat) (addr : Nat) (b : Word) (val : DWord) (map : Option (List Span)) : Contrib :=
  let n := bits b.toNat 24 8
  let i := bits b.toNat 0 24
  let x := s.slotOf c n
  match slotTrap x n F true false, descParms x.desc with
  | some t, _ => .trap t
  | none, none => .done s
  | none, some t =>
    let w := accBytes t.fmt
    if addr % w ≠ 0 then .trap { code := .alignment, info := addr } else
    match map with
    | none => .trap { code := .range, info := addr }
    | some ss =>
      match s.openPages c (spanIas ss) false true with
      | .error f => .page f
      | .ok s =>
        if t.n ≤ i then .done (s.recordCode c n 5) else
        let l := leafOf F t.fmt val.toNat
        .done (s.post (.ctbmLeafArrive { ctx := c, slot := n, level := 0, index := i, val := BitVec.ofNat 64 l.1, flags := l.2, addr := (spanIas ss).headD 0 }))

end Sys2Proof.Machine
end

