-- ==== Sys2Proof/Machine/Schedule.lean ====
section
/-!
DEFINITION. Offered entries, gangs, the active and pending sets of a core (R132, R239 to R242), and the words that a
position holds (R73, R79).
-/
namespace Sys2Proof.Machine

/-- A gang as it stands at an issue selection. -/
structure GangNow where
  line : Nat
  slices : List Nat
  lanes : List Nat
  pos : Pos
  /-- its lanes have opened the pair at `pos` (R79) -/
  opened : Bool
  ready : Bool
  /-- it waits at an S point, at `bar` or at a channel (R241); and at `bar` -/
  waits : Bool
  atBar : Bool
  last : Nat
deriving DecidableEq, Repr

/-- May stand in an offered entry: neither parked (with accesses still held), trapped nor yielded (R132, R341). -/
def State.unparked (s : State) (p : Place) (t : Thread) : Bool :=
  match t.stat with
  | .run | .sync _ | .bar => true
  | .parked _ => s.eligible p t
  | .parkedRetry _ | .trapped _ _ | .yielded => false

/-- The priority of a thread's position (R101, R132). -/
def State.prioOf (s : State) (t : Thread) : Nat :=
  match s.kernelOf t with
  | none => 0
  | some k => blockPriority k.blocks t.pos.word

/-- Position p comes before q in the choice of R132: higher priority, then lower word, then sub-slot 0. -/
def before (p q : Nat × Pos) : Bool :=
  decide (q.1 < p.1) || (p.1 == q.1 && (decide (p.2.word < q.2.word) || (p.2.word == q.2.word && !p.2.sub && q.2.sub)))

/-- The entry that a slice offers (R132): its position, its lanes, whether they have opened the pair there, and what keeps it
from issuing: results past an S point (R74), `bar`, a channel (R166), a stall at issue (R240). Lanes that stand at one position are
one entry, which waits while results past an S point are outstanding for some of them; lanes at `bar` stand apart from the lanes
that come to their position. -/
structure Offer where
  pos : Pos
  lanes : List Nat
  opened : Bool := false
  /-- the number of the S point whose results its lanes wait for -/
  past : Option Nat := none
  atBar : Bool := false
  chan : Bool := false
  stalled : Bool := false
deriving DecidableEq, Repr

/-- The S point that a lane stands past. -/
def pastOf (t : Thread) : Option Nat :=
  match t.stat with
  | .sync id => some id
  | _ => none

def State.offer (s : State) (c v line : Nat) (ts : List (Nat × Thread)) : Option Offer :=
  let us := ts.filter (fun e => s.unparked ⟨c, v, line, e.1⟩ e.2)
  match us with
  | [] => none
  | e :: es =>
    let best := es.foldl (fun b x => if before (s.prioOf x.2, x.2.pos) b then (s.prioOf x.2, x.2.pos) else b) (s.prioOf e.2, e.2.pos)
    let at' := us.filter (fun x => x.2.pos == best.2)
    match at'.filter (fun x => x.2.stat != .bar) with
    | [] => some { pos := best.2, lanes := at'.map (·.1), atBar := true }
    | el => some { pos := best.2, lanes := el.map (·.1), opened := el.all (·.2.opened), chan := el.any (·.2.chanWait)
                   past := el.findSome? (fun x => if s.eligible ⟨c, v, line, x.1⟩ x.2 then none else pastOf x.2)
                   stalled := el.any (fun x => x.2.stalled == some s.aux.acts) }

/-- The gangs of a line: slices whose offers stand at one position fuse, but those that wait for results past different
S points or at `bar` (R239). Lanes that reach a pair which others of the gang have opened join them at its first half (R79). -/
def State.lineGangs (s : State) (c v line : Nat) : List GangNow :=
  let ts := s.lineThreads c v line
  let offers := (List.range 8).filterMap (fun q =>
    (s.offer c v line (ts.filter (fun e => e.1 / 4 == q))).map (fun o => (q, o)))
  (dedup (offers.map (fun o => (o.2.pos, o.2.past, o.2.atBar)))).map (fun k =>
    let parts := offers.filter (fun o => (o.2.pos, o.2.past, o.2.atBar) == k)
    let lanes := sortNat (parts.flatMap (fun o => o.2.lanes))
    let blocked := k.2.1.isSome || k.2.2
    let chan := parts.any (fun o => o.2.chan)
    { line := line, slices := parts.map (·.1), lanes := lanes, pos := k.1, opened := parts.all (fun o => o.2.opened)
      ready := !blocked && !chan && !parts.any (fun o => o.2.stalled), waits := blocked || chan, atBar := k.2.2
      last := ((ts.filter (fun e => lanes.contains e.1)).map (fun e => e.2.last)).foldl max 0 })

/-- Lines of a core that hold threads. -/
def State.liveLines (s : State) (c v : Nat) : List Nat := sortNat (dedup ((s.coreThreads c v).map (fun e => e.1.line)))
def State.coreGangs (s : State) (c v : Nat) : List GangNow := (s.liveLines c v).flatMap (fun l => s.lineGangs c v l)

/-- The parts that a gang takes whole: the gangs whose slices are all among its own (R239). -/
def wholeParts (old : List GangRec) (g : GangNow) : List GangRec := old.filter (fun r => r.line == g.line && r.slices.all (fun q => g.slices.contains q))
/-- Slices of it have split off a gang. -/
def splitOff (old : List GangRec) (g : GangNow) : Bool :=
  old.any (fun r => r.line == g.line && r.slices.any (fun q => g.slices.contains q) && !r.slices.all (fun q => g.slices.contains q))
/-- The record of a gang that persists, that fuses from parts, or that is new to its core: pending since now (R239, R246). A part that
is released from `bar` while it is pending is pending since now (R245). -/
def gangRecOf (old : List GangRec) (now : Nat) (g : GangNow) : GangRec :=
  let parts := wholeParts old g
  { line := g.line, slices := g.slices, active := parts.any (·.active), atBar := g.atBar
    since := parts.foldl (fun m r => min m (if r.atBar && !g.atBar && !r.active then now else r.since)) now }
/-- The records of a core's gangs. Slices that split off a gang count as entering now, and make the gang that they form or join active
while the active set has room (R239); the places are given in the order of lines and slices (notes/assumptions/113.md). -/
def gangRecs (old : List GangRec) (now : Nat) (gs : List GangNow) : List GangRec :=
  let rs := gs.map (fun g => (splitOff old g, gangRecOf old now g))
  (rs.foldl (fun (acc : List GangRec × Nat) e =>
    if e.1 && !e.2.active && decide (acc.2 < 8) then (acc.1 ++ [{ e.2 with active := true, since := now }], acc.2 + 1) else (acc.1 ++ [e.2], acc.2))
    ([], (rs.filter (·.2.active)).length)).1

/-- Is the gang of a record ready? -/
def readyRec (gs : List GangNow) (r : GangRec) : Bool := gs.any (fun g => g.line == r.line && g.slices == r.slices && g.ready)

/-- Does it wait where an active gang gives up its place (R241)? A stall at issue is no such wait. -/
def waitsRec (gs : List GangNow) (r : GangRec) : Bool := gs.any (fun g => g.line == r.line && g.slices == r.slices && g.waits)

/-- The ready pending gang with the earliest pending time (R241). -/
def earliestPending (gs : List GangNow) (rs : List GangRec) : Option GangRec :=
  (rs.filter (fun r => !r.active && readyRec gs r)).foldl (fun b r =>
    match b with
    | none => some r
    | some x => if r.since < x.since then some r else b) none

def setActive (rs : List GangRec) (r : GangRec) (a : Bool) (now : Nat) : List GangRec :=
  rs.map (fun x => if x.line == r.line && x.slices == r.slices then { x with active := a, since := now } else x)

/-- Filling the active set, and swapping out gangs that wait (R241): at most `fuel` moves. -/
def fillSets (gs : List GangNow) (now : Nat) : Nat → List GangRec → List GangRec
  | 0, rs => rs
  | fuel + 1, rs =>
    match earliestPending gs rs with
    | none => rs
    | some p =>
      if (rs.filter (·.active)).length < 8 then fillSets gs now fuel (setActive rs p true now)
      else match rs.find? (fun r => r.active && waitsRec gs r) with
        | some w => fillSets gs now fuel (setActive (setActive rs w false now) p true now)
        | none => rs

/-- The sets of a core at an issue selection. -/
def State.gangSets (s : State) (c v : Nat) (gs : List GangNow) : List GangRec :=
  fillSets gs s.aux.time gs.length (gangRecs (s.core c v).gangs s.aux.time gs)

/-- May a core of a context issue: placed and running, or stopped by a debug unit and stepped (R217)? -/
def State.coreIssues (s : State) (c v : Nat) : Bool :=
  (s.phys? c v).isSome && (match (s.core c v).run with
    | .running => true
    | .debugStopped _ => (s.core c v).step.isSome
    | _ => false)

/-- The longest-waiting pending ready gang of a core on die d that is due for promotion (R242). -/
def State.duePromotion (s : State) (d : Nat) (gs : List GangNow) (rs : List GangRec) : Option GangRec :=
  match earliestPending gs rs with
  | none => none
  | some r => if 4096 < s.cyclesFrom d r.since (s.aux.time - r.since) then some r else none

/-! ## The words of a position -/

/-- A word with bit 31 set as given (R79). -/
def withMarker (w : Word) (m : Bool) : Word := (w &&& 0x7FFFFFFF#32) ||| (if m then 0x80000000#32 else 0#32)

/-- The word that a thread's position names: an ordinary word, or half of an opened pair with its marker (R73, R79).
Past the code section the loader's region holds zeros. -/
def Kernel.wordAt (k : Kernel) (pos : Pos) (opened : Bool) : Word :=
  let w := k.code.getD pos.word 0#32
  if opened || pos.sub then
    let e := if pos.sub then (w.extractLsb' 4 10) else (w.extractLsb' 14 10)
    withMarker (k.dict.getD e.toNat 0#32) (if pos.sub then w.getLsbD 31 else w.getLsbD 24)
  else w

def majorOf (w : Word) : Nat := (w.extractLsb' 25 6).toNat
/-- The word at a position's head belongs to issue slot B: majors 0x20 to 0x3E; of a pair, its first half decides (R240). -/
def Kernel.slotB (k : Kernel) (pos : Pos) (opened : Bool) : Bool :=
  let w := k.wordAt pos opened
  decide (0x20 ≤ majorOf (if majorOf w = 0x3F ∧ !opened ∧ !pos.sub then k.wordAt pos true else w))

/-- info of an illegal-instruction trap at a position (R339). -/
def Kernel.infoAt (k : Kernel) (pos : Pos) (opened : Bool) : Nat :=
  let w := k.code.getD pos.word 0#32
  if pos.sub then (w.extractLsb' 4 10).toNat else if opened then (w.extractLsb' 14 10).toNat else w.toNat

end Sys2Proof.Machine
end

