-- ==== Sys2Proof/Machine/Request.lean ====
section
/-!
DEFINITION. Memory requests of lanes: their checks (R147, R155, R340), performing them (R148, R155, R292), holding them
behind a fault and re-executing them (R150, R400), and the issue of a memory instruction by a gang.
-/
namespace Sys2Proof.Machine

/-! ## Range-register translation at issue (R147, R292, R293) -/

/-- The global stretch that a request names: address, bytes, needs of read and write. -/
def reqGlobal : MemReq → Option (Nat × Nat × Bool × Bool)
  | .load .g _ a n _ _ => some (a, n, true, false)
  | .store .g _ a d => some (a, d.length, false, true)
  | .atom .g _ n a _ _ _ _ _ => some (a, n, true, true)
  | .ctbm fmt a _ _ => some (a, accBytes fmt, false, true)
  | .scset _ a => some (a, 128, true, false)
  | _ => none

def State.mapReq (s : State) (c : Nat) (r : MemReq) : Option (List Span) :=
  match r with
  | .ctbm _ a b _ =>
    let w := accBytes (sdFmt (s.slotOf c (bits b.toNat 24 8)).desc)
    if a < 2 ^ 57 then s.mapVa c a w false true else none
  | _ => match reqGlobal r with
    | some (a, n, rd, wr) => if a < 2 ^ 57 then s.mapVa c a n rd wr else none
    | none => none

/-- The level, first byte, bytes and kind of an on-chip request. -/
def reqChip : MemReq → Option (Lvl × Nat × Nat)
  | .load l _ a n _ _ => some (l, a, n)
  | .store l _ a d => some (l, a, d.length)
  | .atom l _ n a _ _ _ _ _ => some (l, a, n)
  | _ => none

/-- Must the request wait for a job of the range scoreboard (R149), or a plane store for a queued pass that has still to read its
reservation (R175)? -/
def State.reqWaits (s : State) (c v : Nat) (r : MemReq) (map : Option (List Span)) : Bool :=
  let store := match r with
    | .load .. => false
    | .scset .. => false
    | .ldp .. => false
    | _ => true
  let planes (recd : BitVec 256) (sc : Bool) (i k : Nat) : Bool := s.boardWaits c v .c (spansOf (oprBytes sc recd i k)) store
  match r with
  | .stp n recd sc i k _ => (s.core c v).engines.any (fun e => e.2.any (fun p => p.names n)) || planes recd sc i k
  | .ldp _ recd sc i k _ _ => planes recd sc i k
  | _ =>
  match reqGlobal r, reqChip r, map with
  | some _, _, some ss => s.boardWaits c v .g (ss.map (fun x => (x.ia, x.ia + x.len - 1))) store
  | none, some (l, a, n), _ => l != .p && s.boardWaits c v l [(a, a + n - 1)] store
  | _, _, _ => false

/-- The release that comes before a request: cset and point (R159, R292). -/
def reqRelease (r : MemReq) (map : Option (List Span)) : Option (Nat × Nat) :=
  let at' := match map with
    | some ss => strongest ss
    | none => 0
  match r with
  | .fence k _ g => if k = .acq then none else some (g.cset, g.point)
  | .load .g .. | .store .g .. | .scset .. => if at' = 2 then some (0xFF, 2) else none
  | .atom .g _ _ _ _ _ _ g _ => if at' = 2 then some (0xFF, 2) else if at' = 1 then some (g.cset, g.point) else none
  | _ => none

/-- The acquire that comes after it. -/
def reqAcquire (r : MemReq) (map : Option (List Span)) : Option (Nat × Nat) :=
  let at' := match map with
    | some ss => strongest ss
    | none => 0
  match r with
  | .fence k _ g => if k = .rel then none else some (g.cset, g.point)
  | .load .g .. | .store .g .. | .scset .. => if at' = 2 then some (0xFF, 2) else none
  | .atom .g _ _ _ _ _ _ g d => if at' = 2 then some (0xFF, 2) else if at' = 1 && d.isSome then some (g.cset, g.point) else none
  | _ => none

/-- Must the request wait for a drain of its line: it releases what the lane's quarter has drained (R322), or it names bytes that
the lane itself, as the lowest of a drain's lanes, is still to write (R148, R185). -/
def State.drainWaits (s : State) (c v line lane : Nat) (r : MemReq) (map : Option (List Span)) : Bool :=
  let own := ((s.line c v line).drains.filter (fun d => !d.2.held && d.2.lanes.head? == some lane)).flatMap (fun d =>
    d.2.writes.map (fun w => (w.ia, w.ia + w.bytes.length - 1)))
  (match map with
   | some ss => s.spansMeet c (ss.map (fun x => (x.ia, x.ia + x.len - 1))) own
   | none => false) ||
  ((reqRelease r map).isSome && s.draining c v line lane)

/-- Held write-back bytes keep the release before a request, or the acquire after it, from completing (R401). -/
def State.fenceWaits (s : State) (c v : Nat) (r : MemReq) (map : Option (List Span)) : Bool :=
  (match reqRelease r map with
   | some (cs, pt) => s.relWaits c v cs pt
   | none => false) ||
  (match reqAcquire r map with
   | some (cs, pt) => s.acqWaits c v cs pt
   | none => false)
/-- The write-backs that the release before a request makes, and those of its acquire's sweep. -/
def State.fenceFirst (s : State) (c v : Nat) (r : MemReq) (map : Option (List Span)) : State :=
  let s := match reqRelease r map with
    | some (cs, pt) => s.release c v cs pt
    | none => s
  match reqAcquire r map with
  | some (cs, pt) => s.preSweep c v cs pt
  | none => s

/-! ## Checks at issue -/

/-- Alignment and bounds of R147, in the order of R340. -/
def State.addrTrap (s : State) (c v : Nat) (t : Thread) (lvl : Lvl) (a n : Nat) (map : Option (List Span)) (atomic : Bool) : Option Trap :=
  let aligned : Bool := a % n == 0
  match lvl with
  | .g =>
    if atomic && !aligned then some { code := .alignment, info := a } else
    (match map with
     | none => some { code := .range, info := a }
     | some ss => if atomic && ss.length != 1 then some { code := .alignment, info := a } else none)
  | .p =>
    if !aligned then some { code := .alignment, info := a }
    else if a + n ≤ s.allotP t then none else some { code := .privateBounds, info := a }
  | l =>
    if !aligned then some { code := .alignment, info := a }
    else if s.chipOk c v l a n then none else some { code := .onChipBounds, cause := l.lev, info := a }

/-- Stale-index and non-member faults (R39, R155, R157). -/
def genTrap (v sc : Nat) (g : ScopeGen) : Option Trap :=
  if !g.valid then some { code := .staleIndex, cause := sc, info := g.gen }
  else if !g.vmask.testBit v then some { code := .nonMember, cause := sc, info := g.gen }
  else none

/-- The immediate traps of a request, beside those that its meaning finds. -/
def State.reqTrap (s : State) (c v : Nat) (t : Thread) (r : MemReq) (map : Option (List Span)) : Option Trap :=
  match r with
  | .load l _ a n _ _ => s.addrTrap c v t l a n map false
  | .store l _ a d => s.addrTrap c v t l a d.length map false
  | .atom l _ n a _ _ sc g _ =>
    (match genTrap v sc g with
     | some x => some x
     | none => s.addrTrap c v t l a n map true)
  | .fence _ sc g => genTrap v sc g
  | .scset _ a =>
    if a % 8 ≠ 0 then some { code := .recordFormat, info := a }
    else (match map with
      | none => some { code := .range, info := a }
      | some _ => none)
  | _ => none

/-! ## Performing -/

/-- What a request comes to: performed, with the words for its destination; a trap; a page fault beyond the core, with
its virtual address; or it has to wait for held write-back bytes (R401). -/
inductive Served where
  | done (s : State) (out : Option (ReplyTo × List Word))
  | trap (t : Trap)
  | page (f : PFault) (va : Nat)
  | wait (s : State)

/-- A loaded value as it is written to registers (R146). -/
def loadWords (bytes : Nat) (signed : Bool) (bs : List Byte) : List Word :=
  let x := natOfBytes bs
  if bytes = 8 then wordsOfNat x 2
  else if bytes = 16 then wordsOfNat x 4
  else if signed then [BitVec.ofInt 32 (toSigned (8 * bytes) x)]
  else [BitVec.ofNat 32 x]

/-- The operation of an atomic on w bits (R155). -/
def atomNew (op : AtomOp) (w old v cmp : Nat) : Nat :=
  let s (x : Nat) := toSigned w x
  match op with
  | .add => (old + v) % 2 ^ w
  | .and => old &&& v
  | .or => old ||| v
  | .xor => old ^^^ v
  | .minI => if s old ≤ s v then old else v
  | .maxI => if s old ≤ s v then v else old
  | .minN => if old ≤ v then old else v
  | .maxN => if old ≤ v then v else old
  | .exch => v
  | .cas => if old = cmp then v else old

/-- The virtual address of an intermediate address of an access. -/
def vaOfIa (ss : List Span) (ia : Nat) : Nat :=
  match ss.find? (fun x => x.ia ≤ ia && decide (ia < x.ia + x.len)) with
  | some x => x.va + (ia - x.ia)
  | none => 0

def Who.of (k : AccKind) (v line lane : Nat) (pos : Pos) : Who := { kind := k, vc := v, line := line, lanes := [lane], pos := pos }

/-- A global load (R273, R274, R292). -/
def State.loadG (s : State) (c v : Nat) (who : Who) (ss : List Span) (nt : Bool) : Except AccErr (List Byte × State) :=
  let ias := spanIas ss
  if strongest ss = 2 then
    match s.loadHome c v ias nt with
    | .error e => .error e
    | .ok (bs, t) => .ok (bs, t.observe t c v who .g (spansOf ias) true false)
  else
    let miss := ias.filter (fun a => (s.l1Byte c v a).isNone)
    match s.loadL1 c v ias nt with
    | .error e => .error e
    | .ok (bs, t) => .ok (bs, if miss.isEmpty then t else t.observe t c v who .g (spansOf miss) true false)

/-- A machine check on memory: the trap carries the address (R151). -/
def machineCheck (a : Nat) : Trap := { code := .machineCheck, info := a }
/-- The one of an uncorrectable byte, by intermediate and trap address, with its log entry (R395; notes/assumptions/26.md). -/
def State.byteCheck (s : State) (c ia a : Nat) : Trap :=
  { code := .machineCheck, info := a, log := some (4, dramLoc (s.paOf c ia), s.paOf c ia) }

/-- A fault of R314, or a wait at the home (R287). -/
def Served.ofFault (s : State) (f : PFault) (va : Nat) : Served := if f.waits then .wait s else .page f va

def State.accOfErr (s : State) (c : Nat) (ss : List Span) : AccErr → Served
  | .page f => Served.ofFault s f (vaOfIa ss f.ia)
  | .bad a _ => .trap (s.byteCheck c a (vaOfIa ss a))
  | .dead a => .trap (machineCheck a)
  | .chip x a => .trap (s.chipCheck x (if x.lvl = .g then vaOfIa ss a else a))

/-- The market of the access's die has been retired (R392). -/
def State.deadMarket (s : State) (l : Lvl) (a : Nat) : Bool := l == .m && (s.die (bits a 25 2)).marketRetired

/-- The scope entry that an image gives (R37, R161): none if it is refused. -/
def scopeImage (n : Nat) (x : Nat) (old : ScopeGen) : Option ScopeGen :=
  let point := bits x 648 4
  let vmask := bits x 0 640
  if bits x 688 336 ≠ 0 ∨ bits x 652 3 ≠ 0 ∨ 2 < point then none
  else if point = 0 ∧ ((List.range 640).filter (fun i => vmask.testBit i)).length ≠ 1 then none
  else if 2 ^ n ≤ vmask then none
  else some { valid := true, gen := (old.gen + 1) % 2 ^ 32, point := point, cset := bits x 640 8, vmask := vmask }

/-! ## Drain writes (R185, R322, R329) -/

/-- What the first write of a sequencer comes to. -/
inductive Drained where
  | none
  | done (s : State)
  | wait (s : State)
  | page (f : PFault) (va : Nat)

/-- The sequencer sends its first write as a global store of its quarter's lowest lane, performed at its home; it
waits on the range scoreboard, and a write to an SO range releases and acquires (R149, R185, R292). -/
def State.drainOne (s : State) (c v line q : Nat) : Drained :=
  match (s.line c v line).drainOf q with
  | none => .none
  | some d =>
    match d.writes with
    | [] => .none
    | w :: rest =>
      if s.boardWaits c v .g [(w.ia, w.ia + w.bytes.length - 1)] true then .wait s else
      let s1 := if w.attr = 2 then s.release c v 0xFF 2 else s
      if w.attr == 2 && s1.relWaits c v 0xFF 2 then .wait s1 else
      match s1.storeHome c v (Who.of .store v line (d.lanes.headD 0) d.pos) (w.bytes.zipIdx.map (fun e => (w.ia + e.2, e.1))) with
      | .error (.page f) => if f.waits then .wait s1 else .page f (w.va + (f.ia - w.ia))
      | .error (.bad _ _) | .error (.dead _) | .error (.chip _ _) => .wait s1
      | .ok t =>
        let t := if w.attr = 2 then t.acquire c v 0xFF 2 else t
        .done (if rest.isEmpty then t.dropDrain c v line q else t.modDrain c v line q (fun d => { d with writes := rest }))

/-- All of its remaining writes, for a held drain. -/
def State.drainAll (c v line q : Nat) : Nat → State → Served
  | 0, s => .done s none
  | fuel + 1, s =>
    match s.drainOne c v line q with
    | .none => .done (s.dropDrain c v line q) none
    | .done t => State.drainAll c v line q fuel t
    | .wait t => .wait t
    | .page f va => .page f va

/-- Do the bytes lie in two pages (R147)? Then a store writes nothing until both translate, and is performed at the homes. -/
def crossesPage (ias : List Nat) : Bool := ias.any (fun a => a / 2 ^ 18 != ias.headD 0 / 2 ^ 18)

/-- How the next atomic executes (R155, R301): 0 in one action at its home, 1 there with its write later than its read, 2 in the
issuing core's L1 under point 0. The choice is data of the state (notes/assumptions/25.md). -/
def State.atomMode (s : State) : Nat × State := (s.aux.atoms.headD 0, { s with aux := { s.aux with atoms := s.aux.atoms.drop 1 } })

/-- An atomic whose write a watchpoint watches is performed in full at its home, in one action (R382). -/
def State.splits (s : State) (c v : Nat) (lvl : Lvl) (spans : List (Nat × Nat)) (mode : Nat) : Bool :=
  mode == 1 && (s.matching c v none lvl spans true true).isEmpty

/-- An atomic on global memory (R155, R156, R301). -/
def State.atomG (s : State) (c v line lane : Nat) (pos : Pos) (op : AtomOp) (n : Nat) (x cmp : DWord) (g : ScopeGen) (d : Option ReplyTo)
    (ss : List Span) : Served :=
  let ias := spanIas ss
  let who := Who.of .atomic v line lane pos
  let m := s.atomMode
  let new (bs : List Byte) : List Byte := bytesOfNat (atomNew op (8 * n) (natOfBytes bs) (x.toNat % 2 ^ (8 * n)) (cmp.toNat % 2 ^ (8 * n))) n
  let answer (bs : List Byte) : Option (ReplyTo × List Word) := d.map (fun d => (d, wordsOfNat (natOfBytes bs) (n / 4)))
  if m.1 = 2 ∧ g.point = 0 ∧ strongest ss ≠ 2 ∧ g.cset.testBit (s.pageClass c (ias.headD 0)) then
    match m.2.checkPage c (ias.headD 0) true true with
    | .error f => .page f (vaOfIa ss f.ia)
    | .ok _ => (match m.2.loadL1 c v ias false with
      | .error e => m.2.accOfErr c ss e
      | .ok (bs, t) => .done (t.storeL1 c v who (ias.zip (new bs))) (answer bs))
  else
    let s := (linesOf ias).foldl (fun s la => s.l1Drop c v la) (m.2.ownFirst c v ias)
    let s := if s.halves.isEmpty then s else s.settleHalves (fun h => s.halfMeets c ias h && mutualWith c v g.vmask h)
    match s.openPages c ias true true with
    | .error f => Served.ofFault s f (vaOfIa ss f.ia)
    | .ok s1 =>
      match s1.badByte c ias with
      | some a => .trap (s1.byteCheck c a (vaOfIa ss a))
      | none =>
        let old := ias.map (fun a => s1.homeByte c a)
        let l := ias.zip (new old)
        if s1.splits c v .g (spansOf ias) m.1 && strongest ss != 2 then
          let t : State := { s1 with halves := s1.halves ++ [{ ctx := c, vc := v, line := line, lane := lane, pos := pos, vmask := g.vmask, reads := d.isSome, bytes := l }] }
          .done ((t.observe s1 c v who .g (spansOf ias) d.isSome false).post (.storePerform c v (ias.headD 0))) (answer old)
        else
          .done (((s1.putBytes c l).taint c (spansOf ias)).observe s1 c v who .g (spansOf ias) d.isSome true) (answer old)

/-- An atomic on square memory. -/
def State.atomQ (s : State) (c v line lane : Nat) (pos : Pos) (l : Lvl) (op : AtomOp) (n a : Nat) (x cmp : DWord) (g : ScopeGen) (d : Option ReplyTo) : Served :=
  let q := squareOf (s.phys c v)
  let m := s.atomMode
  let s := m.2.settleHalves (fun h => halfIn q a n h && (ofCore c v h || mutualWith c v g.vmask h))
  match s.badAt (s.chipAt c v l a) n with
  | some k => .trap (s.chipCheck (s.chipAt c v l (a + k)) (a + k))
  | none =>
    let s := s.noteReads (s.chipAt c v l a) n
    let old := natOfBytes (s.chipRead c v l a n)
    let bs := bytesOfNat (atomNew op (8 * n) old (x.toNat % 2 ^ (8 * n)) (cmp.toNat % 2 ^ (8 * n))) n
    let who := Who.of .atomic v line lane pos
    let t := if s.splits c v l [(a, a + n - 1)] m.1 then
        let t : State := { s with halves := s.halves ++ [{ ctx := c, vc := v, line := line, lane := lane, pos := pos, vmask := g.vmask, sq := some q, reads := d.isSome
                                                           bytes := bs.zipIdx.map (fun e => (a + e.2, e.1)) }] }
        (t.observe s c v who l [(a, a + n - 1)] d.isSome false).post (.storePerform c v 0)
      else (s.chipPut c v l a bs).observe s c v who l [(a, a + n - 1)] d.isSome true
    .done t (d.map (fun d => (d, wordsOfNat old (n / 4))))

/-- A request that has passed its checks and need not wait is performed. -/
def State.performBare (s : State) (c v line lane : Nat) (pos : Pos) (r : MemReq) (map : Option (List Span)) : Served :=
  let ss := map.getD []
  let place : Place := ⟨c, v, line, lane⟩
  match r with
  | .load .p _ a n sg d =>
    let x := s.chipAt c v .p (512 * (32 * line + lane) + a)
    (match s.badAt x n with
     | some k => .trap (s.chipCheck x (a + k))
     | none => .done (s.noteReads x n) (some (d, loadWords n sg ((s.thread place).priv.readBytes a n))))
  | .store .p _ a bs =>
    .done ((s.clearBad (s.chipAt c v .p (512 * (32 * line + lane) + a)) bs.length).modThread place (fun t => { t with priv := t.priv.writeBytes a bs })) none
  | .load .g nt _ n sg d =>
    (match s.loadG c v (Who.of .load v line lane pos) ss nt with
     | .error e => s.accOfErr c ss e
     | .ok (bs, t) => .done t (some (d, loadWords n sg bs)))
  | .store .g nt _ bs =>
    let l := (spanIas ss).zip bs
    (match if nt || strongest ss == 2 || crossesPage (spanIas ss) then s.storeHome c v (Who.of .store v line lane pos) l else .ok (s.storeL1 c v (Who.of .store v line lane pos) l) with
     | .error e => s.accOfErr c ss e
     | .ok t => .done t none)
  | .atom .g op n _ x cmp _ g d => s.atomG c v line lane pos op n x cmp g d ss
  | .load l _ a n sg d =>
    if s.deadMarket l a then .trap (machineCheck a) else
    let s := if l = .q then s.settleHalves (fun h => ofCore c v h && halfIn (squareOf (s.phys c v)) a n h) else s
    match s.badAt (s.chipAt c v l a) n with
    | some k => .trap (s.chipCheck (s.chipAt c v l (a + k)) (a + k))
    | none =>
    let bs := s.chipRead c v l a n
    .done ((s.observe s c v (Who.of .load v line lane pos) l [(a, a + n - 1)] true false).noteReads (s.chipAt c v l a) n) (some (d, loadWords n sg bs))
  | .store l _ a bs =>
    if s.deadMarket l a then .trap (machineCheck a) else
    .done ((s.chipWrite c v l a bs).observe s c v (Who.of .store v line lane pos) l [(a, a + bs.length - 1)] false true) none
  | .atom l op n a x cmp _ g d =>
    if s.deadMarket l a then .trap (machineCheck a) else s.atomQ c v line lane pos l op n a x cmp g d
  | .fence .. => .done s none
  | .follow l q => if (s.thread ⟨c, v, line, l⟩).held.any (fun h => h.pos == q) then .wait s else .done s none
  | .barrier =>
    if (s.groupOf c ⟨v, line, lane⟩).isNone then .done s none else
    if s.draining c v line lane then .wait s else
    let s := s.release c v 0xFF 1
    if s.relWaits c v 0xFF 1 then .wait s else
    let s := s.arriveBar c ⟨v, line, lane⟩
    let s := match s.groupOf c ⟨v, line, lane⟩ with
      | some x => s.completePhase c x.vc x.num
      | none => s
    .done (if (s.thread ⟨c, v, line, lane⟩).stat == .bar && s.stepped c v line then s.endStep c v 1 else s) none
  | .ctb fmt i n x =>
    (match s.contribute c v fmt i n x with
     | .done s => .done s none
     | .trap t => .trap t
     | .page f => Served.ofFault s f 0)
  | .ctbn fmt lab x =>
    (match s.contributeNode c v fmt lab x with
     | .done s => .done s none
     | .trap t => .trap t
     | .page f => Served.ofFault s f 0)
  | .ctbm fmt a b x =>
    (match s.contributeMem c fmt a b x map with
     | .done s => .done s none
     | .trap t => .trap t
     | .page f => Served.ofFault s f (vaOfIa ss f.ia))
  | .scset sc a =>
    (match s.loadG c v (Who.of .load v line lane pos) ss false with
     | .error e => s.accOfErr c ss e
     | .ok (bs, t) =>
       match scopeImage (t.ctx c).n (natOfBytes bs) ((look (t.ctx c).scopes sc).getD ⟨false, 0, 1, 0, 0⟩) with
       | none => .trap { code := .recordFormat, info := a }
       | some g => .done (t.modCtx c (fun x => { x with scopes := put x.scopes sc g })) none)
  | .stp _ recd sc i k x =>
    let bytes := oprBytes sc recd i k
    let t := (bytes.foldl (fun s a => s.clearBad (s.chipAt c v .c a) 1) s).modCore c v (fun y => { y with scratch := storeElem sc y.scratch recd i k x })
    .done (t.observe s c v (Who.of .store v line lane pos) .c (spansOf bytes) false true) none
  | .ldp _ recd sc i k w d =>
    let bytes := oprBytes sc recd i k
    (match bytes.find? (fun a => (s.badAt (s.chipAt c v .c a) 1).isSome) with
     | some a => .trap (s.chipCheck (s.chipAt c v .c a) a)
     | none => .done ((s.observe s c v (Who.of .load v line lane pos) .c (spansOf bytes) true false).noteRead (bytes.map (s.chipAt c v .c))) (some (d, loadElem sc (s.core c v).scratch recd i k w)))
  | .drain l q => State.drainAll c v l q (((s.drains c v l).flatMap (fun d => d.2.writes)).length + 1) s

/-- With its checks, and with its acquire after it. -/
def State.perform (s : State) (c v line lane : Nat) (pos : Pos) (r : MemReq) (map : Option (List Span)) : Served :=
  match s.reqTrap c v (s.thread ⟨c, v, line, lane⟩) r map with
  | some t => .trap t
  | none =>
    match s.performBare c v line lane pos r map with
    | .done s out => .done (match reqAcquire r map with
        | some (cs, pt) => s.acquire c v cs pt
        | none => s) out
    | x => x

/-! ## Fault notes -/

/-- kind of R315. -/
def reqKind : MemReq → Nat
  | .load .. => 0
  | .ldp .. => 0
  | .atom .. => 2
  | .scset .. => 3
  | _ => 1

/-- A lane's access that faulted: lane, position, kind, fault, virtual address. -/
structure LaneFault where
  lane : Nat
  pos : Pos
  kind : Nat
  f : PFault
  va : Nat
deriving DecidableEq, Repr

/-- Faults of one instruction, page and cause (R315). -/
def sameFault (x y : LaneFault) : Bool :=
  x.pos == y.pos && x.kind == y.kind && x.f.cause == y.f.cause && x.f.lvl == y.f.lvl && x.f.ia >>> faultShift x.f.cause x.f.lvl == y.f.ia >>> faultShift y.f.cause y.f.lvl

/-- The first fault that a fault is recorded with. -/
def leadFault (fs : List LaneFault) (x : LaneFault) : LaneFault := (fs.find? (sameFault x)).getD x

/-- One note per instruction, page and cause; each lane's first held access waits for the answer. -/
def State.noteFaults (s : State) (c v line : Nat) (fs : List LaneFault) : State :=
  let s := fs.foldl (fun s x => s.modThread ⟨c, v, line, x.lane⟩ (fun t =>
    { t with held := match t.held with
        | h :: r => { h with faulted := some (leadFault fs x).f.ia } :: r
        | [] => [] })) s
  (dedup (fs.map (leadFault fs))).foldl (fun s x =>
    s.post (.gatewayPageFault { ctx := c, vc := v, line := line, die := dieOf (s.phys c v), src := 0, cause := x.f.cause, kind := x.kind
                                vcache := x.f.vcn, lvl := x.f.lvl, ia := x.f.ia, va := x.va
                                lanes := (fs.filter (sameFault x)).map (·.lane), job := none })) s

/-! ## Issue of a memory instruction -/

/-- Results of several lanes as one. -/
def mergeResults (rs : List Result) : Option Result :=
  match rs with
  | [] => none
  | r :: rest => some (rest.foldl (fun a b => { a with
      lanes := a.lanes ++ b.lanes, regs := a.regs ++ b.regs, gs := a.gs ++ b.gs, flags := a.flags ++ b.flags, pushes := a.pushes ++ b.pushes }) r)

/-- The result that one lane's reply carries. -/
def laneResult (d : ReplyTo) (lane : Nat) (ws : List Word) : Result := replyResult d [(lane, ws, 0#5)]

/-- What the lanes of an issue have come to so far. -/
structure Issued where
  s : State
  outs : List Result := []
  traps : List (Nat × Trap) := []
  faults : List LaneFault := []
  /-- g registers whose value falls to the next lane: the lanes before it have trapped -/
  gs : List Nat := []

def MemReq.withDst (r : MemReq) (d : ReplyTo) : MemReq :=
  match r with
  | .load l nt a n sg _ => .load l nt a n sg d
  | .atom l op n a x y sc g (some _) => .atom l op n a x y sc g (some d)
  | .ldp n r sc i k w _ => .ldp n r sc i k w d
  | r => r

/-- The request writing the g registers that the trapped lanes before it leave to it. -/
def MemReq.withGs (r : MemReq) (gs : List Nat) : MemReq :=
  match r.dst with
  | some d => if gs.isEmpty then r else r.withDst { d with gs := gs }
  | none => r

/-- One lane of the issue. -/
def Issued.lane (x : Issued) (l : Nat) (r : MemReq) (map : Option (List Span)) : Issued :=
  let s := x.s
  let i := s.issue
  let r := r.withGs x.gs
  let x := { x with gs := [] }
  let hold (s : State) := s.modLane l (fun t => { t with held := t.held ++ [{ pos := i.pos, req := r, map := map }] })
  if !(s.lane l).held.isEmpty then { x with s := hold s } else
  match s.perform i.ctx i.vc i.line l i.pos r map with
  | .done s out => { x with s := s, outs := x.outs ++ (match out with
      | some (d, ws) => [laneResult d l ws]
      | none => []) }
  | .trap t => { x with s := s.unreserve ((r.dst.map (·.pushes)).getD []), traps := x.traps ++ [(l, t)], gs := (r.dst.map (·.gs)).getD [] }
  | .page f va => { x with s := hold s, faults := x.faults ++ [{ lane := l, pos := i.pos, kind := reqKind r, f := f, va := va }] }
  | .wait s => { x with s := hold s }

/-- Does the request trap at once in its lane? One that is held behind a fault meets its traps when it is re-executed
(R150, R400). -/
def State.trapsNow (s : State) (l : Nat) (r : MemReq) (map : Option (List Span)) : Option Trap :=
  if !(s.lane l).held.isEmpty then none else
  match s.perform s.issue.ctx s.issue.vc s.issue.line l s.issue.pos r map with
  | .trap t => if t.code = .machineCheck then none else some t
  | _ => none

/-- Giving each lane its destination: a g destination only to the lowest lane, channel entries in lane order. -/
def State.laneReplies (s : State) (dst : Option OpSpec) : List (Nat × MemReq) → Bool → List (Nat × MemReq) × State
  | [], _ => ([], s)
  | (l, r) :: rest, first =>
    match dst with
    | none => ((l, r) :: rest, s)
    | some o =>
      let d := s.replyTo [l] o
      let d2 := if first then d.2 else { d.2 with gs := [] }
      let more := State.laneReplies d.1 (some o) rest false
      ((l, r.withDst d2) :: more.1, more.2)

/-- Issue of a memory instruction, which counts before an access of it can match a watchpoint (R382): lanes that trap stop, the others' requests are performed in ascending lane order or
held, and the gang goes on to `next`; it stalls while a request must wait for a job, for held write-backs, or for room
among the held accesses. `s0` is the state before the operands were read. -/
def State.memIssueTo (s : State) (s0 : State) (sw : Bool) (dst : Option OpSpec) (reqs : List (Nat × MemReq))
    (next : Nat → Thread → Pos × Bool) : State :=
  let c := s.issue.ctx
  let v := s.issue.vc
  let board := s.readStore (.board c v)
  if board.1 then board.2.trapAll (s.storeCheck c v) else
  let s := board.2
  let mapped := reqs.map (fun e => (e.1, e.2, s.mapReq c e.2))
  let traps := mapped.filterMap (fun e => (s.trapsNow e.1 e.2.1 e.2.2).map (fun t => (e.1, t)))
  let live := mapped.filter (fun e => !traps.any (·.1 == e.1))
  if live.any (fun e => s.reqWaits c v e.2.1 e.2.2 || s.drainWaits c v s.issue.line e.1 e.2.1 e.2.2) || decide (Config.heldLimit ≤ s.heldCount c v) then s0.stall else
  let free := live.filter (fun e => (s.lane e.1).held.isEmpty)
  let pre (s : State) := free.foldl (fun s e => s.fenceFirst c v e.2.1 e.2.2) s
  let s1 := pre s
  if free.any (fun e => s1.fenceWaits c v e.2.1 e.2.2) then (pre s0).stall else
  let lr := (if live.isEmpty then s1 else s1.countIssue).laneReplies dst (live.map (fun e => (e.1, e.2.1))) true
  let x := (lr.1.zip (live.map (fun e => e.2.2))).foldl (fun (x : Issued) e => x.lane e.1.1 e.1.2 e.2) { s := lr.2 }
  if Config.heldLimit < x.s.heldCount c v then s0.stall else
  let s2 := x.s.noteFaults c v s.issue.line x.faults
  let s3 := match mergeResults x.outs with
    | some r => s2.post (.longLatencyReturn r)
    | none => s2
  let s4 := s3.trapIssue (traps ++ x.traps)
  s4.finishTo sw ((live.map (·.1)).filter (fun l => !x.traps.any (·.1 == l))) next

def State.memIssue (s : State) (s0 : State) (sw : Bool) (dst : Option OpSpec) (reqs : List (Nat × MemReq)) : State :=
  s.memIssueTo s0 sw dst reqs (fun _ t => (nextPos t, nextOpened t))

/-- Issue of a memory instruction that acts once for the gang, through its lowest lane: a trap stops every lane; while
that lane's access is held, the other lanes hold an access that follows it. -/
def State.gangIssue (s : State) (s0 : State) (sw : Bool) (lanes : List Nat) (r : MemReq) : State :=
  let i := s.issue
  let l0 := lanes.headD 0
  let map := s.mapReq i.ctx r
  let hold (s : State) : State := (s.modLane l0 (fun t => { t with held := t.held ++ [{ pos := i.pos, req := r, map := map }] })).modLanes (lanes.drop 1)
    (fun t => { t with held := t.held ++ [{ pos := i.pos, req := .follow l0 i.pos }] })
  let fresh := lanes.filter (fun l => (s.lane l).held.isEmpty)
  match if (s.lane l0).held.isEmpty then s.reqTrap i.ctx i.vc (s.lane l0) r map else none with
  | some t => s.takeTrap s.issKey lanes i.pos t
  | none =>
  if s.reqWaits i.ctx i.vc r map || lanes.any (fun l => s.drainWaits i.ctx i.vc i.line l r map) ||
    decide (Config.heldLimit < s.heldCount i.ctx i.vc + lanes.length) then s0.stall else
  let s := if (s.lane l0).held.isEmpty then s.fenceFirst i.ctx i.vc r map else s
  if (s.lane l0).held.isEmpty && s.fenceWaits i.ctx i.vc r map then (s0.fenceFirst i.ctx i.vc r map).stall else
  if !(s.lane l0).held.isEmpty then (hold s).finish sw lanes else
  match s.countIssue.perform i.ctx i.vc i.line l0 i.pos r map with
  | .trap t => s.takeTrap s.issKey lanes i.pos t
  | .done t _ => t.finish sw lanes
  | .page f va => ((hold s).noteFaults i.ctx i.vc i.line
      (fresh.map (fun l => { lane := l, pos := i.pos, kind := reqKind r, f := f, va := va }))).finish sw lanes
  | .wait _ => (s0.fenceFirst i.ctx i.vc r map).stall

/-! ## Re-executing held accesses (R150, R400) -/

structure Retried where
  s : State
  traps : List (Nat × Pos × Trap) := []
  faults : List LaneFault := []

/-- The lanes of a line that hold an access which follows the one of a lane at a position: an instruction performed once for its
gang. -/
def State.followers (s : State) (c v line lane : Nat) (pos : Pos) : List Nat :=
  ((s.lineThreads c v line).filter (fun e => e.2.held.any (fun h => h.pos == pos && h.req == .follow lane pos))).map (·.1)
/-- Such an instruction is re-executed once it is the first held access of every lane of its gang (R150). -/
def State.followWaits (s : State) (c v line lane : Nat) (pos : Pos) : Bool :=
  (s.followers c v line lane pos).any (fun l => (s.thread ⟨c, v, line, l⟩).held.head?.map (·.pos) != some pos)

/-- A lane's held accesses, in program order, until one faults, traps or has to wait. An access performed once for its gang stops
every lane of the gang (R161, R400). -/
def Retried.lane (c v line lane : Nat) : Nat → Retried → Retried
  | 0, x => x
  | fuel + 1, x =>
    let p : Place := ⟨c, v, line, lane⟩
    let t := x.s.thread p
    match t.held with
    | [] => x
    | h :: rest =>
      if h.faulted.isSome || t.heldTrap || (match t.stat with
        | .trapped _ _ => true
        | _ => false) then x else
      let others := match h.req with
        | .scset .. => x.s.followers c v line lane h.pos
        | _ => []
      if x.s.reqWaits c v h.req h.map || (lane :: others).any (fun l => x.s.drainWaits c v line l h.req h.map) ||
        (!others.isEmpty && x.s.followWaits c v line lane h.pos) then x else
      let s1 := x.s.fenceFirst c v h.req h.map
      if s1.fenceWaits c v h.req h.map then { x with s := s1 } else
      match s1.perform c v line lane h.pos h.req h.map with
      | .done s out =>
        let s := s.modThread p (fun t => { t with held := rest })
        let s := match out with
          | some (d, ws) => s.post (.longLatencyReturn (laneResult d lane ws))
          | none => s
        Retried.lane c v line lane fuel { x with s := s }
      | .trap tr =>
        { x with s := (lane :: others).foldl (fun s l => s.modThread ⟨c, v, line, l⟩ (fun t => { t with heldTrap := true })) s1
                 traps := x.traps ++ (lane :: others).map (fun l => (l, h.pos, tr)) }
      | .page f va => { x with s := s1, faults := x.faults ++ (lane :: others).map (fun l => { lane := l, pos := h.pos, kind := reqKind h.req, f := f, va := va }) }
      | .wait s => { x with s := s }

/-- Lanes of a line re-execute their held accesses. -/
def State.retryLanes (s : State) (c v line : Nat) (lanes : List Nat) : State :=
  let x := lanes.foldl (fun (x : Retried) l => Retried.lane c v line l ((x.s.thread ⟨c, v, line, l⟩).held.length) x) { s := s }
  let s := x.s.noteFaults c v line x.faults
  (dedup (x.traps.map (·.2.1))).foldl (fun s p =>
    s.takeTraps ⟨c, v, line⟩ p ((x.traps.filter (fun e => e.2.1 == p)).map (fun e => (e.1, e.2.2)))) s

/-- Every lane of the context whose held accesses wait for nothing more tries them again. -/
def State.wakeHeld (s : State) (c : Nat) : State :=
  let mine := s.threads.filter (fun e => e.1.ctx == c && s.coreHere c e.1.vc && (match e.2.held with
    | h :: _ => h.faulted.isNone
    | [] => false))
  (dedup (mine.map (fun e => (e.1.vc, e.1.line)))).foldl (fun s k =>
    s.retryLanes c k.1 k.2 (sortNat ((mine.filter (fun e => e.1.vc == k.1 && e.1.line == k.2)).map (fun e => e.1.lane)))) s

/-- The traps of held accesses with their continue positions (R400): resume drops the trapping access, retry keeps it;
the remaining held accesses are re-executed. Without held accesses, R343. -/
def State.answerTrap (s : State) (p : Place) (retry : Bool) : State :=
  let t := s.thread p
  if t.heldTrap then
    let s := match retry, t.held with
      | false, { req := .drain l q, .. } :: _ => s.dropDrain p.ctx p.vc l q
      | false, h :: _ => s.unreserve ((h.req.dst.map ReplyTo.pushes).getD [])
      | _, _ => s
    let s := s.modThread p (fun t => { t with
      heldTrap := false
      stat := .parked s.aux.serial
      held := match t.held with
        | h :: r => if retry then { h with faulted := none } :: r else r
        | [] => [] })
    s.bump
  else s.clearTrap p retry

end Sys2Proof.Machine
end

