-- ==== Sys2Proof/Machine/Control.lean ====
section
/-!
DEFINITION. Control flow and the register window (R132 to R139), the dictionary pair (R79), unassigned words (R84) and
channels (R164 to R167).
-/
namespace Sys2Proof.Machine

/-! ## Transfers -/

/-- The target of a branch word (R72): its address plus the signed offset. A target outside the code names no word. -/
def branchTarget (w : Nat) (o : BitVec 18) : Nat := ((w : Int) + o.toInt).toNat
def toWord (w : Nat) : Pos × Bool := (⟨w, false⟩, false)

/-- `bnz` and `bz`: lanes that satisfy the test go to the target, the others on (R133). -/
def State.execBranch (s : State) (sw : Bool) (d : Fld) (o : BitVec 18) (taken : Word → Bool) : Host.Outcome State Fault Refusal :=
  match s.prepare false [⟨.src, d, 1⟩] with
  | .halt s => .next s
  | .go lanes vals s =>
    .next (s.finishTo sw lanes (fun l t =>
      if taken (w32 (arg ((look vals l).getD []) 0)) then toWord (branchTarget s.issue.pos.word o) else (nextPos t, nextOpened t)))

/-- `bnz d, label` (R133). -/
def execBnz (sw : Bool) (d : Fld) (o : BitVec 18) (s : State) : Host.Outcome State Fault Refusal := s.execBranch sw d o (fun x => x != 0#32)
/-- `bz d, label` (R133). -/
def execBz (sw : Bool) (d : Fld) (o : BitVec 18) (s : State) : Host.Outcome State Fault Refusal := s.execBranch sw d o (fun x => x == 0#32)

/-- The link value: the word index after the call word (R134, R135). -/
def State.linkWord (s : State) : Word := BitVec.ofNat 32 (s.issue.pos.word + 1)

/-- `call d, label` (R134): an S point. -/
def execCall (_sw : Bool) (d : Fld) (o : BitVec 18) (s : State) : Host.Outcome State Fault Refusal :=
  match s.prepare false [⟨.dstVG, d, 1⟩] with
  | .halt s => .next s
  | .go lanes _ s1 =>
    let s2 := s1.deliver false lanes ⟨.dst, d, 1⟩ (lanes.map (fun l => (l, [s.linkWord], 0#5)))
    .next (s2.finishTo true lanes (fun _ _ => toWord (branchTarget s.issue.pos.word o)))

/-- A target is valid only where a block starts within the code (R135). -/
def State.validTarget (s : State) (w : Nat) : Bool :=
  match s.kernelOf (s.lane (s.issue.lanes.headD 0)) with
  | some k => isBlockStart k w
  | none => false

/-- `jmpi`, `calli` and `ret` (R135): lanes whose target is invalid trap and write no link. -/
def State.execIndirect (s : State) (link : Option Fld) (a : Fld) : Host.Outcome State Fault Refusal :=
  let ops : List OpSpec := match link with
    | some d => [⟨.src, a, 1⟩, ⟨.dstVG, d, 1⟩]
    | none => [⟨.src, a, 1⟩]
  match s.prepare false ops with
  | .halt s => .next s
  | .go lanes vals s1 =>
    let target (l : Nat) : Nat := (w32 (arg ((look vals l).getD []) 0)).toNat
    let bad := lanes.filter (fun l => !s.validTarget (target l))
    let good := lanes.filter (fun l => s.validTarget (target l))
    let s2 := s1.trapIssue (bad.map (fun l => (l, { code := .controlTarget, info := target l })))
    let s3 := match link with
      | some d => if good.isEmpty then s2 else s2.deliver false good ⟨.dst, d, 1⟩ (good.map (fun l => (l, [s.linkWord], 0#5)))
      | none => s2
    .next (s3.finishTo true good (fun l _ => toWord (target l)))

/-- `jmpi a` (R135). -/
def execJmpi (_sw : Bool) (a : Fld) (s : State) : Host.Outcome State Fault Refusal := s.execIndirect none a
/-- `calli d, a` (R135). -/
def execCalli (_sw : Bool) (d a : Fld) (s : State) : Host.Outcome State Fault Refusal := s.execIndirect (some d) a
/-- `ret a` (R135): exactly the effect of `jmpi`. -/
def execRet (_sw : Bool) (a : Fld) (s : State) : Host.Outcome State Fault Refusal := s.execIndirect none a

/-- `exit` (R136): after its S point the thread of each active lane ends. -/
def execExit (_sw : Bool) (s : State) : Host.Outcome State Fault Refusal :=
  match s.syncFirst (fun _ => true) with
  | some s => .next s
  | none =>
    if s.issue.lanes.any (fun l => s.draining s.issue.ctx s.issue.vc s.issue.line l) then .next s.stall else
    .next (s.issue.lanes.foldl (fun t l => State.exitThread t ⟨s.issue.ctx, s.issue.vc, s.issue.line, l⟩) s.countIssue)

/-- `win n` (R137): an S point. -/
def execWin (_sw : Bool) (b : Fld) (s : State) : Host.Outcome State Fault Refusal :=
  let n := 8 * b.toNat
  let regs (l : Nat) : Nat := match s.kernelOf (s.lane l) with
    | some k => (k.roles.getD (s.lane l).role (0, 0)).2
    | none => 0
  let good := s.issue.lanes.filter (fun l => n + 104 ≤ regs l)
  let bad := s.issue.lanes.filter (fun l => regs l < n + 104)
  let s1 := s.trapIssue (bad.map (fun l => (l, { code := .windowBounds, info := n })))
  .next ((s1.modLanes good (fun t => { t with wb := n })).finish true good)

/-! ## Cooperative yielding -/

/-- save_base and save_stride of a launch record (R224). -/
def saveBase (r : BitVec 2048) : Nat := bits r.toNat 128 57
def saveStride (r : BitVec 2048) : Nat := bits r.toNat 224 32

/-- Bytes 0 to 15 of a save record (R138, R344). -/
def saveBytes (word wb : Nat) : List Byte := bytesOfNat (word % 2 ^ 32 + wb * 2 ^ 32) 16

/-- `ychk` (R138): after its S point, with the request flag set, lanes that are not diverted write their save records
and go to the yield handler. -/
def execYchk (_sw : Bool) (s : State) : Host.Outcome State Fault Refusal :=
  match s.syncFirst (fun _ => true) with
  | some s => .next s
  | none =>
    let set := s.issCtx.set
    if !set.preq then .next (s.finish false s.issue.lanes) else
    let go := s.issue.lanes.filter (fun l => !(s.lane l).diverted)
    let stay := s.issue.lanes.filter (fun l => (s.lane l).diverted)
    let s1 := s.finish false stay
    if go.isEmpty then .next s1
    else if !s.validTarget set.yhnd then .next (s1.takeTrap s.issKey go s.issue.pos { code := .controlTarget, info := set.yhnd }) else
    let s2 := s1.memIssueTo s false none (go.map (fun l =>
      let t := s.lane l
      let r := ((s.launchOf t).map (·.recd)).getD 0
      (l, .store .g false ((saveBase r + t.tid * saveStride r) % 2 ^ 64) (saveBytes (s.issue.pos.word + 1) t.wb))))
      (fun _ _ => toWord set.yhnd)
    .next (s2.modLanes go (fun t => if t.pos = ⟨set.yhnd, false⟩ ∧ t.stat = .run then { t with diverted := true } else t))

/-- `yield` (R139): after its S point; with the request flag set the threads stop. -/
def execYield (_sw : Bool) (s : State) : Host.Outcome State Fault Refusal :=
  match s.syncFirst (fun _ => true) with
  | some s => .next s
  | none =>
    let s1 := (s.finish false s.issue.lanes).modLanes s.issue.lanes (fun t => { t with diverted := false })
    .next (if s.issCtx.set.preq then s1.modLanes s.issue.lanes (fun t => { t with stat := .yielded }) else s1)

/-! ## Dictionary pairs and unassigned words -/

/-- A dictionary pair (R79): its lanes open it, and its halves issue as words of their own; an index that is not
below dict_words is illegal. -/
def execDpair (_t _u : Bool) (e f : BitVec 10) (s : State) : Host.Outcome State Fault Refusal :=
  let dict := match s.kernelOf (s.lane (s.issue.lanes.headD 0)) with
    | some k => k.dict.length
    | none => 0
  if dict ≤ e.toNat ∨ dict ≤ f.toNat then .next (s.trapAll { code := .illegal, info := s.issue.info })
  else .next (s.modLanes s.issue.lanes (fun t => { t with opened := true }))

/-- An unassigned word raises the illegal-instruction trap in the lanes that issue it (R84). -/
def execUnassignedWordIssue (_w : Word) (s : State) : Host.Outcome State Fault Refusal :=
  .next (s.trapAll { code := .illegal, info := s.issue.info })

/-! ## Channels -/

/-- Entries of receive storage that the other bound channels of a line take. -/
def depthSum (l : Line) (k : Nat) : Nat :=
  (l.chans.zipIdx.map (fun e => if e.2 ≠ k ∧ e.1.bound then chanDepth e.1 else 0)).sum

/-- `ch.bind a, chk` (R164). -/
def execChBind (sw : Bool) (a : Fld) (k : BitVec 3) (s : State) : Host.Outcome State Fault Refusal :=
  match s.prepare false [⟨.src, a, 1⟩] with
  | .halt s => .next s
  | .go lanes vals s =>
    let w := w32 (arg ((vals.headD (0, [])).2) 0)
    let new : Chan := { bound := true, word := w }
    let old := s.issLine.chans.getD k.toNat {}
    if bits w.toNat 2 17 ≠ 0 ∨ bits w.toNat 30 2 = 3 ∨ 256 < depthSum s.issLine k.toNat + chanDepth new ∨ (old.bound ∧ old.queue ≠ []) then
      .next (s.takeTrap s.issKey lanes s.issue.pos { code := .channel, cause := 4, info := k.toNat })
    else .next ((s.modIssLine (fun l => setChan l k.toNat new)).finish sw lanes)

/-- `ch.free chk` (R165): waits until no push into the queue is outstanding. -/
def execChFree (sw : Bool) (k : BitVec 3) (s : State) : Host.Outcome State Fault Refusal :=
  let q := (s.issLine.chans.getD k.toNat {}).queue
  if dataCount q < q.length then .next s.stall
  else .next ((s.modIssLine (fun l => setChan l k.toNat {})).finish sw s.issue.lanes)

/-- `ch.cnt d, chk` (R165). -/
def execChCnt (sw : Bool) (d : Fld) (k : BitVec 3) (s : State) : Host.Outcome State Fault Refusal :=
  match s.prepare false [⟨.dst, d, 1⟩] with
  | .halt s => .next s
  | .go lanes _ s =>
    let n := dataCount (s.issLine.chans.getD k.toNat {}).queue
    .next ((s.deliver false lanes ⟨.dst, d, 1⟩ (lanes.map (fun l => (l, [BitVec.ofNat 32 n], 0#5)))).finish sw lanes)

/-- R166: pushed data fills its reserved entries, and gangs that wait at the queue try again. -/
def execChannelPushArrive (p : Push) (s : State) : Host.Outcome State Fault Refusal :=
  match look s.lines ⟨p.ctx, p.vc, p.line⟩ with
  | none => .next s
  | some _ =>
    let s := (s.catchFlits p.ctx p.vc p.vals.length).modLine p.ctx p.vc p.line (fun l =>
      let ch := l.chans.getD p.ch {}
      setChan l p.ch { ch with queue := fillQueue ch.queue p.key p.vals })
    .next ((s.lineThreads p.ctx p.vc p.line).foldl (fun s e => s.modThread ⟨p.ctx, p.vc, p.line, e.1⟩ (fun t => { t with chanWait := false })) s)

end Sys2Proof.Machine
end

