-- ==== Sys2Proof/Machine/Special.lean ====
section
/-!
DEFINITION. The special functions of R126 and R127: each the exact mathematical value rounded once. Reciprocals are
computed exactly; the transcendental functions in integer fixed point with a bound on the error, at growing precision
until both ends of the interval round alike (every value that is not handled as exact is irrational, so they do).
-/
namespace Sys2Proof.Machine

/-! ## Reciprocals -/

/-- 1 / x. -/
def exactRcp : Exact → Exact × Flags
  | .nan => (.nan, 0#5)
  | .inf n => (.fin n 0 0 false, 0#5)
  | .fin n m e s => exactDiv (.fin false 1 0 false) (.fin n m e s)

/-- 1 / √x: with x = m × 2^e and e made even, √(2^(2k) / m) × 2^(-k - e/2). -/
def exactRsqrt : Exact → Exact × Flags
  | .nan => (.nan, 0#5)
  | .inf n => if n then (.nan, flInvalid) else (.fin false 0 0 false, 0#5)
  | .fin n m e _ =>
    if m = 0 then (.inf n, flDivZero)
    else if n then (.nan, flInvalid)
    else
      let odd := decide (e % 2 ≠ 0)
      let m := if odd then 2 * m else m
      let e := if odd then e - 1 else e
      let k := 70 + bitLen m
      let r := isqrt (2 ^ (2 * k) / m)
      (.fin false r (-(k : Int) - e / 2) (decide (r * r * m ≠ 2 ^ (2 * k))), 0#5)

/-! ## Fixed point with N fraction bits -/

/-- Sum over i < fuel of term × (1/q)^i / (2i + 1), signs alternating if `alt`. -/
def atanSum (alt : Bool) (q : Nat) : Nat → Nat → Nat → Int
  | 0, _, _ => 0
  | fuel + 1, i, term =>
    let t : Int := ((term / (2 * i + 1) : Nat) : Int)
    (if alt && i % 2 == 1 then -t else t) + atanSum alt q fuel (i + 1) (term / q)

/-- ln 2 = 2 atanh (1/3). -/
def ln2Fix (N : Nat) : Int := 2 * atanSum false 9 (N / 3 + 4) 0 (2 ^ N / 3)
/-- π = 16 atan (1/5) - 4 atan (1/239). -/
def piFix (N : Nat) : Int :=
  16 * atanSum true 25 (N / 4 + 4) 0 (2 ^ N / 5) - 4 * atanSum true (239 * 239) (N / 15 + 4) 0 (2 ^ N / 239)

/-- Sum over i of r^i / i!, starting from the i-th term; r may be negative. -/
def expSum (N : Nat) (r : Int) : Nat → Nat → Int → Int
  | 0, _, _ => 0
  | fuel + 1, i, term => term + expSum N r fuel (i + 1) (term * r / 2 ^ N / ((i : Int) + 1))
/-- e^r for |r| < 1. -/
def expFix (N : Nat) (r : Int) : Int := expSum N r (N / 4 + 20) 0 (2 ^ N)

/-- ln x for 1 ≤ x < 2: 2 atanh ((x - 1) / (x + 1)). -/
def lnSum (N : Nat) (z2 : Int) : Nat → Nat → Int → Int
  | 0, _, _ => 0
  | fuel + 1, i, term => term / (2 * (i : Int) + 1) + lnSum N z2 fuel (i + 1) (term * z2 / 2 ^ N)
def lnFix (N : Nat) (x : Int) : Int :=
  let z := (x - 2 ^ N) * 2 ^ N / (x + 2 ^ N)
  2 * lnSum N (z * z / 2 ^ N) (N / 3 + 4) 0 z

/-- Sum of the series of sine (from term r, i = 1) or cosine (from term 1, i = 0). -/
def trigSum (N : Nat) (r2 : Int) : Nat → Nat → Int → Int
  | 0, _, _ => 0
  | fuel + 1, i, term => term + trigSum N r2 fuel (i + 2) (-(term * r2 / 2 ^ N / (((i : Int) + 1) * ((i : Int) + 2))))
def sinFix (N : Nat) (r : Int) : Int := trigSum N (r * r / 2 ^ N) (N / 6 + 12) 1 r
def cosFix (N : Nat) (r : Int) : Int := trigSum N (r * r / 2 ^ N) (N / 6 + 12) 0 (2 ^ N)

/-- The bound on the error of every function below, in units of 2^-N: each of at most N/3 + 24 terms is cut by a few
units, and no later operation multiplies an error by more than 2^6. -/
def fixErr (N : Nat) : Int := 64 * (N + 100)

/-- A fixed-point value times 2^shift, as an exact number. -/
def ofFix (N : Nat) (v shift : Int) : Exact := .fin (decide (v < 0)) v.natAbs (shift - N) false

/-- Round an interval: the common result of both ends, at growing precision. -/
def ziv (F : Fmt) (f : Nat → Int × Int) : Nat → Nat → Nat × Flags
  | 0, N => rne F (ofFix N (f N).1 (f N).2)
  | fuel + 1, N =>
    let v := f N
    let lo := rne F (ofFix N (v.1 - fixErr N) v.2)
    let hi := rne F (ofFix N (v.1 + fixErr N) v.2)
    if lo = hi then (lo.1, lo.2 ||| flInexact) else ziv F f fuel (2 * N)

/-- A fixed-point form of man × 2^exp, cut downward. -/
def toFix (N : Nat) (man : Nat) (exp : Int) : Nat :=
  let k := exp + N
  if 0 ≤ k then man * 2 ^ k.toNat else man / 2 ^ (-k).toNat

/-- 1 plus or minus a positive amount below 2^-100. -/
def nearOne (below : Bool) : Exact := .fin false (if below then 2 ^ 100 - 1 else 2 ^ 100) (-100) true

/-- Is man × 2^exp a multiple of 2^k? -/
def multipleOf (man : Nat) (exp k : Int) : Bool :=
  if k ≤ exp then true else decide (man % 2 ^ (k - exp).toNat = 0)
/-- The integer part of man × 2^exp. -/
def intPart (man : Nat) (exp : Int) : Nat := if 0 ≤ exp then man * 2 ^ exp.toNat else man / 2 ^ (-exp).toNat


/-! ## 2^x -/

/-- 2^x as fixed point and shift, for a value that is no integer. -/
def exp2At (neg : Bool) (man : Nat) (exp : Int) (N : Nat) : Int × Int :=
  let x : Int := if neg then -(toFix N man exp : Int) else toFix N man exp
  let k := x / 2 ^ N
  let f := x - k * 2 ^ N
  (expFix N (f * ln2Fix N / 2 ^ N), k)

def fExp2 (F : Fmt) (x : Nat) : Nat × Flags :=
  match unpack F x with
  | (.nan, s) => (canonNan F, snan s)
  | (.inf n, _) => if n then (0, 0#5) else (infCode F false, 0#5)
  | (.fin n m e _, _) =>
    if m = 0 then rne F (.fin false 1 0 false)
    else if leadExp m e < -101 then rne F (nearOne n)
    else if 20 < leadExp m e then rne F (.fin false 1 (if n then -(2 ^ 20) else 2 ^ 20) false)
    else if multipleOf m e 0 then rne F (.fin false 1 (signed n (intPart m e)) false)
    else ziv F (exp2At n m e) 6 256

/-! ## log₂ x -/

def log2At (man : Nat) (exp : Int) (N : Nat) : Int × Int :=
  let k := leadExp man exp
  let frac : Int := toFix N man (exp - k)
  (lnFix N frac * 2 ^ N / ln2Fix N + k * 2 ^ N, 0)

def fLog2 (F : Fmt) (x : Nat) : Nat × Flags :=
  match unpack F x with
  | (.nan, s) => (canonNan F, snan s)
  | (.inf n, _) => if n then (canonNan F, flInvalid) else (infCode F false, 0#5)
  | (.fin n m e _, _) =>
    if m = 0 then (infCode F true, flDivZero)
    else if n then (canonNan F, flInvalid)
    else if m = 2 ^ (bitLen m - 1) then rne F (ofInt (leadExp m e) 0 false)
    else ziv F (log2At m e) 6 256

/-! ## sin (π x), cos (π x) -/

/-- sin (π t / 2^N) for 0 ≤ t < 2^N. -/
def sinpiFix (N : Nat) (t : Nat) : Int :=
  let p := piFix N
  let u := if 2 ^ N < 2 * t then 2 ^ N - t else t
  if 4 * u ≤ 2 ^ N then sinFix N (p * (u : Int) / 2 ^ N)
  else cosFix N (p * (((2 ^ (N - 1) : Nat) : Int) - (u : Int)) / 2 ^ N)

/-- sin (π |x|) as a fixed-point number: x modulo 2. -/
def sinpiAt (neg : Bool) (man : Nat) (exp : Int) (N : Nat) : Int × Int :=
  let t := toFix N man exp % 2 ^ (N + 1)
  let v := if t < 2 ^ N then sinpiFix N t else -sinpiFix N (t - 2 ^ N)
  (if neg then -v else v, 0)

def cospiAt (man : Nat) (exp : Int) (N : Nat) : Int × Int :=
  let t := (toFix N man exp + 2 ^ (N - 1)) % 2 ^ (N + 1)
  (if t < 2 ^ N then sinpiFix N t else -sinpiFix N (t - 2 ^ N), 0)

def fSinpi (F : Fmt) (x : Nat) : Nat × Flags :=
  match unpack F x with
  | (.nan, s) => (canonNan F, snan s)
  | (.inf _, _) => (canonNan F, flInvalid)
  | (.fin n m e _, _) =>
    if m = 0 || multipleOf m e 0 then (signBit F n, 0#5)
    else if multipleOf m e (-1) then rne F (.fin (n != decide (intPart m e % 2 = 1)) 1 0 false)
    else ziv F (sinpiAt n m e) 4 320

def fCospi (F : Fmt) (x : Nat) : Nat × Flags :=
  match unpack F x with
  | (.nan, s) => (canonNan F, snan s)
  | (.inf _, _) => (canonNan F, flInvalid)
  | (.fin _ m e _, _) =>
    if m = 0 || multipleOf m e 0 then rne F (.fin (decide (intPart m e % 2 = 1)) 1 0 false)
    else if multipleOf m e (-1) then (0, 0#5)
    else if leadExp m e < -60 then rne F (nearOne true)
    else ziv F (cospiAt m e) 4 320

/-! ## tanh x -/

/-- tanh |x| = (1 - e^(-2|x|)) / (1 + e^(-2|x|)), with the sign of x. -/
def tanhAt (neg : Bool) (man : Nat) (exp : Int) (N : Nat) : Int × Int :=
  let y : Int := 2 * (toFix N man exp : Int)
  let l := ln2Fix N
  let k := y / l
  let w := expFix N (-(y - k * l)) / 2 ^ k.toNat
  let v := (2 ^ N - w) * 2 ^ N / (2 ^ N + w)
  (if neg then -v else v, 0)

def fTanh (F : Fmt) (x : Nat) : Nat × Flags :=
  match unpack F x with
  | (.nan, s) => (canonNan F, snan s)
  | (.inf n, _) => rne F (.fin n 1 0 false)
  | (.fin n m e _, _) =>
    if m = 0 then (signBit F n, 0#5)
    else if leadExp m e < -30 then rne F (.fin n (m * 2 ^ 30 - 1) (e - 30) true)
    else if 4 < leadExp m e then rne F (.fin n (2 ^ 40 - 1) (-40) true)
    else ziv F (tanhAt n m e) 5 256

def fRcp (F : Fmt) (x : Nat) : Nat × Flags :=
  let a := unpack F x
  let e := exactRcp a.1
  let r := rne F e.1
  (r.1, r.2 ||| e.2 ||| snan a.2)
def fRsqrt (F : Fmt) (x : Nat) : Nat × Flags :=
  let a := unpack F x
  let e := exactRsqrt a.1
  let r := rne F e.1
  (r.1, r.2 ||| e.2 ||| snan a.2)

end Sys2Proof.Machine
end

