-- ==== Sys2Proof/Machine/Float.lean ====
section
/-!
DEFINITION. Floating-point arithmetic, compares and special functions (R121 to R127), majors 0x10 to 0x18.
-/
namespace Sys2Proof.Machine

/-- A 32-bit code result with its flags. -/
def out32 (r : Nat × Flags) : List Word × Flags := (of32 (BitVec.ofNat 32 r.1), r.2)
def out64 (r : Nat × Flags) : List Word × Flags := (of64 (BitVec.ofNat 64 r.1), r.2)
/-- The n-th source as a number. -/
def n32 (vs : List (List Word)) (n : Nat) : Nat := (w32 (arg vs n)).toNat
def n64 (vs : List (List Word)) (n : Nat) : Nat := (w64 (arg vs n)).toNat

/-- Both 16-bit elements of packed registers, each on its own; the flags are ORed (R121). -/
def packed (f : List Nat → Nat × Flags) (vs : List (List Word)) : List Word × Flags :=
  let lo := f (vs.map (fun v => elem (w32 v).toNat 16 0))
  let hi := f (vs.map (fun v => elem (w32 v).toNat 16 1))
  (of32 (BitVec.ofNat 32 (lo.1 + 2 ^ 16 * hi.1)), lo.2 ||| hi.2)

/-! ## Arithmetic with a rounding code (R121) -/

/-- R121: d := round(a + b). -/
def execFaddF32 (sw : Bool) (d a b : Fld) (r : BitVec 2) (s : State) : Host.Outcome State Fault Refusal :=
  s.compute sw false false (dab 1 1 1 d a b) (fun v => out32 (fAdd fmtF32 (rmodeOf r) (n32 v 0) (n32 v 1)))
/-- R121: d := round(a − b). -/
def execFsubF32 (sw : Bool) (d a b : Fld) (r : BitVec 2) (s : State) : Host.Outcome State Fault Refusal :=
  s.compute sw false false (dab 1 1 1 d a b) (fun v => out32 (fSub fmtF32 (rmodeOf r) (n32 v 0) (n32 v 1)))
/-- R121: d := round(a × b). -/
def execFmulF32 (sw : Bool) (d a b : Fld) (r : BitVec 2) (s : State) : Host.Outcome State Fault Refusal :=
  s.compute sw false false (dab 1 1 1 d a b) (fun v => out32 (fMul fmtF32 (rmodeOf r) (n32 v 0) (n32 v 1)))
/-- R121: d := round(a × b + d), one rounding. -/
def execFfmaF32 (sw : Bool) (d a b : Fld) (r : BitVec 2) (s : State) : Host.Outcome State Fault Refusal :=
  s.compute sw false false (dabR 1 1 1 d a b) (fun v => out32 (fFma fmtF32 (rmodeOf r) (n32 v 0) (n32 v 1) (n32 v 2)))
/-- R121: d := round(a + b). -/
def execFaddF64 (sw : Bool) (d a b : Fld) (r : BitVec 2) (s : State) : Host.Outcome State Fault Refusal :=
  s.compute sw false true (dab 2 2 2 d a b) (fun v => out64 (fAdd fmtF64 (rmodeOf r) (n64 v 0) (n64 v 1)))
/-- R121: d := round(a − b). -/
def execFsubF64 (sw : Bool) (d a b : Fld) (r : BitVec 2) (s : State) : Host.Outcome State Fault Refusal :=
  s.compute sw false true (dab 2 2 2 d a b) (fun v => out64 (fSub fmtF64 (rmodeOf r) (n64 v 0) (n64 v 1)))
/-- R121: d := round(a × b). -/
def execFmulF64 (sw : Bool) (d a b : Fld) (r : BitVec 2) (s : State) : Host.Outcome State Fault Refusal :=
  s.compute sw false true (dab 2 2 2 d a b) (fun v => out64 (fMul fmtF64 (rmodeOf r) (n64 v 0) (n64 v 1)))
/-- R121: d := round(a × b + d), one rounding. -/
def execFfmaF64 (sw : Bool) (d a b : Fld) (r : BitVec 2) (s : State) : Host.Outcome State Fault Refusal :=
  s.compute sw false true (dabR 2 2 2 d a b) (fun v => out64 (fFma fmtF64 (rmodeOf r) (n64 v 0) (n64 v 1) (n64 v 2)))
/-- R121: d := round(a + b). -/
def execFaddBf16x2 (sw : Bool) (d a b : Fld) (r : BitVec 2) (s : State) : Host.Outcome State Fault Refusal :=
  s.compute sw false false (dab 1 1 1 d a b) (packed fun v => fAdd fmtBf16 (rmodeOf r) (v.getD 0 0) (v.getD 1 0))
/-- R121: d := round(a − b). -/
def execFsubBf16x2 (sw : Bool) (d a b : Fld) (r : BitVec 2) (s : State) : Host.Outcome State Fault Refusal :=
  s.compute sw false false (dab 1 1 1 d a b) (packed fun v => fSub fmtBf16 (rmodeOf r) (v.getD 0 0) (v.getD 1 0))
/-- R121: d := round(a × b). -/
def execFmulBf16x2 (sw : Bool) (d a b : Fld) (r : BitVec 2) (s : State) : Host.Outcome State Fault Refusal :=
  s.compute sw false false (dab 1 1 1 d a b) (packed fun v => fMul fmtBf16 (rmodeOf r) (v.getD 0 0) (v.getD 1 0))
/-- R121: d := round(a × b + d), one rounding. -/
def execFfmaBf16x2 (sw : Bool) (d a b : Fld) (r : BitVec 2) (s : State) : Host.Outcome State Fault Refusal :=
  s.compute sw false false (dabR 1 1 1 d a b) (packed fun v => fFma fmtBf16 (rmodeOf r) (v.getD 0 0) (v.getD 1 0) (v.getD 2 0))
/-- R121: d := round(a + b). -/
def execFaddF16x2 (sw : Bool) (d a b : Fld) (r : BitVec 2) (s : State) : Host.Outcome State Fault Refusal :=
  s.compute sw false false (dab 1 1 1 d a b) (packed fun v => fAdd fmtF16 (rmodeOf r) (v.getD 0 0) (v.getD 1 0))
/-- R121: d := round(a − b). -/
def execFsubF16x2 (sw : Bool) (d a b : Fld) (r : BitVec 2) (s : State) : Host.Outcome State Fault Refusal :=
  s.compute sw false false (dab 1 1 1 d a b) (packed fun v => fSub fmtF16 (rmodeOf r) (v.getD 0 0) (v.getD 1 0))
/-- R121: d := round(a × b). -/
def execFmulF16x2 (sw : Bool) (d a b : Fld) (r : BitVec 2) (s : State) : Host.Outcome State Fault Refusal :=
  s.compute sw false false (dab 1 1 1 d a b) (packed fun v => fMul fmtF16 (rmodeOf r) (v.getD 0 0) (v.getD 1 0))
/-- R121: d := round(a × b + d), one rounding. -/
def execFfmaF16x2 (sw : Bool) (d a b : Fld) (r : BitVec 2) (s : State) : Host.Outcome State Fault Refusal :=
  s.compute sw false false (dabR 1 1 1 d a b) (packed fun v => fFma fmtF16 (rmodeOf r) (v.getD 0 0) (v.getD 1 0) (v.getD 2 0))

/-! ## Minimum, maximum, sign operations, division, root, compares, class (R122 to R125) -/

/-- R122: IEEE 754-2019 minimum. -/
def execFminF32 (sw : Bool) (d a b : Fld) (s : State) : Host.Outcome State Fault Refusal :=
  s.compute sw false false (dab 1 1 1 d a b) (fun v => out32 (fMinMax fmtF32 false (n32 v 0) (n32 v 1)))
/-- R122: IEEE 754-2019 maximum. -/
def execFmaxF32 (sw : Bool) (d a b : Fld) (s : State) : Host.Outcome State Fault Refusal :=
  s.compute sw false false (dab 1 1 1 d a b) (fun v => out32 (fMinMax fmtF32 true (n32 v 0) (n32 v 1)))
/-- R122: a with its sign cleared. -/
def execFabsF32 (sw : Bool) (d a : Fld) (s : State) : Host.Outcome State Fault Refusal :=
  s.compute sw false false (da 1 1 d a) (fun v => out32 (fAbs fmtF32 (n32 v 0)))
/-- R122: a with its sign inverted. -/
def execFnegF32 (sw : Bool) (d a : Fld) (s : State) : Host.Outcome State Fault Refusal :=
  s.compute sw false false (da 1 1 d a) (fun v => out32 (fNeg fmtF32 (n32 v 0)))
/-- R122: the magnitude of a with the sign bit of b. -/
def execFcpsgnF32 (sw : Bool) (d a b : Fld) (s : State) : Host.Outcome State Fault Refusal :=
  s.compute sw false false (dab 1 1 1 d a b) (fun v => out32 (fCpsgn fmtF32 (n32 v 0) (n32 v 1)))
/-- R123: rne(a / b). -/
def execFdivF32 (sw : Bool) (d a b : Fld) (s : State) : Host.Outcome State Fault Refusal :=
  s.compute sw false false (dab 1 1 1 d a b) (fun v => out32 (fDiv fmtF32 (n32 v 0) (n32 v 1)))
/-- R123: rne(√a). -/
def execFsqrtF32 (sw : Bool) (d a : Fld) (s : State) : Host.Outcome State Fault Refusal :=
  s.compute sw false false (da 1 1 d a) (fun v => out32 (fSqrt fmtF32 (n32 v 0)))
/-- R124: 1 if a = b, else 0. -/
def execFsetEqF32 (sw : Bool) (d a b : Fld) (s : State) : Host.Outcome State Fault Refusal :=
  s.compute sw false false (dab 1 1 1 d a b) (fun v =>
    let c := fCompare fmtF32 .eq (n32 v 0) (n32 v 1)
    (of32 (if c.1 then 1#32 else 0#32), c.2))
/-- R124: 1 if a ≠ b or either is NaN, else 0. -/
def execFsetNeF32 (sw : Bool) (d a b : Fld) (s : State) : Host.Outcome State Fault Refusal :=
  s.compute sw false false (dab 1 1 1 d a b) (fun v =>
    let c := fCompare fmtF32 .ne (n32 v 0) (n32 v 1)
    (of32 (if c.1 then 1#32 else 0#32), c.2))
/-- R124: 1 if a < b, else 0. -/
def execFsetLtF32 (sw : Bool) (d a b : Fld) (s : State) : Host.Outcome State Fault Refusal :=
  s.compute sw false false (dab 1 1 1 d a b) (fun v =>
    let c := fCompare fmtF32 .lt (n32 v 0) (n32 v 1)
    (of32 (if c.1 then 1#32 else 0#32), c.2))
/-- R124: 1 if a ≤ b, else 0. -/
def execFsetLeF32 (sw : Bool) (d a b : Fld) (s : State) : Host.Outcome State Fault Refusal :=
  s.compute sw false false (dab 1 1 1 d a b) (fun v =>
    let c := fCompare fmtF32 .le (n32 v 0) (n32 v 1)
    (of32 (if c.1 then 1#32 else 0#32), c.2))
/-- R124: 1 if either is NaN, else 0. -/
def execFsetUnF32 (sw : Bool) (d a b : Fld) (s : State) : Host.Outcome State Fault Refusal :=
  s.compute sw false false (dab 1 1 1 d a b) (fun v =>
    let c := fCompare fmtF32 .un (n32 v 0) (n32 v 1)
    (of32 (if c.1 then 1#32 else 0#32), c.2))
/-- R125: the class bit of a. -/
def execFclassF32 (sw : Bool) (d a : Fld) (s : State) : Host.Outcome State Fault Refusal :=
  s.compute sw false false (da 1 1 d a) (fun v => out32 (fClass fmtF32 (n32 v 0)))
/-- R122: IEEE 754-2019 minimum. -/
def execFminF64 (sw : Bool) (d a b : Fld) (s : State) : Host.Outcome State Fault Refusal :=
  s.compute sw false false (dab 2 2 2 d a b) (fun v => out64 (fMinMax fmtF64 false (n64 v 0) (n64 v 1)))
/-- R122: IEEE 754-2019 maximum. -/
def execFmaxF64 (sw : Bool) (d a b : Fld) (s : State) : Host.Outcome State Fault Refusal :=
  s.compute sw false false (dab 2 2 2 d a b) (fun v => out64 (fMinMax fmtF64 true (n64 v 0) (n64 v 1)))
/-- R122: a with its sign cleared. -/
def execFabsF64 (sw : Bool) (d a : Fld) (s : State) : Host.Outcome State Fault Refusal :=
  s.compute sw false false (da 2 2 d a) (fun v => out64 (fAbs fmtF64 (n64 v 0)))
/-- R122: a with its sign inverted. -/
def execFnegF64 (sw : Bool) (d a : Fld) (s : State) : Host.Outcome State Fault Refusal :=
  s.compute sw false false (da 2 2 d a) (fun v => out64 (fNeg fmtF64 (n64 v 0)))
/-- R122: the magnitude of a with the sign bit of b. -/
def execFcpsgnF64 (sw : Bool) (d a b : Fld) (s : State) : Host.Outcome State Fault Refusal :=
  s.compute sw false false (dab 2 2 2 d a b) (fun v => out64 (fCpsgn fmtF64 (n64 v 0) (n64 v 1)))
/-- R123: rne(a / b). -/
def execFdivF64 (sw : Bool) (d a b : Fld) (s : State) : Host.Outcome State Fault Refusal :=
  s.compute sw false true (dab 2 2 2 d a b) (fun v => out64 (fDiv fmtF64 (n64 v 0) (n64 v 1)))
/-- R123: rne(√a). -/
def execFsqrtF64 (sw : Bool) (d a : Fld) (s : State) : Host.Outcome State Fault Refusal :=
  s.compute sw false true (da 2 2 d a) (fun v => out64 (fSqrt fmtF64 (n64 v 0)))
/-- R124: 1 if a = b, else 0. -/
def execFsetEqF64 (sw : Bool) (d a b : Fld) (s : State) : Host.Outcome State Fault Refusal :=
  s.compute sw false false (dab 1 2 2 d a b) (fun v =>
    let c := fCompare fmtF64 .eq (n64 v 0) (n64 v 1)
    (of32 (if c.1 then 1#32 else 0#32), c.2))
/-- R124: 1 if a ≠ b or either is NaN, else 0. -/
def execFsetNeF64 (sw : Bool) (d a b : Fld) (s : State) : Host.Outcome State Fault Refusal :=
  s.compute sw false false (dab 1 2 2 d a b) (fun v =>
    let c := fCompare fmtF64 .ne (n64 v 0) (n64 v 1)
    (of32 (if c.1 then 1#32 else 0#32), c.2))
/-- R124: 1 if a < b, else 0. -/
def execFsetLtF64 (sw : Bool) (d a b : Fld) (s : State) : Host.Outcome State Fault Refusal :=
  s.compute sw false false (dab 1 2 2 d a b) (fun v =>
    let c := fCompare fmtF64 .lt (n64 v 0) (n64 v 1)
    (of32 (if c.1 then 1#32 else 0#32), c.2))
/-- R124: 1 if a ≤ b, else 0. -/
def execFsetLeF64 (sw : Bool) (d a b : Fld) (s : State) : Host.Outcome State Fault Refusal :=
  s.compute sw false false (dab 1 2 2 d a b) (fun v =>
    let c := fCompare fmtF64 .le (n64 v 0) (n64 v 1)
    (of32 (if c.1 then 1#32 else 0#32), c.2))
/-- R124: 1 if either is NaN, else 0. -/
def execFsetUnF64 (sw : Bool) (d a b : Fld) (s : State) : Host.Outcome State Fault Refusal :=
  s.compute sw false false (dab 1 2 2 d a b) (fun v =>
    let c := fCompare fmtF64 .un (n64 v 0) (n64 v 1)
    (of32 (if c.1 then 1#32 else 0#32), c.2))
/-- R125: the class bit of a. -/
def execFclassF64 (sw : Bool) (d a : Fld) (s : State) : Host.Outcome State Fault Refusal :=
  s.compute sw false false (da 1 2 d a) (fun v => out32 (fClass fmtF64 (n64 v 0)))
/-- R122: IEEE 754-2019 minimum. -/
def execFminBf16x2 (sw : Bool) (d a b : Fld) (s : State) : Host.Outcome State Fault Refusal :=
  s.compute sw false false (dab 1 1 1 d a b) (packed fun v => fMinMax fmtBf16 false (v.getD 0 0) (v.getD 1 0))
/-- R122: IEEE 754-2019 maximum. -/
def execFmaxBf16x2 (sw : Bool) (d a b : Fld) (s : State) : Host.Outcome State Fault Refusal :=
  s.compute sw false false (dab 1 1 1 d a b) (packed fun v => fMinMax fmtBf16 true (v.getD 0 0) (v.getD 1 0))
/-- R122: a with its sign cleared. -/
def execFabsBf16x2 (sw : Bool) (d a : Fld) (s : State) : Host.Outcome State Fault Refusal :=
  s.compute sw false false (da 1 1 d a) (packed fun v => fAbs fmtBf16 (v.getD 0 0))
/-- R122: a with its sign inverted. -/
def execFnegBf16x2 (sw : Bool) (d a : Fld) (s : State) : Host.Outcome State Fault Refusal :=
  s.compute sw false false (da 1 1 d a) (packed fun v => fNeg fmtBf16 (v.getD 0 0))
/-- R122: IEEE 754-2019 minimum. -/
def execFminF16x2 (sw : Bool) (d a b : Fld) (s : State) : Host.Outcome State Fault Refusal :=
  s.compute sw false false (dab 1 1 1 d a b) (packed fun v => fMinMax fmtF16 false (v.getD 0 0) (v.getD 1 0))
/-- R122: IEEE 754-2019 maximum. -/
def execFmaxF16x2 (sw : Bool) (d a b : Fld) (s : State) : Host.Outcome State Fault Refusal :=
  s.compute sw false false (dab 1 1 1 d a b) (packed fun v => fMinMax fmtF16 true (v.getD 0 0) (v.getD 1 0))
/-- R122: a with its sign cleared. -/
def execFabsF16x2 (sw : Bool) (d a : Fld) (s : State) : Host.Outcome State Fault Refusal :=
  s.compute sw false false (da 1 1 d a) (packed fun v => fAbs fmtF16 (v.getD 0 0))
/-- R122: a with its sign inverted. -/
def execFnegF16x2 (sw : Bool) (d a : Fld) (s : State) : Host.Outcome State Fault Refusal :=
  s.compute sw false false (da 1 1 d a) (packed fun v => fNeg fmtF16 (v.getD 0 0))

/-! ## Special functions (R126, R127): long-latency -/

/-- R126: 1 / a, rounded once. -/
def execFrcpF32 (sw : Bool) (d a : Fld) (s : State) : Host.Outcome State Fault Refusal :=
  s.compute sw true false (da 1 1 d a) (fun v => out32 (fRcp fmtF32 (n32 v 0)))
/-- R126: 1 / √a, rounded once. -/
def execFrsqrtF32 (sw : Bool) (d a : Fld) (s : State) : Host.Outcome State Fault Refusal :=
  s.compute sw true false (da 1 1 d a) (fun v => out32 (fRsqrt fmtF32 (n32 v 0)))
/-- R126: 2^a, rounded once. -/
def execFexp2F32 (sw : Bool) (d a : Fld) (s : State) : Host.Outcome State Fault Refusal :=
  s.compute sw true false (da 1 1 d a) (fun v => out32 (fExp2 fmtF32 (n32 v 0)))
/-- R126: log₂ a, rounded once. -/
def execFlog2F32 (sw : Bool) (d a : Fld) (s : State) : Host.Outcome State Fault Refusal :=
  s.compute sw true false (da 1 1 d a) (fun v => out32 (fLog2 fmtF32 (n32 v 0)))
/-- R126: sin(π a), rounded once. -/
def execFsinpiF32 (sw : Bool) (d a : Fld) (s : State) : Host.Outcome State Fault Refusal :=
  s.compute sw true false (da 1 1 d a) (fun v => out32 (fSinpi fmtF32 (n32 v 0)))
/-- R126: cos(π a), rounded once. -/
def execFcospiF32 (sw : Bool) (d a : Fld) (s : State) : Host.Outcome State Fault Refusal :=
  s.compute sw true false (da 1 1 d a) (fun v => out32 (fCospi fmtF32 (n32 v 0)))
/-- R126: tanh a, rounded once. -/
def execFtanhF32 (sw : Bool) (d a : Fld) (s : State) : Host.Outcome State Fault Refusal :=
  s.compute sw true false (da 1 1 d a) (fun v => out32 (fTanh fmtF32 (n32 v 0)))
/-- R126: 1 / a, rounded once. -/
def execFrcpF64 (sw : Bool) (d a : Fld) (s : State) : Host.Outcome State Fault Refusal :=
  s.compute sw true true (da 2 2 d a) (fun v => out64 (fRcp fmtF64 (n64 v 0)))
/-- R126: 1 / √a, rounded once. -/
def execFrsqrtF64 (sw : Bool) (d a : Fld) (s : State) : Host.Outcome State Fault Refusal :=
  s.compute sw true true (da 2 2 d a) (fun v => out64 (fRsqrt fmtF64 (n64 v 0)))
/-- R126: 2^a, rounded once. -/
def execFexp2F64 (sw : Bool) (d a : Fld) (s : State) : Host.Outcome State Fault Refusal :=
  s.compute sw true true (da 2 2 d a) (fun v => out64 (fExp2 fmtF64 (n64 v 0)))
/-- R126: log₂ a, rounded once. -/
def execFlog2F64 (sw : Bool) (d a : Fld) (s : State) : Host.Outcome State Fault Refusal :=
  s.compute sw true true (da 2 2 d a) (fun v => out64 (fLog2 fmtF64 (n64 v 0)))

end Sys2Proof.Machine
end

