-- ==== Sys2Proof/Machine/Convert.lean ====
section
/-!
DEFINITION. Conversions, packing, block scales and packed dot products (R128 to R131), majors 0x1C to 0x1F.
-/
namespace Sys2Proof.Machine

/-- A result in the register layout of a format of so many words, its unused high bits zero (R82). -/
def outWords (n : Nat) (r : Nat × Flags) : List Word × Flags := if n = 2 then out64 r else out32 r
/-- The n-th source in one or two words, as a number. -/
def inWords (n : Nat) (v : List Word) : Nat := if n = 2 then (w64 v).toNat else (w32 v).toNat

/-- R128: d := a converted from format c to format t in mode r. -/
def execCvt (sw : Bool) (d a : Fld) (c : BitVec 4) (r : BitVec 2) (t : BitVec 4) (s : State) :
    Host.Outcome State Fault Refusal :=
  s.compute sw false false (da (fmtWords t) (fmtWords c) d a)
    (fun v => outWords (fmtWords t) (convert c.toNat t.toNat (rmodeOf r) (inWords (fmtWords c) (arg v 0))))

/-- Two f32 values into the elements of a packed register (R129). -/
def packPair (F : Fmt) (v : List (List Word)) : List Word × Flags :=
  let lo := cvtFF fmtF32 F .rn (n32 v 0)
  let hi := cvtFF fmtF32 F .rn (n32 v 1)
  (of32 (BitVec.ofNat 32 (lo.1 + 2 ^ 16 * hi.1)), lo.2 ||| hi.2)
/-- R129: bf16 elements from a and b. -/
def execCvtpBf16x2F32 (sw : Bool) (d a b : Fld) (s : State) : Host.Outcome State Fault Refusal :=
  s.compute sw false false (dab 1 1 1 d a b) (packPair fmtBf16)
/-- R129: f16 elements from a and b. -/
def execCvtpF16x2F32 (sw : Bool) (d a b : Fld) (s : State) : Host.Outcome State Fault Refusal :=
  s.compute sw false false (dab 1 1 1 d a b) (packPair fmtF16)

/-- Element i of width w of d replaced (R129). -/
def insertElem (w : Nat) (d x i : Nat) : Nat := d - bits d (w * i) w * 2 ^ (w * i) + (x % 2 ^ w) * 2 ^ (w * i)
/-- R129: element (b mod 4) of d := a[7:0]. -/
def execInsE8 (sw : Bool) (d a b : Fld) (s : State) : Host.Outcome State Fault Refusal :=
  s.compute sw false false (dabR 1 1 1 d a b) (fun v => out32 (insertElem 8 (n32 v 2) (n32 v 0) (n32 v 1 % 4), 0#5))
/-- R129: element (b mod 8) of d := a[3:0]. -/
def execInsE4 (sw : Bool) (d a b : Fld) (s : State) : Host.Outcome State Fault Refusal :=
  s.compute sw false false (dabR 1 1 1 d a b) (fun v => out32 (insertElem 4 (n32 v 2) (n32 v 0) (n32 v 1 % 8), 0#5))
/-- R129: element (b mod 4) of a. -/
def execExtE8 (sw : Bool) (d a b : Fld) (s : State) : Host.Outcome State Fault Refusal :=
  s.compute sw false false (dab 1 1 1 d a b) (fun v => out32 (elem (n32 v 0) 8 (n32 v 1 % 4), 0#5))
/-- R129: element (b mod 8) of a. -/
def execExtE4 (sw : Bool) (d a b : Fld) (s : State) : Host.Outcome State Fault Refusal :=
  s.compute sw false false (dab 1 1 1 d a b) (fun v => out32 (elem (n32 v 0) 4 (n32 v 1 % 8), 0#5))

/-- R57, R130: an E8M0 code as s8; code 0xFF sets the block-NaN bit and invalid. -/
def execCvtS8E8m0 (sw : Bool) (d a : Fld) (s : State) : Host.Outcome State Fault Refusal :=
  s.compute sw false false (da 1 1 d a) (fun v =>
    let e := n32 v 0 % 256
    if e = 0xFF then (of32 0x180#32, flInvalid) else out32 ((e + 129) % 256, 0#5))
/-- R57, R130: an s8 scale as an E8M0 code. -/
def execCvtE8m0S8 (sw : Bool) (d a : Fld) (s : State) : Host.Outcome State Fault Refusal :=
  s.compute sw false false (da 1 1 d a) (fun v =>
    match s8Scale (n32 v 0) with
    | none => out32 (0, 0#5)
    | some k => out32 ((k + 127).toNat, 0#5))
/-- R130: rne(a × 2^s), +0 for a zero block. -/
def execSclF32 (sw : Bool) (d a b : Fld) (s : State) : Host.Outcome State Fault Refusal :=
  s.compute sw false false (dab 1 1 1 d a b) (fun v =>
    match s8Scale (n32 v 1) with
    | none => out32 (0, 0#5)
    | some k => out32 (fScale fmtF32 (n32 v 0) k))
/-- R130: as scl.f32, in f64; residue-checked. -/
def execSclF64 (sw : Bool) (d a b : Fld) (s : State) : Host.Outcome State Fault Refusal :=
  s.compute sw false true (dab 2 2 1 d a b) (fun v =>
    match s8Scale (n32 v 1) with
    | none => out64 (0, 0#5)
    | some k => out64 (fScale fmtF64 (n64 v 0) k))

/-- R131: d + Σ a_i × b_i, four signed bytes. -/
def execDp4I8 (sw : Bool) (d a b : Fld) (s : State) : Host.Outcome State Fault Refusal :=
  s.compute sw false false (dabR 1 1 1 d a b) (fun v => out32 (dotInt true 8 4 (n32 v 0) (n32 v 1) (n32 v 2)))
/-- R131: four unsigned bytes. -/
def execDp4N8 (sw : Bool) (d a b : Fld) (s : State) : Host.Outcome State Fault Refusal :=
  s.compute sw false false (dabR 1 1 1 d a b) (fun v => out32 (dotInt false 8 4 (n32 v 0) (n32 v 1) (n32 v 2)))
/-- R131: four f8e4m3 elements, summed by the tree. -/
def execDp4F8e4m3 (sw : Bool) (d a b : Fld) (s : State) : Host.Outcome State Fault Refusal :=
  s.compute sw false false (dabR 1 1 1 d a b) (fun v => out32 (dotFloat fmtF8e4m3 8 2 (n32 v 0) (n32 v 1) (n32 v 2)))
/-- R131: four f8e5m2 elements, summed by the tree. -/
def execDp4F8e5m2 (sw : Bool) (d a b : Fld) (s : State) : Host.Outcome State Fault Refusal :=
  s.compute sw false false (dabR 1 1 1 d a b) (fun v => out32 (dotFloat fmtF8e5m2 8 2 (n32 v 0) (n32 v 1) (n32 v 2)))
/-- R131: eight signed 4-bit elements. -/
def execDp8I4 (sw : Bool) (d a b : Fld) (s : State) : Host.Outcome State Fault Refusal :=
  s.compute sw false false (dabR 1 1 1 d a b) (fun v => out32 (dotInt true 4 8 (n32 v 0) (n32 v 1) (n32 v 2)))
/-- R131: eight unsigned 4-bit elements. -/
def execDp8N4 (sw : Bool) (d a b : Fld) (s : State) : Host.Outcome State Fault Refusal :=
  s.compute sw false false (dabR 1 1 1 d a b) (fun v => out32 (dotInt false 4 8 (n32 v 0) (n32 v 1) (n32 v 2)))
/-- R131: eight f4e2m1 elements, summed by the tree. -/
def execDp8F4e2m1 (sw : Bool) (d a b : Fld) (s : State) : Host.Outcome State Fault Refusal :=
  s.compute sw false false (dabR 1 1 1 d a b) (fun v => out32 (dotFloat fmtF4e2m1 4 3 (n32 v 0) (n32 v 1) (n32 v 2)))

end Sys2Proof.Machine
end

