-- ==== Sys2Proof/Machine/Translate.lean ====
section
/-!
DEFINITION. Range-register writes (R307), page commands (R311, R312), page migration and its throttle (R318, R319),
fault records and their answers (R315 to R317, R336, R400, R401), `flt.replay` (R214), and writes that reach their homes
(R290).
-/
namespace Sys2Proof.Machine

/-! ## Range registers (R307) -/

/-- Reserved bits of R306. -/
def rrReserved (r : BitVec 256) : Bool :=
  bits r.toNat 57 7 != 0 || bits r.toNat 121 7 != 0 || bits r.toNat 180 12 != 0 || bits r.toNat 196 3 != 0 || bits r.toNat 200 56 != 0

def rrRefused (tbl : Tbl Nat (BitVec 256)) (k : Nat) (r : BitVec 256) : Bool :=
  rrReserved r || rrAttr r == 3 ||
  (rrValid r && (rrBase r % 4096 != 0 || rrIa r % 4096 != 0 || rrLimit r % 4096 != 4095 || decide (rrLimit r < rrBase r) ||
    decide (2 ^ 52 ≤ rrIa r + (rrLimit r - rrBase r)) ||
    tbl.any (fun e => e.1 != k && rrValid e.2 && decide (rrBase e.2 ≤ rrLimit r) && decide (rrBase r ≤ rrLimit e.2))))

/-- RANGE_REGISTER_WRITE (R307). -/
def execRangeRegisterWrite (h : Hdr) (ctx k : Nat) (recd : BitVec 256) (s : State) : Host.Outcome State Fault Refusal :=
  s.mgmt h 0x04 (fun s =>
    match s.ctx? ctx with
    | none => noObject s
    | some x =>
      if 16 ≤ k || rrRefused x.trans.ranges k recd then refused s
      else done (s.modCtx ctx (fun x => { x with trans := { x.trans with ranges := put x.trans.ranges k recd } })))

/-! ## Page commands -/

/-- An entry breaks R309 or R310 at a level. One with valid = 0 breaks neither, since software may write valid; it maps nothing
(notes/assumptions/17.md). -/
def peRefused (L : Nat) (e : DWord) : Bool :=
  decide (2 ≤ peKind e) || bits e.toNat 48 5 != 0 || bits e.toNat 0 12 != 0 ||
  (if peKind e = 0 then
    L == 0 || peVc e != 0 || peWr e || peRd e || peMig e || (L == 3 && pePa e % 2 ^ 13 != 0)
  else L == 3 || pePa e % pageSize L != 0)

/-- A frame lies wholly in memory that is present (R271, R311): first and last byte, in one memory. -/
def State.framePresent (s : State) (pa n : Nat) : Bool :=
  s.paPresent pa && s.paPresent (pa + n - 1) && (pa / 2 ^ 36 == (pa + n - 1) / 2 ^ 36 || decide (lpBase ≤ pa))

/-- Another context, or another virtual cache, maps part of the frame (R311). -/
def State.frameTaken (s : State) (c : Nat) (pa n vc : Nat) : Bool :=
  s.ctxs.any (fun e => e.2.trans.leaves.any (fun (L, _, x) =>
    decide (pePa x < pa + n) && decide (pa < pePa x + pageSize L) && (e.1 != c || peVc x != vc)))

/-- The table that holds an entry exists: every level above it is a pointer (R309). -/
def parentsOk (t : Trans) (L ia : Nat) : Bool := (t.entryAt L ia).isSome

/-- A leaf above an entry leaves it no table to stand in (R309). -/
def underLeaf (t : Trans) (L ia : Nat) : Bool :=
  match walkFrom t.pages ia 4 t.root with
  | .ok (M, _) => decide (L < M)
  | .error _ => false

def Trans.setEntry (t : Trans) (L ia : Nat) (e : DWord) : Trans :=
  match t.entryAt L ia with
  | some a => { t with pages := if e = 0 then del t.pages a else put t.pages a e }
  | none => t

/-- A page command's entry is refused (R311). A pointer makes the leaves of its table reachable: each of them must have its
frame to itself. -/
def State.pageRefused (s : State) (c L ia : Nat) (e : DWord) : Bool :=
  let t := (s.ctx c).trans
  let new := t.setEntry L ia e
  let s' := s.modCtx c (fun x => { x with trans := new })
  let added := new.leaves.filter (fun l => !t.leaves.contains l)
  decide (3 < L) || peRefused L e || decide (2 ^ 52 ≤ ia) || decide (ia % 2 ^ levelShift L ≠ 0) || underLeaf t L ia ||
  (peValid e && peKind e == 1 && (!s.framePresent (pePa e) (pageSize L) || (L == 2 && peMig e && decide (lpBase ≤ pePa e)) ||
    s'.frameTaken c (pePa e) (pageSize L) (peVc e))) ||
  added.any (fun (M, _, x) => s'.frameTaken c (pePa x) (pageSize M) (peVc x))

/-- acc and dty are the hardware's (R310). -/
def withMarks (e marks : DWord) : DWord := (e &&& ~~~0x60000000000000#64) ||| (marks &&& 0x60000000000000#64)

/-- The lines of a frame leave L2 (R318): no byte is lost, since memory holds every performed write. -/
def State.dropFrame (s : State) (c pa n : Nat) : State :=
  s.modCtx c (fun x => { x with vcs := x.vcs.map (fun e => (e.1, { e.2 with lines := e.2.lines.filter (fun l =>
    !(decide (pa < l.pa + l.bytes) && decide (l.pa < pa + n))) })) })

/-- An entry is written (R312): every access that used the old translation has been performed, and the lines of frames that no
walk reaches any more leave L2. -/
def State.setPage (s : State) (c L ia : Nat) (e : DWord) : State :=
  let s := s.settleHalves (fun h => h.ctx == c)
  let old := (s.ctx c).trans.leaves
  let s := s.modCtx c (fun x => { x with trans := x.trans.setEntry L ia e })
  let now := (s.ctx c).trans.leaves
  (old.filter (fun l => !now.contains l)).foldl (fun s (M, _, x) => s.dropFrame c (pePa x) (pageSize M)) s

/-- PAGE_MAP (R311): a new entry, its marks clear. -/
def execPageMap (h : Hdr) (ctx level ia : Nat) (entry : DWord) (s : State) : Host.Outcome State Fault Refusal :=
  s.mgmt h 0x05 (fun s =>
    match s.ctx? ctx with
    | none => noObject s
    | some x =>
      if s.pageRefused ctx level ia entry then refused s
      else if !parentsOk x.trans level ia then noObject s
      else done (s.setPage ctx level ia (withMarks entry 0#64)))

/-- The entry that a command names, if it is in its table. -/
def Trans.entry (t : Trans) (L ia : Nat) : Option DWord := (t.entryAt L ia).bind (look t.pages)

/-- PAGE_UNMAP (R311). -/
def execPageUnmap (h : Hdr) (ctx level ia : Nat) (s : State) : Host.Outcome State Fault Refusal :=
  s.mgmt h 0x06 (fun s =>
    match s.ctx? ctx with
    | none => noObject s
    | some x =>
      match x.trans.entry level ia with
      | none => noObject s
      | some _ => done (s.setPage ctx level ia 0#64))

/-- PAGE_CHANGE (R311, R312). -/
def execPageChange (h : Hdr) (ctx level ia : Nat) (entry : DWord) (s : State) : Host.Outcome State Fault Refusal :=
  s.mgmt h 0x07 (fun s =>
    match s.ctx? ctx with
    | none => noObject s
    | some x =>
      match x.trans.entry level ia with
      | none => noObject s
      | some e => if s.pageRefused ctx level ia entry then refused s else done (s.setPage ctx level ia (withMarks entry e)))

/-! ## Page migration (R318, R319) -/

/-- A page may not move: engine footprints, brine regions of open slots, ranges of a cut still copying, by whatever page of the context
they reach its frame (R289, R318). -/
def State.pagePinned (s : State) (c ia n : Nat) : Bool :=
  let x := s.ctx c
  let hits (ss : List (Nat × Nat)) : Bool := s.spansMeet c [(ia, ia + n - 1)] ss
  x.jobs.any (fun j => !j.2.retired && j.2.ivals.any (fun i => i.lvl == .g && hits i.spans)) ||
  x.slots.any (fun e => e.2.state != .free && hits ((s.brineSpans c e.2.desc).map (fun y => (y.ia, y.ia + y.len - 1)))) ||
  (match s.activeCut c with
   | some (_, j) => (match j.kind with
     | .cut r _ todo => !todo.isEmpty && hits ((j.ranges.filter (fun e => (cutCover r).testBit e.1)).map (fun e =>
         (rrIa e.2, rrIa e.2 + (rrLimit e.2 - rrBase e.2))))
     | _ => false)
   | none => false)

/-- Bytes that cannot be read are no more readable where a page has been moved to; the frame's own have been overwritten. -/
def moveErrors (l : List Nat) (old new n : Nat) : List Nat :=
  l.filter (fun a => !(decide (new ≤ a) && decide (a < new + n))) ++ l.filterMap (fun a => if old ≤ a ∧ a < old + n then some (new + (a - old)) else none)
/-- Moving a page's bytes to a new frame and changing its leaf; marks and dirty granules stay (R318, R377). -/
def State.movePage (s : State) (c ia pa : Nat) : State :=
  match s.walk c ia with
  | .error _ => s
  | .ok (L, e) =>
    let n := pageSize L
    let s := s.settleHalves (fun h => h.ctx == c)
    let s : State := { s with
      mem := memPaste s.mem pa n (memSlice s.mem (pePa e) n)
      uncorr := moveErrors s.uncorr (pePa e) pa n, dramSyms := s.dramSyms.filter (fun a => !(decide (pa ≤ a) && decide (a < pa + n))) }
    s.setPage c L ia ((e &&& ~~~0xFFFFFFFFF000#64) ||| BitVec.ofNat 64 pa)

/-- A frame that the hub can use: present, aligned, and mapped by nobody. -/
def State.frameFree (s : State) (pa n : Nat) : Bool :=
  pa % n == 0 && s.framePresent pa n &&
  !(s.ctxs.any (fun e => e.2.trans.leaves.any (fun (L, _, x) => decide (pePa x < pa + n) && decide (pa < pePa x + pageSize L)))) &&
  decide (pa + n ≤ Config.codeBase)

/-- The thrash detector counts a move of a page (R319). -/
def State.noteMove (s : State) (c ia : Nat) : State :=
  let now := Config.nanosAt s.aux.time
  let (N, W, _) := s.hub.thrash
  let past := ((look (s.ctx c).trans.moves ia).getD []).filter (fun x => decide (now ≤ x + W)) ++ [now]
  let hot := decide (N < past.length)
  let s := s.modCtx c (fun x => { x with trans := { x.trans with
    moves := put x.trans.moves ia past
    throttled := if hot then addNat x.trans.throttled ia else x.trans.throttled } })
  if hot then s.post (.thrashThrottleExpiry c ia) else s

/-- PAGE_MIGRATE (R318, R319): a move that management asks for, or one of the hub's placement policy, which a throttled page
does not make; of a page that may move, to a frame that is free. While the page is pinned the move waits. The copy of every
byte and the commit are one step, since no access sees the page half moved. -/
def execPageMigrate (ctx ia : Nat) (move : PageMove) (s : State) : Host.Outcome State Fault Refusal :=
  match s.walk ctx ia with
  | .error _ => .next s
  | .ok (L, e) =>
    let n := pageSize L
    let key := ia >>> levelShift L <<< levelShift L
    if !peMig e || (!move.asked && (s.ctx ctx).trans.throttled.contains key) || !s.frameFree move.pa n || (L == 2 && decide (lpBase ≤ move.pa)) then .next s
    else if s.pagePinned ctx key n then .next (s.post (.pageMigrate ctx ia move))
    else .next ((s.movePage ctx ia move.pa).noteMove ctx key)

/-- THRASH_THROTTLE_EXPIRY (R319). -/
def execThrashThrottleExpiry (ctx ia : Nat) (s : State) : Host.Outcome State Fault Refusal :=
  .next (s.modCtx ctx (fun x => { x with trans := { x.trans with throttled := x.trans.throttled.filter (· != ia) } }))

/-- The lowest free frame in the bonded DRAM of a die. -/
def State.dieFrame (s : State) (d n : Nat) : Option Nat :=
  ((List.range (s.bdSize d / n)).find? (fun i => s.frameFree (d * 2 ^ 36 + i * n) n)).map (fun i => d * 2 ^ 36 + i * n)

/-! ## Fault records (R315 to R317) -/

/-- The record of R315. -/
def faultRecord (n : FaultNote) (fid : Nat) : BitVec 256 :=
  BitVec.ofNat 256 (laneMask n.lanes % 2 ^ 32 + fid % 2 ^ 32 * 2 ^ 32 + n.va % 2 ^ 57 * 2 ^ 64 + n.ia % 2 ^ 52 * 2 ^ 128 + n.lvl % 4 * 2 ^ 197 +
    n.vcache % 8 * 2 ^ 199 + n.kind % 4 * 2 ^ 202 + n.cause % 16 * 2 ^ 204 + n.src % 4 * 2 ^ 208 + n.line % 16 * 2 ^ 210 + n.vc % 1024 * 2 ^ 214 +
    n.ctx % 1024 * 2 ^ 224)

/-- The overflow count rises by one and its flag is set (R41, R317). -/
def bumpFltc (w : Word) : Word := 0x80000000#32 ||| BitVec.ofNat 32 (min 0x7FFFFFFF (w.toNat % 2 ^ 31 + 1))

/-- A fault reaches its die's buffer: one record, or it stays held. -/
def State.recordFault (s : State) (n : FaultNote) : State :=
  match s.ctx? n.ctx with
  | none => s
  | some _ =>
    let d := s.die n.die
    if d.faults.length < Config.faultBufferDepth then
      (s.modDie n.die (fun d => { d with faults := d.faults ++ [{ fid := d.nextFid, note := n }], nextFid := (d.nextFid + 1) % 2 ^ 32 })).sendSess 0
        (.event (faultRecord n d.nextFid))
    else
      (s.modDie n.die (fun d => { d with heldFaults := d.heldFaults ++ [n] })).modCtx n.ctx (fun x =>
        { x with set := { x.set with fltc := bumpFltc x.set.fltc } })

/-- GATEWAY_PAGE_FAULT (R150, R315, R317). -/
def execGatewayPageFault (n : FaultNote) (s : State) : Host.Outcome State Fault Refusal := .next (s.recordFault n)
/-- WRITEBACK_FAULT (R401): a record with lanes 0. -/
def execWritebackFault (n : FaultNote) (s : State) : Host.Outcome State Fault Refusal := .next (s.recordFault n)

/-- `flt.replay a` (R214): the held faults of a context at the named dies are presented again, in the order held. -/
def execFltReplay (sw : Bool) (a : Fld) (s : State) : Host.Outcome State Fault Refusal :=
  match s.prepare true [⟨.src, a, 1⟩] with
  | .halt s => .next s
  | .go lanes vals s =>
    let w := (w32 (arg ((vals.headD (0, [])).2) 0)).toNat
    if bits w 14 18 ≠ 0 then .next (s.takeTrap s.issKey lanes s.issue.pos { code := .recordFormat, info := w }) else
    let c := bits w 0 10
    let s := ((List.range 4).filter (fun d => w.testBit (10 + d))).foldl (fun s d =>
      let mine := (s.die d).heldFaults.filter (fun n => n.ctx == c)
      let s := s.modDie d (fun x => { x with heldFaults := x.heldFaults.filter (fun n => n.ctx != c) })
      mine.foldl (fun s n => s.recordFault n) s) s
    .next (s.finish sw lanes)

/-- The lanes of a record try again: those that parked to re-execute an instruction whole wait for their other results, then
issue it (R78, R150, R316). -/
def State.resolveLanes (s : State) (n : FaultNote) : State :=
  let s := n.lanes.foldl (fun s l => s.modThread ⟨n.ctx, n.vc, n.line, l⟩ (fun t =>
    { t with
      stat := match t.stat with
        | .parkedRetry id => .parked id
        | x => x
      held := t.held.map (fun h => if h.faulted = some n.ia then { h with faulted := none } else h) })) s
  (s.retryLanes n.ctx n.vc n.line n.lanes).wakeHeld n.ctx

/-- What waits for bytes held at the gateways, or at a home, tries again: the bytes, held accesses, barrier phases and waits
whose acquire sweeps (R287, R401). -/
def State.resumeHeld (s : State) (c : Nat) : State :=
  let s := s.flushHeld (fun w => w.ctx == c && !s.boardWaits c w.vc .g [(w.ia, w.ia + 127)] true)
  let s := s.cores.foldl (fun s e => if e.1.ctx = c then s.flushSo c e.1.vc else s) s
  let s := (s.wakeHeld c).completePhases c
  (dedup (s.waits.filterMap (fun w => match w.on with
    | .slot c' n => if c' = c ∧ (s.slotOf c n).state ≠ .closing then some n else none
    | .job _ _ => none))).foldl (fun s n => s.answerWaits c n) s

/-- The bytes that a record stands for: those of its core and page (R401). -/
def noteHolds (n : FaultNote) (w : WbHeld) : Bool := w.ctx == n.ctx && w.vc == n.vc && w.ia >>> faultShift n.cause n.lvl == n.ia >>> faultShift n.cause n.lvl
/-- The bytes held at the gateways for a page are performed, or fault again (R401). -/
def State.resolveWriteback (s : State) (n : FaultNote) : State :=
  let s := s.flushHeld (noteHolds n)
  let s := (s.wbHeld.filter (noteHolds n)).foldl (fun s w => match s.checkPage n.ctx w.ia false true with
    | .ok _ => s
    | .error f =>
      let m : FaultNote := { n with cause := f.cause, lvl := f.lvl, vcache := f.vcn, ia := (w.bytes.headD (w.ia, 0#8)).1 }
      if s.wbNoted m then s else s.post (.writebackFault m)) s
  s.resumeHeld n.ctx

/-- A job that stalls on a fault, if it still does (R316). -/
def State.stalledJob (s : State) (c j : Nat) : Option Job :=
  match look (s.ctx c).jobs j with
  | some x => if x.stalled && !x.retired && x.code == 0 then some x else none
  | none => none
/-- It goes on. -/
def State.resolveJob (s : State) (c j : Nat) : State :=
  match s.stalledJob c j with
  | some x =>
    let s := s.modJob c j (fun x => { x with stalled := false })
    (match x.kind with
     | .cut .. => s.post (.ckptGranuleCopy c)
     | _ => s.post (.jobElement c j))
  | none => s

/-- The record that an answer names, out of its buffer (R316: an answer frees the record). -/
def State.takeFault (s : State) (die fid : Nat) : Option (FaultRec × State) :=
  match (s.die die).faults.find? (fun r => r.fid == fid) with
  | none => none
  | some r => some (r, s.modDie die (fun d => { d with faults := d.faults.filter (fun x => x.fid != fid) }))

/-- FAULT_RESOLVE (R316, R336, R401). -/
def execFaultResolve (h : Hdr) (die fid : Nat) (s : State) : Host.Outcome State Fault Refusal :=
  s.mgmt h 0x0A (fun s =>
    match s.takeFault die fid with
    | none => noObject s
    | some (r, s) =>
      let n := r.note
      match n.job with
      | some j => done (if r.stale then s else s.resolveJob n.ctx j)
      | none =>
        if n.lanes.isEmpty then done (s.resolveWriteback n)
        else if r.stale || !s.coreHere n.ctx n.vc then done s
        else done (s.resolveLanes n))

/-- A fail answer stops the lanes of a record at their fault positions (R316, R400). -/
def State.failLanes (s : State) (n : FaultNote) : State :=
  let tr : Trap := { code := .translation, cause := n.cause, info := n.ia }
  let hit := n.lanes.filterMap (fun l =>
    let t := s.thread ⟨n.ctx, n.vc, n.line, l⟩
    match t.stat, t.held.find? (fun h => h.faulted == some n.ia) with
    | .trapped _ _, _ => none
    | _, some h => some (l, h.pos, true)
    | .parkedRetry _, none => some (l, t.pos, false)
    | _, none => none)
  let s := (hit.filter (fun e => e.2.2)).foldl (fun s e => s.modThread ⟨n.ctx, n.vc, n.line, e.1⟩ (fun t =>
    { t with heldTrap := true, held := t.held.filter (fun h => h.faulted == some n.ia) ++ t.held.filter (fun h => h.faulted != some n.ia) })) s
  (dedup (hit.map (fun e => e.2.1))).foldl (fun s p =>
    s.takeTrap ⟨n.ctx, n.vc, n.line⟩ ((hit.filter (fun e => e.2.1 == p)).map (·.1)) p tr) s

/-- FAULT_FAIL (R316, R400, R401): a write-back's record can only be resolved; a job retires with code 0x05. -/
def execFaultFail (h : Hdr) (die fid : Nat) (s : State) : Host.Outcome State Fault Refusal :=
  s.mgmt h 0x0A (fun s =>
    match s.takeFault die fid with
    | none => noObject s
    | some (r, s1) =>
      let n := r.note
      match n.job with
      | some j => done (if r.stale || (s1.stalledJob n.ctx j).isNone then s1 else
          (s1.modJob n.ctx j (fun x => { x with code := 5, stalled := false })).post (.jobRetire n.ctx j))
      | none =>
        if n.lanes.isEmpty then refused s
        else if r.stale || !s1.coreHere n.ctx n.vc then done s1
        else done (s1.failLanes n))

/-- STORE_PERFORM (R290): the dirty bytes of an L1 line reach their home, and so do the writes of the core's atomics. -/
def execStorePerform (ctx vc ia : Nat) (s : State) : Host.Outcome State Fault Refusal :=
  .next ((s.settleHalves (ofCore ctx vc)).writeBack ctx vc (lineOf ia))

end Sys2Proof.Machine
end

