-- ==== Sys2Proof/Machine/Slots.lean ====
section
/-!
DEFINITION. Majors 0x2C to 0x2F: contributes (R189 to R191), `slot.open`, `slot.close`, `slot.wait`, `slot.stat` (R188,
R192, R193), and reading a record once for the gang.
-/
namespace Sys2Proof.Machine

/-! ## Records read once for the gang (R188, R197) -/

/-- What the read of a record comes to for the gang. -/
inductive RecRead where
  | ok (bs : List Byte) (s : State)
  | stop (s : State)

/-- The lanes park at their position, with one note of kind 3 (R150, R197, R315). -/
def State.parkRecord (s : State) (lanes : List Nat) (f : PFault) (kind va : Nat) : State :=
  (s.post (.gatewayPageFault (s.coreNote f.cause kind f.vcn f.lvl f.ia va lanes))).parkRetry lanes

/-- A record of n bytes at a virtual address is read as a load by the lanes' lowest lane: the range trap and the
machine-check trap stop the lanes, a page fault parks them, a job that writes the bytes stalls them. Where a lane still
holds accesses, the read may not pass them (R150): the lanes park until they are performed. -/
def State.fetchRecord (s : State) (s0 : State) (lanes : List Nat) (va n : Nat) : RecRead :=
  let i := s.issue
  if lanes.any (fun l => !(s.lane l).held.isEmpty) then .stop (s0.parkHere lanes) else
  match if va < 2 ^ 57 then s.mapVa i.ctx va n true false else none with
  | none => .stop (s.takeTrap s.issKey lanes i.pos { code := .range, info := va })
  | some ss =>
    let so := strongest ss == 2
    let first (s : State) : State := if so then (s.release i.ctx i.vc 0xFF 2).preSweep i.ctx i.vc 0xFF 2 else s
    if s.boardWaits i.ctx i.vc .g (ss.map (fun x => (x.ia, x.ia + x.len - 1))) false ||
      (so && lanes.any (fun l => s.draining i.ctx i.vc i.line l)) then .stop s0.stall else
    let s := first s
    if so && (s.relWaits i.ctx i.vc 0xFF 2 || s.acqWaits i.ctx i.vc 0xFF 2) then .stop (first s0).stall else
    match s.loadG i.ctx i.vc { kind := .load, vc := i.vc, line := i.line, lanes := lanes, pos := i.pos } ss false with
    | .ok (bs, s) => .ok bs (if so then s.acquire i.ctx i.vc 0xFF 2 else s)
    | .error (.page f) => .stop (if f.waits then s0.stall else s.parkRecord lanes f 3 (vaOfIa ss f.ia))
    | .error (.bad a _) => .stop (s.takeTrap s.issKey lanes i.pos (s.byteCheck i.ctx a (vaOfIa ss a)))
    | .error (.chip x a) => .stop (s.takeTrap s.issKey lanes i.pos (s.chipCheck x (vaOfIa ss a)))
    | .error (.dead a) => .stop (s.takeTrap s.issKey lanes i.pos (machineCheck a))

/-! ## Contributes -/

/-- `ctb.F a, b, d` (R189). -/
def execCtb (sw : Bool) (d a b : Fld) (f : BitVec 4) (s : State) : Host.Outcome State Fault Refusal :=
  match s.prepare false [⟨.src, a, 2⟩, ⟨.src, b, 1⟩, ⟨.src, d, fmtWords f⟩] with
  | .halt s => .next s
  | .go _ vals s1 =>
    .next (s1.memIssue s sw none (vals.map (fun e =>
      (e.1, .ctb f.toNat (w64 (arg e.2 0)) ((w32 (arg e.2 1)).toNat % 256) (BitVec.ofNat 64 (natOfWords (arg e.2 2)))))))

/-- `ctbn.F a, d` (R190). -/
def execCtbn (sw : Bool) (d a : Fld) (f : BitVec 4) (s : State) : Host.Outcome State Fault Refusal :=
  match s.prepare false [⟨.src, a, 2⟩, ⟨.src, d, fmtWords f⟩] with
  | .halt s => .next s
  | .go _ vals s1 =>
    .next (s1.memIssue s sw none (vals.map (fun e =>
      (e.1, .ctbn f.toNat (w64 (arg e.2 0)) (BitVec.ofNat 64 (natOfWords (arg e.2 1)))))))

/-- `ctbm.F [a], b, d` (R191). -/
def execCtbm (sw : Bool) (d a b : Fld) (f : BitVec 4) (s : State) : Host.Outcome State Fault Refusal :=
  match s.prepare false [⟨.src, a, 2⟩, ⟨.src, b, 1⟩, ⟨.src, d, fmtWords f⟩] with
  | .halt s => .next s
  | .go _ vals s1 =>
    .next (s1.memIssue s sw none (vals.map (fun e =>
      (e.1, .ctbm f.toNat (w64 (arg e.2 0)).toNat (w32 (arg e.2 1)) (BitVec.ofNat 64 (natOfWords (arg e.2 2)))))))

/-! ## Opening a slot -/

/-- Reserved bits of R186. -/
def sdReserved (d : BitVec 512) : Bool :=
  bits d.toNat 288 224 != 0 || bits d.toNat 249 7 != 0 || bits d.toNat 185 7 != 0 || bits d.toNat 98 30 != 0 || bits d.toNat 48 16 != 0

/-- The descriptor breaks R186. -/
def sdRefused (d : BitVec 512) : Bool :=
  sdReserved d ||
  (match treeOp? (sdOp d), accOf (sdFmt d) with
   | some op, some acc =>
     (op.bitwise && (match acc with
       | .float _ => true
       | .int _ _ => false)) ||
     (if sdMode d then sdTrees d != 1 || sdDest d != 0 || decide (2 ^ 24 < sdExt d)
      else sdAccm d || sdDest d % accBytes (sdFmt d) != 0 || decide (2 ^ 48 < sdTrees d * 2 ^ rootLevel (sdExt d)))
   | _, _ => true) ||
  !(decide (sdFmt d < 4) || (decide (9 ≤ sdFmt d) && decide (sdFmt d < 14))) ||
  sdBrine d % 4096 != 0

/-- A page of the region lies in LPDDR-6 and cannot move (R188). -/
def State.brineStuck (s : State) (c : Nat) (ss : List Span) : Bool :=
  (pagesOf ss).any (fun ia => match s.walk c ia with
    | .ok (L, e) => decide (lpBase ≤ pePa e) && (!peMig e || L == 2)
    | .error _ => false)

/-- The die whose bonded DRAM takes brine pages: that of the apex, or die 0 (R188). -/
def State.apexDie (s : State) (a : PanId) : Nat :=
  match a with
  | .core c v => dieOf (s.phys c v)
  | .gateway q => q / 10
  | .hubEnd d => d
  | .fold f => 2 * f
  | .bridge d _ => d
  | _ => 0

/-- Zeroing stretches at their homes, page by page (R255). None while a home cannot take the write (R287, R380). -/
def State.zeroSpans (s : State) (c : Nat) (ss : List Span) : Option State :=
  ss.foldlM (fun s x =>
    (List.range ((x.len + 4095) / 4096)).foldlM (fun (s : State) i =>
      let ia := x.ia + 4096 * i
      let n := min 4096 (x.len - 4096 * i)
      match (s.settleHalves (fun h => h.ctx == c)).openPage c ia false true with
      | .error _ => none
      | .ok s =>
        let pa := s.paOf c ia
        let out (l : List Nat) : List Nat := l.filter (fun a => !(decide (pa ≤ a) && decide (a < pa + n)))
        let s : State := { s with mem := s.mem.zero pa (pa + n - 1), uncorr := out s.uncorr, dramSyms := out s.dramSyms }
        some ((s.modCtx c (fun y => { y with ckpt := { y.ckpt with dirty := addNat y.ckpt.dirty (granuleOf ia) } })).markLeaf c ia true)) s) s

/-- A slot opens: serial, apex, brine pages and cleared region (R188, R249, R255). A page in LPDDR-6 is moved as R318 moves one
and its move counted (R319). None while the hub finds no frame to move a brine page to, the page may not move yet, or a home cannot take the clearing. -/
def State.openSlot (s : State) (c n : Nat) (d : BitVec 512) : Except PFault (Option State) :=
  let x := s.slotOf c n
  let ss := s.brineSpans c d
  let apex := apexOf c (s.threadCores c)
  let moved := (pagesOf ss).foldlM (fun (s : State) ia =>
    match s.checkPage c (((ss.find? (fun y => y.ia / 2 ^ 18 == ia / 2 ^ 18)).map (·.ia)).getD ia) false true with
    | .error f => Except.error (some f)
    | .ok (L, e) =>
      let key := ia / pageSize L * pageSize L
      if pePa e < lpBase then .ok s else
      match s.dieFrame (s.apexDie apex) (pageSize L), s.pagePinned c key (pageSize L) with
      | some pa, false => .ok ((s.movePage c ia pa).noteMove c key)
      | _, _ => .error none) s
  match moved with
  | .error (some f) => .error f
  | .error none => .ok none
  | .ok s =>
    let serial := if x.serial = 0xFFFF then 1 else x.serial + 1
    let clear := serial = 1 || x.prevBrine != some (sdBrine d, sdBrsz d)
    .ok ((if clear then s.zeroSpans c ss else some s).map (fun s => s.modSlot c n (fun _ =>
      { state := .opened, desc := d, serial := serial, prevBrine := x.prevBrine, apex := apex, tainted := !clear && x.tainted })))

/-- A status word for every lane: the reply of the slot instructions. -/
def State.slotReply (s : State) (sw : Bool) (lanes : List Nat) (d : Fld) (w : Word) : State :=
  (s.deliver true lanes ⟨.dst, d, 1⟩ (lanes.map (fun l => (l, [w], 0#5)))).finish sw lanes

/-- `slot.open d, [a], b` (R188). DESIGN CHOICE, notes/assumptions/96.md: the statuses of a slot that is not free and of a
misaligned address come before the descriptor is read, so before its range trap or page fault. -/
def execSlotOpen (sw : Bool) (d a b : Fld) (s : State) : Host.Outcome State Fault Refusal :=
  match s.prepare false [⟨.src, a, 2⟩, ⟨.src, b, 1⟩, ⟨.dst, d, 1⟩] with
  | .halt s => .next s
  | .go lanes vals s1 =>
    let vs := (vals.headD (0, [])).2
    let va := (w64 (arg vs 0)).toNat
    let n := (w32 (arg vs 1)).toNat % 256
    let c := s.issue.ctx
    let st := (s1.slotOf c n).state
    if st ≠ .free then .next (s1.slotReply sw lanes d (slotWord 1 st 0#5))
    else if va % 64 ≠ 0 then .next (s1.slotReply sw lanes d (slotWord 2 .free 0#5)) else
    match s1.fetchRecord s lanes va 64 with
    | .stop s => .next s
    | .ok bs s2 =>
      let r := BitVec.ofNat 512 (natOfBytes bs)
      let size := sdTrees r * accBytes (sdFmt r)
      let ranges := (s2.ctx c).trans.ranges
      let unmapped := (!sdMode r && (mapSpans ranges (sdDest r) size false true).isNone) ||
        (decide (0 < sdBrsz r) && (mapSpans ranges (sdBrine r) (4096 * sdBrsz r) false true).isNone)
      if sdRefused r || unmapped || s2.brineStuck c (s2.brineSpans c r) then .next (s2.slotReply sw lanes d (slotWord 2 .free 0#5)) else
      match s2.openSlot c n r with
      | .error f => .next (s2.parkRecord lanes f 1 (vaOfIa (s2.brineSpans c r) f.ia))
      | .ok none => .next s.stall
      | .ok (some s3) => .next (s3.slotReply sw lanes d (slotWord 0 .opened 0#5))

/-! ## Closing, waiting, asking -/

/-- The close markers of a slot (R262): one from every core of the context towards the apex, or one to every memory-side
unit that holds a share of it. -/
def State.sendMarkers (s : State) (c n : Nat) : State :=
  let x := s.slotOf c n
  let sites : List PanId :=
    if sdMode x.desc then (dedup ((s.ctx c).vcs.flatMap (fun e => (e.2.shares ++ e.2.oldShares).map (fun h => h / 8)))).map PanId.msu
    else (List.range (s.ctx c).n).map (PanId.core c)
  let s := s.modSlot c n (fun x => { x with state := .closing, markers := 0, expect := sites.length })
  if sites.isEmpty then s.post (.slotResolve c n) else sites.foldl (fun s i => s.post (.closeMarkerArrive c n i)) s

/-- `slot.close d, b` (R192). -/
def execSlotClose (sw : Bool) (d b : Fld) (s : State) : Host.Outcome State Fault Refusal :=
  match s.prepare false [⟨.src, b, 1⟩, ⟨.dst, d, 1⟩] with
  | .halt s => .next s
  | .go lanes vals s =>
    let n := (w32 (arg ((vals.headD (0, [])).2) 0)).toNat % 256
    let c := s.issue.ctx
    let st := (s.slotOf c n).state
    if st ≠ .opened then .next (s.slotReply sw lanes d (slotWord 7 st 0#5))
    else .next ((s.sendMarkers c n).slotReply sw lanes d (slotWord 0 .closing 0#5))

/-- `slot.wait d, b` (R193). -/
def execSlotWait (sw : Bool) (d b : Fld) (s : State) : Host.Outcome State Fault Refusal :=
  match s.prepare false [⟨.src, b, 1⟩, ⟨.dst, d, 1⟩] with
  | .halt s => .next s
  | .go lanes vals s =>
    let n := (w32 (arg ((vals.headD (0, [])).2) 0)).toNat % 256
    let c := s.issue.ctx
    let r := s.replyTo lanes ⟨.dst, d, 1⟩
    match (s.slotOf c n).state with
    | .closing =>
      .next (({ r.1 with waits := r.1.waits ++ [{ on := .slot c n, reply := r.2, pos := s.issue.pos }] } : State).finish sw lanes)
    | .final => .next ((r.1.finish sw lanes).answerWait c n r.2 s.issue.pos)
    | st => .next (s.slotReply sw lanes d (slotWord 7 st 0#5))

/-- `slot.stat d, b` (R193): the code of a slot whose brine region software has touched may be any (R258). -/
def execSlotStat (sw : Bool) (d b : Fld) (s : State) : Host.Outcome State Fault Refusal :=
  match s.prepare false [⟨.src, b, 1⟩, ⟨.dst, d, 1⟩] with
  | .halt s => .next s
  | .go lanes vals s =>
    let x := s.slotOf s.issue.ctx ((w32 (arg ((vals.headD (0, [])).2) 0)).toNat % 256)
    .next (s.slotReply sw lanes d (match x.state with
      | .free => slotWord 0 .free 0#5
      | .final => finalWord x
      | st => slotWord (if x.tainted then (Config.anyWord s.aux.time 2).toNat else x.code) st 0#5))

end Sys2Proof.Machine
end

