-- ==== Sys2Proof/Machine/Engine.lean ====
section
/-!
DEFINITION. Major 0x36: jobs of the copy and chain engines and collectives (R196 to R207, R303, R304, R330 to R334, R365 to
R370), `cpyw` (R206), and the events of the engines.
-/
namespace Sys2Proof.Machine

/-! ## Job handles (R196) -/

def engCode : Eng → Nat
  | .copy => 0 | .chain => 1 | .cut => 2 | .scan => 3
def jobHandle (e : Eng) (gen n : Nat) : Word := BitVec.ofNat 32 (engCode e * 2 ^ 22 + gen % 64 * 2 ^ 16 + n % 4096)

/-- The status word of R206. -/
def jobWord (code : Nat) (edge : Bool) (fl : Flags) : Word := BitVec.ofNat 32 (code * 2 ^ 24 + (if edge then 512 else 0) + fl.toNat)

/-- The job that a handle names: none if it is stale. -/
def State.jobOf (s : State) (c : Nat) (h : Word) : Option (Nat × Job) :=
  let x := h.toNat
  if bits x 24 7 ≠ 0 ∨ bits x 12 4 ≠ 0 then none else
  match look (s.ctx c).jobs (bits x 0 12) with
  | some j => if j.gen = bits x 16 6 then some (bits x 0 12, j) else none
  | none => none

/-- The entry of a collected job is free, and its number's next generation is the next one. -/
def State.freeJob (s : State) (c n : Nat) : State :=
  s.modCtx c (fun x => match look x.jobs n with
    | none => x
    | some j => { x with jobs := del x.jobs n, jobGens := put x.jobGens n ((j.gen + 1) % 64) })

/-! ## Shape records (R199) -/

abbrev Shape := BitVec 4096
def shF (r : Shape) (lo n : Nat) : Nat := bits r.toNat lo n
def shSrc (r : Shape) : Nat := shF r 0 57
def shDst (r : Shape) : Nat := shF r 64 57
def shSlev (r : Shape) : Lvl := lvlOf (shF r 128 2)
def shDlev (r : Shape) : Lvl := lvlOf (shF r 130 2)
def shEsz (r : Shape) : Nat := shF r 192 4
def shNdim (r : Shape) : Nat := shF r 196 4
def shSfmt (r : Shape) : Nat := shF r 204 4
def shOff (r : Shape) (i : Nat) : Int := toSigned 8 (shF r (208 + 8 * i) 8)
def shWrap (r : Shape) (i : Nat) : Bool := bit r.toNat (246 + i)
def shGside (r : Shape) : Bool := bit r.toNat 250
def shRen (r : Shape) : Bool := bit r.toNat 255
def shRop (r : Shape) : Nat := shF r 256 4
def shRfmt (r : Shape) : Nat := shF r 260 4
def shRmask (r : Shape) : Nat := shF r 264 4
def shKind (r : Shape) : Nat := shF r 268 4
def shRoot (r : Shape) : Nat := shF r 272 16
def shCid (r : Shape) : Nat := shF r 288 16
/-- Extent, source stride and destination stride of a dimension. -/
def shExt (r : Shape) (i : Nat) : Nat := shF r (512 + 128 * i) 32 + 1
def shSstr (r : Shape) (i : Nat) : Int := toSigned 48 (shF r (544 + 128 * i) 48)
def shDstr (r : Shape) (i : Nat) : Int := toSigned 48 (shF r (592 + 128 * i) 48)
def shDims (r : Shape) : List Nat := List.range (shNdim r + 1)
def shCount (r : Shape) : Nat := ((shDims r).map (shExt r)).foldl (· * ·) 1

/-- Bytes of an element format (R82). -/
def fmtBytes (f : Nat) : Nat := if f = 4 ∨ f = 5 then 1 else accBytes f
/-- Element width at the source and at the destination (R200). -/
def shSw (r : Shape) : Nat := 2 ^ shEsz r
def shDw (r : Shape) : Nat := if shRen r then accBytes (shRfmt r) else 2 ^ shEsz r

/-- The address of element f: base plus the strides times its indices (R200). -/
def elemAddr (ext : Nat → Nat) (stride : Nat → Int) : List Nat → Nat → Int → Int
  | [], _, a => a
  | i :: is, f, a => elemAddr ext stride is (f / ext i) (a + (f % ext i : Nat) * stride i)
def shSrcAt (r : Shape) (f : Nat) : Int := elemAddr (shExt r) (shSstr r) (shDims r) f (shSrc r)
def shDstAt (r : Shape) (f : Nat) : Int := elemAddr (shExt r) (shDstr r) (shDims r) f (shDst r)

/-- A region of a job's footprint: level, first and last byte, and whether it is written (R198). -/
structure Region where
  lvl : Lvl
  lo : Int
  hi : Int
  write : Bool
deriving DecidableEq, Repr

def regionOf (lvl : Lvl) (base : Nat) (terms : List Int) (w : Nat) (write : Bool) : Region :=
  { lvl := lvl, lo := terms.foldl (fun a t => a + min 0 t) (base : Int), hi := terms.foldl (fun a t => a + max 0 t) (base : Int) + (w : Int) - 1
    write := write }
def shTerms (r : Shape) (str : Nat → Int) : List Int := (shDims r).map (fun i => ((shExt r i - 1 : Nat) : Int) * str i)
def shSrcRegion (r : Shape) : Region := regionOf (shSlev r) (shSrc r) (shTerms r (shSstr r)) (shSw r) false
def shDstRegion (r : Shape) : Region := regionOf (shDlev r) (shDst r) (shTerms r (shDstr r)) (shDw r) true

def Region.meets (x y : Region) : Bool := x.lvl == y.lvl && decide (x.lo ≤ y.hi) && decide (y.lo ≤ x.hi)

/-- Reserved bits of R199, the dimension entries above ndim among them. -/
def shReserved (r : Shape) : Bool :=
  [(57, 7), (121, 7), (132, 60), (200, 4), (240, 6), (251, 4), (304, 208), (2560, 1536)].any (fun x => shF r x.1 x.2 != 0) ||
  shF r (512 + 128 * (shNdim r + 1)) (128 * (15 - shNdim r)) != 0

def isFloatCode (f : Nat) : Bool := decide (f < 10)
/-- An element format that may be reduced, and a format to reduce in (R199, R203). -/
def sfmtOk (f : Nat) : Bool := decide (f < 6) || f == 9 || (decide (10 ≤ f) && decide (f < 14))
def rfmtOk (f : Nat) : Bool := decide (f < 4) || f == 9 || (decide (10 ≤ f) && decide (f < 14))

/-- The record is refused whatever the instruction (R199, R203). -/
def shRefused (r : Shape) : Bool := shReserved r || decide (4 < shEsz r) || decide (2 ^ 40 < shCount r)
/-- Refused by `cpy` (R203). -/
def cpyRefused (r : Shape) : Bool :=
  shRefused r || shCid r != 0 || shRoot r != 0 || shKind r != 0 || shRmask r != 0 || shRfmt r != 0 || shRop r != 0 || shRen r || shSfmt r != 0
/-- Refused by `cpyc` (R203), for n ranks. -/
def cpycRefused (r : Shape) (n : Nat) : Bool :=
  shRefused r || decide (2 < shKind r) || shRmask r == 0 || shGside r || shF r 246 4 != 0 || shF r 208 32 != 0 ||
  shRen r != (shKind r != 0) || decide (n ≤ shRoot r) || (shKind r == 2 && shRoot r != 0) ||
  (if shRen r then
    !sfmtOk (shSfmt r) || !rfmtOk (shRfmt r) || decide (5 < shRop r) || isFloatCode (shSfmt r) != isFloatCode (shRfmt r) ||
      (isFloatCode (shRfmt r) && decide (3 ≤ shRop r)) || fmtBytes (shSfmt r) != shSw r
   else shRop r != 0 || shRfmt r != 0 || shSfmt r != 0)

/-! ## The other device (R201, R367) -/

/-- Where an offset leads: the issuing device itself, another, or off the grid. -/
inductive Away where
  | own
  | off
  | at (coords : List Nat)
deriving DecidableEq, Repr

def State.awayOf (s : State) (r : Shape) : Away :=
  let fr := s.hub.fabric.recd
  let along (i : Nat) : Option Nat :=
    let x : Int := (fabCoord fr i : Int) + shOff r i
    let n := fabSize fr i
    if shOff r i = 0 then some (fabCoord fr i)
    else if shWrap r i then some (x % (n : Int)).toNat
    else if 0 ≤ x ∧ x < (n : Int) then some x.toNat else none
  match (List.range 4).mapM along with
  | none => .off
  | some cs => if cs = fabCoords fr then .own else .at cs

/-- The peer is reachable and its device holds a member of the context's group (R366, R367). -/
def State.peerOk (s : State) (c : Nat) (coords : List Nat) : Bool :=
  (s.portTo coords vcRequest).isSome && (match s.fabGroup c with
    | some g => s.hub.fabric.groups.any (fun x => x.1 == g && x.2.1 == s.deviceAt coords)
    | none => false)

/-! ## Chain descriptors (R204) -/

abbrev Chain := BitVec 1024
def chF (r : Chain) (lo n : Nat) : Nat := bits r.toNat lo n
def chN (r : Chain) : Nat := chF r 0 32 + 1
def chNops (r : Chain) : Nat := chF r 32 3 + 1
def chWfmt (r : Chain) : Nat := chF r 36 4
def chRnd (r : Chain) : RMode := rmodeOf (BitVec.ofNat 2 (chF r 40 2))
def chNin (r : Chain) : Nat := chF r 42 2
/-- Stream j: 0 to 2 the inputs, 3 the output. -/
def chBase (r : Chain) (j : Nat) : Nat := chF r (64 * (j + 1)) 57
def chStr (r : Chain) (j : Nat) : Int := toSigned 32 (chF r (320 + 32 * j) 32)
def chFmt (r : Chain) (j : Nat) : Nat := chF r (448 + 4 * j) 4
def chLvl (r : Chain) (j : Nat) : Lvl := lvlOf (chF r (464 + 2 * j) 2)
def chConst (r : Chain) (k : Nat) : Nat := chF r (640 + 64 * k) 64
def chOp (r : Chain) (k : Nat) : Nat := chF r (512 + 16 * k) 16
def opcOf (w : Nat) : Nat := bits w 12 4
def opA (w : Nat) : Nat := bits w 9 3
def opB (w : Nat) : Nat := bits w 6 3
def opC (w : Nat) : Nat := bits w 3 3
def chStreams (r : Chain) : List Nat := List.range (chNin r) ++ [3]
def chAt (r : Chain) (j i : Nat) : Int := (chBase r j : Int) + (i : Int) * chStr r j
def chRegion (r : Chain) (j : Nat) : Region :=
  regionOf (chLvl r j) (chBase r j) [((chN r - 1 : Nat) : Int) * chStr r j] (fmtBytes (chFmt r j)) (j == 3)

def streamFmtOk (f : Nat) : Bool := decide (f < 6) || (decide (10 ≤ f) && decide (f < 14))

/-- An operation word breaks R204 or R205. -/
def opRefused (r : Chain) (k : Nat) : Bool :=
  let w := chOp r k
  let one := opcOf w == 6 || opcOf w == 7 || opcOf w == 9
  let bad (x : Nat) : Bool := (x == 1 && k == 0) || (decide (2 ≤ x) && decide (x < 5) && decide (chNin r ≤ x - 2))
  decide (9 < opcOf w) || bits w 0 3 != 0 || opA w == 0 || (one != (opB w == 0)) || ((opcOf w == 3) != (opC w != 0)) ||
    bad (opA w) || bad (opB w) || bad (opC w)

/-- An input overlaps the output otherwise than R205 allows. -/
def chClash (r : Chain) (j : Nat) : Bool :=
  (chRegion r j).meets (chRegion r 3) &&
    !(chBase r j == chBase r 3 && chStr r j == chStr r 3 && fmtBytes (chFmt r j) == fmtBytes (chFmt r 3))

def chRefused (r : Chain) : Bool :=
  [(768, 256), (472, 40), (313, 7), (249, 7), (185, 7), (121, 7), (44, 20), (35, 1)].any (fun x => chF r x.1 x.2 != 0) ||
  decide (3 < chWfmt r) || (chStreams r).any (fun j => !streamFmtOk (chFmt r j)) ||
  [0, 1, 2].any (fun j => decide (chNin r ≤ j) &&
    (chBase r j != 0 || chStr r j != 0 || chFmt r j != 0 || chF r (464 + 2 * j) 2 != 0)) ||
  (List.range (chNops r)).any (opRefused r) || (List.range (chNin r)).any (chClash r)

/-- An operation of the chain (R205). -/
def chEval (F : Fmt) (md : RMode) (opc a b c : Nat) : Nat × Flags :=
  match opc with
  | 0 => fAdd F md a b
  | 1 => fSub F md a b
  | 2 => fMul F md a b
  | 3 => fFma F md a b c
  | 4 => fMinMax F false a b
  | 5 => fMinMax F true a b
  | 6 => fAbs F a
  | 7 => fNeg F a
  | 8 => fDiv F a b
  | _ => fSqrt F a

/-- The operations from the k-th on, with the previous result and the flags so far. -/
def chRun (r : Chain) (F : Fmt) (xs : List Nat) : Nat → Nat → Nat → Flags → Nat × Flags
  | 0, _, t, fl => (t, fl)
  | n + 1, k, t, fl =>
    let v (code : Nat) : Nat := if code = 1 then t else if 2 ≤ code ∧ code < 5 then xs.getD (code - 2) 0
      else if code = 5 then chConst r 0 else if code = 6 then chConst r 1 else 0
    let w := chOp r k
    let e := chEval F (chRnd r) (opcOf w) (v (opA w)) (v (opB w)) (v (opC w))
    chRun r F xs n (k + 1) e.1 (fl ||| e.2)

/-- One element of a chain, from its inputs as read. -/
def chElement (r : Chain) (ins : List Nat) : Nat × Flags :=
  let xs := (ins.zipIdx).map (fun e => convert (chFmt r e.2) (chWfmt r) .rn e.1)
  let F := (floatFmt (chWfmt r)).getD fmtF32
  let t := chRun r F (xs.map (·.1)) (chNops r) 0 0 (orFlags (xs.map (·.2)))
  let o := convert (chWfmt r) (chFmt r 3) (chRnd r) t.1
  (o.1, t.2 ||| o.2)

/-! ## Admission (R197, R198, R331, R332) -/

/-- A region that breaks the bounds of R147. -/
def State.regionTrap (s : State) (c v : Nat) (x : Region) : Option Trap :=
  let info : Nat := (x.lo % (2 ^ 64 : Nat)).toNat
  match x.lvl with
  | .g =>
    if 0 ≤ x.lo ∧ x.hi < (2 ^ 57 : Nat) ∧ (s.mapVa c x.lo.toNat (x.hi + 1 - x.lo).toNat (!x.write) x.write).isSome then none
    else some { code := .range, info := info }
  | l => if 0 ≤ x.lo ∧ s.chipOk c v l x.lo.toNat (x.hi + 1 - x.lo).toNat then none else some { code := .onChipBounds, cause := l.lev, info := info }

/-- The interval of a region, as the scoreboard and the scheduler hold it. -/
def State.intervalOf (s : State) (c n : Nat) (x : Region) : Interval :=
  let len := (x.hi + 1 - x.lo).toNat
  let spans := if x.lvl = .g then ((s.mapVa c x.lo.toNat len (!x.write) x.write).getD []).map (fun y => (y.ia, y.ia + y.len - 1))
    else [(x.lo.toNat, x.hi.toNat)]
  { lvl := x.lvl, spans := spans, write := x.write, job := n }

/-- Two intervals of a context name a byte in common, global ones also through two pages of one frame (R289); square memory and
scratchpads are those of the jobs' own square and core. -/
def State.clash (s : State) (c : Nat) (sameSq sameCore : Bool) (a b : Interval) : Bool :=
  a.lvl == b.lvl && (a.write || b.write) && (match a.lvl with
    | .q => sameSq
    | .c => sameCore
    | _ => true) && (if a.lvl = .g then s.spansMeet c a.spans b.spans else a.spans.any (fun x => overlaps x.1 x.2 b.spans))

/-- The earlier jobs of the context on which a new job has an edge (R331). -/
def State.edgesOf (s : State) (c v sq : Nat) (ivs : List Interval) : List Nat :=
  ((s.ctx c).jobs.filter (fun e => !e.2.retired && e.2.ivals.any (fun i =>
    ivs.any (s.clash c (s.jobSquare c e.2 ((i.spans.headD (0, 0)).1) == sq) (e.2.vc == v) i)))).map (·.1)

/-- Jobs in flight of one engine of a square. -/
def State.engineJobs (s : State) (e : Eng) (sq : Nat) : Nat :=
  (s.ctxs.map (fun x => (x.2.jobs.filter (fun j => j.2.eng == e && j.2.square == sq && !j.2.retired)).length)).sum

/-- What a record asks for. -/
structure JobPlan where
  kind : JobKind
  total : Nat
  regions : List Region
  edge : Bool := false

/-- Bytes of a context lie in global intervals, also through another page of their frame (R289). -/
def State.inGlobals (s : State) (c ia n : Nat) (ivs : List Interval) : Bool :=
  ivs.any (fun i => i.lvl == .g && s.spansMeet c [(ia, ia + n - 1)] i.spans)
/-- The lines of L1 that a region touches. -/
def State.linesIn (s : State) (c v : Nat) (ivs : List Interval) : List Nat :=
  ((s.core c v).l1.filter (fun x => s.inGlobals c x.ia 128 ivs)).map (·.ia)
/-- Write-back bytes of the core in global intervals that are held at a gateway (R401). -/
def heldIn (s : State) (c v : Nat) (ivs : List Interval) (w : WbHeld) : Bool := w.ctx == c && w.vc == v && s.inGlobals c w.ia 128 ivs
def State.heldIn (s : State) (c v : Nat) (ivs : List Interval) : Bool := s.wbHeld.any (Sys2Proof.Machine.heldIn s c v ivs)

/-- A sequencer of the admitting threads has still to write bytes of the footprint (R303, R329). -/
def State.drainsIn (s : State) (c v line : Nat) (lanes : List Nat) (ivs : List Interval) : Bool :=
  (s.line c v line).drains.any (fun d => lanes.any (fun l => l / 8 == d.1) &&
    d.2.writes.any (fun w => s.inGlobals c w.ia w.bytes.length ivs))

/-- A new entry of the job table, in flight. -/
def State.addJob (s : State) (c v : Nat) (e : Eng) (n : Nat) (p : JobPlan) (ivs : List Interval) : State :=
  let gen := (look (s.ctx c).jobGens n).getD 0
  let sq := squareOf (s.phys c v)
  let j : Job := { gen := gen, eng := e, kind := p.kind, vc := v, square := sq, total := p.total, edge := p.edge, ivals := ivs
                   after := s.edgesOf c v sq ivs, ranges := (s.ctx c).trans.ranges }
  let uid := (s.lane (s.issue.lanes.headD 0)).launch
  let s : State := match look s.launches uid with
    | some l => { s with launches := put s.launches uid { l with jobs := l.jobs ++ [(n, gen)] } }
    | none => s
  let s := s.taint c ((ivs.filter (fun i => i.lvl == .g)).flatMap (·.spans))
  (s.modCtx c (fun x => { x with jobs := put x.jobs n j })).modCore c v (fun x => { x with board := x.board ++ ivs })

/-- The mould of R197: the record is read once for the gang, checked, and its job admitted; the handle goes to every
lane. `plan` checks the record and its regions; `start` posts the job's first actions. -/
def State.jobMould (s : State) (sw : Bool) (d a : Fld) (e : Eng) (bytes : Nat) (plan : State → List Byte → Except Trap JobPlan)
    (start : State → Nat → State) : Host.Outcome State Fault Refusal :=
  match s.prepare false (da 1 2 d a) with
  | .halt s => .next s
  | .go lanes vals s1 =>
    let c := s.issue.ctx
    let v := s.issue.vc
    let va := (w64 (arg ((vals.headD (0, [])).2) 0)).toNat
    let stop (t : State) (tr : Trap) : Host.Outcome State Fault Refusal := .next (t.takeTrap s.issKey lanes s.issue.pos tr)
    let table := (s.ctx c).jobs
    let full := decide (Config.jobsPerContext ≤ table.length)
    if full && table.all (fun x => x.2.retired) then stop s1 { code := .jobTable }
    else if va % 64 ≠ 0 then stop s1 { code := .recordFormat, info := va } else
    match s1.fetchRecord s lanes va bytes with
    | .stop t => .next t
    | .ok bs s2 =>
      match plan s2 bs with
      | .error tr => stop s2 (if tr.code = .recordFormat then { tr with info := va } else tr)
      | .ok p =>
        match p.regions.findSome? (fun x => s2.regionTrap c v x) with
        | some tr => stop s2 tr
        | none =>
          match leastFree (table.map (·.1)) Config.jobsPerContext with
          | none => .next s.stall
          | some n =>
            let ivs := p.regions.map (s2.intervalOf c n)
            let home (t : State) : State := (t.linesIn c v ivs).foldl (fun t la => t.writeBack c v la) (t.settleHalves (ofCore c v))
            if Config.jobsPerEngine ≤ s2.engineJobs e (squareOf (s.phys c v)) ∨ Config.scoreboardEntries < (s2.core c v).board.length + ivs.length ∨
                s2.drainsIn c v s.issue.line lanes ivs then .next s.stall
            else if (home s2).heldIn c v ivs then .next (home s).stall else
            let s3 := (home s2).addJob c v e n p ivs
            let h := jobHandle e ((look (s.ctx c).jobGens n).getD 0) n
            let s4 := s3.deliver (readsChannel (da 1 2 d a)) lanes ⟨.dst, d, 1⟩ (lanes.map (fun l => (l, [h], 0#5)))
            .next ((start s4 n).finish sw lanes)

def recordFormat : Trap := { code := .recordFormat }

/-- `cpy` (R201). -/
def cpyPlan (s : State) (bs : List Byte) : Except Trap JobPlan :=
  let r : Shape := BitVec.ofNat 4096 (natOfBytes bs)
  let at' := s.awayOf r
  let far := at' != .own
  let src := if far && shGside r then [] else [shSrcRegion r]
  let dst := if far && !shGside r then [] else [shDstRegion r]
  if cpyRefused r || (far && (if shGside r then shSlev r != .g else shDlev r != .g)) then .error recordFormat
  else if !far && (shSrcRegion r).meets (shDstRegion r) then .error recordFormat
  else .ok { kind := .copy r, total := if at' = .off then 0 else shCount r, regions := src ++ dst, edge := at' == .off }

/-- `cpy d, [a]` (R201). -/
def execCpy (sw : Bool) (d a : Fld) (s : State) : Host.Outcome State Fault Refusal :=
  s.jobMould sw d a .copy 512 cpyPlan (fun t n => t.post (.jobElement s.issue.ctx n))

def shParms (r : Shape) : CollParms :=
  { cid := shCid r, ckind := shKind r, rmask := shRmask r, root := shRoot r, ren := shRen r, rop := shRop r, rfmt := shRfmt r, sfmt := shSfmt r
    elems := shCount r }

/-- `cpyc` (R202). -/
def cpycPlan (s : State) (bs : List Byte) : Except Trap JobPlan :=
  let r : Shape := BitVec.ofNat 4096 (natOfBytes bs)
  let n := s.collRanks (shRmask r)
  if cpycRefused r n || (shSrcRegion r).meets (shDstRegion r) then .error recordFormat
  else .ok { kind := .coll r (shParms r) (s.ownRank (shRmask r)) n 0 []
             total := shCount r, regions := [shSrcRegion r, shDstRegion r] }

/-- A job ends with a code. -/
def State.jobCode (s : State) (c n code : Nat) : State := (s.modJob c n (fun x => { x with code := code })).post (.jobRetire c n)

/-- A collective of one rank, or one whose apex is this device or can be reached, as its group has it (R366, R367). -/
def State.collOk (s : State) (c : Nat) (p : CollParms) (ranks : Nat) : Bool :=
  ranks == 1 || ((s.fabGroup c).isSome && (s.atCollApex p || s.peerOk c (s.collApex p)))

/-- The leaf of a rank for an element of a collective. -/
def State.collLeaf (s : State) (c : Nat) (p : CollParms) (seq rank elem : Nat) (val : Nat) (fl : Flags) : Partial :=
  { ctx := c, slot := 0, level := 0, index := rank, val := BitVec.ofNat 64 val, flags := fl
    coll := some { group := s.fabGroup c, parms := p, elem := elem, seq := seq } }
def State.sendLeaf (s : State) (q : Partial) (p : CollParms) : State :=
  if s.atCollApex p then s.post (.partialArrive .hub q) else s.forward .hub q

/-- Another rank has told of a collective of this cid whose parameters differ (R202): its parameters and number. -/
def State.oddIssue (s : State) (group : Nat) (p : CollParms) : Option (CollParms × Nat) :=
  (s.hub.fabric.issued.find? (fun e => e.1 == group && e.2.2.1.cid == p.cid && e.2.2.1 != p)).map (·.2.2)
/-- Another rank's collective over the same dimensions that stands where this one does in the order of its collectives, under a cid
that neither rank shares with the other: the two do not match (R202, R362; notes/assumptions/98.md). -/
def State.strayIssue (s : State) (c group : Nat) (p : CollParms) (seq : Nat) : Option (CollParms × Nat) :=
  (s.hub.fabric.issued.find? (fun e => e.1 == group && e.2.2.1.rmask == p.rmask && e.2.2.2 == seq && e.2.2.1.cid != p.cid &&
    !s.hub.fabric.issued.any (fun x => x.1 == group && x.2.1 == e.2.1 && x.2.2.1.cid == p.cid) &&
    !(s.ctx c).jobs.any (fun y => isCid e.2.2.1.cid y.2))).map (·.2.2)
/-- A rank's collective and another rank's that does not match it end everywhere with code 0x04. -/
def State.failBoth (s : State) (c group : Nat) (p : CollParms) (seq : Nat) (q : CollParms × Nat) : State :=
  (s.failColl c { group := some group, parms := p, elem := 0, seq := seq } 4).failColl c { group := some group, parms := q.1, elem := 0, seq := q.2 } 4

/-- A collective starts (R202, R369, R370): it ends at once with the code of a failure that another rank has told of; a second one of
its cid, or another rank's of the cid with other parameters, make every rank retire with code 0x04; an unreachable apex gives 0x07.
Else the other ranks are told, and the apex grants a window (its width is open, notes/assumptions/24.md). -/
def State.startColl (s : State) (c n : Nat) : State :=
  match look (s.ctx c).jobs n with
  | some { kind := .coll _ p _ ranks _ _, .. } =>
    let g := s.fabGroup c
    let k := (look (s.ctx c).collSeq p.rmask).getD 0
    let s := (s.modCtx c (fun x => { x with collSeq := put x.collSeq p.rmask (k + 1) })).modJob c n (fun j => { j with seq := k })
    let ours (e : Nat × CollParms × Nat × Nat) : Bool := some e.1 == g && (e.2.1.cid == p.cid || (e.2.1.rmask == p.rmask && e.2.2.1 == k))
    let twin := (s.ctx c).jobs.any (fun e => e.1 != n && isCid p.cid e.2)
    match s.hub.fabric.failed.find? ours, g.bind (fun g => (s.oddIssue g p).map (fun q => (g, q))) with
    | some e, _ =>
      ({ s with hub := { s.hub with fabric := { s.hub.fabric with failed := s.hub.fabric.failed.filter (fun e => !ours e) } } } : State).jobCode c n e.2.2.2
    | none, some (g, q) => s.failBoth c g p k q
    | none, none =>
      if twin then s.failColl c { group := g, parms := p, elem := 0, seq := k } 4
      else if !s.collOk c p ranks then s.jobCode c n 7 else
      let s := match g with
        | some g => s.tellRanks c g p k 0 (.issued (s.ownRank p.rmask)) 0#5
        | none => s
      if s.atCollApex p then s.post (.collectiveWindowGrant c n (min (Config.windowWidth s.aux.time % 64 + 1) p.elems)) else s.post (.jobElement c n)
  | _ => s

/-- `cpyc d, [a]` (R202). -/
def execCpyc (sw : Bool) (d a : Fld) (s : State) : Host.Outcome State Fault Refusal :=
  s.jobMould sw d a .copy 512 cpycPlan (fun t n => t.startColl s.issue.ctx n)

/-- `chain` (R205). -/
def chainPlan (_s : State) (bs : List Byte) : Except Trap JobPlan :=
  let r : Chain := BitVec.ofNat 1024 (natOfBytes bs)
  if chRefused r then .error recordFormat
  else .ok { kind := .chain r, total := chN r, regions := (chStreams r).map (chRegion r) }

/-- `chain d, [a]` (R205). -/
def execChain (sw : Bool) (d a : Fld) (s : State) : Host.Outcome State Fault Refusal :=
  s.jobMould sw d a .chain 128 chainPlan (fun t n => t.post (.jobElement s.issue.ctx n))

/-! ## Accesses of an engine (R303) -/

/-- The stretches of an engine's global access, under the range registers of its admission. -/
def State.jobSpans (s : State) (c : Nat) (j : Job) (a n : Nat) (write : Bool) : List Nat :=
  match mapSpans j.ranges a n (!write) write with
  | some ss => spanIas ss
  | none => match s.mapVa c a n (!write) write with
    | some ss => spanIas ss
    | none => []

def engWho (j : Job) (write : Bool) (sq : Option Nat := none) : Who := { kind := if write then .engWrite else .engRead, vc := j.vc, sq := sq }

/-- The value of an on-chip byte for a job: its square's memory, its core's scratchpad. -/
def State.jobChip (s : State) (c : Nat) (j : Job) (l : Lvl) (a n : Nat) : List Byte :=
  match l with
  | .q => (s.square (s.jobSquare c j a)).sqm.readBytes a n
  | _ => s.chipRead c j.vc l a n

/-- The place of an on-chip byte for a job. -/
def State.jobAt (s : State) (c : Nat) (j : Job) (l : Lvl) (a : Nat) : ChipAt :=
  if l = .q then ⟨.q, (s.jobSquare c j a, 0), a⟩ else s.chipAt c j.vc l a

/-- An engine reads n bytes at their homes. -/
def State.jobRead (s : State) (c : Nat) (j : Job) (l : Lvl) (a n : Nat) : Except AccErr (List Byte × State) :=
  match l with
  | .g =>
    let ias := s.jobSpans c j a n false
    (match s.openPages c ias true false with
     | .error f => .error (.page f)
     | .ok t => match t.badByte c ias with
       | some x => .error (.bad x (some (a + ias.findIdx (· == x))))
       | none => .ok (ias.map (fun x => t.homeByte c x), t.observe t c j.vc (engWho j false) .g (spansOf ias) true false))
  | l =>
    if s.deadMarket l a then .error (.dead a) else
    match s.badAt (s.jobAt c j l a) n with
    | some k => .error (.chip (s.jobAt c j l (a + k)) (a + k))
    | none =>
    .ok (s.jobChip c j l a n, (s.observe s c j.vc (engWho j false (some (s.jobSquare c j a))) l [(a, a + n - 1)] true false).noteReads (s.jobAt c j l a) n)

/-- An engine writes bytes at their homes; no atomic's write comes after it that read before it (R155). -/
def State.jobWrite (s : State) (c : Nat) (j : Job) (l : Lvl) (a : Nat) (bs : List Byte) : Except AccErr State :=
  match l with
  | .g =>
    let ias := s.jobSpans c j a bs.length true
    (match s.openPages c ias false true with
     | .error f => .error (.page f)
     | .ok t => .ok ((t.writeIa c (ias.zip bs)).observe t c j.vc (engWho j true) .g (spansOf ias) false true))
  | .q =>
    .ok ((((s.settleHalves (halfIn (s.jobSquare c j a) a bs.length)).clearBad (s.jobAt c j .q a) bs.length).modSquare (s.jobSquare c j a)
      (fun x => { x with sqm := x.sqm.writeBytes a bs })).observe s c j.vc (engWho j true (some (s.jobSquare c j a))) .q [(a, a + bs.length - 1)] false true)
  | l =>
    if s.deadMarket l a then .error (.dead a) else
    .ok ((s.chipWrite c j.vc l a bs).observe s c j.vc (engWho j true) l [(a, a + bs.length - 1)] false true)

/-- A job meets a fault at its engine port: it stalls (R207, R315); bad data ends it with code 0x03 (R206). A scan's accesses
count as the checkpoint engine's, since R315 has no code of its own for them, and a fault of these engines, which are the hub's, goes to the
buffer of the die of the issuing square: DESIGN CHOICE, notes/assumptions/99.md. -/
def State.jobError (s : State) (c n : Nat) (j : Job) (write : Bool) : AccErr → State
  | .page f => if f.waits then s.post (.jobElement c n) else (s.modJob c n (fun x => { x with stalled := true })).post (.gatewayPageFault
      { ctx := c, vc := 0, line := 0, die := j.square / 10, src := min 3 (engCode j.eng + 1), cause := f.cause, kind := if write then 1 else 0
        vcache := f.vcn, lvl := f.lvl, ia := f.ia, va := 0, lanes := [], job := some n })
  | .bad a va => ((s.reportBad c a).modJob c n (fun x => { x with code := 3, badAddr := va.getD a })).post (.jobRetire c n)
  | .dead a => (s.modJob c n (fun x => { x with code := 3, badAddr := a })).post (.jobRetire c n)
  | .chip x a => ((s.reportError 4 0 c (s.chipLoc x) a).modJob c n (fun x => { x with code := 3, badAddr := a })).post (.jobRetire c n)

/-- An element is done: the next one, or the end of the job. -/
def State.jobNext (s : State) (c n : Nat) (j : Job) (fl : Flags) : State :=
  let s := s.modJob c n (fun x => { x with next := j.next + 1, flags := x.flags ||| fl })
  if j.next + 1 < j.total then s.post (.jobElement c n) else s.post (.jobRetire c n)

/-- An engine's access to a member of the context's fabric group on another device (R201, R367): the member's range registers may refuse
it, which is code 0x07, or a page fault there stalls the job, as that device decides. -/
def State.remoteAccess (s : State) (c n : Nat) (cs : List Nat) (a : Nat) (write : Bool) (len : Nat) (bs : List Byte) (next : State → State) : State :=
  match s.peerOk c cs, s.portTo cs vcRequest with
  | true, some q =>
    let t : State := { s with aux := { s.aux with remote := s.aux.remote.drop 1 } }
    let t := t.send (.seler q vcRequest (s.classTo none cs) (.remote cs ((s.fabGroup c).getD 0) a write len bs))
    (match s.aux.remote.headD 0 with
     | 0 => next t
     | 1 => t.jobCode c n 7
     | _ => t.post (.jobElement c n))
  | _, _ => s.jobCode c n 7

/-- One element of a copy (R200, R201). -/
def State.copyElement (s : State) (c n : Nat) (j : Job) (r : Shape) : State :=
  let a := (shSrcAt r j.next).toNat
  let b := (shDstAt r j.next).toNat
  let w := shSw r
  let put (s : State) (bs : List Byte) : State := match s.jobWrite c j (shDlev r) b bs with
    | .error e => s.jobError c n j true e
    | .ok t => t.jobNext c n j 0#5
  match s.awayOf r with
  | .at cs =>
    if shGside r then
      s.remoteAccess c n cs a false w [] (fun t => put t ((List.range w).map (fun i => Config.remoteByte (s.deviceAt cs) (a + i) s.aux.time)))
    else if !s.peerOk c cs then s.jobCode c n 7
    else (match s.jobRead c j (shSlev r) a w with
      | .error e => s.jobError c n j false e
      | .ok (bs, t) => t.remoteAccess c n cs b true w bs (fun t => t.jobNext c n j 0#5))
  | _ =>
    match s.jobRead c j (shSlev r) a w with
    | .error e => s.jobError c n j false e
    | .ok (bs, t) => put t bs

/-- The operations of a chain that carry a residue check (R121, R123, R205, R389). -/
def chChecks (r : Chain) : List Nat :=
  if chWfmt r = 0 then (List.range (chNops r)).filter (fun k => [0, 1, 2, 3, 8, 9].contains (opcOf (chOp r k))) else []

/-- One element of a chain (R205). -/
def State.chainElement (s : State) (c n : Nat) (j : Job) (r : Chain) : State :=
  let ins := (List.range (chNin r)).foldlM (fun (acc : List Nat × State) k =>
    (acc.2.jobRead c j (chLvl r k) (chAt r k j.next).toNat (fmtBytes (chFmt r k))).map (fun x => (acc.1 ++ [natOfBytes x.1], x.2))) ([], s)
  match ins with
  | .error e => s.jobError c n j false e
  | .ok (xs, t) =>
    let chk := t.residueCheck c (j.square / 10) 0 (chChecks r)
    if !chk.1.isEmpty then chk.2.jobCode c n 6 else
    let o := chElement r xs
    match chk.2.jobWrite c j (chLvl r 3) (chAt r 3 j.next).toNat (bytesOfNat o.1 (fmtBytes (chFmt r 3))) with
    | .error e => s.jobError c n j true e
    | .ok t => t.jobNext c n j o.2

/-- Every other rank has issued the collective (R202). -/
def State.allIssued (s : State) (group : Option Nat) (p : CollParms) (ranks : Nat) : Bool :=
  (List.range ranks).all (fun k => k == s.ownRank p.rmask || s.hub.fabric.issued.any (fun e => some e.1 == group && e.2.1 == k && e.2.2.1.cid == p.cid))

/-- The rank sends its leaf of an element, or, as the root of a broadcast that every rank has issued, the element itself, within the
window that the apex has granted (R202, R368 to R370). -/
def State.collElement (s : State) (c n : Nat) (j : Job) (r : Shape) (p : CollParms) (rank ranks w : Nat) (formed : List Nat) : State :=
  let g := s.fabGroup c
  match g.bind (fun g => (s.strayIssue c g p j.seq).map (fun q => (g, q))) with
  | some (g, q) => s.failBoth c g p j.seq q
  | none =>
  if j.total ≤ j.next || w == 0 || !(decide (j.next < w) || formed.contains (j.next - w)) ||
    (!p.ren && (rank != p.root || !s.allIssued g p ranks)) then s else
  match s.jobRead c j (shSlev r) (shSrcAt r j.next).toNat (shSw r) with
  | .error e => s.jobError c n j false e
  | .ok (bs, t) =>
    let t := (t.modJob c n (fun x => { x with next := j.next + 1 })).post (.jobElement c n)
    let x := natOfBytes bs
    if p.ren then
      let l := leafOf p.sfmt p.rfmt x
      t.sendLeaf (s.collLeaf c p j.seq rank j.next l.1 l.2) p
    else
      let val : CollNews := .root (BitVec.ofNat 128 x)
      (match g with
       | some g => t.tellRanks c g p j.seq j.next val 0#5
       | none => t).post (.collectiveRootReturn c n j.next
         { group := g.getD 0, parms := p, seq := j.seq, dest := fabCoords s.hub.fabric.recd, body := val } 0#5)

/-- Windows' worth of 16 entries that the hub pan can still reserve, beside the slots' partials that it holds (R247, R369). -/
def State.hubRoom (s : State) : Nat :=
  (1024 - (s.hub.fabric.granted.map (·.2)).sum * 16 - ((s.pan .hub).filter (fun q => q.coll.isNone)).length) / 16

/-- COLLECTIVE_WINDOW_GRANT (R369): the apex reserves 16 hub pan entries for each element of the window, as wide a one as
it can, or waits until it can reserve 16; it tells the other ranks. To another rank the window comes as the apex granted it. -/
def execCollectiveWindowGrant (ctx job w : Nat) (s : State) : Host.Outcome State Fault Refusal :=
  match look (s.ctx ctx).jobs job with
  | some { kind := .coll r p rank n 0 formed, retired := false, seq := k, .. } =>
    let g := if s.atCollApex p then min w s.hubRoom else min w 64
    if g = 0 then .next (if w = 0 then s else s.post (.collectiveWindowGrant ctx job w)) else
    let s := s.modJob ctx job (fun j => { j with kind := .coll r p rank n g formed })
    let s : State := if s.atCollApex p then { s with hub := { s.hub with fabric := { s.hub.fabric with granted := put s.hub.fabric.granted (ctx, job) g } } } else s
    let s := match s.atCollApex p, s.fabGroup ctx with
      | true, some gr => s.tellRanks ctx gr p k 0 (.grant g) 0#5
      | _, _ => s
    .next (s.post (.jobElement ctx job))
  | _ => .next s

/-- Another rank has issued a collective (R202). One that this device's rank has already finished is forgotten. -/
def State.hearIssued (s : State) (c : Nat) (m : CollMsg) (rank : Nat) : State :=
  let jobs := (s.ctx c).jobs.filter (fun e => isCid m.parms.cid e.2)
  if jobs.isEmpty && decide (m.seq < (look (s.ctx c).collSeq m.parms.rmask).getD 0) then s else
  let s : State := { s with hub := { s.hub with fabric := { s.hub.fabric with issued := s.hub.fabric.issued ++ [(m.group, rank, m.parms, m.seq)] } } }
  match jobs.find? (fun e => !isColl m.parms e.2) with
  | some (_, { kind := .coll _ p .., seq := k, .. }) => s.failBoth c m.group p k (m.parms, m.seq)
  | _ => (s.ctx c).jobs.foldl (fun s e => match e.2.kind with
    | .coll .. => if e.2.retired then s else s.post (.jobElement c e.1)
    | _ => s) s

/-- Another rank has told that a collective ends with a code (R202, R362, R370): this rank's does, now or as it starts. -/
def State.hearFailed (s : State) (c : Nat) (m : CollMsg) (code : Nat) : State :=
  let mine (j : Job) : Bool := match j.kind with
    | .coll _ r .. => !j.retired && (r.cid == m.parms.cid || (r.rmask == m.parms.rmask && j.seq == m.seq))
    | _ => false
  if (s.ctx c).jobs.any (fun e => mine e.2) then
    (s.failJobs c mine code).dropColl c (some m.group) m.parms.cid
  else if m.seq < (look (s.ctx c).collSeq m.parms.rmask).getD 0 then s
  else { s with hub := { s.hub with fabric := { s.hub.fabric with failed := s.hub.fabric.failed ++ [(m.group, m.parms, m.seq, code)] } } }

/-- An element's root reaches this rank, which writes it if it is a rank that receives it (R370). -/
def State.rootHere (s : State) (ctx job elem : Nat) (m : CollMsg) (val : QWord) (flags : Flags) : State :=
  match look (s.ctx ctx).jobs job with
  | some j =>
    (match j.kind with
     | .coll r p rank n w formed =>
       if j.retired || j.code != 0 || formed.contains elem || decide (j.total ≤ elem) || p.cid != m.parms.cid then s
       else if j.stalled || !j.after.isEmpty then s.post (.collectiveRootReturn ctx job elem m flags) else
       let writes := p.ckind != 1 || rank == p.root
       let res : Except AccErr State := if writes then s.jobWrite ctx j (shDlev r) (shDstAt r elem).toNat (bytesOfNat val.toNat (shDw r)) else .ok s
       (match res with
        | .error e => (match e with
            | .page f => if f.waits then s else s.jobError ctx job j true e
            | _ => s.jobError ctx job j true e).post (.collectiveRootReturn ctx job elem m flags)
        | .ok t =>
          let t := t.modJob ctx job (fun x => { x with kind := .coll r p rank n w (formed ++ [elem]), flags := x.flags ||| flags })
          t.post (if formed.length + 1 = j.total then .jobRetire ctx job else .jobElement ctx job))
     | _ => s)
  | none => s

/-- COLLECTIVE_ROOT_RETURN (R370): a root, or other news of a collective, reaches this device: it goes on towards the device that it is
for, or this device's rank takes it in (notes/assumptions/98.md). -/
def execCollectiveRootReturn (ctx job elem : Nat) (msg : CollMsg) (flags : Flags) (s : State) : Host.Outcome State Fault Refusal :=
  if msg.dest ≠ fabCoords s.hub.fabric.recd then .next (s.sendNews ctx elem msg flags) else
  match msg.body with
  | .root val => .next (s.rootHere ctx job elem msg val flags)
  | .grant w => .next (((s.ctx ctx).jobs.filter (fun e => isCid msg.parms.cid e.2)).foldl (fun s e => s.post (.collectiveWindowGrant ctx e.1 w)) s)
  | .issued rank => .next (s.hearIssued ctx msg rank)
  | .failed code => .next (s.hearFailed ctx msg code)

/-! ## Retirement and waiting (R206, R304, R333) -/

/-- A wait on a retired job is answered: the status word, the acquire under sc2 that goes with code 0x00, the
machine-check trap that goes with 0x03. -/
def State.answerJob (s : State) (j : Job) (r : ReplyTo) (pos : Pos) : State :=
  let s := if j.code = 0 then s.acquire r.ctx r.vc 0xFF 1 else s
  let s := s.post (.longLatencyReturn (replyResult r (r.lanes.map (fun l => (l, [jobWord j.code j.edge j.flags], 0#5)))))
  if j.code = 3 then s.takeTrap ⟨r.ctx, r.vc, r.line⟩ r.lanes pos (machineCheck j.badAddr) else s

/-- The waits on a retired job return, and its entry is free. They go on waiting while an acquire's sweep at a wrap has bytes
held (R401). -/
def State.answerJobs (s : State) (c n : Nat) : State :=
  let mine := s.waits.filter (fun w => w.on == .job c n)
  match look (s.ctx c).jobs n, mine.isEmpty with
  | some j, false =>
    let t := if j.code = 0 then mine.foldl (fun s w => s.preSweep w.reply.ctx w.reply.vc 0xFF 1) s else s
    if j.code == 0 && mine.any (fun w => t.acqWaits w.reply.ctx w.reply.vc 0xFF 1) then t.post (.jobRetire c n) else
    let t : State := { t with waits := t.waits.filter (fun w => w.on != .job c n) }
    (mine.foldl (fun s w => s.answerJob j w.reply w.pos) t).freeJob c n
  | _, _ => s

/-- Fault records of a job that has ended answer nothing any more (R316). -/
def State.endFaults (s : State) (c n : Nat) : State :=
  let mine (x : FaultNote) : Bool := x.ctx == c && x.job == some n
  { s with
    dies := s.dies.map (fun e => (e.1, { e.2 with
      faults := e.2.faults.map (fun f => if mine f.note then { f with stale := true } else f)
      heldFaults := e.2.heldFaults.filter (fun x => !mine x) }))
    agenda := s.agenda.filter (fun i => match i with
      | .gatewayPageFault x => !mine x
      | _ => true) }
/-- Jobs that waited for one go on, and the waits on it return. -/
def State.jobDone (s : State) (c n : Nat) : State :=
  let s := s.endFaults c n
  let s := s.modCtx c (fun x => { x with
    jobs := x.jobs.map (fun e => (e.1, if e.1 = n then { e.2 with retired := true } else { e.2 with after := e.2.after.filter (· != n) }))
    ckpt := { x.ckpt with cut := if x.ckpt.cut = some n then none else x.ckpt.cut } })
  ((s.answerJobs c n).wakeHeld c).wakeUnits

/-- What the first announcement of each rank was for is over. -/
def dropFirst (group cid : Nat) : List Nat → List (Nat × Nat × CollParms × Nat) → List (Nat × Nat × CollParms × Nat)
  | _, [] => []
  | seen, e :: r =>
    if e.1 == group && e.2.2.1.cid == cid && !seen.contains e.2.1 then dropFirst group cid (e.2.1 :: seen) r else e :: dropFirst group cid seen r
/-- A collective has retired here: its window is free, and what the other ranks told of it is forgotten (R369). -/
def State.endColl (s : State) (c n : Nat) (j : Job) : State :=
  let s : State := { s with hub := { s.hub with fabric := { s.hub.fabric with granted := del s.hub.fabric.granted (c, n) } } }
  match j.kind, s.fabGroup c with
  | .coll _ p .., some g => { s with hub := { s.hub with fabric := { s.hub.fabric with issued := dropFirst g p.cid [] s.hub.fabric.issued } } }
  | _, _ => s

/-- JOB_RETIRE (R304, R333): no job retires before one on which it has an edge. The issuing core writes home and drops its lines
of the write intervals, waits until none of their bytes is held, the scoreboard entries are freed, and the job has retired. -/
def execJobRetire (ctx job : Nat) (s : State) : Host.Outcome State Fault Refusal :=
  match look (s.ctx ctx).jobs job with
  | none => .next s
  | some j =>
    if j.retired then .next (s.answerJobs ctx job) else
    let again (s : State) : Host.Outcome State Fault Refusal := .next (s.post (.jobRetire ctx job))
    if !j.after.isEmpty then again s else
    let ws := j.ivals.filter (·.write)
    let s := (s.linesIn ctx j.vc ws).foldl (fun s la => s.l1Drop ctx j.vc la) s
    if s.heldIn ctx j.vc ws then again (s.flushHeld (Sys2Proof.Machine.heldIn s ctx j.vc ws)) else
    let s := s.modCore ctx j.vc (fun x => { x with board := x.board.filter (fun i => i.job != job) })
    let s := s.endColl ctx job j
    .next ((s.jobDone ctx job).resumeHeld ctx)

/-- `cpyw d, a` (R206): long-latency; each lane waits for, or polls, its own handle. A poll of a job that runs returns code 0x01 with edge
and flags zero: DESIGN CHOICE, notes/assumptions/116.md. -/
def execCpyw (sw : Bool) (d a : Fld) (s : State) : Host.Outcome State Fault Refusal :=
  match s.prepare false (da 1 1 d a) with
  | .halt s => .next s
  | .go lanes vals s1 =>
    let c := s.issue.ctx
    let h (l : Nat) : Word := w32 (laneWord vals l)
    let done := lanes.any (fun l => match s1.jobOf c (h l) with
      | some (_, j) => j.retired && j.code == 0
      | none => false)
    if done && (s1.preSweep c s.issue.vc 0xFF 1).acqWaits c s.issue.vc 0xFF 1 then .next (s.preSweep c s.issue.vc 0xFF 1).stall else
    let rs := lanes.foldl (fun (acc : List (Nat × ReplyTo) × State × Bool) l =>
      let r := acc.2.1.replyTo [l] ⟨.dst, d, 1⟩
      (acc.1 ++ [(l, if acc.2.2 then r.2 else { r.2 with gs := [] })], r.1, false)) ([], s1, true)
    let now (l : Nat) : Option Job := match s1.jobOf c (h l) with
      | some (_, j) => if j.retired then some j else if (h l).getLsbD 31 then some { j with code := 1, edge := false, flags := 0#5 } else none
      | none => some { gen := 0, eng := .copy, kind := .scan 0 0 0, vc := 0, square := 0, code := 2 }
    let s2 := rs.1.foldl (fun (s : State) e => match now e.1, s1.jobOf c (h e.1) with
      | none, some (n, _) => { s with waits := s.waits ++ [{ on := .job c n, reply := e.2, pos := s.issue.pos }] }
      | _, _ => s) rs.2.1
    let ready := rs.1.filterMap (fun e => (now e.1).map (fun j => (e.1, e.2, j)))
    let s3 := ready.foldl (fun s e => if e.2.2.code = 0 then s.acquire c s.issue.vc 0xFF 1 else s) s2
    let s4 := ready.foldl (fun s e => match s1.jobOf c (h e.1) with
      | some (n, j) => if j.retired && !(h e.1).getLsbD 31 then s.freeJob c n else s
      | none => s) s3
    let s5 := match mergeResults (ready.map (fun e => replyResult e.2.1 [(e.1, [jobWord e.2.2.code e.2.2.edge e.2.2.flags], 0#5)])) with
      | some r => s4.post (.longLatencyReturn r)
      | none => s4
    let traps := ready.filterMap (fun e => if e.2.2.code = 3 then some (e.1, machineCheck e.2.2.badAddr) else none)
    .next ((s5.trapIssue traps).finish sw (lanes.filter (fun l => !traps.any (·.1 == l))))
where
  laneWord (vals : List (Nat × List (List Word))) (l : Nat) : List Word := arg ((look vals l).getD []) 0

end Sys2Proof.Machine
end

