-- ==== Sys2Proof/Machine/Gen.lean ====
section
/-!
DEFINITION. Major 0x38, random numbers (R208, R209), and checkpoint cuts (R212, R377 to R380): `ckcut`, the copying of
granules, and the cut map.
-/
namespace Sys2Proof.Machine

/-! ## Philox4x32-10 (R208) -/

/-- The halves of a 64-bit product. -/
def mulHiLo (x y : Word) : Word × Word :=
  let p : DWord := x.setWidth 64 * y.setWidth 64
  (p.extractLsb' 32 32, p.extractLsb' 0 32)

/-- The rounds: n of them are left. -/
def philox : Nat → Word × Word → Word × Word × Word × Word → Word × Word × Word × Word
  | 0, _, c => c
  | n + 1, (k0, k1), (c0, c1, c2, c3) =>
    let x := mulHiLo 0xD2511F53#32 c0
    let y := mulHiLo 0xCD9E8D57#32 c2
    philox n (k0 + 0x9E3779B9#32, k1 + 0xBB67AE85#32) (y.1 ^^^ c1 ^^^ k0, y.2, x.1 ^^^ c3 ^^^ k1, x.2)

/-- The quad that `rng` writes. -/
def rngWords (ctr key : List Word) : List Word :=
  let r := philox 10 (key.getD 0 0#32, key.getD 1 0#32) (ctr.getD 0 0#32, ctr.getD 1 0#32, ctr.getD 2 0#32, ctr.getD 3 0#32)
  [r.1, r.2.1, r.2.2.1, r.2.2.2]

/-- `rng d, a, gK` (R208). -/
def execRng (sw : Bool) (d a b : Fld) (s : State) : Host.Outcome State Fault Refusal :=
  match s.prepare false [⟨.src, a, 4⟩, ⟨.src, b, 2⟩, ⟨.dst, d, 4⟩] with
  | .halt s => .next s
  | .go lanes vals s =>
    .next ((s.deliver true lanes ⟨.dst, d, 4⟩ (vals.map (fun e => (e.1, rngWords (arg e.2 0) (arg e.2 1), 0#5)))).finish sw lanes)

/-! ## The stream table (R209) -/

def streamOf (x : Nat) : Stream := { key := BitVec.ofNat 64 x, base := BitVec.ofNat 128 (x / 2 ^ 64), count := BitVec.ofNat 64 (x / 2 ^ 192) }
def Stream.lo (r : Stream) : Nat := r.base.toNat
def Stream.hi (r : Stream) : Nat := r.base.toNat + r.count.toNat - 1
def Stream.refused (r : Stream) : Bool := r.count == 0#64 || decide (2 ^ 128 ≤ r.hi)
/-- Equal keys and counter ranges that intersect. -/
def Stream.meets (r q : Stream) : Bool := r.key == q.key && decide (r.lo ≤ q.hi) && decide (q.lo ≤ r.hi)

/-- The stream table with the id of each entry. -/
abbrev Streams := Tbl Nat Stream

/-- `rng.reg`: code, id, and the table after it. A refused record is judged first, then a conflict, then a full table. -/
def regStream (t : Streams) (r : Stream) : Nat × Nat × Streams :=
  if r.refused then (3, 0, t) else
  match (List.range Config.streamTable).find? (fun i => match look t i with
    | some q => q.meets r
    | none => false) with
  | some i => (1, i, t)
  | none =>
    match leastFree (t.map (·.1)) Config.streamTable with
    | none => (2, 0, t)
    | some i => (0, i, put t i r)

/-- `rng.unreg`. -/
def unregStream (t : Streams) (r : Stream) : Nat × Nat × Streams :=
  if r.refused then (3, 0, t) else
  match t.find? (fun e => e.2 == r) with
  | some e => (0, 0, del t e.1)
  | none => (4, 0, t)

/-- The shape of both: a 32-byte record read for the gang, one status word for every active lane. -/
def State.execStream (s : State) (sw : Bool) (d a : Fld) (f : Streams → Stream → Nat × Nat × Streams) : Host.Outcome State Fault Refusal :=
  match s.prepare false (da 1 2 d a) with
  | .halt s => .next s
  | .go lanes vals s1 =>
    match s1.fetchRecord s lanes (w64 (arg ((vals.headD (0, [])).2) 0)).toNat 32 with
    | .stop t => .next t
    | .ok bs s2 =>
      let r := f s2.issCtx.streams (streamOf (natOfBytes bs))
      let s3 := s2.modIssCtx (fun x => { x with streams := r.2.2 })
      let w : Word := BitVec.ofNat 32 (r.1 * 2 ^ 24 + r.2.1)
      .next ((s3.deliver true lanes ⟨.dst, d, 1⟩ (lanes.map (fun l => (l, [w], 0#5)))).finish sw lanes)

/-- `rng.reg d, [a]` (R209). -/
def execRngReg (sw : Bool) (d a : Fld) (s : State) : Host.Outcome State Fault Refusal := s.execStream sw d a regStream
/-- `rng.unreg d, [a]` (R209). -/
def execRngUnreg (sw : Bool) (d a : Fld) (s : State) : Host.Outcome State Fault Refusal := s.execStream sw d a unregStream

/-! ## Cut descriptors (R212) -/

/-- Range registers that a descriptor covers. -/
def coveredRanges (tbl : Tbl Nat (BitVec 256)) (r : BitVec 512) : List (BitVec 256) :=
  (List.range 16).filterMap (fun k => if (cutCover r).testBit k then look tbl k else none)

/-- Breaches that raise the record-format fault. -/
def cutRefused (tbl : Tbl Nat (BitVec 256)) (r : BitVec 512) : Bool :=
  bits r.toNat 121 391 != 0 || bits r.toNat 52 12 != 0 || bit r.toNat 50 || decide (1 < cutKind r) || cutCover r == 0 ||
  (List.range 16).any (fun k => (cutCover r).testBit k && !(match look tbl k with
    | some x => rrValid x
    | none => false)) ||
  (if cutKind r = 0 then cutTarget r % 4096 != 0 else cutSize r != 0)

/-- A kind 0 target that is not wholly mapped for writing, or that shares bytes with a covered range. -/
def cutTargetBad (tbl : Tbl Nat (BitVec 256)) (r : BitVec 512) : Bool :=
  let lo := cutTarget r
  let n := 4096 * cutSize r
  if cutKind r ≠ 0 ∨ n = 0 then false else
  match mapSpans tbl lo n false true with
  | none => true
  | some ss => (coveredRanges tbl r).any (fun x =>
      (decide (rrBase x < lo + n) && decide (lo ≤ rrLimit x)) ||
      ss.any (fun y => decide (rrIa x < y.ia + y.len) && decide (y.ia ≤ rrIa x + (rrLimit x - rrBase x))))

/-- The granules of a range that a cut copies, with their virtual addresses: all of them, or the dirty ones. A granule
that the range covers in part has the address of its first covered byte. -/
def rangeGranules (x : BitVec 256) (full : Bool) (dirty : List Nat) : List (Nat × Nat) :=
  let lo := rrIa x
  let hi := rrIa x + (rrLimit x - rrBase x)
  let gs := if full then (List.range (granuleOf hi - granuleOf lo + 1)).map (fun i => granuleOf lo + i)
    else dirty.filter (fun g => granuleOf lo ≤ g && decide (g ≤ granuleOf hi))
  gs.map (fun g => (rrBase x + (max (g * 2 ^ 14) lo - lo), g))

def insertGran (x : Nat × Nat) : List (Nat × Nat) → List (Nat × Nat)
  | [] => [x]
  | y :: r => if x.1 ≤ y.1 then x :: y :: r else y :: insertGran x r

/-- The granules of a cut in ascending virtual address order, each once (R378). -/
def cutGranules (tbl : Tbl Nat (BitVec 256)) (r : BitVec 512) (dirty : List Nat) : List (Nat × Nat) :=
  let all := ((coveredRanges tbl r).flatMap (fun x => rangeGranules x (cutFull r) dirty)).foldr insertGran []
  all.foldl (fun acc e => if acc.any (fun x => x.2 == e.2) then acc else acc ++ [e]) []

/-- Covered granules are clean at the cut instant (R377). -/
def coversGranule (tbl : Tbl Nat (BitVec 256)) (r : BitVec 512) (g : Nat) : Bool :=
  (coveredRanges tbl r).any (fun x => granuleOf (rrIa x) ≤ g && decide (g ≤ granuleOf (rrIa x + (rrLimit x - rrBase x))))

/-- The cut instant: atomics that have read have written; the granules are fixed, their marks cleared, and the job admitted (R212, R377). -/
def State.startCut (s : State) (c v n : Nat) (r : BitVec 512) : State :=
  let tbl := (s.ctx c).trans.ranges
  let s := s.settleHalves (fun h => h.ctx == c)
  let all := cutGranules tbl r (s.ctx c).ckpt.dirty
  let s := s.addJob c v .cut n { kind := .cut r all all, total := all.length, regions := [] } []
  let target := if cutKind r = 0 then (mapSpans tbl (cutTarget r) (4096 * cutSize r) false true).getD [] else []
  let s := s.taint c (target.map (fun x => (x.ia, x.ia + x.len - 1)))
  (s.modCtx c (fun x => { x with ckpt := { dirty := x.ckpt.dirty.filter (fun g => !coversGranule tbl r g), map := all.map (·.1), cut := some n } })).post
    (.ckptGranuleCopy c)

/-- `ckcut d, [a]` (R212): a release under sc2, which waits for the drains of its lanes' quarters and for held write-backs (R295,
R322, R401), then the cut instant. -/
def execCkcut (sw : Bool) (d a : Fld) (s : State) : Host.Outcome State Fault Refusal :=
  match s.prepare false (da 1 2 d a) with
  | .halt s => .next s
  | .go lanes vals s1 =>
    let c := s.issue.ctx
    let v := s.issue.vc
    let va := (w64 (arg ((vals.headD (0, [])).2) 0)).toNat
    match s1.fetchRecord s lanes va 64 with
    | .stop t => .next t
    | .ok bs s2 =>
      let r : BitVec 512 := BitVec.ofNat 512 (natOfBytes bs)
      let reply (t : State) (w : Word) : Host.Outcome State Fault Refusal :=
        .next ((t.deliver true lanes ⟨.dst, d, 1⟩ (lanes.map (fun l => (l, [w], 0#5)))).finish sw lanes)
      if cutRefused (s2.ctx c).trans.ranges r then
        .next (s2.takeTrap s.issKey lanes s.issue.pos { code := .recordFormat, info := va })
      else if !(s2.ctx c).set.ckperm then reply s2 0xFFFFFFFC#32
      else if (s2.activeCut c).isSome then reply s2 0xFFFFFFFE#32
      else if cutTargetBad (s2.ctx c).trans.ranges r then reply s2 0xFFFFFFFB#32
      else match leastFree ((s2.ctx c).jobs.map (·.1)) Config.jobsPerContext with
        | none => .next s.stall
        | some n =>
          if lanes.any (fun l => s.draining c v s.issue.line l) then .next s.stall
          else if (s2.release c v 0xFF 1).relWaits c v 0xFF 1 then .next (s.release c v 0xFF 1).stall else
          let h := jobHandle .cut ((look (s2.ctx c).jobGens n).getD 0) n
          reply ((s2.release c v 0xFF 1).startCut c v n r) h

/-! ## Copying (R378 to R380) -/

/-- The end of a cut: its code, and for kind 1 the frame that ends the stream. -/
def State.endCut (s : State) (c n : Nat) (j : Job) (r : BitVec 512) (all : List (Nat × Nat)) : State :=
  let code := if j.code ≠ 0 then j.code else if cutKind r = 0 ∧ cutSize r < 4 * all.length then 8 else 0
  let s := if code = 0 ∧ cutKind r = 1 then
    s.sendSess (s.sessionOf c) (.ckend (s.sessionOf c) (bits (cutTarget r) 0 16) n all.length) else s
  s.jobCode c n code

/-- CKPT_GRANULE_COPY (R380): the next granule of a context's cut, as it stands, which no write has changed since the instant. What waits
for a copy tries again. -/
def execCkptGranuleCopy (ctx : Nat) (s : State) : Host.Outcome State Fault Refusal :=
  match s.activeCut ctx with
  | none => .next s
  | some (n, j) =>
    if j.retired || j.stalled then .next s else
    match j.kind with
    | .cut r all todo =>
      if cutKind r = 1 && s.sessionOf ctx == 0 then .next ((s.jobCode ctx n 7).resumeHeld ctx) else
      (match todo with
       | [] => .next ((s.endCut ctx n j r all).resumeHeld ctx)
       | (_, g) :: rest =>
         match s.granuleCells ctx g with
         | .error f => .next (s.jobError ctx n j false (.page f))
         | .ok cells =>
           if s.granuleBad ctx g then
             .next ((((s.reportBad ctx (s.granuleBadAt ctx g)).modJob ctx n (fun j => { j with
               code := 3, badAddr := s.granuleBadAt ctx g, kind := .cut r all [] })).post (.jobRetire ctx n)).resumeHeld ctx)
           else match s.copyOut ctx j n r all g cells with
             | .error f => .next (s.jobError ctx n j true (.page f))
             | .ok t => .next (((t.modJob ctx n (fun j => { j with kind := .cut r all rest })).post (.ckptGranuleCopy ctx)).resumeHeld ctx))
    | _ => .next s

/-- CKPT_COW_COPY (R380): the engine copies a granule that a write waits for, ahead of its order, and the write goes on. -/
def execCkptCowCopy (ctx granule : Nat) (s : State) : Host.Outcome State Fault Refusal :=
  .next (match s.cowStep ctx granule with
    | some t => t.resumeHeld ctx
    | none => s)

/-- CUT_MAP_READ (R378): virtual addresses of the granules of the last cut. -/
def execCutMapRead (h : Hdr) (ctx : Nat) (s : State) : Host.Outcome State Fault Refusal :=
  s.mgmt h 0x0F (fun s =>
    match s.ctx? ctx with
    | none => noObject s
    | some x => (mgDone, x.ckpt.map, s))

end Sys2Proof.Machine
end

