-- ==== Sys2Proof/Machine/Matrix.lean ====
section
/-!
DEFINITION. Majors 0x30 to 0x34: operand reservations (R172, R173), plane stores and loads (R174, R175), `mma` (R176 to
R179), accumulator tiles (R181, R182), `drain` (R183 to R185), and the events of the quarter engines and drain
sequencers (R324, R327, R329).
-/
namespace Sys2Proof.Machine

/-! ## Quarters -/

/-- The active lanes by quarter (R18, R169). -/
def quartersOf (lanes : List Nat) : List (Nat × List Nat) :=
  (List.range 4).filterMap (fun q =>
    let ls := lanes.filter (fun l => l / 8 == q)
    if ls.isEmpty then none else some (q, ls))

/-- A matrix trap (R169): cause, and the number of the reservation or tile. -/
def matrixTrap (cause info : Nat) : Trap := { code := .matrix, cause := cause, info := info }

/-- The reservation that a lane may use under a number: defined, and owned by the lane's current group (cause 0x1). Where the
active lanes of a quarter are in several groups, the lane is the lowest of them (DESIGN CHOICE, notes/assumptions/93.md). -/
def State.ownOpr (s : State) (l n : Nat) : Option (BitVec 256) :=
  match look s.issCore.oprs n with
  | some o => if o.group = (s.lane l).group ∧ o.group ≠ noGroup then some o.recd else none
  | none => none

/-- The value of an operand in a lane. -/
def laneArg (vals : List (Nat × List (List Word))) (l n : Nat) : List Word := arg ((look vals l).getD []) n

/-! ## Reservations -/

/-- `opr.def` for one quarter (R172): the record is read and judged, a number already defined with its place (R169). -/
def State.defineOpr (s : State) (ls : List Nat) (a n : Nat) : Except Trap State :=
  let l := ls.headD 0
  let c := s.issue.ctx
  let v := s.issue.vc
  if (s.lane l).group = noGroup then .error (matrixTrap 1 n)
  else if a % 32 ≠ 0 then .error (matrixTrap 2 n)
  else if !s.chipOk c v .c a 32 then .error { code := .onChipBounds, cause := Lvl.lev .c, info := a } else
  match s.badAt (s.chipAt c v .c a) 32 with
  | some k => .error (s.chipCheck (s.chipAt c v .c (a + k)) (a + k))
  | none =>
  let s := s.noteReads (s.chipAt c v .c a) 32
  let r := BitVec.ofNat 256 (natOfBytes (s.chipRead c v .c a 32))
  let others := s.issCore.oprs.map (fun o => o.2.recd)
  if rsInvalid r then .error (matrixTrap 2 n)
  else if (look s.issCore.oprs n).isSome || rsMisplaced others r then .error (matrixTrap 3 n)
  else .ok (s.modIssCore (fun x => { x with oprs := put x.oprs n { recd := r, group := (s.lane l).group, owner := s.groupKey c ⟨v, s.issue.line, l⟩ } }))

/-- A lane still holds accesses: an instruction of a quarter that reads the scratchpad waits until they are performed, since it
reads every byte as each earlier store of its threads left it (R150, R175). -/
def State.holding (s : State) (lanes : List Nat) : Bool := lanes.any (fun l => !(s.lane l).held.isEmpty)

/-- Quarter after quarter, in ascending order: the lanes that trap, and the state. The manual names no order among the
quarters of one instruction (DESIGN CHOICE, notes/assumptions/93.md). -/
def eachQuarter (f : State → Nat → List Nat → Except Trap State) (s : State) (lanes : List Nat) : List (Nat × Trap) × State :=
  (quartersOf lanes).foldl (fun acc q =>
    match f acc.2 q.1 q.2 with
    | .ok s => (acc.1, s)
    | .error t => (acc.1 ++ q.2.map (fun l => (l, t)), acc.2)) ([], s)

/-- The lanes that trapped stop, the others go on. -/
def State.finishRest (s : State) (sw : Bool) (lanes : List Nat) (ts : List (Nat × Trap)) : State :=
  (s.trapIssue ts).finish sw (lanes.filter (fun l => !ts.any (·.1 == l)))

/-- `opr.def a, oprN` (R172). -/
def execOprDef (sw : Bool) (a : Fld) (n : BitVec 4) (s : State) : Host.Outcome State Fault Refusal :=
  match s.prepare false [⟨.src, a, 1⟩] with
  | .halt s => .next s
  | .go lanes vals s1 =>
    let ad (l : Nat) : Nat := (w32 (laneArg vals l 0)).toNat
    if s1.holding lanes || (quartersOf lanes).any (fun q => s1.boardWaits s.issue.ctx s.issue.vc .c [(ad (q.2.headD 0), ad (q.2.headD 0) + 31)] false) then .next s.stall else
    let r := eachQuarter (fun s _ ls => s.defineOpr ls (ad (ls.headD 0)) n.toNat) s1 lanes
    .next (r.2.finishRest sw lanes r.1)

/-- Passes queued on the issuing core name a reservation. -/
def State.oprQueued (s : State) (n : Nat) : Bool := s.issCore.engines.any (fun e => e.2.any (fun p => p.names n))

/-- `opr.rel oprN` (R173): quarter after quarter, once no queued pass names it. -/
def execOprRel (sw : Bool) (n : BitVec 4) (s : State) : Host.Outcome State Fault Refusal :=
  if s.oprQueued n.toNat then .next s.stall else
  let r := eachQuarter (fun s _ ls =>
    match look s.issCore.oprs n.toNat with
    | none => .ok s
    | some o =>
      if o.group = (s.lane (ls.headD 0)).group then .ok (s.modIssCore (fun x => { x with oprs := del x.oprs n.toNat }))
      else .error (matrixTrap 1 n.toNat)) s s.issue.lanes
  .next (r.2.finishRest sw s.issue.lanes r.1)

/-- `opr.qry d, oprN` (R173). -/
def execOprQry (sw : Bool) (d : Fld) (n : BitVec 4) (s : State) : Host.Outcome State Fault Refusal :=
  match s.prepare false [⟨.dst, d, 1⟩] with
  | .halt s => .next s
  | .go lanes _ s =>
    let w := match look s.issCore.oprs n.toNat with
      | some o => o.recd.extractLsb' 0 32
      | none => 0xFFFFFFFF#32
    .next ((s.deliver false lanes ⟨.dst, d, 1⟩ (lanes.map (fun l => (l, [w], 0#5)))).finish sw lanes)

/-! ## Plane stores and loads (R174, R175) -/

/-- d holds a pair: the reservation's elements are f64. -/
def State.oprWide (s : State) (n : Nat) : Bool :=
  match look s.issCore.oprs n with
  | some o => rsEfmt o.recd == 0
  | none => false

/-- d cannot hold an element: an odd v or g register where a pair is needed (cause 0x5). -/
def oddPair (d : Fld) : Bool :=
  match regName d with
  | .v i => i % 2 == 1
  | .g k => k % 2 == 1
  | _ => false

/-- What a lane of `stp` or `ldp` names: the record, row and local k position; or its trap. -/
def State.oprElem (s : State) (n : Nat) (scale : Bool) (d : Fld) (l x : Nat) : Except Trap (BitVec 256 × Nat × Nat) :=
  match s.ownOpr l n with
  | none => .error (matrixTrap 1 n)
  | some r =>
    if scale then
      (if rsBlk r = 0 ∨ rsScales r ≤ x then .error (matrixTrap 4 n)
       else .ok (r, x / (rsC r / rsL r), x % (rsC r / rsL r) * rsL r))
    else if rsR r * rsC r ≤ x then .error (matrixTrap 4 n)
    else if rsEfmt r = 0 ∧ oddPair d then .error (matrixTrap 5 n)
    else .ok (r, x / rsC r, x % rsC r)

/-- Where the register-width of d is odd for a pair, its lanes trap before the operands are read: d is then read as one
register. -/
def State.oprWidth (s : State) (n : Nat) (d : Fld) : Nat := if s.oprWide n && !oddPair d then 2 else 1

/-- What the lanes of `stp` or `ldp` name, and the traps of the others. -/
def State.oprElems (s : State) (n : Nat) (scale : Bool) (d : Fld) (lanes : List Nat) (vals : List (Nat × List (List Word))) :
    List (Nat × Trap) × List (Nat × BitVec 256 × Nat × Nat) :=
  let judged := lanes.map (fun l => (l, s.oprElem n scale d l (w32 (laneArg vals l 0)).toNat))
  (judged.filterMap (fun e => match e.2 with
      | .error t => some (e.1, t)
      | .ok _ => none),
    judged.filterMap (fun e => match e.2 with
      | .error _ => none
      | .ok x => some (e.1, x)))

/-- `stp` and `stp.sc`: stores of the scratchpad, which wait for queued passes that have still to read the reservation and are
held behind a fault as other stores are (R150, R175). -/
def State.execPlaneStore (s : State) (sw scale : Bool) (d a : Fld) (n : BitVec 4) : Host.Outcome State Fault Refusal :=
  let nw := if scale then 1 else s.oprWidth n.toNat d
  match s.prepare false [⟨.src, a, 1⟩, ⟨.src, d, nw⟩] with
  | .halt s => .next s
  | .go lanes vals s1 =>
    let e := s1.oprElems n.toNat scale d lanes vals
    .next ((s1.trapIssue e.1).memIssue s sw none (e.2.map (fun x =>
      (x.1, .stp n.toNat x.2.1 scale x.2.2.1 x.2.2.2 (natOfWords (laneArg vals x.1 1))))))

/-- `stp d, a, oprN` (R174). -/
def execStp (sw : Bool) (d a : Fld) (n : BitVec 4) (s : State) : Host.Outcome State Fault Refusal := s.execPlaneStore sw false d a n
/-- `stp.sc d, a, oprN` (R174). -/
def execStpSc (sw : Bool) (d a : Fld) (n : BitVec 4) (s : State) : Host.Outcome State Fault Refusal := s.execPlaneStore sw true d a n

/-- `ldp` and `ldp.sc`: loads of the scratchpad, long-latency. -/
def State.execPlaneLoad (s : State) (sw scale : Bool) (d a : Fld) (n : BitVec 4) : Host.Outcome State Fault Refusal :=
  let nw := if scale then 1 else s.oprWidth n.toNat d
  match s.prepare false [⟨.src, a, 1⟩, ⟨.dst, d, nw⟩] with
  | .halt s => .next s
  | .go lanes vals s1 =>
    let e := s1.oprElems n.toNat scale d lanes vals
    .next ((s1.trapIssue e.1).memIssue s sw (some ⟨.dst, d, nw⟩) (e.2.map (fun x =>
      (x.1, .ldp n.toNat x.2.1 scale x.2.2.1 x.2.2.2 nw noReply))))

/-- `ldp d, a, oprN` (R174). -/
def execLdp (sw : Bool) (d a : Fld) (n : BitVec 4) (s : State) : Host.Outcome State Fault Refusal := s.execPlaneLoad sw false d a n
/-- `ldp.sc d, a, oprN` (R174). -/
def execLdpSc (sw : Bool) (d a : Fld) (n : BitVec 4) (s : State) : Host.Outcome State Fault Refusal := s.execPlaneLoad sw true d a n

/-! ## Tile rows in backing pages (R328) -/

/-- What a tile store comes to for an instruction: rows for it, a wait for passes that use the others, or a backing page that
faults, the place of it, and whether it was to be written. -/
inductive Room where
  | ok (s : State)
  | wait
  | fault (f : PFault) (va : Nat) (wr : Bool)

/-- The store of quarter q has `need` rows for a tile beside those that the passes queued on others need, once the rows of tiles
used least recently have gone to backing pages, a whole tile at a time (notes/assumptions/110.md). -/
def State.makeRoom (s : State) (c v q line key need : Nat) : Nat → Room
  | 0 => .wait
  | fuel + 1 =>
    let others := (s.tilesIn c v q).filter (fun t => !(t.1 == line && t.2.1 == key))
    if (others.map (fun t => t.2.2)).sum + need ≤ 32 then .ok s else
    let idle := others.filter (fun t => !(s.queue c v q).any (fun p => p.line == t.1 && p.tile == t.2.1 % 16))
    match (s.core c v).tileUsed.find? (fun u => idle.any (fun t => (t.1, t.2.1) == u)) with
    | none => .wait
    | some u =>
      let place := s.tilePlace c v u.1 u.2
      match s.areaFault c (s.line c v u.1).launch place true with
      | some f => .fault f place true
      | none =>
        let s := (s.modLine c v u.1 (fun x => { x with tileAway := put x.tileAway u.2 place })).markArea c (s.line c v u.1).launch place true
        State.makeRoom s c v q line key need fuel

/-- A tile's rows are read back, and it has room for the rows that the instruction needs. -/
def State.tileRoom (s : State) (q n more : Nat) : Room :=
  let c := s.issue.ctx
  let v := s.issue.vc
  let line := s.issue.line
  let key := tileKey q n
  match (look s.issLine.tileAway key).bind (fun place => (s.areaFault c s.issLine.launch place false).map (fun f => (f, place))) with
  | some (f, place) => .fault f place false
  | none =>
    let s := match look s.issLine.tileAway key with
      | none => s
      | some place => (s.modIssLine (fun x => { x with tileAway := del x.tileAway key })).markArea c s.issLine.launch place false
    s.makeRoom c v q line key (max (s.rowsAfter c v line q n) ((s.shapeAfter c v line q n).rows + more)) 64

/-- Quarter after quarter: the state, the lanes that go on, and those whose backing page faults; none while a store has no row
to give (R328). -/
def State.tileRooms (s : State) (lanes : List Nat) (n more : Nat) : Option (State × List Nat × List (Nat × PFault × Nat × Bool)) :=
  (quartersOf lanes).foldlM (fun acc q => match acc.1.tileRoom q.1 n more with
    | .ok t => some (t, acc.2.1 ++ q.2, acc.2.2)
    | .wait => none
    | .fault f va wr => some (acc.1, acc.2.1, acc.2.2 ++ q.2.map (fun l => (l, f, va, wr)))) (s, [], [])

/-- The quarters whose backing pages fault park, the others' lanes go on. -/
def State.parkTiles (s : State) (lanes : List Nat) (n more : Nat) : Option (State × List Nat) :=
  (s.tileRooms lanes n more).map (fun r =>
    (if r.2.2.isEmpty then r.1 else (r.1.noteBacking r.2.2).parkRetry (r.2.2.map (·.1)), r.2.1))

/-! ## `mma` -/

/-- The checks of one quarter's `mma`, lowest-numbered cause first (R169). -/
def State.mmaCheck (s : State) (q : Nat) (ls : List Nat) (d x y : BitVec 4) (fn : Nat) (w : Word) : Except Trap (BitVec 256 × BitVec 256) :=
  let l := ls.headD 0
  let a := x.toNat
  let b := y.toNat
  match s.ownOpr l a, s.ownOpr l b with
  | none, _ => .error (matrixTrap 1 a)
  | _, none => .error (matrixTrap 1 b)
  | some ra, some rb =>
    let cls := mmaClass ra rb
    let K := rsKext ra + 1
    let t := s.shapeAfter s.issue.ctx s.issue.vc s.issue.line q d.toNat
    if rsTiles ra < cwAt w + q ∨ rsChunks ra < cwAc w then .error (matrixTrap 4 a)
    else if rsChunks rb < cwBc w ∨ rsTiles rb < cwBt w then .error (matrixTrap 4 b)
    else if cls = 0 ∨ rsLayout ra ∨ !rsLayout rb ∨ rsKext ra ≠ rsKext rb ∨ (fn ≠ 0 ∧ cls = 3) then .error (matrixTrap 5 a)
    else if K ≤ 64 * cwKc w then .error (matrixTrap 6 a)
    else if t.cls ≠ 0 ∧ (t.cls ≠ cls ∨ t.k ≠ K) then .error (matrixTrap 7 d.toNat)
    else if t.covered (cwKc w) then .error (matrixTrap 8 d.toNat)
    else if 16 < (t.addChunk cls K (cwKc w) [] 0#5).entries.length then .error (matrixTrap 9 d.toNat)
    else .ok (ra, rb)

def Pass.waits : Pass → Bool
  | .mma _ _ _ _ _ _ _ _ win _ _ _ => win
  | _ => false
def Pass.fuse : Pass → Option Nat
  | .mma _ _ _ _ _ _ _ _ _ g _ _ => some g
  | _ => none
def Pass.close : Pass → Pass
  | .mma l t a b ra rb w fn _ g ls p => .mma l t a b ra rb w fn false g ls p
  | p => p

/-- The quarters that have joined in a fused pass and not yet started it. -/
def State.joined (s : State) (c v g : Nat) : List Nat := (List.range 4).filter (fun r => (s.queue c v r).any (fun x => x.fuse == some g))
/-- A fused pass stops waiting for quarters. -/
def State.closeWindow (s : State) (c v g : Nat) : State :=
  (s.joined c v g).foldl (fun s q => s.setQueue c v q ((s.queue c v q).map (fun r => if r.fuse = some g then r.close else r))) s

/-- The passes of a gang's quarters enter their engines' queues as one fused pass, which waits for the gang's other quarters until all
four have joined or its window closes: they name one B reservation, chunk word and precision (R179, R327). -/
def State.enqueueMmas (s : State) (c v : Nat) (ps : List (Nat × (Nat → Pass))) : State :=
  if ps.isEmpty then s else
  let g := s.aux.serial
  let s := (ps.foldl (fun s p => (s.setQueue c v p.1 (s.queue c v p.1 ++ [p.2 g])).post (.mmaPassStart c v p.1)) s).bump
  if ps.length = 4 then s.closeWindow c v g else s.post (.fusionWindowExpiry c v g)

/-- The residue-checked operations of a quarter's FP64 pass (R177, R389): each cell's products, the adds of its chunk's tree, and
those by which its node enters the stack. -/
def State.mmaChecks (s : State) (q n : Nat) (ra : BitVec 256) (w : Word) : Nat :=
  let K := rsKext ra + 1
  let live := ((List.range 64).filter (fun kk => decide (64 * cwKc w + kk < K))).length
  let t := s.shapeAfter s.issue.ctx s.issue.vc s.issue.line q n
  128 * (live + (live - 1) + (t.entries.length + 1 - (t.addChunk 2 K (cwKc w) [] 0#5).entries.length))

/-- `mma.pP accD, oprA, gK, oprB` (R176 to R179). -/
def execMma (sw : Bool) (t : BitVec 4) (g : BitVec 3) (x y p : BitVec 4) (s : State) : Host.Outcome State Fault Refusal :=
  match s.prepare false [⟨.src, BitVec.ofNat 7 (104 + g.toNat), 1⟩] with
  | .halt s => .next s
  | .go lanes vals s0 =>
    let c := s.issue.ctx
    let v := s.issue.vc
    let w := w32 (laneArg vals (lanes.headD 0) 0)
    if s0.holding lanes then .next s.stall else
    match s0.parkTiles lanes t.toNat 1 with
    | none => .next s.stall
    | some pk =>
    let s1 := pk.1
    let judged := (quartersOf pk.2).map (fun q => (q, s1.mmaCheck q.1 q.2 t x y p.toNat w))
    let traps := judged.flatMap (fun e => match e.2 with
      | .error tr => e.1.2.map (fun l => (l, tr))
      | .ok _ => [])
    let good := judged.filterMap (fun e => match e.2 with
      | .error _ => none
      | .ok r => some (e.1, r))
    if good.any (fun e => decide (Config.passQueue ≤ (s1.queue c v e.1.1).length) ||
        s1.boardWaits c v .c ((mmaReads (s1.core c v).scratch e.2.1 e.2.2 w p.toNat e.1.1).map (fun a => (a, a))) false) then .next s.stall else
    let fp := good.filter (fun e => mmaClass e.2.1 e.2.2 == 2)
    let chk := s1.residueCheck c (dieOf s.issPhys) 1 (fp.flatMap (fun e => List.replicate (s1.mmaChecks e.1.1 t.toNat e.2.1 w) e.1.1))
    let bad := good.filter (fun e => chk.1.contains e.1.1)
    let run := good.filter (fun e => !chk.1.contains e.1.1)
    let s2 := chk.2.enqueueMmas c v (run.map (fun e => (e.1.1, fun g =>
      .mma s.issue.line t.toNat x.toNat y.toNat e.2.1 e.2.2 w p.toNat true g e.1.2 s.issue.pos)))
    .next (s2.finishRest sw pk.2 (traps ++ bad.flatMap (fun e => e.1.2.map (fun l => (l, ({ code := .arithCheck } : Trap))))))

/-- A drain's lanes would hold its writes behind their accesses, and the core holds as many as it can (R150). -/
def State.drainFull (s : State) (c v : Nat) (p : Pass) : Bool :=
  match p with
  | .drain l _ _ _ lanes _ _ _ => !(s.thread ⟨c, v, l, lanes.headD 0⟩).held.isEmpty && !s.heldRoom c v lanes.length
  | _ => false

/-- MMA_PASS_START (R324, R327): the engine's first pass starts, a fused one once it is the first of every engine that joined it;
a pass that may still fuse waits. -/
def execMmaPassStart (ctx vc q : Nat) (s : State) : Host.Outcome State Fault Refusal :=
  let again := s.post (.mmaPassStart ctx vc q)
  if !s.coreHere ctx vc then .next (if (s.queue ctx vc q).isEmpty then s else again) else
  match s.queue ctx vc q with
  | [] => .next s
  | p :: _ =>
    match p.fuse with
    | none => .next (if s.drainFull ctx vc p then again else s.startPass ctx vc q)
    | some g =>
      if p.waits || (s.joined ctx vc g).any (fun r => ((s.queue ctx vc r).head?.bind Pass.fuse) != some g) then .next again
      else .next ((s.joined ctx vc g).foldl (fun s r => s.startPass ctx vc r) s)

/-- FUSION_WINDOW_EXPIRY (R327): the window of a fused pass closes. -/
def execFusionWindowExpiry (ctx vc window : Nat) (s : State) : Host.Outcome State Fault Refusal := .next (s.closeWindow ctx vc window)

/-! ## Accumulator tiles -/

/-- A pass of every quarter enters its queue; the gang stalls while one is full. -/
def State.enqueueAll (s : State) (passes : List (Nat × Pass)) : Option State :=
  let c := s.issue.ctx
  let v := s.issue.vc
  if passes.any (fun e => Config.passQueue ≤ (s.queue c v e.1).length) then none else
  some (passes.foldl (fun s e => (s.setQueue c v e.1 (s.queue c v e.1 ++ [e.2])).post (.mmaPassStart c v e.1)) s)

/-- `acc.clr accN` (R181). -/
def execAccClr (sw : Bool) (t : BitVec 4) (s : State) : Host.Outcome State Fault Refusal :=
  match s.parkTiles s.issue.lanes t.toNat 0 with
  | none => .next s.stall
  | some pk =>
  match pk.1.enqueueAll ((quartersOf pk.2).map (fun q => (q.1, .clear s.issue.line t.toNat))) with
  | none => .next s.stall
  | some s1 => .next (s1.finish sw pk.2)

/-- A selector of `acc.rd` is refused (cause 0x4). -/
def selBad (cls : Nat) (w : Word) : Bool :=
  bits w.toNat 14 18 != 0 || bits w.toNat 12 2 == 3 || (cls == 2 && decide (128 ≤ bits w.toNat 0 8))

/-- `acc.rd d, a, accN` (R182). -/
def execAccRd (sw : Bool) (d a : Fld) (t : BitVec 4) (s : State) : Host.Outcome State Fault Refusal :=
  match s.prepare false [⟨.src, a, 1⟩, ⟨.dst, d, 2⟩] with
  | .halt s => .next s
  | .go lanes vals s0 =>
    let c := s.issue.ctx
    let v := s.issue.vc
    match s0.parkTiles lanes t.toNat 0 with
    | none => .next s.stall
    | some pk =>
    let sel (l : Nat) : Word := w32 (laneArg vals l 0)
    let traps := pk.2.filterMap (fun l =>
      if selBad (s0.shapeAfter c v s.issue.line (l / 8) t.toNat).cls (sel l) then some (l, matrixTrap 4 t.toNat) else none)
    let good := pk.2.filter (fun l => !traps.any (·.1 == l))
    let r := (quartersOf good).foldl (fun (acc : List (Nat × Pass) × State × Bool) q =>
      let d' := acc.2.1.replyTo q.2 ⟨.dst, d, 2⟩
      let d2 := if acc.2.2 then d'.2 else { d'.2 with gs := [] }
      (acc.1 ++ [(q.1, .read s.issue.line t.toNat (q.2.map (fun l => (l, sel l))) d2 s.issue.pos)], d'.1, false)) ([], pk.1, true)
    match r.2.1.enqueueAll r.1 with
    | none => .next s.stall
    | some s1 => .next (s1.finishRest sw pk.2 traps)

/-! ## Draining (R183 to R185) -/

/-- The checks of one quarter's drain, and its pass (R183, R340). -/
def State.drainPlan (s : State) (q : Nat) (ls : List Nat) (n f L a d : Nat) : Except Trap Pass :=
  let c := s.issue.ctx
  let t := s.shapeAfter c s.issue.vc s.issue.line q n
  if !t.complete || (L != 0 && t.cls == 2) then .error (matrixTrap 10 n)
  else if a % 16 ≠ 0 then .error { code := .alignment, info := a } else
  let k := drainLengths t.cls f L
  let map (x k : Nat) : Option (List Span) := if x < 2 ^ 57 then s.mapVa c x k false true else none
  match map a k.1, if L = 0 then some [] else map d k.2 with
  | none, _ => .error { code := .range, info := a }
  | _, none => .error { code := .range, info := d }
  | some se, some sd => .ok (.drain s.issue.line n f L ls s.issue.pos se sd)

/-- A quarter's `drain` enters its engine's queue, where it is the first if nothing is before it; else its lanes wait for it
(R185, R324). -/
def State.enqueueDrain (s : State) (q : Nat) (ls : List Nat) (p : Pass) : State :=
  let c := s.issue.ctx
  let v := s.issue.vc
  let first := (s.queue c v q).isEmpty && !s.drainFull c v p
  let s := s.setQueue c v q (s.queue c v q ++ [p])
  if first then s.startPass c v q
  else ((s.post (.mmaPassStart c v q)).modLanes ls (fun t => if t.stat == .run then { t with stat := .sync s.aux.serial } else t)).bump

/-- `drain` and `drain.mxL` (R183 to R185): a quarter's drain is a pass of its engine, after those already queued; it converts
the tile, its flags join fst, and the sequencer, which has to be free, holds the writes. -/
def State.execDrains (s : State) (sw : Bool) (ops : List OpSpec) (t f : BitVec 4) (L : Nat) : Host.Outcome State Fault Refusal :=
  match s.prepare false ops with
  | .halt s => .next s
  | .go lanes vals s0 =>
    let c := s.issue.ctx
    let v := s.issue.vc
    let line := s.issue.line
    match s0.parkTiles lanes t.toNat 0 with
    | none => .next s.stall
    | some pk =>
    let qs := quartersOf pk.2
    if qs.any (fun q => decide (Config.passQueue ≤ (s0.queue c v q.1).length) || (s0.issLine.drainOf q.1).isSome ||
        (s0.queue c v q.1).any (fun p => match p with
          | .drain l .. => l == line
          | _ => false)) then .next s.stall else
    let ad (ls : List Nat) (k : Nat) : Nat := (w64 (laneArg vals (ls.headD 0) k)).toNat
    let judged := qs.map (fun q => (q, pk.1.drainPlan q.1 q.2 t.toNat f.toNat L (ad q.2 0) (ad q.2 1)))
    let traps := judged.flatMap (fun e => match e.2 with
      | .error tr => e.1.2.map (fun l => (l, tr))
      | .ok _ => [])
    let s2 := pk.1.finishRest sw pk.2 traps
    .next (judged.foldl (fun s e => match e.2 with
      | .error _ => s
      | .ok p => s.enqueueDrain e.1.1 e.1.2 p) s2)

/-- `drain.F [a], accN` (R183). -/
def execDrain (sw : Bool) (a : Fld) (t f : BitVec 4) (s : State) : Host.Outcome State Fault Refusal :=
  s.execDrains sw [⟨.src, a, 2⟩] t f 0
/-- `drain.F.mxL [d], [a], accN` (R183, R184). -/
def execDrainMx (sw : Bool) (d a : Fld) (m : BitVec 3) (t f : BitVec 4) (s : State) : Host.Outcome State Fault Refusal :=
  s.execDrains sw [⟨.src, a, 2⟩, ⟨.src, d, 2⟩] t f (4 * 2 ^ m.toNat)

/-- DRAIN_SEQ_WRITE (R185, R329): the sequencer's next write is performed, after the accesses that its lowest lane holds; a page fault
parks the quarter's lanes. The sequencer waits while the core can hold no more accesses (R150). -/
def execDrainSeqWrite (ctx vc line q : Nat) (s : State) : Host.Outcome State Fault Refusal :=
  match (s.line ctx vc line).drainOf q with
  | none => .next s
  | some d =>
    if d.held then .next s
    else if !s.coreHere ctx vc then .next (s.post (.drainSeqWrite ctx vc line q))
    else if !(s.thread ⟨ctx, vc, line, d.lanes.headD 0⟩).held.isEmpty then
      .next (if s.heldRoom ctx vc d.lanes.length then s.holdDrain ctx vc line q d none else s.post (.drainSeqWrite ctx vc line q))
    else
    match s.drainOne ctx vc line q with
    | .none => .next (s.dropDrain ctx vc line q)
    | .done t => .next (if ((t.line ctx vc line).drainOf q).isSome then t.post (.drainSeqWrite ctx vc line q) else t)
    | .wait t => .next (t.post (.drainSeqWrite ctx vc line q))
    | .page f va =>
      if !s.heldRoom ctx vc d.lanes.length then .next (s.post (.drainSeqWrite ctx vc line q)) else
      .next ((s.holdDrain ctx vc line q d (some f.ia)).post (.gatewayPageFault
        { ctx := ctx, vc := vc, line := line, die := dieOf (s.phys ctx vc), src := 0, cause := f.cause, kind := 1, vcache := f.vcn, lvl := f.lvl
          ia := f.ia, va := va, lanes := d.lanes, job := none }))

end Sys2Proof.Machine
end

