-- ==== Sys2Proof/Machine/Select.lean ====
section
/-!
DEFINITION. The choice of the next action (R239 to R242, notes/assumptions/2.md) and the placing of a single word
where the next step fetches it.
-/
namespace Sys2Proof.Machine

/-- What a step does. -/
inductive Choice where
  | idle
  | event (i : Instr) (s : State)
  | issue (w : Word) (s : State)

def State.tick (s : State) : State := { s with aux := { s.aux with time := s.aux.time + 1 } }

/-- A gang that could issue now, with its core. -/
structure Cand where
  key : CoreKey
  gang : GangNow

/-- The count of a line among those taken at a match. -/
def countAt (l : List (Nat × Nat × Nat)) (v line : Nat) : Nat :=
  ((l.find? (fun x => x.1 == v && x.2.1 == line)).map (fun x => x.2.2)).getD 0

/-- Instructions that a line of a core has issued. -/
def State.issuedBy (s : State) (c v line : Nat) : Nat := (look (s.core c v).issued line).getD 0

/-- A line that has issued 8 instructions since an access matched a watchpoint waits for the stop (R382). -/
def State.skidFull (s : State) (c v line : Nat) : Bool :=
  s.agenda.any (fun i => match i with
    | .watchpointHit h => h.ctx == c && h.sq == squareOf (s.phys c v) && decide (countAt h.counts v line + 8 ≤ s.issuedBy c v line)
    | _ => false)

/-- A `brk` of some of its lanes has not stopped the square yet (R386). -/
def State.brkHeld (s : State) (k : CoreKey) (g : GangNow) : Bool :=
  s.agenda.any (fun i => match i with
    | .watchpointHit h => h.kind == .brk && h.ctx == k.ctx && h.vc == k.vc && h.line == g.line && h.lanes.any (fun l => g.lanes.contains l)
    | _ => false)
/-- Does a gang's head word go to issue slot B (R240)? -/
def State.gangSlotB (s : State) (k : CoreKey) (g : GangNow) : Bool :=
  match s.kernelOf (s.thread ⟨k.ctx, k.vc, g.line, g.lanes.headD 0⟩) with
  | some x => x.slotB g.pos g.opened
  | none => false
/-- The gang that issued least recently. -/
def leastRecent : List GangNow → Option GangNow
  | [] => none
  | g :: gs => some (gs.foldl (fun b x => if x.last < b.last then x else b) g)

/-- The gangs that a core's two slots issue: for each slot the ready active gang of its class that issued least recently
(R240); while the core is stepped, of the gangs of the stepped line (R217). None issues without credit for its replies: those of one issue, and
the entries that it reserves in queues of its own core, are at most 128 (R350). Lanes that issued `brk` wait for its stop (R386). -/
def State.coreCands (s : State) (k : CoreKey) : List Cand :=
  if !s.coreIssues k.ctx k.vc || decide (Config.catchBuffer < s.flitsDue k.ctx k.vc + 128) then [] else
  let rs := (s.core k.ctx k.vc).gangs
  let ready := (s.coreGangs k.ctx k.vc).filter (fun g => g.ready && !s.brkHeld k g && (match (s.core k.ctx k.vc).step with
    | some st => g.line == st.line
    | none => !s.skidFull k.ctx k.vc g.line && rs.any (fun r => r.active && r.line == g.line && r.slices == g.slices)))
  ([leastRecent (ready.filter (fun g => !s.gangSlotB k g)), leastRecent (ready.filter (s.gangSlotB k))].filterMap id).map (fun g => ⟨k, g⟩)

/-- Cores that hold threads. -/
def State.busyCores (s : State) : List CoreKey := dedup (s.threads.map (fun e => ⟨e.1.ctx, e.1.vc⟩))

/-- The candidates of all cores, the cores after the last one served first. -/
def State.cands (s : State) : List Cand :=
  let cs := s.busyCores
  let n := s.aux.lastCore % (cs.length + 1)
  ((cs.drop n) ++ (cs.take n)).flatMap s.coreCands

/-- The candidate of the first core that has one, the one that issued least recently (R240). -/
def oldest : List Cand → Option Cand
  | [] => none
  | c :: cs => some (cs.foldl (fun b x => if x.key = b.key ∧ x.gang.last < b.gang.last then x else b) c)

/-- A gang issues: the issue latch is set and its word is fetched. -/
def State.takeGang (s : State) (c : Cand) : Choice :=
  let place : Place := ⟨c.key.ctx, c.key.vc, c.gang.line, c.gang.lanes.headD 0⟩
  let t := s.thread place
  let w := match s.kernelOf t with
    | some k => k.wordAt c.gang.pos c.gang.opened
    | none => 0#32
  let info := match s.kernelOf t with
    | some k => k.infoAt c.gang.pos c.gang.opened
    | none => 0
  .issue w { s with
    issue := { ctx := c.key.ctx, vc := c.key.vc, line := c.gang.line, lanes := c.gang.lanes, pos := c.gang.pos, info := info, word := w.toNat }
    aux := { s.aux with acts := s.aux.acts + 1, lastCore := (s.busyCores.findIdx (· == c.key)) + 1 } }

/-! ## What follows at once from the state -/

/-- How a `step` of a line ends, if it does (R217): every issue made, every thread of the line exited, every live lane
parked, trapped, yielded or at `bar`, or every one at `bar` (notes/assumptions/114.md). -/
def State.stepEnd (s : State) (k : CoreKey) (st : StepSt) : Option Nat :=
  let ts := s.lineThreads k.ctx k.vc st.line
  let away (e : Nat × Thread) : Bool := !s.unparked ⟨k.ctx, k.vc, st.line, e.1⟩ e.2
  if st.left = 0 then some 0
  else if ts.isEmpty then some 3
  else if ts.all (fun e => e.2.stat == .bar) then some 1
  else if ts.all (fun e => away e || e.2.stat == .bar) then some 2
  else none

/-- Every thread of a core has exited or yielded, or waits at `bar`, at a channel, parked or trapped (R348). -/
def State.releasable (s : State) (c v : Nat) : Bool :=
  (s.core c v).run == .running && (s.phys? c v).isSome &&
    (s.coreThreads c v).all (fun e => match e.2.stat with
      | .bar | .parkedRetry _ | .trapped _ _ | .yielded => true
      | .parked _ => !s.eligible e.1 e.2
      | .run => e.2.chanWait
      | .sync _ => false)

/-- The sets of a core that may issue, brought up to date (R239, R241, R245, R246). -/
def State.syncSets (s : State) (k : CoreKey) : State :=
  if s.coreIssues k.ctx k.vc then s.modCore k.ctx k.vc (fun x => { x with gangs := s.gangSets k.ctx k.vc (s.coreGangs k.ctx k.vc) }) else s

/-- The issue queue of a line is read: where it holds an error that cannot be corrected, the lanes that run take the machine check, each
at its position (R393). -/
def State.loseQueue (s : State) (c v l : Nat) : State :=
  let r := s.readStore (.issue c v l)
  if !r.1 then r.2 else
  let run := (s.lineThreads c v l).filter (fun e => s.eligible ⟨c, v, l, e.1⟩ e.2)
  (dedup (run.map (fun e => e.2.pos))).foldl (fun s p =>
    s.takeTrap ⟨c, v, l⟩ (sortNat ((run.filter (fun e => e.2.pos == p)).map (·.1))) p (s.storeCheck c v)) r.2

/-- What follows at once from the state before an action is chosen: steps end (R217); the cores of a context with a request
raised are released once they can be (R348); trees of `ctbm` leaves stand at the homes of their words (R261); an issue queue that
cannot be read stops the lanes that would issue from it (R393); and the sets of the cores' gangs are those of this moment (R241). -/
def State.settle (s : State) : State :=
  let s := s.cores.foldl (fun s e => match (s.core e.1.ctx e.1.vc).step with
    | some st => match s.stepEnd e.1 st with
      | some code => s.endStep e.1.ctx e.1.vc code
      | none => s
    | none => s) s
  let s := s.ctxs.foldl (fun s e => if !e.2.set.preq then s else e.2.place.foldl (fun s p =>
    if s.releasable e.1 p.1 && !s.agenda.contains (.coreRelease e.1 p.1) then s.post (.coreRelease e.1 p.1) else s) s) s
  let s := s.ctxs.foldl (fun s e => s.rehome e.1) s
  let s := s.badStores.foldl (fun s e => match e.1 with
    | .issue c v l => if s.coreIssues c v then s.loseQueue c v l else s
    | _ => s) s
  s.busyCores.foldl State.syncSets s

/-- The port, virtual channel and class by which an action came from another device (R364). -/
def portOf : Instr → Option (Nat × Nat × Nat)
  | .partialArrive (.port q) p => some (q, vcPartial, p.cls)
  | .collectiveRootReturn _ _ _ m _ => m.port.map (fun q => (q, match m.body with
      | .issued _ => vcRequest
      | _ => vcReply, m.cls))
  | _ => none
/-- An action that comes before another: a message of its port and virtual channel that came earlier (R364), or a watchpoint hit on the
square of the core to which a result returns, which its stop holds back (R382, R385). -/
def State.first (s : State) (a b : Instr) : Bool :=
  ((portOf b).isSome && portOf a == portOf b) || (match a, b with
    | .watchpointHit h, .longLatencyReturn r => h.ctx == r.ctx && h.sq == squareOf (s.phys r.ctx r.vc)
    | _, _ => false)
/-- The n-th action of the agenda is taken off it, or the earliest that comes before it. -/
def State.takeEvent (s : State) (n : Nat) : Choice :=
  let n := match s.agenda[n]? with
    | some b => ((s.agenda.take n).findIdx? (fun a => s.first a b)).getD n
    | none => n
  match s.agenda[n]? with
  | some i => .event i { s with agenda := removeNth s.agenda n, issue := {}, aux := { s.aux with acts := s.aux.acts + 1 } }
  | none => .idle

/-- A core whose longest-waiting pending gang is due for promotion (R242). -/
def State.promotionDue (s : State) : Option CoreKey :=
  s.busyCores.find? (fun k => s.coreIssues k.ctx k.vc &&
    (s.duePromotion (dieOf (s.phys k.ctx k.vc)) (s.coreGangs k.ctx k.vc) (s.core k.ctx k.vc).gangs).isSome)

/-- The choice without the oracle: on odd steps the oldest action of the agenda, else the next gang. -/
def State.chooseDefault (s : State) : Choice :=
  if s.aux.time % 2 = 1 && !s.agenda.isEmpty then s.takeEvent 0 else
  match oldest s.cands with
  | some c => s.takeGang c
  | none => s.takeEvent 0

/-- A cold register that the hardware moves to backing store (R26): the number names one of the threads, one of its 512
registers and a place in its area. -/
def State.spillNth (s : State) (n : Nat) : State :=
  match s.threads[n % s.threads.length]? with
  | none => s
  | some e =>
    let k := n / s.threads.length
    s.spillReg e.1 (k % 512) (4 * (k / 512))

/-- A stop that a deadline of 0 asks for at once (R347): its place on the agenda. -/
def State.stopDue (s : State) : Option Nat :=
  let now (c : Nat) : Bool := (s.ctx c).set.preq && (s.ctx c).set.dline == 0
  s.agenda.findIdx? (fun i => match i with
    | .preemptDeadline c => now c
    | .forcedStop c _ k => k != .scan && now c
    | _ => false)

/-- The next action. A stop under a deadline of 0 comes first (R347), then a promotion that is due (R242). The oracle names an action of the agenda, or past its end a
gang that could issue, or past that a register to spill. A device without power has no context, and takes no frame (R397,
R399). -/
def State.choose (s0 : State) : Choice :=
  let s := s0.tick.settle
  match s.stopDue, s.promotionDue with
  | some n, _ => s.takeEvent n
  | none, some k => .event (.gangPromotion k.ctx k.vc) { s with issue := {} }
  | none, none =>
    match s.aux.oracle with
    | [] => s.chooseDefault
    | c :: cs =>
      let s := { s with aux := { s.aux with oracle := cs } }
      if c < s.agenda.length then s.takeEvent c else
      match s.cands[c - s.agenda.length]? with
      | some g => s.takeGang g
      | none => (s.spillNth (c - s.agenda.length - s.cands.length)).chooseDefault

/-! ## Placing one word -/

/-- A launch record of one thread of kernel 1 (R224). -/
def oneThreadRecord : BitVec 2048 := BitVec.ofNat 2048 (2 ^ 640 + 2 ^ 32)

/-- The device with one privileged context on core 0, one kernel whose first word is w, and one thread standing at it. -/
def State.placeWord (s : State) (w : Word) : State :=
  { s with
    aux := { s.aux with oracle := [], lastCore := 0 }
    agenda := []
    ctxs := [(0, { n := 1, quota := 0, set := { priv := true, ckperm := true }, place := [(0, 0)] })]
    kernels := [(1, { ctx := 0, code := [w, 0x7A000003#32], dict := List.replicate 1024 0x7C000002#32, blocks := [(0, 0), (1, 0)]
                      roles := [(0, 512)], data := [], priv := true })]
    launches := [(0, { queue := 0, seq := 1, ctx := 0, recd := oneThreadRecord, state := .started, live := 1, placed := true, cores := [0] })]
    cores := [(⟨0, 0⟩, { clkFrom := some 0 })]
    lines := [(⟨0, 0, 0⟩, { slices := 1 })]
    threads := [(⟨0, 0, 0, 0⟩, {})]
    hub := { s.hub with power := .up } }

end Sys2Proof.Machine
end

