-- ==== Sys2Proof/Machine/VCache.lean ====
section
/-!
DEFINITION. Virtual caches: bank shares (R275, R276), definition records (R277, R278), changes and their commit (R282 to
R284, R287), `vcdef` and `vcqry` (R210, R211).
-/
namespace Sys2Proof.Machine

/-! ## Records (R277) -/

def vcF (r : BitVec 512) (lo n : Nat) : Nat := bits r.toNat lo n
def vcSmask (r : BitVec 512) : Nat := vcF r 0 40
def vcShares (r : BitVec 512) : Nat := vcF r 64 8
def vcCtr (r : BitVec 512) : Nat := vcF r 98 4
def vcStrict (r : BitVec 512) : Bool := bit r.toNat 102
def vcFollow (r : BitVec 512) : Bool := bit r.toNat 103
/-- Bits [87:84] and [103]: what a record may change without moving lines. -/
def vcPolicy (r : BitVec 512) : BitVec 512 := r &&& BitVec.ofNat 512 (15 * 2 ^ 84 + 2 ^ 103)

/-- The record is refused (R278), but for its address. -/
def State.vcRefused (s : State) (r : BitVec 512) (st : VState) : Bool :=
  [(104, 408), (88, 10), (72, 8), (40, 24)].any (fun x => vcF r x.1 x.2 != 0) ||
  decide (2 ≤ vcF r 86 2) || vcF r 84 2 == 3 || vcShares r % vcG r != 0 ||
  (vcShares r != 0 && vcSmask r == 0) ||
  (List.range 40).any (fun q => (vcSmask r).testBit q && !s.squarePresent q) ||
  (List.range 4).any (fun d => (vcCtr r).testBit d && !s.diePresent d) ||
  (vcShares r == 0 && (r != 0 || st == .undefined))

/-! ## Shares (R275, R276) -/

/-- Shares are numbered 8 × (64 × die + bank) + way pair. -/
def shareId (die bank w : Nat) : Nat := 8 * (64 * die + bank) + w
/-- The L2 bank group of a bank: 16 banks each (R390). -/
def State.sharePresent (s : State) (h : Nat) : Bool :=
  let d := h / 512
  let g := h / 8 % 64 / 16
  s.diePresent d && !s.hub.ras.absentL2.contains (4 * d + g) && !s.hub.ras.retiredL2.contains (d, g)

/-- Shares that virtual caches hold. -/
def State.heldShares (s : State) : List Nat := s.ctxs.flatMap (fun c => c.2.vcs.flatMap (fun v => v.2.shares ++ v.2.oldShares))
def VCache.held (x : VCache) : Nat := x.shares.length + x.oldShares.length
def Ctx.heldShares (x : Ctx) : Nat := (x.vcs.map (fun v => v.2.held)).sum

/-- Round-robin over lists. -/
def roundRobin : Nat → List (List Nat) → List Nat
  | 0, _ => []
  | fuel + 1, ls =>
    let ls := ls.filter (fun l => !l.isEmpty)
    if ls.isEmpty then [] else ls.filterMap (·.head?) ++ roundRobin fuel (ls.map (·.drop 1))

def bankShares (die : Nat) (banks : List Nat) : List Nat := banks.flatMap (fun b => (List.range 8).map (shareId die b))

/-- The free shares of a record in the order in which they are granted (R276). Within the central banks and within the other banks, of which
the central ones of a die whose ctr bit is clear are some, the order is by die, bank and share: DESIGN CHOICE, notes/assumptions/119.md. -/
def shareOrder (free : Nat → Bool) (r : BitVec 512) : List Nat :=
  let sqs := (List.range 40).filter (fun q => (vcSmask r).testBit q)
  let near := roundRobin 48 (sqs.map (fun q => (bankShares (q / 10) ((List.range 6).map (fun i => 6 * (q % 10) + i))).filter free))
  if vcStrict r then near else
  let central := ((List.range 4).filter (fun d => (vcCtr r).testBit d)).flatMap (fun d => bankShares d [60, 61, 62, 63])
  let others := (dedup (sqs.map (· / 10))).flatMap (fun d => bankShares d (List.range 64))
  dedup (near ++ (central ++ others).filter free)

/-- Granting n shares for a record to a virtual cache that holds some: none if the quota, the limit of 255 or the free shares
cannot supply them (R211, R276). -/
def State.grantShares (s : State) (c : Nat) (r : BitVec 512) (own n : Nat) : Option (List Nat) :=
  let held := s.heldShares
  let free := shareOrder (fun h => s.sharePresent h && !held.contains h) r
  if (s.ctx c).quota < (s.ctx c).heldShares + n ∨ 255 < own + n ∨ free.length < n then none else some (free.take n)

/-! ## Changes (R282, R283) -/

/-- Lines whose position changes stand at their old position. -/
def markOld (oldR newR : BitVec 512) (oldS newS : List Nat) (ls : List L2Line) : List L2Line :=
  ls.map (fun l =>
    { l with old := l.old || linePlace oldR oldS l.pa != linePlace newR newS l.pa || vcLsz oldR != vcLsz newR })

/-- A change of virtual cache n starts: the walker visits every line that has to move, then the change commits. -/
def State.startChange (s : State) (c n : Nat) (st : VState) (r : BitVec 512) (shares oldShares : List Nat) : State :=
  let x := s.vcOf c n
  let lines := if st = .releasing then x.lines.map (fun l => { l with old := true }) else markOld x.recd r x.shares shares x.lines
  let s := s.modVc c n (fun x => { x with
    state := st, oldRec := x.recd, recd := r, shares := shares, oldShares := oldShares, lines := lines })
  let s := (lines.filter (·.old)).foldl (fun s l => s.post (.vcMoveStep c n l.line)) s
  s.post (.vcCommit c n)

/-- A migration onto a complete new set of shares; none if they cannot be granted. -/
def State.startMigration (s : State) (c n : Nat) (r : BitVec 512) : Option State :=
  (s.grantShares c r (s.vcOf c n).held (vcShares r)).map (fun new => s.startChange c n .migrating r new (s.vcOf c n).shares)

/-- Page entries of the context name virtual cache n. -/
def State.vcNamed (s : State) (c n : Nat) : Bool := (s.ctx c).trans.leaves.any (fun e => peVc e.2.2 == n)

/-- The hub's judgement of a definition record: its code, and the state after it (R278, R282). -/
def State.judgeVc (s : State) (c n : Nat) (r : BitVec 512) (aligned : Bool) : Nat × State :=
  let x := s.vcOf c n
  let busy := x.state == .resizing || x.state == .migrating || x.state == .releasing
  if !aligned then (2, s)
  else if busy then (1, s)
  else if s.vcRefused r x.state then (2, s)
  else if x.state = .undefined then
    (match s.grantShares c r 0 (vcShares r) with
     | none => (3, s)
     | some sh => (0, s.modVc c n (fun _ => { state := .stable, recd := r, shares := sh })))
  else if vcShares r = 0 then
    (if s.vcNamed c n then (4, s) else (0, s.startChange c n .releasing r [] x.shares))
  else
    let keep (y : BitVec 512) : BitVec 512 := y &&& ~~~(vcPolicy (BitVec.allOnes 512))
    let noShares (y : BitVec 512) : BitVec 512 := keep y &&& ~~~(BitVec.ofNat 512 (0xFF * 2 ^ 64))
    if keep r = keep x.recd then (0, s.modVc c n (fun x => { x with recd := r }))
    else if noShares r = noShares x.recd then
      (let h := x.shares.length
       if vcShares r ≤ h then (0, s.startChange c n .resizing r (x.shares.take (vcShares r)) (x.shares.drop (vcShares r)))
       else match s.grantShares c r h (vcShares r - h) with
         | none => (3, s)
         | some new => (0, s.startChange c n .resizing r (x.shares ++ new) []))
    else
      match s.startMigration c n r with
      | none => (3, s)
      | some t => (0, t)

def vstateCode : VState → Nat
  | .undefined => 0 | .stable => 1 | .resizing => 2 | .migrating => 3 | .releasing => 4

/-- VC_ACCEPT (R210, R276, R282): the hub accepts or refuses a record, and its status returns. -/
def execVcAccept (r : VcReq) (s : State) : Host.Outcome State Fault Refusal :=
  match s.ctx? r.ctx with
  | none => .next s
  | some _ =>
    let x := s.judgeVc r.ctx r.n r.recd r.aligned
    match r.reply with
    | none => .next x.2
    | some q =>
      let w : Word := BitVec.ofNat 32 (x.1 * 2 ^ 24 + vstateCode (x.2.vcOf r.ctx r.n).state * 2 ^ 20)
      .next (x.2.post (.longLatencyReturn (replyResult q (q.lanes.map (fun l => (l, [w], 0#5))))))

/-! ## The walker (R283, R287) -/

/-- VC_MOVE_STEP (R283): a line leaves its old position, unless a job pins it or it cannot be read; one that finds no way at its new
position is dropped, since memory holds its bytes. -/
def execVcMoveStep (ctx vcn line : Nat) (s : State) : Host.Outcome State Fault Refusal :=
  let x := s.vcOf ctx vcn
  match x.lines.find? (fun l => l.old && l.line == line) with
  | none => .next s
  | some l =>
    if s.linePinned ctx l then .next (s.post (.vcMoveStep ctx vcn line))
    else if s.lineBad l then .next (s.reportError 4 0 ctx (dramLoc l.pa) l.pa) else
    let dropped : VCache := { x with lines := x.lines.filter (fun z => z != l) }
    let y := if x.state = .releasing then dropped else (x.moveLine (s.linePinned ctx) l).getD dropped
    .next ((s.modVc ctx vcn (fun _ => y)).rehome ctx)

/-- The record of a follow migration: its squares replaced (R284). -/
def withSmask (r : BitVec 512) (m : Nat) : BitVec 512 := BitVec.ofNat 512 (r.toNat - vcSmask r + m % 2 ^ 40)

/-- A follow migration starts, or waits until its shares can be granted. -/
def State.followTo (s : State) (c n smask : Nat) : State :=
  match s.startMigration c n (withSmask (s.vcOf c n).recd smask) with
  | some t => t.modVc c n (fun y => { y with followNext := none })
  | none => s.modVc c n (fun y => { y with followNext := some smask })

/-- The hub resizes virtual caches of a context, highest id first, until the total is within the quota; one that is changing has
its turn after it commits (R284). -/
def State.cutShares (s : State) (c : Nat) : State :=
  let quota := (s.ctx c).quota
  [7, 6, 5, 4, 3, 2, 1, 0].foldl (fun s n =>
    let x := s.vcOf c n
    let g := vcG x.recd
    let h := x.shares.length
    let left := (s.ctx c).vcs.foldl (fun t v => t + (if v.2.state == .resizing && v.1 > n then v.2.shares.length else v.2.held)) 0
    if x.state ≠ .stable ∨ left ≤ quota then s else
    let h' := max g ((h - (left - quota)) / g * g)
    if h ≤ h' then s else
    let r := BitVec.ofNat 512 (x.recd.toNat - vcShares x.recd * 2 ^ 64 + h' * 2 ^ 64)
    s.startChange c n .resizing r (x.shares.take h') (x.shares.drop h')) s

/-- A share lies in an L2 bank group that is lost. -/
def State.shareLost (s : State) (h : Nat) : Bool := s.hub.ras.retiredL2.contains (h / 512, h / 8 % 64 / 16)
/-- The changes of R284 that no virtual cache could start before now: it was changing, or its shares could not be granted. -/
def State.retakeChanges (s : State) : State :=
  s.ctxs.foldl (fun s e => (e.2.vcs.foldl (fun s v =>
    let x := s.vcOf e.1 v.1
    if x.state ≠ .stable then s else
    match x.followNext with
    | some m => s.followTo e.1 v.1 m
    | none => if x.shares.any s.shareLost then (s.startMigration e.1 v.1 x.recd).getD s else s) s).cutShares e.1) s

/-- VC_COMMIT (R283): once no line stands at an old position, the shares given up are free. -/
def execVcCommit (ctx vcn : Nat) (s : State) : Host.Outcome State Fault Refusal :=
  let x := s.vcOf ctx vcn
  if x.state = .undefined ∨ x.state = .stable then .next s
  else if x.lines.any (·.old) then .next (s.post (.vcCommit ctx vcn)) else
  let t := s.modVc ctx vcn (fun y => if x.state = .releasing then {} else { y with state := .stable, oldRec := 0, oldShares := [] })
  .next (t.retakeChanges.rehome ctx)

/-! ## The instructions -/

/-- `vcdef d, [a], vcN` (R210): the record is read as a load, and goes to the hub. -/
def execVcdef (sw : Bool) (d a : Fld) (n : BitVec 3) (s : State) : Host.Outcome State Fault Refusal :=
  match s.prepare false (da 1 2 d a) with
  | .halt s => .next s
  | .go lanes vals s1 =>
    let va := (w64 (arg ((vals.headD (0, [])).2) 0)).toNat
    let submit (t : State) (recd : BitVec 512) (aligned : Bool) : State :=
      let r := t.replyTo lanes ⟨.dst, d, 1⟩
      (r.1.post (.vcAccept { ctx := s.issue.ctx, n := n.toNat, recd := recd, aligned := aligned, reply := some r.2 })).finish sw lanes
    if va % 8 ≠ 0 then .next (submit s1 0 false) else
    match s1.fetchRecord s lanes va 64 with
    | .stop t => .next t
    | .ok bs t => .next (submit t (BitVec.ofNat 512 (natOfBytes bs)) true)

/-- `vcqry d, vcN` (R211). -/
def execVcqry (sw : Bool) (d : Fld) (n : BitVec 3) (s : State) : Host.Outcome State Fault Refusal :=
  match s.prepare false [⟨.dst, d, 1⟩] with
  | .halt s => .next s
  | .go lanes _ s =>
    let x := s.vcOf s.issue.ctx n.toNat
    let w : Word := BitVec.ofNat 32 (vstateCode x.state * 2 ^ 28 + x.held * 2 ^ 8 % 2 ^ 16 + vcShares x.recd)
    .next ((s.deliver true lanes ⟨.dst, d, 1⟩ (lanes.map (fun l => (l, [w], 0#5)))).finish sw lanes)

/-! ## Quotas (R284, R376) -/

/-- QUOTA_SET (R284). -/
def execQuotaSet (h : Hdr) (ctx quota : Nat) (s : State) : Host.Outcome State Fault Refusal :=
  s.mgmt h 0x13 (fun s =>
    match s.ctx? ctx with
    | none => noObject s
    | some _ => done (s.modCtx ctx (fun x => { x with quota := quota })).retakeChanges)

end Sys2Proof.Machine
end

