-- ==== Sys2Proof/Machine/Stop.lean ====
section
/-!
DEFINITION. Taking a context off its cores and placing it again: the pre-emption deadline (R347), cooperative release
(R348), forced stop and scan images (R349 to R354), restore (R355, R356), context resume (R357) and migration (R14,
R245, R284), and answers to traps (R343).
-/
namespace Sys2Proof.Machine

/-! ## Answers to traps (R341 to R343, R400) -/

/-- The trapped lanes of a trap number. -/
def State.trappedLanes (s : State) (c tseq : Nat) : List (Place × Bool) :=
  s.threads.filterMap (fun e => if e.1.ctx ≠ c then none else match e.2.stat with
    | .trapped q m => if q = tseq then some (e.1, m) else none
    | _ => none)

/-- The threads of abandoned lanes exit, their held accesses with them, and their launches complete with code 0x08 (R229). -/
def State.abandon (s : State) (p : Place) : State :=
  let uid := (s.thread p).launch
  let s : State := match look s.launches uid with
    | none => s
    | some l => { s with launches := put s.launches uid { l with code := if l.code = 0 then 8 else l.code } }
  (s.unreserve ((s.thread p).held.flatMap (fun h => (h.req.dst.map ReplyTo.pushes).getD []))).exitThread p

/-- An answer acts on trapped lanes: 0 resume, 1 retry, 2 abandon. -/
def State.actOnTrap (s : State) (c : Nat) (ps : List Place) (action : Nat) : State :=
  if action = 2 then ps.foldl (fun s p => s.abandon p) s
  else (ps.foldl (fun s p => s.answerTrap p (action == 1)) s).wakeHeld c

/-- Management answers a trap record: on lanes whose core is away it takes effect at their restore. -/
def State.answer (c tseq action : Nat) : MgOp := fun s =>
  let ls := s.trappedLanes c tseq
  if ls.isEmpty then noObject s
  else if action ≠ 2 ∧ ls.any (·.2) then refused s
  else
    let here := (ls.filter (fun e => s.coreHere c e.1.vc)).map (·.1)
    let s := if here.length < ls.length then s.modCtx c (fun x => { x with traps := { x.traps with late := x.traps.late ++ [(tseq, action)] } }) else s
    done (s.actOnTrap c here action)

/-- TRAP_RESUME (R343). -/
def execTrapResume (h : Hdr) (ctx tseq : Nat) (s : State) : Host.Outcome State Fault Refusal := s.mgmt h 0x0B (State.answer ctx tseq 0)
/-- TRAP_RETRY (R343). -/
def execTrapRetry (h : Hdr) (ctx tseq : Nat) (s : State) : Host.Outcome State Fault Refusal := s.mgmt h 0x0B (State.answer ctx tseq 1)
/-- TRAP_ABANDON (R343). -/
def execTrapAbandon (h : Hdr) (ctx tseq : Nat) (s : State) : Host.Outcome State Fault Refusal := s.mgmt h 0x0B (State.answer ctx tseq 2)

/-! ## Leaving a core -/

/-- A physical core that can take a virtual core: present, in service, and empty. -/
def State.coreIdle (s : State) (p : Nat) : Bool :=
  s.corePresent p && !s.hub.ras.retiredCores.contains p && s.ctxs.all (fun e => e.2.place.all (fun x => x.2 != p))

/-- A job in flight names bytes of an allocation of its square's memory. -/
def State.allocBusy (s : State) (q : Nat) (a : Alloc) : Bool :=
  (s.ctx a.ctx).jobs.any (fun e => !e.2.retired && s.jobSquare a.ctx e.2 a.base == q && e.2.ivals.any (fun i =>
    i.lvl == .q && i.spans.any (fun x => decide (x.1 < a.base + a.len) && decide (a.base ≤ x.2))))

/-- The context's allocations leave a square with its last core there (R353); those that a job in flight names follow later. -/
def State.takeSlices (s : State) (c q : Nat) : State :=
  if (s.ctx c).place.any (fun e => squareOf e.2 == q) then s else
  let mine := (s.square q).allocs.filter (fun a => a.ctx == c && !s.allocBusy q a)
  let s := s.modCtx c (fun x => { x with slices := x.slices ++ mine.map (fun a => (a, memSlice (s.square q).sqm a.base a.len)) })
  let s := s.modSquare q (fun x => { x with allocs := x.allocs.filter (fun a => !mine.contains a) })
  if mine.isEmpty then s else s.wakeUnits

/-- The core's writes are performed and its dirty L1 bytes of every class go home; L1 is empty, and fill epochs start afresh
(R305, R348, R349). -/
def State.drainL1 (s : State) (c v : Nat) : State :=
  ((s.settleHalves (ofCore c v)).writeBackAll c v (fun _ => true)).modCore c v (fun x => { x with l1 := [], l1Used := [], epochs := [] })

/-- A virtual core leaves its physical core; a context without cores stands still (R42). -/
def State.unplace (s : State) (c v : Nat) (r : CoreRun) : State :=
  match s.phys? c v with
  | none => s
  | some p =>
    let clk := s.clk c v
    let s := s.modCore c v (fun x => { x with run := r, gangs := [], home := some (x.home.getD p), clkBase := clk, clkFrom := none })
    let s := s.modCtx c (fun x => { x with place := del x.place v, was := put x.was v p })
    let s := s.takeSlices c (squareOf p)
    if ((s.ctx c).place.isEmpty || !(s.ctx c).set.preq) && !s.agenda.contains (.contextResume c []) then s.post (.contextResume c []) else s

/-- PREEMPT_DEADLINE (R347, R387): every core of the context that has not been released is stopped. -/
def execPreemptDeadline (ctx : Nat) (s : State) : Host.Outcome State Fault Refusal :=
  if !(s.ctx ctx).set.preq then .next s else
  .next ((s.ctx ctx).place.foldl (fun s e => match (s.core ctx e.1).run with
    | .running => s.post (.forcedStop ctx e.1 .deadline)
    | .debugStopped _ => s.post (.forcedStop ctx e.1 .debug)
    | _ => s) s)

/-- CORE_RELEASE (R348): a core whose threads have all exited, yielded or wait is released. -/
def execCoreRelease (ctx vc : Nat) (s : State) : Host.Outcome State Fault Refusal :=
  if !(s.ctx ctx).set.preq || !s.releasable ctx vc then .next s
  else .next ((s.drainL1 ctx vc).unplace ctx vc .record)

/-! ## Scan images (R349 to R354) -/

/-- Data of a virtual core that its image would hold cannot be read: registers, scratchpad and lane-private memory, stores under
SECDED, the core pan, and, where the image takes it along, the slice of square memory (R351, R358, R393). -/
def State.coreBad (s : State) (c v : Nat) (slice : Bool) : Bool :=
  let p := s.phys c v
  let own := (s.square (squareOf p)).allocs.filter (fun a => a.ctx == c)
  (s.coreThreads c v).any (fun e => !e.2.badRegs.isEmpty) ||
  s.badChip.any (fun x => ((x.lvl == .c || x.lvl == .p) && x.owner == (c, v)) ||
    (slice && x.lvl == .q && x.owner.1 == squareOf p && x.addr / 2 ^ 18 == p % 16 && own.any (fun a => decide (a.base ≤ x.addr) && decide (x.addr < a.base + a.len)))) ||
  s.badSyms.any (fun y => y.grp.which == p && (y.grp.unit == .lanePrivate || y.grp.unit == .scratchpad || (slice && y.grp.unit == .squareMem)) && s.wordLost y.grp y.word) ||
  s.badStores.any (fun e => e.2 && (match e.1 with
    | .tile a b _ _ | .issue a b _ | .board a b | .caught a b => a == c && b == v)) ||
  s.badPans.any (fun e => e.1 == .core c v)
/-- A stop takes the context's last core off its square (R353). -/
def State.lastThere (s : State) (c v p : Nat) : Bool := (s.ctx c).place.all (fun e => e.1 == v || squareOf e.2 != squareOf p)

/-- The scan job of a physical core: issuing context, job number, job (R215). -/
def State.scanJob (s : State) (op core : Nat) : Option (Nat × Nat × Job) :=
  s.ctxs.findSome? (fun e => (e.2.jobs.find? (fun j => !j.2.retired && (match j.2.kind with
    | .scan o p _ => o == op && p == core
    | _ => false))).map (fun j => (e.1, j.1, j.2)))

/-- FORCED_STOP (R349): a debug stop that has ended meanwhile makes the image no image of a debug stop (R387). The clock stops, dirty L1 bytes go home, clean lines are dropped, and the body streams out. -/
def execForcedStop (ctx vc : Nat) (kind : StopKind) (s : State) : Host.Outcome State Fault Refusal :=
  let go (sq : Option Nat) : Host.Outcome State Fault Refusal :=
    .next (((s.modCore ctx vc (fun x => { x with run := .scanning (if kind == .scan then .scan else if sq.isSome then .debug else .deadline) sq (s.clk ctx vc), caught := 0 })).drainL1 ctx vc).post
      (.scanComplete ctx vc))
  if (s.phys? ctx vc).isNone ∨ (kind = .deadline ∧ !(s.ctx ctx).set.preq) ∨ (kind = .debug ∧ !(s.ctx ctx).set.preq) then .next s else
  match (s.core ctx vc).run with
  | .running => go none
  | .debugStopped q => go (some q)
  | _ => .next s

def stopCode : StopKind → Nat
  | .deadline => 0 | .scan => 1 | .debug => 2

/-- Pushes that have reserved entries and not yet filled them: of results on their way, held accesses, waits, queued reads of tiles
and definitions that the hub judges. -/
def State.pushesOut (s : State) : List Push :=
  s.agenda.flatMap (fun i => match i with
    | .longLatencyReturn r => r.pushes
    | .channelPushArrive p => [p]
    | .vcAccept q => (q.reply.map ReplyTo.pushes).getD []
    | _ => []) ++
  s.threads.flatMap (fun e => e.2.held.flatMap (fun h => (h.req.dst.map ReplyTo.pushes).getD [])) ++
  s.waits.flatMap (fun w => w.reply.pushes) ++
  s.cores.flatMap (fun e => e.2.engines.flatMap (fun q => q.2.flatMap (fun p => match p with
    | .read _ _ _ r _ => r.pushes
    | _ => [])))

/-- Replies on their way to a core, and entries of its queues that another core has reserved, which its interface catches before the
image is complete (R349): those whose data are on their way, and those of a core that runs or whose issue alone is stopped. What a
core that is itself away holds back stands in its own image (R352). -/
def State.repliesDue (s : State) (c v : Nat) : Bool :=
  let due (p : Push) : Bool := p.ctx == c && p.vc == v && p.svc != v
  decide (s.repliesOut c v ≠ 0) ||
  s.agenda.any (fun i => match i with
    | .longLatencyReturn r => r.pushes.any due
    | _ => false) ||
  s.pushesOut.any (fun p => due p && s.coreHere c p.svc)

/-- The entries that a push has reserved and that are not written yet. -/
def State.resvCount (s : State) (p : Push) : Nat :=
  (((s.line p.ctx p.vc p.line).chans.getD p.ch {}).queue.filter (fun x => x == .resv p.key)).length
/-- The pushes of a core to others' queues that reserve entries. -/
def State.corePushes (s : State) (c v : Nat) : List (Push × Nat) :=
  (s.pushesOut.filter (fun p => p.ctx == c && p.svc == v && p.vc != v)).map (fun p => (p, s.resvCount p))

/-- Entries that a line has reserved in other cores' queues and not yet written (R352). -/
def State.reservedBy (s : State) (c v line : Nat) : Nat := (((s.corePushes c v).filter (fun e => e.1.sline == line)).map (·.2)).sum

/-- How the replies caught divide among the virtual channels, from the k-th of 8 on: any numbers that come to their sum. -/
def caughtBy (id : Nat) : Nat → Nat → List Nat
  | 0, n => [n]
  | k + 1, n => let m := Config.imageCaught id k % (n + 1)
    m :: caughtBy id k (n - m)
/-- Counters 8 to 15, the replies caught, and 0 to 7, the credits held, which with them make up the allotment of each virtual channel
(R352, R355). -/
def imageCounters (id n : Nat) : Nat :=
  (((caughtBy id 7 n).zipIdx).map (fun e => (Config.allotment e.2 + 2 ^ 16 - e.1) % 2 ^ 16 * 2 ^ (16 * e.2) + e.1 * 2 ^ (16 * (e.2 + 8)))).sum

/-- The header of R352 with its tag zero. How counters 0 to 15 divide among the virtual channels depends on what the manual leaves open. -/
def State.imageHeader (s : State) (c v p seq : Nat) (kind : StopKind) (clk : DWord) (sqm : Bool) : BitVec 2048 :=
  let held := ((s.coreThreads c v).map (fun e => e.2.held.length)).sum
  let ncatch := (s.core c v).caught
  BitVec.ofNat 2048 (0x4E435353 + 1 * 2 ^ 48 + (Config.coreRev p).toNat * 2 ^ 64 + seq % 2 ^ 32 * 2 ^ 320 + clk.toNat * 2 ^ 352 +
    p * 2 ^ 416 + v * 2 ^ 448 + c * 2 ^ 464 + stopCode kind * 2 ^ 474 + (if sqm then 2 ^ 476 else 0) + held % 2 ^ 16 * 2 ^ 512 +
    ncatch * 2 ^ 528 + (0x210000 + 64 * ncatch) * 2 ^ 544 + natOfBytes s.cfgHash * 2 ^ 640 +
    imageCounters (c * 2 ^ 32 + seq) ncatch * 2 ^ 1024 + ((List.range 16).map (fun l => s.reservedBy c v l % 2 ^ 16 * 2 ^ (1280 + 16 * l))).sum)

/-- The regions of an image (R351): the header; control, registers, lane-private memory and tile stores; the square-memory
slice if it is present; the scratchpad and the tail. The layout within regions is open but for the memories. The tag is taken over the image with the tag zero, under the device
key (R354). -/
def State.imageParts (s : State) (c v p seq : Nat) (kind : StopKind) (clk : DWord) (sqm : Bool) : List (Nat × List Byte) :=
  let id := c * 2 ^ 32 + seq
  let free (lo n : Nat) : List Byte := (List.range n).map (fun i => Config.imageByte id (lo + i))
  let priv := (List.range 0x40000).map (fun i => (s.thread ⟨c, v, i / 512 / 32, i / 512 % 32⟩).priv.byte (i % 512))
  let own := (s.square (squareOf p)).allocs.filter (fun a => a.ctx == c)
  let slice := (List.range 0x40000).map (fun i =>
    let a := p % 16 * 0x40000 + i
    if own.any (fun x => x.base ≤ a && decide (a < x.base + x.len)) then (s.square (squareOf p)).sqm.byte a else 0#8)
  let head := (s.imageHeader c v p seq kind clk sqm).toNat
  let body := free 0x100 0x4FF00 ++ priv ++ free 0x90000 0x40000
  let later := (if sqm then [(0xD0000, slice)] else []) ++
    [(0x110000, (s.core c v).scratch.readBytes 0 0x100000 ++ free 0x210000 (64 * (s.core c v).caught))]
  let tag := hmacSha256 (bytesOfNat s.hub.deviceKey.toNat 32) (bytesOfNat head 256 ++ body ++ later.flatMap (·.2))
  (0, bytesOfNat (head + natOfBytes tag * 2 ^ 1536) 256 ++ body) :: later

/-- The free depth of a queue, by its accepted launches that have not completed (R222, R372). A queue that is not bound takes none. -/
def State.freeDepth (s : State) (q : Nat) : Nat :=
  if (look s.queues q).isNone then 0 else Config.queueDepth - (s.launches.filter (fun e => e.2.queue == q && e.2.state != .done)).length

/-- A context that cannot be brought back is lost: its launches complete with code 0x09 (R355, R358). `Hub.lean` gives
MGMT 0x02 the same effect. -/
def State.endLaunches (s : State) (c : Nat) : State :=
  s.launches.foldl (fun s e => if e.2.ctx ≠ c ∨ e.2.state = .done then s else
    let t : State := { s with launches := put s.launches e.1 { e.2 with state := .done, code := 9, live := 0, units := [], edges := [], groups := [] } }
    t.sendSess e.2.sess (.compl e.2.sess e.2.queue e.2.seq 9 (t.freeDepth e.2.queue))) s

/-- Every trace of a context leaves the device; its bytes of memory stay where they are, and so do its images. Units that wait for
what it held try again (R233, R234). -/
def State.dropContext (s : State) (c : Nat) : State :=
  let s := s.endLaunches c
  State.retakeChanges <| State.wakeUnits { s with
    threads := s.threads.filter (fun e => e.1.ctx != c)
    lines := s.lines.filter (fun e => e.1.ctx != c)
    cores := s.cores.filter (fun e => e.1.ctx != c)
    badChip := s.badChip.filter (fun x => !((x.lvl == .c || x.lvl == .p || x.lvl == .g) && x.owner.1 == c))
    squares := s.squares.map (fun e => (e.1, { e.2 with
      allocs := e.2.allocs.filter (fun a => a.ctx != c)
      watches := e.2.watches.filter (fun w => w.2.ctx != c)
      stops := e.2.stops.filter (fun d => d.ctx != c) }))
    dies := s.dies.map (fun e => (e.1, { e.2 with
      faults := e.2.faults.filter (fun f => f.note.ctx != c), heldFaults := e.2.heldFaults.filter (fun n => n.ctx != c) }))
    kernels := s.kernels.filter (fun e => e.2.ctx != c)
    queues := s.queues.filter (fun e => e.2.ctx != c)
    badPans := s.badPans.filter (fun e => e.2.ctx != c)
    badStores := s.badStores.filter (fun e => match e.1 with
      | .tile a _ _ _ | .issue a _ _ | .board a _ | .caught a _ => a != c)
    pans := (s.pans.map (fun e => (e.1, e.2.filter (fun p => p.ctx != c)))).filter (fun e => !e.2.isEmpty)
    roots := s.roots.filter (fun p => p.ctx != c)
    waits := s.waits.filter (fun w => w.reply.ctx != c)
    wbHeld := s.wbHeld.filter (fun w => w.ctx != c)
    halves := s.halves.filter (fun h => h.ctx != c)
    agenda := s.agenda.filter (fun i => !(instrCtx i == some c))
    ctxs := del s.ctxs c
    hub := { s.hub with
      sessions := s.hub.sessions.filter (fun e => e.1 == 0 || e.2.ctx != c)
      windows := s.hub.windows.filter (fun e => e.2.ctx != c)
      stopped := s.hub.stopped.filter (fun e => e.2.1 != c)
      fabric := { s.hub.fabric with
        groups := s.hub.fabric.groups.filter (fun g => !(g.2.1 == s.ownDevice && g.2.2 == c))
        granted := s.hub.fabric.granted.filter (fun g => g.1.1 != c) } } }
where
  /-- The context that an action in flight belongs to. -/
  instrCtx (i : Instr) : Option Nat :=
    match i with
    | .longLatencyReturn r => some r.ctx
    | .gangPromotion c _ | .storePerform c _ _ | .trapRecordEnqueue c | .closeMarkerArrive c _ _ | .slotResolve c _ | .slotFinal c _
    | .mmaPassStart c _ _ | .fusionWindowExpiry c _ _ | .drainSeqWrite c _ _ _ | .jobElement c _ | .jobRetire c _ | .collectiveWindowGrant c _ _
    | .collectiveRootReturn c _ _ _ _ | .ckptGranuleCopy c | .ckptCowCopy c _ | .vcMoveStep c _ _ | .vcCommit c _ | .thrashThrottleExpiry c _
    | .preemptDeadline c | .contextResume c _ | .coreRelease c _ | .forcedStop c _ _ | .scanComplete c _ | .imageRestore c _ _ => some c
    | .channelPushArrive p => some p.ctx
    | .gatewayPageFault n | .writebackFault n => some n.ctx
    | .partialArrive _ p | .panHoldExpiry _ p | .ctbmLeafArrive p => some p.ctx
    | .vcAccept r => some r.ctx
    | .watchpointHit h => some h.ctx
    | _ => none

/-- How a core runs that stood under the debug stop of a square: stopped while it lasts (R387). -/
def State.stoppedBy (s : State) (c : Nat) (sq : Option Nat) : CoreRun :=
  match sq with
  | some q => if (s.square q).stops.any (fun d => d.ctx == c) then .debugStopped q else .running
  | none => .running

/-- SCAN_COMPLETE (R349, R353, R358): with its replies caught the core is idle, and its image stands. Data that cannot be
read gives no image: a `scan` ends with code 0x03, and a deadline stop destroys the context. -/
def execScanComplete (ctx vc : Nat) (s : State) : Host.Outcome State Fault Refusal :=
  match (s.core ctx vc).run, s.phys? ctx vc with
  | .scanning kind sq clk, some p =>
    if s.repliesDue ctx vc then .next (s.post (.scanComplete ctx vc)) else
    let last := s.lastThere ctx vc p
    if s.coreBad ctx vc last then
      match kind, s.scanJob 0 p with
      | .scan, some (c, n, _) => .next ((s.modCore ctx vc (fun x => { x with run := s.stoppedBy ctx sq })).jobCode c n 3)
      | _, _ => .next (s.dropContext ctx)
    else
    let seq := (s.ctx ctx).imgSeq
    let im : Image := { ctx := ctx, vc := vc, seq := seq, sq := sq, rev := Config.coreRev p, cfg := natOfBytes s.cfgHash
                        parts := s.imageParts ctx vc p seq kind clk last
                        threads := s.coreThreads ctx vc, lines := s.lines.filter (fun e => e.1.ctx == ctx && e.1.vc == vc), core := s.core ctx vc
                        resv := s.corePushes ctx vc, waits := s.waits.filter (fun w => w.reply.ctx == ctx && w.reply.vc == vc), pan := s.pan (.core ctx vc) }
    let s : State := { s with images := s.images ++ [im] }
    let s := s.modCtx ctx (fun x => { x with imgSeq := (x.imgSeq + 1) % 2 ^ 32 })
    let s := s.unplace ctx vc (.image seq)
    (match kind, s.scanJob 0 p with
     | .scan, some (c, n, _) =>
       let s : State := { s with hub := { s.hub with stopped := s.hub.stopped.filter (fun e => e.1 != p) ++ [(p, ctx, vc)] } }
       .next (s.post (.jobElement c n))
     | _, _ => .next s)
  | _, _ => .next s

/-- The image that a virtual core is saved in. -/
def State.imageOf (s : State) (c v : Nat) : Option Image :=
  match (s.core c v).run with
  | .image seq => s.images.reverse.find? (fun i => i.ctx == c && i.vc == v && i.seq == seq)
  | _ => none

/-- The image of a core that `scan` op 0 stopped goes to its buffer, and the job ends (R215, R349). -/
def State.writeImage (s : State) (c n : Nat) (j : Job) (core buf : Nat) : State :=
  match (s.hub.stopped.find? (·.1 == core)).bind (fun e => s.imageOf e.2.1 e.2.2) with
  | none => s.jobCode c n 0
  | some im =>
    match im.parts.foldlM (fun s e => s.jobWrite c j .g (buf + e.1) e.2) s with
    | .error e => s.jobError c n j true e
    | .ok s => s.jobCode c n 0

/-! ## Coming back (R356, R357) -/

/-- The record of a saved access is past answering (R336): records of the virtual core are stale, faults of it that were
still held or on their way are presented no more. -/
def State.staleFaults (s : State) (c v : Nat) : State :=
  let mine (n : FaultNote) : Bool := n.ctx == c && n.vc == v && n.job.isNone && !n.lanes.isEmpty
  { s with
    dies := s.dies.map (fun e => (e.1, { e.2 with
      faults := e.2.faults.map (fun f => if mine f.note then { f with stale := true } else f)
      heldFaults := e.2.heldFaults.filter (fun n => !mine n) }))
    agenda := s.agenda.filter (fun i => match i with
      | .gatewayPageFault n => !mine n
      | _ => true) }

/-- The square of a virtual core's groups takes back its allocations, at the addresses that handles name. -/
def State.putSlices (s : State) (c v q : Nat) : State :=
  let away := s.squares.flatMap (fun e => if e.1 = q then [] else
    (e.2.allocs.filter (fun a => a.ctx == c && a.vc == v)).map (fun a => (a, memSlice e.2.sqm a.base a.len)))
  let mine := (s.ctx c).slices.filter (fun e => e.1.vc == v) ++ away
  let s : State := { s with squares := s.squares.map (fun e => if e.1 = q then e else
    (e.1, { e.2 with allocs := e.2.allocs.filter (fun a => !(a.ctx == c && a.vc == v)) })) }
  let s := s.modCtx c (fun x => { x with slices := x.slices.filter (fun e => e.1.vc != v) })
  mine.foldl (fun s e => (s.clearBad ⟨.q, (q, 0), e.1.base⟩ e.1.len).modSquare q (fun x => { x with allocs := x.allocs ++ [e.1], sqm := memPaste x.sqm e.1.base e.1.len e.2 })) s

/-- Answers that came while the lanes were away take effect (R343). -/
def State.lateAnswers (s : State) (c v : Nat) : State :=
  (s.ctx c).traps.late.foldl (fun s a =>
    let ls := (s.trappedLanes c a.1).filter (fun e => e.1.vc == v)
    if ls.isEmpty then s else
    let s := s.actOnTrap c (ls.map (·.1)) a.2
    if (s.trappedLanes c a.1).isEmpty then s.modCtx c (fun x => { x with traps := { x.traps with late := x.traps.late.filter (· != a) } }) else s) s

/-- A virtual core stands on a physical core again: parked accesses are tried again, lanes parked at their instruction issue it again
once the results outstanding for them have returned (R78), yielded threads go on, its gangs
are pending, and an apex rises whose region does not hold it (R246, R250, R336, R356). -/
def State.placeCore (s : State) (c v p : Nat) : State :=
  let sq := (s.imageOf c v).bind (fun i => i.sq)
  let s := s.modCtx c (fun x => { x with place := put x.place v p })
  let s := s.modCore c v (fun x => { x with
    run := s.stoppedBy c sq, l1 := [], l1Used := [], epochs := [], gangs := [], home := some (x.home.getD p), clkFrom := some s.aux.time })
  let s : State := { s with hub := { s.hub with stopped := s.hub.stopped.filter (fun e => e.1 != p && !(e.2.1 == c && e.2.2 == v)) } }
  let s := (s.staleFaults c v).putSlices c v (squareOf p)
  let s := (s.coreThreads c v).foldl (fun s e => s.modThread e.1 (fun t => { t with
    held := t.held.map (fun h => { h with faulted := none })
    stat := match t.stat with
      | .parkedRetry id => .parked id
      | x => x })) s
  ((s.wakeYielded c v).lateAnswers c v).raiseApexes c

/-- Virtual cores that hold members of one square group, or its record. -/
def GroupAt.cores (x : GroupAt) : List Nat := dedup (x.vc :: x.g.members.map (·.vc))

/-- A placement map keeps R14 and R245: distinct cores that are idle or the context's own, square groups within one
square, and their allocations in spans that nothing else holds there. -/
def State.placeOk (s : State) (c : Nat) (m : List (Nat × Nat)) : Bool :=
  let own := (s.ctx c).place
  let at' (v : Nat) : Nat := (look m v).getD 0
  decide ((dedup (m.map (·.2))).length = m.length) &&
  m.all (fun e => s.coreIdle e.2 || (own.any (fun o => o.2 == e.2) && m.any (fun o => o.1 == e.1))) &&
  (s.groupsOf c).all (fun x => !x.g.square || x.cores.all (fun v => squareOf (at' v) == squareOf (at' x.vc))) &&
  ((s.ctx c).slices.map (·.1) ++ s.squares.flatMap (fun e => e.2.allocs.filter (fun a => a.ctx == c))).all (fun a =>
    let q := squareOf (at' a.vc)
    (s.square q).allocs.all (fun b => b.ctx == c || decide (b.base + b.len ≤ a.base) || decide (a.base + a.len ≤ b.base)) &&
    (List.range 16).all (fun k => s.corePresent (16 * q + k) || decide ((k + 1) * 2 ^ 18 ≤ a.base) || decide (a.base + a.len ≤ k * 2 ^ 18)))

/-- Virtual caches follow cores that came to other squares (R284). -/
def State.followMoves (s : State) (c : Nat) (old new : List (Nat × Nat)) : State :=
  let goes (q : Nat) : List Nat :=
    let vs := (old.filter (fun e => squareOf e.2 == q)).map (·.1)
    if vs.isEmpty then [q] else dedup (vs.filterMap (fun v => (look new v).map squareOf))
  let mask (r : BitVec 512) : Nat := laneMask (dedup (((List.range 40).filter (fun q => (vcSmask r).testBit q)).flatMap goes))
  (s.ctx c).vcs.foldl (fun s e =>
    let x := s.vcOf c e.1
    if x.state = .undefined ∨ x.state = .releasing ∨ !vcFollow x.recd ∨ mask x.recd = vcSmask x.recd then s
    else if x.state = .stable then s.followTo c e.1 (mask x.recd)
    else s.modVc c e.1 (fun y => { y with followNext := some (mask x.recd) })) s

/-- The checks of R355 on an image for a physical core, in their order, from its header: the code of the first that fails. `tag`
says whether the image is one that this device took since its power-up. -/
def State.judgeImage (s : State) (core : Nat) (head : List Byte) (tag : Bool) : Option Nat :=
  let x := natOfBytes head
  let counter (k : Nat) : Nat := bits x (1024 + 16 * k) 16
  if bits x 0 32 ≠ 0x4E435353 ∨ bits x 48 16 ≠ 1 ∨ bits x 32 16 ≠ 0 ∨ bits x 96 224 ≠ 0 ∨ bits x 426 22 ≠ 0 ∨ bits x 458 6 ≠ 0 ∨
      bits x 477 35 ≠ 0 ∨ bits x 576 64 ≠ 0 ∨ bits x 768 256 ≠ 0 ∨ bits x 1792 256 ≠ 0 then some 0x0A
  else if bits x 64 32 ≠ (Config.coreRev core).toNat ∨ bits x 640 128 ≠ natOfBytes s.cfgHash then some 0x09
  else if !tag then some 0x0A
  else if (List.range 8).any (fun k => (counter k + counter (k + 8)) % 2 ^ 16 != Config.allotment k % 2 ^ 16) then some 0x0A
  else if (s.ctx? (bits x 464 10)).isNone then some 0x0B
  else none

/-- What the command processor finds of a saved core for a physical core (R8, R355): the image's failure code, or none. -/
def State.misfit (s : State) (c v p : Nat) : Option Nat :=
  match s.imageOf c v with
  | none => none
  | some i => s.judgeImage p ((((i.parts.head?).map (·.2)).getD []).take 256) true
/-- A restore onto this core may go on. -/
def State.fits (s : State) (c v p : Nat) : Bool :=
  match (s.core c v).run with
  | .image _ => (s.imageOf c v).isSome && (s.misfit c v p).isNone
  | .record | .unplaced => true
  | _ => false
/-- A saved core of the context has an image that fails with code 0x0A whatever core it is for (R355). -/
def State.spoiled (s : State) (c : Nat) : Bool :=
  (List.range (s.ctx c).n).any (fun v => match s.imageOf c v with
    | some _ => (List.range Config.cores).any (fun p => s.coreIdle p && s.misfit c v p == some 0x0A)
    | none => false)

/-- Cores of the context that stand saved come back at once, and the request flag is cleared (R357). Acquires that were in progress at
the stop are complete: phases and waits that awaited one go on (R305). -/
def State.resume (s : State) (c : Nat) (m : List (Nat × Nat)) : State :=
  let old := m.filterMap (fun e => match s.phys? c e.1 with
    | some _ => some e
    | none => (look (s.ctx c).was e.1).map (fun p => (e.1, p)))
  let s := (m.filter (fun e => (s.phys? c e.1).isNone)).foldl (fun s e => s.placeCore c e.1 e.2) s
  let s := s.setPreq c false
  let s := s.modCtx c (fun x => { x with before := [] })
  ((s.followMoves c old m).resumeHeld c).wakeUnits

/-- Launches that were waiting when the flag was raised, of a class above the context's own, come first (R357). -/
def State.mustWait (s : State) (c : Nat) : Bool :=
  let cls (l : Launch) : Nat := match look s.queues l.queue with
    | some q => q.cls
    | none => 0
  let mine := ((s.launches.filter (fun e => e.2.ctx == c && e.2.state == .started)).map (fun e => cls e.2)).foldl max 0
  (s.ctx c).before.any (fun u => match look s.launches u with
    | some l => l.state == .waiting && decide (mine < cls l)
    | none => false)

/-- Virtual core v may stand on physical core p beside those that a placement holds already (R14, R245, R355): the core idle and not
taken, the saved state fit for it, square groups with it in one square, and the spans of its allocations free there. -/
def State.joins (s : State) (c : Nat) (m : List (Nat × Nat)) (v p : Nat) : Bool :=
  let q := squareOf p
  s.coreIdle p && !m.any (fun e => e.2 == p) && s.fits c v p &&
  (s.groupsOf c).all (fun x => !x.g.square || !x.cores.contains v || m.all (fun e => !x.cores.contains e.1 || squareOf e.2 == q)) &&
  ((s.ctx c).slices.map (·.1) ++ s.squares.flatMap (fun e => e.2.allocs.filter (fun a => a.ctx == c))).all (fun a => a.vc != v ||
    ((s.square q).allocs.all (fun b => b.ctx == c || decide (b.base + b.len ≤ a.base) || decide (a.base + a.len ≤ b.base)) &&
     (List.range 16).all (fun k => s.corePresent (16 * q + k) || decide ((k + 1) * 2 ^ 18 ≤ a.base) || decide (a.base + a.len ≤ k * 2 ^ 18))))
/-- Every way of placing virtual cores on idle cores beside a placement is tried, the lowest cores first. -/
def State.searchPlace (s : State) (c : Nat) (ok : List (Nat × Nat) → Bool) (idle : List Nat) : List Nat → List (Nat × Nat) → Option (List (Nat × Nat))
  | [], m => if ok m then some m else none
  | v :: r, m => idle.findSome? (fun p => if s.joins c m v p then State.searchPlace s c ok idle r (m ++ [(v, p)]) else none)

/-- A placement of every virtual core of a context, those that stand on a core staying there: on the cores given, or, if
none are given, where the context last stood, as many squares further on, or on any idle cores that can hold it. None if none
keeps the rules. -/
def State.choosePlace (s : State) (c : Nat) (cores : List Nat) : Option (List (Nat × Nat)) :=
  let n := (s.ctx c).n
  let kept := (s.ctx c).place
  let rest := (List.range n).filter (fun v => (s.phys? c v).isNone)
  let ok (m : List (Nat × Nat)) : Bool := decide (m.length = n) && s.placeOk c m &&
    m.all (fun e => match s.phys? c e.1 with
      | some p => p == e.2
      | none => s.fits c e.1 e.2)
  let last (k v : Nat) : Nat := match look (s.ctx c).was v with
    | some p => (p + 16 * k) % 640
    | none => 640
  if !cores.isEmpty then ([(List.range n).zip cores] : List (List (Nat × Nat))).find? ok else
  match ((List.range 40).map (fun k => kept ++ rest.map (fun v => (v, last k v)))).find? ok with
  | some m => some m
  | none => s.searchPlace c ok ((List.range Config.cores).filter s.coreIdle) rest kept

/-- A context has a launch that is not done. -/
def State.launching (s : State) (c : Nat) : Bool := s.launches.any (fun e => e.2.ctx == c && e.2.state != .done)

/-- Contexts without such a launch leave their cores, which count as free for one that has one (R357). -/
def State.vacate (s : State) (c : Nat) : State :=
  if !s.launching c then s else
  (s.ctxs.filter (fun e => e.1 != c && !s.launching e.1 && e.2.place.all (fun p => s.releasable e.1 p.1))).foldl (fun s e =>
    e.2.place.foldl (fun s p => (s.drainL1 e.1 p.1).unplace e.1 p.1 .record) s) s

/-- CONTEXT_RESUME (R246, R347, R357): the context is placed again, once free cores can hold every one of its virtual
cores: after pre-emption, or the cores already released when the request is cleared. A core that `scan` stopped comes
back through `scan` only (R215). A deadline image that fails with code 0x0A ends the context (R355). -/
def execContextResume (ctx : Nat) (cores : List Nat) (s : State) : Host.Outcome State Fault Refusal :=
  match s.ctx? ctx with
  | none => .next s
  | some x =>
    if x.place.length = x.n ∨ (!x.place.isEmpty ∧ x.set.preq) then .next s else
    if s.hub.stopped.any (fun e => e.2.1 == ctx) then .next (s.post (.contextResume ctx [])) else
    if s.spoiled ctx then .next (s.dropContext ctx) else
    match s.choosePlace ctx cores with
    | some m => .next (if s.mustWait ctx then s.post (.contextResume ctx []) else s.resume ctx m)
    | none =>
      if !cores.isEmpty then .next s else
      let t := s.vacate ctx
      match t.choosePlace ctx [] with
      | some m => .next (if s.mustWait ctx then s.post (.contextResume ctx []) else t.resume ctx m)
      | none => .next (s.post (.contextResume ctx []))

/-- CONTEXT_MIGRATE (R14, R245, R284): the scheduler moves virtual cores. A core that moves is drained; one that could not
be released moves only to a core of its own revision, since its state goes as an image (R8). -/
def execContextMigrate (ctx : Nat) (cores : List Nat) (s : State) : Host.Outcome State Fault Refusal :=
  match s.ctx? ctx with
  | none => .next s
  | some x =>
    let m := (List.range x.n).zip cores
    let old := x.place
    let moved := m.filter (fun e => look old e.1 != some e.2)
    let all := decide (old.length = x.n) && decide (cores.length = x.n) && s.placeOk ctx m &&
      moved.all (fun e => (s.core ctx e.1).run == .running &&
        (s.releasable ctx e.1 || Config.coreRev (s.phys ctx e.1) == Config.coreRev e.2) && !s.repliesDue ctx e.1)
    if !all then .next s else
    let s := moved.foldl (fun s e => (s.drainL1 ctx e.1).unplace ctx e.1 .record) s
    let s := moved.foldl (fun s e => s.placeCore ctx e.1 e.2) s
    .next (((s.followMoves ctx old m).resumeHeld ctx).wakeUnits)

/-- The checks of R355 on the image in a buffer: the failure code, or the image. -/
def State.checkImage (s : State) (core : Nat) (head : List Byte) (whole : Image → Bool) : Except Nat Image :=
  let x := natOfBytes head
  let found := s.images.reverse.find? (fun i => i.ctx == bits x 464 10 && i.vc == bits x 448 10 && i.seq == bits x 320 32 && whole i)
  match s.judgeImage core head found.isSome, found with
  | some code, _ => .error code
  | none, some i => .ok i
  | none, none => .error 0x0A

/-- The reservations of an image stand again in the peers' queues (R356). -/
def State.reinstall (s : State) (ps : List (Push × Nat)) : State :=
  ps.foldl (fun s e => match look s.lines ⟨e.1.ctx, e.1.vc, e.1.line⟩ with
    | none => s
    | some l =>
      let ch := l.chans.getD e.1.ch {}
      s.modLine e.1.ctx e.1.vc e.1.line (fun l => setChan l e.1.ch { ch with
        queue := ch.queue ++ List.replicate (e.2 - s.resvCount e.1) (QEnt.resv e.1.key) })) s
/-- The quarter engines, their fusion windows and the drain sequencers of a core go on (R334). -/
def State.engineActs (s : State) (c v : Nat) : State :=
  let s := (s.core c v).engines.foldl (fun s e => if e.2.isEmpty then s else s.post (.mmaPassStart c v e.1)) s
  let windows := dedup ((s.core c v).engines.flatMap (fun e => e.2.filterMap (fun p => if p.waits then p.fuse else none)))
  let s := windows.foldl (fun s w => s.post (.fusionWindowExpiry c v w)) s
  (s.lines.filter (fun e => e.1.ctx == c && e.1.vc == v)).foldl (fun s e =>
    e.2.drains.foldl (fun s d => if d.2.writes.isEmpty then s else s.post (.drainSeqWrite c v e.1.line d.1)) s) s

/-- An image is loaded whose virtual core does not stand saved in it: it was restored or restarted before. R355 lists no check that
fails, so the virtual core takes the image's state and the new core (DESIGN CHOICE, notes/assumptions/100.md). Of its scoreboard,
the entries of jobs still in flight are reinstalled, as are its reservations in other cores' queues and its core pan (R356); its engines
and sequencers go on (R334). -/
def State.loadImage (s : State) (i : Image) : State :=
  if (s.core i.ctx i.vc).run = .image i.seq then s else
  let mine (c v : Nat) : Bool := c == i.ctx && v == i.vc
  let s := if (s.phys? i.ctx i.vc).isSome then (s.drainL1 i.ctx i.vc).unplace i.ctx i.vc (.image i.seq) else s
  let s : State := { s with
    threads := s.threads.filter (fun e => !mine e.1.ctx e.1.vc) ++ i.threads
    lines := s.lines.filter (fun e => !mine e.1.ctx e.1.vc) ++ i.lines
    waits := s.waits.filter (fun w => !mine w.reply.ctx w.reply.vc) ++ i.waits
    agenda := s.agenda.filter (fun a => match a with
      | .longLatencyReturn r => !mine r.ctx r.vc
      | .mmaPassStart c v _ | .fusionWindowExpiry c v _ | .drainSeqWrite c v _ _ => !mine c v
      | .partialArrive (.core c v) _ => !mine c v
      | _ => true)
    cores := put s.cores ⟨i.ctx, i.vc⟩ { i.core with
      run := .image i.seq, step := none
      board := i.core.board.filter (fun b => (s.ctx i.ctx).jobs.any (fun e => e.1 == b.job && !e.2.retired && e.2.vc == i.vc && e.2.ivals.contains b)) } }
  let s := (s.setPan (.core i.ctx i.vc) i.pan).reinstall i.resv
  let s := i.pan.foldl (fun s p => s.post (.panHoldExpiry (.core i.ctx i.vc) p)) s
  let s := s.engineActs i.ctx i.vc
  { s with launches := s.launches.map (fun e => if e.2.ctx = i.ctx ∧ e.2.state = .started then
      (e.1, { e.2 with live := (s.threads.filter (fun t => t.2.launch == e.1)).length }) else e) }

/-- `scan` op 1 goes on: the image in the buffer is read, checked and restored, or the job ends with a code (R215, R355). -/
def State.restoreScan (s : State) (c n : Nat) (j : Job) (core buf : Nat) : State :=
  match s.jobRead c j .g buf 256 with
  | .error e => s.jobError c n j false e
  | .ok (head, s) =>
    let ncatch := bits (natOfBytes head) 528 16
    let sqm := bit (natOfBytes head) 476
    let regions : List (Nat × Nat) := [(0, 0xD0000)] ++ (if sqm then [(0xD0000, 0x40000)] else []) ++ [(0x110000, 0x100000 + 64 * ncatch)]
    match regions.foldlM (fun (acc : List (Nat × List Byte) × State) r =>
        (acc.2.jobRead c j .g (buf + r.1) r.2).map (fun x => (acc.1 ++ [(r.1, x.1)], x.2))) (([], s) : List (Nat × List Byte) × State) with
    | .error e => s.jobError c n j false e
    | .ok (parts, s) =>
      match s.checkImage core head (fun i => i.parts == parts) with
      | .error code => s.jobCode c n code
      | .ok i =>
        if !s.coreIdle core then s.post (.imageRestore i.ctx i.vc core) else
        ((((s.loadImage i).placeCore i.ctx i.vc core).resumeHeld i.ctx).wakeUnits).jobCode c n 0

/-- IMAGE_RESTORE (R355, R356): the image that a `scan` op 1 names, or the record or image of the last virtual core of a
context that the command processor has to bring back. -/
def execImageRestore (ctx vc core : Nat) (s : State) : Host.Outcome State Fault Refusal :=
  match s.scanJob 1 core with
  | some (c, n, j) =>
    (match j.kind with
     | .scan _ _ buf => .next (if j.stalled then s else s.restoreScan c n j core buf)
     | _ => .next s)
  | none =>
    match s.ctx? ctx with
    | none => .next s
    | some x =>
      let m := put x.place vc core
      if (s.phys? ctx vc).isNone && decide (m.length = x.n) && decide (vc < x.n) && s.placeOk ctx m && s.coreIdle core && s.fits ctx vc core &&
          !s.hub.stopped.any (fun e => e.2.1 == ctx && e.2.2 == vc) && !s.mustWait ctx then
        .next (s.resume ctx m)
      else .next s

/-- JOB_ELEMENT (R330): the next element of a job whose edges have been met; of a scan job, its transfer. -/
def execJobElement (ctx job : Nat) (s : State) : Host.Outcome State Fault Refusal :=
  match look (s.ctx ctx).jobs job with
  | none => .next s
  | some j =>
    if j.retired || j.stalled || j.code != 0 then .next s
    else if !j.after.isEmpty then .next (s.post (.jobElement ctx job)) else
    match j.kind with
    | .copy r => .next (if j.total ≤ j.next then s.post (.jobRetire ctx job) else s.copyElement ctx job j r)
    | .chain r => .next (if j.total ≤ j.next then s.post (.jobRetire ctx job) else s.chainElement ctx job j r)
    | .coll r p rank ranks w formed => .next (s.collElement ctx job j r p rank ranks w formed)
    | .cut .. => .next (s.post (.ckptGranuleCopy ctx))
    | .scan 0 core buf => .next (s.writeImage ctx job j core buf)
    | .scan 1 core _ => .next (s.post (.imageRestore 0 0 core))
    | .scan _ _ _ => .next (s.post (.jobRetire ctx job))

end Sys2Proof.Machine
end

