-- ==== Sys2Proof/Machine/Debug.lean ====
section
/-!
DEFINITION. The debug unit of a square (R382 to R388): hits, value and skid records, the stop and its end.
-/
namespace Sys2Proof.Machine

/-! ## Records (R388) -/

def accCode : AccKind → Nat
  | .store => 0 | .atomic => 1 | .engWrite => 2 | .finalWrite => 3 | .load => 4 | .engRead => 5 | .brk => 6 | .host => 7

/-- Does a hit record name its issuer (kinds 0, 1, 4, 6)? -/
def hasIssuer : AccKind → Bool
  | .store | .atomic | .load | .brk => true
  | _ => false

def posBits (p : Pos) : Nat := (if p.sub then 2 ^ 169 else 0) + p.word % 2 ^ 22 * 2 ^ 170

/-- A hit record: watchpoint and watched address. -/
def hitRecord (h : Hit) (wp addr tseq : Nat) : BitVec 256 :=
  let who := if hasIssuer h.kind then laneMask h.lanes % 2 ^ 32 + h.line % 16 * 2 ^ 32 + h.vc % 1024 * 2 ^ 64 + posBits h.pos else 0
  BitVec.ofNat 256 (who + tseq % 2 ^ 16 * 2 ^ 48 + h.ctx % 1024 * 2 ^ 128 + (wp * 64 + accCode h.kind * 8) * 2 ^ 144 + 0x30 * 2 ^ 152 +
    h.sq % 64 * 2 ^ 160 + h.lev % 4 * 2 ^ 166 + addr % 2 ^ 64 * 2 ^ 192)

/-- A value record. -/
def valueRecord (h : Hit) (v : WatchVal) (tseq : Nat) : BitVec 256 :=
  BitVec.ofNat 256 (tseq % 2 ^ 16 * 2 ^ 48 + v.old.toNat * 2 ^ 64 + h.ctx % 1024 * 2 ^ 128 + v.len % 256 * 2 ^ 144 + 0x31 * 2 ^ 152 +
    h.sq % 64 * 2 ^ 160 + v.new.toNat * 2 ^ 192)

/-- A skid record. -/
def skidRecord (ctx sq phys vc line skid : Nat) (pos : Pos) (lanes : List Nat) (tseq : Nat) : BitVec 256 :=
  BitVec.ofNat 256 (laneMask lanes % 2 ^ 32 + line % 16 * 2 ^ 32 + tseq % 2 ^ 16 * 2 ^ 48 + vc % 1024 * 2 ^ 64 + ctx % 1024 * 2 ^ 128 +
    skid % 256 * 2 ^ 144 + 0x32 * 2 ^ 152 + sq % 64 * 2 ^ 160 + posBits pos + phys % 1024 * 2 ^ 192)

/-- A debug record takes the context's next number and waits for room like a trap record. -/
def State.debugRecord (s : State) (c : Nat) (r : Nat → BitVec 256) : State := s.queueRecord c (r (s.ctx c).traps.tseq)

/-- The next position of a line: that of the entry that its lowest live slice offers, or, if every entry there is parked
or trapped, that of its lowest entry; with the lanes of the entry. -/
def State.nextOf (s : State) (c v line : Nat) : Option (Pos × List Nat) :=
  let ts := s.lineThreads c v line
  match (List.range 8).find? (fun q => ts.any (fun e => e.1 / 4 == q)) with
  | none => none
  | some q =>
    let mine := ts.filter (fun e => e.1 / 4 == q)
    match s.offer c v line mine with
    | some o => some (o.pos, sortNat o.lanes)
    | none =>
      match mine with
      | [] => none
      | e :: es =>
        let low := es.foldl (fun b x => if before (0, x.2.pos) (0, b.2.pos) then x else b) e
        some (low.2.pos, sortNat ((mine.filter (fun x => x.2.pos == low.2.pos && x.2.stat == low.2.stat)).map (·.1)))

/-- The skid records of a stop: physical cores ascending, lines ascending. A core that is being scanned shows no skid. -/
def State.skids (s : State) (h : Hit) (cores : List (Nat × Nat)) : State :=
  let order := sortNat (cores.map (·.2))
  order.foldl (fun s p => match cores.find? (fun e => e.2 == p) with
    | none => s
    | some e =>
      (s.liveLines h.ctx e.1).foldl (fun s line => match s.nextOf h.ctx e.1 line with
        | none => s
        | some (pos, lanes) =>
          let skid := if (s.core h.ctx e.1).run = .debugStopped h.sq then s.issuedBy h.ctx e.1 line - countAt h.counts e.1 line else 0
          s.debugRecord h.ctx (skidRecord h.ctx h.sq p e.1 line skid pos lanes)) s) s

/-! ## The stop -/

/-- The watchpoints of a square that are armed for a context (R386). -/
def State.armed (s : State) (q c : Nat) : Bool := (s.square q).watches.any (fun w => w.2.ctx == c)

/-- A stop begins: every core of the square on which the context is placed, unless it is being scanned, stops issue. -/
def State.startStop (s : State) (h : Hit) (hits : List Nat) : State :=
  let cores := (s.ctx h.ctx).place.filter (fun e => squareOf e.2 == h.sq)
  let s := cores.foldl (fun s e => s.modCore h.ctx e.1 (fun x => { x with run := match x.run with
    | .running => .debugStopped h.sq
    | r => r })) s
  let s := s.modSquare h.sq (fun x => { x with stops := x.stops ++ [{ ctx := h.ctx, hits := hits, anyHit := !hits.isEmpty, brk := h.kind == .brk }] })
  s.skids h cores

/-- WATCHPOINT_HIT (R382, R386 to R388): hit and value records, then the stop with its skid records; while a stop lasts
the records alone. -/
def execWatchpointHit (hit : Hit) (s : State) : Host.Outcome State Fault Refusal :=
  if (s.ctx? hit.ctx).isNone then .next s else
  let s := if hit.kind = .brk then s.debugRecord hit.ctx (hitRecord hit 0 0) else
    hit.vals.foldl (fun s v => (s.debugRecord hit.ctx (hitRecord hit v.wp v.addr)).debugRecord hit.ctx (valueRecord hit v)) s
  let hits := (hit.vals.map (·.wp)).filter (fun i => match look (s.square hit.sq).watches i with
    | some w => w.ctx == hit.ctx
    | none => false)
  if (s.square hit.sq).stops.any (fun d => d.ctx == hit.ctx) then
    .next (s.modSquare hit.sq (fun x => { x with stops := x.stops.map (fun d => if d.ctx = hit.ctx then
      { d with hits := dedup (d.hits ++ hits), anyHit := d.anyHit || !hits.isEmpty, brk := d.brk || hit.kind == .brk } else d) }))
  else if hits.isEmpty && !(hit.kind == .brk && s.armed hit.sq hit.ctx) then .next s
  else .next (s.startStop hit hits)

/-- The square whose stop a core of a context stands under, be it stopped, being scanned, or saved so (R387). -/
def State.underStop (s : State) (c v : Nat) : Option Nat :=
  match (s.core c v).run with
  | .debugStopped q => some q
  | .scanning _ sq _ => sq
  | .image _ => (s.imageOf c v).bind (·.sq)
  | _ => none
/-- The cores of a context that a square's stop holds issue again; a `step` in progress ends, wherever its line is (R217, R384, R387). -/
def State.endStop (s : State) (q c : Nat) : State :=
  let s := s.modSquare q (fun x => { x with stops := x.stops.filter (fun d => d.ctx != c) })
  s.cores.foldl (fun s e =>
    if e.1.ctx ≠ c ∨ s.underStop c e.1.vc ≠ some q then s else
    (s.endStep c e.1.vc 4).modCore c e.1.vc (fun x => { x with run := match x.run with
      | .debugStopped _ => .running
      | r => r })) s

/-- Watchpoint wp of a square is cleared, and the stop that it leaves nothing to keep up ends (R384, R387). -/
def State.clearWatch (s : State) (q wp : Nat) : State :=
  match look (s.square q).watches wp with
  | none => s
  | some w =>
    let s := s.modSquare q (fun x => { x with
      watches := del x.watches wp
      stops := x.stops.map (fun d => if d.ctx = w.ctx then { d with hits := d.hits.filter (· != wp) } else d) })
    if (s.square q).stops.any (fun d => d.ctx == w.ctx && (if d.anyHit then d.hits.isEmpty else !s.armed q w.ctx)) then s.endStop q w.ctx else s

end Sys2Proof.Machine
end

