-- ==== Sys2Proof/Machine/Host.lean ====
section
/-!
DEFINITION. The host port's own traffic: WRITE and READ frames on windows (R374, R375), ARP and echo requests and priority
flow control (R371).
-/
namespace Sys2Proof.Machine

/-! ## Windows (R374) -/

/-- A frame of type ty that may take effect now: it arrives and is next in sequence. -/
def State.frameNext (s : State) (h : Hdr) (ty : Nat) : Bool :=
  match (s.arrived h ty).1 with
  | some x => h.seq == x.expect
  | none => false

/-- The stretches of an access within a window: its context and they, or none for status 1 (R308, R374). -/
def State.frameSpans (s : State) (h : Hdr) (window offset n : Nat) (wr : Bool) : Option (Nat × List Span) :=
  match look s.hub.windows window with
  | none => none
  | some w =>
    if w.sess ≠ h.sess ∨ (if wr then w.wr else w.rd) = false ∨ w.size < offset + n ∨ 8192 < n then none
    else (s.mapVa w.ctx (w.base + offset) n (!wr) wr).map (fun ss => (w.ctx, ss))

/-- The bytes of an access in lines: the first byte in each. -/
def lineHeads (ias : List Nat) : List Nat :=
  (dedup (ias.map (fun a => a / 128 * 128))).map (fun la => (ias.find? (fun a => a / 128 * 128 == la)).getD la)

/-- What stands against a host access to a byte's page: status 1 or 2 (R374). A host access takes no bank-share fault. -/
def State.hostStatus (s : State) (c : Nat) (wr : Bool) (ia : Nat) : Option Nat :=
  if cfgIa ≤ ia then (if wr then some 1 else none) else
  match s.walk c ia with
  | .error _ => some 2
  | .ok (L, e) => if (if wr then !peWr e || isCodeFrame (leafPa L e ia) else !peRd e) then some 1 else none

/-- The hub's access to a page at its home: it leaves the page's mark (R310), a read its line in L2 (R281) and its DRAM symbols corrected
(R393), and before a write the checkpoint engine copies the granule (R380). None: it waits, since the page's virtual cache is being
released, no way of L2 is free for its line (R287), or a cut's target cannot take the granule. -/
def State.hostOpen (s : State) (c : Nat) (wr : Bool) (ia : Nat) : Option State :=
  match decide (cfgIa ≤ ia), s.walk c ia with
  | false, .ok (L, e) =>
    if (s.vcOf c (peVc e)).state == .releasing then none else
    match s.touchL2 c (peVc e) (leafPa L e ia) (if wr then [ia % 128] else []) false with
    | none => none
    | some t => if wr then (s.markLeaf c ia false).cowStep c (granuleOf ia) else some ((t.correctDram c (leafPa L e ia)).markLeaf c ia false)
  | _, _ => some s
/-- The same for every page of an access. -/
def State.hostOpens (s : State) (c : Nat) (wr : Bool) (ias : List Nat) : Option State := (lineHeads ias).foldlM (fun s ia => State.hostOpen s c wr ia) s

/-- The status of an access, or where it goes. -/
inductive HostGo where
  | status (n : Nat)
  | wait
  | go (ctx : Nat) (ias : List Nat)
deriving DecidableEq, Repr

def State.hostGo (s : State) (h : Hdr) (window offset n : Nat) (wr : Bool) : HostGo :=
  match s.frameSpans h window offset n wr with
  | none => .status 1
  | some (c, ss) =>
    let ias := spanIas ss
    match (lineHeads ias).findSome? (s.hostStatus c wr) with
    | some k => .status k
    | none => if (s.hostOpens c wr ias).isNone then .wait else .go c ias

def hostWho : Who := { kind := .host }

/-- HOST_WRITE (R374, R375): every byte is performed at its home, then WSTAT, then the acknowledgement. -/
def execHostWrite (h : Hdr) (window offset : Nat) (data : List Byte) (s : State) : Host.Outcome State Fault Refusal :=
  if s.frameNext h 0x20 && s.hostGo h window offset data.length true == .wait then .next (s.post (.hostWrite h window offset data)) else
  match s.takeFrame h 0x20 with
  | (none, s) => .next s
  | (some s, _) =>
    match s.hostGo h window offset data.length true with
    | .go c ias =>
      let s := (s.hostOpens c true ias).getD s
      let t := (s.writeIa c (ias.zip data)).observe s c 0 hostWho .g (spansOf ias) false true
      .next ((t.sendSess h.sess (.wstat h.sess 0)).tookEffect h)
    | .status k => .next ((s.sendSess h.sess (.wstat h.sess k)).tookEffect h)
    | .wait => .next s

/-- HOST_READ (R374, R375): the bytes as their homes hold them; nothing is delivered with status 3. -/
def execHostRead (h : Hdr) (window offset len : Nat) (s : State) : Host.Outcome State Fault Refusal :=
  if s.frameNext h 0x21 && s.hostGo h window offset len false == .wait then .next (s.post (.hostRead h window offset len)) else
  match s.takeFrame h 0x21 with
  | (none, s) => .next s
  | (some s, _) =>
    match s.hostGo h window offset len false with
    | .go c ias =>
      let s := (s.hostOpens c false ias).getD s
      (match s.badByte c ias with
       | some a => .next (((s.reportBad c a).sendSess h.sess (.data h.sess 3 [])).tookEffect h)
       | none =>
         let t := s.observe s c 0 hostWho .g (spansOf ias) true false
         .next ((t.sendSess h.sess (.data h.sess 0 (ias.map (s.homeByte c)))).tookEffect h))
    | .status k => .next ((s.sendSess h.sess (.data h.sess k [])).tookEffect h)
    | .wait => .next s

/-! ## The port (R371) -/

/-- The port answers a request: the device is up, the packet one that the port takes, and the address one of the port's. -/
def State.answersAsk (s : State) (a : Ask) : Bool := s.poweredUp && s.packetOk a.net && s.hub.addrs.contains a.addr

/-- ARP_REQUEST (R371, R399): ARP or neighbour discovery, answered for an address of the port. -/
def execArpRequest (a : Ask) (s : State) : Host.Outcome State Fault Refusal := .next (if s.answersAsk a then s.send (.arp a.addr) else s)

/-- ICMP_ECHO (R371). -/
def execIcmpEcho (a : Ask) (s : State) : Host.Outcome State Fault Refusal := .next (if s.answersAsk a then s.send (.icmp a.payload) else s)

/-- The frames of priorities that are no longer paused leave, in order. -/
def State.releasePort (s : State) : State :=
  let held (e : Nat × Nat × Frame) : Bool := s.hub.paused.getLsbD (Config.sessionPriority e.1 % 8)
  let t : State := { s with hub := { s.hub with portQueue := s.hub.portQueue.filter held } }
  (s.hub.portQueue.filter (fun e => !held e)).foldl (fun s e => s.emit e.1 e.2.1 e.2.2) t

/-- PRIORITY_FLOW_CONTROL_FRAME (R371): each priority that the frame names is paused or resumes. -/
def execPriorityFlowControlFrame (classes paused : BitVec 8) (s : State) : Host.Outcome State Fault Refusal :=
  if !s.poweredUp then .next s else
  let s : State := { s with hub := { s.hub with paused := (s.hub.paused &&& ~~~classes) ||| (paused &&& classes) } }
  .next s.releasePort

end Sys2Proof.Machine
end

