-- ==== Sys2Proof/Machine/Hub.lean ====
section
/-!
DEFINITION. Management operations of R376 on contexts, queues, windows, sessions, the fabric (R365, R367), ports,
settings, and market allotments (R272). The rest of R376 stands with what it acts on.
-/
namespace Sys2Proof.Machine

/-! ## Contexts (R14, R15, R279, R376) -/

/-- The vc0 record when management supplies none (R279): set group 1, 16 shares, every square and compute die present. -/
def State.defaultVc0 (s : State) : BitVec 512 :=
  BitVec.ofNat 512 (maskOf 40 s.squarePresent + 16 * 2 ^ 64 + 2 ^ 80 + maskOf 4 s.diePresent * 2 ^ 98)

/-- The cores present (R14, R394). -/
def State.coresPresent (s : State) : Nat := ((List.range Config.cores).filter s.corePresent).length

/-- The context that a creation would make, before vc0 has its shares; its default register backing area has 1 MiB for each virtual
core. -/
def State.newContext (s : State) (c n quota : Nat) (priv : Bool) (root : Nat) : State :=
  { s with
    ctxs := put s.ctxs c { n := n, quota := quota, backing := n * 2 ^ 20, set := { priv := priv, tsel := c }, trans := { root := root } }
    cores := s.cores ++ (List.range n).map (fun v => (⟨c, v⟩, { run := .unplaced })) }

/-- CONTEXT_CREATE (R376): refused for a number in use or past the 1,024 that can be resident, n out of range, a vc0 record
that R278 refuses or without shares, or shares that cannot be granted. -/
def execContextCreate (h : Hdr) (ctx n quota : Nat) (priv : Bool) (root : Nat) (vc0 : Option (BitVec 512)) (s : State) :
    Host.Outcome State Fault Refusal :=
  s.mgmt h 0x01 (fun s =>
    let r := vc0.getD s.defaultVc0
    if (s.ctx? ctx).isSome || decide (Config.maxContexts ≤ ctx) || n == 0 || decide (s.coresPresent < n) || s.vcRefused r .undefined then refused s else
    let t := s.newContext ctx n quota priv root
    match t.grantShares ctx r 0 (vcShares r) with
    | none => refused s
    | some sh => done (t.modVc ctx 0 (fun _ => { state := .stable, recd := r, shares := sh })))

/-- CONTEXT_DESTROY (R376): its launches complete with code 0x09 and its jobs stop. -/
def execContextDestroy (h : Hdr) (ctx : Nat) (s : State) : Host.Outcome State Fault Refusal :=
  s.mgmt h 0x02 (fun s =>
    match s.ctx? ctx with
    | none => noObject s
    | some _ => done (s.dropContext ctx))

/-! ## Queues (R222) -/

/-- A queue holds an accepted launch that has not completed. -/
def State.queueBusy (s : State) (q : Nat) : Bool := s.launches.any (fun e => e.2.queue == q && e.2.state != .done)
/-- Launches of an earlier binding are no launches of the queue any more: their queue number leaves the range. -/
def State.forgetQueue (s : State) (q : Nat) : State :=
  { s with launches := s.launches.map (fun e => if e.2.queue = q then (e.1, { e.2 with queue := Config.queues }) else e) }

/-- QUEUE_BIND (R222): sequence numbers start at 1. -/
def execQueueBind (h : Hdr) (queue ctx cls : Nat) (s : State) : Host.Outcome State Fault Refusal :=
  s.mgmt h 0x03 (fun s =>
    if Config.queues ≤ queue ∨ (s.ctx? ctx).isNone then noObject s
    else if 3 < cls ∨ s.queueBusy queue then refused s
    else
      let t := s.forgetQueue queue
      done { t with queues := put t.queues queue { ctx := ctx, cls := cls } })

/-- QUEUE_UNBIND (R222). -/
def execQueueUnbind (h : Hdr) (queue : Nat) (s : State) : Host.Outcome State Fault Refusal :=
  s.mgmt h 0x03 (fun s =>
    match look s.queues queue with
    | none => noObject s
    | some _ =>
      if s.queueBusy queue then refused s else
      let t := s.forgetQueue queue
      done { t with queues := del t.queues queue })

/-! ## Sessions and windows (R373, R374) -/

/-- WINDOW_OPEN_CLOSE (R374): a window is a span of the virtual addresses of the context that its session is bound to. -/
def execWindowOpenClose (h : Hdr) (opn : Bool) (window sess ctx base size : Nat) (rd wr : Bool) (s : State) : Host.Outcome State Fault Refusal :=
  s.mgmt h 0x08 (fun s =>
    let set (ws : Tbl Nat Window) : State := { s with hub := { s.hub with windows := ws } }
    if opn then
      match s.ctx? ctx, look s.hub.sessions sess with
      | some _, some x =>
        if (sess != 0 && x.ctx != ctx) || (look s.hub.windows window).isSome || size == 0 || decide (2 ^ 57 < base + size) then refused s
        else done (set (put s.hub.windows window { sess := sess, ctx := ctx, base := base, size := size, rd := rd, wr := wr }))
      | _, _ => noObject s
    else if (look s.hub.windows window).isNone then noObject s
    else done (set (del s.hub.windows window)))

/-- Closing a session closes its windows; a cut that streams to it ends with code 0x07 (R379). -/
def State.closeSession (s : State) (n c : Nat) : State :=
  let s := match s.activeCut c with
    | some (j, x) => (match x.kind with
      | .cut r _ _ => if cutKind r = 1 ∧ s.sessionOf c = n ∧ !x.retired then s.jobCode c j 7 else s
      | _ => s)
    | none => s
  { s with hub := { s.hub with sessions := del s.hub.sessions n, windows := s.hub.windows.filter (fun w => w.2.sess != n) } }

/-- SESSION_OPEN_CLOSE (R373): session 0 is the boot ROM's. -/
def execSessionOpenClose (h : Hdr) (opn : Bool) (sess ctx : Nat) (key : BitVec 256) (s : State) : Host.Outcome State Fault Refusal :=
  s.mgmt h 0x09 (fun s =>
    if sess = 0 ∨ Config.sessions ≤ sess then refused s
    else if opn then
      (match s.ctx? ctx, look s.hub.sessions sess with
       | none, _ => noObject s
       | some _, some _ => refused s
       | some _, none => done { s with hub := { s.hub with sessions := put s.hub.sessions sess { ctx := ctx, key := key } } })
    else match look s.hub.sessions sess with
      | none => noObject s
      | some x => done (s.closeSession sess x.ctx))

/-! ## The fabric (R364 to R367) -/

/-- The record is refused (R365). The device id of a torus must be 0. -/
def fabricRefused (r : BitVec 512) : Bool :=
  fabMode r == 3 || bits r.toNat 4 12 != 0 || bits r.toNat 96 416 != 0 ||
  (List.range 4).any (fun i => decide (fabSize r i ≤ fabCoord r i) || (decide (fabDims r ≤ i) && fabSize r i != 1)) ||
  decide (65536 < ((List.range 4).map (fabSize r)).foldl (· * ·) 1) ||
  (fabMode r == 2 && (fabDims r == 1 || bits r.toNat 16 16 != 0))

/-- FABRIC_RECORD_WRITE (R365): routes only in routed mode. -/
def execFabricRecordWrite (h : Hdr) (recd : BitVec 512) (routes : List (Nat × Nat)) (s : State) : Host.Outcome State Fault Refusal :=
  s.mgmt h 0x0C (fun s =>
    if fabricRefused recd || (fabMode recd != 1 && !routes.isEmpty) || routes.any (fun e => decide (32 ≤ e.2)) then refused s
    else done { s with hub := { s.hub with fabric := { s.hub.fabric with recd := recd, routes := routes } } })

/-- FABRIC_GROUP_OP (R367): at most one context per device. -/
def execFabricGroupOp (h : Hdr) (create : Bool) (gid ctx dev : Nat) (s : State) : Host.Outcome State Fault Refusal :=
  s.mgmt h 0x0D (fun s =>
    let f := s.hub.fabric
    let set (f : Fabric) : State := { s with hub := { s.hub with fabric := f } }
    if create then
      if f.groupIds.contains gid || decide (2 ^ 32 ≤ gid) then refused s else done (set { f with groupIds := f.groupIds ++ [gid] })
    else if !f.groupIds.contains gid || (dev == s.ownDevice && (s.ctx? ctx).isNone) then noObject s
    else if f.groups.any (fun g => g.1 == gid && g.2.1 == dev) then refused s
    else done (set { f with groups := f.groups ++ [(gid, dev, ctx)] }))

/-- Port states in the order of R364; the codes are not given (notes/assumptions/32.md). -/
def portStateCode : PortState → Nat
  | .down => 0 | .training => 1 | .up => 2 | .half => 3

/-- The fixed properties of a Seler port (R364): lanes, gigabits per second of a lane and of payload, bytes of a flit, of its payload, its
header and its CRC, virtual channels and classes, and nanoseconds per hop. -/
def portProps : List Nat := [4, 224, 800, 64, 56, 4, 4, 8, 2, 600]

/-- PORT_STATUS (R364, R371, R376): a Seler port's state, retransmitted flits, the host port's error count and the port's properties; or the
host port's addresses and up to 8 VLAN ids are set. -/
def execPortStatus (h : Hdr) (port : Nat) (set : Option (List Nat × List Nat)) (s : State) : Host.Outcome State Fault Refusal :=
  s.mgmt h 0x0E (fun s =>
    match set with
    | some l => if 8 < l.2.length then refused s else done { s with hub := { s.hub with addrs := l.1, vlans := l.2 } }
    | none =>
      if 32 ≤ port || s.hub.ras.absentPorts.contains port then noObject s else
      let f := s.hub.fabric
      (mgDone, [portStateCode ((look f.ports port).getD .down), (look f.retransmits port).getD 0, s.hub.portErrors] ++ portProps, s))

/-! ## Settings (R223, R319) -/

/-- DELAY_THRASH_SET (R376): a class's pre-emption delay, or the thrash parameters within the limits of R319. -/
def execDelayThrashSet (h : Hdr) (cls delay : Nat) (thrash : Option (Nat × Nat × Nat)) (s : State) : Host.Outcome State Fault Refusal :=
  s.mgmt h 0x10 (fun s =>
    match thrash with
    | none => if 3 < cls then refused s else done { s with hub := { s.hub with delays := setNth s.hub.delays cls delay } }
    | some (n, w, t) =>
      if n < 1 ∨ 255 < n ∨ w < 10000 ∨ 100000000 < w ∨ 1000000000 < t then refused s
      else done { s with hub := { s.hub with thrash := (n, w, t) } })

/-! ## Market allotments (R272) -/

/-- Bytes of the old span [ob, ob + os) that the new one [b, b + z) gives up. -/
def givesUp (ob os b z a n : Nat) : Bool :=
  let lo := max a ob
  let hi := min (a + n) (ob + os)
  decide (lo < hi) && !(decide (b ≤ lo) && decide (hi ≤ b + z))

/-- An engine job, or an access already issued, still has to do with bytes that a change would remove. -/
def State.allotBusy (s : State) (c d ob os b z : Nat) : Bool :=
  let out (a n : Nat) : Bool := bits a 25 2 == d && givesUp ob os b z (bits a 0 25) n
  (s.ctx c).jobs.any (fun j => !j.2.retired && j.2.ivals.any (fun i => i.lvl == .m && i.spans.any (fun y => out y.1 (y.2 + 1 - y.1)))) ||
  s.threads.any (fun e => e.1.ctx == c && e.2.held.any (fun x => match reqChip x.req with
    | some (.m, a, n) => out a n
    | _ => false))

/-- The bytes newly added to an allotment become zero. -/
def State.zeroAdded (s : State) (d ob os b z : Nat) : State :=
  let s : State := { s with badChip := s.badChip.filter (fun x => !(x.lvl == .m && x.owner.1 == d && decide (b ≤ x.addr) && decide (x.addr < b + z)) ||
    (decide (ob ≤ x.addr) && decide (x.addr < ob + os))) }
  s.modDie d (fun x => { x with market := x.market.filter (fun e =>
    !(decide (b ≤ e.1) && decide (e.1 < b + z)) || (decide (ob ≤ e.1) && decide (e.1 < ob + os))) })

/-- MARKET_ALLOTMENT_SET (R272): a change that removes bytes waits until they are at rest. Size 0 gives the allotment up. -/
def execMarketAllotmentSet (h : Hdr) (ctx die base size : Nat) (s : State) : Host.Outcome State Fault Refusal :=
  let (ob, os) := (look (s.ctx ctx).trans.market die).getD (0, 0)
  if s.poweredUp && os != 0 && s.allotBusy ctx die ob os base size then .next (s.post (.marketAllotmentSet h ctx die base size)) else
  s.mgmt h 0x14 (fun s =>
    match s.ctx? ctx with
    | none => noObject s
    | some _ =>
      if !s.diePresent die || base % 65536 != 0 || size % 65536 != 0 || decide (2 ^ 25 < base + size) ||
          size != 0 && s.ctxs.any (fun e => e.1 != ctx && (match look e.2.trans.market die with
            | some (b, z) => decide (b < base + size) && decide (base < b + z)
            | none => false)) then refused s
      else
        let t := s.zeroAdded die ob os base size
        done (t.modCtx ctx (fun x => { x with trans := { x.trans with
          market := if size = 0 then del x.trans.market die else put x.trans.market die (base, size) } })))

end Sys2Proof.Machine
end

