-- ==== Sys2Proof/Machine/System.lean ====
section
/-!
DEFINITION. Major 0x3E: `trap`, `brk`, `nop` (R213), `scan` (R215), `wpset`, `wpclr` (R216), `step` (R217, R383); the return
of a long-latency result (R74, R107) and the promotion of a gang (R242).
-/
namespace Sys2Proof.Machine

/-! ## Returns and promotions -/

/-- LONG_LATENCY_RETURN (R74, R107); a stopped core's interface catches it (R349). -/
def execLongLatencyReturn (r : Result) (s : State) : Host.Outcome State Fault Refusal := .next ((s.catchFlits r.ctx r.vc r.lanes.length).applyResult r)

/-- GANG_PROMOTION (R242): the gang that has been due longest enters the active set; of a full set, the gang that has been
in it longest leaves. -/
def execGangPromotion (ctx vc : Nat) (s : State) : Host.Outcome State Fault Refusal :=
  let gs := s.coreGangs ctx vc
  let rs := s.gangSets ctx vc gs
  match s.duePromotion (dieOf (s.phys ctx vc)) gs rs with
  | none => .next s
  | some p =>
    let now := s.aux.time
    let act := rs.filter (·.active)
    let rs := match act with
      | [] => rs
      | a :: as =>
        if act.length < 8 then rs else
        setActive rs (as.foldl (fun b r => if r.since < b.since then r else b) a) false now
    .next (s.modCore ctx vc (fun x => { x with gangs := setActive rs p true now }))

/-! ## Unprivileged forms (R213) -/

/-- `trap n` (R213). -/
def execTrap (_sw : Bool) (n : Fld) (s : State) : Host.Outcome State Fault Refusal :=
  .next (s.trapAll { code := .software, cause := n.toNat })

/-- `brk` (R213, R386). -/
def execBrk (sw : Bool) (s : State) : Host.Outcome State Fault Refusal :=
  let i := s.issue
  let q := squareOf s.issPhys
  if !s.armed q i.ctx then .next (s.trapAll { code := .breakpoint }) else
  let s := s.finish sw i.lanes
  .next (s.post (.watchpointHit { sq := q, vals := [], kind := .brk, lev := 0, ctx := i.ctx, vc := i.vc, line := i.line, lanes := i.lanes, pos := i.pos
                                  counts := s.squareCounts i.ctx q }))

/-- `nop` (R213). -/
def execNop (sw : Bool) (s : State) : Host.Outcome State Fault Refusal := .next (s.finish sw s.issue.lanes)

/-! ## `scan` (R215) -/

/-- The context and virtual core that a physical core holds. -/
def State.holder (s : State) (p : Nat) : Option (Nat × Nat) :=
  s.ctxs.findSome? (fun e => (e.2.place.find? (fun x => x.2 == p)).map (fun x => (e.1, x.1)))

/-- A scan job of any op is in progress on a physical core. -/
def State.scanBusy (s : State) (p : Nat) : Bool := [0, 1, 2].any (fun op => (s.scanJob op p).isSome)

/-- Is the core in the right state for the op? -/
def State.scanReady (s : State) (op p : Nat) : Bool :=
  s.corePresent p && !s.scanBusy p &&
  (match op with
   | 0 => (match s.holder p with
     | some (c, v) => s.coreHere c v
     | none => false)
   | 1 => s.coreIdle p
   | _ => s.coreIdle p && s.hub.stopped.any (fun e => e.1 == p))

/-- Ops 0 and 1 need the buffer mapped, for writing and for reading: the range fault of a job's bytes (R308). For a buffer that is
not 4-KiB aligned R215 states no answer and R219 no trap: the job uses it where it lies (DESIGN CHOICE,
notes/assumptions/66.md). -/
def State.bufferTrap (s : State) (c op va : Nat) : Option Trap :=
  if op = 2 then none
  else if 2 ^ 57 ≤ va ∨ (s.mapVa c va 0x400000 (op == 1) (op == 0)).isNone then some { code := .range, info := va }
  else none

/-- What a scan job starts. -/
def State.startScan (s : State) (c n op p : Nat) : State :=
  match op with
  | 0 => (match s.holder p with
    | some (c', v') => s.post (.forcedStop c' v' .scan)
    | none => s)
  | 1 => s.post (.imageRestore c n p)
  | _ => (match s.hub.stopped.find? (fun e => e.1 == p) with
    | some (_, c', v') => (((s.placeCore c' v' p).wakeHeld c').wakeUnits).post (.jobRetire c n)
    | none => s.post (.jobRetire c n))

/-- `scan d, [a], b` (R215): the op of b decides. -/
def State.execScan (s : State) (sw : Bool) (d a b : Fld) : Host.Outcome State Fault Refusal :=
  let ops : List OpSpec := [⟨.src, a, 2⟩, ⟨.src, b, 1⟩, ⟨.dst, d, 1⟩]
  match s.prepare true ops with
  | .halt s => .next s
  | .go lanes vals s1 =>
    let c := s.issue.ctx
    let vs := (vals.headD (0, [])).2
    let va := (w64 (arg vs 0)).toNat
    let x := (w32 (arg vs 1)).toNat
    let op := bits x 12 2
    let p := bits x 0 10
    let reply (t : State) (w : Word) : State := (t.deliver (readsChannel ops) lanes ⟨.dst, d, 1⟩ (lanes.map (fun l => (l, [w], 0#5)))).finish sw lanes
    if bits x 10 2 ≠ 0 ∨ bits x 14 18 ≠ 0 ∨ op = 3 then .next (reply s1 0xFFFFFFFE#32)
    else if !s.scanReady op p then .next (reply s1 0xFFFFFFFD#32)
    else match s.bufferTrap c op va with
      | some t => .next (s1.takeTrap s.issKey lanes s.issue.pos t)
      | none =>
        match leastFree ((s.ctx c).jobs.map (·.1)) Config.jobsPerContext with
        | none => .next s.stall
        | some n =>
          let h := jobHandle .scan ((look (s.ctx c).jobGens n).getD 0) n
          let s2 := reply (s1.addJob c s.issue.vc .scan n { kind := .scan op p va, total := 0, regions := [] } []) h
          .next (s2.startScan c n op p)

/-- `scan`, op 0: stop and stream out. -/
def execScanStop (sw : Bool) (d a b : Fld) (s : State) : Host.Outcome State Fault Refusal := s.execScan sw d a b
/-- `scan`, op 1: restore. -/
def execScanRestore (sw : Bool) (d a b : Fld) (s : State) : Host.Outcome State Fault Refusal := s.execScan sw d a b
/-- `scan`, op 2: restart in place. -/
def execScanRestart (sw : Bool) (d a b : Fld) (s : State) : Host.Outcome State Fault Refusal := s.execScan sw d a b

/-! ## Watchpoints and `step` (R216, R217) -/

/-- The watched bytes are named in the form of their level, and of a global address the intermediate address is watched;
none where `wpset` refuses: an on-chip address beyond its level's size is refused as well, DESIGN CHOICE, notes/assumptions/117.md. -/
def State.watchAt (s : State) (c lev len va : Nat) : Option Nat :=
  let n := 2 ^ len
  if va % n ≠ 0 then none else
  match lev with
  | 0 => if 2 ^ 57 ≤ va then none else
    (match mapSpans (s.ctx c).trans.ranges va n false false with
     | some (sp :: _) => some sp.ia
     | _ => none)
  | 1 => if va < 2 ^ 27 then some va else none
  | 2 => if va < 2 ^ 22 then some va else none
  | _ => if va < 2 ^ 20 then some va else none

/-- `wpset d, [a], b` (R216, R381). -/
def execWpset (sw : Bool) (d a b : Fld) (s : State) : Host.Outcome State Fault Refusal :=
  let ops : List OpSpec := [⟨.src, a, 2⟩, ⟨.src, b, 1⟩, ⟨.dst, d, 1⟩]
  match s.prepare true ops with
  | .halt s => .next s
  | .go lanes vals s =>
    let vs := (vals.headD (0, [])).2
    let va := (w64 (arg vs 0)).toNat
    let x := (w32 (arg vs 1)).toNat
    let q := bits x 26 6
    let c := bits x 16 10
    let len := bits x 4 2
    let lev := bits x 2 2
    let reply (t : State) (w : Word) : State := (t.deliver (readsChannel ops) lanes ⟨.dst, d, 1⟩ (lanes.map (fun l => (l, [w], 0#5)))).finish sw lanes
    if bits x 8 8 ≠ 0 ∨ bits x 6 2 = 3 ∨ !s.squarePresent q ∨ (s.ctx? c).isNone then .next (reply s 1#32) else
    match s.watchAt c lev len va with
    | none => .next (reply s 1#32)
    | some ad =>
      let w : Watch := { ctx := c, kind := bits x 6 2, lev := lev, len := len, addr := ad, shown := va }
      .next (reply (s.modSquare q (fun y => { y with watches := put y.watches (bits x 0 2) w })) 0#32)

/-- `wpclr b` (R216, R384). -/
def execWpclr (sw : Bool) (b : Fld) (s : State) : Host.Outcome State Fault Refusal :=
  match s.prepare true [⟨.src, b, 1⟩] with
  | .halt s => .next s
  | .go lanes vals s =>
    let x := (w32 (arg ((vals.headD (0, [])).2) 0)).toNat
    .next ((s.clearWatch (bits x 26 6) (bits x 0 2)).finish sw lanes)

/-- The issuing gang waits for the end of a `step` that it has started (R383). -/
def State.stepping (s : State) : Bool :=
  s.cores.any (fun e => match e.2.step with
    | some st => st.reply.ctx == s.issue.ctx && st.reply.vc == s.issue.vc && st.reply.line == s.issue.line &&
        st.reply.lanes.any (fun l => s.issue.lanes.contains l)
    | none => false)

/-- The stopped virtual core that a physical core holds, if it holds a live line of that number. -/
def State.stoppedLine (s : State) (p line : Nat) : Option (Nat × Nat) :=
  match s.holder p with
  | some (c, v) => (match (s.core c v).run with
    | .debugStopped _ => if (s.liveLines c v).contains line then some (c, v) else none
    | _ => none)
  | none => none

/-- A `step` is in progress in a square. -/
def State.squareStepped (s : State) (q : Nat) : Bool :=
  s.cores.any (fun e => e.2.step.isSome && (match s.phys? e.1.ctx e.1.vc with
    | some p => squareOf p == q
    | none => false))

/-- `step d, a` (R217, R383, R387). -/
def execStep (sw : Bool) (d a : Fld) (s : State) : Host.Outcome State Fault Refusal :=
  if s.stepping then .next s.stall else
  match s.prepare true (da 1 1 d a) with
  | .halt s => .next s
  | .go lanes vals s =>
    let x := (w32 (arg ((vals.headD (0, [])).2) 0)).toNat
    let p := bits x 0 10
    let line := bits x 10 4
    let count := bits x 16 16
    let reply (w : Word) : Host.Outcome State Fault Refusal :=
      .next ((s.deliver (readsChannel (da 1 1 d a)) lanes ⟨.dst, d, 1⟩ (lanes.map (fun l => (l, [w], 0#5)))).finish sw lanes)
    if bits x 14 2 ≠ 0 ∨ count = 0 ∨ !s.corePresent p then reply 2#32
    else if (s.square (squareOf p)).stops.isEmpty then reply 1#32
    else if s.squareStepped (squareOf p) then reply 3#32
    else match s.stoppedLine p line with
      | none => reply 2#32
      | some (c, v) =>
        let r := s.countIssue.replyTo lanes ⟨.dst, d, 1⟩
        .next ((r.1.modCore c v (fun y => { y with step := some { line := line, left := count, made := 0, reply := r.2, sb := sw } })).stall)

end Sys2Proof.Machine
end

