-- ==== Sys2Proof/Machine/Launch.lean ====
section
/-!
DEFINITION. Work queues and launches (R222 to R229), placement (R230 to R236), the data section (R237), completion (R238), edges and
buffer actions (R226 to R228), and the pre-emption delay (R223).
-/
namespace Sys2Proof.Machine

/-! ## The launch record (R224 to R226) -/

def lrF (r : BitVec 2048) (lo n : Nat) : Nat := bits r.toNat lo n
def lrAgrp (r : BitVec 2048) : Nat := lrF r 0 11
def lrFvcs (r : BitVec 2048) : Nat := lrF r 15 8
def lrFbuf (r : BitVec 2048) : Nat := lrF r 23 7
def lrCores (r : BitVec 2048) : Bool := bit r.toNat 30
def lrSerial (r : BitVec 2048) : Bool := bit r.toNat 31
def lrData (r : BitVec 2048) : Nat := lrF r 64 57
def lrAgalloc (r : BitVec 2048) : Nat := lrF r 208 11
def lrRback (r : BitVec 2048) : Nat := lrF r 256 57
def lrRbsz (r : BitVec 2048) : Nat := lrF r 320 32
/-- Starting values of g0 to g7. -/
def lrGinit (r : BitVec 2048) : List Word := 0#32 :: (List.range 7).map (fun k => BitVec.ofNat 32 (lrF r (384 + 32 * k) 32))
/-- Role entries. -/
def lrRole (r : BitVec 2048) (k : Nat) : Nat := lrF r (640 + 128 * k) 128
def roleCount (x : Nat) : Nat := bits x 0 40
def rolePol (x : Nat) : Nat := bits x 64 2
def roleFirst (x : Nat) : Nat := bits x 80 10
def roleSpan (x : Nat) : Nat := bits x 96 10 + 1
/-- Slice units of a role, and the flat index of its first thread (R230). -/
def roleUnits (x : Nat) : Nat := (roleCount x + 3) / 4
def roleBase (r : BitVec 2048) (k : Nat) : Nat := ((List.range k).map (fun j => roleCount (lrRole r j))).sum
/-- Dependency edges; number 4 is the serial edge. -/
def lrEdge (r : BitVec 2048) (e : Nat) : Nat := if e < 4 then lrF r (1152 + 64 * e) 64 else 0
def edgeValid (x : Nat) : Bool := bit x 55
def lrEdgeBuf (r : BitVec 2048) (e : Nat) : Nat := if e < 4 then bits (lrEdge r e) 48 7 else lrF r 192 7
def lrEdgeVcs (r : BitVec 2048) (e : Nat) : Nat := if e < 4 then bits (lrEdge r e) 56 8 else lrF r 200 8
/-- The edges of a record. -/
def lrEdges (r : BitVec 2048) : List Nat := (List.range 4).filter (fun e => edgeValid (lrEdge r e)) ++ (if lrSerial r then [4] else [])
/-- The classes of the cinv actions of all edges (R228). -/
def lrCinv (r : BitVec 2048) : Nat := (lrEdges r).foldl (fun m e => if (lrEdgeBuf r e).testBit 1 then m ||| lrEdgeVcs r e else m) 0

/-- The virtual core of a slice unit (R231). -/
def unitCore (x u : Nat) : Nat :=
  let V := roleSpan x
  roleFirst x + (match rolePol x with
    | 0 => u % V
    | 1 => u / 128 % V
    | _ => u / ((roleUnits x + V - 1) / V))

/-! ## Checks (R229) -/

def lrReserved (r : BitVec 2048) : Bool :=
  [(1408, 640), (608, 32), (352, 32), (313, 7), (219, 5), (199, 1), (185, 7), (121, 7), (11, 4)].any (fun x => lrF r x.1 x.2 != 0) ||
  [0, 1, 2, 3].any (fun k => let x := lrRole r k
    bits x 106 22 != 0 || bits x 90 6 != 0 || bits x 66 14 != 0 || bits x 54 10 != 0 || bits x 40 8 != 0) ||
  [0, 1, 2, 3].any (fun e => let x := lrEdge r e
    bits x 45 3 != 0 || (!edgeValid x && x != 0))

/-- Code 0x01. Without an image its role table and data section cannot be compared. -/
def lrRefused (r : BitVec 2048) (n : Nat) (k : Option Kernel) : Bool :=
  let roles := match k with
    | some k => k.roles.length
    | none => 4
  let data := match k with
    | some k => k.data.length
    | none => 0
  lrReserved r || decide (1024 < lrAgrp r) || decide (1024 < lrAgalloc r) || (lrAgalloc r != 0 && lrAgrp r == 0) || (lrFbuf r).testBit 1 ||
  [0, 1, 2, 3].any (fun j => let x := lrRole r j
    decide (32 < bits x 48 6) || rolePol x == 3 || (decide (roles ≤ j) && x != 0) || decide (n < roleFirst x + roleSpan x)) ||
  nthrOf r == 0 || decide (2 ^ 40 ≤ nthrOf r) ||
  (data != 0 && lrData r % 64 != 0) || saveBase r % 16 != 0 || lrRback r % 4096 != 0 ||
  (saveStride r != 0 && (decide (saveStride r < 16) || saveStride r % 16 != 0))

/-- The image that a record names, accepted for the context and not released. -/
def State.imageFor (s : State) (c : Nat) (r : BitVec 2048) : Option Kernel :=
  match look s.kernels (khndOf r) with
  | some k => if k.ctx = c ∧ !k.released then some k else none
  | none => none

/-- The launch with a sequence number of a queue. -/
def State.launchBy (s : State) (q seq : Nat) : Option (Nat × Launch) :=
  s.launches.reverse.find? (fun e => e.2.queue == q && e.2.seq == seq)

def seqPrev (n : Nat) : Nat := if n = 1 then 0xFFFFFFFF else n - 1

/-- The producer of an edge: none for the serial edge of a queue's first launch. -/
def State.producer (s : State) (l : Launch) (e : Nat) : Option (Nat × Launch) :=
  if e < 4 then s.launchBy (bits (lrEdge l.recd e) 32 13) (bits (lrEdge l.recd e) 0 32) else s.launchBy l.queue (seqPrev l.seq)

/-- Code 0x03. -/
def State.edgeRefused (s : State) (c : Nat) (r : BitVec 2048) : Bool :=
  (List.range 4).any (fun e => let x := lrEdge r e
    edgeValid x && !((match look s.queues (bits x 32 13) with
      | some q => q.ctx == c
      | none => false) && (s.launchBy (bits x 32 13) (bits x 0 32)).isSome))

/-- Slice units that a role sends to a virtual core. -/
def unitsOn (x v : Nat) : Nat := ((List.range (roleUnits x)).filter (fun u => unitCore x u == v)).length
/-- The threads exceed the capacity of their spans: on some core the roles need more than its 16 lines, of 8 slices each
(R229, R232, R233). -/
def overCapacity (r : BitVec 2048) : Bool :=
  let roles := [0, 1, 2, 3].map (lrRole r)
  (roles.flatMap (fun x => (List.range (roleSpan x)).map (fun k => roleFirst x + k))).any (fun v =>
    decide (16 < (roles.map (fun x => (unitsOn x v + 7) / 8)).sum))

/-- The flat indices of the runs that a role's threads from index a to below b form (R234). -/
def runsOf (r : BitVec 2048) (a b : Nat) : List (List Nat) :=
  let g := lrAgrp r
  if g = 0 then [] else
  (List.range ((b - 1) / g - a / g + 1)).map (fun i =>
    let lo := max a ((a / g + i) * g)
    let hi := min b ((a / g + i + 1) * g)
    (List.range (hi - lo)).map (fun j => lo + j))

/-- The virtual core of a thread of role k, by its flat index. -/
def threadCore (r : BitVec 2048) (k t : Nat) : Nat := unitCore (lrRole r k) ((t - roleBase r k) / 4)

/-- The virtual cores of the runs of a record. -/
def runCores (r : BitVec 2048) : List (List Nat) :=
  [0, 1, 2, 3].flatMap (fun k =>
    let n := roleCount (lrRole r k)
    if n = 0 then [] else (runsOf r (roleBase r k) (roleBase r k + n)).map (fun run => dedup (run.map (threadCore r k))))
/-- A run forms a core group with more than 256 units (R234). -/
def coreRunOver (r : BitVec 2048) : Bool := decide (256 < lrAgalloc r) && (runCores r).any (fun vs => vs.length == 1)

/-- What is checked when a record is accepted (R229): of the impossible placements, those that the record alone shows. -/
def State.recordCodeOf (s : State) (c : Nat) (r : BitVec 2048) : Nat :=
  if lrRefused r (s.ctx c).n (s.imageFor c r) then 1
  else if (s.imageFor c r).isNone then 2
  else if s.edgeRefused c r then 3
  else if coreRunOver r || (lrCores r && overCapacity r) then 5 else 0

/-! ## Completion (R238) -/

def State.modLaunch (s : State) (uid : Nat) (f : Launch → Launch) : State :=
  match look s.launches uid with
  | none => s
  | some l => { s with launches := put s.launches uid (f l) }

/-- Edges whose producer is complete go on; a queue's next launch may be offered. -/
def State.offerNext (s : State) (uid queue : Nat) : State :=
  let s := s.launches.foldl (fun s e => if e.2.state ≠ .waiting then s else
    e.2.edges.foldl (fun s k => if (s.producer e.2 k).map (·.1) = some uid then s.post (.edgeSatisfied e.1 k) else s) s) s
  s.post (.launchStart queue [])

/-- A launch is complete: its code, its place in its queue, the completion message, and what waited for it. -/
def State.completeLaunch (s : State) (uid code : Nat) : State :=
  match look s.launches uid with
  | none => s
  | some l =>
    let s := s.modLaunch uid (fun l => { l with state := .done, code := code, edges := [], units := [] })
    let s : State := match look s.queues l.queue with
      | some q => { s with queues := put s.queues l.queue { q with items := q.items.filter (· != uid) } }
      | none => s
    (s.sendSess l.sess (.compl l.sess l.queue l.seq code (s.freeDepth l.queue))).offerNext uid l.queue

/-! ## Buffer actions (R227) -/

/-- A job of the producer is in flight. -/
def State.jobsLeft (s : State) (p : Launch) (cut : Bool) : Bool :=
  p.jobs.any (fun x => match look (s.ctx p.ctx).jobs x.1 with
    | some j => j.gen == x.2 && !j.retired && (if cut then j.eng == .cut else j.eng == .copy || j.eng == .chain)
    | none => false)

/-- The actions of a producer's edge but cinv: the state once they are done, or the state in which they wait. Stores and
`red` to the market have been performed when their thread exits, so mkt never waits; of those to square memory a `red` may still
have its write to come. -/
def State.bufferActions (s : State) (p : Launch) (buf vcs : Nat) : Bool × State :=
  let c := p.ctx
  let s := s.settleHalves (fun h => h.ctx == c && p.cores.contains h.vc && (if h.sq.isSome then buf.testBit 2 else buf.testBit 0 || buf.testBit 5))
  let s := if buf.testBit 0 then p.cores.foldl (fun s v => s.writeBackAll c v (fun k => vcs.testBit k)) s else s
  let s := if buf.testBit 5 then p.cores.foldl (fun s v => (s.windowLines c v).foldl (fun s la => s.writeBack c v la) s) s else s
  let waits := p.cores.any (fun v => (buf.testBit 0 && s.wbWaits c v vcs false) || (buf.testBit 5 && s.wbWaits c v 0 true)) ||
    (buf.testBit 4 && s.jobsLeft p false) || (buf.testBit 6 && s.jobsLeft p true)
  (!waits, s)

/-- EDGE_SATISFIED (R228): a producer has completed; the edge's actions are performed, and with the last edge the launch is
offered. -/
def execEdgeSatisfied (uid edge : Nat) (s : State) : Host.Outcome State Fault Refusal :=
  match look s.launches uid with
  | none => .next s
  | some l =>
    if l.state ≠ .waiting ∨ !l.edges.contains edge then .next s else
    let met (s : State) : State :=
      let s := s.modLaunch uid (fun l => { l with edges := l.edges.filter (· != edge) })
      if l.edges.all (· == edge) then s.post (.launchStart l.queue []) else s
    match s.producer l edge with
    | none => .next (met s)
    | some (_, p) =>
      if p.state ≠ .done then .next s
      else if p.code ≠ 0 then .next (s.completeLaunch uid 4)
      else match s.bufferActions p (lrEdgeBuf l.recd edge) (lrEdgeVcs l.recd edge) with
        | (true, s) => .next (met s)
        | (false, s) => .next (s.post (.edgeSatisfied uid edge))

/-- The number that the next frame of the device on a session gets. -/
def State.nextNumber (s : State) (sess : Nat) : Nat := ((look s.hub.sessions sess).map (·.next)).getD 0

/-- LAUNCH (R222, R229, R372): a record is accepted into its queue and checked. -/
def execLaunch (h : Hdr) (queue : Nat) (recd : BitVec 2048) (s : State) : Host.Outcome State Fault Refusal :=
  match s.takeFrame h 0x10 with
  | (none, s) => .next s
  | (some s, _) =>
    let refuse (s : State) (k : Nat) : Host.Outcome State Fault Refusal := .next ((s.sendSess h.sess (.accept h.sess queue 0 k (s.freeDepth queue))).tookEffect h (s.nextNumber h.sess))
    match look s.queues queue with
    | none => refuse s 1
    | some q =>
      let mine := h.sess = 0 ∨ (look s.hub.sessions h.sess).map (·.ctx) = some q.ctx
      if ¬ mine then refuse s 1
      else if Config.queueDepth ≤ q.items.length then refuse s 2 else
      let uid := s.hub.nextLaunch
      let need := s.nextNumber h.sess
      let code := s.recordCodeOf q.ctx recd
      let l : Launch := { queue := queue, seq := q.next, ctx := q.ctx, recd := recd, edges := lrEdges recd, sess := h.sess }
      let s : State := { s with
        hub := { s.hub with nextLaunch := uid + 1 }
        queues := put s.queues queue { q with next := seqNext q.next, items := q.items ++ [uid] }
        launches := put s.launches uid l }
      let s := s.sendSess h.sess (.accept h.sess queue q.next 0 (s.freeDepth queue))
      let s := if code ≠ 0 then s.completeLaunch uid code
        else if l.edges.isEmpty then s.post (.launchStart queue [])
        else l.edges.foldl (fun s e => match s.producer l e with
          | none => s.post (.edgeSatisfied uid e)
          | some (_, p) => if p.state = .done then s.post (.edgeSatisfied uid e) else s) s
      .next (s.tookEffect h need)

/-! ## Batches (R233, R234) -/

/-- How many slice units, from unit u of role k on, are placed at once: the fewest that hold whole runs. -/
def batchLen (r : BitVec 2048) (k u : Nat) : Nat :=
  let n := roleCount (lrRole r k)
  let closes (w : Nat) : Bool := let e := roleBase r k + min (4 * w + 4) n
    lrAgrp r == 0 || e % lrAgrp r == 0 || decide (n ≤ 4 * w + 4)
  match (List.range (roleUnits (lrRole r k) - u)).find? (fun i => closes (u + i)) with
  | some i => i + 1
  | none => 1

/-- The batches of a role, as lists of units. -/
def batchesFrom (r : BitVec 2048) (k : Nat) : Nat → Nat → List (List (Nat × Nat))
  | 0, _ => []
  | fuel + 1, u =>
    if roleUnits (lrRole r k) ≤ u then [] else
    let b := batchLen r k u
    (List.range b).map (fun i => (k, u + i)) :: batchesFrom r k fuel (u + b)

/-- Round-robin over the roles. -/
def roleTurns : Nat → List (List (List (Nat × Nat))) → List (Nat × Nat)
  | 0, _ => []
  | fuel + 1, ls =>
    let ls := ls.filter (fun l => !l.isEmpty)
    if ls.isEmpty then [] else (ls.filterMap (·.head?)).flatten ++ roleTurns fuel (ls.map (·.drop 1))

/-- The slice units of a launch in the order of placement. -/
def unitsOf (r : BitVec 2048) : List (Nat × Nat) :=
  roleTurns (nthrOf r) ([0, 1, 2, 3].map (fun k => batchesFrom r k (roleUnits (lrRole r k)) 0))

/-- Code 0x05 of the auto-groups: a run across squares (R234). -/
def State.runsRefused (s : State) (c : Nat) (r : BitVec 2048) : Bool :=
  (runCores r).any (fun vs => decide (1 < (dedup (vs.map (fun v => squareOf (s.phys c v)))).length))

/-! ## Placing (R232 to R237) -/

/-- The classes whose epochs move before a launch's first issue on a core: every class for its data section, as an acquire under
sc2 does, and those of its cinv actions (R227, R237). -/
def State.entryClasses (s : State) (l : Launch) : Nat :=
  match look s.kernels (khndOf l.recd) with
  | some k => if k.data.isEmpty then lrCinv l.recd else 0xFF
  | none => lrCinv l.recd
/-- The write-backs that these acquires need before an epoch wraps, on the cores that the launch has still to enter (R158). -/
def State.sweepEntry (s : State) (uid : Nat) : State :=
  match look s.launches uid with
  | none => s
  | some l =>
    let us := if l.state = .waiting then [0, 1, 2, 3].flatMap (fun k => (List.range (roleUnits (lrRole l.recd k))).map (fun u => (k, u))) else l.units
    ((dedup (us.map (fun e => unitCore (lrRole l.recd e.1) e.2))).filter (fun v => !l.cores.contains v)).foldl
      (fun s v => s.preSweep l.ctx v (s.entryClasses l) 1) s
/-- Units of the launch wait for such a sweep (R401). -/
def State.entryWaits (s : State) (l : Launch) (v : Nat) : Bool := !l.cores.contains v && s.acqWaits l.ctx v (s.entryClasses l) 1

/-- A thread of the launch begins on a core: the data section is visible there, and the cinv actions are done (R227, R237). -/
def State.enterCore (s : State) (uid v : Nat) : State :=
  match look s.launches uid with
  | none => s
  | some l =>
    if l.cores.contains v then s else
    (s.acquire l.ctx v (s.entryClasses l) 1).modLaunch uid (fun l => { l with cores := l.cores ++ [v] })

/-- Four lane positions as a new slice finds them: their private memory is zero, and the tiles of their quarter are clear (R235,
R236). -/
def State.freshSlice (s : State) (c v n slice : Nat) : State :=
  let q := slice / 2
  let s := [0, 1, 2, 3].foldl (fun (s : State) i => s.clearBad ⟨.p, (c, v), 512 * (32 * n + 4 * slice + i)⟩ 512) s
  (s.modLine c v n (fun ln => { ln with
    tiles := ln.tiles.filter (fun e => e.1 / 16 != q), tileAway := ln.tileAway.filter (fun e => e.1 / 16 != q) })).modCore c v (fun x => { x with
    tileUsed := x.tileUsed.filter (fun e => !(e.1 == n && e.2 / 16 == q)) })

/-- A slice unit joins a line of its virtual core; none without a free slice, line or room for 4 threads (R232, R235). -/
def State.placeUnit (s : State) (uid k u : Nat) : Option State :=
  match look s.launches uid with
  | none => none
  | some l =>
    let c := l.ctx
    let x := lrRole l.recd k
    let v := unitCore x u
    let mine := s.lines.filter (fun e => e.1.ctx == c && e.1.vc == v && e.2.launch == uid && e.2.role == k)
    let entry := match look s.kernels (khndOf l.recd) with
      | some m => (m.roles.getD k (0, 0)).1
      | none => 0
    let spot : Option (Nat × Line) := match mine.getLast? with
      | some (key, ln) => if ln.slices < 8 then some (key.line, ln) else none
      | none => none
    let spot : Option (Nat × Line) := match spot with
      | some y => some y
      | none => (leastFree ((s.lines.filter (fun e => e.1.ctx == c && e.1.vc == v)).map (fun e => e.1.line)) 16).map (fun n =>
          (n, { launch := uid, role := k, g := lrGinit l.recd }))
    match spot with
    | none => none
    | some (n, ln) =>
      if 512 < (s.coreThreads c v).length + 4 ∨ s.entryWaits l v then none else
      let s := s.enterCore uid v
      let s : State := { s with lines := put s.lines ⟨c, v, n⟩ { ln with slices := ln.slices + 1 } }
      let s := s.freshSlice c v n ln.slices
      let ids := (List.range 4).filter (fun i => decide (4 * u + i < roleCount x))
      let s := ids.foldl (fun (s : State) i =>
        let t : Thread := { launch := uid, role := k, tid := roleBase l.recd k + 4 * u + i, pos := ⟨entry, false⟩, last := s.aux.time }
        { s with threads := put s.threads ⟨c, v, n, 4 * ln.slices + i⟩ t }) s
      some (s.modLaunch uid (fun l => { l with live := l.live + ids.length }))

/-- The auto-group of a run (R234); none if no number or span is free. -/
def State.placeRun (s : State) (uid : Nat) (run : List Nat) : Option State :=
  match look s.launches uid with
  | none => none
  | some l =>
    let ms := run.filterMap (fun t => (s.threads.find? (fun e => e.2.launch == uid && e.2.tid == t)).map (fun e => (⟨e.1.vc, e.1.line, e.1.lane⟩ : Member)))
    match ms with
    | [] => some s
    | m :: _ =>
      let sq := ms.any (fun y => y.vc != m.vc)
      let r := s.makeGroup l.ctx m.vc sq (lrAgalloc l.recd) (lrAgrp l.recd) (some uid) ms
      if 0xFFFFFFFD ≤ r.1.toNat then none
      else some (r.2.modLaunch uid (fun l => { l with groups := l.groups ++ [(m.vc, bits r.1.toNat 0 5)] }))

/-- A batch is placed all at once with its groups. -/
def State.placeBatch (s : State) (uid : Nat) (r : BitVec 2048) (b : List (Nat × Nat)) : Option State :=
  match b with
  | [] => some s
  | (k, u) :: _ =>
    match b.foldlM (fun s e => State.placeUnit s uid e.1 e.2) s with
    | none => none
    | some s =>
      let n := roleCount (lrRole r k)
      (runsOf r (roleBase r k + 4 * u) (roleBase r k + min n (4 * (u + b.length)))).foldlM (fun s run => State.placeRun s uid run) s

/-- Placement goes on in order; a role whose batch waits places no later one. -/
def placeUnits (uid : Nat) (r : BitVec 2048) : Nat → List Nat → State → List (Nat × Nat) → State × List (Nat × Nat)
  | 0, _, s, us => (s, us)
  | fuel + 1, stuck, s, us =>
    match us.find? (fun e => !stuck.contains e.1) with
    | none => (s, us)
    | some (k, u) =>
      let b := (List.range (batchLen r k u)).map (fun i => (k, u + i))
      match s.placeBatch uid r b with
      | none => placeUnits uid r fuel (k :: stuck) s us
      | some t => placeUnits uid r fuel stuck t (us.filter (fun e => !b.contains e))

/-- The launch's units are placed as far as they go, and apexes rise to hold their cores (R250). -/
def State.placeLaunch (s : State) (uid : Nat) : State :=
  match look s.launches uid with
  | none => s
  | some l =>
    let p := placeUnits uid l.recd (l.units.length + 4) [] s l.units
    let s := (p.1.modLaunch uid (fun l => { l with units := p.2, placed := p.2.isEmpty })).raiseApexes l.ctx
    if p.2.any (fun e => s.entryWaits l (unitCore (lrRole l.recd e.1) e.2)) then s.post (.unitPlace uid) else s

/-- UNIT_PLACE (R233, R234). -/
def execUnitPlace (uid : Nat) (s : State) : Host.Outcome State Fault Refusal :=
  match look s.launches uid with
  | none => .next s
  | some l =>
    if l.state ≠ .started ∨ l.units.isEmpty ∨ (s.ctx l.ctx).place.length < (s.ctx l.ctx).n then .next s
    else .next (((s.sweepEntry uid).placeLaunch uid).checkLaunch uid)

/-! ## Starting (R223, R229, R233, R237) -/

/-- The image holds a `ychk`, in its code or its dictionary. -/
def hasYchk (k : Kernel) : Bool :=
  (k.code ++ k.dict).any (fun w => w &&& 0x7FFFFFFF#32 == 0x7A000004#32)

/-- Code 0x06: the backing area and the save area. -/
def State.areasRefused (s : State) (c : Nat) (r : BitVec 2048) (k : Kernel) : Bool :=
  let need := ([0, 1, 2, 3].map (fun j => let x := lrRole r j
    (k.roles.getD j (0, 0)).2 * 4 * min (roleCount x) (512 * roleSpan x))).sum
  (if lrRbsz r = 0 then lrRback r != 0
   else decide (4096 * lrRbsz r < need) || (s.mapVa c (lrRback r) (4096 * lrRbsz r) false true).isNone) ||
  (if saveStride r = 0 then saveBase r != 0 || hasYchk k
   else (s.mapVa c (saveBase r) (nthrOf r * saveStride r) false true).isNone)

/-- The data section is copied to its address (R237): the fault of a copy that does not go through. -/
def State.copyData (s : State) (c : Nat) (r : BitVec 2048) (k : Kernel) : Except PFault State :=
  if k.data.isEmpty then .ok s else
  match s.mapVa c (lrData r) k.data.length false true with
  | none => .error ⟨1, 3, 0, 0⟩
  | some ss => (s.openPages c (spanIas ss) false true).map (fun s => s.writeIa c ((spanIas ss).zip k.data))

/-- The cores of a context as a launch would find them idle (R233). -/
def State.emptied (s : State) (c : Nat) : State :=
  { s with
    threads := s.threads.filter (fun e => e.1.ctx != c)
    lines := s.lines.filter (fun e => e.1.ctx != c)
    cores := s.cores.map (fun e => if e.1.ctx = c then (e.1, { e.2 with groups := [], returning := [] }) else e)
    squares := s.squares.map (fun e => (e.1, { e.2 with allocs := [] }))
    wbHeld := [] }

/-- The context of a launch stands on its cores, or is placed for the first time. -/
def State.readyCores (s : State) (c : Nat) (cores : List Nat) : Option State :=
  let x := s.ctx c
  if x.place.length = x.n then some s
  else if !x.was.isEmpty || !x.place.isEmpty then none
  else (s.choosePlace c cores).map (fun m => m.foldl (fun s e => s.placeCore c e.1 e.2) s)

/-- A launch starts, or completes with a code of R229; none while it has to wait, as when its first slice unit finds no place
(R223). -/
def State.startLaunch (s : State) (uid : Nat) (cores : List Nat) : Option State :=
  match look s.launches uid with
  | none => none
  | some l =>
    let r := l.recd
    match s.readyCores l.ctx cores, look s.kernels (khndOf r) with
    | some s, some k =>
      let full (s : State) : State := (s.modLaunch uid (fun l => { l with state := .started, units := unitsOf r })).placeLaunch uid
      let left (s : State) : List (Nat × Nat) := match look s.launches uid with
        | some l => l.units
        | none => []
      if s.runsRefused l.ctx r then some (s.completeLaunch uid 5)
      else if lrCores r && !(left (full (s.emptied l.ctx))).isEmpty then some (s.completeLaunch uid 5)
      else
        let t := full s
        if (lrCores r && !(left t).isEmpty) || ((unitsOf r).take 1).any (left t).contains then none
        else if s.areasRefused l.ctx r k then some (s.completeLaunch uid 6) else
        match s.copyData l.ctx r k with
        | .error f => if f.waits then none else some (s.completeLaunch uid 7)
        | .ok s => some ((full s).checkLaunch uid)
    | _, _ => none

def State.classOf (s : State) (uid : Nat) : Nat :=
  match look s.launches uid with
  | some l => (match look s.queues l.queue with
    | some q => q.cls
    | none => 0)
  | none => 0
def State.queueOf (s : State) (uid : Nat) : Nat :=
  match look s.launches uid with
  | some l => l.queue
  | none => 0

/-- Offered launches of a class by queue number, the queue after the last one served first. -/
def State.turnOf (s : State) (cls : Nat) : List Nat :=
  let us := sortOn s.queueOf (s.waitingLaunches.filter (fun u => s.classOf u == cls))
  let t := s.hub.turn.getD cls 0
  us.filter (fun u => t ≤ s.queueOf u) ++ us.filter (fun u => s.queueOf u < t)

/-- The launch that starts next: of the highest class with an offer, the first in turn that can start. -/
def State.nextStart (s : State) (cores : List Nat) : Option Nat :=
  match (s.waitingLaunches.map s.classOf).foldl (fun (m : Option Nat) c => some (max (m.getD 0) c)) none with
  | none => none
  | some cls => (s.turnOf cls).find? (fun u => (s.startLaunch u cores).isSome)

/-- The oldest launch of a queue that has not started, if it is offered. -/
def State.offerOf (s : State) (queue : Nat) : Option Nat := s.waitingLaunches.find? (fun u => s.queueOf u == queue)

/-- LAUNCH_START (R223): the queue's offered launch starts when it is its turn and it has room. -/
def execLaunchStart (queue : Nat) (cores : List Nat) (s : State) : Host.Outcome State Fault Refusal :=
  match s.offerOf queue with
  | none => .next s
  | some u =>
    let s := s.sweepEntry u
    if s.nextStart cores = some u then
      let cls := s.classOf u
      match s.startLaunch u cores with
      | some t =>
        let t : State := { t with hub := { t.hub with turn := setNth t.hub.turn cls (queue + 1) } }
        .next (if (t.offerOf queue).isSome then t.post (.launchStart queue []) else t)
      | none => .next s
    else if cores.isEmpty then
      let s := if s.agenda.contains (.preemptDelayExpiry queue) then s else s.post (.preemptDelayExpiry queue)
      .next (s.post (.launchStart queue cores))
    else .next s

/-- LAUNCH_COMPLETE (R238). -/
def execLaunchComplete (uid : Nat) (s : State) : Host.Outcome State Fault Refusal :=
  match look s.launches uid with
  | none => .next s
  | some l =>
    if l.state ≠ .started ∨ l.live ≠ 0 ∨ !l.units.isEmpty ∨ !l.groups.isEmpty then .next s else
    match s.bufferActions l (lrFbuf l.recd) (lrFvcs l.recd) with
    | (true, s) => .next (s.completeLaunch uid l.code)
    | (false, s) => .next (s.post (.launchComplete uid))

/-- A context runs only launches of classes below cls on some of the cores. -/
def State.runsBelow (s : State) (c cls : Nat) (cores : List Nat) : Bool :=
  s.threads.all (fun e => e.1.ctx != c || decide (s.classOf e.2.launch < cls) || !(match s.phys? c e.1.vc with
    | some p => cores.contains p
    | none => false))
/-- The cores that an offered launch of class cls needs: those of its spans where its context stands; else those on which its
context could be placed if the contexts that run only lower classes left theirs. -/
def State.coresFor (s : State) (l : Launch) (cls : Nat) : List Nat :=
  let here := (s.ctx l.ctx).place
  if !here.isEmpty then
    dedup ((unitsOf l.recd).filterMap (fun e => look here (unitCore (lrRole l.recd e.1) e.2)))
  else
    let t : State := { s with ctxs := s.ctxs.map (fun e =>
      if e.1 != l.ctx && s.runsBelow e.1 cls (e.2.place.map (·.2)) then (e.1, { e.2 with place := [] }) else e) }
    ((t.choosePlace l.ctx []).getD []).map (·.2)

/-- PREEMPT_DELAY_EXPIRY (R223): an offered launch has been unable to start for longer than its class's delay: the contexts that
run only launches of lower classes on the cores that it needs are asked to leave. -/
def execPreemptDelayExpiry (queue : Nat) (s : State) : Host.Outcome State Fault Refusal :=
  match s.offerOf queue with
  | none => .next s
  | some u =>
    match look s.launches u with
    | none => .next s
    | some l =>
      if s.nextStart [] = some u then .next s else
      let cls := s.classOf u
      let cores := s.coresFor l cls
      let asked := s.ctxs.filter (fun e => e.2.place.any (fun p => cores.contains p.2) && s.runsBelow e.1 cls cores)
      .next (asked.foldl (fun s e => s.setPreq e.1 true) s)

end Sys2Proof.Machine
end

