-- ==== Sys2Proof/Machine/Loader.lean ====
section
/-!
DEFINITION. The Odmen loader: the kernel image of R100 and R101, the checks of R102 in the order of its table with the
switch-marker check (R77) and the path costs (R346), and the release of an image (R376).
-/
namespace Sys2Proof.Machine

/-! ## The image -/

/-- Bytes [off, off + n) of an image. -/
def piece (img : List Byte) (off n : Nat) : List Byte := (img.drop off).take n
/-- n-byte entries. -/
def entriesOf (size : Nat) : Nat → List Byte → List Nat
  | 0, _ => []
  | k + 1, bs => natOfBytes (bs.take size) :: entriesOf size k (bs.drop size)

/-- The fields of the header (R100). -/
structure ImgHeader where
  codeOff : Nat
  code : Nat
  dictOff : Nat
  dict : Nat
  blkOff : Nat
  blk : Nat
  roleOff : Nat
  role : Nat
  dataOff : Nat
  data : Nat
  priv : Bool
deriving DecidableEq, Repr

/-- The sections, as offset and length. -/
def ImgHeader.sections (h : ImgHeader) : List (Nat × Nat) :=
  [(h.codeOff, 4 * h.code), (h.dictOff, 4 * h.dict), (h.blkOff, 8 * h.blk), (h.roleOff, 16 * h.role), (h.dataOff, h.data)]

/-- No two stretches of nonzero length share a byte. -/
def apart : List (Nat × Nat) → Bool
  | [] => true
  | x :: r => r.all (fun y => x.2 == 0 || y.2 == 0 || decide (x.1 + x.2 ≤ y.1) || decide (y.1 + y.2 ≤ x.1)) && apart r

/-- Status 0x08: none if the header is malformed. Its reserved bits must be zero (R10, R100; notes/assumptions/31.md). -/
def headerOf (img : List Byte) : Option ImgHeader :=
  let x := natOfBytes (img.take 64)
  let h : ImgHeader := { codeOff := bits x 64 32, code := bits x 96 32, dictOff := bits x 128 32, dict := bits x 160 32, blkOff := bits x 192 32, blk := bits x 224 32, roleOff := bits x 256 32, role := bits x 288 32, dataOff := bits x 320 32, data := bits x 352 32, priv := bit x 48 }
  if img.length < 64 || bits x 0 32 != 0x4B4C4D41 || bits x 32 16 != 1 || bits x 49 15 != 0 || bits x 384 128 != 0 then none
  else if h.code == 0 || decide (2 ^ 22 < h.code) || decide (1024 < h.dict) || h.blk == 0 || decide (h.code < h.blk) || h.role == 0 || decide (4 < h.role) then none
  else if h.sections.any (fun e => e.1 % 64 != 0 || decide (img.length < e.1 + e.2)) then none
  else if !apart ((0, 64) :: h.sections) then none
  else some h

/-- The image's sections as a kernel of a context. -/
def kernelFrom (ctx : Nat) (img : List Byte) (h : ImgHeader) : Kernel :=
  let words (off n : Nat) : List Word := (entriesOf 4 n (piece img off (4 * n))).map (BitVec.ofNat 32)
  { ctx := ctx, priv := h.priv, data := piece img h.dataOff h.data
    code := words h.codeOff h.code
    dict := words h.dictOff h.dict
    blocks := (entriesOf 8 h.blk (piece img h.blkOff (8 * h.blk))).map (fun e => (bits e 0 32, bits e 32 16))
    roles := (entriesOf 16 h.role (piece img h.roleOff (16 * h.role))).map (fun e => (bits e 0 32, bits e 32 10)) }

/-- Status 0x07. -/
def rolesRefused (img : List Byte) (h : ImgHeader) : Bool :=
  (entriesOf 16 h.role (piece img h.roleOff (16 * h.role))).any (fun e =>
    bits e 42 86 != 0 || decide (h.code ≤ bits e 0 32) || decide (bits e 32 10 < 104) || decide (512 < bits e 32 10) || bits e 32 10 % 8 != 0)

def rising : List Nat → Bool
  | a :: b :: r => decide (a < b) && rising (b :: r)
  | _ => true

/-- Status 0x05. -/
def blocksRefused (img : List Byte) (h : ImgHeader) : Bool :=
  let es := entriesOf 8 h.blk (piece img h.blkOff (8 * h.blk))
  let starts := es.map (fun e => bits e 0 32)
  !rising starts || starts.headD 1 != 0 || starts.any (fun x => decide (h.code ≤ x)) || es.any (fun e => bits e 48 16 != 0)

/-! ## Words (R80, R84 to R95)

The loader needs of a word only whether it is assigned and which registers it names. `mapOps` reads that off the opcode
map; that it agrees with the decoder on every word is the obligation Obligations.LoaderTableAgrees. -/

def isPairWord (w : Word) : Bool := wordMajor w == 0x3F#6

/-- Some operands, where the map's condition on unused and code fields holds. -/
def opsIf (c : Bool) (l : List OpSpec) : Option (List OpSpec) := if c then some l else none
/-- d, a and b are registers; d is only written, or read and written. -/
def ops3 (u : Use) (nd na nb : Nat) (d a b : Fld) : List OpSpec := [⟨.src, a, na⟩, ⟨.src, b, nb⟩, ⟨u, d, nd⟩]
def ops2 (u : Use) (nd na : Nat) (d a : Fld) : List OpSpec := [⟨.src, a, na⟩, ⟨u, d, nd⟩]

/-- Majors 0x00 to 0x0F (R85). -/
def mapInt (maj fn : Nat) (d a b : Fld) : Option (List OpSpec) :=
  let z := b == 0#7
  let wide := b.getLsbD 4
  let n : Nat := 16 * (b.extractLsb' 0 4).toNat + fn
  match maj with
  | 0x00 => if fn == 0 then none else if fn < 14 then some (ops3 .dst 1 1 1 d a b) else opsIf z (ops2 .dst 1 1 d a)
  | 0x01 => if fn < 9 then some (ops3 .dst 2 2 2 d a b) else opsIf (z && fn < 11) (ops2 .dst 2 2 d a)
  | 0x02 =>
    if fn < 6 || (7 ≤ fn && fn < 12) then some (ops3 .dst 1 1 1 d a b)
    else if fn == 13 then opsIf z (ops2 .dst 2 2 d a) else opsIf (z && fn < 13) (ops2 .dst 1 1 d a)
  | 0x03 =>
    if fn < 4 then opsIf z (ops2 .dst 1 1 d a)
    else if fn < 8 then some (ops3 (if fn == 6 then .srcDst else .dst) 1 1 1 d a b)
    else if fn < 11 then some (ops3 .dst 2 2 1 d a b) else opsIf (z && fn < 13) (ops2 .dst 1 2 d a)
  | 0x04 =>
    if fn < 6 then some (ops3 .dst 1 1 1 d a b) else if fn < 12 then some (ops3 .dst 1 2 2 d a b)
    else if fn == 12 then some (ops3 .srcDst 1 1 1 d a b) else opsIf (fn == 13) (ops3 .srcDst 2 2 2 d a b)
  | 0x05 | 0x06 | 0x07 | 0x08 => some (ops2 .dst 1 1 d a)
  | 0x09 => opsIf (b.extractLsb' 2 2 == 0#2 && (wide || !b.getLsbD 1)) (ops2 .dst (if wide then 2 else 1) (if wide then 2 else 1) d a)
  | 0x0A => if fn < 3 then some (ops3 .dst 2 2 2 d a b) else if fn == 3 then opsIf z (ops2 .dst 2 2 d a) else opsIf (fn < 6) (ops3 .dst 2 2 1 d a b)
  | 0x0B => some [⟨.dst, d, 1⟩]
  | 0x0C => opsIf (a.extractLsb' 5 2 == 0#2) [⟨.dst, d, 1⟩]
  | 0x0D => opsIf (a.extractLsb' 5 2 == 0#2) [⟨.srcDst, d, 1⟩]
  | 0x0E =>
    if fn < 2 then some (ops3 .dst 2 2 1 d a b) else if fn == 2 then some (ops3 .srcDst 2 1 1 d a b)
    else if fn < 5 then opsIf z (ops2 .dst 2 1 d a) else opsIf (z && fn == 5) (ops2 .dst 1 2 d a)
  | 0x0F =>
    if b.getLsbD 6 then opsIf (b.extractLsb' 4 2 == 0#2 && d == 0#7 && writableSreg (BitVec.ofNat 8 n)) [⟨.src, a, 1⟩]
    else opsIf (a == 0#7 && ((b.extractLsb' 4 2 == 0#2 && readableSreg (BitVec.ofNat 8 n)) || (b.extractLsb' 4 2 == 1#2 && n == 6))) [⟨.dst, d, 1⟩]
  | _ => none

/-- Majors 0x10 to 0x1F (R86, R87). -/
def mapFloat (maj fn : Nat) (d a b : Fld) : Option (List OpSpec) :=
  let z := b == 0#7
  match maj with
  | 0x10 | 0x12 | 0x13 => some (ops3 (if fn % 4 == 3 then .srcDst else .dst) 1 1 1 d a b)
  | 0x11 => some (ops3 (if fn % 4 == 3 then .srcDst else .dst) 2 2 2 d a b)
  | 0x14 =>
    if fn == 2 || fn == 3 || fn == 6 || fn == 12 then opsIf z (ops2 .dst 1 1 d a) else opsIf (fn < 12) (ops3 .dst 1 1 1 d a b)
  | 0x15 =>
    if fn == 2 || fn == 3 || fn == 6 then opsIf z (ops2 .dst 2 2 d a) else if fn < 6 then some (ops3 .dst 2 2 2 d a b)
    else if fn < 12 then some (ops3 .dst 1 2 2 d a b) else opsIf (z && fn == 12) (ops2 .dst 1 2 d a)
  | 0x16 => if fn % 4 < 2 then opsIf (fn < 8) (ops3 .dst 1 1 1 d a b) else opsIf (z && fn < 8) (ops2 .dst 1 1 d a)
  | 0x17 => opsIf (z && fn < 7) (ops2 .dst 1 1 d a)
  | 0x18 => opsIf (z && fn < 4) (ops2 .dst 2 2 d a)
  | 0x1C =>
    let src := b.extractLsb' 3 4
    let dst := BitVec.ofNat 4 fn
    opsIf (!b.getLsbD 0 && cvtOk src dst) (ops2 .dst (fmtWords dst) (fmtWords src) d a)
  | 0x1D => opsIf (fn < 6) (ops3 (if fn == 2 || fn == 3 then .srcDst else .dst) 1 1 1 d a b)
  | 0x1E => if fn < 2 then opsIf z (ops2 .dst 1 1 d a) else if fn == 2 then some (ops3 .dst 1 1 1 d a b) else opsIf (fn == 3) (ops3 .dst 2 2 1 d a b)
  | 0x1F => opsIf (fn < 7) (ops3 .srcDst 1 1 1 d a b)
  | _ => none

/-- Majors 0x20 to 0x2F (R88 to R90). -/
def mapMem (maj fn : Nat) (d a b : Fld) : Option (List OpSpec) :=
  let hi := b.extractLsb' 4 3
  let t := BitVec.ofNat 3 fn
  let F := BitVec.ofNat 4 fn
  match maj with
  | 0x20 | 0x22 => opsIf (t != 7#3) (ops3 .dst (ldWords t) 1 1 d a b)
  | 0x24 => opsIf (t != 7#3) (ops3 .dst (ldWords t) 2 1 d a b)
  | 0x21 | 0x23 => opsIf (storeCode t) (ops3 .src (ldWords t) 1 1 d a b)
  | 0x25 => opsIf (storeCode t) (ops3 .src (ldWords t) 2 1 d a b)
  | 0x26 => opsIf (d == 0#7 && fn < 2) [⟨.src, a, 2⟩, ⟨.src, b, 1⟩]
  | 0x28 => opsIf (fn < 10 && hi.toNat < 4) (ops2 .srcDstEven ((if fn == 9 then 2 else 1) * atomWords hi) (atomAddrWords hi) d a)
  | 0x29 => opsIf (fn < 8 && hi.toNat < 4) (ops2 .src (atomWords hi) (atomAddrWords hi) d a)
  | 0x2A => opsIf (fn < 4 && d == 0#7 && a == 0#7 && hi == 0#3) []
  | 0x2B =>
    if hi != 0#3 then none
    else if fn < 2 then opsIf (d == 0#7 && 4 ≤ b.toNat && (fn == 0 || a == 0#7)) (if fn == 0 then [⟨.src, a, 2⟩] else [])
    else opsIf (fn < 4 && a == 0#7) [⟨.dst, d, if fn == 2 then 2 else 1⟩]
  | 0x2C | 0x2E => opsIf (contribFmt F) (ops3 .src (fmtWords F) 2 1 d a b)
  | 0x2D => opsIf (contribFmt F && b == 0#7) (ops2 .src (fmtWords F) 2 d a)
  | 0x2F => if fn == 0 then some (ops3 .dst 1 2 1 d a b) else opsIf (fn < 4 && a == 0#7) [⟨.src, b, 1⟩, ⟨.dst, d, 1⟩]
  | _ => none

/-- Majors 0x30 to 0x3F (R68, R91 to R94). -/
def mapRest (maj fn : Nat) (d a b : Fld) : Option (List OpSpec) :=
  let z := b == 0#7
  let hi := b.extractLsb' 4 3
  let k3 := b.extractLsb' 3 4 == 0#4
  match maj with
  | 0x30 =>
    if hi != 0#3 then none
    else if fn == 0 then opsIf (d == 0#7) [⟨.src, a, 1⟩] else if fn == 1 then opsIf (d == 0#7 && a == 0#7) []
    else opsIf (fn == 2 && a == 0#7) [⟨.dst, d, 1⟩]
  | 0x31 => opsIf (fn < 4 && hi == 0#3) (ops2 (if fn < 2 then .src else .dst) 1 1 d a)
  | 0x32 => opsIf (fn < 14 && d.extractLsb' 4 3 == 0#3 && hi == 0#3) []
  | 0x33 => if fn == 0 then opsIf (d == 0#7 && a == 0#7 && hi == 0#3) [] else opsIf (fn == 1 && hi == 0#3) (ops2 .dst 2 1 d a)
  | 0x34 =>
    if hi == 0#3 then opsIf (d == 0#7 && fn < 10) [⟨.src, a, 2⟩]
    else opsIf (hi.toNat < 4 && 4 ≤ fn && fn < 9) [⟨.src, a, 2⟩, ⟨.src, d, 2⟩]
  | 0x36 => opsIf (fn < 4 && z) (ops2 .dst 1 (if fn == 3 then 1 else 2) d a)
  | 0x37 =>
    if !k3 then none
    else if fn == 0 then opsIf (d == 0#7) [⟨.src, a, 1⟩] else if fn == 1 then opsIf (d == 0#7 && a == 0#7) []
    else opsIf (fn == 2 && a == 0#7) [⟨.dst, d, 1⟩]
  | 0x38 => if fn == 0 then opsIf (b == 106#7 || b == 108#7 || b == 110#7) (ops3 .dst 4 4 2 d a b) else opsIf (fn < 3 && z) (ops2 .dst 1 2 d a)
  | 0x39 =>
    if fn == 0 then opsIf k3 (ops2 .dst 1 2 d a) else if fn == 1 then opsIf (a == 0#7 && k3) [⟨.dst, d, 1⟩]
    else opsIf (fn == 2 && z) (ops2 .dst 1 2 d a)
  | 0x3A | 0x3B => some [⟨.src, d, 1⟩]
  | 0x3C => some [⟨.dstVG, d, 1⟩]
  | 0x3D =>
    match fn with
    | 0 | 2 => opsIf (d == 0#7 && z) [⟨.src, a, 1⟩]
    | 1 => opsIf z (ops2 .dstVG 1 1 d a)
    | 3 | 4 | 5 | 9 | 10 => opsIf (d == 0#7 && a == 0#7 && z) []
    | 6 => opsIf (d == 0#7 && a == 0#7 && b.toNat < 52) []
    | 7 => opsIf (b.toNat < 2) (ops2 .dst 1 1 d a)
    | 8 => opsIf (d == 0#7 && z) [⟨.src, a, 1⟩]
    | _ => none
  | 0x3E =>
    match fn with
    | 0 => opsIf (d == 0#7 && a == 0#7) []
    | 1 | 2 => opsIf (d == 0#7 && a == 0#7 && z) []
    | 3 => opsIf (d == 0#7 && z) [⟨.src, a, 1⟩]
    | 4 | 5 => some (ops3 .dst 1 2 1 d a b)
    | 6 => opsIf (d == 0#7 && a == 0#7) [⟨.src, b, 1⟩]
    | 7 => opsIf z (ops2 .dst 1 1 d a)
    | _ => none
  | 0x3F => opsIf (fn == 0) []
  | _ => none

/-- The register operands of a word by the opcode map, or none if the word is unassigned (R84). -/
def mapOps (w : Word) : Option (List OpSpec) :=
  let maj := (wordMajor w).toNat
  let fn := (wordFn w).toNat
  let f := if maj < 16 then mapInt else if maj < 32 then mapFloat else if maj < 48 then mapMem else mapRest
  (f maj fn (wordD w) (wordA w) (wordB w)).filter (fun l => l.all OpSpec.ok)

def assigned (w : Word) : Bool := (mapOps w).isSome

/-- The indices of a pair: e0 and e1 (R68). -/
def pairIndex (w : Word) : Nat × Nat := ((w.extractLsb' 14 10).toNat, (w.extractLsb' 4 10).toNat)

/-- A special-register move that is unassigned for its number, its access or its read form (R102, 0x09): with those
bits replaced by the number 0x00 of an ordinary read, or 0x08 of a write, the word is assigned. -/
def badSregMove (w : Word) : Bool :=
  wordMajor w == 0x0F#6 && !assigned w &&
    assigned ((w &&& ~~~0x3FF#32) ||| (if w.getLsbD 10 then 0x008#32 else 0#32))

/-- Status 0x01. -/
def codeRefused (k : Kernel) : Bool :=
  k.code.any (fun w => (!assigned w && !badSregMove w) ||
    (isPairWord w && (decide (k.dict.length ≤ (pairIndex w).1) || decide (k.dict.length ≤ (pairIndex w).2))))

/-- The control transfers of R80. -/
def isTransfer (w : Word) : Bool :=
  let m := (wordMajor w).toNat
  let f := (wordFn w).toNat
  (decide (0x3A ≤ m) && decide (m ≤ 0x3C)) || (m == 0x3D && decide (f ≤ 5)) || (m == 0x3E && decide (f ≤ 1))

/-- Status 0x03. -/
def dictRefused (k : Kernel) : Bool :=
  k.dict.any (fun w => w.getLsbD 31 || !assigned w || isPairWord w || isTransfer w)

/-- The privileged encodings (R95). -/
def isPrivWord (w : Word) : Bool :=
  (wordMajor w == 0x3E#6 && decide (3 ≤ (wordFn w).toNat) && decide ((wordFn w).toNat ≤ 7)) ||
    (wordMajor w == 0x0F#6 && decide (0x40 ≤ (w.extractLsb' 0 8).toNat))

/-! ## Positions (R73, R77) -/

inductive Flow where
  | plain | branch | call | calli | jmpi | ret | exit | ychk | yield | join
deriving DecidableEq, Repr

/-- What a word does to control; `join` stands for the rest of R76's implicit S points. -/
def flowOf (w : Word) : Flow :=
  match (wordMajor w).toNat, (wordFn w).toNat with
  | 0x3A, _ | 0x3B, _ => .branch
  | 0x3C, _ => .call
  | 0x3D, 0 => .jmpi
  | 0x3D, 1 => .calli
  | 0x3D, 2 => .ret
  | 0x3D, 3 => .exit
  | 0x3D, 4 => .ychk
  | 0x3D, 5 => .yield
  | 0x3D, 6 | 0x3D, 8 | 0x3D, 9 | 0x3D, 10 => .join
  | _, _ => .plain

/-- The target of a direct branch or call at word n (R72). -/
def targetOf (w : Word) (n : Nat) : Int := (n : Int) + toSigned 18 (w.extractLsb' 0 18).toNat

/-- The words at a position: a pair's two entries with their markers (R79), or the word. -/
def halvesOf (dict : List Word) (w : Word) : List Word :=
  if isPairWord w then
    [withMarker (dict.getD (pairIndex w).1 0#32) (w.getLsbD 24), withMarker (dict.getD (pairIndex w).2 0#32) (w.getLsbD 31)]
  else [w]

/-- Field values that an operand names, as a mask: v and g registers without g0 (R25, R77). -/
def nameMask (o : OpSpec) : Nat :=
  match regName o.fld with
  | .v i => laneMask ((List.range o.words).map (i + ·))
  | .g k => if k = 0 then 0 else laneMask ((List.range o.words).map (104 + k + ·))
  | _ => 0
def fieldsMask (l : List OpSpec) : Nat := l.foldl (fun m o => m ||| nameMask o) 0

/-- The registers of `stp`'s and `ldp`'s d (R77): the pair d, d + 1. -/
def planeMask (d : Fld) : Nat :=
  let n := d.toNat
  if n < 103 ∨ n = 106 ∨ n = 108 ∨ n = 110 then laneMask [n, n + 1] else if n < 112 ∧ n ≠ 104 then laneMask [n] else 0

def opsOf (w : Word) : List OpSpec := (mapOps w).getD []

/-- The registers that an instruction reads (R77). -/
def readsOf (w : Word) : Nat :=
  let base := fieldsMask ((opsOf w).filter (opIsSrc ·))
  match (wordMajor w).toNat, (wordFn w).toNat with
  | 0x31, 0 => base ||| planeMask (wordD w)
  | 0x31, 1 => base ||| nameMask ⟨.src, wordD w, 1⟩
  | 0x32, _ => base ||| nameMask ⟨.src, 104#7 + ((wordA w).extractLsb' 4 3).setWidth 7, 1⟩
  | _, _ => base
/-- The registers that an instruction writes (R77): of `atom.cas` the low half of d, since the high one keeps its value (R155). -/
def writesOf (w : Word) : Nat :=
  let base := fieldsMask ((opsOf w).filter (opIsDst ·))
  match (wordMajor w).toNat, (wordFn w).toNat with
  | 0x28, 9 => fieldsMask (((opsOf w).filter (opIsDst ·)).map (fun o => { o with words := o.words / 2 }))
  | 0x31, 2 => base ||| planeMask (wordD w)
  | 0x31, 3 => base ||| nameMask ⟨.dst, wordD w, 1⟩
  | _, _ => base

/-- R75. -/
def longWord (w : Word) : Bool :=
  (match (wordMajor w).toNat, (wordFn w).toNat with
   | 0x20, _ | 0x22, _ | 0x24, _ | 0x28, _ | 0x2F, _ | 0x17, _ | 0x18, _ | 0x38, _ | 0x39, _ => true
   | 0x31, f => decide (2 ≤ f)
   | 0x36, 3 | 0x33, 1 => true
   | _, _ => false) || readsChannel (opsOf w)

/-- S or implicit S (R74, R76). -/
def clearsPending (w : Word) : Bool :=
  w.getLsbD 31 || (match flowOf w with
    | .plain | .branch => false
    | _ => true)

/-- One position of the code for the two checks: successors by position number. -/
structure CodePos where
  word : Nat
  sub : Bool
  flow : Flow
  reads : Nat
  writes : Nat
  long : Bool
  clears : Bool
  /-- the taken target, or the callee -/
  target : Option Nat
  /-- the next position -/
  next : Option Nat
deriving DecidableEq, Repr

/-- Number of the first position of each word, and of the end. -/
def startsFrom : Nat → List Word → List Nat
  | n, [] => [n]
  | n, w :: ws => n :: startsFrom (if isPairWord w then n + 2 else n + 1) ws

def positionsOf (k : Kernel) : List CodePos :=
  let starts := startsFrom 0 k.code
  let total := starts.getLastD 0
  k.code.zipIdx.flatMap (fun (w, n) => (halvesOf k.dict w).zipIdx.map (fun (x, j) =>
    let f := flowOf x
    let here := starts.getD n 0 + j
    let t := targetOf x n
    let direct := f == .branch || f == .call
    { word := n, sub := j == 1, flow := f, reads := readsOf x, writes := writesOf x, long := longWord x, clears := clearsPending x
      target := if direct && decide (0 ≤ t) && decide (t < k.code.length) then some (starts.getD t.toNat 0) else none
      next := if f == .exit || f == .ret || f == .jmpi || decide (total ≤ here + 1) then none else some (here + 1) }))

/-! ## The checks of control flow, pending results and paths -/

/-- The last word cannot fall through (R102). -/
def lastStops (w : Word) : Bool :=
  match flowOf w with
  | .exit | .ret | .jmpi => true
  | .branch => wordMajor w == 0x3B#6 && wordD w == 104#7
  | _ => false

/-- Status 0x04. -/
def flowRefused (k : Kernel) : Bool :=
  k.code.zipIdx.any (fun (w, n) => (flowOf w == .branch || flowOf w == .call) &&
    (decide (targetOf w n < 0) || !isBlockStart k (targetOf w n).toNat)) ||
  k.roles.any (fun r => !isBlockStart k r.1) || !lastStops (k.code.getLastD 0#32)

/-- One round of R77: what is pending after each position joins its successors. -/
def pendRound (ps : List CodePos) (pend : List Nat) : List Nat :=
  (ps.zip pend).foldl (fun acc (p, q) =>
    let out := if p.clears then 0 else if p.long then q ||| p.writes else q
    ([p.target, p.next].filterMap id).foldl (fun acc j => setNth acc j (acc.getD j 0 ||| out)) acc) pend

/-- R77: rounds until nothing changes. -/
def pendFix (ps : List CodePos) : Nat → List Nat → List Nat
  | 0, pend => pend
  | n + 1, pend =>
    let p' := pendRound ps pend
    if p' = pend then pend else pendFix ps n p'

/-- Status 0x02. -/
def switchRefused (k : Kernel) : Bool :=
  let ps := positionsOf k
  let pend := pendFix ps (112 * ps.length + 1) (ps.map (fun _ => 0))
  (ps.zip pend).any (fun (p, q) => ((p.reads ||| p.writes) &&& q) != 0)

/-- The largest cost of a path from a position, and of a path to a `ret` if there is one (R346). -/
abbrev PathCost := Nat × Option Nat

/-- One round of path costs: a position is known once everything after it is. -/
def costRound (ps : List CodePos) (known : List (Option PathCost)) : List (Option PathCost) :=
  let of (j : Option Nat) : Option PathCost := match j with
    | some j => known.getD j none
    | none => some (0, none)
  let best (a b : Option Nat) : Option Nat := match a, b with
    | some a, some b => some (max a b)
    | some a, none => some a
    | none, b => b
  ps.map (fun p => match p.flow with
    | .ychk | .yield | .exit | .jmpi | .calli => some (1, none)
    | .ret => some (1, some 1)
    | .call => match of p.target with
      | none => none
      | some (l, none) => some (1 + l, none)
      | some (l, some r) => match of p.next with
        | none => none
        | some (ln, rn) => some (1 + max l (r + ln), rn.map (fun x => 1 + r + x))
    | .branch => match of p.target, of p.next with
      | some (lt, rt), some (ln, rn) => some (1 + max lt ln, (best rt rn).map (1 + ·))
      | _, _ => none
    | _ => (of p.next).map (fun (l, r) => (1 + l, r.map (1 + ·))))

def costFix (ps : List CodePos) : Nat → List (Option PathCost) → List (Option PathCost)
  | 0, known => known
  | n + 1, known =>
    let k' := costRound ps known
    if k' = known then known else costFix ps n k'

/-- Status 0x06: a path from a block start that costs more than ylim, or has no bound. -/
def pathRefused (k : Kernel) (ylim : Nat) : Bool :=
  if ylim = 0xFFFFFFFF then false else
  let ps := positionsOf k
  let starts := startsFrom 0 k.code
  let known := costFix ps (ps.length + 1) (ps.map (fun _ => none))
  k.blocks.any (fun b => match known.getD (starts.getD b.1 0) none with
    | none => true
    | some (l, _) => decide (ylim < l))

/-- The checks of R102 in the order of its table: the status of the first that fails, or the kernel. -/
def checkKernel (ctx : Nat) (priv : Bool) (ylim : Nat) (img : List Byte) : Except Nat Kernel :=
  match headerOf img with
  | none => .error 0x08
  | some h =>
    let k := kernelFrom ctx img h
    if rolesRefused img h then .error 0x07
    else if blocksRefused img h then .error 0x05
    else if codeRefused k then .error 0x01
    else if dictRefused k then .error 0x03
    else if k.code.any badSregMove then .error 0x09
    else if (k.priv && !priv) || (!k.priv && (k.code ++ k.dict).any isPrivWord) then .error 0x0A
    else if flowRefused k then .error 0x04
    else if switchRefused k then .error 0x02
    else if pathRefused k ylim then .error 0x06
    else .ok k

/-- IMAGE_SUBMIT (R102, R376): the loader reads the image at its homes in the context's memory. The reply carries the
status of R102 and the handle; an image that cannot be read is refused without one (notes/assumptions/31.md). -/
def execImageSubmit (h : Hdr) (ctx va len : Nat) (s : State) : Host.Outcome State Fault Refusal :=
  s.mgmt h 0x11 (fun s =>
    match s.ctx? ctx with
    | none => noObject s
    | some x =>
      match s.mapVa ctx va len true false with
      | none => refused s
      | some ss =>
        match s.openPages ctx (spanIas ss) true false with
        | .error _ => refused s
        | .ok t =>
          if (t.badByte ctx (spanIas ss)).isSome then refused t else
          match checkKernel ctx x.set.priv x.set.ylim ((spanIas ss).map (t.homeByte ctx)) with
          | .error e => (mgRefused, [e, 0], t)
          | .ok k =>
            let n := t.hub.nextKhnd
            (mgDone, [0, n], { t with kernels := t.kernels ++ [(n, k)], hub := { t.hub with nextKhnd := n + 1 } }))

/-- IMAGE_RELEASE (R376): later launch records that name the handle complete with code 0x02. -/
def execImageRelease (h : Hdr) (ctx khnd : Nat) (s : State) : Host.Outcome State Fault Refusal :=
  s.mgmt h 0x12 (fun s =>
    match look s.kernels khnd with
    | none => noObject s
    | some k =>
      if k.ctx ≠ ctx ∨ k.released then noObject s
      else done { s with kernels := put s.kernels khnd { k with released := true } })

end Sys2Proof.Machine
end

