-- ==== Sys2Proof/Machine/Memory.lean ====
section
/-!
DEFINITION. Majors 0x20 to 0x2B: loads, stores and prefetches (R146 to R152, R274), atomics and reductions (R154 to
R156), fences (R157 to R160) and the scope table (R161 to R163).
-/
namespace Sys2Proof.Machine

/-! ## Loads and stores -/

/-- Bytes and sign of a load's type, and bytes of a store's width (R88, R146). -/
def ldBytes (t : BitVec 3) : Nat :=
  if t.toNat < 2 then 1 else if t.toNat < 4 then 2 else if t.toNat = 4 then 4 else if t.toNat = 5 then 8 else 16
def ldSigned (t : BitVec 3) : Bool := t == 1#3 || t == 3#3

/-- The address of an access (R147): a + b modulo 2^32 on chip, a + sign_extend(b) modulo 2^64 for global memory. -/
def chipAddr (vs : List (List Word)) : Nat := (w32 (arg vs 0) + w32 (arg vs 1)).toNat
def globalAddr (vs : List (List Word)) : Nat := (w64 (arg vs 0) + (w32 (arg vs 1)).signExtend 64).toNat

/-- `ld.L.T d, [a + b]`: long-latency. -/
def State.execLoad (s : State) (sw : Bool) (lvl : Lvl) (nt : Bool) (d a b : Fld) (t : BitVec 3) : Host.Outcome State Fault Refusal :=
  let ops : List OpSpec := [⟨.src, a, if lvl = .g then 2 else 1⟩, ⟨.src, b, 1⟩, ⟨.dst, d, ldWords t⟩]
  match s.prepare false ops with
  | .halt s => .next s
  | .go _ vals s1 =>
    .next (s1.memIssue s sw (some ⟨.dst, d, ldWords t⟩) (vals.map (fun e =>
      (e.1, .load lvl nt (if lvl = .g then globalAddr e.2 else chipAddr e.2) (ldBytes t) (ldSigned t) noReply))))

/-- The bytes of a store's data (R9, R146). -/
def storeBytes (t : BitVec 3) (ws : List Word) : List Byte := bytesOfNat (natOfWords ws) (ldBytes t)

/-- `st.L.W [a + b], d`. -/
def State.execStore (s : State) (sw : Bool) (lvl : Lvl) (nt : Bool) (d a b : Fld) (t : BitVec 3) : Host.Outcome State Fault Refusal :=
  let ops : List OpSpec := [⟨.src, a, if lvl = .g then 2 else 1⟩, ⟨.src, b, 1⟩, ⟨.src, d, ldWords t⟩]
  match s.prepare false ops with
  | .halt s => .next s
  | .go _ vals s1 =>
    .next (s1.memIssue s sw none (vals.map (fun e =>
      (e.1, .store lvl nt (if lvl = .g then globalAddr e.2 else chipAddr e.2) (storeBytes t (arg e.2 2))))))

/-- `ld.p` (R146). -/
def execLdP (sw : Bool) (d a b : Fld) (t : BitVec 3) (s : State) : Host.Outcome State Fault Refusal :=
  s.execLoad sw .p false d a b t
/-- `st.p` (R146). -/
def execStP (sw : Bool) (d a b : Fld) (w : BitVec 3) (s : State) : Host.Outcome State Fault Refusal :=
  s.execStore sw .p false d a b w
/-- `ld.c` (R146). -/
def execLdC (sw : Bool) (d a b : Fld) (t : BitVec 3) (s : State) : Host.Outcome State Fault Refusal :=
  s.execLoad sw .c false d a b t
/-- `st.c` (R146). -/
def execStC (sw : Bool) (d a b : Fld) (w : BitVec 3) (s : State) : Host.Outcome State Fault Refusal :=
  s.execStore sw .c false d a b w
/-- `ld.q` (R146). -/
def execLdQ (sw : Bool) (d a b : Fld) (t : BitVec 3) (s : State) : Host.Outcome State Fault Refusal :=
  s.execLoad sw .q false d a b t
/-- `st.q` (R146). -/
def execStQ (sw : Bool) (d a b : Fld) (w : BitVec 3) (s : State) : Host.Outcome State Fault Refusal :=
  s.execStore sw .q false d a b w
/-- `ld.m` (R146). -/
def execLdM (sw : Bool) (d a b : Fld) (t : BitVec 3) (s : State) : Host.Outcome State Fault Refusal :=
  s.execLoad sw .m false d a b t
/-- `st.m` (R146). -/
def execStM (sw : Bool) (d a b : Fld) (w : BitVec 3) (s : State) : Host.Outcome State Fault Refusal :=
  s.execStore sw .m false d a b w
/-- `ld.g` (R146). -/
def execLdG (sw : Bool) (d a b : Fld) (t : BitVec 3) (s : State) : Host.Outcome State Fault Refusal :=
  s.execLoad sw .g false d a b t
/-- `st.g` (R146). -/
def execStG (sw : Bool) (d a b : Fld) (w : BitVec 3) (s : State) : Host.Outcome State Fault Refusal :=
  s.execStore sw .g false d a b w
/-- `ld.g.nt` (R146, R274). -/
def execLdGNt (sw : Bool) (d a b : Fld) (t : BitVec 3) (s : State) : Host.Outcome State Fault Refusal :=
  s.execLoad sw .g true d a b t
/-- `st.g.nt` (R146, R274). -/
def execStGNt (sw : Bool) (d a b : Fld) (w : BitVec 3) (s : State) : Host.Outcome State Fault Refusal :=
  s.execStore sw .g true d a b w

/-! ## Prefetches (R152) -/

/-- The line that a prefetch names, where nothing about it would fault. -/
def State.prefetchLine (s : State) (addr : Nat) : Option Nat :=
  match if addr < 2 ^ 57 then s.mapVa s.issue.ctx addr 1 true false else none with
  | some (x :: _) =>
    (match s.checkPage s.issue.ctx x.ia true false with
     | .ok _ => if (s.badByte s.issue.ctx ((List.range 128).map (fun i => lineOf x.ia + i))).isSome then none else some x.ia
     | .error _ => none)
  | _ => none

/-- `prf.l1`: the line comes into L1 as a fill does. -/
def State.prefetch1 (s : State) (addr : Nat) : State :=
  match s.prefetchLine addr with
  | none => s
  | some ia =>
    match s.loadL1 s.issue.ctx s.issue.vc [ia] false with
    | .ok (_, s) => s
    | .error _ => s

/-- `prf.l2`: the line comes into its home virtual cache. -/
def State.prefetch2 (s : State) (addr : Nat) : State :=
  match s.prefetchLine addr with
  | none => s
  | some ia =>
    match s.openPage s.issue.ctx ia true false with
    | .ok s => s
    | .error _ => s

def State.execPrf (s : State) (sw : Bool) (a b : Fld) (f : State → Nat → State) : Host.Outcome State Fault Refusal :=
  match s.prepare false [⟨.src, a, 2⟩, ⟨.src, b, 1⟩] with
  | .halt s => .next s
  | .go lanes vals s => .next ((vals.foldl (fun s e => f s (globalAddr e.2)) s).finish sw lanes)

/-- `prf.l1` (R152). -/
def execPrfL1 (sw : Bool) (a b : Fld) (s : State) : Host.Outcome State Fault Refusal := s.execPrf sw a b State.prefetch1
/-- `prf.l2` (R152). -/
def execPrfL2 (sw : Bool) (a b : Fld) (s : State) : Host.Outcome State Fault Refusal := s.execPrf sw a b State.prefetch2

/-! ## Atomics (R154, R155) -/

/-- Level and bytes of an atomic, by b[6:4]. -/
def atomLvl (w : BitVec 3) : Lvl := if w.toNat < 2 then .g else .q
def atomBytes (w : BitVec 3) : Nat := if w.getLsbD 0 then 8 else 4

/-- The request of one lane. In `cas` the compare value is the low half of d and the swap value the high half. -/
def State.atomReq (s : State) (op : AtomOp) (w : BitVec 3) (sc : BitVec 4) (ret : Bool) (lane : Nat) (vs : List (List Word)) : MemReq :=
  let n := atomBytes w
  let ad := if w.toNat < 2 then (w64 (arg vs 0)).toNat else (w32 (arg vs 0)).toNat
  let x := natOfWords (arg vs 1)
  let low := BitVec.ofNat 64 (x % 2 ^ (8 * n))
  let high := BitVec.ofNat 64 (x / 2 ^ (8 * n) % 2 ^ (8 * n))
  let g := s.scopeGen s.issue.ctx (s.issMember lane) sc.toNat
  .atom (atomLvl w) op n ad (if op = .cas then high else low) low sc.toNat g (if ret then some noReply else none)

/-- `atom.OP.L.T d, [a], sc`: long-latency; d receives the old value, and the high half of a cas operand is unchanged. -/
def State.execAtom (s : State) (sw : Bool) (op : AtomOp) (d a : Fld) (w : BitVec 3) (c : BitVec 4) : Host.Outcome State Fault Refusal :=
  let dw := if op = .cas then 2 * atomWords w else atomWords w
  match s.prepare false [⟨.src, a, atomAddrWords w⟩, ⟨.srcDstEven, d, dw⟩] with
  | .halt s => .next s
  | .go _ vals s1 =>
    .next (s1.memIssue s sw (some ⟨.dst, d, atomWords w⟩) (vals.map (fun e => (e.1, s1.atomReq op w c true e.1 e.2))))

/-- `red.OP.L.T [a], sc, d`. -/
def State.execRed (s : State) (sw : Bool) (op : AtomOp) (d a : Fld) (w : BitVec 3) (c : BitVec 4) : Host.Outcome State Fault Refusal :=
  match s.prepare false [⟨.src, a, atomAddrWords w⟩, ⟨.src, d, atomWords w⟩] with
  | .halt s => .next s
  | .go _ vals s1 =>
    .next (s1.memIssue s sw none (vals.map (fun e => (e.1, s1.atomReq op w c false e.1 e.2))))

/-- `atom.add` (R155). -/
def execAtomAdd (sw : Bool) (d a : Fld) (w : BitVec 3) (c : BitVec 4) (s : State) : Host.Outcome State Fault Refusal :=
  s.execAtom sw .add d a w c
/-- `atom.and` (R155). -/
def execAtomAnd (sw : Bool) (d a : Fld) (w : BitVec 3) (c : BitVec 4) (s : State) : Host.Outcome State Fault Refusal :=
  s.execAtom sw .and d a w c
/-- `atom.or` (R155). -/
def execAtomOr (sw : Bool) (d a : Fld) (w : BitVec 3) (c : BitVec 4) (s : State) : Host.Outcome State Fault Refusal :=
  s.execAtom sw .or d a w c
/-- `atom.xor` (R155). -/
def execAtomXor (sw : Bool) (d a : Fld) (w : BitVec 3) (c : BitVec 4) (s : State) : Host.Outcome State Fault Refusal :=
  s.execAtom sw .xor d a w c
/-- `atom.min.i32` (R155). -/
def execAtomMinI (sw : Bool) (d a : Fld) (w : BitVec 3) (c : BitVec 4) (s : State) : Host.Outcome State Fault Refusal :=
  s.execAtom sw .minI d a w c
/-- `atom.max.i32` (R155). -/
def execAtomMaxI (sw : Bool) (d a : Fld) (w : BitVec 3) (c : BitVec 4) (s : State) : Host.Outcome State Fault Refusal :=
  s.execAtom sw .maxI d a w c
/-- `atom.min.n32` (R155). -/
def execAtomMinN (sw : Bool) (d a : Fld) (w : BitVec 3) (c : BitVec 4) (s : State) : Host.Outcome State Fault Refusal :=
  s.execAtom sw .minN d a w c
/-- `atom.max.n32` (R155). -/
def execAtomMaxN (sw : Bool) (d a : Fld) (w : BitVec 3) (c : BitVec 4) (s : State) : Host.Outcome State Fault Refusal :=
  s.execAtom sw .maxN d a w c
/-- `atom.exch` (R155). -/
def execAtomExch (sw : Bool) (d a : Fld) (w : BitVec 3) (c : BitVec 4) (s : State) : Host.Outcome State Fault Refusal :=
  s.execAtom sw .exch d a w c
/-- `atom.cas` (R155). -/
def execAtomCas (sw : Bool) (d a : Fld) (w : BitVec 3) (c : BitVec 4) (s : State) : Host.Outcome State Fault Refusal :=
  s.execAtom sw .cas d a w c
/-- `red.add` (R154). -/
def execRedAdd (sw : Bool) (d a : Fld) (w : BitVec 3) (c : BitVec 4) (s : State) : Host.Outcome State Fault Refusal :=
  s.execRed sw .add d a w c
/-- `red.and` (R154). -/
def execRedAnd (sw : Bool) (d a : Fld) (w : BitVec 3) (c : BitVec 4) (s : State) : Host.Outcome State Fault Refusal :=
  s.execRed sw .and d a w c
/-- `red.or` (R154). -/
def execRedOr (sw : Bool) (d a : Fld) (w : BitVec 3) (c : BitVec 4) (s : State) : Host.Outcome State Fault Refusal :=
  s.execRed sw .or d a w c
/-- `red.xor` (R154). -/
def execRedXor (sw : Bool) (d a : Fld) (w : BitVec 3) (c : BitVec 4) (s : State) : Host.Outcome State Fault Refusal :=
  s.execRed sw .xor d a w c
/-- `red.min.i32` (R154). -/
def execRedMinI (sw : Bool) (d a : Fld) (w : BitVec 3) (c : BitVec 4) (s : State) : Host.Outcome State Fault Refusal :=
  s.execRed sw .minI d a w c
/-- `red.max.i32` (R154). -/
def execRedMaxI (sw : Bool) (d a : Fld) (w : BitVec 3) (c : BitVec 4) (s : State) : Host.Outcome State Fault Refusal :=
  s.execRed sw .maxI d a w c
/-- `red.min.n32` (R154). -/
def execRedMinN (sw : Bool) (d a : Fld) (w : BitVec 3) (c : BitVec 4) (s : State) : Host.Outcome State Fault Refusal :=
  s.execRed sw .minN d a w c
/-- `red.max.n32` (R154). -/
def execRedMaxN (sw : Bool) (d a : Fld) (w : BitVec 3) (c : BitVec 4) (s : State) : Host.Outcome State Fault Refusal :=
  s.execRed sw .maxN d a w c

/-! ## Fences (R157 to R160, R299) -/

/-- A fence: each lane reads its generation at issue; release and acquire act under it. -/
def State.execFence (s : State) (sw : Bool) (k : FenceKind) (c : BitVec 4) : Host.Outcome State Fault Refusal :=
  .next ((s.memIssue s sw none (s.issue.lanes.map (fun l => (l, .fence k c.toNat (s.scopeGen s.issue.ctx (s.issMember l) c.toNat))))).parkHeld
    s.issue.lanes)

/-- `fence.acq` (R158). -/
def execFenceAcq (sw : Bool) (c : BitVec 4) (s : State) : Host.Outcome State Fault Refusal := s.execFence sw .acq c
/-- `fence.rel` (R159). -/
def execFenceRel (sw : Bool) (c : BitVec 4) (s : State) : Host.Outcome State Fault Refusal := s.execFence sw .rel c
/-- `fence.ar` (R160). -/
def execFenceAr (sw : Bool) (c : BitVec 4) (s : State) : Host.Outcome State Fault Refusal := s.execFence sw .ar c
/-- `fence.sc` (R160, R299): one step of the machine, so the steps are its total order. -/
def execFenceSc (sw : Bool) (c : BitVec 4) (s : State) : Host.Outcome State Fault Refusal := s.execFence sw .sc c

/-! ## The scope table (R161 to R163) -/

/-- `scset [a], sc` (R161): once for the gang. -/
def execScset (sw : Bool) (a : Fld) (c : BitVec 4) (s : State) : Host.Outcome State Fault Refusal :=
  match s.prepare false [⟨.src, a, 2⟩] with
  | .halt s => .next s
  | .go lanes vals s1 =>
    .next ((s1.gangIssue s sw lanes (.scset c.toNat (w64 (arg ((vals.headD (0, [])).2) 0)).toNat)).parkHeld lanes)

/-- `scinv sc` (R162). -/
def execScinv (sw : Bool) (c : BitVec 4) (s : State) : Host.Outcome State Fault Refusal :=
  let gone (g : ScopeGen) : ScopeGen := ⟨false, (g.gen + 1) % 2 ^ 32, 1, 0, 0⟩
  let s1 := s.modIssCtx (fun x => { x with scopes := put x.scopes c.toNat (gone ((look x.scopes c.toNat).getD ⟨false, 0, 1, 0, 0⟩)) })
  .next (s1.finish sw s.issue.lanes)

/-- `scqry d, sc` (R162): valid in the low register and gen in the high one. -/
def execScqry (sw : Bool) (d : Fld) (c : BitVec 4) (s : State) : Host.Outcome State Fault Refusal :=
  match s.prepare false [⟨.dst, d, 2⟩] with
  | .halt s => .next s
  | .go lanes _ s1 =>
    .next ((s1.deliver false lanes ⟨.dst, d, 2⟩ (lanes.map (fun l =>
      let g := s1.scopeGen s1.issue.ctx (s1.issMember l) c.toNat
      (l, [if g.valid then 1#32 else 0#32, BitVec.ofNat 32 g.gen], 0#5)))).finish sw lanes)

/-- `scmem d, sc` (R162): is the issuing virtual core in vmask? -/
def execScmem (sw : Bool) (d : Fld) (c : BitVec 4) (s : State) : Host.Outcome State Fault Refusal :=
  match s.prepare false [⟨.dst, d, 1⟩] with
  | .halt s => .next s
  | .go lanes _ s1 =>
    .next ((s1.deliver false lanes ⟨.dst, d, 1⟩ (lanes.map (fun l =>
      (l, [if (s1.scopeGen s1.issue.ctx (s1.issMember l) c.toNat).vmask.testBit s1.issue.vc then 1#32 else 0#32], 0#5)))).finish sw lanes)

end Sys2Proof.Machine
end

