-- ==== Sys2Proof/Machine/Power.lean ====
section
/-!
DEFINITION. Ports of the fabric (R364, R366), bank groups and their loss (R390 to R392), clocks (R396), the governor and
thermal limits (R397), and power-up (R398, R399).
-/
namespace Sys2Proof.Machine

/-! ## Seler ports -/

/-- FLIT_RETRANSMIT (R364): the flit goes out again from the retry buffer; nothing is delivered twice, and management can
read the count. -/
def execFlitRetransmit (port : Nat) (s : State) : Host.Outcome State Fault Refusal :=
  let f := s.hub.fabric
  .next { s with hub := { s.hub with fabric := { f with retransmits := put f.retransmits port ((look f.retransmits port).getD 0 + 1) } } }

/-- The coordinates of the devices that a job needs to reach. -/
def State.jobPeers (s : State) (j : Job) : List (List Nat) :=
  match j.kind with
  | .copy r => (match s.awayOf r with
    | .at cs => [cs]
    | _ => [])
  | .coll _ p rank n _ _ =>
    let fr := s.hub.fabric.recd
    if s.atCollApex p then ((List.range n).filter (· != rank)).map (fun k => coordOfRank fr (gridDims p.rmask) k (fabCoords fr))
    else [s.collApex p]
  | _ => []

/-- Jobs that need a direction of which every port is down retire with code 0x07 (R366). -/
def State.cutOff (s : State) : State :=
  s.ctxs.foldl (fun s e => e.2.jobs.foldl (fun s j =>
    if !j.2.retired && (s.jobPeers j.2).any (fun cs => (s.portTo cs vcRequest).isNone) then s.jobCode e.1 j.1 7 else s) s) s

/-- PORT_STATE_CHANGE (R366): striping uses only ports that are up. -/
def execPortStateChange (port : Nat) (state : PortState) (s : State) : Host.Outcome State Fault Refusal :=
  if 32 ≤ port || s.hub.ras.absentPorts.contains port then .next s else
  let s : State := { s with hub := { s.hub with fabric := { s.hub.fabric with ports := put s.hub.fabric.ports port state } } }
  .next s.cutOff

/-! ## Bank groups (R390 to R392) -/

/-- Units of loc (R395). -/
def unitCode : BankUnit → Nat
  | .lanePrivate => 1 | .scratchpad => 2 | .squareMem => 3 | .market => 4 | .l2 => 5
/-- Rows of a bank: a byte each (R270, R390). -/
def bankRows : BankUnit → Nat
  | .lanePrivate | .scratchpad | .squareMem => 16384
  | .market => 2 ^ 18
  | .l2 => 2 ^ 21
/-- The number of groups (R390). -/
def bankGroupsOf : BankUnit → Nat
  | .lanePrivate | .squareMem => 1
  | .scratchpad | .l2 => 4
  | .market => 8
def unitOfCore : BankUnit → Bool
  | .market | .l2 => false
  | _ => true

/-- loc of R395. -/
def bankLoc (g : BankGroup) (bank : Nat) : Nat :=
  (if unitOfCore g.unit then dieOf g.which else g.which) * 2 ^ 28 + unitCode g.unit * 2 ^ 24 + g.group * 2 ^ 18 + bank * 2 ^ 13 +
    (if unitOfCore g.unit then g.which else 0)

/-- The group is one of the part that is present. -/
def State.groupThere (s : State) (g : BankGroup) : Bool :=
  decide (g.group < bankGroupsOf g.unit) && (if unitOfCore g.unit then s.corePresent g.which else s.diePresent g.which) &&
    !(g.unit == .l2 && s.hub.ras.absentL2.contains (4 * g.which + g.group))

def State.bankOf (s : State) (g : BankGroup) : BankSt := (look s.hub.ras.banks g).getD {}
def State.setBank (s : State) (g : BankGroup) (b : BankSt) : State :=
  { s with hub := { s.hub with ras := { s.hub.ras with banks := put s.hub.ras.banks g b } } }
def State.modRas (s : State) (f : Ras → Ras) : State := { s with hub := { s.hub with ras := f s.hub.ras } }

/-- Contexts with a virtual core on a core are asked to leave, and stopped as by a deadline that has run out (R347, R392); `execContextResume`
restores them elsewhere. -/
def State.stopContextsOn (s : State) (p : Nat) : State :=
  s.ctxs.foldl (fun s e => if !e.2.place.any (fun x => x.2 == p) then s else
    let s := s.modCtx e.1 (fun x => { x with set := { x.set with preq := true } })
    e.2.place.foldl (fun s x => match (s.core e.1 x.1).run with
      | .running => s.post (.forcedStop e.1 x.1 .deadline)
      | .debugStopped _ => s.post (.forcedStop e.1 x.1 .debug)
      | _ => s) s) s

/-- The group is lost (R392): what it holds is left, and the log and the retired masks say so. -/
def State.loseGroup (s : State) (g : BankGroup) : State :=
  match g.unit with
  | .l2 => ((s.logError 3 3 0x3FF (bankLoc g 0) 0).modRas (fun r => { r with retiredL2 := r.retiredL2 ++ [(g.which, g.group)] })).retakeChanges
  | .market => ((s.logError 3 4 0x3FF (bankLoc g 0) 0).modRas (fun r => { r with retiredMarkets := addNat r.retiredMarkets g.which })).modDie g.which
      (fun d => { d with marketRetired := true })
  | _ => ((s.logError 3 2 0x3FF (bankLoc g 0) 0).modRas (fun r => { r with retiredCores := addNat r.retiredCores g.which })).stopContextsOn g.which

/-- A bank of a group fails (R391, R392): what the group's state is then, and whether the group is lost. The first data or check bank to fail is
rebuilt into the spare. A failed spare is no spare any more. A second bank is borne while the spare is being filled for the first. -/
def BankSt.markedBy (b : BankSt) (bank : Nat) : BankSt × Bool :=
  let b' := { b with failed := b.failed ++ [bank] }
  if 2 ≤ b.failed.length ∨ (b.failed ≠ [] ∧ (b.spareUsed = true ∨ bank = 18)) then ({ b' with lost := true, rebuilding := none }, true)
  else if bank = 18 then ({ b' with spareUsed := true }, false)
  else if b.rebuilding.isSome then (b', false)
  else ({ b' with rebuilding := some (bank, 0) }, false)

/-- A bank is marked failed (R391, R392): a log entry; then the rebuild into the spare starts, or the group is lost. -/
def State.markBank (s : State) (g : BankGroup) (bank : Nat) : State :=
  let b := s.bankOf g
  if !s.groupThere g || b.lost || b.failed.contains bank || 18 < bank then s else
  let s := (s.logError 1 0 0x3FF (bankLoc g bank) 0).count 1 1
  let r := b.markedBy bank
  let t := s.setBank g r.1
  if r.2 then t.loseGroup g
  else if b.rebuilding.isNone && r.1.rebuilding.isSome then t.post (.bankRebuildRow g) else t

/-- BANK_MARK_FAILED (R391, R392). -/
def execBankMarkFailed (g : BankGroup) (bank : Nat) (s : State) : Host.Outcome State Fault Refusal := .next (s.markBank g bank)

/-- BANK_REBUILD_ROW (R391): the walker's next row; with the last one the spare takes the bank's place. -/
def execBankRebuildRow (g : BankGroup) (s : State) : Host.Outcome State Fault Refusal :=
  let b := s.bankOf g
  match b.rebuilding with
  | none => .next s
  | some (bank, row) =>
    if row + 1 < bankRows g.unit then .next ((s.setBank g { b with rebuilding := some (bank, row + 1) }).post (.bankRebuildRow g))
    else .next (((s.setBank g { b with rebuilding := none, spareUsed := true, replaced := some bank }).logError 2 0 0x3FF (bankLoc g bank) 0).count 2 1)

/-! ## Clocks (R396) -/

/-- The clock of a die, or of the hub (4), in tenths of GHz. A die keeps the clocks it had, by which clk counts (R5, R42). -/
def State.clockOf (s : State) (die : Nat) : Nat := if die = 4 then s.hub.hubClock else (s.die die).clock
def State.setClock (s : State) (die tenths : Nat) : State :=
  if die = 4 then { s with hub := { s.hub with hubClock := tenths } } else s.modDie die (fun d => { d with clock := tenths, clocks := (s.aux.time, d.clock) :: d.clocks })

/-- CLOCK_DROOP (R396): down to 3.0, 2.7 or 2.4 GHz, never up. -/
def execClockDroop (die tenths : Nat) (s : State) : Host.Outcome State Fault Refusal :=
  if 4 < die ∨ ¬ (tenths = 30 ∨ tenths = 27 ∨ tenths = 24) ∨ s.clockOf die ≤ tenths then .next s
  else .next ((s.setClock die tenths).count (6 + (30 - tenths) / 3) 1)

/-- CLOCK_STEP_UP (R396): one step, up to 3.3 GHz. -/
def execClockStepUp (die : Nat) (s : State) : Host.Outcome State Fault Refusal :=
  if 4 < die ∨ 33 ≤ s.clockOf die then .next s else .next (s.setClock die (s.clockOf die + 3))

/-! ## The governor (R397) -/

/-- A pool of which a tenth went in each of n periods. -/
def shrinkPool : Nat → Nat → Nat
  | 0, n => n
  | k + 1, n => let m := shrinkPool k n; m - m / 10
/-- Tokens in the pool: one per 4 W of the limit less the fixed draw, and less what thermal limits took. -/
def State.tokens (s : State) : Nat := shrinkPool s.hub.shrunk ((s.hub.pool - Config.fixedDraw) / 4)
/-- The governor's units: the matrix engines of four dies, then the 32 Seler ports. -/
def governorUnits : Nat := 36
/-- The floor of a unit: 5 % of an even share. Shares are whole tokens, rounded down: DESIGN CHOICE, notes/assumptions/81.md. -/
def floorOf (pool : Nat) : Nat := pool * 5 / (100 * governorUnits)
/-- The shares of a pool in proportion to demand: units whose share would fall under the floor get the floor, and the others divide
what is left. -/
def sharesOf (pool : Nat) (demand : List Nat) : Nat → List Nat → Nat → Nat
  | 0, _, _ => floorOf pool
  | k + 1, low, u =>
    let left := pool - low.length * floorOf pool
    let all := ((List.range governorUnits).filter (fun v => !low.contains v)).foldl (fun n v => n + demand.getD v 0) 0
    let share (v : Nat) : Nat := left * demand.getD v 0 / all
    let more := (List.range governorUnits).filter (fun v => !low.contains v && decide (share v < floorOf pool))
    if low.contains u then floorOf pool else if more = [] then share u else sharesOf pool demand k (low ++ more) u
/-- A unit's tokens. -/
def State.unitBudget (s : State) (demand : List Nat) (u : Nat) : Nat := sharesOf s.tokens demand governorUnits [] u

/-- GOVERNOR_ROUND (R397). -/
def execGovernorRound (demand : List Nat) (s : State) : Host.Outcome State Fault Refusal :=
  let t : State := { s with hub := { s.hub with fabric := { s.hub.fabric with portBudget := (List.range 32).map (fun p => s.unitBudget demand (4 + p)) } } }
  let t := (List.range 4).foldl (fun t d => t.modDie d (fun x => { x with budget := s.unitBudget demand d })) t
  .next (if s.tokens < demand.sum then t.count 9 1 else t)

/-- THERMAL_LIMIT (R397): the pool shrinks by a tenth for this period, and the log says so. -/
def execThermalLimit (die : Nat) (s : State) : Host.Outcome State Fault Refusal :=
  let s : State := { s with hub := { s.hub with shrunk := s.hub.shrunk + 1 } }
  .next (s.logError 9 0 0x3FF ((if die < 4 then die else 15) * 2 ^ 28) 0)

/-- THERMAL_TRIP (R397): THALRM is asserted; core power goes 10 ms later. -/
def execThermalTrip (s : State) : Host.Outcome State Fault Refusal :=
  .next ({ s with hub := { s.hub with therm := true } }.post .corePowerRemove)

/-! ## Power (R397 to R399) -/

/-- Actions that outlive a loss of power: what comes from outside. -/
def fromOutside : Instr → Bool
  | .powerUp _ => true
  | _ => false

/-- CORE_POWER_REMOVE (R397): every context is lost. -/
def execCorePowerRemove (s : State) : Host.Outcome State Fault Refusal :=
  if !s.hub.therm then .next s else
  let t := s.ctxs.foldl (fun s e => s.dropContext e.1) s
  .next { t with agenda := t.agenda.filter fromOutside, squares := [], dies := [], mem := [], uncorr := [], dramSyms := [], badChip := [], badSyms := [], badStores := [], badPans := [], images := [], hub := { t.hub with power := .off } }

/-- PWRLIM in watts (R398). -/
def pwrWatts (n : Nat) : Nat := 3600 - 600 * (n % 4)
/-- Where power-up leads (R398, R399). -/
def powerOf (prov : Bool) (x : Straps) : Power :=
  if x.bootmd ≠ 0 then .halted else if x.physel = 3 || !prov then .portDown else .up

/-- Units beyond repair are left out of presence (R399). -/
def Ras.leaveOut (r : Ras) : Ras :=
  { r with absentCores := r.absentCores ++ r.retiredCores, retiredCores := [], absentL2 := r.absentL2 ++ r.retiredL2.map (fun e => 4 * e.1 + e.2), retiredL2 := [] }

/-- What is present after the self-test: a unit found beyond repair is left out (R392, R394, R399). A bank whose place the spare was being
given is rebuilt from its first row. -/
def presenceAfter (r : Ras) (x : SelfTest) : Ras :=
  let r := r.leaveOut
  { absentCores := r.absentCores ++ x.cores, absentSquares := r.absentSquares ++ x.squares, absentDies := r.absentDies ++ x.dies
    absentPorts := r.absentPorts ++ x.ports, absentBd := r.absentBd ++ x.bd, absentLp := r.absentLp ++ x.lp
    absentL2 := r.absentL2 ++ x.l2
    banks := (r.banks.filter (fun e => !e.2.lost || e.1.unit == .market)).map (fun e =>
      (e.1, { e.2 with corrected := [], rebuilding := e.2.rebuilding.map (fun y => (y.1, 0)) }))
    retiredMarkets := r.retiredMarkets }

/-- POWER_UP (R398, R399): straps are read, the self-test marks the banks that it finds bad, presence is written, and no context exists; the
host port comes up unless a strap or a blank provisioning record keeps it down. The log holds what the self-test found. -/
def execPowerUp (straps : Straps) (s : State) : Host.Outcome State Fault Refusal :=
  let ras := presenceAfter s.hub.ras straps.test
  let t : State := { State.reset with
    aux := s.aux
    out := s.out
    agenda := (ras.banks.filter (fun e => e.2.rebuilding.isSome)).map (fun e => .bankRebuildRow e.1)
    dies := s.hub.ras.retiredMarkets.map (fun d => (d, { marketRetired := true }))
    hub := { State.reset.hub with
      power := powerOf s.hub.prov straps
      straps := straps
      deviceKey := Config.deviceKey s.aux.time
      pool := pwrWatts straps.pwrlim
      prov := s.hub.prov
      cfgAddr := s.hub.cfgAddr
      ras := ras } }
  .next ((straps.test.banks.foldl (fun s e => s.markBank e.1 e.2) t).modRas Ras.leaveOut)

end Sys2Proof.Machine
end

