-- ==== Sys2Proof/Machine/Dispatch.lean ====
section
/-! DEFINITION. The dispatch of every action to its meaning, one arm per constructor of `Instr`. -/
namespace Sys2Proof.Machine

def exec (i : Instr) (s : State) : Host.Outcome State Fault Refusal :=
  match i with
  | .longLatencyReturn r => Sys2Proof.Machine.execLongLatencyReturn r s
  | .gangPromotion ctx vc => Sys2Proof.Machine.execGangPromotion ctx vc s
  | .channelPushArrive p => Sys2Proof.Machine.execChannelPushArrive p s
  | .storePerform ctx vc ia => Sys2Proof.Machine.execStorePerform ctx vc ia s
  | .gatewayPageFault n => Sys2Proof.Machine.execGatewayPageFault n s
  | .writebackFault n => Sys2Proof.Machine.execWritebackFault n s
  | .trapRecordEnqueue ctx => Sys2Proof.Machine.execTrapRecordEnqueue ctx s
  | .partialArrive pan p => Sys2Proof.Machine.execPartialArrive pan p s
  | .panHoldExpiry pan p => Sys2Proof.Machine.execPanHoldExpiry pan p s
  | .ctbmLeafArrive p => Sys2Proof.Machine.execCtbmLeafArrive p s
  | .closeMarkerArrive ctx slot site => Sys2Proof.Machine.execCloseMarkerArrive ctx slot site s
  | .slotResolve ctx slot => Sys2Proof.Machine.execSlotResolve ctx slot s
  | .slotFinal ctx slot => Sys2Proof.Machine.execSlotFinal ctx slot s
  | .mmaPassStart ctx vc q => Sys2Proof.Machine.execMmaPassStart ctx vc q s
  | .fusionWindowExpiry ctx vc window => Sys2Proof.Machine.execFusionWindowExpiry ctx vc window s
  | .drainSeqWrite ctx vc line q => Sys2Proof.Machine.execDrainSeqWrite ctx vc line q s
  | .jobElement ctx job => Sys2Proof.Machine.execJobElement ctx job s
  | .jobRetire ctx job => Sys2Proof.Machine.execJobRetire ctx job s
  | .collectiveWindowGrant ctx job w => Sys2Proof.Machine.execCollectiveWindowGrant ctx job w s
  | .collectiveRootReturn ctx job elem msg flags => Sys2Proof.Machine.execCollectiveRootReturn ctx job elem msg flags s
  | .ckptGranuleCopy ctx => Sys2Proof.Machine.execCkptGranuleCopy ctx s
  | .ckptCowCopy ctx granule => Sys2Proof.Machine.execCkptCowCopy ctx granule s
  | .vcAccept r => Sys2Proof.Machine.execVcAccept r s
  | .vcMoveStep ctx vcn line => Sys2Proof.Machine.execVcMoveStep ctx vcn line s
  | .vcCommit ctx vcn => Sys2Proof.Machine.execVcCommit ctx vcn s
  | .pageMigrate ctx ia move => Sys2Proof.Machine.execPageMigrate ctx ia move s
  | .thrashThrottleExpiry ctx ia => Sys2Proof.Machine.execThrashThrottleExpiry ctx ia s
  | .launch h queue recd => Sys2Proof.Machine.execLaunch h queue recd s
  | .launchStart queue cores => Sys2Proof.Machine.execLaunchStart queue cores s
  | .unitPlace uid => Sys2Proof.Machine.execUnitPlace uid s
  | .edgeSatisfied uid edge => Sys2Proof.Machine.execEdgeSatisfied uid edge s
  | .launchComplete uid => Sys2Proof.Machine.execLaunchComplete uid s
  | .preemptDelayExpiry queue => Sys2Proof.Machine.execPreemptDelayExpiry queue s
  | .preemptDeadline ctx => Sys2Proof.Machine.execPreemptDeadline ctx s
  | .coreRelease ctx vc => Sys2Proof.Machine.execCoreRelease ctx vc s
  | .forcedStop ctx vc kind => Sys2Proof.Machine.execForcedStop ctx vc kind s
  | .scanComplete ctx vc => Sys2Proof.Machine.execScanComplete ctx vc s
  | .imageRestore ctx vc core => Sys2Proof.Machine.execImageRestore ctx vc core s
  | .contextResume ctx cores => Sys2Proof.Machine.execContextResume ctx cores s
  | .contextMigrate ctx cores => Sys2Proof.Machine.execContextMigrate ctx cores s
  | .watchpointHit hit => Sys2Proof.Machine.execWatchpointHit hit s
  | .hostWrite h window offset data => Sys2Proof.Machine.execHostWrite h window offset data s
  | .hostRead h window offset len => Sys2Proof.Machine.execHostRead h window offset len s
  | .lctAck h ack => Sys2Proof.Machine.execLctAck h ack s
  | .lctRetransmitTimeout sess => Sys2Proof.Machine.execLctRetransmitTimeout sess s
  | .contextCreate h ctx n quota priv root vc0 => Sys2Proof.Machine.execContextCreate h ctx n quota priv root vc0 s
  | .contextDestroy h ctx => Sys2Proof.Machine.execContextDestroy h ctx s
  | .queueBind h queue ctx cls => Sys2Proof.Machine.execQueueBind h queue ctx cls s
  | .queueUnbind h queue => Sys2Proof.Machine.execQueueUnbind h queue s
  | .rangeRegisterWrite h ctx k recd => Sys2Proof.Machine.execRangeRegisterWrite h ctx k recd s
  | .pageMap h ctx level ia entry => Sys2Proof.Machine.execPageMap h ctx level ia entry s
  | .pageUnmap h ctx level ia => Sys2Proof.Machine.execPageUnmap h ctx level ia s
  | .pageChange h ctx level ia entry => Sys2Proof.Machine.execPageChange h ctx level ia entry s
  | .windowOpenClose h opn window sess ctx base size rd wr => Sys2Proof.Machine.execWindowOpenClose h opn window sess ctx base size rd wr s
  | .sessionOpenClose h opn sess ctx key => Sys2Proof.Machine.execSessionOpenClose h opn sess ctx key s
  | .faultResolve h die fid => Sys2Proof.Machine.execFaultResolve h die fid s
  | .faultFail h die fid => Sys2Proof.Machine.execFaultFail h die fid s
  | .trapResume h ctx tseq => Sys2Proof.Machine.execTrapResume h ctx tseq s
  | .trapRetry h ctx tseq => Sys2Proof.Machine.execTrapRetry h ctx tseq s
  | .trapAbandon h ctx tseq => Sys2Proof.Machine.execTrapAbandon h ctx tseq s
  | .fabricRecordWrite h recd routes => Sys2Proof.Machine.execFabricRecordWrite h recd routes s
  | .fabricGroupOp h create gid ctx dev => Sys2Proof.Machine.execFabricGroupOp h create gid ctx dev s
  | .portStatus h port set => Sys2Proof.Machine.execPortStatus h port set s
  | .cutMapRead h ctx => Sys2Proof.Machine.execCutMapRead h ctx s
  | .delayThrashSet h cls delay thrash => Sys2Proof.Machine.execDelayThrashSet h cls delay thrash s
  | .imageSubmit h ctx va len => Sys2Proof.Machine.execImageSubmit h ctx va len s
  | .imageRelease h ctx khnd => Sys2Proof.Machine.execImageRelease h ctx khnd s
  | .quotaSet h ctx quota => Sys2Proof.Machine.execQuotaSet h ctx quota s
  | .marketAllotmentSet h ctx die base size => Sys2Proof.Machine.execMarketAllotmentSet h ctx die base size s
  | .arpRequest a => Sys2Proof.Machine.execArpRequest a s
  | .icmpEcho a => Sys2Proof.Machine.execIcmpEcho a s
  | .flitRetransmit port => Sys2Proof.Machine.execFlitRetransmit port s
  | .portStateChange port state => Sys2Proof.Machine.execPortStateChange port state s
  | .bankMarkFailed g bank => Sys2Proof.Machine.execBankMarkFailed g bank s
  | .bankRebuildRow g => Sys2Proof.Machine.execBankRebuildRow g s
  | .clockDroop die tenths => Sys2Proof.Machine.execClockDroop die tenths s
  | .clockStepUp die => Sys2Proof.Machine.execClockStepUp die s
  | .governorRound demand => Sys2Proof.Machine.execGovernorRound demand s
  | .thermalLimit die => Sys2Proof.Machine.execThermalLimit die s
  | .thermalTrip => Sys2Proof.Machine.execThermalTrip s
  | .corePowerRemove => Sys2Proof.Machine.execCorePowerRemove s
  | .powerUp straps => Sys2Proof.Machine.execPowerUp straps s
  | .unassignedWordIssue w => Sys2Proof.Machine.execUnassignedWordIssue w s
  | .priorityFlowControlFrame classes paused => Sys2Proof.Machine.execPriorityFlowControlFrame classes paused s
  | .addI32 sw d a b => Sys2Proof.Machine.execAddI32 sw d a b s
  | .subI32 sw d a b => Sys2Proof.Machine.execSubI32 sw d a b s
  | .addSatI32 sw d a b => Sys2Proof.Machine.execAddSatI32 sw d a b s
  | .subSatI32 sw d a b => Sys2Proof.Machine.execSubSatI32 sw d a b s
  | .addSatN32 sw d a b => Sys2Proof.Machine.execAddSatN32 sw d a b s
  | .subSatN32 sw d a b => Sys2Proof.Machine.execSubSatN32 sw d a b s
  | .mulloI32 sw d a b => Sys2Proof.Machine.execMulloI32 sw d a b s
  | .mulhiI32 sw d a b => Sys2Proof.Machine.execMulhiI32 sw d a b s
  | .mulhiN32 sw d a b => Sys2Proof.Machine.execMulhiN32 sw d a b s
  | .minI32 sw d a b => Sys2Proof.Machine.execMinI32 sw d a b s
  | .maxI32 sw d a b => Sys2Proof.Machine.execMaxI32 sw d a b s
  | .minN32 sw d a b => Sys2Proof.Machine.execMinN32 sw d a b s
  | .maxN32 sw d a b => Sys2Proof.Machine.execMaxN32 sw d a b s
  | .absI32 sw d a => Sys2Proof.Machine.execAbsI32 sw d a s
  | .negI32 sw d a => Sys2Proof.Machine.execNegI32 sw d a s
  | .addI64 sw d a b => Sys2Proof.Machine.execAddI64 sw d a b s
  | .subI64 sw d a b => Sys2Proof.Machine.execSubI64 sw d a b s
  | .mulloI64 sw d a b => Sys2Proof.Machine.execMulloI64 sw d a b s
  | .mulhiI64 sw d a b => Sys2Proof.Machine.execMulhiI64 sw d a b s
  | .mulhiN64 sw d a b => Sys2Proof.Machine.execMulhiN64 sw d a b s
  | .minI64 sw d a b => Sys2Proof.Machine.execMinI64 sw d a b s
  | .maxI64 sw d a b => Sys2Proof.Machine.execMaxI64 sw d a b s
  | .minN64 sw d a b => Sys2Proof.Machine.execMinN64 sw d a b s
  | .maxN64 sw d a b => Sys2Proof.Machine.execMaxN64 sw d a b s
  | .negI64 sw d a => Sys2Proof.Machine.execNegI64 sw d a s
  | .absI64 sw d a => Sys2Proof.Machine.execAbsI64 sw d a s
  | .andB32 sw d a b => Sys2Proof.Machine.execAndB32 sw d a b s
  | .orB32 sw d a b => Sys2Proof.Machine.execOrB32 sw d a b s
  | .xorB32 sw d a b => Sys2Proof.Machine.execXorB32 sw d a b s
  | .andnB32 sw d a b => Sys2Proof.Machine.execAndnB32 sw d a b s
  | .ornB32 sw d a b => Sys2Proof.Machine.execOrnB32 sw d a b s
  | .xnorB32 sw d a b => Sys2Proof.Machine.execXnorB32 sw d a b s
  | .notB32 sw d a => Sys2Proof.Machine.execNotB32 sw d a s
  | .shlB32 sw d a b => Sys2Proof.Machine.execShlB32 sw d a b s
  | .shrB32 sw d a b => Sys2Proof.Machine.execShrB32 sw d a b s
  | .sarB32 sw d a b => Sys2Proof.Machine.execSarB32 sw d a b s
  | .rotlB32 sw d a b => Sys2Proof.Machine.execRotlB32 sw d a b s
  | .rotrB32 sw d a b => Sys2Proof.Machine.execRotrB32 sw d a b s
  | .movB32 sw d a => Sys2Proof.Machine.execMovB32 sw d a s
  | .movB64 sw d a => Sys2Proof.Machine.execMovB64 sw d a s
  | .popcB32 sw d a => Sys2Proof.Machine.execPopcB32 sw d a s
  | .clzB32 sw d a => Sys2Proof.Machine.execClzB32 sw d a s
  | .ctzB32 sw d a => Sys2Proof.Machine.execCtzB32 sw d a s
  | .brevB32 sw d a => Sys2Proof.Machine.execBrevB32 sw d a s
  | .bfeI32 sw d a b => Sys2Proof.Machine.execBfeI32 sw d a b s
  | .bfeN32 sw d a b => Sys2Proof.Machine.execBfeN32 sw d a b s
  | .bfiB32 sw d a b => Sys2Proof.Machine.execBfiB32 sw d a b s
  | .bselB32 sw d a b => Sys2Proof.Machine.execBselB32 sw d a b s
  | .shlB64 sw d a b => Sys2Proof.Machine.execShlB64 sw d a b s
  | .shrB64 sw d a b => Sys2Proof.Machine.execShrB64 sw d a b s
  | .sarB64 sw d a b => Sys2Proof.Machine.execSarB64 sw d a b s
  | .popcB64 sw d a => Sys2Proof.Machine.execPopcB64 sw d a s
  | .clzB64 sw d a => Sys2Proof.Machine.execClzB64 sw d a s
  | .setEqB32 sw d a b => Sys2Proof.Machine.execSetEqB32 sw d a b s
  | .setNeB32 sw d a b => Sys2Proof.Machine.execSetNeB32 sw d a b s
  | .setLtI32 sw d a b => Sys2Proof.Machine.execSetLtI32 sw d a b s
  | .setLeI32 sw d a b => Sys2Proof.Machine.execSetLeI32 sw d a b s
  | .setLtN32 sw d a b => Sys2Proof.Machine.execSetLtN32 sw d a b s
  | .setLeN32 sw d a b => Sys2Proof.Machine.execSetLeN32 sw d a b s
  | .setEqB64 sw d a b => Sys2Proof.Machine.execSetEqB64 sw d a b s
  | .setNeB64 sw d a b => Sys2Proof.Machine.execSetNeB64 sw d a b s
  | .setLtI64 sw d a b => Sys2Proof.Machine.execSetLtI64 sw d a b s
  | .setLeI64 sw d a b => Sys2Proof.Machine.execSetLeI64 sw d a b s
  | .setLtN64 sw d a b => Sys2Proof.Machine.execSetLtN64 sw d a b s
  | .setLeN64 sw d a b => Sys2Proof.Machine.execSetLeN64 sw d a b s
  | .selB32 sw d a b => Sys2Proof.Machine.execSelB32 sw d a b s
  | .selB64 sw d a b => Sys2Proof.Machine.execSelB64 sw d a b s
  | .addiI32 sw d a imm => Sys2Proof.Machine.execAddiI32 sw d a imm s
  | .andiB32 sw d a imm => Sys2Proof.Machine.execAndiB32 sw d a imm s
  | .oriB32 sw d a imm => Sys2Proof.Machine.execOriB32 sw d a imm s
  | .xoriB32 sw d a imm => Sys2Proof.Machine.execXoriB32 sw d a imm s
  | .shli sw d a w c => Sys2Proof.Machine.execShli sw d a w c s
  | .shri sw d a w c => Sys2Proof.Machine.execShri sw d a w c s
  | .sari sw d a w c => Sys2Proof.Machine.execSari sw d a w c s
  | .rotri sw d a w c => Sys2Proof.Machine.execRotri sw d a w c s
  | .andB64 sw d a b => Sys2Proof.Machine.execAndB64 sw d a b s
  | .orB64 sw d a b => Sys2Proof.Machine.execOrB64 sw d a b s
  | .xorB64 sw d a b => Sys2Proof.Machine.execXorB64 sw d a b s
  | .notB64 sw d a => Sys2Proof.Machine.execNotB64 sw d a s
  | .rotlB64 sw d a b => Sys2Proof.Machine.execRotlB64 sw d a b s
  | .rotrB64 sw d a b => Sys2Proof.Machine.execRotrB64 sw d a b s
  | .movi sw d imm => Sys2Proof.Machine.execMovi sw d imm s
  | .movhi sw d imm => Sys2Proof.Machine.execMovhi sw d imm s
  | .movlo sw d imm => Sys2Proof.Machine.execMovlo sw d imm s
  | .addaI sw d a b => Sys2Proof.Machine.execAddaI sw d a b s
  | .addaN sw d a b => Sys2Proof.Machine.execAddaN sw d a b s
  | .madaN32 sw d a b => Sys2Proof.Machine.execMadaN32 sw d a b s
  | .extI32 sw d a => Sys2Proof.Machine.execExtI32 sw d a s
  | .extN32 sw d a => Sys2Proof.Machine.execExtN32 sw d a s
  | .truncB64 sw d a => Sys2Proof.Machine.execTruncB64 sw d a s
  | .srd sw d n => Sys2Proof.Machine.execSrd sw d n s
  | .srdPos sw d => Sys2Proof.Machine.execSrdPos sw d s
  | .swr sw a n => Sys2Proof.Machine.execSwr sw a n s
  | .swrFst sw a => Sys2Proof.Machine.execSwrFst sw a s
  | .swrPreq sw a => Sys2Proof.Machine.execSwrPreq sw a s
  | .swrFltcc sw a => Sys2Proof.Machine.execSwrFltcc sw a s
  | .faddF32 sw d a b r => Sys2Proof.Machine.execFaddF32 sw d a b r s
  | .fsubF32 sw d a b r => Sys2Proof.Machine.execFsubF32 sw d a b r s
  | .fmulF32 sw d a b r => Sys2Proof.Machine.execFmulF32 sw d a b r s
  | .ffmaF32 sw d a b r => Sys2Proof.Machine.execFfmaF32 sw d a b r s
  | .faddF64 sw d a b r => Sys2Proof.Machine.execFaddF64 sw d a b r s
  | .fsubF64 sw d a b r => Sys2Proof.Machine.execFsubF64 sw d a b r s
  | .fmulF64 sw d a b r => Sys2Proof.Machine.execFmulF64 sw d a b r s
  | .ffmaF64 sw d a b r => Sys2Proof.Machine.execFfmaF64 sw d a b r s
  | .faddBf16x2 sw d a b r => Sys2Proof.Machine.execFaddBf16x2 sw d a b r s
  | .fsubBf16x2 sw d a b r => Sys2Proof.Machine.execFsubBf16x2 sw d a b r s
  | .fmulBf16x2 sw d a b r => Sys2Proof.Machine.execFmulBf16x2 sw d a b r s
  | .ffmaBf16x2 sw d a b r => Sys2Proof.Machine.execFfmaBf16x2 sw d a b r s
  | .faddF16x2 sw d a b r => Sys2Proof.Machine.execFaddF16x2 sw d a b r s
  | .fsubF16x2 sw d a b r => Sys2Proof.Machine.execFsubF16x2 sw d a b r s
  | .fmulF16x2 sw d a b r => Sys2Proof.Machine.execFmulF16x2 sw d a b r s
  | .ffmaF16x2 sw d a b r => Sys2Proof.Machine.execFfmaF16x2 sw d a b r s
  | .fminF32 sw d a b => Sys2Proof.Machine.execFminF32 sw d a b s
  | .fmaxF32 sw d a b => Sys2Proof.Machine.execFmaxF32 sw d a b s
  | .fabsF32 sw d a => Sys2Proof.Machine.execFabsF32 sw d a s
  | .fnegF32 sw d a => Sys2Proof.Machine.execFnegF32 sw d a s
  | .fcpsgnF32 sw d a b => Sys2Proof.Machine.execFcpsgnF32 sw d a b s
  | .fdivF32 sw d a b => Sys2Proof.Machine.execFdivF32 sw d a b s
  | .fsqrtF32 sw d a => Sys2Proof.Machine.execFsqrtF32 sw d a s
  | .fsetEqF32 sw d a b => Sys2Proof.Machine.execFsetEqF32 sw d a b s
  | .fsetNeF32 sw d a b => Sys2Proof.Machine.execFsetNeF32 sw d a b s
  | .fsetLtF32 sw d a b => Sys2Proof.Machine.execFsetLtF32 sw d a b s
  | .fsetLeF32 sw d a b => Sys2Proof.Machine.execFsetLeF32 sw d a b s
  | .fsetUnF32 sw d a b => Sys2Proof.Machine.execFsetUnF32 sw d a b s
  | .fclassF32 sw d a => Sys2Proof.Machine.execFclassF32 sw d a s
  | .fminF64 sw d a b => Sys2Proof.Machine.execFminF64 sw d a b s
  | .fmaxF64 sw d a b => Sys2Proof.Machine.execFmaxF64 sw d a b s
  | .fabsF64 sw d a => Sys2Proof.Machine.execFabsF64 sw d a s
  | .fnegF64 sw d a => Sys2Proof.Machine.execFnegF64 sw d a s
  | .fcpsgnF64 sw d a b => Sys2Proof.Machine.execFcpsgnF64 sw d a b s
  | .fdivF64 sw d a b => Sys2Proof.Machine.execFdivF64 sw d a b s
  | .fsqrtF64 sw d a => Sys2Proof.Machine.execFsqrtF64 sw d a s
  | .fsetEqF64 sw d a b => Sys2Proof.Machine.execFsetEqF64 sw d a b s
  | .fsetNeF64 sw d a b => Sys2Proof.Machine.execFsetNeF64 sw d a b s
  | .fsetLtF64 sw d a b => Sys2Proof.Machine.execFsetLtF64 sw d a b s
  | .fsetLeF64 sw d a b => Sys2Proof.Machine.execFsetLeF64 sw d a b s
  | .fsetUnF64 sw d a b => Sys2Proof.Machine.execFsetUnF64 sw d a b s
  | .fclassF64 sw d a => Sys2Proof.Machine.execFclassF64 sw d a s
  | .fminBf16x2 sw d a b => Sys2Proof.Machine.execFminBf16x2 sw d a b s
  | .fmaxBf16x2 sw d a b => Sys2Proof.Machine.execFmaxBf16x2 sw d a b s
  | .fabsBf16x2 sw d a => Sys2Proof.Machine.execFabsBf16x2 sw d a s
  | .fnegBf16x2 sw d a => Sys2Proof.Machine.execFnegBf16x2 sw d a s
  | .fminF16x2 sw d a b => Sys2Proof.Machine.execFminF16x2 sw d a b s
  | .fmaxF16x2 sw d a b => Sys2Proof.Machine.execFmaxF16x2 sw d a b s
  | .fabsF16x2 sw d a => Sys2Proof.Machine.execFabsF16x2 sw d a s
  | .fnegF16x2 sw d a => Sys2Proof.Machine.execFnegF16x2 sw d a s
  | .frcpF32 sw d a => Sys2Proof.Machine.execFrcpF32 sw d a s
  | .frsqrtF32 sw d a => Sys2Proof.Machine.execFrsqrtF32 sw d a s
  | .fexp2F32 sw d a => Sys2Proof.Machine.execFexp2F32 sw d a s
  | .flog2F32 sw d a => Sys2Proof.Machine.execFlog2F32 sw d a s
  | .fsinpiF32 sw d a => Sys2Proof.Machine.execFsinpiF32 sw d a s
  | .fcospiF32 sw d a => Sys2Proof.Machine.execFcospiF32 sw d a s
  | .ftanhF32 sw d a => Sys2Proof.Machine.execFtanhF32 sw d a s
  | .frcpF64 sw d a => Sys2Proof.Machine.execFrcpF64 sw d a s
  | .frsqrtF64 sw d a => Sys2Proof.Machine.execFrsqrtF64 sw d a s
  | .fexp2F64 sw d a => Sys2Proof.Machine.execFexp2F64 sw d a s
  | .flog2F64 sw d a => Sys2Proof.Machine.execFlog2F64 sw d a s
  | .cvt sw d a c r t => Sys2Proof.Machine.execCvt sw d a c r t s
  | .cvtpBf16x2F32 sw d a b => Sys2Proof.Machine.execCvtpBf16x2F32 sw d a b s
  | .cvtpF16x2F32 sw d a b => Sys2Proof.Machine.execCvtpF16x2F32 sw d a b s
  | .insE8 sw d a b => Sys2Proof.Machine.execInsE8 sw d a b s
  | .insE4 sw d a b => Sys2Proof.Machine.execInsE4 sw d a b s
  | .extE8 sw d a b => Sys2Proof.Machine.execExtE8 sw d a b s
  | .extE4 sw d a b => Sys2Proof.Machine.execExtE4 sw d a b s
  | .cvtS8E8m0 sw d a => Sys2Proof.Machine.execCvtS8E8m0 sw d a s
  | .cvtE8m0S8 sw d a => Sys2Proof.Machine.execCvtE8m0S8 sw d a s
  | .sclF32 sw d a b => Sys2Proof.Machine.execSclF32 sw d a b s
  | .sclF64 sw d a b => Sys2Proof.Machine.execSclF64 sw d a b s
  | .dp4I8 sw d a b => Sys2Proof.Machine.execDp4I8 sw d a b s
  | .dp4N8 sw d a b => Sys2Proof.Machine.execDp4N8 sw d a b s
  | .dp4F8e4m3 sw d a b => Sys2Proof.Machine.execDp4F8e4m3 sw d a b s
  | .dp4F8e5m2 sw d a b => Sys2Proof.Machine.execDp4F8e5m2 sw d a b s
  | .dp8I4 sw d a b => Sys2Proof.Machine.execDp8I4 sw d a b s
  | .dp8N4 sw d a b => Sys2Proof.Machine.execDp8N4 sw d a b s
  | .dp8F4e2m1 sw d a b => Sys2Proof.Machine.execDp8F4e2m1 sw d a b s
  | .ldP sw d a b t => Sys2Proof.Machine.execLdP sw d a b t s
  | .ldC sw d a b t => Sys2Proof.Machine.execLdC sw d a b t s
  | .stP sw d a b w => Sys2Proof.Machine.execStP sw d a b w s
  | .stC sw d a b w => Sys2Proof.Machine.execStC sw d a b w s
  | .ldQ sw d a b t => Sys2Proof.Machine.execLdQ sw d a b t s
  | .ldM sw d a b t => Sys2Proof.Machine.execLdM sw d a b t s
  | .stQ sw d a b w => Sys2Proof.Machine.execStQ sw d a b w s
  | .stM sw d a b w => Sys2Proof.Machine.execStM sw d a b w s
  | .ldG sw d a b t => Sys2Proof.Machine.execLdG sw d a b t s
  | .ldGNt sw d a b t => Sys2Proof.Machine.execLdGNt sw d a b t s
  | .stG sw d a b w => Sys2Proof.Machine.execStG sw d a b w s
  | .stGNt sw d a b w => Sys2Proof.Machine.execStGNt sw d a b w s
  | .prfL1 sw a b => Sys2Proof.Machine.execPrfL1 sw a b s
  | .prfL2 sw a b => Sys2Proof.Machine.execPrfL2 sw a b s
  | .atomAdd sw d a w c => Sys2Proof.Machine.execAtomAdd sw d a w c s
  | .atomAnd sw d a w c => Sys2Proof.Machine.execAtomAnd sw d a w c s
  | .atomOr sw d a w c => Sys2Proof.Machine.execAtomOr sw d a w c s
  | .atomXor sw d a w c => Sys2Proof.Machine.execAtomXor sw d a w c s
  | .atomMinI sw d a w c => Sys2Proof.Machine.execAtomMinI sw d a w c s
  | .atomMaxI sw d a w c => Sys2Proof.Machine.execAtomMaxI sw d a w c s
  | .atomMinN sw d a w c => Sys2Proof.Machine.execAtomMinN sw d a w c s
  | .atomMaxN sw d a w c => Sys2Proof.Machine.execAtomMaxN sw d a w c s
  | .atomExch sw d a w c => Sys2Proof.Machine.execAtomExch sw d a w c s
  | .atomCas sw d a w c => Sys2Proof.Machine.execAtomCas sw d a w c s
  | .redAdd sw d a w c => Sys2Proof.Machine.execRedAdd sw d a w c s
  | .redAnd sw d a w c => Sys2Proof.Machine.execRedAnd sw d a w c s
  | .redOr sw d a w c => Sys2Proof.Machine.execRedOr sw d a w c s
  | .redXor sw d a w c => Sys2Proof.Machine.execRedXor sw d a w c s
  | .redMinI sw d a w c => Sys2Proof.Machine.execRedMinI sw d a w c s
  | .redMaxI sw d a w c => Sys2Proof.Machine.execRedMaxI sw d a w c s
  | .redMinN sw d a w c => Sys2Proof.Machine.execRedMinN sw d a w c s
  | .redMaxN sw d a w c => Sys2Proof.Machine.execRedMaxN sw d a w c s
  | .fenceAcq sw c => Sys2Proof.Machine.execFenceAcq sw c s
  | .fenceRel sw c => Sys2Proof.Machine.execFenceRel sw c s
  | .fenceAr sw c => Sys2Proof.Machine.execFenceAr sw c s
  | .fenceSc sw c => Sys2Proof.Machine.execFenceSc sw c s
  | .scset sw a c => Sys2Proof.Machine.execScset sw a c s
  | .scinv sw c => Sys2Proof.Machine.execScinv sw c s
  | .scqry sw d c => Sys2Proof.Machine.execScqry sw d c s
  | .scmem sw d c => Sys2Proof.Machine.execScmem sw d c s
  | .ctb sw d a b f => Sys2Proof.Machine.execCtb sw d a b f s
  | .ctbn sw d a f => Sys2Proof.Machine.execCtbn sw d a f s
  | .ctbm sw d a b f => Sys2Proof.Machine.execCtbm sw d a b f s
  | .slotOpen sw d a b => Sys2Proof.Machine.execSlotOpen sw d a b s
  | .slotClose sw d b => Sys2Proof.Machine.execSlotClose sw d b s
  | .slotWait sw d b => Sys2Proof.Machine.execSlotWait sw d b s
  | .slotStat sw d b => Sys2Proof.Machine.execSlotStat sw d b s
  | .oprDef sw a n => Sys2Proof.Machine.execOprDef sw a n s
  | .oprRel sw n => Sys2Proof.Machine.execOprRel sw n s
  | .oprQry sw d n => Sys2Proof.Machine.execOprQry sw d n s
  | .stp sw d a n => Sys2Proof.Machine.execStp sw d a n s
  | .stpSc sw d a n => Sys2Proof.Machine.execStpSc sw d a n s
  | .ldp sw d a n => Sys2Proof.Machine.execLdp sw d a n s
  | .ldpSc sw d a n => Sys2Proof.Machine.execLdpSc sw d a n s
  | .mma sw t g x y p => Sys2Proof.Machine.execMma sw t g x y p s
  | .accClr sw t => Sys2Proof.Machine.execAccClr sw t s
  | .accRd sw d a t => Sys2Proof.Machine.execAccRd sw d a t s
  | .drain sw a t f => Sys2Proof.Machine.execDrain sw a t f s
  | .drainMx sw d a m t f => Sys2Proof.Machine.execDrainMx sw d a m t f s
  | .cpy sw d a => Sys2Proof.Machine.execCpy sw d a s
  | .cpyc sw d a => Sys2Proof.Machine.execCpyc sw d a s
  | .chain sw d a => Sys2Proof.Machine.execChain sw d a s
  | .cpyw sw d a => Sys2Proof.Machine.execCpyw sw d a s
  | .chBind sw a k => Sys2Proof.Machine.execChBind sw a k s
  | .chFree sw k => Sys2Proof.Machine.execChFree sw k s
  | .chCnt sw d k => Sys2Proof.Machine.execChCnt sw d k s
  | .rng sw d a b => Sys2Proof.Machine.execRng sw d a b s
  | .rngReg sw d a => Sys2Proof.Machine.execRngReg sw d a s
  | .rngUnreg sw d a => Sys2Proof.Machine.execRngUnreg sw d a s
  | .vcdef sw d a n => Sys2Proof.Machine.execVcdef sw d a n s
  | .vcqry sw d n => Sys2Proof.Machine.execVcqry sw d n s
  | .ckcut sw d a => Sys2Proof.Machine.execCkcut sw d a s
  | .bnz sw d o => Sys2Proof.Machine.execBnz sw d o s
  | .bz sw d o => Sys2Proof.Machine.execBz sw d o s
  | .call sw d o => Sys2Proof.Machine.execCall sw d o s
  | .jmpi sw a => Sys2Proof.Machine.execJmpi sw a s
  | .calli sw d a => Sys2Proof.Machine.execCalli sw d a s
  | .ret sw a => Sys2Proof.Machine.execRet sw a s
  | .exit sw => Sys2Proof.Machine.execExit sw s
  | .ychk sw => Sys2Proof.Machine.execYchk sw s
  | .yield sw => Sys2Proof.Machine.execYield sw s
  | .win sw b => Sys2Proof.Machine.execWin sw b s
  | .gnew sw d a m => Sys2Proof.Machine.execGnew sw d a m s
  | .join sw a => Sys2Proof.Machine.execJoin sw a s
  | .leave sw => Sys2Proof.Machine.execLeave sw s
  | .bar sw => Sys2Proof.Machine.execBar sw s
  | .trap sw n => Sys2Proof.Machine.execTrap sw n s
  | .brk sw => Sys2Proof.Machine.execBrk sw s
  | .nop sw => Sys2Proof.Machine.execNop sw s
  | .fltReplay sw a => Sys2Proof.Machine.execFltReplay sw a s
  | .scanStop sw d a b => Sys2Proof.Machine.execScanStop sw d a b s
  | .scanRestore sw d a b => Sys2Proof.Machine.execScanRestore sw d a b s
  | .scanRestart sw d a b => Sys2Proof.Machine.execScanRestart sw d a b s
  | .wpset sw d a b => Sys2Proof.Machine.execWpset sw d a b s
  | .wpclr sw b => Sys2Proof.Machine.execWpclr sw b s
  | .step sw d a => Sys2Proof.Machine.execStep sw d a s
  | .dpair t u e f => Sys2Proof.Machine.execDpair t u e f s

end Sys2Proof.Machine
end

