-- ==== Sys2Proof/Machine/Step.lean ====
section
/-!
DEFINITION. One step of the machine: the next action is chosen, taken, and the number of steps counted. The choice is
`State.choose`, the meaning of an action is `exec`; this file only calls them.
-/
namespace Sys2Proof.Machine

/-- One step: an event of the agenda, or the issue of one instruction by one gang, or nothing if nothing can move. -/
noncomputable def step (s : State) : Host.Outcome State Fault Refusal :=
  match s.choose with
  | .idle => .next s.tick
  | .event i s => exec i s
  | .issue w s =>
    match decodeWord w with
    | .ok i => exec i s
    | .error _ => exec (.unassignedWordIssue w) s

/-- The state in which the next step fetches and runs the word w (notes/assumptions/15.md). -/
def State.withFetchWord (s : State) (_nbits w : Nat) : State := s.placeWord (BitVec.ofNat 32 w)

end Sys2Proof.Machine
end

