-- ==== Sys2Proof/Safety.lean ====
section
/-!
DEFINITION. What counts as a safe state and a safe run, in the terms that statements use.
-/
namespace Sys2Proof

/-- What an image would bring back: memories and register files in canonical form, whole lines, and one thread at a place of the
image's core. -/
def Machine.Image.wf (i : Machine.Image) : Bool :=
  i.threads.all (fun e => Machine.Memory.wf e.2.priv && Machine.swf 0#32 e.2.regs && e.1.ctx == i.ctx && e.1.vc == i.vc) &&
  decide (i.threads.map (·.1)).Nodup && i.lines.all (fun e => e.2.g.length == 8 && e.2.chans.length == 8) && Machine.Memory.wf i.core.scratch

/-- Every memory of the machine is in its canonical form: physical memory, lane-private memory and register files,
scratchpads, square memories, markets, and what images hold of them. -/
def Machine.State.wf (s : Machine.State) : Bool :=
  Machine.Memory.wf s.mem &&
  s.threads.all (fun e => Machine.Memory.wf e.2.priv && Machine.swf 0#32 e.2.regs) &&
  s.cores.all (fun e => Machine.Memory.wf e.2.scratch) &&
  s.squares.all (fun e => Machine.Memory.wf e.2.sqm) &&
  s.dies.all (fun e => Machine.Memory.wf e.2.market) &&
  s.images.all Machine.Image.wf

/-- A run of k steps reaches no fault and no refusal. -/
def safeRun (k : Nat) (s : Machine.State) : Prop := ∃ t, core.run k s = .next t

end Sys2Proof
end

