-- ==== Sys2Proof/Certificates/Slice0/Obligations.lean ====
section
/-!
DEFINITION. The statements for the provers, and the words they are said in: what a gang is, what a register operand
reads, what it means that a destination operand holds a value, and that lanes have gone on to their next position.
-/
namespace Sys2Proof.Claim
open Sys2Proof Sys2Proof.Machine

/-- The place of a lane of the issuing gang. -/
def at' (s : State) (l : Nat) : Place := ⟨s.issue.ctx, s.issue.vc, s.issue.line, l⟩

/-- The issue latch names a gang: lanes in ascending order, each with a thread, and no entry popped yet. -/
abbrev Gang (s : State) : Prop :=
  s.issue.lanes ≠ [] ∧ s.issue.lanes.Nodup ∧ (∀ l ∈ s.issue.lanes, (look s.threads (at' s l)).isSome) ∧ s.issue.pops = []

/-- The memories and register files are in canonical form, every line has its 8 g registers and 8 channels, and a place
holds one thread at most: what every reachable state has (ResetState, StepKeepsSound). -/
abbrev Sound (s : State) : Prop :=
  s.wf = true ∧ s.lines.all (fun e => e.2.g.length == 8 && e.2.chans.length == 8) = true ∧ (s.threads.map (·.1)).Nodup

/-- An architectural register of a lane, by its number (R21). -/
def reg (s : State) (l r : Nat) : Word := sget 0#32 (s.lane l).regs r
/-- A g register of the issuing gang's line (R23). -/
def greg (s : State) (k : Nat) : Word := if k = 0 then 0#32 else s.issLine.g.getD k 0#32

/-- The number that a v or g operand field of n words reads in a lane: the register of the lowest number is the least
significant (R22, R23, R70). -/
def val (s : State) (l : Nat) (f : Fld) (n : Nat) : Nat :=
  match regName f with
  | .v i => natOfWords ((List.range n).map (fun j => reg s l ((s.lane l).wb + i + j)))
  | .g k => if k = 0 then 0 else natOfWords ((List.range n).map (fun j => greg s (k + j)))
  | _ => 0

/-- The number of the k-th source operand of an operand list, in the order a, b, d (R71). -/
def src (s : State) (l : Nat) (ops : List OpSpec) (k : Nat) : Nat :=
  match (ops.filter (opIsSrc ·))[k]? with
  | some o => val s l o.fld o.words
  | none => 0

/-- The operands name v and g registers only. -/
def vg (ops : List OpSpec) : Bool :=
  ops.all (fun o => match regName o.fld with
    | .v _ | .g _ => true
    | _ => false)

/-- The operands can be read and written at once: v and g registers without an error, none in backing store, and
no late write of a g register that is read (R26, R78, R105). -/
abbrev Clean (s : State) (ops : List OpSpec) : Prop :=
  vg ops = true ∧ s.gPending ops = false ∧
  ∀ l ∈ s.issue.lanes, ∀ r ∈ claims (s.lane l) ops, r ∉ (s.lane l).badRegs ∧ r ∉ (s.lane l).softRegs ∧ look (s.lane l).cold r = none

/-- The architectural registers that a destination operand names in a lane. -/
def written (s : State) (l : Nat) (o : OpSpec) : List Nat :=
  match regName o.fld with
  | .v i => archRegs (s.lane l).wb i o.words
  | _ => []
/-- The g registers that a destination operand names; g0 is none (R23). -/
def gWritten (o : OpSpec) : List Nat :=
  match regName o.fld with
  | .g k => gRegs k o.words
  | _ => []

/-- In t the destination operand o holds what f gives each lane of s: a v register its lane's number, a g register other
than g0 that of the lowest-numbered active lane (R23, R104). -/
def Holds (s t : State) (o : OpSpec) (f : Nat → Nat) : Prop :=
  match regName o.fld with
  | .v _ => ∀ l ∈ s.issue.lanes, val t l o.fld o.words = f l % 2 ^ (32 * o.words)
  | .g k => k ≠ 0 → ∀ l0 rest, s.issue.lanes = l0 :: rest → val t l0 o.fld o.words = f l0 % 2 ^ (32 * o.words)
  | _ => True

/-- Every register but the destination's is as before, and so is every lane outside the gang. -/
def RegsKept (s t : State) (o : OpSpec) : Prop :=
  (∀ l ∈ s.issue.lanes, ∀ r, r ∉ written s l o → reg t l r = reg s l r) ∧
  (∀ k, k ∉ gWritten o → t.issLine.g.getD k 0#32 = s.issLine.g.getD k 0#32) ∧
  (∀ p : Place, (∀ l ∈ s.issue.lanes, p ≠ at' s l) → t.thread p = s.thread p)

/-- The switch marker of an instruction's word (R74). -/
def marker (i : Instr) : Bool := (encode i).any wordS

/-- The lanes have gone on: to the next position, past an S point if the word carries the marker (R74, R132). -/
def Advanced (s t : State) (sw : Bool) : Prop :=
  ∀ l ∈ s.issue.lanes, (t.lane l).pos = nextPos (s.lane l) ∧ (t.lane l).opened = nextOpened (s.lane l) ∧
    (t.lane l).stat = (if sw then (if (s.lane l).held.isEmpty then .sync s.serial else .parked s.serial) else .run)

/-- The lanes have gone on in the same way, past an S point under one number. -/
def GoneOn (s t : State) (sw : Bool) : Prop :=
  ∃ n, ∀ l ∈ s.issue.lanes, (t.lane l).pos = nextPos (s.lane l) ∧ (t.lane l).opened = nextOpened (s.lane l) ∧
    (t.lane l).stat = (if sw then (if (s.lane l).held.isEmpty then .sync n else .parked n) else .run)

/-- No memory of the machine has changed, byte by byte: physical memory, markets, square memories, scratchpads, L1 copies,
lane-private memories. -/
def MemKept (s t : State) : Prop :=
  (∀ a, t.mem.byte a = s.mem.byte a) ∧ (∀ d a, (t.die d).market.byte a = (s.die d).market.byte a) ∧
  (∀ q a, (t.square q).sqm.byte a = (s.square q).sqm.byte a) ∧
  (∀ c v, (∀ a, (t.core c v).scratch.byte a = (s.core c v).scratch.byte a) ∧ (t.core c v).l1 = (s.core c v).l1) ∧
  (∀ p a, (t.thread p).priv.byte a = (s.thread p).priv.byte a) ∧ t.wbHeld = s.wbHeld

/-- The special, system and exception registers are as before: every context's settings, streams, scope entries, slots,
jobs and trap queue; the line's channels and tiles; the lanes' windows, groups and yield state. -/
def SpecialKept (s t : State) : Prop :=
  t.ctxs = s.ctxs ∧ (∀ k : LineKey, (t.line k.ctx k.vc k.line).chans = (s.line k.ctx k.vc k.line).chans ∧
    (t.line k.ctx k.vc k.line).tiles = (s.line k.ctx k.vc k.line).tiles) ∧
  (∀ p, (t.thread p).wb = (s.thread p).wb ∧ (t.thread p).group = (s.thread p).group ∧ (t.thread p).diverted = (s.thread p).diverted ∧
    (t.thread p).held = (s.thread p).held) ∧ t.agenda = s.agenda

/-- The lanes' registers, flags, windows and groups, and every other thread, are as before. -/
def ThreadsKept (s t : State) : Prop :=
  (∀ l ∈ s.issue.lanes, (t.lane l).regs = (s.lane l).regs ∧ (t.lane l).fst = (s.lane l).fst ∧ (t.lane l).wb = (s.lane l).wb ∧
    (t.lane l).group = (s.lane l).group ∧ (t.lane l).held = (s.lane l).held) ∧ t.issLine.g = s.issLine.g ∧
  (∀ p : Place, (∀ l ∈ s.issue.lanes, p ≠ at' s l) → t.thread p = s.thread p)

/-- An action has added these to the agenda. -/
def Adds (s t : State) (l : List Instr) : Prop := t.agenda = s.agenda ++ l

/-- The lanes have taken one trap at a position (R341, R342): they stand there trapped with the context's next trap
number, what they hold in registers is as before, and one record that names them joins the context's queue. -/
def Trapped (s t : State) (lanes : List Nat) (pos : Pos) (tr : Trap) : Prop :=
  (∀ l ∈ lanes, (t.lane l).stat = .trapped (s.issCtx).traps.tseq tr.code.isMachine ∧ (t.lane l).pos = (s.lane l).pos ∧
    (t.lane l).regs = (s.lane l).regs ∧ (t.lane l).fst = (s.lane l).fst ∧ (t.lane l).held = (s.lane l).held) ∧
  Adds s t [.trapRecordEnqueue s.issue.ctx] ∧
  ((s.ctx? s.issue.ctx).isSome → (t.issCtx).traps = { (s.issCtx).traps with
    waiting := (s.issCtx).traps.waiting ++
      [trapRecord tr pos s.issue.ctx s.issue.vc (s.issCtx).traps.tseq s.issue.line lanes]
    tseq := ((s.issCtx).traps.tseq + 1) % 2 ^ 16 })

/-- Two's complement reading of a number of w bits. -/
def int (w x : Nat) : Int := if x < 2 ^ (w - 1) then x else (x : Int) - 2 ^ w
/-- The number of w bits that stands for an integer, modulo 2^w (R45). -/
def wrap (w : Nat) (x : Int) : Nat := (x % 2 ^ w).toNat
/-- One bit for a relation. -/
def truth (b : Prop) [Decidable b] : Nat := if b then 1 else 0

end Sys2Proof.Claim
/-! ## Integer, logic, shift, bit-field, compare, move and address instructions -/

namespace Sys2Proof.Claim
open Sys2Proof Sys2Proof.Machine

/-- The integer that a number clamps to. -/
def clamp (lo hi x : Int) : Int := max lo (min hi x)

/-- Integer arithmetic (R108, R109): the result as a number of the destination's width, from the numbers of the sources. -/
def arithTable : Instr → Option ((Nat → Nat) → Nat)
  | .addI32 .. => some fun x => (x 0 + x 1) % 2 ^ 32
  | .subI32 .. => some fun x => wrap 32 ((x 0 : Int) - x 1)
  | .addSatI32 .. => some fun x => wrap 32 (clamp (-2 ^ 31) (2 ^ 31 - 1) (int 32 (x 0) + int 32 (x 1)))
  | .subSatI32 .. => some fun x => wrap 32 (clamp (-2 ^ 31) (2 ^ 31 - 1) (int 32 (x 0) - int 32 (x 1)))
  | .addSatN32 .. => some fun x => min (2 ^ 32 - 1) (x 0 + x 1)
  | .subSatN32 .. => some fun x => if x 0 < x 1 then 0 else x 0 - x 1
  | .mulloI32 .. => some fun x => x 0 * x 1 % 2 ^ 32
  | .mulhiI32 .. => some fun x => wrap 32 (int 32 (x 0) * int 32 (x 1) / 2 ^ 32)
  | .mulhiN32 .. => some fun x => x 0 * x 1 / 2 ^ 32
  | .minI32 .. => some fun x => wrap 32 (min (int 32 (x 0)) (int 32 (x 1)))
  | .maxI32 .. => some fun x => wrap 32 (max (int 32 (x 0)) (int 32 (x 1)))
  | .minN32 .. => some fun x => min (x 0) (x 1)
  | .maxN32 .. => some fun x => max (x 0) (x 1)
  | .absI32 .. => some fun x => (int 32 (x 0)).natAbs % 2 ^ 32
  | .negI32 .. => some fun x => wrap 32 (-(x 0 : Int))
  | .addI64 .. => some fun x => (x 0 + x 1) % 2 ^ 64
  | .subI64 .. => some fun x => wrap 64 ((x 0 : Int) - x 1)
  | .mulloI64 .. => some fun x => x 0 * x 1 % 2 ^ 64
  | .mulhiI64 .. => some fun x => wrap 64 (int 64 (x 0) * int 64 (x 1) / 2 ^ 64)
  | .mulhiN64 .. => some fun x => x 0 * x 1 / 2 ^ 64
  | .minI64 .. => some fun x => wrap 64 (min (int 64 (x 0)) (int 64 (x 1)))
  | .maxI64 .. => some fun x => wrap 64 (max (int 64 (x 0)) (int 64 (x 1)))
  | .minN64 .. => some fun x => min (x 0) (x 1)
  | .maxN64 .. => some fun x => max (x 0) (x 1)
  | .negI64 .. => some fun x => wrap 64 (-(x 0 : Int))
  | .absI64 .. => some fun x => (int 64 (x 0)).natAbs % 2 ^ 64
  | _ => none

/-- A rotation of w bits to the left. -/
def rotl (w x n : Nat) : Nat := x * 2 ^ n % 2 ^ w + x / 2 ^ (w - n)
/-- An arithmetic shift of w bits to the right. -/
def sar (w x n : Nat) : Nat := wrap w (int w x / 2 ^ n)

/-- Logic, shifts, rotates and moves (R110, R111, R113). -/
def logicTable : Instr → Option ((Nat → Nat) → Nat)
  | .andB32 .. => some fun x => x 0 &&& x 1
  | .orB32 .. => some fun x => x 0 ||| x 1
  | .xorB32 .. => some fun x => x 0 ^^^ x 1
  | .andnB32 .. => some fun x => x 0 &&& (2 ^ 32 - 1 - x 1)
  | .ornB32 .. => some fun x => x 0 ||| (2 ^ 32 - 1 - x 1)
  | .xnorB32 .. => some fun x => 2 ^ 32 - 1 - (x 0 ^^^ x 1)
  | .notB32 .. => some fun x => 2 ^ 32 - 1 - x 0
  | .shlB32 .. => some fun x => x 0 * 2 ^ (x 1 % 32) % 2 ^ 32
  | .shrB32 .. => some fun x => x 0 / 2 ^ (x 1 % 32)
  | .sarB32 .. => some fun x => sar 32 (x 0) (x 1 % 32)
  | .rotlB32 .. => some fun x => rotl 32 (x 0) (x 1 % 32)
  | .rotrB32 .. => some fun x => rotl 32 (x 0) ((32 - x 1 % 32) % 32)
  | .movB32 .. => some fun x => x 0
  | .movB64 .. => some fun x => x 0
  | .shlB64 .. => some fun x => x 0 * 2 ^ (x 1 % 64) % 2 ^ 64
  | .shrB64 .. => some fun x => x 0 / 2 ^ (x 1 % 64)
  | .sarB64 .. => some fun x => sar 64 (x 0) (x 1 % 64)
  | .andB64 .. => some fun x => x 0 &&& x 1
  | .orB64 .. => some fun x => x 0 ||| x 1
  | .xorB64 .. => some fun x => x 0 ^^^ x 1
  | .notB64 .. => some fun x => 2 ^ 64 - 1 - x 0
  | .rotlB64 .. => some fun x => rotl 64 (x 0) (x 1 % 64)
  | .rotrB64 .. => some fun x => rotl 64 (x 0) ((64 - x 1 % 64) % 64)
  | .shli _ _ _ w c => some fun x => x 0 * 2 ^ c.toNat % 2 ^ (if w then 64 else 32)
  | .shri _ _ _ _ c => some fun x => x 0 / 2 ^ c.toNat
  | .sari _ _ _ w c => some fun x => sar (if w then 64 else 32) (x 0) c.toNat
  | .rotri _ _ _ w c => some fun x => rotl (if w then 64 else 32) (x 0) (((if w then 64 else 32) - c.toNat) % (if w then 64 else 32))
  | _ => none

/-- Numbers of bits that are set, of zeros above the highest set bit, of zeros below the lowest (R114). -/
def ones (w x : Nat) : Nat := ((List.range w).filter (fun i => x.testBit i)).length
def above (w x : Nat) : Nat := ((List.range w).takeWhile (fun i => !x.testBit (w - 1 - i))).length
def below (w x : Nat) : Nat := ((List.range w).takeWhile (fun i => !x.testBit i)).length
/-- The number whose bits, from the lowest, are those of a list. -/
def ofBits : List Bool → Nat
  | [] => 0
  | b :: r => (if b then 1 else 0) + 2 * ofBits r
/-- The field that a control operand of `bfe` and `bfi` names: first bit, and the bits of it that lie within the register (R115). -/
def fpos (c : Nat) : Nat := c % 2 ^ 5
def flen (c : Nat) : Nat := min (c / 2 ^ 8 % 2 ^ 6) (32 - fpos c)
/-- Result byte k of `bsel` (R116), given result byte k - 1. -/
def bselAt (x : Nat) (sel : Nat) (prev : Nat) : Nat :=
  if sel < 4 then x / 2 ^ (8 * sel) % 256 else if sel = 4 then 0 else if sel = 5 then 255
  else if sel = 6 then (if 128 ≤ prev then 255 else 0) else prev
/-- The four result bytes, the lowest first. -/
def bselBytes (x c : Nat) : List Nat :=
  let r0 := bselAt x (c % 8) 0
  let r1 := bselAt x (c / 8 % 8) r0
  let r2 := bselAt x (c / 64 % 8) r1
  [r0, r1, r2, bselAt x (c / 512 % 8) r2]

/-- Bit counts, bit fields and byte select (R114 to R116). -/
def fieldTable : Instr → Option ((Nat → Nat) → Nat)
  | .popcB32 .. => some fun x => ones 32 (x 0)
  | .clzB32 .. => some fun x => above 32 (x 0)
  | .ctzB32 .. => some fun x => below 32 (x 0)
  | .brevB32 .. => some fun x => ofBits ((List.range 32).map (fun i => (x 0).testBit (31 - i)))
  | .popcB64 .. => some fun x => ones 64 (x 0)
  | .clzB64 .. => some fun x => above 64 (x 0)
  | .bfeN32 .. => some fun x => x 0 / 2 ^ fpos (x 1) % 2 ^ flen (x 1)
  | .bfeI32 .. => some fun x => if flen (x 1) = 0 then 0 else wrap 32 (int (flen (x 1)) (x 0 / 2 ^ fpos (x 1) % 2 ^ flen (x 1)))
  | .bfiB32 .. => some fun x => ofBits ((List.range 32).map (fun i =>
      if fpos (x 1) ≤ i ∧ i < fpos (x 1) + flen (x 1) then (x 0).testBit (i - fpos (x 1)) else (x 2).testBit i))
  | .bselB32 .. => some fun x => (bselBytes (x 0) (x 1)).foldr (fun b n => b + 256 * n) 0
  | _ => none

/-- Compare and select (R117). -/
def compareTable : Instr → Option ((Nat → Nat) → Nat)
  | .setEqB32 .. => some fun x => truth (x 0 = x 1)
  | .setNeB32 .. => some fun x => truth (x 0 ≠ x 1)
  | .setLtI32 .. => some fun x => truth (int 32 (x 0) < int 32 (x 1))
  | .setLeI32 .. => some fun x => truth (int 32 (x 0) ≤ int 32 (x 1))
  | .setLtN32 .. => some fun x => truth (x 0 < x 1)
  | .setLeN32 .. => some fun x => truth (x 0 ≤ x 1)
  | .setEqB64 .. => some fun x => truth (x 0 = x 1)
  | .setNeB64 .. => some fun x => truth (x 0 ≠ x 1)
  | .setLtI64 .. => some fun x => truth (int 64 (x 0) < int 64 (x 1))
  | .setLeI64 .. => some fun x => truth (int 64 (x 0) ≤ int 64 (x 1))
  | .setLtN64 .. => some fun x => truth (x 0 < x 1)
  | .setLeN64 .. => some fun x => truth (x 0 ≤ x 1)
  | .selB32 .. => some fun x => if x 2 ≠ 0 then x 0 else x 1
  | .selB64 .. => some fun x => if x 2 ≠ 0 then x 0 else x 1
  | _ => none

/-- Immediates, moves of immediates, and addresses (R112, R118, R119). -/
def movesTable : Instr → Option ((Nat → Nat) → Nat)
  | .addiI32 _ _ _ i => some fun x => wrap 32 ((x 0 : Int) + int 11 i.toNat)
  | .andiB32 _ _ _ i => some fun x => x 0 &&& i.toNat
  | .oriB32 _ _ _ i => some fun x => x 0 ||| i.toNat
  | .xoriB32 _ _ _ i => some fun x => x 0 ^^^ i.toNat
  | .movi _ _ i => some fun _ => wrap 32 (int 18 i.toNat)
  | .movhi _ _ i => some fun _ => i.toNat * 2 ^ 16
  | .movlo _ _ i => some fun x => x 0 / 2 ^ 16 * 2 ^ 16 + i.toNat
  | .addaI .. => some fun x => wrap 64 ((x 0 : Int) + int 32 (x 1))
  | .addaN .. => some fun x => (x 0 + x 1) % 2 ^ 64
  | .madaN32 .. => some fun x => (x 2 + x 0 * x 1) % 2 ^ 64
  | .extI32 .. => some fun x => wrap 64 (int 32 (x 0))
  | .extN32 .. => some fun x => x 0
  | .truncB64 .. => some fun x => x 0 % 2 ^ 32
  | _ => none

/-- What an instruction of a table does in register forms: it completes, its destination holds the table's result, and
every other register stays; the lanes go on. -/
def Computes (table : Instr → Option ((Nat → Nat) → Nat)) : Prop :=
  ∀ i f (s : State), table i = some f → i.wf = true → Sound s → Gang s → Clean s i.ops →
    ∃ t : State, ∃ o, dstOf i.ops = some o ∧ exec i s = .next t ∧ Holds s t o (fun l => f (src s l i.ops)) ∧ RegsKept s t o ∧
      Advanced s t (marker i) ∧ (∀ p, (t.thread p).fst = (s.thread p).fst) ∧ MemKept s t ∧ SpecialKept s t

/-- The same in every form, channels among them (R75, R104, R166): once the operands have been read in lanes `lanes`, each
lane's result is the table's function of its values, and it goes to the destination at once, or, where a source is a channel,
as a long-latency result. -/
def EveryForm (table : Instr → Option ((Nat → Nat) → Nat)) : Prop :=
  ∀ i f (s : State) lanes vals s1 o, table i = some f → i.wf = true → s.prepare false i.ops = .go lanes vals s1 → dstOf i.ops = some o →
    exec i s = .next ((s1.deliver (readsChannel i.ops) lanes o (vals.map (fun e =>
      (e.1, wordsOfNat (f (fun k => natOfWords (e.2.getD k []))) o.words, 0#5)))).finish (marker i) lanes)

/-- No instruction has the words of a major whose fn lies in a range (R84). -/
def Unassigned (major lo hi : Nat) : Prop :=
  ∀ w, (wordMajor w).toNat = major → lo ≤ (wordFn w).toNat → (wordFn w).toNat ≤ hi → (decodeWord w).toOption = none

end Sys2Proof.Claim

open Sys2Proof Sys2Proof.Machine Sys2Proof.Claim

/-- R108, R109: integer arithmetic in every form; fn 0 of major 0x00 and fn 11 to 15 of major 0x01 are unassigned. -/
def Obligations.IntegerArithmetic : Prop :=
  Computes arithTable ∧ EveryForm arithTable ∧ Unassigned 0 0 0 ∧ Unassigned 1 11 15

/-- R110, R111, R113 to R116: logic, shifts, rotates, moves, bit counts, bit fields and byte select in every form; the
unassigned fn of majors 0x02, 0x03 and 0x0A, and the unassigned immediates of major 0x09. -/
def Obligations.LogicShiftsFields : Prop :=
  Computes logicTable ∧ Computes fieldTable ∧ EveryForm logicTable ∧ EveryForm fieldTable ∧
  Unassigned 2 14 15 ∧ Unassigned 3 13 15 ∧ Unassigned 10 6 15 ∧
  (∀ w, (wordMajor w).toNat = 9 →
    (wordB w).extractLsb' 2 2 ≠ 0#2 ∨ ((wordB w).getLsbD 4 = false ∧ (wordB w).getLsbD 1 = true) → (decodeWord w).toOption = none)

/-- R112, R117 to R119: compare and select, immediates, moves of immediates and addresses in every form; the unassigned fn of
majors 0x04 and 0x0E, and `movhi` and `movlo` with bits [17:16] of the immediate set. -/
def Obligations.CompareSelectImmediates : Prop :=
  Computes compareTable ∧ Computes movesTable ∧ EveryForm compareTable ∧ EveryForm movesTable ∧
  Unassigned 4 14 15 ∧ Unassigned 14 6 15 ∧
  (∀ w, (wordMajor w).toNat = 12 ∨ (wordMajor w).toNat = 13 → (wordA w).extractLsb' 5 2 ≠ 0#2 → (decodeWord w).toOption = none)
/-! ## Special registers -/

namespace Sys2Proof.Claim
open Sys2Proof Sys2Proof.Machine

/-- The thread count of a lane's launch: the sum of its roles' counts (R41, R230). -/
def threadCount (s : State) (l : Nat) : Nat :=
  match look s.launches (s.lane l).launch with
  | some a => ((List.range 4).map (fun k => a.recd.toNat / 2 ^ (640 + 128 * k) % 2 ^ 40)).sum
  | none => 0

/-- The settings of the context that tsel names, if it is resident (R218). -/
def targetSet (s : State) : Option Settings := (s.target).map (fun c => (s.ctx c).set)

/-- What a special register reads (R41, R42, R218). -/
def sreg (s : State) (l : Nat) : Nat → Nat
  | 0x00 => (s.lane l).tid % 2 ^ 32
  | 0x01 => (s.lane l).tid / 2 ^ 32 % 2 ^ 8
  | 0x02 => threadCount s l % 2 ^ 32
  | 0x03 => threadCount s l / 2 ^ 32 % 2 ^ 8
  | 0x04 => (s.lane l).role % 2 ^ 32
  | 0x05 => s.issue.vc % 2 ^ 32
  | 0x06 => (s.issue.line * 128 + (8 * s.issue.line + l / 4)) % 2 ^ 32
  | 0x07 => (s.lane l).group.toNat
  | 0x08 => (s.lane l).fst.toNat
  | 0x09 => (s.lane l).wb % 2 ^ 32
  | 0x0A => (s.clk s.issue.ctx s.issue.vc).toNat % 2 ^ 32
  | 0x0B => (s.clk s.issue.ctx s.issue.vc).toNat / 2 ^ 32
  | 0x0C => s.issue.ctx % 2 ^ 32
  | 0x0D => s.issCtx.set.fltc.toNat
  | 0x40 => (s.issCtx.set.tsel + 2 ^ 31 * truth ((s.ctx? s.issCtx.set.tsel).isSome)) % 2 ^ 32
  | 0x41 => match targetSet s with | some x => truth (x.preq = true) | none => 0
  | 0x42 => match targetSet s with | some x => x.yhnd % 2 ^ 32 | none => 0
  | 0x43 => match targetSet s with | some x => x.ylim % 2 ^ 32 | none => 0
  | 0x44 => match targetSet s with | some x => x.dline % 2 ^ 32 | none => 0
  | 0x45 => match targetSet s with | some x => x.fltc.toNat | none => 0
  | 0x46 => match targetSet s with | some x => truth (x.ckperm = true) | none => 0
  | 0x47 => match targetSet s with | some x => truth (x.priv = true) | none => 0
  | 0x48 => (Config.coreRev s.issPhys).toNat
  | 0x49 => (s.die (s.issPhys / 160)).faults.length % 2 ^ 32
  | 0x4A => s.issCtx.set.dbst.toNat
  | 0x4B => s.hub.cfgAddr.toNat % 2 ^ 32
  | 0x4C => s.hub.cfgAddr.toNat / 2 ^ 32
  | _ => 0

/-- The settings after a write of w (R218). -/
def sregWritten (n w : Nat) (x : Settings) : Settings :=
  match n with
  | 0x40 => { x with tsel := w % 2 ^ 10 }
  | 0x42 => { x with yhnd := w % 2 ^ 22 }
  | 0x43 => { x with ylim := w }
  | 0x44 => { x with dline := w }
  | 0x46 => { x with ckperm := w.testBit 0 }
  | _ => x

/-- The context that a write of special register n changes: the issuing context for tsel, else the one that tsel names. -/
def sregTarget (s : State) (n : Nat) : Option Nat :=
  if n = 0x40 then (if (s.ctx? s.issue.ctx).isSome then some s.issue.ctx else none) else s.target

end Sys2Proof.Claim

open Sys2Proof Sys2Proof.Machine Sys2Proof.Claim

/-- R41, R42, R120, R218: `srd` of every readable number writes d with the register's value for its lane; the numbers from
0x40 on in a privileged context. `srd.pos` gives the lane position. -/
def Sys2Proof.Claim.SpecialRegisterReads : Prop :=
  (∀ sw d n (s : State), (Instr.srd sw d n).wf = true → Sound s → Gang s → Clean s [⟨.dst, d, 1⟩] → (64 ≤ n.toNat → s.issCtx.set.priv = true) →
    ∃ t : State, exec (.srd sw d n) s = .next t ∧ Holds s t ⟨.dst, d, 1⟩ (fun l => sreg s l n.toNat) ∧ RegsKept s t ⟨.dst, d, 1⟩ ∧
      Advanced s t sw ∧ (∀ p, (t.thread p).fst = (s.thread p).fst) ∧ MemKept s t ∧ SpecialKept s t) ∧
  (∀ sw d (s : State), (Instr.srdPos sw d).wf = true → Sound s → Gang s → Clean s [⟨.dst, d, 1⟩] →
    ∃ t : State, exec (.srdPos sw d) s = .next t ∧ Holds s t ⟨.dst, d, 1⟩ (fun l => l % 4) ∧ RegsKept s t ⟨.dst, d, 1⟩ ∧
      Advanced s t sw ∧ (∀ p, (t.thread p).fst = (s.thread p).fst) ∧ MemKept s t ∧ SpecialKept s t)

/-- R120: `swr fst, a` clears in each lane the bits of fst that a's low five bits name, and nothing else of it. -/
def Sys2Proof.Claim.FstCleared : Prop :=
  ∀ sw a (s : State), Sound s → Gang s → Clean s [⟨.src, a, 1⟩] →
    ∃ t : State, exec (.swrFst sw a) s = .next t ∧ Advanced s t sw ∧
      (∀ l ∈ s.issue.lanes, ∀ k, k < 5 → (t.lane l).fst.getLsbD k = ((s.lane l).fst.getLsbD k && !(val s l a 1).testBit k)) ∧
      (∀ l ∈ s.issue.lanes, (t.lane l).regs = (s.lane l).regs) ∧ (∀ p : Place, (∀ l ∈ s.issue.lanes, p ≠ at' s l) → t.thread p = s.thread p) ∧
      MemKept s t ∧ SpecialKept s t

/-- R120, R218: `swr` of a privileged register in a privileged context sets the field of the settings that the register
shows, of the context that tsel names (of the issuing context for tsel), to what the last active lane wrote. If tsel names no
resident context, no context changes. `swr preq` sets the request flag (clearing it, it wakes threads that have yielded, R139), and
`swr fltcc` clears the count if bit 31 is set. -/
def Sys2Proof.Claim.SpecialRegisterWrites : Prop :=
  (∀ sw a n (s : State), (Instr.swr sw a n).wf = true → Gang s → Clean s [⟨.src, a, 1⟩] → s.issCtx.set.priv = true →
    ∃ t : State, exec (.swr sw a n) s = .next t ∧ Advanced s t sw ∧ ThreadsKept s t ∧ MemKept s t ∧
      (∀ c, sregTarget s n.toNat = some c → ∀ k, t.ctx k =
        if k = c then { s.ctx c with set := sregWritten n.toNat (val s (s.issue.lanes.getLastD 0) a 1) (s.ctx c).set } else s.ctx k) ∧
      (sregTarget s n.toNat = none → t.ctxs = s.ctxs)) ∧
  (∀ sw a (s : State), Sound s → Gang s → Clean s [⟨.src, a, 1⟩] → s.issCtx.set.priv = true → (∀ l ∈ s.issue.lanes, (s.lane l).stat ≠ .yielded) →
    ∃ t : State, exec (.swrPreq sw a) s = .next t ∧ Advanced s t sw ∧ MemKept s t ∧ t.issLine.g = s.issLine.g ∧
      (∀ l ∈ s.issue.lanes, (t.lane l).regs = (s.lane l).regs ∧ (t.lane l).fst = (s.lane l).fst ∧ (t.lane l).wb = (s.lane l).wb ∧
        (t.lane l).group = (s.lane l).group ∧ (t.lane l).held = (s.lane l).held) ∧
      (∀ p : Place, (∀ l ∈ s.issue.lanes, p ≠ at' s l) →
        (s.thread p).stat ≠ .yielded ∨ (∀ l ∈ s.issue.lanes, (val s l a 1).testBit 0 = true) → t.thread p = s.thread p) ∧
      (∀ c, s.target = some c → (t.ctx c).set = { (s.ctx c).set with preq := (val s (s.issue.lanes.getLastD 0) a 1).testBit 0 }) ∧
      (s.target = none → t.ctxs = s.ctxs ∧ t.agenda = s.agenda)) ∧
  (∀ sw a (s : State), Gang s → Clean s [⟨.src, a, 1⟩] → s.issCtx.set.priv = true →
    ∃ t : State, exec (.swrFltcc sw a) s = .next t ∧ Advanced s t sw ∧ ThreadsKept s t ∧ MemKept s t ∧
      (∀ c, s.target = some c → (t.ctx c).set =
        if s.issue.lanes.any (fun l => (val s l a 1).testBit 31) then { (s.ctx c).set with fltc := 0#32 } else (s.ctx c).set) ∧
      (s.target = none → t.ctxs = s.ctxs))

/-- R95, R341, R342: an access to a special register numbered 0x40 or above in an unprivileged context raises the
privileged-instruction trap in the whole gang, with the word as info, and changes nothing else. -/
def Sys2Proof.Claim.SpecialRegisterPrivilege : Prop :=
  ∀ i (s : State), i.wf = true → Gang s → Clean s i.ops → s.issCtx.set.priv = false →
    (∃ sw d n, i = .srd sw d n ∧ 64 ≤ n.toNat) ∨ (∃ sw a n, i = .swr sw a n) ∨ (∃ sw a, i = .swrPreq sw a ∨ i = .swrFltcc sw a) →
    exec i s = .next (s.takeTrap s.issKey s.issue.lanes s.issue.pos { code := .privileged, info := s.issue.word })

/-- Reads and writes of special registers: SpecialRegisterReads, FstCleared, SpecialRegisterWrites (stated above). What it
says of points that the spec leaves open is the model's choice: notes/assumptions/3, 20. -/
def Obligations.SpecialRegisters : Prop :=
  Claim.SpecialRegisterReads ∧ Claim.FstCleared ∧ Claim.SpecialRegisterWrites
/-! ## Floating point and conversions -/

namespace Sys2Proof.Claim
open Sys2Proof Sys2Proof.Machine

/-- An operation on each 16-bit element of packed registers; the flags of both count (R46, R121). -/
def twice (f : (Nat → Nat) → Nat × Flags) (x : Nat → Nat) : Nat × Flags :=
  let lo := f (fun k => x k % 2 ^ 16)
  let hi := f (fun k => x k / 2 ^ 16)
  (lo.1 + 2 ^ 16 * hi.1, lo.2 ||| hi.2)
/-- A compare's number and flags (R124). -/
def rel (F : Fmt) (r : FRel) (x : Nat → Nat) : Nat × Flags :=
  ((if (fCompare F r (x 0) (x 1)).1 then 1 else 0), (fCompare F r (x 0) (x 1)).2)
/-- Scaling by an s8 scale (R57, R130). -/
def scaled (F : Fmt) (x : Nat → Nat) : Nat × Flags :=
  if x 1 % 256 = 128 then (0, 0#5) else fScale F (x 0) (int 8 (x 1 % 256))

/-- Arithmetic with a rounding code (R121). -/
def roundedTable : Instr → Option ((Nat → Nat) → Nat × Flags)
  | .faddF32 _ _ _ _ r => some fun x => fAdd fmtF32 (rmodeOf r) (x 0) (x 1)
  | .fsubF32 _ _ _ _ r => some fun x => fSub fmtF32 (rmodeOf r) (x 0) (x 1)
  | .fmulF32 _ _ _ _ r => some fun x => fMul fmtF32 (rmodeOf r) (x 0) (x 1)
  | .ffmaF32 _ _ _ _ r => some fun x => fFma fmtF32 (rmodeOf r) (x 0) (x 1) (x 2)
  | .faddF64 _ _ _ _ r => some fun x => fAdd fmtF64 (rmodeOf r) (x 0) (x 1)
  | .fsubF64 _ _ _ _ r => some fun x => fSub fmtF64 (rmodeOf r) (x 0) (x 1)
  | .fmulF64 _ _ _ _ r => some fun x => fMul fmtF64 (rmodeOf r) (x 0) (x 1)
  | .ffmaF64 _ _ _ _ r => some fun x => fFma fmtF64 (rmodeOf r) (x 0) (x 1) (x 2)
  | .faddBf16x2 _ _ _ _ r => some (twice fun x => fAdd fmtBf16 (rmodeOf r) (x 0) (x 1))
  | .fsubBf16x2 _ _ _ _ r => some (twice fun x => fSub fmtBf16 (rmodeOf r) (x 0) (x 1))
  | .fmulBf16x2 _ _ _ _ r => some (twice fun x => fMul fmtBf16 (rmodeOf r) (x 0) (x 1))
  | .ffmaBf16x2 _ _ _ _ r => some (twice fun x => fFma fmtBf16 (rmodeOf r) (x 0) (x 1) (x 2))
  | .faddF16x2 _ _ _ _ r => some (twice fun x => fAdd fmtF16 (rmodeOf r) (x 0) (x 1))
  | .fsubF16x2 _ _ _ _ r => some (twice fun x => fSub fmtF16 (rmodeOf r) (x 0) (x 1))
  | .fmulF16x2 _ _ _ _ r => some (twice fun x => fMul fmtF16 (rmodeOf r) (x 0) (x 1))
  | .ffmaF16x2 _ _ _ _ r => some (twice fun x => fFma fmtF16 (rmodeOf r) (x 0) (x 1) (x 2))
  | .fdivF32 .. => some fun x => fDiv fmtF32 (x 0) (x 1)
  | .fsqrtF32 .. => some fun x => fSqrt fmtF32 (x 0)
  | .fdivF64 .. => some fun x => fDiv fmtF64 (x 0) (x 1)
  | .fsqrtF64 .. => some fun x => fSqrt fmtF64 (x 0)
  | _ => none

/-- Minimum, maximum, sign operations, compares, class (R122, R124, R125). -/
def orderTable : Instr → Option ((Nat → Nat) → Nat × Flags)
  | .fminF32 .. => some fun x => fMinMax fmtF32 false (x 0) (x 1)
  | .fmaxF32 .. => some fun x => fMinMax fmtF32 true (x 0) (x 1)
  | .fabsF32 .. => some fun x => fAbs fmtF32 (x 0)
  | .fnegF32 .. => some fun x => fNeg fmtF32 (x 0)
  | .fcpsgnF32 .. => some fun x => fCpsgn fmtF32 (x 0) (x 1)
  | .fminF64 .. => some fun x => fMinMax fmtF64 false (x 0) (x 1)
  | .fmaxF64 .. => some fun x => fMinMax fmtF64 true (x 0) (x 1)
  | .fabsF64 .. => some fun x => fAbs fmtF64 (x 0)
  | .fnegF64 .. => some fun x => fNeg fmtF64 (x 0)
  | .fcpsgnF64 .. => some fun x => fCpsgn fmtF64 (x 0) (x 1)
  | .fminBf16x2 .. => some (twice fun x => fMinMax fmtBf16 false (x 0) (x 1))
  | .fmaxBf16x2 .. => some (twice fun x => fMinMax fmtBf16 true (x 0) (x 1))
  | .fabsBf16x2 .. => some (twice fun x => fAbs fmtBf16 (x 0))
  | .fnegBf16x2 .. => some (twice fun x => fNeg fmtBf16 (x 0))
  | .fminF16x2 .. => some (twice fun x => fMinMax fmtF16 false (x 0) (x 1))
  | .fmaxF16x2 .. => some (twice fun x => fMinMax fmtF16 true (x 0) (x 1))
  | .fabsF16x2 .. => some (twice fun x => fAbs fmtF16 (x 0))
  | .fnegF16x2 .. => some (twice fun x => fNeg fmtF16 (x 0))
  | .fsetEqF32 .. => some (rel fmtF32 .eq)
  | .fsetNeF32 .. => some (rel fmtF32 .ne)
  | .fsetLtF32 .. => some (rel fmtF32 .lt)
  | .fsetLeF32 .. => some (rel fmtF32 .le)
  | .fsetUnF32 .. => some (rel fmtF32 .un)
  | .fsetEqF64 .. => some (rel fmtF64 .eq)
  | .fsetNeF64 .. => some (rel fmtF64 .ne)
  | .fsetLtF64 .. => some (rel fmtF64 .lt)
  | .fsetLeF64 .. => some (rel fmtF64 .le)
  | .fsetUnF64 .. => some (rel fmtF64 .un)
  | .fclassF32 .. => some fun x => fClass fmtF32 (x 0)
  | .fclassF64 .. => some fun x => fClass fmtF64 (x 0)
  | _ => none

/-- Conversions, packing, block scales, packed dot products (R128 to R131). -/
def convertTable : Instr → Option ((Nat → Nat) → Nat × Flags)
  | .cvt _ _ _ c r t => some fun x => convert c.toNat t.toNat (rmodeOf r) (x 0)
  | .cvtpBf16x2F32 .. => some fun x => ((cvtFF fmtF32 fmtBf16 .rn (x 0)).1 + 2 ^ 16 * (cvtFF fmtF32 fmtBf16 .rn (x 1)).1,
      (cvtFF fmtF32 fmtBf16 .rn (x 0)).2 ||| (cvtFF fmtF32 fmtBf16 .rn (x 1)).2)
  | .cvtpF16x2F32 .. => some fun x => ((cvtFF fmtF32 fmtF16 .rn (x 0)).1 + 2 ^ 16 * (cvtFF fmtF32 fmtF16 .rn (x 1)).1,
      (cvtFF fmtF32 fmtF16 .rn (x 0)).2 ||| (cvtFF fmtF32 fmtF16 .rn (x 1)).2)
  | .insE8 .. => some fun x => (ofBits ((List.range 32).map (fun i =>
      if i / 8 = x 1 % 4 then (x 0).testBit (i % 8) else (x 2).testBit i)), 0#5)
  | .insE4 .. => some fun x => (ofBits ((List.range 32).map (fun i =>
      if i / 4 = x 1 % 8 then (x 0).testBit (i % 4) else (x 2).testBit i)), 0#5)
  | .extE8 .. => some fun x => (x 0 / 2 ^ (8 * (x 1 % 4)) % 2 ^ 8, 0#5)
  | .extE4 .. => some fun x => (x 0 / 2 ^ (4 * (x 1 % 8)) % 2 ^ 4, 0#5)
  | .cvtS8E8m0 .. => some fun x => if x 0 % 256 = 255 then (0x180, flInvalid) else (wrap 8 ((x 0 % 256 : Nat) - (127 : Int)), 0#5)
  | .cvtE8m0S8 .. => some fun x => if x 0 % 256 = 128 then (0, 0#5) else ((int 8 (x 0 % 256) + 127).toNat, 0#5)
  | .sclF32 .. => some (scaled fmtF32)
  | .sclF64 .. => some (scaled fmtF64)
  | .dp4I8 .. => some fun x => (wrap 32 (((List.range 4).map (fun i => int 8 (x 0 / 256 ^ i % 256) * int 8 (x 1 / 256 ^ i % 256))).sum + x 2), 0#5)
  | .dp4N8 .. => some fun x => ((((List.range 4).map (fun i => (x 0 / 256 ^ i % 256) * (x 1 / 256 ^ i % 256))).sum + x 2) % 2 ^ 32, 0#5)
  | .dp8I4 .. => some fun x => (wrap 32 (((List.range 8).map (fun i => int 4 (x 0 / 16 ^ i % 16) * int 4 (x 1 / 16 ^ i % 16))).sum + x 2), 0#5)
  | .dp8N4 .. => some fun x => ((((List.range 8).map (fun i => (x 0 / 16 ^ i % 16) * (x 1 / 16 ^ i % 16))).sum + x 2) % 2 ^ 32, 0#5)
  | .dp4F8e4m3 .. => some fun x => dotFloat fmtF8e4m3 8 2 (x 0) (x 1) (x 2)
  | .dp4F8e5m2 .. => some fun x => dotFloat fmtF8e5m2 8 2 (x 0) (x 1) (x 2)
  | .dp8F4e2m1 .. => some fun x => dotFloat fmtF4e2m1 4 3 (x 0) (x 1) (x 2)
  | _ => none

/-- Special functions (R126, R127). -/
def specialTable : Instr → Option ((Nat → Nat) → Nat × Flags)
  | .frcpF32 .. => some fun x => fRcp fmtF32 (x 0)
  | .frsqrtF32 .. => some fun x => fRsqrt fmtF32 (x 0)
  | .fexp2F32 .. => some fun x => fExp2 fmtF32 (x 0)
  | .flog2F32 .. => some fun x => fLog2 fmtF32 (x 0)
  | .fsinpiF32 .. => some fun x => fSinpi fmtF32 (x 0)
  | .fcospiF32 .. => some fun x => fCospi fmtF32 (x 0)
  | .ftanhF32 .. => some fun x => fTanh fmtF32 (x 0)
  | .frcpF64 .. => some fun x => fRcp fmtF64 (x 0)
  | .frsqrtF64 .. => some fun x => fRsqrt fmtF64 (x 0)
  | .fexp2F64 .. => some fun x => fExp2 fmtF64 (x 0)
  | .flog2F64 .. => some fun x => fLog2 fmtF64 (x 0)
  | _ => none

/-- No residue mismatch is to come in this issue (R389). -/
abbrev NoMismatch (s : State) : Prop := ∀ r ∈ s.aux.residue.take s.issue.lanes.length, r = 0

/-- What a floating-point instruction of a table does in register forms: the destination holds the result, the flags that
it raises are set in its lane's fst beside those set before, and every other register stays. -/
def ComputesFlags (table : Instr → Option ((Nat → Nat) → Nat × Flags)) : Prop :=
  ∀ i f (s : State), table i = some f → i.wf = true → Sound s → Gang s → Clean s i.ops → NoMismatch s →
    ∃ t : State, ∃ o, dstOf i.ops = some o ∧ exec i s = .next t ∧ Holds s t o (fun l => (f (src s l i.ops)).1) ∧ RegsKept s t o ∧
      Advanced s t (marker i) ∧ MemKept s t ∧ SpecialKept s t ∧
      ∀ l ∈ s.issue.lanes, (t.lane l).fst = (s.lane l).fst ||| (f (src s l i.ops)).2

/-- The same in every form, channels among them (R75, R104, R166), where no residue check mismatches; `long`: the result is a
long-latency one whatever the form. -/
def EveryFlagForm (table : Instr → Option ((Nat → Nat) → Nat × Flags)) (long : Bool) : Prop :=
  ∀ i f (s : State) lanes vals s1 o, table i = some f → i.wf = true →
    s.prepare false i.ops = .go lanes vals s1 → dstOf i.ops = some o → s1.aux.residue = [] →
    exec i s = .next ((s1.deliver (readsChannel i.ops || long) lanes o (vals.map (fun e =>
      let r := f (fun k => natOfWords (e.2.getD k []))
      (e.1, wordsOfNat r.1 o.words, r.2)))).finish (marker i) lanes)

/-- The f64 instructions that carry residue checks (R121, R123, R130). -/
def residueChecked : Instr → Bool
  | .faddF64 .. | .fsubF64 .. | .fmulF64 .. | .ffmaF64 .. | .fdivF64 .. | .fsqrtF64 .. | .sclF64 .. => true
  | _ => false

/-- The number of a finite value. -/
noncomputable def realOf : Exact → Option ℝ
  | .fin neg man exp false => some ((if neg then -1 else 1) * man * (2 : ℝ) ^ exp)
  | _ => none
/-- The number that a code stands for (R47). -/
noncomputable def codeVal (F : Fmt) (c : Nat) : Option ℝ := realOf (unpack F c).1

/-- The formats of R47. -/
def formats : List Fmt :=
  [fmtF64, fmtA56, fmtF32, fmtBf16, fmtF16, fmtF8e5m2, fmtF8e4m3, fmtF6e3m2, fmtF6e2m3, fmtF4e2m1]

/-- The gap between the two greatest numbers of a format, the least normal number, and the gap below it under an unbounded exponent. -/
noncomputable def maxNum (F : Fmt) : ℝ := (codeVal F F.maxCode).getD 0
noncomputable def topGap (F : Fmt) : ℝ := maxNum F - (codeVal F (F.maxCode - 1)).getD 0
noncomputable def minNormal (F : Fmt) : ℝ := (2 : ℝ) ^ (1 - (F.bias : Int))
noncomputable def lowGap (F : Fmt) : ℝ := minNormal F * (2 : ℝ) ^ (-(F.m : Int) - 1)

/-- The number, rounded in a mode to the format's significand with no bound on the exponent, is beyond the greatest one (R52 step 4). A
tie goes to the even significand, which is the greatest number's own or that of the next. -/
def Overflows (F : Fmt) (md : RMode) (x : ℝ) : Prop :=
  match md with
  | .rn => maxNum F + topGap F / 2 < |x| ∨ (maxNum F + topGap F / 2 = |x| ∧ F.maxCode % 2 = 1)
  | .rz => maxNum F + topGap F ≤ |x|
  | .ru => if 0 < x then maxNum F < x else maxNum F + topGap F ≤ |x|
  | .rd => if x < 0 then maxNum F < |x| else maxNum F + topGap F ≤ |x|
/-- Rounded so, it is not zero and lies below the least normal number (R56). -/
def Tiny (F : Fmt) (md : RMode) (x : ℝ) : Prop :=
  x ≠ 0 ∧ match md with
    | .rn => |x| < minNormal F - lowGap F / 2
    | .rz => |x| < minNormal F
    | .ru => if 0 < x then x ≤ minNormal F - lowGap F else |x| < minNormal F
    | .rd => if x < 0 then |x| ≤ minNormal F - lowGap F else |x| < minNormal F

/-- Code r with these flags is the number x rounded once in a mode (R51 to R54, R56): without overflow it stands for the
best of all numbers of the format, to an even code if two are equally near, and inexact says whether it differs from x; with
overflow r is the infinity or the greatest number that the mode and the format give, and inexact is set. Underflow is raised
for a result that is tiny and inexact; nothing else is raised. -/
def Rounded (F : Fmt) (md : RMode) (x : ℝ) (r : Nat) (fl : Flags) : Prop :=
  r < 2 ^ F.width ∧ (fl.getLsbD 2 = true ↔ Overflows F md x) ∧ (fl.getLsbD 1 = true ↔ Tiny F md x ∧ fl.getLsbD 0 = true) ∧
  fl.getLsbD 3 = false ∧ fl.getLsbD 4 = false ∧
  if fl.getLsbD 2 then
    fl.getLsbD 0 = true ∧
    ((F.sat = true ∨ md = .rz ∨ (md = .ru ∧ x < 0) ∨ (md = .rd ∧ 0 < x)) → ∀ n, (n = true ↔ x < 0) → r = maxCodeOf F n) ∧
    (¬(F.sat = true ∨ md = .rz ∨ (md = .ru ∧ x < 0) ∨ (md = .rd ∧ 0 < x)) → ∀ n, (n = true ↔ x < 0) → r = infCode F n)
  else
    ∃ v, codeVal F r = some v ∧ (fl.getLsbD 0 = true ↔ v ≠ x) ∧ ∀ c w, codeVal F c = some w →
      match md with
      | .rn => |v - x| ≤ |w - x| ∧ (|v - x| = |w - x| → w ≠ v → r % 2 = 0)
      | .rz => |v| ≤ |x| ∧ 0 ≤ v * x ∧ (|w| ≤ |x| → 0 ≤ w * x → |w| ≤ |v|)
      | .ru => x ≤ v ∧ (x ≤ w → v ≤ w)
      | .rd => v ≤ x ∧ (w ≤ x → w ≤ v)

/-! ### Codes, NaN, infinities and zeros (R47, R49) -/

/-- Magnitude and sign bits of a code; NaN, signalling NaN and infinity by their bits. -/
def magOf (F : Fmt) (c : Nat) : Nat := c % 2 ^ (F.width - 1)
def negOf (F : Fmt) (c : Nat) : Bool := c.testBit (F.width - 1)
def infMag (F : Fmt) : Nat := 2 ^ (F.width - 1) - 2 ^ F.m
def isNan (F : Fmt) (c : Nat) : Bool :=
  match F.top with
  | .infNan => decide (infMag F < magOf F c)
  | .nanOnly => magOf F c == 2 ^ (F.width - 1) - 1
  | .finite => false
def isSnan (F : Fmt) (c : Nat) : Bool := isNan F c && F.top == .infNan && !c.testBit (F.m - 1)
def isInf (F : Fmt) (c : Nat) : Bool := F.top == .infNan && magOf F c == infMag F
/-- A code with a magnitude and a sign. -/
def withSign (F : Fmt) (neg : Bool) (mag : Nat) : Nat := mag + if neg then 2 ^ (F.width - 1) else 0
/-- The canonical NaNs of R49. -/
def qnans : List (Fmt × Nat) :=
  [(fmtF64, 0x7FF8000000000000), (fmtA56, 0x7FE00000000000), (fmtF32, 0x7FC00000), (fmtBf16, 0x7FC0), (fmtF16, 0x7E00), (fmtF8e5m2, 0x7E), (fmtF8e4m3, 0x7F)]
/-- invalid under a condition. -/
def invalidIf (b : Bool) : Flags := if b then 16#5 else 0#5
/-- The number of a code by its fields (R47). -/
noncomputable def numOf (F : Fmt) (c : Nat) : ℝ :=
  (if negOf F c then -1 else 1) * (if magOf F c / 2 ^ F.m = 0 then (c % 2 ^ F.m : ℕ) * (2 : ℝ) ^ (1 - (F.bias : Int) - F.m)
    else ((2 ^ F.m + c % 2 ^ F.m : ℕ) : ℝ) * (2 : ℝ) ^ ((magOf F c / 2 ^ F.m : ℕ) - (F.bias : Int) - F.m))
/-- The same with the infinities. -/
noncomputable def extVal (F : Fmt) (c : Nat) : Option EReal :=
  if isNan F c then none else if isInf F c then some (if negOf F c then ⊥ else ⊤) else some (numOf F c : EReal)
/-- The class of a code (R125). -/
def classOf (F : Fmt) (c : Nat) : Nat :=
  if isSnan F c then 8 else if isNan F c then 9 else if isInf F c then (if negOf F c then 0 else 7)
  else if magOf F c = 0 then (if negOf F c then 3 else 4)
  else if magOf F c / 2 ^ F.m = 0 then (if negOf F c then 2 else 5) else if negOf F c then 1 else 6

/-- The formats of codes 0 to 9 and the integer formats of codes 10 to 13 (R82). -/
def codeFormats : List Fmt := [fmtF64, fmtF32, fmtBf16, fmtF16, fmtF8e5m2, fmtF8e4m3, fmtF6e3m2, fmtF6e2m3, fmtF4e2m1, fmtA56]
def codeInts : List (Nat × Bool × Nat) := [(10, true, 32), (11, false, 32), (12, true, 64), (13, false, 64)]
/-- An integer is a number rounded in a mode (R55). -/
noncomputable def toInt (md : RMode) (a : ℝ) (n : Int) : Prop :=
  match md with
  | .rn => |(n : ℝ) - a| ≤ 1 / 2 ∧ (|(n : ℝ) - a| = 1 / 2 → n % 2 = 0)
  | .rz => n = if 0 ≤ a then ⌊a⌋ else ⌈a⌉
  | .ru => n = ⌈a⌉
  | .rd => n = ⌊a⌋
/-- Neighbours added in f32, with the flags of both and of the add. -/
def addPairs : List (Nat × Flags) → List (Nat × Flags)
  | a :: b :: r => ((fAdd fmtF32 .rn a.1 b.1).1, (fAdd fmtF32 .rn a.1 b.1).2 ||| a.2 ||| b.2) :: addPairs r
  | l => l
/-- The product of two elements in f32, into which both are converted exactly (R131). -/
def leaf32 (S : Fmt) (x y : Nat) : Nat × Flags :=
  let p := cvtFF S fmtF32 .rn x
  let q := cvtFF S fmtF32 .rn y
  ((fMul fmtF32 .rn p.1 q.1).1, (fMul fmtF32 .rn p.1 q.1).2 ||| p.2 ||| q.2)
/-- Both ends of the interval that a fixed-point function gives round alike at one of its precisions. -/
def Settles (F : Fmt) (f : Nat → Int × Int) (fuel n : Nat) : Prop :=
  ∃ k, k < fuel ∧ rne F (ofFix (n * 2 ^ k) ((f (n * 2 ^ k)).1 - fixErr (n * 2 ^ k)) (f (n * 2 ^ k)).2) =
    rne F (ofFix (n * 2 ^ k) ((f (n * 2 ^ k)).1 + fixErr (n * 2 ^ k)) (f (n * 2 ^ k)).2)

/-- The special functions of f64 that carry residue checks (R126). -/
def residueSpecial : Instr → Bool
  | .frcpF64 .. | .frsqrtF64 .. | .fexp2F64 .. | .flog2F64 .. => true
  | _ => false
/-- The lanes of a gang whose operation mismatches twice: the entries of aux.residue go to the lanes in ascending order
(notes/assumptions/9.md). -/
def mismatched (s : State) : List Nat := (s.issue.lanes.zipIdx.filter (fun e => s.aux.residue.getD e.2 0 == 2)).map (·.1)

end Sys2Proof.Claim

open Sys2Proof Sys2Proof.Machine Sys2Proof.Claim

/-- R121 to R125: floating-point arithmetic, minimum, maximum, sign operations, compares and class, in every form. -/
def Sys2Proof.Claim.FloatArithmetic : Prop :=
  ComputesFlags roundedTable ∧ ComputesFlags orderTable ∧ EveryFlagForm roundedTable false ∧ EveryFlagForm orderTable false

/-- R128 to R131: conversions, element inserts and extracts, block scales and packed dot products, in every form. -/
def Sys2Proof.Claim.ConversionsAndDots : Prop := ComputesFlags convertTable ∧ EveryFlagForm convertTable false

/-- R126, R127, R74: a special function writes nothing when it issues; its result is outstanding. When it returns, the
destination holds the function's value and its flags are set. -/
def Sys2Proof.Claim.SpecialFunctions : Prop :=
  EveryFlagForm specialTable true ∧
  ∀ i f (s : State), specialTable i = some f → i.wf = true → Sound s → Gang s → Clean s i.ops → NoMismatch s →
    ∃ t : State, ∃ o r, dstOf i.ops = some o ∧ exec i s = .next t ∧ Adds s t [.longLatencyReturn r] ∧ Advanced s t (marker i) ∧
      (∀ l ∈ s.issue.lanes, (t.lane l).regs = (s.lane l).regs ∧ (t.lane l).fst = (s.lane l).fst ∧ t.outstanding (at' s l) = true) ∧
      t.issLine.g = s.issLine.g ∧
      ∃ u : State, exec (.longLatencyReturn r) t = .next u ∧ Holds s u o (fun l => (f (src s l i.ops)).1) ∧ RegsKept s u o ∧ MemKept s u ∧
        ∀ l ∈ s.issue.lanes, (u.lane l).fst = (s.lane l).fst ||| (f (src s l i.ops)).2

/-- R121, R126, R389: of the lanes of a residue-checked instruction, those whose check fails twice take one arithmetic-check trap, with its
record, and keep their registers; the others complete, at once or, of a special function, with its return.
What it says of points that the spec leaves open is the model's choice: notes/assumptions/9. -/
def Obligations.ResidueMismatch : Prop :=
  (∀ i f (s : State), ((roundedTable i).or (convertTable i)) = some f → residueChecked i = true → i.wf = true → Sound s → Gang s → Clean s i.ops →
    ∃ t : State, exec i s = .next t ∧ (mismatched s ≠ [] → Trapped s t (mismatched s) s.issue.pos { code := .arithCheck }) ∧
      (mismatched s = [] → t.agenda = s.agenda) ∧ ∀ l ∈ s.issue.lanes, l ∉ mismatched s →
        (t.lane l).pos = nextPos (s.lane l) ∧ (t.lane l).fst = (s.lane l).fst ||| (f (src s l i.ops)).2 ∧
        ∀ o j, dstOf i.ops = some o → regName o.fld = .v j → val t l o.fld o.words = (f (src s l i.ops)).1 % 2 ^ (32 * o.words)) ∧
  (∀ i f (s : State), specialTable i = some f → residueSpecial i = true → i.wf = true → Sound s → Gang s → Clean s i.ops →
    ∃ t u : State, ∃ o r, dstOf i.ops = some o ∧ exec i s = .next t ∧
      (mismatched s ≠ [] → Trapped s u (mismatched s) s.issue.pos { code := .arithCheck }) ∧ (mismatched s = [] → u = s) ∧
      t.agenda = u.agenda ++ (if s.issue.lanes.all (fun l => (mismatched s).contains l) then [] else [.longLatencyReturn r]) ∧
      (t.issCtx).traps = (u.issCtx).traps ∧ (∀ l ∈ mismatched s, t.lane l = u.lane l) ∧
      ∃ v : State, exec (.longLatencyReturn r) t = .next v ∧ ∀ l ∈ s.issue.lanes, l ∉ mismatched s →
        (t.lane l).pos = nextPos (s.lane l) ∧ (t.lane l).regs = (s.lane l).regs ∧ (t.lane l).fst = (s.lane l).fst ∧
        (v.lane l).fst = (s.lane l).fst ||| (f (src s l i.ops)).2 ∧
        ∀ j, regName o.fld = .v j → val v l o.fld o.words = (f (src s l i.ops)).1 % 2 ^ (32 * o.words))

/-- R47, R49, R50, R52, R56, R121 to R125: codes are the numbers of their fields. NaN operands give the canonical NaN, infinities and
exact zeros their results, each with its flags; sign operations, minima, compares and classes are those of the codes. -/
def Sys2Proof.Claim.NansInfinitiesZeros : Prop :=
  (∀ F ∈ formats, ∀ c, codeVal F c = if isNan F c || isInf F c then none else some (numOf F c)) ∧
  (∀ F q, (F, q) ∈ qnans → ∀ md x y z, 
    (isNan F x = true ∨ isNan F y = true → let r := (q, invalidIf (isSnan F x || isSnan F y))
      fAdd F md x y = r ∧ fSub F md x y = r ∧ fMul F md x y = r ∧ fDiv F x y = r ∧ ∀ m, fMinMax F m x y = r) ∧
    (isNan F x = true → let r := (q, invalidIf (isSnan F x))
      fSqrt F x = r ∧ fAbs F x = r ∧ fNeg F x = r ∧ fCpsgn F x y = r) ∧
    (isNan F x = true ∨ isNan F y = true ∨ isNan F z = true →
      fFma F md x y z = (q, invalidIf (isSnan F x || isSnan F y || isSnan F z || (isInf F x && magOf F y == 0) || (magOf F x == 0 && isInf F y))))) ∧
  (∀ F q, (F, q) ∈ qnans → F.top = .infNan → ∀ md x y z, isNan F x = false → isNan F y = false → isNan F z = false →
    let inf (n : Bool) := withSign F n (infMag F)
    let pn := negOf F x != negOf F y
    (isInf F x = true → isInf F y = true → negOf F x ≠ negOf F y → fAdd F md x y = (q, 16#5)) ∧
    (isInf F x = true → (isInf F y = false ∨ negOf F x = negOf F y) → fAdd F md x y = (inf (negOf F x), 0#5) ∧ fAdd F md y x = (inf (negOf F x), 0#5)) ∧
    (isInf F x = true → magOf F y = 0 → fMul F md x y = (q, 16#5) ∧ fMul F md y x = (q, 16#5) ∧ fFma F md x y z = (q, 16#5) ∧ fFma F md y x z = (q, 16#5)) ∧
    (isInf F x = true → magOf F y ≠ 0 → fMul F md x y = (inf pn, 0#5) ∧ fMul F md y x = (inf pn, 0#5) ∧
      fFma F md x y z = (if isInf F z && negOf F z != pn then (q, 16#5) else (inf pn, 0#5))) ∧
    (isInf F x = false → isInf F y = false → isInf F z = true → fFma F md x y z = (inf (negOf F z), 0#5)) ∧
    (isInf F x = true → isInf F y = true → fDiv F x y = (q, 16#5)) ∧ (magOf F x = 0 → magOf F y = 0 → fDiv F x y = (q, 16#5)) ∧
    (isInf F x = true → isInf F y = false → fDiv F x y = (inf pn, 0#5)) ∧ (isInf F x = false → isInf F y = true → fDiv F x y = (withSign F pn 0, 0#5)) ∧
    (isInf F x = false → magOf F x ≠ 0 → magOf F y = 0 → fDiv F x y = (inf pn, 8#5)) ∧
    (negOf F x = true → magOf F x ≠ 0 → fSqrt F x = (q, 16#5)) ∧ (isInf F x = true → negOf F x = false → fSqrt F x = (inf false, 0#5))) ∧
  (∀ F ∈ formats, ∀ md x y z a b c, codeVal F x = some a → codeVal F y = some b → codeVal F z = some c →
    let zero (s1 s2 : Bool) := withSign F (if s1 = s2 then s1 else md == .rd) 0
    (a + b = 0 → fAdd F md x y = (zero (negOf F x) (negOf F y), 0#5)) ∧ (a - b = 0 → fSub F md x y = (zero (negOf F x) (!negOf F y), 0#5)) ∧
    (a * b = 0 → fMul F md x y = (withSign F (negOf F x != negOf F y) 0, 0#5)) ∧
    (a * b + c = 0 → fFma F md x y z = (zero (negOf F x != negOf F y) (negOf F z), 0#5)) ∧
    (a = 0 → b ≠ 0 → fDiv F x y = (withSign F (negOf F x != negOf F y) 0, 0#5)) ∧ (a = 0 → fSqrt F x = (withSign F (negOf F x) 0, 0#5))) ∧
  (∀ F ∈ formats, ∀ x y, (isNan F x = false → fAbs F x = (magOf F x, 0#5) ∧ fNeg F x = (withSign F (!negOf F x) (magOf F x), 0#5) ∧
      fCpsgn F x y = (withSign F (negOf F y) (magOf F x), 0#5)) ∧
    fClass F x = (2 ^ classOf F x, invalidIf (isSnan F x)) ∧
    (isNan F x = true ∨ isNan F y = true → let sig := invalidIf (isSnan F x || isSnan F y)
      fCompare F .eq x y = (false, sig) ∧ fCompare F .ne x y = (true, sig) ∧ fCompare F .lt x y = (false, 16#5) ∧
      fCompare F .le x y = (false, 16#5) ∧ fCompare F .un x y = (true, sig)) ∧
    (∀ a b, extVal F x = some a → extVal F y = some b →
      fCompare F .eq x y = (decide (a = b), 0#5) ∧ fCompare F .ne x y = (decide (a ≠ b), 0#5) ∧ fCompare F .lt x y = (decide (a < b), 0#5) ∧
      fCompare F .le x y = (decide (a ≤ b), 0#5) ∧ fCompare F .un x y = (false, 0#5) ∧
      (x < 2 ^ F.width → y < 2 ^ F.width → a < b ∨ (a = b ∧ negOf F x = true) →
        fMinMax F false x y = (x, 0#5) ∧ fMinMax F true y x = (y, 0#5) ∧ (a < b ∨ negOf F y = false → fMinMax F false y x = (x, 0#5) ∧ fMinMax F true x y = (y, 0#5)))))

/-- R54, R55, R128, R130, R131: a conversion rounds its number once into a float, or to an integer with its ends; NaN and infinities
convert as the tables say. A scale multiplies by a power of two with one rounding. A packed dot product adds exact products in a
tree, and then d. -/
def Sys2Proof.Claim.ConversionValues : Prop :=
  (∀ i j S D md x, codeFormats[i]? = some S → codeFormats[j]? = some D →
    (∀ a, codeVal S x = some a → Rounded D md a (convert i j md x).1 (convert i j md x).2 ∧
      (a = 0 → convert i j md x = (withSign D (negOf S x) 0, 0#5))) ∧
    (isNan S x = true → (D.top = .finite → convert i j md x = (0, 16#5)) ∧ ∀ q, (D, q) ∈ qnans → convert i j md x = (q, invalidIf (isSnan S x))) ∧
    (isInf S x = true → convert i j md x =
      if D.top = .infNan then (withSign D (negOf S x) (infMag D), 0#5) else (withSign D (negOf S x) D.maxCode, 16#5))) ∧
  (∀ i k S sgn w md x, codeFormats[i]? = some S → (k, sgn, w) ∈ codeInts →
    let lo : Int := if sgn then -2 ^ (w - 1) else 0
    let hi : Int := if sgn then 2 ^ (w - 1) - 1 else 2 ^ w - 1
    (isNan S x = true → convert i k md x = (0, 16#5)) ∧
    (isInf S x = true → convert i k md x = (wrap w (if negOf S x then lo else hi), 16#5)) ∧
    (∀ a, codeVal S x = some a → ∃ n, toInt md a n ∧ convert i k md x =
      if n < lo then (wrap w lo, 16#5) else if hi < n then (wrap w hi, 16#5) else (wrap w n, if (n : ℝ) = a then 0#5 else 1#5))) ∧
  (∀ k j D sgn w md x, (k, sgn, w) ∈ codeInts → codeFormats[j]? = some D →
    let n : Int := if sgn then int w (x % 2 ^ w) else (x % 2 ^ w : ℕ)
    Rounded D md (n : ℝ) (convert k j md x).1 (convert k j md x).2 ∧ (n = 0 → convert k j md x = (0, 0#5))) ∧
  (∀ F ∈ formats, ∀ x (k : Int), (∀ a, codeVal F x = some a → Rounded F .rn (a * 2 ^ k) (fScale F x k).1 (fScale F x k).2 ∧
      (a = 0 → fScale F x k = (withSign F (negOf F x) 0, 0#5))) ∧
    (∀ q, (F, q) ∈ qnans → isNan F x = true → fScale F x k = (q, invalidIf (isSnan F x))) ∧
    (isInf F x = true → fScale F x k = (withSign F (negOf F x) (infMag F), 0#5))) ∧
  (∀ S w k a b d, (S, w, k) ∈ [(fmtF8e4m3, 8, 2), (fmtF8e5m2, 8, 2), (fmtF4e2m1, 4, 3)] →
    ∃ root, addPairs^[k] ((List.range (2 ^ k)).map (fun i => leaf32 S (a / 2 ^ (w * i) % 2 ^ w) (b / 2 ^ (w * i) % 2 ^ w))) = [root] ∧
      dotFloat S w k a b d = ((fAdd fmtF32 .rn d root.1).1, (fAdd fmtF32 .rn d root.1).2 ||| root.2))

/-- R126, R127: the special functions at NaN, infinities, zeros and negative numbers; reciprocals rounded once everywhere; the others
rounded once where their value is a number of few bits. -/
def Sys2Proof.Claim.SpecialValues : Prop :=
  (∀ F q, (F, q) ∈ [(fmtF32, 0x7FC00000), (fmtF64, 0x7FF8000000000000)] → ∀ x,
    let inf (n : Bool) := withSign F n (infMag F)
    (isNan F x = true → let r := (q, invalidIf (isSnan F x))
      fRcp F x = r ∧ fRsqrt F x = r ∧ fExp2 F x = r ∧ fLog2 F x = r ∧ fSinpi F x = r ∧ fCospi F x = r ∧ fTanh F x = r) ∧
    (isNan F x = false → magOf F x = 0 → fRcp F x = (inf (negOf F x), 8#5) ∧ fRsqrt F x = (inf (negOf F x), 8#5) ∧
      Rounded F .rn 1 (fExp2 F x).1 (fExp2 F x).2 ∧ fLog2 F x = (inf true, 8#5) ∧ fSinpi F x = (withSign F (negOf F x) 0, 0#5) ∧
      Rounded F .rn 1 (fCospi F x).1 (fCospi F x).2 ∧ fTanh F x = (withSign F (negOf F x) 0, 0#5)) ∧
    (isInf F x = true → fRcp F x = (withSign F (negOf F x) 0, 0#5) ∧ fRsqrt F x = (if negOf F x then (q, 16#5) else (0, 0#5)) ∧
      fExp2 F x = (if negOf F x then (0, 0#5) else (inf false, 0#5)) ∧ fLog2 F x = (if negOf F x then (q, 16#5) else (inf false, 0#5)) ∧
      fSinpi F x = (q, 16#5) ∧ fCospi F x = (q, 16#5) ∧
      Rounded F .rn (if negOf F x then -1 else 1) (fTanh F x).1 (fTanh F x).2) ∧
    (∀ a, codeVal F x = some a →
      (a < 0 → fRsqrt F x = (q, 16#5) ∧ fLog2 F x = (q, 16#5)) ∧
      (a ≠ 0 → Rounded F .rn (1 / a) (fRcp F x).1 (fRcp F x).2) ∧ (0 < a → Rounded F .rn (1 / Real.sqrt a) (fRsqrt F x).1 (fRsqrt F x).2) ∧
      (∀ n : Int, a = n → Rounded F .rn ((2 : ℝ) ^ n) (fExp2 F x).1 (fExp2 F x).2) ∧
      (∀ n : Int, a = (2 : ℝ) ^ n → Rounded F .rn (n : ℝ) (fLog2 F x).1 (fLog2 F x).2) ∧ (a = 1 → fLog2 F x = (0, 0#5)))) ∧
  (∀ x a, codeVal fmtF32 x = some a → ∀ n : Int,
    (a = n → fSinpi fmtF32 x = (withSign fmtF32 (negOf fmtF32 x) 0, 0#5) ∧ fCospi fmtF32 x = (withSign fmtF32 (decide (n % 2 ≠ 0)) 0x3F800000, 0#5)) ∧
    (a = n + 1 / 2 → fSinpi fmtF32 x = (withSign fmtF32 (decide (n % 2 ≠ 0)) 0x3F800000, 0#5) ∧ fCospi fmtF32 x = (0, 0#5))) ∧
  fRcp fmtF32 0x40400000 = (0x3EAAAAAB, 1#5) ∧ fExp2 fmtF32 0x43000000 = (0x7F800000, 5#5) ∧ fExp2 fmtF32 0xC3160000 = (0, 3#5) ∧
  fSinpi fmtF32 0x3F000000 = (0x3F800000, 0#5)

/-- R126: where both ends of the interval that a transcendental function computes round alike at one of its precisions, its result is the
exact mathematical value rounded once. -/
def Obligations.TranscendentalValues : Prop :=
  (∀ F ∈ [fmtF32, fmtF64], ∀ x a neg man exp sg, codeVal F x = some a → unpack F x = (.fin neg man exp false, sg) → 
    (Settles F (exp2At neg man exp) 6 256 → Rounded F .rn ((2 : ℝ) ^ a) (fExp2 F x).1 (fExp2 F x).2) ∧
    (0 < a → Settles F (log2At man exp) 6 256 → Rounded F .rn (Real.logb 2 a) (fLog2 F x).1 (fLog2 F x).2)) ∧
  (∀ x a neg man exp sg, codeVal fmtF32 x = some a → unpack fmtF32 x = (.fin neg man exp false, sg) →
    (Settles fmtF32 (sinpiAt neg man exp) 4 320 → Rounded fmtF32 .rn (Real.sin (Real.pi * a)) (fSinpi fmtF32 x).1 (fSinpi fmtF32 x).2) ∧
    (Settles fmtF32 (cospiAt man exp) 4 320 → Rounded fmtF32 .rn (Real.cos (Real.pi * a)) (fCospi fmtF32 x).1 (fCospi fmtF32 x).2) ∧
    (Settles fmtF32 (tanhAt neg man exp) 5 256 → Rounded fmtF32 .rn (Real.tanh a) (fTanh fmtF32 x).1 (fTanh fmtF32 x).2))

/-- R51 to R54, R56: rounding an exact number gives the number of the format that the mode asks for. -/
def Obligations.RoundingIsCorrect : Prop :=
  ∀ F ∈ formats, ∀ md neg man exp x, realOf (.fin neg man exp false) = some x →
    Rounded F md x (pack F md (.fin neg man exp false)).1 (pack F md (.fin neg man exp false)).2

/-- R121, R123: sums, differences, products, fused multiply-adds, quotients and roots of numbers are the exact result
rounded once. -/
def Obligations.ArithmeticRoundsOnce : Prop :=
  ∀ F ∈ formats, ∀ md x y z (a b c : ℝ), codeVal F x = some a → codeVal F y = some b → codeVal F z = some c →
    Rounded F md (a + b) (fAdd F md x y).1 (fAdd F md x y).2 ∧
    Rounded F md (a - b) (fSub F md x y).1 (fSub F md x y).2 ∧
    Rounded F md (a * b) (fMul F md x y).1 (fMul F md x y).2 ∧
    Rounded F md (a * b + c) (fFma F md x y z).1 (fFma F md x y z).2 ∧
    (b ≠ 0 → Rounded F .rn (a / b) (fDiv F x y).1 (fDiv F x y).2) ∧
    (0 ≤ a → Rounded F .rn (Real.sqrt a) (fSqrt F x).1 (fSqrt F x).2)

/-- R124, R122: compares and minima order numbers as numbers. -/
def Sys2Proof.Claim.ComparesOrderNumbers : Prop :=
  ∀ F ∈ formats, ∀ x y (a b : ℝ), codeVal F x = some a → codeVal F y = some b →
    ((fCompare F .eq x y).1 = true ↔ a = b) ∧ ((fCompare F .ne x y).1 = true ↔ a ≠ b) ∧ ((fCompare F .lt x y).1 = true ↔ a < b) ∧
    ((fCompare F .le x y).1 = true ↔ a ≤ b) ∧ (fCompare F .un x y).1 = false ∧
    codeVal F (fMinMax F false x y).1 = some (min a b) ∧ codeVal F (fMinMax F true x y).1 = some (max a b)

/-- Floating-point arithmetic, order and compares; NaN, infinities and zeros: FloatArithmetic, ComparesOrderNumbers,
NansInfinitiesZeros (stated above). -/
def Obligations.FloatingPoint : Prop :=
  Claim.FloatArithmetic ∧ Claim.ComparesOrderNumbers ∧ Claim.NansInfinitiesZeros

/-- Conversions, block scales, packed dot products: ConversionsAndDots, ConversionValues (stated above). -/
def Obligations.ConversionsAndDots : Prop :=
  Claim.ConversionsAndDots ∧ Claim.ConversionValues

/-- Special functions are long-latency; their special values: SpecialFunctions, SpecialValues (stated above). -/
def Obligations.SpecialFunctions : Prop :=
  Claim.SpecialFunctions ∧ Claim.SpecialValues
/-! ## Taking a trap; loads and stores -/

namespace Sys2Proof.Claim
open Sys2Proof Sys2Proof.Machine

/-- Level, no-allocate form and type code of a load; of a store. -/
def loadForm : Instr → Option (Lvl × Bool × BitVec 3)
  | .ldP _ _ _ _ t => some (.p, false, t)
  | .ldC _ _ _ _ t => some (.c, false, t)
  | .ldQ _ _ _ _ t => some (.q, false, t)
  | .ldM _ _ _ _ t => some (.m, false, t)
  | .ldG _ _ _ _ t => some (.g, false, t)
  | .ldGNt _ _ _ _ t => some (.g, true, t)
  | _ => none
def storeForm : Instr → Option (Lvl × Bool × BitVec 3)
  | .stP _ _ _ _ t => some (.p, false, t)
  | .stC _ _ _ _ t => some (.c, false, t)
  | .stQ _ _ _ _ t => some (.q, false, t)
  | .stM _ _ _ _ t => some (.m, false, t)
  | .stG _ _ _ _ t => some (.g, false, t)
  | .stGNt _ _ _ _ t => some (.g, true, t)
  | _ => none

/-- Bytes of an access by its type code: n8, i8, n16, i16, b32, b64, b128 (R88). -/
def width (t : BitVec 3) : Nat := [1, 1, 2, 2, 4, 8, 16, 16].getD t.toNat 16
/-- The address of a lane's access (R147): a + b modulo 2^32, for global memory a + sign_extend(b) modulo 2^64. -/
def address (s : State) (l : Nat) (i : Instr) (lvl : Lvl) : Nat :=
  if lvl = .g then wrap 64 ((src s l i.ops 0 : Int) + int 32 (src s l i.ops 1)) else (src s l i.ops 0 + src s l i.ops 1) % 2 ^ 32
/-- The number that bytes are, the first least significant (R9). -/
def number : List Byte → Nat
  | [] => 0
  | b :: r => b.toNat + 256 * number r
/-- What a load leaves in its destination: the bytes as a number, for i8 and i16 sign-extended to 32 bits (R146). -/
def loaded (t : BitVec 3) (bs : List Byte) : Nat :=
  if t = 1#3 ∨ t = 3#3 then wrap 32 (int (8 * width t) (number bs)) else number bs
/-- Byte k of a number (R9). -/
def byteOf (x k : Nat) : Byte := BitVec.ofNat 8 (x / 256 ^ k)

/-- No lane of the gang holds an access, there is room among the held accesses of its core (R150), and the core's scoreboard has
no error (R393). -/
abbrev Unheld (s : State) : Prop :=
  (∀ l ∈ s.issue.lanes, (s.lane l).held = []) ∧ s.heldCount s.issue.ctx s.issue.vc < 64 ∧
  ∀ e ∈ s.badStores, e.1 ≠ .board s.issue.ctx s.issue.vc

/-- The byte at an address of a level, as the gang's core names it (R147). -/
def levelByte (s : State) (l : Nat) (lvl : Lvl) (a : Nat) : Byte :=
  if lvl = .p then (s.lane l).priv.byte a else s.chipByte s.issue.ctx s.issue.vc lvl a

/-- The bounds of R147, R301 for an aligned access of n bytes at a level other than global memory: the allotment of the
role, 1 MiB of scratchpad, an allocation of the context in a present core's slice of square memory, the context's
partition of a present die's market. -/
def Within (s : State) (l : Nat) (lvl : Lvl) (a n : Nat) : Prop :=
  match lvl with
  | .p => a + n ≤ s.allotP (s.lane l)
  | .c => a + n ≤ 2 ^ 20
  | .q => a + n ≤ 2 ^ 22 ∧ s.corePresent (s.issPhys / 16 * 16 + a / 2 ^ 18 % 16) = true ∧
      ∃ x ∈ (s.square (s.issPhys / 16)).allocs, x.ctx = s.issue.ctx ∧ x.base ≤ a ∧ a + n ≤ x.base + x.len
  | .m => a + n ≤ 2 ^ 27 ∧ s.diePresent (a / 2 ^ 25 % 4) = true ∧
      ∃ b z, look (s.issCtx).trans.market (a / 2 ^ 25 % 4) = some (b, z) ∧ b ≤ a % 2 ^ 25 ∧ a % 2 ^ 25 + n ≤ b + z
  | .g => False

/-- The place of a byte of a level other than global memory, as a lane of the gang names it: its level, the core, square or
die that holds it, its address there. -/
def placeAt (s : State) (l : Nat) (lvl : Lvl) (a : Nat) : ChipAt :=
  match lvl with
  | .p => ⟨.p, (s.issue.ctx, s.issue.vc), 512 * (32 * s.issue.line + l) + a⟩
  | .q => ⟨.q, (s.issPhys / 16, 0), a⟩
  | .m => ⟨.m, (a / 2 ^ 25 % 4, 0), a % 2 ^ 25⟩
  | lvl => ⟨lvl, (s.issue.ctx, s.issue.vc), a⟩
/-- A byte is uncorrectable (R151, R390): it has been lost, or more is wrong in its codeword than two check symbols mend. -/
abbrev Lost (s : State) (x : ChipAt) : Prop := x ∈ s.badChip ∨ s.badSyms ≠ [] ∧ ∃ z, s.symOf x = some z ∧ s.wordLost z.grp z.word = true
/-- Every one of n bytes from an address on is correct, and no symbol of its codeword has to be corrected (R390). -/
abbrev Correct (s : State) (l : Nat) (lvl : Lvl) (a n : Nat) : Prop := ∀ k, k < n → ¬ Lost s (placeAt s l lvl (a + k)) ∧
  ∀ z, s.symOf (placeAt s l lvl (a + k)) = some z → s.wrongSyms z.grp z.word = []

/-- No job in flight touches the bytes in a way that the access must wait for (R149), no atomic on them stands between its read
and its write (R156), and the market of their die is in service (R392). -/
abbrev Undisturbed (s : State) (lvl : Lvl) (a n : Nat) (store : Bool) : Prop :=
  (lvl ≠ .p → s.boardWaits s.issue.ctx s.issue.vc lvl [(a, a + n - 1)] store = false) ∧
  (lvl = .q → ∀ h ∈ s.halves, halfIn (s.issPhys / 16) a n h = false) ∧ (lvl = .m → (s.die (a / 2 ^ 25 % 4)).marketRetired = false)

/-- A long-latency instruction has gone out (R74): nothing is written yet; its return writes what f gives. Watchpoints may
have been hit on the way (R216). -/
def Returns (s t : State) (o : OpSpec) (f : Nat → Nat) : Prop :=
  (∀ l ∈ s.issue.lanes, (t.lane l).regs = (s.lane l).regs ∧ (t.lane l).fst = (s.lane l).fst) ∧ t.issLine.g = s.issLine.g ∧
  ∃ hits r, (∀ x ∈ hits, ∃ h, x = .watchpointHit h) ∧ t.agenda = s.agenda ++ hits ++ [.longLatencyReturn r] ∧
    (∀ l ∈ s.issue.lanes, t.outstanding (at' s l) = true) ∧
    ∃ u : State, exec (.longLatencyReturn r) t = .next u ∧ Holds s u o f ∧ RegsKept s u o ∧ (∀ p, (u.thread p).fst = (s.thread p).fst)

/-- Memory that a store to a level other than global memory leaves alone, whatever its address: all other levels, other
lanes' private memories, other cores' scratchpads, other squares. -/
def OtherLevels (s t : State) (lvl : Lvl) : Prop :=
  (∀ a, t.mem.byte a = s.mem.byte a) ∧ t.wbHeld = s.wbHeld ∧
  (∀ c v, (t.core c v).l1 = (s.core c v).l1 ∧
    (lvl ≠ .c ∨ (c, v) ≠ (s.issue.ctx, s.issue.vc) → ∀ a, (t.core c v).scratch.byte a = (s.core c v).scratch.byte a)) ∧
  (∀ q, lvl ≠ .q ∨ q ≠ s.issPhys / 16 → ∀ a, (t.square q).sqm.byte a = (s.square q).sqm.byte a) ∧
  (∀ d a, lvl ≠ .m ∨ 4 ≤ d ∨ 2 ^ 25 ≤ a → (t.die d).market.byte a = (s.die d).market.byte a) ∧
  (∀ p : Place, lvl ≠ .p ∨ (∀ l ∈ s.issue.lanes, p ≠ at' s l) → ∀ a, (t.thread p).priv.byte a = (s.thread p).priv.byte a)

/-- The last of the gang's lanes, in ascending order, whose n bytes hold an address. -/
def lastAt (s : State) (i : Instr) (lvl : Lvl) (n a : Nat) : Option Nat :=
  s.issue.lanes.reverse.find? (fun l => decide (address s l i lvl ≤ a) && decide (a < address s l i lvl + n))

end Sys2Proof.Claim

open Sys2Proof Sys2Proof.Machine Sys2Proof.Claim

/-- R341, R342: taking a trap. -/
def Sys2Proof.Claim.TrapTaken : Prop :=
  ∀ (s : State) lanes pos tr, lanes ≠ [] → lanes.Nodup → (∀ l ∈ lanes, (look s.threads (at' s l)).isSome) →
    Trapped s (s.takeTrap s.issKey lanes pos tr) lanes pos tr ∧
    (∀ p : Place, (∀ l ∈ lanes, p ≠ at' s l) → (s.takeTrap s.issKey lanes pos tr).thread p = s.thread p) ∧
    (s.takeTrap s.issKey lanes pos tr).mem = s.mem ∧ (s.takeTrap s.issKey lanes pos tr).lines = s.lines ∧
    (s.takeTrap s.issKey lanes pos tr).squares = s.squares ∧ (s.takeTrap s.issKey lanes pos tr).dies = s.dies

/-- R146, R147: a load from private memory, scratchpad, square memory or the market that is aligned and in bounds in every
lane, and whose bytes are correct, returns each lane's bytes, and changes no memory. -/
def Sys2Proof.Claim.OnChipLoads : Prop :=
  ∀ i (s : State) lvl ty, loadForm i = some (lvl, false, ty) → lvl ≠ .g → i.wf = true → Sound s → Gang s → Clean s i.ops → Unheld s →
    (∀ l ∈ s.issue.lanes, address s l i lvl % width ty = 0 ∧ Within s l lvl (address s l i lvl) (width ty) ∧
      Undisturbed s lvl (address s l i lvl) (width ty) false ∧ Correct s l lvl (address s l i lvl) (width ty)) →
    ∃ t : State, ∃ o, dstOf i.ops = some o ∧ exec i s = .next t ∧ Advanced s t (marker i) ∧ MemKept s t ∧
      Returns s t o (fun l => loaded ty ((List.range (width ty)).map (fun k => levelByte s l lvl (address s l i lvl + k))))

/-- R146, R147: a store to the same levels writes each lane's bytes at its address, where lanes overlap those of the
last lane, and no other byte of any memory; it writes no register. -/
def Sys2Proof.Claim.OnChipStores : Prop :=
  ∀ i (s : State) lvl ty, storeForm i = some (lvl, false, ty) → lvl ≠ .g → i.wf = true → Sound s → Gang s → Clean s i.ops → Unheld s →
    (∀ l ∈ s.issue.lanes, address s l i lvl % width ty = 0 ∧ Within s l lvl (address s l i lvl) (width ty) ∧
      Undisturbed s lvl (address s l i lvl) (width ty) true) →
    ∃ t : State, exec i s = .next t ∧ Advanced s t (marker i) ∧ ThreadsKept s t ∧ OtherLevels s t lvl ∧
      (lvl = .p → ∀ l ∈ s.issue.lanes, ∀ a, levelByte t l .p a =
        if address s l i lvl ≤ a ∧ a < address s l i lvl + width ty then byteOf (src s l i.ops 2) (a - address s l i lvl) else levelByte s l .p a) ∧
      (lvl ≠ .p → ∀ l0 a, (lvl = .m → a < 2 ^ 27) → levelByte t l0 lvl a =
        match lastAt s i lvl (width ty) a with
        | some l => byteOf (src s l i.ops 2) (a - address s l i lvl)
        | none => levelByte s l0 lvl a)

/-- R147, R340: an access of one lane to those levels that is not aligned takes the alignment trap (0x07) with its address
as info; else, out of bounds, the private-bounds trap (0x08) or the on-chip-bounds trap (0x09) with the level as cause.
Nothing is read or written. In a gang of several lanes exactly the lanes with such an access trap. -/
def Sys2Proof.Claim.AccessTraps : Prop :=
  ∀ i (s : State) lvl ty, loadForm i = some (lvl, false, ty) ∨ storeForm i = some (lvl, false, ty) → lvl ≠ .g →
    i.wf = true → Sound s → Gang s → Clean s i.ops → Unheld s →
    (∀ l, s.issue.lanes = [l] → (address s l i lvl % width ty ≠ 0 ∨ ¬ Within s l lvl (address s l i lvl) (width ty)) →
      ∃ t : State, exec i s = .next t ∧ MemKept s t ∧
        Trapped s t [l] s.issue.pos (if address s l i lvl % width ty ≠ 0 then { code := .alignment, info := address s l i lvl }
          else if lvl = .p then { code := .privateBounds, info := address s l i lvl }
          else { code := .onChipBounds, cause := lvl.lev, info := address s l i lvl })) ∧
    ((∀ l ∈ s.issue.lanes, Undisturbed s lvl (address s l i lvl) (width ty) (storeForm i).isSome ∧
        Correct s l lvl (address s l i lvl) (width ty)) →
      ∃ t : State, exec i s = .next t ∧ ∀ l ∈ s.issue.lanes,
        ((∃ q, (t.lane l).stat = .trapped q false) ↔
          (address s l i lvl % width ty ≠ 0 ∨ ¬ Within s l lvl (address s l i lvl) (width ty))) ∧
        ((t.lane l).pos = nextPos (s.lane l) ∨ (t.lane l).pos = (s.lane l).pos))

/-- R151, R392: a load or store to a market that has been retired takes the machine-check trap (0x20) of cause 0, whose info is the
address; no memory changes. -/
def Sys2Proof.Claim.RetiredMarketAccess : Prop :=
  ∀ i (s : State) ty l, loadForm i = some (.m, false, ty) ∨ storeForm i = some (.m, false, ty) → i.wf = true → Sound s → Gang s → Clean s i.ops → Unheld s →
    s.issue.lanes = [l] → address s l i .m % width ty = 0 → Within s l .m (address s l i .m) (width ty) →
    s.boardWaits s.issue.ctx s.issue.vc .m [(address s l i .m, address s l i .m + width ty - 1)] (storeForm i).isSome = false →
    (s.die (address s l i .m / 2 ^ 25 % 4)).marketRetired = true →
    ∃ t : State, exec i s = .next t ∧ MemKept s t ∧ Trapped s t [l] s.issue.pos { code := .machineCheck, cause := 0, info := address s l i .m }

/-- R151, R390: a lone lane's load of on-chip bytes of which one is uncorrectable is not delivered: the lane takes the
machine-check trap (0x20) of cause 0, whose info is the address of the first such byte; registers and memory are as before.
Where what is wrong in the codewords can be mended, the load returns the stored bytes, and corrections are counted. -/
def Sys2Proof.Claim.UncorrectableLoad : Prop :=
  ∀ i (s : State) lvl ty l, loadForm i = some (lvl, false, ty) → lvl ≠ .g → i.wf = true → Sound s → Gang s → Clean s i.ops → Unheld s →
    s.issue.lanes = [l] → address s l i lvl % width ty = 0 → Within s l lvl (address s l i lvl) (width ty) →
    Undisturbed s lvl (address s l i lvl) (width ty) false →
    (∀ k, k < width ty → Lost s (placeAt s l lvl (address s l i lvl + k)) → (∀ j, j < k → ¬ Lost s (placeAt s l lvl (address s l i lvl + j))) →
      ∃ t : State, exec i s = .next t ∧ MemKept s t ∧
        Trapped s t [l] s.issue.pos { code := .machineCheck, cause := 0, info := address s l i lvl + k }) ∧
    ((∀ k, k < width ty → ¬ Lost s (placeAt s l lvl (address s l i lvl + k))) →
      ∃ t : State, ∃ o r, ∃ hits : List Instr, dstOf i.ops = some o ∧ exec i s = .next t ∧ Advanced s t (marker i) ∧ MemKept s t ∧
        (∀ x ∈ hits, (∃ h, x = .watchpointHit h) ∨ ∃ g b, x = .bankMarkFailed g b) ∧ t.agenda = s.agenda ++ hits ++ [.longLatencyReturn r] ∧
        ∃ u : State, exec (.longLatencyReturn r) t = .next u ∧ RegsKept s u o ∧
          Holds s u o (fun l => loaded ty ((List.range (width ty)).map (fun k => levelByte s l lvl (address s l i lvl + k)))))

/-- On-chip accesses that are misaligned, out of bounds or of failed memory trap: AccessTraps, RetiredMarketAccess,
UncorrectableLoad (stated above). What it says of points that the spec leaves open is the model's choice:
notes/assumptions/27. -/
def Obligations.OnChipTraps : Prop :=
  Claim.AccessTraps ∧ Claim.RetiredMarketAccess ∧ Claim.UncorrectableLoad
/-! ## Global memory -/

namespace Sys2Proof.Claim
open Sys2Proof Sys2Proof.Machine

/-- A lane's global access is mapped: below 2^57, by one stretch of a range register with the permission it needs; what it
names (R147, R306 to R308). -/
abbrev Maps (s : State) (a n : Nat) (rd wr : Bool) (sp : Span) : Prop :=
  a < 2 ^ 57 ∧ s.mapVa s.issue.ctx a n rd wr = some [sp]

/-- Nothing that a global access of the gang would have to wait for: no job on its bytes, no drain of its line under way, no
write-back bytes held; and no byte of it with a parity error in the gang's L1 (R393). -/
abbrev GlobalFree (s : State) (sp : Span) (store : Bool) : Prop :=
  s.boardWaits s.issue.ctx s.issue.vc .g [(sp.ia, sp.ia + sp.len - 1)] store = false ∧ s.issLine.drains = [] ∧ s.wbHeld = [] ∧
  ∀ k, k < sp.len → (⟨.g, (s.issue.ctx, s.issue.vc), sp.ia + k⟩ : ChipAt) ∉ s.badChip

/-- No atomic stands between its read and its write (R156), and the gang's L1 holds the line of an address under no other
address (R289). -/
abbrev SoleCopy (s : State) (ia : Nat) : Prop :=
  s.halves = [] ∧ ∀ x ∈ (s.issCore).l1, x.ia ≠ ia / 128 * 128 → s.sameLine s.issue.ctx x.ia (ia / 128 * 128) = false
/-- The access translates, and its line finds a way at its home (R287, R314). -/
abbrev Opens (s : State) (ia : Nat) (rd wr nt : Bool) : Prop := ∃ r, s.openPage s.issue.ctx ia rd wr nt = .ok r

/-- The access lies within one L1 line of 128 bytes. -/
abbrev OneLine (ia n : Nat) : Prop := ia / 128 = (ia + n - 1) / 128

/-- L1 lines of the gang's core other than that of an address hold no dirty bytes; the line of it holds none either. -/
abbrev OthersClean (s : State) (ia : Nat) : Prop := ∀ x ∈ (s.issCore).l1, x.ia ≠ ia / 128 * 128 → ∀ b ∈ x.bytes, b.2.2 = false
abbrev LineClean (s : State) (ia : Nat) : Prop := ∀ x ∈ (s.issCore).l1, x.ia = ia / 128 * 128 → ∀ b ∈ x.bytes, b.2.2 = false

/-- The core's own dirty byte at an address, if L1 holds one. -/
def ownDirty (s : State) (ia : Nat) : Option Byte :=
  match s.l1Find s.issue.ctx s.issue.vc (ia / 128 * 128) with
  | some x => (look (x.bytes.filter (fun b => b.2.2)) (ia % 128)).map (·.1)
  | none => none

/-- Context of the gang without a cut under way: stores copy no granule first (R380). -/
abbrev NoCut (s : State) : Prop := (s.issCtx).ckpt.cut = none

/-- On-chip memory, private memory and other cores' L1 are as before. -/
def OnChipKept (s t : State) : Prop :=
  (∀ d a, (t.die d).market.byte a = (s.die d).market.byte a) ∧ (∀ q a, (t.square q).sqm.byte a = (s.square q).sqm.byte a) ∧
  (∀ c v, (∀ a, (t.core c v).scratch.byte a = (s.core c v).scratch.byte a) ∧
    ((c, v) ≠ (s.issue.ctx, s.issue.vc) → (t.core c v).l1 = (s.core c v).l1)) ∧
  (∀ p a, (t.thread p).priv.byte a = (s.thread p).priv.byte a)

/-- The n bytes at an address that L1 can supply, if it can supply all of them. -/
def l1Bytes (s : State) (ia n : Nat) : Option (List Byte) :=
  ((List.range n).map (fun k => s.l1Byte s.issue.ctx s.issue.vc (ia + k))).mapM id

end Sys2Proof.Claim

open Sys2Proof Sys2Proof.Machine Sys2Proof.Claim

/-- R146, R273, R292: loads of global memory. If L1 can supply every lane's bytes and no range is strongly ordered, each lane
gets them and no memory changes. A lone lane whose bytes are not all in L1 gets its core's own dirty bytes and the bytes at the
homes for the rest; with `nt`, L1 stays as it is (R274). A lone lane's strongly ordered load gets the bytes at the homes. -/
def Sys2Proof.Claim.GlobalLoads : Prop :=
  ∀ i (s : State) nt ty, loadForm i = some (.g, nt, ty) → i.wf = true → Sound s → Gang s → Clean s i.ops → Unheld s →
    (∀ f : Nat → Span, ∀ bs : Nat → List Byte,
      (∀ l ∈ s.issue.lanes, Maps s (address s l i .g) (width ty) true false (f l) ∧ (f l).attr ≠ 2 ∧ (f l).len = width ty ∧
        GlobalFree s (f l) false ∧ l1Bytes s (f l).ia (width ty) = some (bs l)) →
      ∃ t : State, ∃ o, dstOf i.ops = some o ∧ exec i s = .next t ∧ Advanced s t (marker i) ∧ MemKept s t ∧
        Returns s t o (fun l => loaded ty (bs l))) ∧
    (∀ (l : Nat) sp, s.issue.lanes = [l] → Maps s (address s l i .g) (width ty) true false sp → sp.attr ≠ 2 → sp.len = width ty →
      GlobalFree s sp false → OneLine sp.ia (width ty) → sp.ia < 2 ^ 52 → l1Bytes s sp.ia (width ty) = none →
      SoleCopy s sp.ia → Opens s sp.ia true false nt → (∀ k, k < width ty → s.badByte s.issue.ctx [sp.ia + k] = none) → OthersClean s sp.ia →
      ∃ t : State, ∃ o, dstOf i.ops = some o ∧ exec i s = .next t ∧ Advanced s t (marker i) ∧ (∀ a, t.mem.byte a = s.mem.byte a) ∧ OnChipKept s t ∧
        (nt = true → (t.issCore).l1 = (s.issCore).l1) ∧
        (nt = false → ∀ k, k < width ty → (t.l1Byte s.issue.ctx s.issue.vc (sp.ia + k)).isSome) ∧
        Returns s t o (fun _ => loaded ty ((List.range (width ty)).map (fun k =>
          if nt then (s.l1Byte s.issue.ctx s.issue.vc (sp.ia + k)).getD (s.homeByte s.issue.ctx (sp.ia + k))
          else (ownDirty s (sp.ia + k)).getD (s.homeByte s.issue.ctx (sp.ia + k)))))) ∧
    (∀ (l : Nat) sp, s.issue.lanes = [l] → Maps s (address s l i .g) (width ty) true false sp → sp.attr = 2 → sp.len = width ty →
      GlobalFree s sp false → OneLine sp.ia (width ty) → sp.ia < 2 ^ 52 →
      SoleCopy s sp.ia → Opens s sp.ia true false false → (∀ k, k < width ty → s.badByte s.issue.ctx [sp.ia + k] = none) →
      OthersClean s sp.ia → LineClean s sp.ia →
      ∃ t : State, ∃ o, dstOf i.ops = some o ∧ exec i s = .next t ∧ Advanced s t (marker i) ∧ (∀ a, t.mem.byte a = s.mem.byte a) ∧ OnChipKept s t ∧
        t.l1Find s.issue.ctx s.issue.vc (sp.ia / 128 * 128) = none ∧
        Returns s t o (fun _ => loaded ty ((List.range (width ty)).map (fun k => s.homeByte s.issue.ctx (sp.ia + k)))))

/-- R146, R273, R274: stores to global memory. A lone lane's plain store leaves its bytes in its core's L1, dirty, changes no
byte of physical memory, and no other byte of L1 but that a full set gives up a line. With `nt`, or to a strongly ordered
range, the bytes are written at their home, and no other byte of physical memory; L1 keeps no copy. -/
def Sys2Proof.Claim.GlobalStores : Prop :=
  ∀ i (s : State) nt ty l sp, storeForm i = some (.g, nt, ty) → i.wf = true → Sound s → Gang s → Clean s i.ops → Unheld s → s.issue.lanes = [l] →
    Maps s (address s l i .g) (width ty) false true sp → sp.len = width ty → GlobalFree s sp true → OneLine sp.ia (width ty) →
    OthersClean s sp.ia →
    (nt = false → sp.attr ≠ 2 →
      ∃ t : State, exec i s = .next t ∧ Advanced s t (marker i) ∧ ThreadsKept s t ∧ OnChipKept s t ∧ t.agenda = s.agenda ∧ (∀ a, t.mem.byte a = s.mem.byte a) ∧
        (∀ k, k < width ty → ownDirty t (sp.ia + k) = some (byteOf (src s l i.ops 2) k)) ∧
        (∀ a, a / 128 = sp.ia / 128 → (a < sp.ia ∨ sp.ia + width ty ≤ a) →
          t.l1Byte s.issue.ctx s.issue.vc a = s.l1Byte s.issue.ctx s.issue.vc a) ∧
        (∀ la, la ≠ sp.ia / 128 * 128 → t.l1Find s.issue.ctx s.issue.vc la = s.l1Find s.issue.ctx s.issue.vc la ∨
          t.l1Find s.issue.ctx s.issue.vc la = none)) ∧
    (nt = true ∨ sp.attr = 2 → LineClean s sp.ia → NoCut s → SoleCopy s sp.ia → Opens s sp.ia false true false →
      ∃ t : State, ∃ hits, exec i s = .next t ∧ Advanced s t (marker i) ∧ ThreadsKept s t ∧ OnChipKept s t ∧ (∀ x ∈ hits, ∃ h, x = .watchpointHit h) ∧
        t.agenda = s.agenda ++ hits ∧ t.l1Find s.issue.ctx s.issue.vc (sp.ia / 128 * 128) = none ∧
        (∀ k, k < width ty → t.mem.byte (s.paOf s.issue.ctx (sp.ia + k)) = byteOf (src s l i.ops 2) k) ∧
        (∀ pa, (∀ k, k < width ty → pa ≠ s.paOf s.issue.ctx (sp.ia + k)) → t.mem.byte pa = s.mem.byte pa))

/-- R147, R150, R314, R315: a lone lane's global access whose bytes no range register maps takes the range trap (0x0A) with
the address as info. One whose page does not allow it is held: the lane goes on past the instruction, keeps the access with the
stretch that it mapped to, and one note tells cause, kind, addresses and lane; no memory changes.
What it says of points that the spec leaves open is the model's choice: notes/assumptions/29. -/
def Obligations.GlobalFaults : Prop :=
  ∀ i (s : State) nt ty l, loadForm i = some (.g, nt, ty) ∨ storeForm i = some (.g, nt, ty) → i.wf = true → Sound s → Gang s → Clean s i.ops → Unheld s →
    s.issue.lanes = [l] →
    ((2 ^ 57 ≤ address s l i .g ∨ s.mapVa s.issue.ctx (address s l i .g) (width ty) (loadForm i).isSome (storeForm i).isSome = none) →
      ∃ t : State, exec i s = .next t ∧ MemKept s t ∧ Trapped s t [l] s.issue.pos { code := .range, info := address s l i .g }) ∧
    (∀ sp f, Maps s (address s l i .g) (width ty) (loadForm i).isSome (storeForm i).isSome sp → sp.attr ≠ 2 → sp.len = width ty →
      GlobalFree s sp (storeForm i).isSome → OneLine sp.ia (width ty) → OthersClean s sp.ia → LineClean s sp.ia → SoleCopy s sp.ia →
      ((loadForm i).isSome = true ∧ l1Bytes s sp.ia (width ty) = none ∨ (storeForm i).isSome = true ∧ nt = true) →
      s.checkPage s.issue.ctx sp.ia (loadForm i).isSome (storeForm i).isSome = .error f →
      ∃ t : State, ∃ h n, exec i s = .next t ∧ (∀ a, t.mem.byte a = s.mem.byte a) ∧ OnChipKept s t ∧
        (t.lane l).pos = nextPos (s.lane l) ∧ (marker i = false → (t.lane l).stat = .run) ∧
        (marker i = true → ∃ id, (t.lane l).stat = .parked id) ∧
        (t.lane l).regs = (s.lane l).regs ∧ (t.lane l).held = [h] ∧ h.pos = s.issue.pos ∧ h.map = some [sp] ∧ h.faulted = some sp.ia ∧
        Adds s t [.gatewayPageFault n] ∧ n.ctx = s.issue.ctx ∧ n.vc = s.issue.vc ∧ n.line = s.issue.line ∧ n.lanes = [l] ∧
        n.cause = f.cause ∧ n.lvl = f.lvl ∧ n.vcache = f.vcn ∧ n.kind = (if (storeForm i).isSome then 1 else 0) ∧
        n.ia = sp.ia ∧ n.va = address s l i .g ∧ n.job = none)

/-- R152: prefetches complete whatever their addresses are: no register, no byte of physical memory changes but for dirty
lines that leave a full set of L1. -/
def Sys2Proof.Claim.Prefetches : Prop :=
  ∀ i (s : State), (∃ sw a b, i = .prfL1 sw a b ∨ i = .prfL2 sw a b) → i.wf = true → Gang s → Clean s i.ops →
    ∃ t : State, exec i s = .next t ∧ Advanced s t (marker i) ∧ ThreadsKept s t ∧ OnChipKept s t ∧
      ((∀ x ∈ (s.issCore).l1, ∀ b ∈ x.bytes, b.2.2 = false) → s.wbHeld = [] → s.halves = [] → ∀ a, t.mem.byte a = s.mem.byte a)
/-! ## Atomics, fences, the scope table -/

namespace Sys2Proof.Claim
open Sys2Proof Sys2Proof.Machine

/-- Operation, type code, scope, destination register of an atomic or reduction. -/
def atomForm : Instr → Option (AtomOp × BitVec 3 × BitVec 4 × Option Fld)
  | .atomAdd _ d _ w c => some (.add, w, c, some d)
  | .atomAnd _ d _ w c => some (.and, w, c, some d)
  | .atomOr _ d _ w c => some (.or, w, c, some d)
  | .atomXor _ d _ w c => some (.xor, w, c, some d)
  | .atomMinI _ d _ w c => some (.minI, w, c, some d)
  | .atomMaxI _ d _ w c => some (.maxI, w, c, some d)
  | .atomMinN _ d _ w c => some (.minN, w, c, some d)
  | .atomMaxN _ d _ w c => some (.maxN, w, c, some d)
  | .atomExch _ d _ w c => some (.exch, w, c, some d)
  | .atomCas _ d _ w c => some (.cas, w, c, some d)
  | .redAdd _ _ _ w c => some (.add, w, c, none)
  | .redAnd _ _ _ w c => some (.and, w, c, none)
  | .redOr _ _ _ w c => some (.or, w, c, none)
  | .redXor _ _ _ w c => some (.xor, w, c, none)
  | .redMinI _ _ _ w c => some (.minI, w, c, none)
  | .redMaxI _ _ _ w c => some (.maxI, w, c, none)
  | .redMinN _ _ _ w c => some (.minN, w, c, none)
  | .redMaxN _ _ _ w c => some (.maxN, w, c, none)
  | _ => none

/-- Bytes of an atomic: type codes 0 and 2 are 32 bits wide, 1 and 3 64 bits; 0 and 1 act on global memory (R154). -/
def atomN (w : BitVec 3) : Nat := if w.toNat % 2 = 1 then 8 else 4
def atomGlobal (w : BitVec 3) : Bool := decide (w.toNat < 2)

/-- The new value in memory, from the old one and d (R155): for `cas` the low half of d is compared and the high half
stored. -/
def atomResult (op : AtomOp) (n old d : Nat) : Nat :=
  let b := 8 * n
  match op with
  | .add => (old + d) % 2 ^ b
  | .and => old &&& d
  | .or => old ||| d
  | .xor => old ^^^ d
  | .minI => if int b old ≤ int b d then old else d
  | .maxI => if int b old ≤ int b d then d else old
  | .minN => min old d
  | .maxN => max old d
  | .exch => d
  | .cas => if old = d % 2 ^ b then d / 2 ^ b else old

/-- The scope that a lane names lets it act: valid, and the lane's virtual core is a member (R39). -/
abbrev InScope (s : State) (l : Nat) (sc : Nat) : Prop :=
  (s.scopeGen s.issue.ctx ⟨s.issue.vc, s.issue.line, l⟩ sc).valid = true ∧
  (s.scopeGen s.issue.ctx ⟨s.issue.vc, s.issue.line, l⟩ sc).vmask.testBit s.issue.vc = true

/-- Bytes of memory after the lanes of a list have acted one after another, each on the n bytes at its address; and the
old value that each found. -/
def actAll (n : Nat) (addr : Nat → Nat) (new : Nat → Nat → Nat) : List Nat → (Nat → Byte) → (Nat → Nat) × (Nat → Byte)
  | [], m => (fun _ => 0, m)
  | l :: ls, m =>
    let old := number ((List.range n).map (fun k => m (addr l + k)))
    let m' := fun a => if addr l ≤ a ∧ a < addr l + n then byteOf (new l old) (a - addr l) else m a
    let rest := actAll n addr new ls m'
    (fun k => if k = l then old else rest.1 k, rest.2)

/-- Clean copies that a line of L1 holds are no longer supplied (R158). -/
def Forgotten (s t : State) (x : L1Line) : Prop :=
  ∀ a b, a / 128 * 128 = x.ia → look x.bytes (a % 128) = some (b, false) → t.l1Byte s.issue.ctx s.issue.vc a = none

/-- A line of L1 stands for its address alone, with one entry for each byte, and its fill epoch is not ahead of its class's. -/
def Proper (s : State) (x : L1Line) : Prop :=
  x.cls < 8 ∧ x.epoch ≤ s.epochOf s.issue.ctx s.issue.vc x.cls ∧ (x.bytes.map (·.1)).Nodup ∧ ∀ y ∈ (s.issCore).l1, y.ia = x.ia → y = x

def fenceForm : Instr → Option (FenceKind × BitVec 4)
  | .fenceAcq _ c => some (.acq, c)
  | .fenceRel _ c => some (.rel, c)
  | .fenceAr _ c => some (.ar, c)
  | .fenceSc _ c => some (.sc, c)
  | _ => none

/-- The scope entry that a record of 128 bytes gives, and whether its fields are allowed in a context of n cores (R37, R161). -/
abbrev scopeOk (n x : Nat) : Prop :=
  x / 2 ^ 688 = 0 ∧ x / 2 ^ 652 % 8 = 0 ∧ x / 2 ^ 648 % 16 ≤ 2 ∧ x % 2 ^ 640 < 2 ^ n ∧
  (x / 2 ^ 648 % 16 = 0 → ∃ i, x % 2 ^ 640 = 2 ^ i)
def scopeOf (x gen : Nat) : ScopeGen :=
  { valid := true, gen := (gen + 1) % 2 ^ 32, point := x / 2 ^ 648 % 16, cset := x / 2 ^ 640 % 256, vmask := x % 2 ^ 640 }
def scopeGenOf (s : State) (sc : Nat) : Nat := ((look (s.issCtx).scopes sc).map (·.gen)).getD 0

end Sys2Proof.Claim

open Sys2Proof Sys2Proof.Machine Sys2Proof.Claim

/-- R154, R155, R147: atomics and reductions on square memory act lane after lane: each lane finds what the lanes before it
left, writes the operation's result, and with `atom` returns what it found; no other byte of memory changes. No atomic on the bytes
stands between its read and its write, and none of these is to do so (R156, R301: the model's choice list is 0 for them). -/
def Sys2Proof.Claim.AtomicsSquare : Prop :=
  ∀ i (s : State) op w c d, atomForm i = some (op, w, c, d) → atomGlobal w = false → i.wf = true → Sound s → Gang s → Clean s i.ops → Unheld s →
    (∀ l ∈ s.issue.lanes, InScope s l c.toNat ∧ src s l i.ops 0 % atomN w = 0 ∧ Within s l .q (src s l i.ops 0) (atomN w) ∧
      s.boardWaits s.issue.ctx s.issue.vc .q [(src s l i.ops 0, src s l i.ops 0 + atomN w - 1)] true = false ∧
      Correct s l .q (src s l i.ops 0) (atomN w) ∧ ∀ h ∈ s.halves, halfIn (s.issPhys / 16) (src s l i.ops 0) (atomN w) h = false) →
    (∀ m ∈ s.aux.atoms.take s.issue.lanes.length, m = 0) →
    let all := actAll (atomN w) (fun l => src s l i.ops 0) (fun l old => atomResult op (atomN w) old (src s l i.ops 1)) s.issue.lanes
      (s.chipByte s.issue.ctx s.issue.vc .q)
    ∃ t : State, exec i s = .next t ∧ Advanced s t (marker i) ∧ OtherLevels s t .q ∧
      (∀ a, t.chipByte s.issue.ctx s.issue.vc .q a = all.2 a) ∧
      (∀ r, d = some r → Returns s t ⟨.dst, r, atomWords w⟩ all.1) ∧ (d = none → ThreadsKept s t)

/-- R154, R155, R292: a lone lane's atomic or reduction on global memory reads and writes its bytes at their home, and no
other byte of physical memory; L1 keeps no copy. The atomic reads and writes in one action (R156, R301: the model's choice list
is 0 for it, or its range is strongly ordered). -/
def Sys2Proof.Claim.AtomicsGlobal : Prop :=
  ∀ i (s : State) op w c d l sp, atomForm i = some (op, w, c, d) → atomGlobal w = true → i.wf = true → Sound s → Gang s → Clean s i.ops → Unheld s →
    s.issue.lanes = [l] → InScope s l c.toNat → src s l i.ops 0 % atomN w = 0 →
    Maps s (src s l i.ops 0) (atomN w) true true sp → sp.len = atomN w → GlobalFree s sp true → OneLine sp.ia (atomN w) →
    OthersClean s sp.ia → LineClean s sp.ia → NoCut s →
    SoleCopy s sp.ia → s.aux.atoms.headD 0 = 0 ∨ sp.attr = 2 → Opens s sp.ia true true false → (∀ k, k < atomN w → s.badByte s.issue.ctx [sp.ia + k] = none) →
    let old := number ((List.range (atomN w)).map (fun k => s.homeByte s.issue.ctx (sp.ia + k)))
    ∃ t : State, exec i s = .next t ∧ Advanced s t (marker i) ∧ OnChipKept s t ∧
      t.l1Find s.issue.ctx s.issue.vc (sp.ia / 128 * 128) = none ∧
      (∀ k, k < atomN w → t.mem.byte (s.paOf s.issue.ctx (sp.ia + k)) = byteOf (atomResult op (atomN w) old (src s l i.ops 1)) k) ∧
      (∀ pa, (∀ k, k < atomN w → pa ≠ s.paOf s.issue.ctx (sp.ia + k)) → t.mem.byte pa = s.mem.byte pa) ∧
      (∀ r, d = some r → Returns s t ⟨.dst, r, atomWords w⟩ (fun _ => old)) ∧ (d = none → ThreadsKept s t)

/-- R39, R155, R157: a lone lane's atomic, reduction or fence under a scope that is not valid takes the stale-index trap
(0x0B), under a valid one of which its core is no member the non-member trap (0x0C), with the scope as cause and the
generation as info. -/
def Sys2Proof.Claim.ScopeTraps : Prop :=
  ∀ i s l (c : BitVec 4), ((∃ op w d, atomForm i = some (op, w, c, d)) ∨ (∃ k, fenceForm i = some (k, c))) → i.wf = true → Sound s → Gang s →
    Clean s i.ops → Unheld s → s.issue.lanes = [l] → ¬ InScope s l c.toNat →
    let g := s.scopeGen s.issue.ctx ⟨s.issue.vc, s.issue.line, l⟩ c.toNat
    ∃ t : State, exec i s = .next t ∧ MemKept s t ∧
      Trapped s t [l] s.issue.pos { code := if g.valid then .nonMember else .staleIndex, cause := c.toNat, info := g.gen }

/-- R157 to R160: a fence under one scope generation of which the gang's core is a member. If the pages of the dirty lines
that it releases can be written, no engine job pins a line of L2,
and no byte of its L1 has a parity error, it completes. A release (all but `acq`) leaves no dirty byte of the scope's classes in L1, and
where they have distinct homes their values stand there. An acquire (all but `rel`) makes L1 forget the clean copies of the
scope's classes. A scope of point 0 leaves L1 alone. -/
def Sys2Proof.Claim.Fences : Prop :=
  ∀ i s k (c : BitVec 4) g, fenceForm i = some (k, c) → i.wf = true → Sound s → Gang s → Unheld s → s.wbHeld = [] → s.issLine.drains = [] → NoCut s →
    s.halves = [] → (∀ j ∈ (s.issCtx).jobs, j.2.retired = true) → (∀ a, (⟨.g, (s.issue.ctx, s.issue.vc), a⟩ : ChipAt) ∉ s.badChip) →
    (∀ l ∈ s.issue.lanes, InScope s l c.toNat ∧ s.scopeGen s.issue.ctx ⟨s.issue.vc, s.issue.line, l⟩ c.toNat = g) →
    (∀ x ∈ (s.issCore).l1, ∀ b ∈ x.bytes, b.2.2 = true → (∃ r, s.checkPage s.issue.ctx (x.ia + b.1) false true = .ok r)) →
    ∃ t : State, exec i s = .next t ∧ Advanced s t (marker i) ∧ ThreadsKept s t ∧ OnChipKept s t ∧
      (g.point = 0 → (t.issCore).l1 = (s.issCore).l1 ∧ t.mem = s.mem) ∧
      (k ≠ .acq → g.point ≠ 0 → ∀ x ∈ (t.issCore).l1, g.cset.testBit x.cls → ∀ b ∈ x.bytes, b.2.2 = false) ∧
      (k ≠ .acq → g.point ≠ 0 →
        (∀ x ∈ (s.issCore).l1, ∀ y ∈ (s.issCore).l1, ∀ b ∈ x.bytes, ∀ e ∈ y.bytes, b.2.2 = true → e.2.2 = true →
          s.paOf s.issue.ctx (x.ia + b.1) = s.paOf s.issue.ctx (y.ia + e.1) → b.2.1 = e.2.1) →
        ∀ x ∈ (s.issCore).l1, Proper s x → g.cset.testBit x.cls → ∀ b ∈ x.bytes, b.2.2 = true →
          t.mem.byte (s.paOf s.issue.ctx (x.ia + b.1)) = b.2.1) ∧
      (k ≠ .rel → g.point ≠ 0 → ∀ x ∈ (s.issCore).l1, Proper s x → g.cset.testBit x.cls → Forgotten s t x)

/-- R161, R162: `scset` with a record that L1 supplies installs the entry that the record gives, with the next generation;
a record that breaks a rule, or one at an address that is no multiple of 8, traps every lane with the record-format trap
(0x0D) and the address. `scinv` makes the entry invalid with the next generation. -/
def Sys2Proof.Claim.ScopeEntries : Prop :=
  (∀ sw a c (s : State) bs sp, (Instr.scset sw a c).wf = true → Sound s → Gang s → Clean s [⟨.src, a, 2⟩] → Unheld s →
    (s.ctx? s.issue.ctx).isSome → s.heldCount s.issue.ctx s.issue.vc + s.issue.lanes.length ≤ 64 →
    let ad := val s (s.issue.lanes.headD 0) a 2
    (ad % 8 ≠ 0 →
      ∃ t : State, exec (.scset sw a c) s = .next t ∧ MemKept s t ∧ Trapped s t s.issue.lanes s.issue.pos { code := .recordFormat, info := ad }) ∧
    (ad % 8 = 0 → Maps s ad 128 true false sp → sp.attr ≠ 2 → sp.len = 128 → GlobalFree s sp false → l1Bytes s sp.ia 128 = some bs →
      (scopeOk (s.issCtx).n (number bs) → ∃ t : State, exec (.scset sw a c) s = .next t ∧ Advanced s t sw ∧ ThreadsKept s t ∧ MemKept s t ∧
        t.issCtx = { s.issCtx with scopes := put (s.issCtx).scopes c.toNat (scopeOf (number bs) (scopeGenOf s c.toNat)) }) ∧
      (¬ scopeOk (s.issCtx).n (number bs) → ∃ t : State, exec (.scset sw a c) s = .next t ∧ MemKept s t ∧
        Trapped s t s.issue.lanes s.issue.pos { code := .recordFormat, info := ad }))) ∧
  (∀ sw c (s : State), (Instr.scinv sw c).wf = true → Gang s → (s.ctx? s.issue.ctx).isSome →
    ∃ t : State, exec (.scinv sw c) s = .next t ∧ Advanced s t sw ∧ ThreadsKept s t ∧ MemKept s t ∧
      ∃ g, look (t.issCtx).scopes c.toNat = some g ∧ g.valid = false ∧ g.gen = (scopeGenOf s c.toNat + 1) % 2 ^ 32)

/-- R38, R162: `scqry` reads whether a scope is valid for the lane and its generation, `scmem` whether the lane's core is a
member. -/
def Sys2Proof.Claim.ScopeQueries : Prop :=
  (∀ sw d c (s : State), (Instr.scqry sw d c).wf = true → Sound s → Gang s → Clean s [⟨.dst, d, 2⟩] →
    ∃ t : State, exec (.scqry sw d c) s = .next t ∧ MemKept s t ∧ SpecialKept s t ∧ Advanced s t sw ∧ RegsKept s t ⟨.dst, d, 2⟩ ∧ Holds s t ⟨.dst, d, 2⟩ (fun l =>
      let g := s.scopeGen s.issue.ctx ⟨s.issue.vc, s.issue.line, l⟩ c.toNat
      truth (g.valid = true) + 2 ^ 32 * (g.gen % 2 ^ 32))) ∧
  (∀ sw d c (s : State), (Instr.scmem sw d c).wf = true → Sound s → Gang s → Clean s [⟨.dst, d, 1⟩] →
    ∃ t : State, exec (.scmem sw d c) s = .next t ∧ MemKept s t ∧ SpecialKept s t ∧ Advanced s t sw ∧ RegsKept s t ⟨.dst, d, 1⟩ ∧ Holds s t ⟨.dst, d, 1⟩ (fun l =>
      truth ((s.scopeGen s.issue.ctx ⟨s.issue.vc, s.issue.line, l⟩ c.toNat).vmask.testBit s.issue.vc = true)))

/-- Atomics and reductions: AtomicsSquare, AtomicsGlobal (stated above). What it says of points that the spec leaves open
is the model's choice: notes/assumptions/8, 25. -/
def Obligations.Atomics : Prop :=
  Claim.AtomicsSquare ∧ Claim.AtomicsGlobal

/-- Scopes: traps, entries, queries; fences release and acquire: ScopeTraps, ScopeEntries, ScopeQueries, Fences (stated
above). What it says of points that the spec leaves open is the model's choice: notes/assumptions/39, 44, 50. -/
def Obligations.ScopesAndFences : Prop :=
  Claim.ScopeTraps ∧ Claim.ScopeEntries ∧ Claim.ScopeQueries ∧ Claim.Fences
/-! ## Control flow, threads, traps by instruction -/

namespace Sys2Proof.Claim
open Sys2Proof Sys2Proof.Machine

/-- Lanes have gone to positions of their own, past an S point or not (R74, R132). -/
def Moved (s t : State) (sw : Bool) (lanes : List Nat) (dest : Nat → Pos) (opened : Nat → Bool) : Prop :=
  ∀ l ∈ lanes, (t.lane l).pos = dest l ∧ (t.lane l).opened = opened l ∧
    (t.lane l).stat = (if sw then (if (s.lane l).held.isEmpty then .sync s.serial else .parked s.serial) else .run)

/-- The word that a branch names: its own word plus the signed offset (R72). -/
def branchWord (w : Nat) (o : BitVec 18) : Nat := ((w : Int) + int 18 o.toNat).toNat

/-- Nothing that an S point waits for: no result outstanding, no access held (R74, R76). -/
abbrev Settled (s : State) : Prop :=
  ∀ l ∈ s.issue.lanes, s.outstanding (at' s l) = false ∧ (s.lane l).held = []

/-- The kernel that a lane runs. -/
def kernelAt (s : State) (l : Nat) : Option Kernel := s.kernelOf (s.lane l)
/-- A word at which a block of the code starts (R101, R135). -/
abbrev blockAt (k : Kernel) (w : Nat) : Prop := w < k.code.length ∧ ∃ p, (w, p) ∈ k.blocks
/-- Every lane of the gang runs one kernel. -/
abbrev OneKernel (s : State) (k : Kernel) : Prop := ∀ l ∈ s.issue.lanes, kernelAt s l = some k

/-- The registers that the role of a lane is allotted (R100, R137). -/
def allotted (s : State) (l : Nat) : Nat :=
  match kernelAt s l with
  | some k => ((k.roles[(s.lane l).role]?).map (·.2)).getD 0
  | none => 0

/-- The member of a group that a lane is. -/
def memberAt (s : State) (l : Nat) : Member := ⟨s.issue.vc, s.issue.line, l⟩

/-- The bytes that `ychk` saves for a lane (R138): resume word, window base, zero. -/
def saveRecord (word wb : Nat) : Nat := word % 2 ^ 32 + wb * 2 ^ 32

end Sys2Proof.Claim

open Sys2Proof Sys2Proof.Machine Sys2Proof.Claim

/-- R72, R133: `bnz` and `bz` send each lane whose register passes the test to the target, the others on. -/
def Sys2Proof.Claim.Branches : Prop :=
  ∀ i (s : State) sw d o, i = .bnz sw d o ∨ i = .bz sw d o → i.wf = true → Sound s → Gang s → Clean s [⟨.src, d, 1⟩] →
    ∃ t : State, exec i s = .next t ∧ ThreadsKept s t ∧ MemKept s t ∧
      Moved s t sw s.issue.lanes
        (fun l => if (val s l d 1 ≠ 0 ↔ i = .bnz sw d o) then ⟨branchWord s.issue.pos.word o, false⟩ else nextPos (s.lane l))
        (fun l => if (val s l d 1 ≠ 0 ↔ i = .bnz sw d o) then false else nextOpened (s.lane l))

/-- R134, R135: `call` writes the link and goes to its target. `jmpi`, `ret` and `calli` take each lane whose word starts a
block to that word, `calli` with the link; the other lanes of the gang take the control-target trap and get no link. -/
def Sys2Proof.Claim.CallsAndIndirect : Prop :=
  (∀ (s : State) sw d o, (Instr.call sw d o).wf = true → Sound s → Gang s → Clean s [⟨.dstVG, d, 1⟩] →
    ∃ t : State, exec (.call sw d o) s = .next t ∧ MemKept s t ∧ RegsKept s t ⟨.dst, d, 1⟩ ∧
      Holds s t ⟨.dst, d, 1⟩ (fun _ => s.issue.pos.word + 1) ∧
      Moved s t true s.issue.lanes (fun _ => ⟨branchWord s.issue.pos.word o, false⟩) (fun _ => false)) ∧
  (∀ i (s : State) sw a k, i = .jmpi sw a ∨ i = .ret sw a → i.wf = true → Sound s → Gang s → Clean s [⟨.src, a, 1⟩] → OneKernel s k →
    ∃ t : State, exec i s = .next t ∧ MemKept s t ∧ ∀ l ∈ s.issue.lanes, (t.lane l).regs = (s.lane l).regs ∧
      (blockAt k (val s l a 1) → (t.lane l).pos = ⟨val s l a 1, false⟩ ∧ (t.lane l).opened = false ∧
        ((s.lane l).held = [] → ∃ n, (t.lane l).stat = .sync n)) ∧
      (¬ blockAt k (val s l a 1) → (t.lane l).pos = (s.lane l).pos ∧ ∃ q, (t.lane l).stat = .trapped q false)) ∧
  (∀ (s : State) sw d a k, (Instr.calli sw d a).wf = true → Sound s → Gang s → Clean s (Instr.calli sw d a).ops → OneKernel s k →
    ∃ t : State, exec (.calli sw d a) s = .next t ∧ MemKept s t ∧ ∀ l ∈ s.issue.lanes,
      (blockAt k (val s l a 1) → (t.lane l).pos = ⟨val s l a 1, false⟩ ∧ (t.lane l).opened = false ∧
        ((s.lane l).held = [] → ∃ n, (t.lane l).stat = .sync n) ∧
        (∀ j, regName d = .v j → val t l d 1 = (s.issue.pos.word + 1) % 2 ^ 32) ∧
        (∀ j, regName d = .g j → j ≠ 0 → val t l d 1 = (s.issue.pos.word + 1) % 2 ^ 32)) ∧
      (¬ blockAt k (val s l a 1) → (t.lane l).pos = (s.lane l).pos ∧ (t.lane l).regs = (s.lane l).regs ∧
        ∃ q, (t.lane l).stat = .trapped q false)) ∧
  (∀ i (s : State) sw a k l, (i = .jmpi sw a ∨ i = .ret sw a ∨ ∃ d, i = .calli sw d a) → i.wf = true → Sound s → Gang s → Clean s i.ops →
    OneKernel s k → s.issue.lanes = [l] → ¬ blockAt k (val s l a 1) →
    ∃ t : State, exec i s = .next t ∧ Trapped s t [l] s.issue.pos { code := .controlTarget, info := val s l a 1 })

/-- R136, R137: `exit` ends the threads of a gang that waits for nothing: their places are empty, their launches count them
out, and every other thread keeps registers, position and held accesses. `win` moves the window of each lane whose role has
the registers for it; another lane takes the window-bounds trap with n and keeps its window. -/
def Sys2Proof.Claim.ExitAndWindow : Prop :=
  (∀ (s : State) sw, Gang s → Settled s → (∀ l ∈ s.issue.lanes, s.draining s.issue.ctx s.issue.vc s.issue.line l = false) →
    ∃ t : State, exec (.exit sw) s = .next t ∧ (∀ l ∈ s.issue.lanes, look t.threads (at' s l) = none) ∧
      (∀ u a, look s.launches u = some a → ∃ b, look t.launches u = some b ∧ b.recd = a.recd ∧
        b.live = a.live - (s.issue.lanes.filter (fun l => (s.lane l).launch == u)).length) ∧
      (∀ p : Place, (∀ l ∈ s.issue.lanes, p ≠ at' s l) → (t.thread p).regs = (s.thread p).regs ∧ (t.thread p).pos = (s.thread p).pos ∧
        (t.thread p).held = (s.thread p).held ∧ (t.thread p).group = (s.thread p).group) ∧
      ((∀ l ∈ s.issue.lanes, s.groupOf s.issue.ctx (memberAt s l) = none) → s.issLine.drains = [] → t.mem = s.mem ∧ t.squares = s.squares ∧ t.dies = s.dies)) ∧
  (∀ (s : State) sw b, (Instr.win sw b).wf = true → Gang s →
    ∃ t : State, exec (.win sw b) s = .next t ∧ MemKept s t ∧ ∀ l ∈ s.issue.lanes, (t.lane l).regs = (s.lane l).regs ∧
      (8 * b.toNat + 104 ≤ allotted s l → (t.lane l).wb = 8 * b.toNat ∧ (t.lane l).pos = nextPos (s.lane l) ∧
        ((s.lane l).held = [] → ∃ n, (t.lane l).stat = .sync n)) ∧
      (allotted s l < 8 * b.toNat + 104 → (t.lane l).wb = (s.lane l).wb ∧ (t.lane l).pos = (s.lane l).pos ∧
        ∃ q, (t.lane l).stat = .trapped q false)) ∧
  (∀ (s : State) sw b l, (Instr.win sw b).wf = true → Gang s → s.issue.lanes = [l] → allotted s l < 8 * b.toNat + 104 →
    ∃ t : State, exec (.win sw b) s = .next t ∧ Trapped s t [l] s.issue.pos { code := .windowBounds, info := 8 * b.toNat })

/-- R76, R136, R138, R139: while a result of a lane is outstanding or an access is held, `exit`, `ychk` and `yield` wait at
their position as at an S point. -/
def Sys2Proof.Claim.PointsWait : Prop :=
  ∀ i (s : State) sw, i = .exit sw ∨ i = .ychk sw ∨ i = .yield sw → Gang s → ¬ Settled s →
    ∃ t : State, exec i s = .next t ∧ ThreadsKept s t ∧ MemKept s t ∧
      Moved s t true s.issue.lanes (fun l => (s.lane l).pos) (fun l => (s.lane l).opened)

/-- R138, R139, R357: with the request flag clear, `ychk` goes on and `yield` goes on with its lanes no longer diverted. With
it set, `yield` stops its threads, and a lone lane's `ychk` writes its save record as a global store and goes to the yield
handler, diverted; diverted lanes go on; a handler word that starts no block raises the control-target trap. -/
def Sys2Proof.Claim.Yielding : Prop :=
  (∀ (s : State) sw, Gang s → Settled s → (s.issCtx).set.preq = false →
    ∃ t u : State, exec (.ychk sw) s = .next t ∧ ThreadsKept s t ∧ MemKept s t ∧ Advanced s t false ∧
      (∀ p, (t.thread p).diverted = (s.thread p).diverted) ∧
      exec (.yield sw) s = .next u ∧ ThreadsKept s u ∧ MemKept s u ∧ Advanced s u false ∧
      ∀ l ∈ s.issue.lanes, (u.lane l).diverted = false) ∧
  (∀ (s : State) sw, Gang s → Settled s → (s.issCtx).set.preq = true →
    ∃ u : State, exec (.yield sw) s = .next u ∧ ThreadsKept s u ∧ MemKept s u ∧
      ∀ l ∈ s.issue.lanes, (u.lane l).stat = .yielded ∧ (u.lane l).pos = nextPos (s.lane l) ∧ (u.lane l).diverted = false) ∧
  (∀ (s : State) sw, Gang s → Settled s → (s.issCtx).set.preq = true → (∀ l ∈ s.issue.lanes, (s.lane l).diverted = true) →
    ∃ t : State, exec (.ychk sw) s = .next t ∧ ThreadsKept s t ∧ MemKept s t ∧ Advanced s t false ∧
      ∀ l ∈ s.issue.lanes, (t.lane l).diverted = true) ∧
  (∀ (s : State) sw k, Gang s → Settled s → (s.issCtx).set.preq = true → (∀ l ∈ s.issue.lanes, (s.lane l).diverted = false) → OneKernel s k →
    ¬ blockAt k (s.issCtx).set.yhnd →
    ∃ t : State, exec (.ychk sw) s = .next t ∧ MemKept s t ∧
      Trapped s t s.issue.lanes s.issue.pos { code := .controlTarget, info := (s.issCtx).set.yhnd }) ∧
  (∀ (s : State) sw k l sp, Sound s → Gang s → Settled s → Unheld s → (s.issCtx).set.preq = true → s.issue.lanes = [l] → (s.lane l).diverted = false →
    OneKernel s k → blockAt k (s.issCtx).set.yhnd → (∃ a, look s.launches (s.lane l).launch = some a ∧
      Maps s ((a.recd.toNat / 2 ^ 128 % 2 ^ 57 + (s.lane l).tid * (a.recd.toNat / 2 ^ 224 % 2 ^ 32)) % 2 ^ 64) 16 false true sp) →
    sp.len = 16 → sp.attr ≠ 2 → GlobalFree s sp true → OneLine sp.ia 16 → OthersClean s sp.ia →
    ∃ t : State, exec (.ychk sw) s = .next t ∧ (t.lane l).pos = ⟨(s.issCtx).set.yhnd, false⟩ ∧ (t.lane l).stat = .run ∧
      (t.lane l).diverted = true ∧ (t.lane l).regs = (s.lane l).regs ∧ (∀ a, t.mem.byte a = s.mem.byte a) ∧
      ∀ k, k < 16 → ownDirty t (sp.ia + k) = some (byteOf (saveRecord (s.issue.pos.word + 1) (s.lane l).wb) k))

/-- R79, R84, R213, R386: `nop` goes on. `trap n` takes the software trap with cause n, a word that no instruction has, and a
dictionary pair with an index past its dictionary, the illegal-instruction trap; `brk` takes the breakpoint trap unless a
watchpoint of the square is armed for the context, and then goes on and hits the debug unit. A dictionary pair within its
dictionary is opened: its halves issue next. -/
def Sys2Proof.Claim.TrapsByInstruction : Prop :=
  (∀ (s : State) sw, Gang s → ∃ t : State, exec (.nop sw) s = .next t ∧ Advanced s t sw ∧ ThreadsKept s t ∧ MemKept s t) ∧
  (∀ (s : State) sw n, Gang s → ∃ t : State, exec (.trap sw n) s = .next t ∧ MemKept s t ∧
    Trapped s t s.issue.lanes s.issue.pos { code := .software, cause := n.toNat }) ∧
  (∀ (s : State) w, Gang s → ∃ t : State, exec (.unassignedWordIssue w) s = .next t ∧ MemKept s t ∧
    Trapped s t s.issue.lanes s.issue.pos { code := .illegal, info := s.issue.info }) ∧
  (∀ (s : State) sw, Gang s → (s.square (s.issPhys / 16)).watches.all (fun w => w.2.ctx != s.issue.ctx) = true →
    ∃ t : State, exec (.brk sw) s = .next t ∧ MemKept s t ∧ Trapped s t s.issue.lanes s.issue.pos { code := .breakpoint }) ∧
  (∀ (s : State) sw, Gang s → (s.square (s.issPhys / 16)).watches.any (fun w => w.2.ctx == s.issue.ctx) = true →
    ∃ t : State, ∃ h, exec (.brk sw) s = .next t ∧ Advanced s t sw ∧ ThreadsKept s t ∧ MemKept s t ∧ Adds s t [.watchpointHit h] ∧
      h.kind = .brk ∧ h.sq = s.issPhys / 16 ∧ h.ctx = s.issue.ctx ∧ h.vc = s.issue.vc ∧ h.line = s.issue.line ∧
      h.lanes = s.issue.lanes ∧ h.pos = s.issue.pos) ∧
  (∀ (s : State) t' u e f k, Gang s → OneKernel s k →
    (k.dict.length ≤ e.toNat ∨ k.dict.length ≤ f.toNat → ∃ t : State, exec (.dpair t' u e f) s = .next t ∧ MemKept s t ∧
      Trapped s t s.issue.lanes s.issue.pos { code := .illegal, info := s.issue.info }) ∧
    (e.toNat < k.dict.length → f.toNat < k.dict.length → ∃ t : State, exec (.dpair t' u e f) s = .next t ∧ MemKept s t ∧ ThreadsKept s t ∧
      ∀ l ∈ s.issue.lanes, (t.lane l).opened = true ∧ (t.lane l).pos = (s.lane l).pos ∧ (t.lane l).stat = (s.lane l).stat))

/-- Taking a trap, and the instructions that take one: TrapTaken, TrapsByInstruction (stated above). What it says of
points that the spec leaves open is the model's choice: notes/assumptions/67. -/
def Obligations.TrapsAreTaken : Prop :=
  Claim.TrapTaken ∧ Claim.TrapsByInstruction

/-- Branches, calls, returns, exit and the window: Branches, CallsAndIndirect, ExitAndWindow (stated above). -/
def Obligations.ControlFlow : Prop :=
  Claim.Branches ∧ Claim.CallsAndIndirect ∧ Claim.ExitAndWindow

/-- Waiting at points, and yielding: PointsWait, Yielding (stated above). What it says of points that the spec leaves open
is the model's choice: notes/assumptions/86. -/
def Obligations.YieldPoints : Prop :=
  Claim.PointsWait ∧ Claim.Yielding
/-! ## Groups, barriers, channels -/

namespace Sys2Proof.Claim
open Sys2Proof Sys2Proof.Machine

/-- The lanes' members. -/
def members (s : State) : List Member := s.issue.lanes.map (memberAt s)

/-- The limits of R141 on the operand of `gnew`: reserved bits, allocation, capacity. -/
abbrev gnewOk (x lanes : Nat) (m : Bool) : Prop :=
  x / 2 ^ 11 % 2 ^ 9 = 0 ∧ x / 2 ^ 20 % 2 ^ 12 ≤ (if m then 1024 else 256) ∧ 0 < x % 2 ^ 11 ∧ x % 2 ^ 11 ≤ (if m then 1024 else 512) ∧ lanes ≤ x % 2 ^ 11

/-- A span of so many 4-KiB units from a base keeps clear of the spans taken. -/
abbrev spanFree (s : State) (m : Bool) (base units : Nat) : Prop :=
  base + units ≤ (if m then 1024 else 256) ∧
    ∀ t ∈ s.takenSpans s.issue.ctx s.issue.vc m, t.1 + t.2 ≤ base * 4096 ∨ (base + units) * 4096 ≤ t.1

/-- No lane of the gang belongs to a group. -/
abbrev Groupless (s : State) : Prop := ∀ l ∈ s.issue.lanes, s.groupOf s.issue.ctx (memberAt s l) = none

/-- The channel k of the issuing line. -/
def chan (s : State) (k : Nat) : Chan := s.issLine.chans.getD k {}
/-- Entries that a binding word's depth field gives (R164). -/
def depth (w : Word) : Nat := 32 * 2 ^ (w.toNat % 4)
/-- Entries bound by the line's other channels. -/
def otherDepths (s : State) (k : Nat) : Nat :=
  ((List.range 8).map (fun j => if j ≠ k ∧ (chan s j).bound = true then depth (chan s j).word else 0)).sum

/-- A queue that begins with data words. -/
abbrev Begins (q : List QEnt) (ws : List Word) : Prop := ∃ r, q = ws.map QEnt.data ++ r

end Sys2Proof.Claim

open Sys2Proof Sys2Proof.Machine Sys2Proof.Claim

/-- R140, R141: `gnew` by a gang whose lanes are in no group. An operand past a limit gives 0xFFFF_FFFD, no free number
0xFFFF_FFFF, no free span 0xFFFF_FFFE, and nothing else happens. Else the lowest free number and the lowest free span make a
group with the lanes as its members; d and the lanes' group are its handle, by the number of the core in the square of its first
placement (R44), and the span reads zero. -/
def Sys2Proof.Claim.GroupCreation : Prop :=
  ∀ (s : State) sw d a m, (Instr.gnew sw d a m).wf = true → Sound s → Gang s → Clean s (da 1 1 d a) → Groupless s →
    let x := val s (s.issue.lanes.headD 0) a 1
    let used := (s.issCore).groups.map (·.1)
    ∃ t : State, ∃ v, exec (.gnew sw d a m) s = .next t ∧ Advanced s t sw ∧ Holds s t ⟨.dst, d, 1⟩ (fun _ => v) ∧ RegsKept s t ⟨.dst, d, 1⟩ ∧
      (∀ a, t.mem.byte a = s.mem.byte a) ∧
      (¬ gnewOk x s.issue.lanes.length m → v = 0xFFFFFFFD) ∧
      (gnewOk x s.issue.lanes.length m → (∀ n, n < 32 → n ∈ used) → v = 0xFFFFFFFF) ∧
      (gnewOk x s.issue.lanes.length m → (∃ n, n < 32 ∧ n ∉ used) → x / 2 ^ 20 ≠ 0 → (∀ b, ¬ spanFree s m b (x / 2 ^ 20)) → v = 0xFFFFFFFE) ∧
      (v = 0xFFFFFFFD ∨ v = 0xFFFFFFFE ∨ v = 0xFFFFFFFF → MemKept s t ∧ (t.issCore).groups = (s.issCore).groups ∧
        ∀ p, (t.thread p).group = (s.thread p).group) ∧
      (∀ n b, gnewOk x s.issue.lanes.length m → n < 32 → n ∉ used → (∀ j, j < n → j ∈ used) →
        (x / 2 ^ 20 = 0 ∧ b = 0 ∨ x / 2 ^ 20 ≠ 0 ∧ spanFree s m b (x / 2 ^ 20) ∧ ∀ j, j < b → ¬ spanFree s m j (x / 2 ^ 20)) →
        let gen := (look (s.issCore).groupGens n).getD 0
        v = b % 2 ^ 10 * 2 ^ 22 + s.homeOf s.issue.ctx s.issue.vc % 16 * 2 ^ 18 + (if m then 2 ^ 17 else 0) + gen % 64 * 2 ^ 11 + n ∧
        (∃ g, look (t.issCore).groups n = some g ∧ g.members = members s ∧ g.arrived = [] ∧ g.base = b ∧ g.alloc = x / 2 ^ 20 ∧
          g.cap = x % 2 ^ 11 ∧ g.square = m ∧ g.gen = gen) ∧
        (∀ l ∈ s.issue.lanes, (t.lane l).group = BitVec.ofNat 32 v) ∧
        (∀ k, k < x / 2 ^ 20 * 4096 → t.chipByte s.issue.ctx s.issue.vc (if m then .q else .c) (b * 4096 + k) = 0#8))

/-- R142, R143: `join` by lanes in no group. A stale handle, a core group of another core, or a group without room raises the
group trap with cause 1, 2 or 3 and the handle, and no lane joins. Else every lane is a member and has the handle. `leave` by
lanes in no group only passes its S point; a lone lane leaves its group while another member has yet to arrive at the barrier;
the last member's leaving dissolves the group. -/
def Sys2Proof.Claim.JoinAndLeave : Prop :=
  (∀ (s : State) sw a, (Instr.join sw a).wf = true → Sound s → Gang s → Clean s [⟨.src, a, 1⟩] → Groupless s →
    let h := val s (s.issue.lanes.headD 0) a 1
    match s.groupNamed s.issue.ctx s.issue.vc (BitVec.ofNat 32 h) with
    | none => ∃ t : State, exec (.join sw a) s = .next t ∧ MemKept s t ∧ Trapped s t s.issue.lanes s.issue.pos { code := .group, cause := 1, info := h }
    | some x =>
      if x.g.square = false ∧ x.vc ≠ s.issue.vc then
        ∃ t : State, exec (.join sw a) s = .next t ∧ MemKept s t ∧ Trapped s t s.issue.lanes s.issue.pos { code := .group, cause := 2, info := h }
      else if x.g.cap < x.g.members.length + s.issue.lanes.length ∧ (∀ l ∈ s.issue.lanes, memberAt s l ∉ x.g.members) then
        ∃ t : State, exec (.join sw a) s = .next t ∧ MemKept s t ∧ Trapped s t s.issue.lanes s.issue.pos { code := .group, cause := 3, info := h }
      else (∀ l ∈ s.issue.lanes, memberAt s l ∉ x.g.members) → look (s.core s.issue.ctx x.vc).groups x.num = some x.g →
        ∃ t : State, ∃ g, exec (.join sw a) s = .next t ∧ MemKept s t ∧ Advanced s t true ∧
          look (t.core s.issue.ctx x.vc).groups x.num = some g ∧ g.members = x.g.members ++ members s ∧ g.arrived = x.g.arrived ∧
          ∀ l ∈ s.issue.lanes, (t.lane l).group = BitVec.ofNat 32 h ∧ (t.lane l).regs = (s.lane l).regs) ∧
  (∀ (s : State) sw, Gang s → Groupless s → ∃ t : State, exec (.leave sw) s = .next t ∧ Advanced s t true ∧ ThreadsKept s t ∧ MemKept s t) ∧
  (∀ (s : State) sw l x, Gang s → s.issue.lanes = [l] → s.groupOf s.issue.ctx (memberAt s l) = some x →
    look (s.core s.issue.ctx x.vc).groups x.num = some x.g → (∃ m ∈ x.g.members, m ≠ memberAt s l ∧ m ∉ x.g.arrived) →
    ∃ t : State, ∃ g, exec (.leave sw) s = .next t ∧ MemKept s t ∧ Advanced s t true ∧ (t.lane l).group = 0xFFFFFFFF#32 ∧
      look (t.core s.issue.ctx x.vc).groups x.num = some g ∧ g.members = x.g.members.filter (· ≠ memberAt s l) ∧
      (t.lane l).regs = (s.lane l).regs) ∧
  (∀ (s : State) sw l x, Gang s → s.issue.lanes = [l] → s.groupOf s.issue.ctx (memberAt s l) = some x →
    look (s.core s.issue.ctx x.vc).groups x.num = some x.g → (∀ m ∈ x.g.members, m = memberAt s l) → s.halves = [] →
    ∃ t : State, exec (.leave sw) s = .next t ∧ MemKept s t ∧ Advanced s t true ∧ (t.lane l).group = 0xFFFFFFFF#32 ∧
      look (t.core s.issue.ctx x.vc).groups x.num = none ∧ (t.lane l).regs = (s.lane l).regs)

/-- R144: `bar` by a gang that waits for nothing and whose core has no dirty byte in L1. Lanes in no group go on at once. A
lone lane of a group arrives: if a member other than it has not arrived it waits, past the instruction; else the phase
completes (no epoch of another member's core wraps at its acquire), every member that waited goes on, and a new phase is open. -/
def Sys2Proof.Claim.Barriers : Prop :=
  ∀ (s : State) sw, Gang s → Settled s → s.issLine.drains = [] → s.wbHeld = [] → s.halves = [] → (s.issCore).step = none →
    (∀ x ∈ (s.issCore).l1, ∀ b ∈ x.bytes, b.2.2 = false) →
    (Groupless s → ∃ t : State, exec (.bar sw) s = .next t ∧ Advanced s t false ∧ ThreadsKept s t ∧ MemKept s t) ∧
    (∀ l x, s.issue.lanes = [l] → s.groupOf s.issue.ctx (memberAt s l) = some x → look (s.core s.issue.ctx x.vc).groups x.num = some x.g →
      ((∃ m ∈ x.g.members, m ≠ memberAt s l ∧ m ∉ x.g.arrived) →
        ∃ t : State, ∃ g, exec (.bar sw) s = .next t ∧ ThreadsKept s t ∧ (∀ a, t.mem.byte a = s.mem.byte a) ∧ (t.lane l).stat = .bar ∧
          (t.lane l).pos = nextPos (s.lane l) ∧ look (t.core s.issue.ctx x.vc).groups x.num = some g ∧
          g.arrived = x.g.arrived ++ [memberAt s l] ∧ g.members = x.g.members) ∧
      ((∀ m ∈ x.g.members, m = memberAt s l ∨ m ∈ x.g.arrived) →
        (∀ m ∈ x.g.arrived, m.vc ≠ s.issue.vc → ∀ k, k < 8 → s.epochOf s.issue.ctx m.vc k ≠ 63) →
        ∃ t : State, ∃ g, exec (.bar sw) s = .next t ∧ (t.lane l).stat = .run ∧ (t.lane l).pos = nextPos (s.lane l) ∧ (t.lane l).regs = (s.lane l).regs ∧
          look (t.core s.issue.ctx x.vc).groups x.num = some g ∧ g.arrived = [] ∧ g.members = x.g.members ∧
          ∀ m ∈ x.g.arrived, (s.thread ⟨s.issue.ctx, m.vc, m.line, m.lane⟩).stat = .bar →
            (t.thread ⟨s.issue.ctx, m.vc, m.line, m.lane⟩).stat = .run))

/-- R164, R165: `ch.bind` binds the channel to the lowest lane's word with an empty queue, or, if the word is not allowed,
storage lacks or the queue is not empty, raises the channel trap with cause 4; `ch.free` unbinds once no reserved entry waits for
its data, and stalls till then; `ch.cnt` reads the number of entries present. -/
def Sys2Proof.Claim.ChannelBindings : Prop :=
  (∀ (s : State) sw a k, (Instr.chBind sw a k).wf = true → Sound s → Gang s → Clean s [⟨.src, a, 1⟩] →
    let w := BitVec.ofNat 32 (val s (s.issue.lanes.headD 0) a 1)
    let bad := w.toNat / 4 % 2 ^ 17 ≠ 0 ∨ w.toNat / 2 ^ 30 = 3 ∨ 256 < otherDepths s k.toNat + depth w ∨
      ((chan s k.toNat).bound = true ∧ (chan s k.toNat).queue ≠ [])
    (bad → ∃ t : State, exec (.chBind sw a k) s = .next t ∧ MemKept s t ∧ Trapped s t s.issue.lanes s.issue.pos { code := .channel, cause := 4, info := k.toNat }) ∧
    (¬ bad → ∃ t : State, exec (.chBind sw a k) s = .next t ∧ MemKept s t ∧ ThreadsKept s t ∧ Advanced s t sw ∧
      ∀ j, j < 8 → chan t j = if j = k.toNat then { bound := true, word := w, queue := [] } else chan s j)) ∧
  (∀ (s : State) sw k, Sound s → Gang s →
    ((∃ n, QEnt.resv n ∈ (chan s k.toNat).queue) → ∃ t : State, exec (.chFree sw k) s = .next t ∧ ThreadsKept s t ∧ MemKept s t ∧
      t.issLine = s.issLine ∧ ∀ l ∈ s.issue.lanes, (t.lane l).pos = (s.lane l).pos ∧ (t.lane l).stat = (s.lane l).stat) ∧
    ((∀ n, QEnt.resv n ∉ (chan s k.toNat).queue) → ∃ t : State, exec (.chFree sw k) s = .next t ∧ ThreadsKept s t ∧ MemKept s t ∧ Advanced s t sw ∧
      ∀ j, j < 8 → chan t j = if j = k.toNat then { bound := false, word := 0#32, queue := [] } else chan s j)) ∧
  (∀ (s : State) sw d k, (Instr.chCnt sw d k).wf = true → Sound s → Gang s → Clean s [⟨.dst, d, 1⟩] →
    ∃ t : State, exec (.chCnt sw d k) s = .next t ∧ MemKept s t ∧ Advanced s t sw ∧ RegsKept s t ⟨.dst, d, 1⟩ ∧
      Holds s t ⟨.dst, d, 1⟩ (fun _ => ((chan s k.toNat).queue.filter (fun e => match e with | .data _ => true | .resv _ => false)).length))

/-- R71, R166, R167, on `mov.b32`, whose result is its operand. A pop takes one entry for each lane, in ascending order, and
its result is long-latency; a peek leaves them. With too few entries, or a reserved one among them, the gang waits. A push
reserves its entries at the peer, and its data fills them when it arrives. An unbound channel raises the channel trap with
cause 1, an absent peer with cause 2, more lanes than the depth with cause 3. -/
def Sys2Proof.Claim.ChannelQueues : Prop :=
  (∀ (s : State) sw d a k ws, (regName a = .ch k ∨ regName a = .pk k) → Gang s → Clean s [⟨.dst, d, 1⟩] → (chan s k).bound = true →
    ws.length = s.issue.lanes.length → ws.length ≤ depth (chan s k).word → Begins (chan s k).queue ws → k < 8 → Sound s →
    ∃ t : State, ∃ r, exec (.movB32 sw d a) s = .next t ∧ Advanced s t sw ∧ MemKept s t ∧ Adds s t [.longLatencyReturn r] ∧
      (∀ l ∈ s.issue.lanes, (t.lane l).regs = (s.lane l).regs) ∧
      (chan t k).queue = (if regName a = .ch k then (chan s k).queue.drop ws.length else (chan s k).queue) ∧
      ∃ u : State, exec (.longLatencyReturn r) t = .next u ∧ RegsKept s u ⟨.dst, d, 1⟩ ∧
        Holds s u ⟨.dst, d, 1⟩ (fun l => (ws.getD (s.issue.lanes.idxOf l) 0#32).toNat)) ∧
  (∀ (s : State) sw d a k, (regName a = .ch k ∨ regName a = .pk k) → Gang s → Clean s [⟨.dst, d, 1⟩] → (chan s k).bound = true →
    s.issue.lanes.length ≤ depth (chan s k).word → (∀ ws, ws.length = s.issue.lanes.length → ¬ Begins (chan s k).queue ws) →
    ∃ t : State, exec (.movB32 sw d a) s = .next t ∧ ThreadsKept s t ∧ MemKept s t ∧ t.lines = s.lines ∧
      ∀ l ∈ s.issue.lanes, (t.lane l).pos = (s.lane l).pos ∧ (t.lane l).chanWait = true) ∧
  (∀ (s : State) sw d a k j, regName d = .ch k → k < 8 → j < 8 → Sound s → Gang s → Clean s [⟨.src, a, 1⟩] → (chan s k).bound = true →
    (chan s k).word.toNat / 2 ^ 30 = 0 → (chan s k).word.toNat / 2 ^ 19 % 8 = j → (chan s j).bound = true →
    (look s.lines ⟨s.issue.ctx, s.issue.vc, s.issue.line⟩).isSome →
    s.issue.lanes.length ≤ depth (chan s j).word → (chan s j).queue.length + s.issue.lanes.length ≤ depth (chan s j).word →
    (∀ e ∈ (chan s j).queue, e ≠ .resv s.serial) →
    ∃ t : State, ∃ p, exec (.movB32 sw d a) s = .next t ∧ MemKept s t ∧ ThreadsKept s t ∧ (∀ l ∈ s.issue.lanes, (t.lane l).pos = nextPos (s.lane l)) ∧ Adds s t [.channelPushArrive p] ∧
      (chan t j).queue = (chan s j).queue ++ List.replicate s.issue.lanes.length (.resv s.serial) ∧
      ∃ u : State, exec (.channelPushArrive p) t = .next u ∧
        (chan u j).queue = (chan s j).queue ++ s.issue.lanes.map (fun l => .data (BitVec.ofNat 32 (val s l a 1)))) ∧
  (∀ (s : State) sw d a k, (regName a = .ch k ∨ regName a = .pk k) → Gang s → Clean s [⟨.dst, d, 1⟩] →
    ((chan s k).bound = false → ∃ t : State, exec (.movB32 sw d a) s = .next t ∧ MemKept s t ∧
      Trapped s t s.issue.lanes s.issue.pos { code := .channel, cause := 1, info := k }) ∧
    ((chan s k).bound = true → depth (chan s k).word < s.issue.lanes.length → ∃ t : State, exec (.movB32 sw d a) s = .next t ∧ MemKept s t ∧
      Trapped s t s.issue.lanes s.issue.pos { code := .channel, cause := 3, info := k })) ∧
  (∀ (s : State) sw d a k, regName d = .ch k → Gang s → Clean s [⟨.src, a, 1⟩] → (chan s k).bound = true →
    s.peerOf s.issue.ctx s.issue.vc s.issue.line (chan s k).word = none →
    ∃ t : State, exec (.movB32 sw d a) s = .next t ∧ MemKept s t ∧ Trapped s t s.issue.lanes s.issue.pos { code := .channel, cause := 2, info := k })

/-- Groups and barriers: GroupCreation, JoinAndLeave, Barriers (stated above). What it says of points that the spec leaves
open is the model's choice: notes/assumptions/45, 94, 109. -/
def Obligations.Groups : Prop :=
  Claim.GroupCreation ∧ Claim.JoinAndLeave ∧ Claim.Barriers

/-- Channels: bindings, pops, peeks, pushes: ChannelBindings, ChannelQueues (stated above). What it says of points that
the spec leaves open is the model's choice: notes/assumptions/91. -/
def Obligations.Channels : Prop :=
  Claim.ChannelBindings ∧ Claim.ChannelQueues
/-! ## The saltern -/

namespace Sys2Proof.Claim
open Sys2Proof Sys2Proof.Machine

/-- A long-latency result after other actions of the same issue. -/
def ReturnsAfter (s t : State) (mid : List Instr) (o : OpSpec) (f : Nat → Nat) : Prop :=
  (∀ l ∈ s.issue.lanes, (t.lane l).regs = (s.lane l).regs ∧ (t.lane l).fst = (s.lane l).fst) ∧ t.issLine.g = s.issLine.g ∧
  ∃ r, t.agenda = s.agenda ++ mid ++ [.longLatencyReturn r] ∧ (∀ l ∈ s.issue.lanes, t.outstanding (at' s l) = true) ∧
    ∃ u : State, exec (.longLatencyReturn r) t = .next u ∧ Holds s u o f ∧ RegsKept s u o

/-- The status word of the slot instructions (R187): code, state, flags. -/
def statusWord (code st fl : Nat) : Nat := code * 2 ^ 24 + st * 2 ^ 20 + fl
def stateNumber : SState → Nat
  | .free => 0
  | .opened => 1
  | .closing => 2
  | .final => 3

/-- Slot n of the issuing context, and the level of its trees' roots: the least k with N ≤ 2^k (R61). -/
def slotAt (s : State) (n : Nat) : Slot := s.slotOf s.issue.ctx n
def rootOf (d : BitVec 512) : Nat := Nat.clog 2 (sdExt d)

/-- A lane's `ctb` names a leaf of an open value slot whose format it suits (R189). -/
abbrev LeafOk (s : State) (n F i : Nat) : Prop :=
  let x := slotAt s n
  x.state = .opened ∧ sdMode x.desc = false ∧ suits F (sdFmt x.desc) = true ∧ (descParms x.desc).isSome ∧
    i < 2 ^ 48 ∧ i / 2 ^ rootOf x.desc < sdTrees x.desc ∧ i % 2 ^ rootOf x.desc < sdExt x.desc

/-- The partial that a leaf is. -/
def leafPartial (s : State) (n F i val addr : Nat) : Partial :=
  { ctx := s.issue.ctx, slot := n, level := 0, index := i, val := BitVec.ofNat 64 (leafOf F (sdFmt (slotAt s n).desc) val).1
    flags := (leafOf F (sdFmt (slotAt s n).desc) val).2, addr := addr }

/-- Why a lane's contribute traps at its slot (R195): not open, wrong mode, wrong format. -/
def slotCause (x : Slot) (F : Nat) (keyed exact : Bool) : Nat :=
  if x.state ≠ .opened then 1 else if sdMode x.desc ≠ keyed then 3
  else if (if exact then F ≠ sdFmt x.desc else suits F (sdFmt x.desc) = false) then 2 else 0

/-- The tables of the context's slots differ at one slot only, which is given. -/
def SlotIs (s t : State) (c n : Nat) (x : Slot) : Prop :=
  t.slotOf c n = x ∧ (∀ m, m ≠ n → t.slotOf c m = s.slotOf c m) ∧ (∀ k m, k ≠ c → t.slotOf k m = s.slotOf k m)

/-- Watchpoint hits of a read of a slot's brine region, which no probe makes while no partial is spilled (R216, R255). -/
def ProbeHits (s : State) (p : Partial) (hits : List Instr) : Prop :=
  (∀ x ∈ hits, ∃ h, x = .watchpointHit h) ∧ ((s.slotOf p.ctx p.slot).spilled = [] → hits = [])

/-- Actions in flight that belong to a slot: its partials and leaves, their hold times, its markers, its resolution and end. -/
def ofSlot (c n : Nat) : Instr → Bool
  | .partialArrive _ p | .ctbmLeafArrive p | .panHoldExpiry _ p => inSlot c n p
  | .closeMarkerArrive x y _ | .slotResolve x y | .slotFinal x y => x == c && y == n
  | _ => false
/-- None of a slot's partials is on its way. -/
abbrev NoneComing (s : State) (c n : Nat) : Prop := ∀ i p, Instr.partialArrive i p ∈ s.agenda → inSlot c n p = false

/-- A slot's partial at a place where nothing stands in its way: its slot's trees are known, none failed, none of its label or
sibling is in the pan or in the brine region. -/
abbrev Alone (s : State) (i : PanId) (p : Partial) : Prop :=
  (∀ q ∈ s.pan i, sameLabel p q = false ∧ siblings p q = false) ∧ (∀ e ∈ s.liveBrine p.ctx p.slot, siblings p e.2 = false)

end Sys2Proof.Claim

open Sys2Proof Sys2Proof.Machine Sys2Proof.Claim

/-- R61, R63: the tree over leaves is the tree over the first half combined with the tree over the second. For integer sums
the root is the sum of the leaves that are there, modulo 2^w; without leaves there is none. -/
def Sys2Proof.Claim.ReductionTrees : Prop :=
  (∀ op acc k (ls : List Node), ls.length = 2 ^ (k + 1) →
    treeRoot op acc (k + 1) ls = join2 op acc (treeRoot op acc k (ls.take (2 ^ k))) (treeRoot op acc k (ls.drop (2 ^ k)))) ∧
  (∀ sgn w k (xs : List (Option Nat)), xs.length = 2 ^ k → (∀ x ∈ xs, ∀ v, x = some v → v < 2 ^ w) →
    treeRoot .add (.int sgn w) k (xs.map (fun x => x.map (fun v => (v, 0#5)))) =
      if xs.all Option.isNone then none else some ((xs.map (·.getD 0)).sum % 2 ^ w, 0#5))

/-- R66: the pieces that a range of leaves decomposes into are aligned nodes that cover it exactly, in order. -/
def Sys2Proof.Claim.Decomposition : Prop :=
  ∀ a b fuel, a ≤ b → b ≤ 2 ^ 48 → 128 ≤ fuel →
    (decompose fuel a b).flatMap (fun p => (List.range (2 ^ p.1)).map (fun j => p.2 * 2 ^ p.1 + j)) = (List.range (b - a)).map (a + ·)

/-- R189 to R191, R195: contributes. Where every lane names a place of an open slot of its kind, each lane's leaf or node sets
out from the core (`ctb`, `ctbn`), or goes to its home (`ctbm`, of a lone lane); no register and no memory changes. A lone lane
whose index lies outside the trees only records code 5; one whose slot is not open, or of the other mode, or whose format does
not suit, takes the slot trap with cause 1, 3 or 2 and the slot's number. -/
def Sys2Proof.Claim.Contributes : Prop :=
  (∀ (s : State) sw d a b f, (Instr.ctb sw d a b f).wf = true → Sound s → Gang s → Clean s (Instr.ctb sw d a b f).ops → Unheld s →
    let slot (l : Nat) := val s l b 1 % 256
    ((∀ l ∈ s.issue.lanes, LeafOk s (slot l) f.toNat (val s l a 2)) →
      ∃ t : State, exec (.ctb sw d a b f) s = .next t ∧ Advanced s t sw ∧ ThreadsKept s t ∧ MemKept s t ∧ t.ctxs = s.ctxs ∧
        t.agenda = s.agenda ++ s.issue.lanes.map (fun l => .partialArrive (.core s.issue.ctx s.issue.vc)
          (leafPartial s (slot l) f.toNat (val s l a 2) (val s l d (fmtWords f)) 0))) ∧
    (∀ l, s.issue.lanes = [l] → slotCause (slotAt s (slot l)) f.toNat false false ≠ 0 →
      ∃ t : State, exec (.ctb sw d a b f) s = .next t ∧ MemKept s t ∧
        Trapped s t [l] s.issue.pos { code := .slot, cause := slotCause (slotAt s (slot l)) f.toNat false false, info := slot l }) ∧
    (∀ l, s.issue.lanes = [l] → slotCause (slotAt s (slot l)) f.toNat false false = 0 → (descParms (slotAt s (slot l)).desc).isSome →
      (s.ctx? s.issue.ctx).isSome → ¬ LeafOk s (slot l) f.toNat (val s l a 2) →
      ∃ t : State, exec (.ctb sw d a b f) s = .next t ∧ Advanced s t sw ∧ ThreadsKept s t ∧ MemKept s t ∧ t.agenda = s.agenda ∧
        SlotIs s t s.issue.ctx (slot l) { slotAt s (slot l) with code := max (slotAt s (slot l)).code 5 })) ∧
  (∀ (s : State) sw d a f l, (Instr.ctbn sw d a f).wf = true → Sound s → Gang s → Clean s (Instr.ctbn sw d a f).ops → Unheld s → s.issue.lanes = [l] →
    let lab := val s l a 2
    let x := slotAt s (lab / 2 ^ 56)
    let L := lab / 2 ^ 50 % 2 ^ 6
    let i := lab % 2 ^ 50
    (slotCause x f.toNat false true ≠ 0 → ∃ t : State, exec (.ctbn sw d a f) s = .next t ∧ MemKept s t ∧
      Trapped s t [l] s.issue.pos { code := .slot, cause := slotCause x f.toNat false true, info := lab / 2 ^ 56 }) ∧
    (slotCause x f.toNat false true = 0 → (descParms x.desc).isSome → L ≤ rootOf x.desc → i < sdTrees x.desc * 2 ^ (rootOf x.desc - L) →
      (i % 2 ^ (rootOf x.desc - L)) * 2 ^ L < sdExt x.desc →
      ∃ t : State, exec (.ctbn sw d a f) s = .next t ∧ Advanced s t sw ∧ ThreadsKept s t ∧ MemKept s t ∧ t.ctxs = s.ctxs ∧
        Adds s t [.partialArrive (.core s.issue.ctx s.issue.vc)
          { ctx := s.issue.ctx, slot := lab / 2 ^ 56, level := L, index := i
            val := BitVec.ofNat 64 (nodeValue (sdFmt x.desc) (val s l d (fmtWords f))).1
            flags := (nodeValue (sdFmt x.desc) (val s l d (fmtWords f))).2 }])) ∧
  (∀ (s : State) sw d a b f l sp, (Instr.ctbm sw d a b f).wf = true → Sound s → Gang s → Clean s (Instr.ctbm sw d a b f).ops → Unheld s → s.issue.lanes = [l] →
    let slot := val s l b 1 / 2 ^ 24
    let i := val s l b 1 % 2 ^ 24
    let x := slotAt s slot
    let w := accBytes (sdFmt x.desc)
    slotCause x f.toNat true false = 0 → (descParms x.desc).isSome → val s l a 2 % w = 0 → i < sdExt x.desc →
    Maps s (val s l a 2) w false true sp → sp.len = w → GlobalFree s sp true → OneLine sp.ia w →
    Opens s sp.ia false true false →
    ∃ t : State, exec (.ctbm sw d a b f) s = .next t ∧ Advanced s t sw ∧ ThreadsKept s t ∧ MemKept s t ∧
      Adds s t [.ctbmLeafArrive (leafPartial s slot f.toNat i (val s l d (fmtWords f)) sp.ia)])

/-- R251, R252, R192: at a pan that is the apex of its slot's trees, a partial that meets nobody is held there while there is
room, after a probe of the brine region if a partial is spilled there; one whose sibling is there combines with it, the left of the two first, and a root stays; one whose own label is there
ends both and records code 6. So it is at the memory-side unit that is home to a `ctbm` leaf. A partial that is held below the apex moves on when its hold time ends. One whose sibling is uncorrectable ends the slot with the
machine check (R265), at an address that the spec leaves open. -/
def Sys2Proof.Claim.PartialsMeet : Prop :=
  (∀ (s : State) i p tp, s.panAway i = false → (∀ c v, i ≠ .core c v) → (∀ b, i ≠ .msu b) → (∀ b, i ≠ .port b) → p.coll = none → s.treeParms p = some tp →
    (s.slotOf p.ctx p.slot).apex = i → i ∉ (s.slotOf p.ctx p.slot).exhausted → (s.slotOf p.ctx p.slot).check = none → s.brineWaits i p = false →
    (tp.op ≠ .add ∨ (tp.fmt ≠ 0 ∧ tp.fmt ≠ 9)) →
    (Alone s i p → p.level < tp.k → beyond tp p.level (p.index ^^^ 1) = false → (s.loose i p).length < s.panCapacity i →
      ∃ t : State, ∃ hits, exec (.partialArrive i p) s = .next t ∧ t.pan i = s.pan i ++ [p] ∧ ProbeHits s p hits ∧ t.agenda = s.agenda ++ hits ∧
        t.ctxs = s.ctxs ∧ t.mem = s.mem) ∧
    (∀ q, q ∈ s.pan i → (∀ r ∈ s.pan i, sameLabel p r = false ∧ (siblings p r = true → r = q)) → siblings p q = true → p.level + 1 = tp.k →
      (i, q) ∉ s.badPans → (∀ r ∈ s.pan i, r.level ≠ tp.k ∨ sameTree r p = false) →
      let l := if p.index % 2 = 0 then p else q
      let r := if p.index % 2 = 0 then q else p
      let c := combine tp.op tp.acc l.val.toNat r.val.toNat
      ∃ t : State, exec (.partialArrive i p) s = .next t ∧ t.agenda = s.agenda ∧ t.ctxs = s.ctxs ∧ t.mem = s.mem ∧
        t.pan i = (s.pan i).filter (· ≠ q) ++
          [{ l with level := p.level + 1, index := p.index / 2, val := BitVec.ofNat 64 c.1, flags := c.2 ||| l.flags ||| r.flags, cls := max l.cls r.cls }]) ∧
    (∀ q, q ∈ s.pan i → sameLabel p q = true → (∀ r ∈ s.pan i, sameLabel p r = true → r = q) → (s.ctx? p.ctx).isSome →
      ∃ t : State, exec (.partialArrive i p) s = .next t ∧ t.agenda = s.agenda ∧ t.mem = s.mem ∧ t.pan i = (s.pan i).filter (· ≠ q) ∧
        SlotIs s t p.ctx p.slot { s.slotOf p.ctx p.slot with code := max (s.slotOf p.ctx p.slot).code 6 }) ∧
    (∀ q, q ∈ s.pan i → (∀ r ∈ s.pan i, sameLabel p r = false ∧ (siblings p r = true → r = q)) → siblings p q = true → p.level < tp.k →
      (i, q) ∈ s.badPans → (s.ctx? p.ctx).isSome → ((s.slotOf p.ctx p.slot).state = .opened ∨ (s.slotOf p.ctx p.slot).state = .closing) → ∃ t : State, ∃ x, exec (.partialArrive i p) s = .next t ∧ Adds s t [.slotFinal p.ctx p.slot] ∧
        t.mem = s.mem ∧ SlotIs s t p.ctx p.slot { s.slotOf p.ctx p.slot with check := some (.machine x) })) ∧
  (∀ (s : State) i p j, s.panAway i = false → s.nextHop i p = .pan j →
    (p ∈ s.pan i → (∀ tp, s.treeParms p = some tp → p.level < tp.k) → (i, p) ∉ s.badPans → ∃ t : State, exec (.panHoldExpiry i p) s = .next t ∧ t.pan i = (s.pan i).filter (· ≠ p) ∧ Adds s t [.partialArrive j p] ∧
      t.mem = s.mem ∧ t.ctxs = s.ctxs) ∧
    (p ∉ s.pan i → exec (.panHoldExpiry i p) s = .next s)) ∧
  (∀ (s : State) p tp L e t0, s.walk p.ctx p.addr = .ok (L, e) → s.touchL2 p.ctx (peVc e) (leafPa L e p.addr) [] false = some t0 →
    t0.rehome p.ctx = t0 → p.coll = none → s.treeParms p = some tp →
    let i := PanId.msu (t0.homeBank p.ctx p.addr)
    i ∉ (s.slotOf p.ctx p.slot).exhausted → (s.slotOf p.ctx p.slot).check = none → p.level < tp.k → beyond tp p.level (p.index ^^^ 1) = false →
    t0.brineWaits i p = false → Alone s i p → (s.loose i p).length < 16 →
      ∃ t : State, ∃ hits, exec (.ctbmLeafArrive p) s = .next t ∧ t.pan i = s.pan i ++ [p] ∧ ProbeHits s p hits ∧ t.agenda = s.agenda ++ hits ∧
        t.ctxs = t0.ctxs ∧ t.mem = s.mem)

/-- R187, R188, R192, R193: the slot instructions answer every lane with a status word. `slot.open` of a slot in use answers
code 1 with its state, at an address that is no multiple of 64 code 2; `slot.close` of a slot that is not open code 7; of an open
value slot it makes it closing and sends a marker from each core of the context. `slot.wait` on a closing slot waits; on a free
or open one answers code 7. `slot.stat` answers the state, with the code recorded so far, or the final status, unless software has touched the brine region
(R258), where the word is open. -/
def Sys2Proof.Claim.SlotInstructions : Prop :=
  (∀ (s : State) sw d a b, (Instr.slotOpen sw d a b).wf = true → Sound s → Gang s → Clean s (Instr.slotOpen sw d a b).ops →
    let n := val s (s.issue.lanes.headD 0) b 1 % 256
    let va := val s (s.issue.lanes.headD 0) a 2
    ((slotAt s n).state ≠ .free → ∃ t : State, exec (.slotOpen sw d a b) s = .next t ∧ MemKept s t ∧ t.ctxs = s.ctxs ∧ Advanced s t sw ∧
      ReturnsAfter s t [] ⟨.dst, d, 1⟩ (fun _ => statusWord 1 (stateNumber (slotAt s n).state) 0)) ∧
    ((slotAt s n).state = .free → va % 64 ≠ 0 → ∃ t : State, exec (.slotOpen sw d a b) s = .next t ∧ MemKept s t ∧ t.ctxs = s.ctxs ∧ Advanced s t sw ∧
      ReturnsAfter s t [] ⟨.dst, d, 1⟩ (fun _ => statusWord 2 0 0)) ∧
    (∀ sp bs, (slotAt s n).state = .free → va % 64 = 0 → Unheld s → Maps s va 64 true false sp → sp.attr ≠ 2 → sp.len = 64 → GlobalFree s sp false →
      l1Bytes s sp.ia 64 = some bs → (s.ctx? s.issue.ctx).isSome →
      let r := BitVec.ofNat 512 (number bs)
      sdRefused r = false → sdBrsz r = 0 → (sdMode r = false → (s.mapVa s.issue.ctx (sdDest r) (sdTrees r * accBytes (sdFmt r)) false true).isSome) →
      ∃ t : State, exec (.slotOpen sw d a b) s = .next t ∧ Advanced s t sw ∧ (slotAt t n).state = .opened ∧ (slotAt t n).desc = r ∧
        (slotAt t n).code = 0 ∧ (slotAt t n).serial = (if (slotAt s n).serial = 0xFFFF then 1 else (slotAt s n).serial + 1) ∧
        (∀ a, t.mem.byte a = s.mem.byte a) ∧ ReturnsAfter s t [] ⟨.dst, d, 1⟩ (fun _ => statusWord 0 1 0))) ∧
  (∀ (s : State) sw d b, (Instr.slotClose sw d b).wf = true → Sound s → Gang s → Clean s (Instr.slotClose sw d b).ops →
    let n := val s (s.issue.lanes.headD 0) b 1 % 256
    ((slotAt s n).state ≠ .opened → ∃ t : State, exec (.slotClose sw d b) s = .next t ∧ MemKept s t ∧ t.ctxs = s.ctxs ∧ Advanced s t sw ∧
      ReturnsAfter s t [] ⟨.dst, d, 1⟩ (fun _ => statusWord 7 (stateNumber (slotAt s n).state) 0)) ∧
    ((slotAt s n).state = .opened → sdMode (slotAt s n).desc = false → 0 < (s.issCtx).n → (s.ctx? s.issue.ctx).isSome →
      ∃ t : State, exec (.slotClose sw d b) s = .next t ∧ MemKept s t ∧ Advanced s t sw ∧
        SlotIs s t s.issue.ctx n { slotAt s n with state := .closing, markers := 0, expect := (s.issCtx).n } ∧
        ReturnsAfter s t ((List.range (s.issCtx).n).map (fun v => .closeMarkerArrive s.issue.ctx n (.core s.issue.ctx v)))
          ⟨.dst, d, 1⟩ (fun _ => statusWord 0 2 0))) ∧
  (∀ (s : State) sw d b, (Instr.slotWait sw d b).wf = true → Sound s → Gang s → Clean s (Instr.slotWait sw d b).ops →
    let n := val s (s.issue.lanes.headD 0) b 1 % 256
    ((slotAt s n).state = .free ∨ (slotAt s n).state = .opened → ∃ t : State, exec (.slotWait sw d b) s = .next t ∧ MemKept s t ∧ t.ctxs = s.ctxs ∧ Advanced s t sw ∧
      ReturnsAfter s t [] ⟨.dst, d, 1⟩ (fun _ => statusWord 7 (stateNumber (slotAt s n).state) 0)) ∧
    ((slotAt s n).state = .closing → ∃ t : State, ∃ w, exec (.slotWait sw d b) s = .next t ∧ MemKept s t ∧ t.ctxs = s.ctxs ∧ Advanced s t sw ∧ ThreadsKept s t ∧
      t.agenda = s.agenda ∧ t.waits = s.waits ++ [w] ∧ w.on = .slot s.issue.ctx n ∧ w.reply.lanes = s.issue.lanes ∧
      ∀ l ∈ s.issue.lanes, t.outstanding (at' s l) = true)) ∧
  (∀ (s : State) sw d b, (Instr.slotStat sw d b).wf = true → Sound s → Gang s → Clean s (Instr.slotStat sw d b).ops →
    let x := slotAt s (val s (s.issue.lanes.headD 0) b 1 % 256)
    ∃ t : State, ∃ w, exec (.slotStat sw d b) s = .next t ∧ MemKept s t ∧ t.ctxs = s.ctxs ∧ Advanced s t sw ∧ ReturnsAfter s t [] ⟨.dst, d, 1⟩ (fun _ => w) ∧
      (x.tainted = false → w = match x.state with
        | .free => statusWord 0 0 0
        | .final => if x.code = 0 then statusWord (if x.incomplete then 3 else 0) 3 x.flags.toNat
            else statusWord x.code 3 (if x.code = 3 then x.flags.toNat else 0)
        | st => statusWord x.code (stateNumber st) 0))

/-- R262 to R264, R193: a close marker that reaches its apex, with no partial of its slot on its way, is counted, the last one asks for
resolution; one at a gateway below a die's apex passes on; one behind a partial of its slot that is on its way there waits. A slot of one value tree that has nothing but its root left, an integer, has it written at its
destination, and nothing else, if the page allows it; then it is final. A final slot answers the waits for it and is free. -/
def Sys2Proof.Claim.SlotsResolve : Prop :=
  (∀ (s : State) c n i, (s.ctx? c).isSome → (s.slotOf c n).state = .closing → s.panAway i = false → (s.slotOf c n).apex = i → (∀ b, i ≠ .msu b) → NoneComing s c n →
    ∃ t : State, exec (.closeMarkerArrive c n i) s = .next t ∧ t.mem = s.mem ∧
      SlotIs s t c n { s.slotOf c n with markers := (s.slotOf c n).markers + 1 } ∧
      Adds s t (if (s.slotOf c n).markers + 1 = (s.slotOf c n).expect then [.slotResolve c n] else [])) ∧
  (∀ (s : State) c n q d, (s.slotOf c n).state = .closing → (s.slotOf c n).apex = .hubEnd d → (∀ p ∈ s.pan (.gateway q), inSlot c n p = false) → NoneComing s c n →
    ∃ t : State, exec (.closeMarkerArrive c n (.gateway q)) s = .next t ∧ Adds s t [.closeMarkerArrive c n (.hubEnd d)] ∧
      t.mem = s.mem ∧ t.ctxs = s.ctxs) ∧
  (∀ (s : State) c n p sgn w sp, (s.ctx? c).isSome → (s.slotOf c n).state = .closing → (s.slotOf c n).check = none → (s.slotOf c n).code = 0 →
    (s.slotOf c n).tainted = false →
    (s.slotOf c n).spilled = [] → sdMode (s.slotOf c n).desc = false → sdTrees (s.slotOf c n).desc = 1 → sdOp (s.slotOf c n).desc = 0 →
    accOf (sdFmt (s.slotOf c n).desc) = some (.int sgn w) → s.partialsAfoot c n = false → (s.roots.filter (inSlot c n)) = [] →
    (s.pans.flatMap (fun e => e.2.filter (inSlot c n))) = [p] → p.level = rootOf (s.slotOf c n).desc → p.index = 0 →
    (∀ e ∈ s.badPans, inSlot c n e.2 = false) →
    s.mapVa c (sdDest (s.slotOf c n).desc) (accBytes (sdFmt (s.slotOf c n).desc)) false true = some [sp] →
    sp.len = accBytes (sdFmt (s.slotOf c n).desc) → OneLine sp.ia sp.len → (∃ r, s.openPage c sp.ia false true = .ok r) → (s.ctx c).ckpt.cut = none → s.halves = [] →
    ∃ t : State, ∃ hits, exec (.slotResolve c n) s = .next t ∧ (∀ x ∈ hits, ∃ h, x = .watchpointHit h) ∧ t.agenda = s.agenda.filter (fun x => !ofSlot c n x) ++ hits ++ [.slotFinal c n] ∧
      (∀ k, k < sp.len → t.mem.byte (s.paOf c (sp.ia + k)) = byteOf p.val.toNat k) ∧
      (∀ pa, (∀ k, k < sp.len → pa ≠ s.paOf c (sp.ia + k)) → t.mem.byte pa = s.mem.byte pa) ∧
      (t.slotOf c n).code = 0 ∧ (t.slotOf c n).incomplete = false ∧ (t.slotOf c n).flags = p.flags ∧
      (∀ e ∈ t.pans, ∀ q ∈ e.2, inSlot c n q = false) ∧ t.threads = s.threads) ∧
  (∀ (s : State) c n, (s.ctx? c).isSome → (s.slotOf c n).spilled = [] → s.partialsAfoot c n = false → (∀ w ∈ s.waits, w.on ≠ .slot c n) →
    ∃ t : State, exec (.slotFinal c n) s = .next t ∧ SlotIs s t c n { s.slotOf c n with state := .final } ∧ t.mem = s.mem ∧ t.threads = s.threads ∧ t.agenda = s.agenda.filter (fun x => !ofSlot c n x)) ∧
  (∀ (s : State) c n w, (s.ctx? c).isSome → (s.slotOf c n).spilled = [] → s.partialsAfoot c n = false → s.wbHeld = [] → s.waits.filter (fun w => w.on == .slot c n) = [w] → (s.slotOf c n).check = none → (s.slotOf c n).code = 0 →
    (s.slotOf c n).incomplete = false → (s.slotOf c n).tainted = false → (∀ x ∈ (s.core w.reply.ctx w.reply.vc).l1, ∀ b ∈ x.bytes, b.2.2 = false) →
    ∃ t : State, exec (.slotFinal c n) s = .next t ∧ (t.slotOf c n).state = .free ∧ t.mem = s.mem ∧ t.threads = s.threads ∧
      t.agenda = s.agenda.filter (fun x => !ofSlot c n x) ++ [.longLatencyReturn (replyResult w.reply (w.reply.lanes.map (fun l =>
        (l, [BitVec.ofNat 32 (statusWord 0 3 (s.slotOf c n).flags.toNat)], 0#5))))]) ∧
  (∀ (s : State) c n i p, (s.slotOf c n).state = .closing → .partialArrive i p ∈ s.agenda → inSlot c n p = true →
    ∃ t : State, exec (.closeMarkerArrive c n i) s = .next t ∧ Adds s t [.closeMarkerArrive c n i] ∧ t.ctxs = s.ctxs ∧ t.pans = s.pans ∧ t.mem = s.mem)

/-- Reduction trees and the decomposition of ranges: ReductionTrees, Decomposition (stated above). -/
def Obligations.SummationTrees : Prop :=
  Claim.ReductionTrees ∧ Claim.Decomposition

/-- Contributions set out, partials meet: Contributes, PartialsMeet (stated above). What it says of points that the spec
leaves open is the model's choice: notes/assumptions/10, 25. -/
def Obligations.Contributions : Prop :=
  Claim.Contributes ∧ Claim.PartialsMeet

/-- Slots open, close, resolve and answer: SlotInstructions, SlotsResolve (stated above). What it says of points that the
spec leaves open is the model's choice: notes/assumptions/17, 23, 96, 101, 118. -/
def Obligations.Slots : Prop :=
  Claim.SlotInstructions ∧ Claim.SlotsResolve
/-! ## The matrix unit -/

namespace Sys2Proof.Claim
open Sys2Proof Sys2Proof.Machine

/-- Every lane of the gang is in one quarter of its line (R18). -/
abbrev OneQuarter (s : State) (q : Nat) : Prop := q < 4 ∧ ∀ l ∈ s.issue.lanes, l / 8 = q

/-- A reservation of the issuing core under a number. -/
def oprAt (s : State) (n : Nat) : Option Opr := look (s.issCore).oprs n

/-- The 32 bytes of a record in the scratchpad, as a number. -/
def recordAt (s : State) (a : Nat) : BitVec 256 :=
  BitVec.ofNat 256 (number ((List.range 32).map (fun k => (s.issCore).scratch.byte (a + k))))

/-- A lane may use a reservation: it is defined, and its group owns it (R172). -/
abbrev Owns (s : State) (l n : Nat) (r : BitVec 256) : Prop :=
  ∃ o, oprAt s n = some o ∧ o.recd = r ∧ o.group = (s.lane l).group ∧ o.group ≠ 0xFFFFFFFF#32

/-- Nothing in flight touches scratchpad bytes (R149), and none is uncorrectable (R151). -/
abbrev ScratchFree (s : State) (as : List Nat) (store : Bool) : Prop :=
  s.boardWaits s.issue.ctx s.issue.vc .c (as.map (fun a => (a, a))) store = false ∧ ∀ a ∈ as, Correct s 0 .c a 1

/-- The queue of a quarter's engine on the issuing core. -/
def queueOf (s : State) (q : Nat) : List Pass := s.queue s.issue.ctx s.issue.vc q
/-- The rows of a quarter's tile of the issuing line stand in the engine's store, which has room for `more` of them beside what it
and other tiles need for the passes queued (R328), and has no error in the line's tiles (R393). -/
abbrev RowsFit (s : State) (q n more : Nat) : Prop :=
  s.issLine.tileAway = [] ∧
  (((s.tilesIn s.issue.ctx s.issue.vc q).filter (fun t => !(t.1 == s.issue.line && t.2.1 == 16 * q + n))).map (fun t => t.2.2)).sum +
    max (s.rowsAfter s.issue.ctx s.issue.vc s.issue.line q n) ((s.shapeAfter s.issue.ctx s.issue.vc s.issue.line q n).rows + more) ≤ 32 ∧
  ∀ e ∈ s.badStores, ∀ k, e.1 ≠ .tile s.issue.ctx s.issue.vc s.issue.line k
/-- Scratchpad bytes of a core that are correct, without a symbol to correct (R390). -/
abbrev ReadsClean (s : State) (c v : Nat) (as : List Nat) : Prop :=
  ∀ a ∈ as, ¬ Lost s ⟨.c, (c, v), a⟩ ∧ ∀ z, s.symOf ⟨.c, (c, v), a⟩ = some z → s.wrongSyms z.grp z.word = []
/-- No drain of the issuing line stands in a quarter's queue, which has room. -/
abbrev NoDrain (s : State) (q : Nat) : Prop :=
  (queueOf s q).length < 8 ∧ ∀ l n f L ls pos se sd, Pass.drain l n f L ls pos se sd ∈ queueOf s q → l ≠ s.issue.line
/-- What a drain of a tile gives its quarter's sequencer, and the flags that its lanes gain (R183 to R185). -/
def drained (t : Tile) (f L : Nat) (lanes : List Nat) (pos : Pos) (se sd : List Span) : DrainSeq :=
  { lanes := lanes, pos := pos
    writes := drainChunks se (packElems (drainBits f) (drainValues t f L).1) ++ drainChunks sd (drainValues t f L).2.1 }
def drainFlags (t : Tile) (f L : Nat) : Flags := t.flags ||| (drainValues t f L).2.2

/-- The node of the summation tree over chunks 0 to C - 1 that stands `d` levels above them at index i (R61, R178). -/
def chunkTree (acc : Acc) (C : Nat) (nodes : Nat → List DWord) : Nat → Nat → Option (List DWord)
  | 0, i => if i < C then some (nodes i) else none
  | d + 1, i =>
    match chunkTree acc C nodes d (2 * i), chunkTree acc C nodes d (2 * i + 1) with
    | some x, some y => some (combineCells acc x y).1
    | some x, none => some x
    | none, some y => some y
    | none, none => none

/-- What a reservation keeps of an element (R174): its top significand positions, or all of an integer. -/
def kept (r : BitVec 256) (x : Nat) : Nat :=
  match rsFmt r with
  | some F => x % 2 ^ F.width / 2 ^ (F.m + 1 - rsPlanes r) * 2 ^ (F.m + 1 - rsPlanes r)
  | none => x % 256

end Sys2Proof.Claim

open Sys2Proof Sys2Proof.Machine Sys2Proof.Claim

/-- R170, R172, R173, R169: reservations, by a gang of one quarter. `opr.def` takes the record at its address for the lowest
lane's group if that is aligned, in bounds, valid and clear of the others; without a group cause 1, for a bad address or record
cause 2, a taken number or overlap cause 3, the lowest that holds. `opr.rel` gives up the group's own reservation, of another group's it traps with
cause 1, and waits while a queued pass names it. `opr.qry` reads the record's first word, or ones. -/
def Sys2Proof.Claim.Reservations : Prop :=
  (∀ (s : State) sw a n q, (Instr.oprDef sw a n).wf = true → Sound s → Gang s → OneQuarter s q → Clean s [⟨.src, a, 1⟩] →
    let l := s.issue.lanes.headD 0
    let ad := val s l a 1
    (∀ l ∈ s.issue.lanes, (s.lane l).held = []) →
    s.boardWaits s.issue.ctx s.issue.vc .c [(ad, ad + 31)] false = false → Correct s l .c ad 32 →
    let cause := if (s.lane l).group = 0xFFFFFFFF#32 then 1 else if ad % 32 ≠ 0 then 2
      else if rsInvalid (recordAt s ad) then 2
      else if (oprAt s n.toNat).isSome ∨ rsMisplaced ((s.issCore).oprs.map (·.2.recd)) (recordAt s ad) = true then 3 else 0
    ((s.lane l).group ≠ 0xFFFFFFFF#32 → ad % 32 = 0 → 2 ^ 20 < ad + 32 → ∃ t : State, exec (.oprDef sw a n) s = .next t ∧ MemKept s t ∧
      Trapped s t s.issue.lanes s.issue.pos { code := .onChipBounds, cause := 3, info := ad }) ∧
    (((s.lane l).group = 0xFFFFFFFF#32 ∨ ad % 32 ≠ 0 ∨ ad + 32 ≤ 2 ^ 20) → cause ≠ 0 → ∃ t : State, exec (.oprDef sw a n) s = .next t ∧ MemKept s t ∧
      Trapped s t s.issue.lanes s.issue.pos { code := .matrix, cause := cause, info := n.toNat }) ∧
    (cause = 0 → ad + 32 ≤ 2 ^ 20 → ∃ t : State, exec (.oprDef sw a n) s = .next t ∧ MemKept s t ∧ ThreadsKept s t ∧ Advanced s t sw ∧
      (∃ o, oprAt t n.toNat = some o ∧ o.recd = recordAt s ad ∧ o.group = (s.lane l).group) ∧ ∀ m, m ≠ n.toNat → oprAt t m = oprAt s m)) ∧
  (∀ (s : State) sw n q, Gang s → OneQuarter s q →
    (s.issCore.engines.any (fun e => e.2.any (fun p => p.names n.toNat)) = true → ∃ t : State, exec (.oprRel sw n) s = .next t ∧ ThreadsKept s t ∧
      t.cores = s.cores ∧ ∀ l ∈ s.issue.lanes, (t.lane l).pos = (s.lane l).pos) ∧
    (s.issCore.engines.any (fun e => e.2.any (fun p => p.names n.toNat)) = false →
      (∀ o, oprAt s n.toNat = some o → o.group ≠ (s.lane (s.issue.lanes.headD 0)).group → ∃ t : State, exec (.oprRel sw n) s = .next t ∧ MemKept s t ∧
        Trapped s t s.issue.lanes s.issue.pos { code := .matrix, cause := 1, info := n.toNat }) ∧
      ((∀ o, oprAt s n.toNat = some o → o.group = (s.lane (s.issue.lanes.headD 0)).group) → ∃ t : State, exec (.oprRel sw n) s = .next t ∧
        MemKept s t ∧ ThreadsKept s t ∧ Advanced s t sw ∧ oprAt t n.toNat = none ∧ ∀ m, m ≠ n.toNat → oprAt t m = oprAt s m))) ∧
  (∀ (s : State) sw d n, (Instr.oprQry sw d n).wf = true → Sound s → Gang s → Clean s [⟨.dst, d, 1⟩] →
    ∃ t : State, exec (.oprQry sw d n) s = .next t ∧ MemKept s t ∧ Advanced s t sw ∧ RegsKept s t ⟨.dst, d, 1⟩ ∧ Holds s t ⟨.dst, d, 1⟩ (fun _ =>
      match oprAt s n.toNat with
      | some o => o.recd.toNat % 2 ^ 32
      | none => 2 ^ 32 - 1))

/-- R174, R325: the planes of a valid reservation hold each element apart: writing one makes it read as the positions that the
reservation keeps, leaves every other element as it was, and every byte that holds none of its planes. -/
def Sys2Proof.Claim.PlanesKeepElements : Prop :=
  ∀ m r row kk x, rsInvalid r = false → row < rsR r → kk < rsC r →
    readElem (writeElem m r row kk x) r row kk = kept r x ∧
    (∀ row' kk', row' < rsR r → kk' < rsC r → (row', kk') ≠ (row, kk) → readElem (writeElem m r row kk x) r row' kk' = readElem m r row' kk') ∧
    (∀ a, a ∉ elemBytes r row kk → (writeElem m r row kk x).byte a = m.byte a) ∧
    (∀ a ∈ elemBytes r row kk, rsBase r ≤ a ∧ a < rsBase r + rsBytes r)

/-- R174, R175, R169: plane stores and loads of a lone lane. With a reservation that its group owns and an index within it,
`stp` writes the element, `stp.sc` the scale byte, no other byte, and `ldp`, `ldp.sc` return them. Without such a reservation
cause 1; an index past it, or a scale of a reservation without scales, cause 4. -/
def Sys2Proof.Claim.PlaneAccess : Prop :=
  (∀ (s : State) d a n l r sw, (Instr.stp sw d a n).wf = true → Sound s → Gang s → s.issue.lanes = [l] → Owns s l n.toNat r → rsEfmt r ≠ 0 →
    Unheld s → Clean s [⟨.src, a, 1⟩, ⟨.src, d, 1⟩] → val s l a 1 < rsR r * rsC r → s.oprQueued n.toNat = false →
    ScratchFree s (elemBytes r (val s l a 1 / rsC r) (val s l a 1 % rsC r)) true →
    ∃ t : State, exec (.stp sw d a n) s = .next t ∧ ThreadsKept s t ∧ Advanced s t sw ∧ OtherLevels s t .c ∧
      (t.issCore).scratch = writeElem (s.issCore).scratch r (val s l a 1 / rsC r) (val s l a 1 % rsC r) (val s l d 1)) ∧
  (∀ (s : State) d a n l r sw, (Instr.stpSc sw d a n).wf = true → Sound s → Gang s → s.issue.lanes = [l] → Owns s l n.toNat r → rsBlk r ≠ 0 →
    Unheld s → Clean s [⟨.src, a, 1⟩, ⟨.src, d, 1⟩] → val s l a 1 < rsScales r → s.oprQueued n.toNat = false →
    let ad := scaleAt r (val s l a 1 / (rsC r / rsL r)) (val s l a 1 % (rsC r / rsL r) * rsL r)
    ScratchFree s [ad] true →
    ∃ t : State, exec (.stpSc sw d a n) s = .next t ∧ ThreadsKept s t ∧ Advanced s t sw ∧ OtherLevels s t .c ∧
      ∀ k, (t.issCore).scratch.byte k = if k = ad then BitVec.ofNat 8 (val s l d 1) else (s.issCore).scratch.byte k) ∧
  (∀ (s : State) d a n l r sw, (Instr.ldp sw d a n).wf = true → Sound s → Gang s → s.issue.lanes = [l] → Owns s l n.toNat r → rsEfmt r ≠ 0 →
    Unheld s → Clean s [⟨.src, a, 1⟩, ⟨.dst, d, 1⟩] → val s l a 1 < rsR r * rsC r →
    ScratchFree s (elemBytes r (val s l a 1 / rsC r) (val s l a 1 % rsC r)) false →
    ∃ t : State, exec (.ldp sw d a n) s = .next t ∧ Advanced s t sw ∧ MemKept s t ∧
      Returns s t ⟨.dst, d, 1⟩ (fun _ => readElem (s.issCore).scratch r (val s l a 1 / rsC r) (val s l a 1 % rsC r))) ∧
  (∀ (s : State) d a n l r sw, (Instr.ldpSc sw d a n).wf = true → Sound s → Gang s → s.issue.lanes = [l] → Owns s l n.toNat r → rsBlk r ≠ 0 →
    Unheld s → Clean s [⟨.src, a, 1⟩, ⟨.dst, d, 1⟩] → val s l a 1 < rsScales r →
    let ad := scaleAt r (val s l a 1 / (rsC r / rsL r)) (val s l a 1 % (rsC r / rsL r) * rsL r)
    ScratchFree s [ad] false →
    ∃ t : State, exec (.ldpSc sw d a n) s = .next t ∧ Advanced s t sw ∧ MemKept s t ∧
      Returns s t ⟨.dst, d, 1⟩ (fun _ => wrap 32 (int 8 ((s.issCore).scratch.byte ad).toNat))) ∧
  (∀ i s d a (n : BitVec 4) l sw, (i = .stp sw d a n ∨ i = .ldp sw d a n ∨ i = .stpSc sw d a n ∨ i = .ldpSc sw d a n) → i.wf = true → Sound s → Gang s →
    s.issue.lanes = [l] → Clean s i.ops → Unheld s →
    (∀ r, ¬ Owns s l n.toNat r) → (∀ o, oprAt s n.toNat = some o → rsEfmt o.recd ≠ 0) →
    ∃ t : State, exec i s = .next t ∧ MemKept s t ∧ Trapped s t [l] s.issue.pos { code := .matrix, cause := 1, info := n.toNat })

/-- R178, R181: the chunks of a reduction may enter a tile in any order; once all have, the tile is complete and holds in each
cell the root of the one summation tree over the chunks. -/
def Obligations.TileOrderIndependent : Prop :=
  ∀ cls K (nodes : Nat → List DWord) (order : List Nat), 1 ≤ cls → cls ≤ 3 → 1 ≤ K → K ≤ 2 ^ 20 → order.Perm (List.range ((K + 63) / 64)) →
    (∀ i j, (nodes i).length = (nodes j).length) →
    let t := order.foldl (fun (t : Tile) c => t.addChunk cls K c (nodes c) 0#5) {}
    t.complete = true ∧ ∃ v, chunkTree (clsAcc cls) ((K + 63) / 64) nodes (Nat.clog 2 K - 6) 0 = some v ∧
      t.entries = [{ level := Nat.clog 2 K, index := 0, cells := v }]

/-- R176 to R182, R324, R327: the instructions of the quarter engines, by a gang of one quarter whose tile has rows in the
engine's store. `mma` whose reservations its group owns and whose checks pass, `acc.clr` and `acc.rd` put a pass into the quarter's
queue and change no tile yet; a pass of `mma` waits for the gang's other quarters till its fusion window ends. When a pass starts that waits for no other quarter, an `mma` adds its chunk to the tile, a clear clears it, and a
read returns what each lane selected. When a window ends, its passes wait no longer. -/
def Sys2Proof.Claim.EnginePasses : Prop :=
  (∀ (s : State) sw t g x y p q w ra rb, Sound s → Gang s → OneQuarter s q → Clean s [⟨.src, BitVec.ofNat 7 (104 + g.toNat), 1⟩] →
    (∀ l ∈ s.issue.lanes, (s.lane l).held = []) → w = greg s g.toNat → RowsFit s q t.toNat 1 →
    s.mmaCheck q s.issue.lanes t x y p.toNat w = .ok (ra, rb) → (queueOf s q).length < 8 →
    s.boardWaits s.issue.ctx s.issue.vc .c ((mmaReads (s.issCore).scratch ra rb w p.toNat q).map (fun a => (a, a))) false = false →
    (mmaClass ra rb = 2 → ∀ r ∈ s.aux.residue.take (s.mmaChecks q t.toNat ra w), r = 0) →
    ∃ u : State, exec (.mma sw t g x y p) s = .next u ∧ MemKept s u ∧ ThreadsKept s u ∧ GoneOn s u sw ∧ u.issLine.tiles = s.issLine.tiles ∧
      queueOf u q = queueOf s q ++ [.mma s.issue.line t.toNat x.toNat y.toNat ra rb w p.toNat true s.serial s.issue.lanes s.issue.pos] ∧
      Adds s u [.mmaPassStart s.issue.ctx s.issue.vc q, .fusionWindowExpiry s.issue.ctx s.issue.vc s.serial]) ∧
  (∀ (s : State) sw t q, Gang s → OneQuarter s q → RowsFit s q t.toNat 0 → (queueOf s q).length < 8 →
    ∃ u : State, exec (.accClr sw t) s = .next u ∧ MemKept s u ∧ ThreadsKept s u ∧ Advanced s u sw ∧ u.issLine.tiles = s.issLine.tiles ∧
      queueOf u q = queueOf s q ++ [.clear s.issue.line t.toNat] ∧ Adds s u [.mmaPassStart s.issue.ctx s.issue.vc q]) ∧
  (∀ (s : State) sw d a t q, (Instr.accRd sw d a t).wf = true → Sound s → Gang s → OneQuarter s q → Clean s (Instr.accRd sw d a t).ops → RowsFit s q t.toNat 0 →
    (queueOf s q).length < 8 → (∀ l ∈ s.issue.lanes, val s l a 1 < 2 ^ 12) → (s.shapeAfter s.issue.ctx s.issue.vc s.issue.line q t.toNat).cls ≠ 2 →
    ∃ u : State, ∃ r, exec (.accRd sw d a t) s = .next u ∧ MemKept s u ∧ Advanced s u sw ∧ u.issLine.tiles = s.issLine.tiles ∧
      queueOf u q = queueOf s q ++ [.read s.issue.line t.toNat (s.issue.lanes.map (fun l => (l, BitVec.ofNat 32 (val s l a 1)))) r s.issue.pos] ∧
      (∀ l ∈ s.issue.lanes, (u.lane l).regs = (s.lane l).regs ∧ u.outstanding (at' s l) = true) ∧ r.lanes = s.issue.lanes ∧
      Adds s u [.mmaPassStart s.issue.ctx s.issue.vc q]) ∧
  (∀ (s : State) c v q p rest, s.coreHere c v = true → q < 4 → s.queue c v q = p :: rest →
    (∀ n, p.fuse = some n → p.waits = false ∧ s.joined c v n = [q]) → (∀ e ∈ s.badStores, ∀ k, e.1 ≠ .tile c v p.line k) →
    ∃ t : State, exec (.mmaPassStart c v q) s = .next t ∧ t.queue c v q = rest ∧ t.mem = s.mem ∧
      (∀ l n a b ra rb w fn win g ls pos, p = .mma l n a b ra rb w fn win g ls pos → ReadsClean s c v (mmaReads (s.core c v).scratch ra rb w fn q) →
        t.threads = s.threads ∧ (∃ hits, (∀ x ∈ hits, ∃ h, x = Instr.watchpointHit h) ∧ t.agenda = s.agenda ++ hits) ∧ (t.line c v l).tile q n =
        ((s.line c v l).tile q n).addChunk (mmaClass ra rb) (rsKext ra + 1) (cwKc w) (mmaNodes (s.core c v).scratch ra rb w fn q).1
          (mmaNodes (s.core c v).scratch ra rb w fn q).2) ∧
      (∀ l n, p = .clear l n → t.threads = s.threads ∧ t.agenda = s.agenda ∧ (t.line c v l).tile q n = {}) ∧
      (∀ l n sel r pos, p = .read l n sel r pos → t.threads = s.threads ∧ t.lines = s.lines ∧ Adds s t [.longLatencyReturn (replyResult r (sel.map (fun e =>
        (e.1, readTile ((s.line c v l).tile q n) e.2, 0#5))))]) ∧
      (∀ l n f L ls pos se sd, p = .drain l n f L ls pos se sd → (s.thread ⟨c, v, l, ls.headD 0⟩).held = [] →
        (t.line c v l).drainOf q = some (drained ((s.line c v l).tile q n) f L ls pos se sd) ∧ Adds s t [.drainSeqWrite c v l q])) ∧
  (∀ (s : State) c v g, ∃ t : State, exec (.fusionWindowExpiry c v g) s = .next t ∧ t.threads = s.threads ∧ t.lines = s.lines ∧
    t.mem = s.mem ∧ t.agenda = s.agenda ∧
    ∀ r, r < 4 → t.queue c v r = (s.queue c v r).map (fun x => if x.fuse = some g then x.close else x))

/-- R183, R185, R324, R329: a drain by a gang of one quarter whose tile is complete, with its destination mapped, is a pass of the
quarter's engine. With nothing before it there it starts at once: it gives the quarter's sequencer the packed elements and, with
blocks, their scales, and sets the flags; memory is not written yet. Behind other passes it waits in the queue, and its lanes with it.
The sequencer's write then writes its bytes at their home and no other byte, and the last one ends it. A tile that is not complete
raises the matrix trap with cause 10. -/
def Sys2Proof.Claim.Drains : Prop :=
  (∀ i (s : State) sw a t f L q ops, (i = .drain sw a t f ∧ L = 0 ∧ ops = [⟨.src, a, 2⟩] ∨ ∃ d m, i = .drainMx sw d a m t f ∧ L = 4 * 2 ^ m.toNat ∧
      ops = [⟨.src, a, 2⟩, ⟨.src, d, 2⟩]) → i.wf = true → Sound s → Gang s → OneQuarter s q → Clean s ops → RowsFit s q t.toNat 0 →
    NoDrain s q → s.issLine.drainOf q = none → (∀ l ∈ s.issue.lanes, (s.lane l).held = []) →
    let l0 := s.issue.lanes.headD 0
    (∀ e, s.drainPlan q s.issue.lanes t.toNat f.toNat L (val s l0 a 2) (src s l0 ops 1) = .error e →
      ∃ u : State, exec i s = .next u ∧ MemKept s u ∧ Trapped s u s.issue.lanes s.issue.pos e) ∧
    (∀ p, s.drainPlan q s.issue.lanes t.toNat f.toNat L (val s l0 a 2) (src s l0 ops 1) = .ok p →
      ∃ u : State, ∃ se sd, p = .drain s.issue.line t.toNat f.toNat L s.issue.lanes s.issue.pos se sd ∧
        exec i s = .next u ∧ MemKept s u ∧ u.issLine.tiles = s.issLine.tiles ∧
        (∀ l ∈ s.issue.lanes, (u.lane l).regs = (s.lane l).regs ∧ (u.lane l).pos = nextPos (s.lane l)) ∧
        (queueOf s q = [] → Advanced s u sw ∧ Adds s u [.drainSeqWrite s.issue.ctx s.issue.vc s.issue.line q] ∧ queueOf u q = [] ∧
          u.issLine.drainOf q = some (drained (s.issLine.tile q t.toNat) f.toNat L s.issue.lanes s.issue.pos se sd) ∧
          ∀ l ∈ s.issue.lanes, (u.lane l).fst = (s.lane l).fst ||| drainFlags (s.issLine.tile q t.toNat) f.toNat L) ∧
        (queueOf s q ≠ [] → queueOf u q = queueOf s q ++ [p] ∧ Adds s u [.mmaPassStart s.issue.ctx s.issue.vc q] ∧
          u.issLine.drains = s.issLine.drains ∧ ∃ n, ∀ l ∈ s.issue.lanes, (u.lane l).stat = .sync n ∧ (u.lane l).fst = (s.lane l).fst))) ∧
  (∀ (s : State) q ls n f L a d, (s.shapeAfter s.issue.ctx s.issue.vc s.issue.line q n).complete = false →
    s.drainPlan q ls n f L a d = .error { code := .matrix, cause := 10, info := n }) ∧
  (∀ (s : State) c v line q d w rest, s.coreHere c v = true → (s.line c v line).drainOf q = some d → d.held = false → (s.thread ⟨c, v, line, d.lanes.headD 0⟩).held = [] → d.writes = w :: rest → w.bytes ≠ [] →
    w.attr ≠ 2 → OneLine w.ia w.bytes.length → s.boardWaits c v .g [(w.ia, w.ia + w.bytes.length - 1)] true = false →
    (∃ r, s.openPage c w.ia false true = .ok r) → s.wbHeld = [] → s.halves = [] → (∀ x ∈ (s.core c v).l1, ∀ b ∈ x.bytes, b.2.2 = false) → (s.ctx c).ckpt.cut = none →
    (look s.lines ⟨c, v, line⟩).isSome →
    ∃ t : State, ∃ hits, exec (.drainSeqWrite c v line q) s = .next t ∧ (∀ x ∈ hits, ∃ h, x = .watchpointHit h) ∧ t.threads = s.threads ∧
      (∀ k, k < w.bytes.length → t.mem.byte (s.paOf c (w.ia + k)) = w.bytes.getD k 0#8) ∧
      (∀ pa, (∀ k, k < w.bytes.length → pa ≠ s.paOf c (w.ia + k)) → t.mem.byte pa = s.mem.byte pa) ∧
      (rest = [] → (t.line c v line).drainOf q = none ∧ t.agenda = s.agenda ++ hits) ∧
      (rest ≠ [] → (t.line c v line).drainOf q = some { d with writes := rest } ∧ t.agenda = s.agenda ++ hits ++ [.drainSeqWrite c v line q]))

/-- Reservations, plane stores and loads; planes hold elements apart: Reservations, PlaneAccess, PlanesKeepElements
(stated above). What it says of points that the spec leaves open is the model's choice: notes/assumptions/55, 93, 97. -/
def Obligations.ReservationsAndPlanes : Prop :=
  Claim.Reservations ∧ Claim.PlaneAccess ∧ Claim.PlanesKeepElements

/-- Matrix passes and drains: EnginePasses, Drains (stated above). What it says of points that the spec leaves open is the
model's choice: notes/assumptions/54, 90, 93, 97, 110. -/
def Obligations.QuarterEngines : Prop :=
  Claim.EnginePasses ∧ Claim.Drains
/-! ## Jobs, random numbers, virtual caches, checkpoint cuts -/

namespace Sys2Proof.Claim
open Sys2Proof Sys2Proof.Machine

/-- A record of n bytes at a virtual address that the gang's L1 supplies (R197, R273). -/
abbrev Record (s : State) (va n : Nat) (bs : List Byte) : Prop :=
  Unheld s ∧ ∃ sp, Maps s va n true false sp ∧ sp.attr ≠ 2 ∧ sp.len = n ∧ GlobalFree s sp false ∧ l1Bytes s sp.ia n = some bs

/-- The L1 of the gang's core holds no dirty byte. -/
abbrev L1Clean (s : State) : Prop := ∀ x ∈ (s.issCore).l1, ∀ b ∈ x.bytes, b.2.2 = false

/-- No thread holds an access, and no launch has units to place: nothing that an event of the engines would wake. -/
abbrev NothingWaits (s : State) : Prop := (∀ e ∈ s.threads, e.2.held = []) ∧ ∀ e ∈ s.launches, e.2.units = []

/-- Nor is a phase of a group of the context complete, or a wait on a slot of it due: what the end of a held write-back, or of a
job, would set going. -/
abbrev Quiet (s : State) (c : Nat) : Prop :=
  NothingWaits s ∧ (∀ x ∈ s.groupsOf c, phaseDone x.g = false) ∧ ∀ w ∈ s.waits, ∀ n, w.on = .slot c n → (s.slotOf c n).state = .closing

/-- The instructions that admit jobs of records: engine, bytes of the record, and what the record asks for (R201, R202, R205). -/
def jobForm : Instr → Option (Fld × Fld × Eng × Nat × (State → List Byte → Except Trap JobPlan))
  | .cpy _ d a => some (d, a, .copy, 512, cpyPlan)
  | .cpyc _ d a => some (d, a, .copy, 512, cpycPlan)
  | .chain _ d a => some (d, a, .chain, 128, chainPlan)
  | _ => none

/-- The bytes of a level as an engine finds them for a job of a square (R303). -/
def engByte (s : State) (c v q : Nat) (l : Lvl) (a : Nat) : Byte := if l = .q then (s.square q).sqm.byte a else s.chipByte c v l a

/-- An element of n bytes on chip that a job may use: its die's market is in service, and it lies in one die's market. -/
def OnChip (s : State) (l : Lvl) (a n : Nat) : Prop :=
  l ≠ .g ∧ l ≠ .p ∧ (l = .m → a < 2 ^ 27 ∧ a % 2 ^ 25 + n ≤ 2 ^ 25 ∧ (s.die (a / 2 ^ 25)).marketRetired = false)

/-- The place of an on-chip byte that an engine names for a job of core v and square q. -/
def engAt (c v q : Nat) (l : Lvl) (a : Nat) : ChipAt :=
  match l with
  | .q => ⟨.q, (q, 0), a⟩
  | .m => ⟨.m, (a / 2 ^ 25 % 4, 0), a % 2 ^ 25⟩
  | l => ⟨l, (c, v), a⟩
/-- Bytes that an engine reads on chip for such a job, all correct, without a symbol to correct (R151, R390). -/
abbrev ReadsCorrect (s : State) (c v q : Nat) (l : Lvl) (a n : Nat) : Prop := ∀ k, k < n → ¬ Lost s (engAt c v q l (a + k)) ∧
  ∀ z, s.symOf (engAt c v q l (a + k)) = some z → s.wrongSyms z.grp z.word = []

/-- After an engine's write of bytes at an address of a level, they stand there, and no other byte of any memory has changed. -/
def EngineWrote (s t : State) (c v q : Nat) (l : Lvl) (a : Nat) (bs : List Byte) : Prop :=
  (∀ k, k < bs.length → engByte t c v q l (a + k) = bs.getD k 0#8) ∧ (∀ x, t.mem.byte x = s.mem.byte x) ∧ t.wbHeld = s.wbHeld ∧
  (∀ c' v', (t.core c' v').l1 = (s.core c' v').l1 ∧ ∀ x, (l ≠ .c ∨ (c', v') ≠ (c, v) ∨ x < a ∨ a + bs.length ≤ x) →
    (t.core c' v').scratch.byte x = (s.core c' v').scratch.byte x) ∧
  (∀ q' x, (l ≠ .q ∨ q' ≠ q ∨ x < a ∨ a + bs.length ≤ x) → (t.square q').sqm.byte x = (s.square q').sqm.byte x) ∧
  (∀ d x, (l ≠ .m ∨ d ≠ a / 2 ^ 25 ∨ x < a % 2 ^ 25 ∨ a % 2 ^ 25 + bs.length ≤ x) → (t.die d).market.byte x = (s.die d).market.byte x) ∧
  t.threads = s.threads

/-- The agenda after an action: watchpoints may have been hit on the way, then these. -/
def Posts (s t : State) (next : List Instr) : Prop := ∃ hits, (∀ x ∈ hits, ∃ h, x = .watchpointHit h) ∧ t.agenda = s.agenda ++ hits ++ next

/-- A job that may do its next element: in flight, not stalled, its edges met. -/
abbrev Runs (s : State) (c n : Nat) (j : Job) : Prop :=
  look (s.ctx c).jobs n = some j ∧ j.retired = false ∧ j.stalled = false ∧ j.code = 0 ∧ j.after = []

/-- The jobs of a context after one changed. -/
def JobIs (s t : State) (c n : Nat) (j : Job) : Prop :=
  look (t.ctx c).jobs n = some j ∧ ∀ m, m ≠ n → look (t.ctx c).jobs m = look (s.ctx c).jobs m

/-- An action is a fault of a job on its way to a record (R315). -/
def faultOf (c n : Nat) : Instr → Bool
  | .gatewayPageFault x => x.ctx == c && x.job == some n
  | _ => false
/-- News of a collective, of job 0, that waits here for a port (R364). -/
def isNews (c : Nat) : Instr → Bool
  | .collectiveRootReturn c' j _ _ _ => c' == c && j == 0
  | _ => false
/-- News for every other rank of a collective has left by a port, or waits for one. -/
def Told (s t : State) (c : Nat) (p : CollParms) (body : CollNews) : Prop :=
  ∀ k, k < s.collRanks p.rmask → k ≠ s.ownRank p.rmask → ∃ m : CollMsg, m.parms = p ∧ m.body = body ∧
    m.dest = coordOfRank s.hub.fabric.recd (gridDims p.rmask) k (fabCoords s.hub.fabric.recd) ∧
    ((∃ x ∈ t.out, ∃ q vc cl e fl, x.frame = .seler q vc cl (.coll e m fl)) ∨ ∃ e fl, .collectiveRootReturn c 0 e m fl ∈ t.agenda)

/-- What follows an element: the next one, or the end of the job. -/
def afterElement (c n : Nat) (j : Job) : Instr := if j.next + 1 < j.total then .jobElement c n else .jobRetire c n

/-- The four pieces of a granule that is the k-th of a cut have places in a kind 0 target, apart from each other (R378). -/
abbrev Pieces (s : State) (c : Nat) (j : Job) (r : BitVec 512) (k : Nat) (pa : Nat → Nat) : Prop :=
  s.halves = [] ∧ (∀ q, q < 4 → ∃ ia, s.targetPiece c j.ranges (cutTarget r) k q = .ok (pa q, ia)) ∧
  ∀ q q', q < 4 → q' < 4 → q ≠ q' → pa q + 2 ^ 12 ≤ pa q' ∨ pa q' + 2 ^ 12 ≤ pa q
/-- The granule's bytes as they stood have been written there, and no others. -/
def Copied (s t : State) (c g : Nat) (pa : Nat → Nat) : Prop :=
  (∀ q x, q < 4 → x < 2 ^ 12 → t.mem.byte (pa q + x) = s.mem.byte (s.paOf c (g * 2 ^ 14) + 2 ^ 12 * q + x)) ∧
  ∀ a, (∀ q, q < 4 → a < pa q ∨ pa q + 2 ^ 12 ≤ a) → t.mem.byte a = s.mem.byte a
/-- Two frames of the device on a session leave at once: it is open, has room for them, and is not paused (R371, R373). -/
abbrev SendsTwo (s : State) (n : Nat) (x : Session) : Prop :=
  look s.hub.sessions n = some x ∧ x.unacked.length + 2 ≤ 256 ∧ s.hub.paused.getLsbD (Config.sessionPriority n % 8) = false
/-- The CKDATA frame of a half of a granule in a kind 1 cut (R379). -/
def ckHalf (s : State) (c n : Nat) (r : BitVec 512) (all : List (Nat × Nat)) (g h : Nat) : Frame :=
  .ckdata (s.sessionOf c) (cutTarget r % 2 ^ 16) n (all.getD (all.findIdx (fun x => x.2 == g)) (0, 0)).1 h
    ((List.range 8192).map (fun i => s.mem.byte (s.paOf c (g * 2 ^ 14) + 8192 * h + i)))

/-- Ten rounds of Philox4x32 (R208) on numbers of 32 bits: the key, then the counter. -/
def philoxN : Nat → Nat → Nat → Nat → Nat → Nat → Nat → List Nat
  | 0, _, _, c0, c1, c2, c3 => [c0, c1, c2, c3]
  | n + 1, k0, k1, c0, c1, c2, c3 =>
    philoxN n ((k0 + 0x9E3779B9) % 2 ^ 32) ((k1 + 0xBB67AE85) % 2 ^ 32)
      (0xCD9E8D57 * c2 / 2 ^ 32 ^^^ c1 ^^^ k0) (0xCD9E8D57 * c2 % 2 ^ 32) (0xD2511F53 * c0 / 2 ^ 32 ^^^ c3 ^^^ k1) (0xD2511F53 * c0 % 2 ^ 32)

/-- Word i of a number. -/
def wordAt (x i : Nat) : Nat := x / 2 ^ (32 * i) % 2 ^ 32

end Sys2Proof.Claim

open Sys2Proof Sys2Proof.Machine Sys2Proof.Claim

/-- R197, R198, R201, R202, R205, R331: `cpy`, `cpyc` and `chain`. A job table that is full of retired jobs traps with job-table; a
record at an address that is no multiple of 64 or that breaks its rules with record-format and the address. Otherwise, with room
in the engine and the scoreboard, the job gets the least free number: its handle goes to the destination, its entry names its
kind and the earlier jobs that it has an edge on, its intervals join the scoreboard, and its first element is to come; of a
collective that no other rank has yet told of, the other ranks are told that this one has issued it, and its apex's window is to come.
What it says of points that the spec leaves open is the model's choice: notes/assumptions/57, 59. -/
def Obligations.JobAdmission : Prop :=
  ∀ (i : Instr) (s : State) d a e bytes plan, jobForm i = some (d, a, e, bytes, plan) → i.wf = true → Sound s → Gang s → Clean s i.ops → (s.ctx? s.issue.ctx).isSome →
    let va := val s (s.issue.lanes.headD 0) a 2
    let jobs := (s.issCtx).jobs
    (4096 ≤ jobs.length → (∀ x ∈ jobs, x.2.retired = true) → ∃ t : State, exec i s = .next t ∧ MemKept s t ∧
      Trapped s t s.issue.lanes s.issue.pos { code := .jobTable }) ∧
    (jobs.length < 4096 → va % 64 ≠ 0 → ∃ t : State, exec i s = .next t ∧ MemKept s t ∧
      Trapped s t s.issue.lanes s.issue.pos { code := .recordFormat, info := va }) ∧
    (∀ bs tr, jobs.length < 4096 → va % 64 = 0 → Record s va bytes bs → plan s bs = .error tr → ∃ t : State, exec i s = .next t ∧ MemKept s t ∧
      Trapped s t s.issue.lanes s.issue.pos { code := .recordFormat, info := va }) ∧
    (∀ bs p n, jobs.length < 4096 → va % 64 = 0 → Record s va bytes bs → plan s bs = .ok p → L1Clean s → s.halves = [] →
      (∀ x ∈ p.regions, s.regionTrap s.issue.ctx s.issue.vc x = none) → look jobs n = none → (∀ m, m < n → (look jobs m).isSome) → n < 4096 →
      s.engineJobs e (s.issPhys / 16) < 64 → (s.issCore).board.length + p.regions.length ≤ 32 →
      s.drainsIn s.issue.ctx s.issue.vc s.issue.line s.issue.lanes (p.regions.map (s.intervalOf s.issue.ctx n)) = false →
      (∀ recd parms rank ranks w formed, p.kind = .coll recd parms rank ranks w formed → (∀ x ∈ jobs, x.2.retired = true) ∧
        s.hub.fabric.failed = [] ∧ s.hub.fabric.issued = [] ∧ s.collOk s.issue.ctx parms ranks = true) →
      ∃ t : State, ∃ j, exec i s = .next t ∧ Advanced s t (marker i) ∧ RegsKept s t ⟨.dst, d, 1⟩ ∧ (∀ x, t.mem.byte x = s.mem.byte x) ∧
        Holds s t ⟨.dst, d, 1⟩ (fun _ => (if e = .chain then 2 ^ 22 else 0) + (look (s.issCtx).jobGens n).getD 0 % 64 * 2 ^ 16 + n) ∧
        JobIs s t s.issue.ctx n j ∧ j.kind = p.kind ∧ j.eng = e ∧ j.total = p.total ∧ j.next = 0 ∧ j.retired = false ∧ j.code = 0 ∧
        j.ivals = p.regions.map (s.intervalOf s.issue.ctx n) ∧ j.after = s.edgesOf s.issue.ctx s.issue.vc (s.issPhys / 16) j.ivals ∧
        j.ranges = (s.issCtx).trans.ranges ∧ (t.issCore).board = (s.issCore).board ++ j.ivals ∧
        ((∀ recd parms rank ranks w formed, p.kind ≠ .coll recd parms rank ranks w formed) → Adds s t [.jobElement s.issue.ctx n]) ∧
        (∀ recd parms rank ranks w formed, p.kind = .coll recd parms rank ranks w formed →
          ∃ mid next, mid.all (isNews s.issue.ctx) = true ∧ t.agenda = s.agenda ++ mid ++ [next] ∧
            (s.atCollApex parms = true → ∃ x, next = .collectiveWindowGrant s.issue.ctx n x) ∧
            (s.atCollApex parms = false → next = .jobElement s.issue.ctx n) ∧
            ((s.fabGroup s.issue.ctx).isSome → Told s t s.issue.ctx parms (.issued (s.ownRank parms.rmask)))))

/-- R200, R201, R205, R303: an element of a copy within the device, on chip, writes the source element's bytes at the
destination's address; one of a chain the result of its operations on its inputs. No other byte of any memory changes, and the
next element or the end of the job follows. A copy that leads off the grid retires at once. -/
def Sys2Proof.Claim.JobElements : Prop :=
  (∀ (s : State) c n j r, Runs s c n j → j.kind = .copy r → j.next < j.total → s.awayOf r = .own → s.halves = [] →
    let a := (shSrcAt r j.next).toNat
    let b := (shDstAt r j.next).toNat
    OnChip s (shSlev r) a (shSw r) → OnChip s (shDlev r) b (shSw r) → ReadsCorrect s c j.vc (s.jobSquare c j a) (shSlev r) a (shSw r) →
    ∃ t : State, exec (.jobElement c n) s = .next t ∧ Posts s t [afterElement c n j] ∧ JobIs s t c n { j with next := j.next + 1 } ∧
      EngineWrote s t c j.vc (s.jobSquare c j b) (shDlev r) b
        ((List.range (shSw r)).map (fun k => engByte s c j.vc (s.jobSquare c j a) (shSlev r) (a + k)))) ∧
  (∀ (s : State) c n j r, Runs s c n j → j.kind = .chain r → j.next < j.total → s.halves = [] →
    (∀ x ∈ s.aux.residue.take (chChecks r).length, x = 0) →
    let b := (chAt r 3 j.next).toNat
    let at' (k : Nat) : Nat := (chAt r k j.next).toNat
    (∀ k, k < chNin r → OnChip s (chLvl r k) (at' k) (fmtBytes (chFmt r k)) ∧
      ReadsCorrect s c j.vc (s.jobSquare c j (at' k)) (chLvl r k) (at' k) (fmtBytes (chFmt r k))) → OnChip s (chLvl r 3) b (fmtBytes (chFmt r 3)) →
    let xs := (List.range (chNin r)).map (fun k => number ((List.range (fmtBytes (chFmt r k))).map (fun x =>
      engByte s c j.vc (s.jobSquare c j (at' k)) (chLvl r k) (at' k + x))))
    ∃ t : State, exec (.jobElement c n) s = .next t ∧ Posts s t [afterElement c n j] ∧
      JobIs s t c n { j with next := j.next + 1, flags := j.flags ||| (chElement r xs).2 } ∧
      EngineWrote s t c j.vc (s.jobSquare c j b) (chLvl r 3) b
        ((List.range (fmtBytes (chFmt r 3))).map (byteOf (chElement r xs).1))) ∧
  (∀ (s : State) c n j r, Runs s c n j → j.kind = .copy r → j.total ≤ j.next →
    ∃ t : State, exec (.jobElement c n) s = .next t ∧ t = s.post (.jobRetire c n)) ∧
  (∀ (s : State) c n j, look (s.ctx c).jobs n = some j → j.retired = false → j.stalled = false → j.code = 0 → j.after ≠ [] →
    exec (.jobElement c n) s = .next (s.post (.jobElement c n)))

/-- R206, R304, R333: a job that retires leaves the scoreboard, the jobs that waited for it go on, and a wait on it returns its
status word and frees its number for the next generation. `cpyw` of one lane on a retired job returns at once and frees
it, with an acquire if its code is 0, on one in flight waits for it or, with bit 31, polls code 1; a stale handle answers code 2. -/
def Sys2Proof.Claim.JobsEndAndWait : Prop :=
  (∀ (s : State) c n j, look (s.ctx c).jobs n = some j → j.retired = false → j.after = [] → Quiet s c → (∀ x ∈ s.agenda, faultOf c n x = false) → (∀ w ∈ s.waits, w.on ≠ .job c n) →
    s.wbHeld = [] → (∀ x ∈ (s.core c j.vc).l1, ∀ b ∈ x.bytes, b.2.2 = false) →
    ∃ t : State, exec (.jobRetire c n) s = .next t ∧ t.agenda = s.agenda ∧ t.threads = s.threads ∧ t.mem = s.mem ∧
      (t.core c j.vc).board = (s.core c j.vc).board.filter (fun i => i.job != n) ∧ look (t.ctx c).jobs n = some { j with retired := true } ∧
      (∀ d, ∀ f ∈ (t.die d).faults, f.note.ctx = c → f.note.job = some n → f.stale = true) ∧ ∀ m k, m ≠ n → look (s.ctx c).jobs m = some k → look (t.ctx c).jobs m = some { k with after := k.after.filter (· != n) }) ∧
  (∀ (s : State) c n j w, look (s.ctx c).jobs n = some j → j.retired = false → j.after = [] → Quiet s c → (∀ x ∈ s.agenda, faultOf c n x = false) → s.waits.filter (fun w => w.on == .job c n) = [w] →
    s.wbHeld = [] → (∀ x ∈ (s.core c j.vc).l1, ∀ b ∈ x.bytes, b.2.2 = false) → j.code ≠ 0 → j.code ≠ 3 →
    ∃ t : State, exec (.jobRetire c n) s = .next t ∧ t.threads = s.threads ∧ t.mem = s.mem ∧ look (t.ctx c).jobs n = none ∧
      look (t.ctx c).jobGens n = some ((j.gen + 1) % 64) ∧ Adds s t [.longLatencyReturn (replyResult w.reply
        (w.reply.lanes.map (fun l => (l, [jobWord j.code j.edge j.flags], 0#5))))]) ∧
  (∀ (s : State) sw d a l, (Instr.cpyw sw d a).wf = true → Sound s → Gang s → Clean s (Instr.cpyw sw d a).ops → s.issue.lanes = [l] →
    let h := val s l a 1
    (∀ n j, s.jobOf s.issue.ctx (BitVec.ofNat 32 h) = some (n, j) → j.retired = true → j.code ≠ 3 → L1Clean s → s.wbHeld = [] → h < 2 ^ 31 →
      ∃ t : State, exec (.cpyw sw d a) s = .next t ∧ Advanced s t sw ∧ t.mem = s.mem ∧ OnChipKept s t ∧ look (t.issCtx).jobs n = none ∧
        (if j.code = 0 then ∀ x ∈ (s.issCore).l1, Proper s x → Forgotten s t x else MemKept s t) ∧
        look (t.issCtx).jobGens n = some ((j.gen + 1) % 64) ∧
        Returns s t ⟨.dst, d, 1⟩ (fun _ => j.code * 2 ^ 24 + (if j.edge then 512 else 0) + j.flags.toNat)) ∧
    (∀ n j, s.jobOf s.issue.ctx (BitVec.ofNat 32 h) = some (n, j) → j.retired = false →
      (h < 2 ^ 31 → ∃ t : State, ∃ w : Wait, exec (.cpyw sw d a) s = .next t ∧ Advanced s t sw ∧ MemKept s t ∧ ThreadsKept s t ∧ t.agenda = s.agenda ∧
        t.waits = s.waits ++ [w] ∧ w.on = .job s.issue.ctx n ∧ w.reply.lanes = [l] ∧ t.outstanding (at' s l) = true) ∧
      (2 ^ 31 ≤ h → ∃ t : State, exec (.cpyw sw d a) s = .next t ∧ Advanced s t sw ∧ MemKept s t ∧ t.ctxs = s.ctxs ∧
        Returns s t ⟨.dst, d, 1⟩ (fun _ => 2 ^ 24))) ∧
    (s.jobOf s.issue.ctx (BitVec.ofNat 32 h) = none → ∃ t : State, exec (.cpyw sw d a) s = .next t ∧ Advanced s t sw ∧ MemKept s t ∧ t.ctxs = s.ctxs ∧
      Returns s t ⟨.dst, d, 1⟩ (fun _ => 2 * 2 ^ 24)))

/-- R202, R369, R370: the apex of a collective grants a window as wide as its hub's room allows, tells the other ranks, and waits
while there is none; another rank takes the window as it is granted. A root
that comes back to a rank which is not to receive it is counted; one that is to receive it has it written at the element's place,
and nothing else. News for another device goes on by the port of its route, or waits for one. A failure told by another rank, and
another rank's collective of the same cid with other parameters, end this rank's with that code, and with code 0x04. -/
def Sys2Proof.Claim.CollectiveWindows : Prop :=
  (∀ (s : State) c n j r p rank ranks formed w, look (s.ctx c).jobs n = some j → j.kind = .coll r p rank ranks 0 formed → j.retired = false → 0 < w →
    (s.atCollApex p = true → s.hubRoom = 0 → exec (.collectiveWindowGrant c n w) s = .next (s.post (.collectiveWindowGrant c n w))) ∧
    (s.atCollApex p = true → 0 < s.hubRoom → ∃ t : State, ∃ mid, exec (.collectiveWindowGrant c n w) s = .next t ∧
      JobIs s t c n { j with kind := .coll r p rank ranks (min w s.hubRoom) formed } ∧
      look t.hub.fabric.granted (c, n) = some (min w s.hubRoom) ∧ t.mem = s.mem ∧ t.threads = s.threads ∧
      mid.all (isNews c) = true ∧ t.agenda = s.agenda ++ mid ++ [.jobElement c n] ∧
      ((s.fabGroup c).isSome → Told s t c p (.grant (min w s.hubRoom)))) ∧
    (s.atCollApex p = false → ∃ t : State, exec (.collectiveWindowGrant c n w) s = .next t ∧
      JobIs s t c n { j with kind := .coll r p rank ranks (min w 64) formed } ∧ t.mem = s.mem ∧ t.threads = s.threads ∧ t.out = s.out ∧
      Adds s t [.jobElement c n])) ∧
  (∀ (s : State) c n j r p rank ranks w formed elem (m : CollMsg) v fl, Runs s c n j → j.kind = .coll r p rank ranks w formed → elem ∉ formed →
    elem < j.total → m.dest = fabCoords s.hub.fabric.recd → m.body = .root v → m.parms.cid = p.cid → s.halves = [] →
    let b := (shDstAt r elem).toNat
    (p.ckind ≠ 1 ∨ rank = p.root → OnChip s (shDlev r) b (shDw r)) →
    ∃ t : State, exec (.collectiveRootReturn c n elem m fl) s = .next t ∧
      Posts s t [if formed.length + 1 = j.total then .jobRetire c n else .jobElement c n] ∧
      JobIs s t c n { j with kind := .coll r p rank ranks w (formed ++ [elem]), flags := j.flags ||| fl } ∧
      (p.ckind ≠ 1 ∨ rank = p.root → EngineWrote s t c j.vc (s.jobSquare c j b) (shDlev r) b
        ((List.range (shDw r)).map (byteOf v.toNat))) ∧
      (p.ckind = 1 → rank ≠ p.root → t.mem = s.mem ∧ t.squares = s.squares ∧ t.dies = s.dies ∧ t.cores = s.cores ∧ t.agenda.length = s.agenda.length + 1)) ∧
  (∀ (s : State) c n elem (m : CollMsg) fl, m.dest ≠ fabCoords s.hub.fabric.recd →
    (s.newsPort m = none → exec (.collectiveRootReturn c n elem m fl) s = .next (s.post (.collectiveRootReturn c 0 elem m fl))) ∧
    (∀ q k, s.newsPort m = some (q, k) → ∃ t : State, ∃ vc, exec (.collectiveRootReturn c n elem m fl) s = .next t ∧ t.agenda = s.agenda ∧ t.ctxs = s.ctxs ∧
      t.mem = s.mem ∧ t.out = s.out ++ [{ frame := .seler q vc k (.coll elem { m with port := none, cls := 0 } fl) }])) ∧
  (∀ (s : State) c n k elem j r p rank ranks w formed (m : CollMsg) code fl, look (s.ctx c).jobs n = some j → j.kind = .coll r p rank ranks w formed →
    j.retired = false → j.code = 0 → m.dest = fabCoords s.hub.fabric.recd → m.parms.cid = p.cid →
    (m.body = .failed code → code ≠ 0 → ∃ t : State, exec (.collectiveRootReturn c k elem m fl) s = .next t ∧ t.mem = s.mem ∧ t.threads = s.threads ∧
      look (t.ctx c).jobs n = some { j with code := code, stalled := false } ∧ .jobRetire c n ∈ t.agenda) ∧
    (∀ q, m.body = .issued q → m.parms ≠ p → s.groupCtx m.group = some c → ∃ t : State, exec (.collectiveRootReturn c k elem m fl) s = .next t ∧
      t.mem = s.mem ∧ t.threads = s.threads ∧ look (t.ctx c).jobs n = some { j with code := 4, stalled := false } ∧ .jobRetire c n ∈ t.agenda))

/-- R208, R209: `rng` returns the four words of Philox4x32-10. `rng.reg` of a valid stream that meets no registered one with its key
registers it as the least free entry and answers the entry's number, of one that meets another answers code 1 and that number, of
a full table code 2; a record with no counters or past the end of the counter answers code 3. `rng.unreg` takes the equal entry
away and answers 0, or answers code 4. -/
def Obligations.RandomStreams : Prop :=
  (∀ (s : State) sw d a b, (Instr.rng sw d a b).wf = true → Sound s → Gang s → Clean s (Instr.rng sw d a b).ops →
    ∃ t : State, exec (.rng sw d a b) s = .next t ∧ Advanced s t sw ∧ MemKept s t ∧ Returns s t ⟨.dst, d, 4⟩ (fun l =>
      let x := src s l (Instr.rng sw d a b).ops 0
      let k := src s l (Instr.rng sw d a b).ops 1
      let w := philoxN 10 (wordAt k 0) (wordAt k 1) (wordAt x 0) (wordAt x 1) (wordAt x 2) (wordAt x 3)
      w.getD 0 0 + w.getD 1 0 * 2 ^ 32 + w.getD 2 0 * 2 ^ 64 + w.getD 3 0 * 2 ^ 96)) ∧
  (∀ (s : State) sw d a bs, (Instr.rngReg sw d a).wf = true → Sound s → Gang s → Clean s (Instr.rngReg sw d a).ops → (s.ctx? s.issue.ctx).isSome →
    Record s (val s (s.issue.lanes.headD 0) a 2) 32 bs →
    let st := (s.issCtx).streams
    let key := number bs % 2 ^ 64
    let base := number bs / 2 ^ 64 % 2 ^ 128
    let count := number bs / 2 ^ 192 % 2 ^ 64
    let bad := count = 0 ∨ 2 ^ 128 < base + count
    let meets (q : Stream) : Prop := q.key.toNat = key ∧ base ≤ q.base.toNat + q.count.toNat - 1 ∧ q.base.toNat ≤ base + count - 1
    let new : Stream := ⟨BitVec.ofNat 64 key, BitVec.ofNat 128 base, BitVec.ofNat 64 count⟩
    ∃ t u : State, ∃ w x, exec (.rngReg sw d a) s = .next t ∧ Advanced s t sw ∧ MemKept s t ∧ Returns s t ⟨.dst, d, 1⟩ (fun _ => w) ∧
      (bad → w = 3 * 2 ^ 24 ∧ (t.issCtx).streams = st) ∧
      (∀ i q, ¬ bad → i < 64 → look st i = some q → meets q → (∀ k r, k < i → look st k = some r → ¬ meets r) → w = 2 ^ 24 + i ∧ (t.issCtx).streams = st) ∧
      (¬ bad → (∀ k r, k < 64 → look st k = some r → ¬ meets r) →
        ((∀ k, k < 64 → (look st k).isSome) → w = 2 * 2 ^ 24 ∧ (t.issCtx).streams = st) ∧
        (∀ i, i < 64 → look st i = none → (∀ k, k < i → (look st k).isSome) → w = i ∧ look (t.issCtx).streams i = some new ∧
          ∀ k, k ≠ i → look (t.issCtx).streams k = look st k)) ∧
      exec (.rngUnreg sw d a) s = .next u ∧ Advanced s u sw ∧ MemKept s u ∧ Returns s u ⟨.dst, d, 1⟩ (fun _ => x) ∧
      (bad → x = 3 * 2 ^ 24 ∧ (u.issCtx).streams = st) ∧
      (¬ bad → (∀ e ∈ st, e.2 ≠ new) → x = 4 * 2 ^ 24 ∧ (u.issCtx).streams = st) ∧
      (∀ i, ¬ bad → (i, new) ∈ st → (∀ e ∈ st, e.2 = new → e.1 = i) → x = 0 ∧ (u.issCtx).streams = del st i))

/-- R210, R211, R278, R282: `vcdef` sends its record to the hub, `vcqry` reads state, shares held and the record's shares. The hub
answers code 2 to an unaligned or refused record, 1 during a change, 3 where shares cannot be granted, 4 to the release of
one that pages name, each without effect; else 0: an undefined cache becomes stable with shares granted, and a record
that changes only bits [87:84] and [103] replaces the record. -/
def Sys2Proof.Claim.VirtualCacheDefinition : Prop :=
  (∀ (s : State) sw d a n, (Instr.vcdef sw d a n).wf = true → Sound s → Gang s → Clean s (Instr.vcdef sw d a n).ops →
    let va := val s (s.issue.lanes.headD 0) a 2
    (va % 8 ≠ 0 → ∃ t : State, ∃ q : ReplyTo, exec (.vcdef sw d a n) s = .next t ∧ Advanced s t sw ∧ MemKept s t ∧ ThreadsKept s t ∧ t.ctxs = s.ctxs ∧
      q.lanes = s.issue.lanes ∧ Adds s t [.vcAccept ⟨s.issue.ctx, n.toNat, 0, false, some q⟩]) ∧
    (∀ bs, va % 8 = 0 → Record s va 64 bs → ∃ t : State, ∃ q : ReplyTo, exec (.vcdef sw d a n) s = .next t ∧ Advanced s t sw ∧ MemKept s t ∧ ThreadsKept s t ∧
      t.ctxs = s.ctxs ∧ q.lanes = s.issue.lanes ∧
      Adds s t [.vcAccept ⟨s.issue.ctx, n.toNat, BitVec.ofNat 512 (number bs), true, some q⟩])) ∧
  (∀ (s : State) sw d n, (Instr.vcqry sw d n).wf = true → Sound s → Gang s → Clean s (Instr.vcqry sw d n).ops →
    ∃ t : State, exec (.vcqry sw d n) s = .next t ∧ Advanced s t sw ∧ MemKept s t ∧ Returns s t ⟨.dst, d, 1⟩ (fun _ =>
      let x := s.vcOf s.issue.ctx n.toNat
      (match x.state with | .undefined => 0 | .stable => 1 | .resizing => 2 | .migrating => 3 | .releasing => 4) * 2 ^ 28 +
        (x.shares.length + x.oldShares.length) % 2 ^ 8 * 2 ^ 8 + x.recd.toNat / 2 ^ 64 % 2 ^ 8)) ∧
  (∀ (s : State) c n r al q, (s.ctx? c).isSome →
    let x := s.vcOf c n
    let busy := x.state = .resizing ∨ x.state = .migrating ∨ x.state = .releasing
    let fresh : BitVec 512 → BitVec 512 := fun y => y &&& ~~~(BitVec.ofNat 512 (15 * 2 ^ 84 + 2 ^ 103))
    ∃ t : State, ∃ code, exec (.vcAccept ⟨c, n, r, al, some q⟩) s = .next t ∧ t.mem = s.mem ∧ t.threads = s.threads ∧
      (code ≠ 0 → t.ctxs = s.ctxs ∧ Adds s t [.longLatencyReturn (replyResult q (q.lanes.map (fun l =>
        (l, [BitVec.ofNat 32 (code * 2 ^ 24 + vstateCode x.state * 2 ^ 20)], 0#5))))]) ∧
      (al = false → code = 2) ∧ (al = true → busy → code = 1) ∧ (al = true → ¬ busy → s.vcRefused r x.state = true → code = 2) ∧
      (al = true → s.vcRefused r x.state = false →
        (x.state = .undefined → s.grantShares c r 0 (vcShares r) = none → code = 3) ∧
        (∀ sh, x.state = .undefined → s.grantShares c r 0 (vcShares r) = some sh → code = 0 ∧
          t.vcOf c n = { state := .stable, recd := r, shares := sh } ∧ Adds s t [.longLatencyReturn (replyResult q (q.lanes.map (fun l =>
            (l, [BitVec.ofNat 32 (2 ^ 20)], 0#5))))]) ∧
        (x.state = .stable → vcShares r = 0 → s.vcNamed c n = true → code = 4) ∧
        (x.state = .stable → vcShares r ≠ 0 → fresh r = fresh x.recd → code = 0 ∧ t.vcOf c n = { x with recd := r })))

/-- R211, R275, R276: shares that the hub grants are as many as asked for, no two equal, each present and held by no virtual cache
before; the context's total stays within its quota, and the cache's own within 255. -/
def Sys2Proof.Claim.SharesGranted : Prop :=
  ∀ (s : State) (c : Nat) (r : BitVec 512) (own n : Nat) (sh : List Nat), s.grantShares c r own n = some sh →
    sh.length = n ∧ sh.Nodup ∧ (s.ctx c).heldShares + n ≤ (s.ctx c).quota ∧ own + n ≤ 255 ∧
    ∀ h ∈ sh, s.sharePresent h = true ∧ ∀ k y, (k, y) ∈ s.ctxs → ∀ e ∈ y.vcs, h ∉ e.2.shares ∧ h ∉ e.2.oldShares

/-- R283, R287, R288: the walker moves a line that no job pins and that can be read away from its old position, its sectors to
their new one, and puts one that a job pins off; once no line stands at an old position the change commits: a release leaves nothing, another change
leaves the cache stable with the shares given up free. -/
def Sys2Proof.Claim.VirtualCacheChanges : Prop :=
  (∀ (s : State) c n line l, s.pans = [] → (s.ctx? c).isSome → (s.vcOf c n).lines.filter (fun l => l.old && l.line == line) = [l] →
    (s.linePinned c l = true → exec (.vcMoveStep c n line) s = .next (s.post (.vcMoveStep c n line))) ∧
    (s.linePinned c l = false → s.lineBad l = false → ∃ t : State, exec (.vcMoveStep c n line) s = .next t ∧ t.mem = s.mem ∧ t.threads = s.threads ∧
      t.agenda = s.agenda ∧ (t.vcOf c n).state = (s.vcOf c n).state ∧ (t.vcOf c n).shares = (s.vcOf c n).shares ∧
      (∀ z ∈ (t.vcOf c n).lines, z.old = true → z ∈ (s.vcOf c n).lines ∧ z ≠ l) ∧
      ((s.vcOf c n).state ≠ .releasing → s.halves = [] → (∀ e ∈ (s.ctx c).jobs, e.2.retired = true) → (s.vcOf c n).shares ≠ [] → l.lsz ≤ 3 →
        (∀ k ∈ l.sectors, k < 2 ^ l.lsz) → (∀ z ∈ (s.vcOf c n).lines, z.old = false → z.lsz = vcLsz (s.vcOf c n).recd) →
        ∀ k ∈ l.sectors, ∃ z ∈ (t.vcOf c n).lines, z.old = false ∧ z.tag (l.pa + 128 * k) = true ∧ z.sector (l.pa + 128 * k) ∈ z.sectors))) ∧
  (∀ (s : State) c n, s.pans = [] → (s.ctx? c).isSome → (s.vcOf c n).state ≠ .undefined → (s.vcOf c n).state ≠ .stable →
    ((∃ l ∈ (s.vcOf c n).lines, l.old = true) → exec (.vcCommit c n) s = .next (s.post (.vcCommit c n))) ∧
    ((∀ l ∈ (s.vcOf c n).lines, l.old = false) → (∀ c' n', (s.vcOf c' n').followNext = none ∧ ∀ h ∈ (s.vcOf c' n').shares, s.shareLost h = false) →
      (∀ c', (s.ctx c').heldShares ≤ (s.ctx c').quota) → ∃ t : State, exec (.vcCommit c n) s = .next t ∧
      t.agenda = s.agenda ∧ t.mem = s.mem ∧ t.threads = s.threads ∧
      t.vcOf c n = if (s.vcOf c n).state = .releasing then {} else { s.vcOf c n with state := .stable, oldRec := 0, oldShares := [] }))

/-- R212, R377 to R380: `ckcut` answers 0xFFFFFFFC without the permission, 0xFFFFFFFE while a cut is under way, 0xFFFFFFFB for a
target that it may not write; a bad record traps. Otherwise it admits a job: the granules of the covered ranges are fixed and
their marks cleared, and the copying starts. Each copy puts the next granule's bytes, as they stood, into its place of the
target, or sends them in two frames; a granule that a write waits for goes ahead of its order, before a store writes it, and where the
target's page faults nothing is copied yet; the last one ends the job.
What it says of points that the spec leaves open is the model's choice: notes/assumptions/60, 61, 64, 99, 107. -/
def Obligations.CheckpointCuts : Prop :=
  (∀ (s : State) sw d a bs, (Instr.ckcut sw d a).wf = true → Sound s → Gang s → Clean s (Instr.ckcut sw d a).ops → (s.ctx? s.issue.ctx).isSome →
    let va := val s (s.issue.lanes.headD 0) a 2
    Record s va 64 bs →
    let r := BitVec.ofNat 512 (number bs)
    let tbl := (s.issCtx).trans.ranges
    let answer (w : Nat) : Prop := ∃ t : State, exec (.ckcut sw d a) s = .next t ∧ Advanced s t sw ∧ MemKept s t ∧ t.ctxs = s.ctxs ∧
      Returns s t ⟨.dst, d, 1⟩ (fun _ => w)
    (cutRefused tbl r = true → ∃ t : State, exec (.ckcut sw d a) s = .next t ∧ MemKept s t ∧
      Trapped s t s.issue.lanes s.issue.pos { code := .recordFormat, info := va }) ∧
    (cutRefused tbl r = false → (s.issCtx).set.ckperm = false → answer 0xFFFFFFFC) ∧
    (cutRefused tbl r = false → (s.issCtx).set.ckperm = true → (s.activeCut s.issue.ctx).isSome → answer 0xFFFFFFFE) ∧
    (cutRefused tbl r = false → (s.issCtx).set.ckperm = true → s.activeCut s.issue.ctx = none →
      (cutTargetBad tbl r = true → answer 0xFFFFFFFB) ∧
      (∀ n, cutTargetBad tbl r = false → L1Clean s → s.halves = [] → look (s.issCtx).jobs n = none → (∀ m, m < n → (look (s.issCtx).jobs m).isSome) → n < 4096 →
        let all := cutGranules tbl r (s.issCtx).ckpt.dirty
        ∃ t : State, ∃ j, exec (.ckcut sw d a) s = .next t ∧ Advanced s t sw ∧ (∀ x, t.mem.byte x = s.mem.byte x) ∧
          ReturnsAfter s t [.ckptGranuleCopy s.issue.ctx] ⟨.dst, d, 1⟩ (fun _ => 2 * 2 ^ 22 + (look (s.issCtx).jobGens n).getD 0 % 64 * 2 ^ 16 + n) ∧
          JobIs s t s.issue.ctx n j ∧ j.kind = .cut r all all ∧ (t.issCtx).ckpt.map = all.map (·.1) ∧ (t.issCtx).ckpt.cut = some n ∧
          (∀ g, g ∈ (t.issCtx).ckpt.dirty ↔ g ∈ (s.issCtx).ckpt.dirty ∧ coversGranule tbl r g = false)))) ∧
  (∀ s c n j r all e rest (pa : Nat → Nat), Sound s → s.activeCut c = some (n, j) → j.retired = false → j.stalled = false → j.kind = .cut r all (e :: rest) →
    s.granuleBad c e.2 = false → (∃ x, s.walk c (e.2 * 2 ^ 14) = .ok x) → Quiet s c → s.wbHeld = [] →
    let k := all.findIdx (fun x => x.2 == e.2)
    (cutKind r = 0 → cutSize r < 4 * (k + 1) → ∃ t : State, exec (.ckptGranuleCopy c) s = .next t ∧ t.mem = s.mem ∧ t.threads = s.threads ∧
      JobIs s t c n { j with kind := .cut r all rest } ∧ Posts s t [.ckptGranuleCopy c]) ∧
    (cutKind r = 0 → 4 * (k + 1) ≤ cutSize r → Pieces s c j r k pa →
      ∃ t : State, exec (.ckptGranuleCopy c) s = .next t ∧ t.threads = s.threads ∧
        JobIs s t c n { j with kind := .cut r all rest } ∧ Posts s t [.ckptGranuleCopy c] ∧ Copied s t c e.2 pa) ∧
    (∀ x, cutKind r = 1 → s.sessionOf c ≠ 0 → SendsTwo s (s.sessionOf c) x →
      ∃ t : State, exec (.ckptGranuleCopy c) s = .next t ∧ t.mem = s.mem ∧ t.threads = s.threads ∧
        JobIs s t c n { j with kind := .cut r all rest } ∧ Posts s t [.ckptGranuleCopy c] ∧
        t.out.map (·.frame) = s.out.map (·.frame) ++ [ckHalf s c n r all e.2 0, ckHalf s c n r all e.2 1]) ∧
    (cutKind r = 1 → s.sessionOf c = 0 → ∃ t : State, exec (.ckptGranuleCopy c) s = .next t ∧ t.mem = s.mem ∧ t.threads = s.threads ∧
      JobIs s t c n { j with code := 7 } ∧ Adds s t [.jobRetire c n])) ∧
  (∀ (s : State) c n j r all, s.activeCut c = some (n, j) → j.retired = false → j.stalled = false → j.code = 0 → j.kind = .cut r all [] →
    Quiet s c → s.wbHeld = [] →
    (cutKind r = 0 → ∃ t : State, exec (.ckptGranuleCopy c) s = .next t ∧ t.mem = s.mem ∧ t.threads = s.threads ∧ Adds s t [.jobRetire c n] ∧
      JobIs s t c n { j with code := if cutSize r < 4 * all.length then 8 else 0 }) ∧
    (∀ x, cutKind r = 1 → s.sessionOf c ≠ 0 → SendsTwo s (s.sessionOf c) x → ∃ t : State, exec (.ckptGranuleCopy c) s = .next t ∧ t.mem = s.mem ∧
      t.threads = s.threads ∧ Adds s t [.jobRetire c n] ∧ JobIs s t c n j ∧
      t.out.map (·.frame) = s.out.map (·.frame) ++ [.ckend (s.sessionOf c) (cutTarget r % 2 ^ 16) n all.length])) ∧
  (∀ (s : State) c g n j r all todo (pa : Nat → Nat), Sound s → s.activeCut c = some (n, j) → j.kind = .cut r all todo → (∃ e ∈ todo, e.2 = g) →
    (∀ e ∈ todo, s.sameGranule c g e.2 = true → e.2 = g) → s.granuleBad c g = false → (∃ x, s.walk c (g * 2 ^ 14) = .ok x) → Quiet s c → s.wbHeld = [] →
    let k := all.findIdx (fun x => x.2 == g)
    (cutKind r = 0 → cutSize r < 4 * (k + 1) → ∃ t : State, exec (.ckptCowCopy c g) s = .next t ∧ t.mem = s.mem ∧ t.threads = s.threads ∧ Posts s t [] ∧
      JobIs s t c n { j with kind := .cut r all (todo.filter (fun e => e.2 != g)) }) ∧
    (cutKind r = 0 → 4 * (k + 1) ≤ cutSize r → Pieces s c j r k pa →
      ∃ t : State, exec (.ckptCowCopy c g) s = .next t ∧ t.threads = s.threads ∧ Posts s t [] ∧
        JobIs s t c n { j with kind := .cut r all (todo.filter (fun e => e.2 != g)) } ∧ Copied s t c g pa) ∧
    (∀ f, cutKind r = 0 → 4 * (k + 1) ≤ cutSize r → s.targetPiece c j.ranges (cutTarget r) k 0 = .error f → exec (.ckptCowCopy c g) s = .next s) ∧
    (∀ x, cutKind r = 1 → SendsTwo s (s.sessionOf c) x → ∃ t : State, exec (.ckptCowCopy c g) s = .next t ∧ t.mem = s.mem ∧ t.threads = s.threads ∧ Posts s t [] ∧
      JobIs s t c n { j with kind := .cut r all (todo.filter (fun e => e.2 != g)) } ∧
      t.out.map (·.frame) = s.out.map (·.frame) ++ [ckHalf s c n r all g 0, ckHalf s c n r all g 1])) ∧
  (∀ i (s : State) ty l sp n j r all todo (pa : Nat → Nat), storeForm i = some (.g, true, ty) → i.wf = true → Sound s → Gang s → Clean s i.ops → Unheld s →
    s.issue.lanes = [l] → Maps s (address s l i .g) (width ty) false true sp → sp.attr ≠ 2 → sp.len = width ty → GlobalFree s sp true → OneLine sp.ia (width ty) →
    OthersClean s sp.ia → LineClean s sp.ia → SoleCopy s sp.ia → Opens s sp.ia false true false →
    let c := s.issue.ctx
    let g := sp.ia / 2 ^ 14
    let k := all.findIdx (fun x => x.2 == g)
    s.activeCut c = some (n, j) → j.kind = .cut r all todo → cutKind r = 0 → (∃ e ∈ todo, e.2 = g) → (∀ e ∈ todo, s.sameGranule c g e.2 = true → e.2 = g) →
    s.granuleBad c g = false → 4 * (k + 1) ≤ cutSize r → Pieces s c j r k pa →
    (∀ q, q < 4 → pa q + 2 ^ 12 ≤ s.paOf c (g * 2 ^ 14) ∨ s.paOf c (g * 2 ^ 14) + 2 ^ 14 ≤ pa q) →
    ∃ t : State, exec i s = .next t ∧ Advanced s t (marker i) ∧ look (t.ctx c).jobs n = some { j with kind := .cut r all (todo.filter (fun e => e.2 != g)) } ∧
      (∀ q x, q < 4 → x < 2 ^ 12 → t.mem.byte (pa q + x) = s.mem.byte (s.paOf c (g * 2 ^ 14) + 2 ^ 12 * q + x)) ∧
      ∀ x, x < width ty → t.mem.byte (s.paOf c (sp.ia + x)) = byteOf (src s l i.ops 2) x)

/-- Jobs move data, end, and are waited for: JobElements, JobsEndAndWait, CollectiveWindows (stated above). What it says
of points that the spec leaves open is the model's choice: notes/assumptions/24, 58, 98, 99, 116. -/
def Obligations.JobsRun : Prop :=
  Claim.JobElements ∧ Claim.JobsEndAndWait ∧ Claim.CollectiveWindows

/-- Virtual caches are defined, granted shares, changed, released: VirtualCacheDefinition, SharesGranted,
VirtualCacheChanges (stated above). What it says of points that the spec leaves open is the model's choice:
notes/assumptions/7, 56. -/
def Obligations.VirtualCaches : Prop :=
  Claim.VirtualCacheDefinition ∧ Claim.SharesGranted ∧ Claim.VirtualCacheChanges
/-! ## Privileged instructions; taking a context off its cores and bringing it back -/

namespace Sys2Proof.Claim
open Sys2Proof Sys2Proof.Machine

/-- The three ops of `scan` (R215): the operand decides which. -/
def scanForm : Instr → Option (Bool × Fld × Fld × Fld)
  | .scanStop sw d a b | .scanRestore sw d a b | .scanRestart sw d a b => some (sw, d, a, b)
  | _ => none

/-- The privileged instructions of major 0x3E (R214 to R217). -/
def privilegedForm : Instr → Bool
  | .fltReplay .. | .scanStop .. | .scanRestore .. | .scanRestart .. | .wpset .. | .wpclr .. | .step .. => true
  | _ => false

/-- A register instruction that does nothing but answer a word. -/
def Answers (i : Instr) (s : State) (sw : Bool) (d : Fld) (w : Nat) : Prop :=
  ∃ t : State, exec i s = .next t ∧ Advanced s t sw ∧ RegsKept s t ⟨.dst, d, 1⟩ ∧ MemKept s t ∧ t.ctxs = s.ctxs ∧ t.squares = s.squares ∧ t.agenda = s.agenda ∧
    Holds s t ⟨.dst, d, 1⟩ (fun _ => w)

/-- Every L1 line of a virtual core is clean. -/
abbrev CoreClean (s : State) (c v : Nat) : Prop := ∀ x ∈ (s.core c v).l1, ∀ b ∈ x.bytes, b.2.2 = false

/-- What the threads of a virtual core hold when it is placed again (R139, R356): registers, positions and windows as they were,
but that those that had yielded go on with registers of zero. -/
def ThreadsBack (s t : State) (c v : Nat) : Prop :=
  ∀ p x, p.ctx = c → p.vc = v → look s.threads p = some x → (t.thread p).pos = x.pos ∧ (t.thread p).wb = x.wb ∧ (t.thread p).group = x.group ∧
    (if x.stat = .yielded then (t.thread p).regs = [] ∧ (t.thread p).stat = .run else (t.thread p).regs = x.regs)

/-- Nothing that a placement would wake beside its own threads: no held accesses or bytes, no units to place, no phase or wait that is
due, no answer to a trap that came late, no page fault on its way, no open slot whose apex could rise; a table of threads with one entry for each place. -/
abbrev Still (s : State) (c : Nat) : Prop :=
  Quiet s c ∧ s.wbHeld = [] ∧ (s.ctx c).traps.late = [] ∧ (s.threads.map (·.1)).Nodup ∧ (∀ n, .gatewayPageFault n ∈ s.agenda → n.ctx ≠ c) ∧
  ∀ e ∈ (s.ctx c).slots, e.2.state = .free ∨ e.2.state = .final

end Sys2Proof.Claim

open Sys2Proof Sys2Proof.Machine Sys2Proof.Claim

/-- R214 to R217: in an unprivileged context each of these takes the privileged-instruction trap with the word as info. -/
def Sys2Proof.Claim.PrivilegedTraps : Prop :=
  ∀ i (s : State), privilegedForm i = true → i.wf = true → Sound s → Gang s → Clean s i.ops → s.stepping = false → (s.issCtx).set.priv = false →
    ∃ t : State, exec i s = .next t ∧ MemKept s t ∧ Trapped s t s.issue.lanes s.issue.pos { code := .privileged, info := s.issue.word }

/-- R216, R381, R384: `wpset` refuses, with 1 and no effect, reserved bits, kind 3, an absent square, a context that does not
exist and bytes that are misaligned or outside their level; else it sets the watchpoint and answers 0. `wpclr` clears one; a stop of
the square that this leaves without hits ends, and its cores run. -/
def Sys2Proof.Claim.Watchpoints : Prop :=
  (∀ (s : State) sw d a b, (Instr.wpset sw d a b).wf = true → Sound s → Gang s → Clean s (Instr.wpset sw d a b).ops → (s.issCtx).set.priv = true →
    let l0 := s.issue.lanes.headD 0
    let x := val s l0 b 1
    let va := val s l0 a 2
    let q := x / 2 ^ 26
    let c := x / 2 ^ 16 % 2 ^ 10
    let n := 2 ^ (x / 2 ^ 4 % 4)
    let lev := x / 2 ^ 2 % 4
    let ok (ad : Nat) : Prop := x / 2 ^ 8 % 2 ^ 8 = 0 ∧ x / 2 ^ 6 % 4 ≠ 3 ∧ s.squarePresent q = true ∧ (s.ctx? c).isSome ∧ va % n = 0 ∧
      (lev = 0 → va < 2 ^ 57 ∧ ∃ sp rest, mapSpans (s.ctx c).trans.ranges va n false false = some (sp :: rest) ∧ ad = sp.ia) ∧
      (lev = 1 → va < 2 ^ 27 ∧ ad = va) ∧ (lev = 2 → va < 2 ^ 22 ∧ ad = va) ∧ (lev = 3 → va < 2 ^ 20 ∧ ad = va)
    ((∀ ad, ¬ ok ad) → Answers (.wpset sw d a b) s sw d 1) ∧
    (∀ ad, ok ad → ∃ t : State, exec (.wpset sw d a b) s = .next t ∧ Advanced s t sw ∧ RegsKept s t ⟨.dst, d, 1⟩ ∧ MemKept s t ∧ t.ctxs = s.ctxs ∧
      t.agenda = s.agenda ∧ Holds s t ⟨.dst, d, 1⟩ (fun _ => 0) ∧
      look (t.square q).watches (x % 4) = some { ctx := c, kind := x / 2 ^ 6 % 4, lev := lev, len := x / 2 ^ 4 % 4, addr := ad, shown := va } ∧
      (∀ k, k ≠ x % 4 → look (t.square q).watches k = look (s.square q).watches k) ∧ (t.square q).stops = (s.square q).stops ∧
      ∀ r, r ≠ q → t.square r = s.square r)) ∧
  (∀ (s : State) sw b, (Instr.wpclr sw b).wf = true → Sound s → Gang s → Clean s [⟨.src, b, 1⟩] → (s.issCtx).set.priv = true →
    let x := val s (s.issue.lanes.headD 0) b 1
    let q := x / 2 ^ 26
    (look (s.square q).watches (x % 4) = none → ∃ t : State, exec (.wpclr sw b) s = .next t ∧ Advanced s t sw ∧ ThreadsKept s t ∧ MemKept s t ∧
      t.squares = s.squares ∧ t.agenda = s.agenda) ∧
    (∀ w, look (s.square q).watches (x % 4) = some w → (∀ e ∈ s.cores, e.2.step = none) →
      ((∀ d ∈ (s.square q).stops, d.ctx ≠ w.ctx) → ∃ t : State, exec (.wpclr sw b) s = .next t ∧ Advanced s t sw ∧ ThreadsKept s t ∧ MemKept s t ∧
        (t.square q).watches = del (s.square q).watches (x % 4) ∧ (t.square q).stops = (s.square q).stops ∧ (∀ r, r ≠ q → t.square r = s.square r) ∧
        ∀ c v, (t.core c v).run = (s.core c v).run) ∧
      ((∃ d ∈ (s.square q).stops, d.ctx = w.ctx ∧ d.anyHit = true ∧ ∀ h ∈ d.hits, h = x % 4) → ∃ t : State, exec (.wpclr sw b) s = .next t ∧
        Advanced s t sw ∧ ThreadsKept s t ∧ MemKept s t ∧ (t.square q).watches = del (s.square q).watches (x % 4) ∧
        (∀ d ∈ (t.square q).stops, d.ctx ≠ w.ctx) ∧
        ∀ c v, (t.core c v).run = if c = w.ctx ∧ (s.core c v).run = .debugStopped q then .running else (s.core c v).run)))

/-- R217, R383, R387: `step` answers 2 for reserved bits, a count of 0, an absent core or a line that is not stopped, 1 for a square
without a stop, 3 for one in which a core is stepped; else it starts the step and its gang stays until the step ends. -/
def Sys2Proof.Claim.StepStarts : Prop :=
  ∀ (s : State) sw d a, (Instr.step sw d a).wf = true → Sound s → Gang s → Clean s (Instr.step sw d a).ops → (s.issCtx).set.priv = true → s.stepping = false →
    let x := val s (s.issue.lanes.headD 0) a 1
    let p := x % 2 ^ 10
    let bad := x / 2 ^ 14 % 4 ≠ 0 ∨ x / 2 ^ 16 = 0 ∨ s.corePresent p = false
    (bad → Answers (.step sw d a) s sw d 2) ∧
    (¬ bad → (s.square (p / 16)).stops = [] → Answers (.step sw d a) s sw d 1) ∧
    (¬ bad → (s.square (p / 16)).stops ≠ [] → s.squareStepped (p / 16) = true → Answers (.step sw d a) s sw d 3) ∧
    (¬ bad → (s.square (p / 16)).stops ≠ [] → s.squareStepped (p / 16) = false →
      (s.stoppedLine p (x / 2 ^ 10 % 16) = none → Answers (.step sw d a) s sw d 2) ∧
      (∀ c v, s.stoppedLine p (x / 2 ^ 10 % 16) = some (c, v) → ∃ t : State, ∃ st : StepSt, exec (.step sw d a) s = .next t ∧ ThreadsKept s t ∧ MemKept s t ∧
        (∀ l ∈ s.issue.lanes, (t.lane l).pos = (s.lane l).pos ∧ (t.lane l).stat = (s.lane l).stat) ∧ (t.core c v).step = some st ∧
        st.line = x / 2 ^ 10 % 16 ∧ st.left = x / 2 ^ 16 ∧ st.made = 0 ∧ st.reply.lanes = s.issue.lanes ∧ st.sb = sw))

/-- R214, R317: `flt.replay` with reserved bits takes the record-format trap with the word. Else the fault that a named die holds
for the context is presented again: it enters the die's buffer with the next number, and is held no more. -/
def Sys2Proof.Claim.FaultReplay : Prop :=
  ∀ (s : State) sw a, (Instr.fltReplay sw a).wf = true → Sound s → Gang s → Clean s [⟨.src, a, 1⟩] → (s.issCtx).set.priv = true →
    let w := val s (s.issue.lanes.headD 0) a 1
    let c := w % 2 ^ 10
    (w / 2 ^ 14 ≠ 0 → ∃ t : State, exec (.fltReplay sw a) s = .next t ∧ MemKept s t ∧
      Trapped s t s.issue.lanes s.issue.pos { code := .recordFormat, info := w }) ∧
    (w / 2 ^ 14 = 0 → (∀ d, d < 4 → w.testBit (10 + d) = true → ∀ n ∈ (s.die d).heldFaults, n.ctx ≠ c) → ∃ t : State, exec (.fltReplay sw a) s = .next t ∧
      Advanced s t sw ∧ ThreadsKept s t ∧ MemKept s t ∧ (∀ d, (t.die d).faults = (s.die d).faults ∧ (t.die d).heldFaults = (s.die d).heldFaults) ∧
      t.out = s.out) ∧
    (∀ d n, w = c + 2 ^ (10 + d) → d < 4 → (s.ctx? c).isSome → (s.die d).heldFaults.filter (fun n => n.ctx == c) = [n] → n.die = d →
      (s.die d).faults.length < 256 → ∃ t : State, exec (.fltReplay sw a) s = .next t ∧ Advanced s t sw ∧ ThreadsKept s t ∧ MemKept s t ∧
        (t.die d).faults = (s.die d).faults ++ [{ fid := (s.die d).nextFid, note := n }] ∧ (t.die d).nextFid = ((s.die d).nextFid + 1) % 2 ^ 32 ∧
        (t.die d).heldFaults = (s.die d).heldFaults.filter (fun n => n.ctx != c))

/-- R215, R308: `scan` answers 0xFFFFFFFE to reserved bits or op 3, 0xFFFFFFFD to a core that is not in the state that the op needs; an
unmapped buffer takes the range trap (R308). Else it answers the handle of a job, and op 0 stops the core, op 1 starts its restore, op 2
places the core that was stopped again and its job retires. -/
def Sys2Proof.Claim.ScanStarts : Prop :=
  ∀ i (s : State) sw d a b, scanForm i = some (sw, d, a, b) → i.wf = true → Sound s → Gang s → Clean s [⟨.src, a, 2⟩, ⟨.src, b, 1⟩, ⟨.dst, d, 1⟩] →
    (s.issCtx).set.priv = true → (s.ctx? s.issue.ctx).isSome →
    let l0 := s.issue.lanes.headD 0
    let x := val s l0 b 1
    let va := val s l0 a 2
    let op := x / 2 ^ 12 % 4
    let p := x % 2 ^ 10
    let bad := x / 2 ^ 10 % 4 ≠ 0 ∨ x / 2 ^ 14 ≠ 0 ∨ op = 3
    (bad → Answers i s sw d 0xFFFFFFFE) ∧
    (¬ bad → s.scanReady op p = false → Answers i s sw d 0xFFFFFFFD) ∧
    (¬ bad → s.scanReady op p = true → op ≠ 2 → (2 ^ 57 ≤ va ∨ s.mapVa s.issue.ctx va 0x400000 (op == 1) (op == 0) = none) →
      ∃ t : State, exec i s = .next t ∧ MemKept s t ∧ Trapped s t s.issue.lanes s.issue.pos { code := .range, info := va }) ∧
    (∀ n, ¬ bad → s.scanReady op p = true → (op ≠ 2 → va < 2 ^ 57 ∧ (s.mapVa s.issue.ctx va 0x400000 (op == 1) (op == 0)).isSome) →
      look (s.issCtx).jobs n = none → (∀ m, m < n → (look (s.issCtx).jobs m).isSome) → n < 4096 → op ≠ 2 →
      ∃ t : State, ∃ j : Job, exec i s = .next t ∧ Advanced s t sw ∧ RegsKept s t ⟨.dst, d, 1⟩ ∧ MemKept s t ∧ JobIs s t s.issue.ctx n j ∧ j.kind = .scan op p va ∧
        Holds s t ⟨.dst, d, 1⟩ (fun _ => 3 * 2 ^ 22 + (look (s.issCtx).jobGens n).getD 0 % 64 * 2 ^ 16 + n) ∧
        (op = 1 → Adds s t [.imageRestore s.issue.ctx n p]) ∧ (∀ c v, op = 0 → s.holder p = some (c, v) → Adds s t [.forcedStop c v .scan])) ∧
    (∀ n c v, ¬ bad → s.scanReady op p = true → op = 2 → s.hub.stopped.filter (fun e => e.1 == p) = [(p, c, v)] → (s.ctx? c).isSome → c ≠ s.issue.ctx →
      look (s.issCtx).jobs n = none → (∀ m, m < n → (look (s.issCtx).jobs m).isSome) → n < 4096 → Still s c →
      ∃ t : State, ∃ j : Job, exec i s = .next t ∧ Advanced s t sw ∧ (∀ x, t.mem.byte x = s.mem.byte x) ∧
        JobIs s t s.issue.ctx n j ∧ j.kind = .scan 2 p va ∧ Holds s t ⟨.dst, d, 1⟩ (fun _ => 3 * 2 ^ 22 + (look (s.issCtx).jobGens n).getD 0 % 64 * 2 ^ 16 + n) ∧
        t.phys? c v = some p ∧ ThreadsBack s t c v ∧ Adds s t [.jobRetire s.issue.ctx n])

/-- R347, R348, R349, R351: the deadline stops every core of the context that still runs. A core whose threads all wait is released
as a record; one that is stopped by force has its clock stopped. Its dirty bytes have gone home, its L1 is empty, its
threads are as they were. When its replies are in, a forced stop ends with an image of the core, which holds its
scratchpad byte by byte. -/
def Sys2Proof.Claim.LeavingCores : Prop :=
  (∀ (s : State) c, (s.ctx c).set.preq = true → ∃ t : State, exec (.preemptDeadline c) s = .next t ∧
    Adds s t ((s.ctx c).place.filterMap (fun e => match (s.core c e.1).run with
      | .running => some (.forcedStop c e.1 .deadline)
      | .debugStopped _ => some (.forcedStop c e.1 .debug)
      | _ => none)) ∧ t.threads = s.threads ∧ t.mem = s.mem ∧ t.ctxs = s.ctxs ∧ t.cores = s.cores) ∧
  (∀ (s : State) c, (s.ctx c).set.preq = false → exec (.preemptDeadline c) s = .next s) ∧
  (∀ (s : State) c v p, (s.ctx c).set.preq = true → s.releasable c v = true → s.phys? c v = some p → (s.ctx c).place.filter (fun e => e.1 == v) = [(v, p)] → CoreClean s c v → s.halves = [] →
    ∃ t : State, exec (.coreRelease c v) s = .next t ∧ t.phys? c v = none ∧ (∀ w, w ≠ v → t.phys? c w = s.phys? c w) ∧ (t.core c v).run = .record ∧
      (t.core c v).l1 = [] ∧ (t.core c v).scratch = (s.core c v).scratch ∧ t.threads = s.threads ∧ t.mem = s.mem ∧ t.lines = s.lines ∧
      look (t.ctx c).was v = some p) ∧
  (∀ (s : State) c v, s.releasable c v = false → exec (.coreRelease c v) s = .next s) ∧
  (∀ (s : State) c v k, (s.phys? c v).isSome → (k ≠ .scan → (s.ctx c).set.preq = true) → (s.core c v).run = .running → CoreClean s c v → s.halves = [] →
    ∃ t : State, exec (.forcedStop c v k) s = .next t ∧ (t.core c v).run = .scanning (if k = .scan then .scan else .deadline) none (s.clk c v) ∧ (t.core c v).l1 = [] ∧
      (t.core c v).scratch = (s.core c v).scratch ∧ t.threads = s.threads ∧ t.mem = s.mem ∧ t.ctxs = s.ctxs ∧ Adds s t [.scanComplete c v]) ∧
  (∀ (s : State) c v k sq clk p, (s.core c v).run = .scanning k sq clk → s.phys? c v = some p → (s.ctx c).place.filter (fun e => e.1 == v) = [(v, p)] →
    (s.repliesDue c v = true → exec (.scanComplete c v) s = .next (s.post (.scanComplete c v))) ∧
    (s.repliesDue c v = false → s.coreBad c v (s.lastThere c v p) = false → s.scanJob 0 p = none → ∃ t : State, ∃ im : Image, exec (.scanComplete c v) s = .next t ∧
      t.images = s.images ++ [im] ∧ im.ctx = c ∧ im.vc = v ∧ im.seq = (s.ctx c).imgSeq ∧ im.sq = sq ∧ im.rev = Config.coreRev p ∧
      (∃ b, (0x110000, b) ∈ im.parts ∧ ∀ k, k < 2 ^ 20 → b[k]? = some ((s.core c v).scratch.byte k)) ∧
      (t.core c v).run = .image (s.ctx c).imgSeq ∧ t.phys? c v = none ∧ (t.ctx c).imgSeq = ((s.ctx c).imgSeq + 1) % 2 ^ 32 ∧
      t.threads = s.threads ∧ t.mem = s.mem) ∧
    (∀ c' n j, s.repliesDue c v = false → s.coreBad c v (s.lastThere c v p) = false → k = .scan → s.scanJob 0 p = some (c', n, j) → ∃ t : State, exec (.scanComplete c v) s = .next t ∧
      (p, c, v) ∈ t.hub.stopped ∧ .jobElement c' n ∈ t.agenda ∧ t.phys? c v = none ∧ t.threads = s.threads ∧ t.mem = s.mem))

/-- R245, R246, R336, R355 to R357: a context that was taken off its cores is placed again on cores that keep the rules; its request
flag is cleared and its threads have what they had. It waits while a launch of a higher class is due its cores. A virtual core
may come back alone as the last one. A migration moves the cores of a context to those named, with the bytes of memory
unchanged. -/
def Sys2Proof.Claim.ComingBack : Prop :=
  (∀ (s : State) c cores m, (s.ctx? c).isSome → (s.ctx c).place.length ≠ (s.ctx c).n → ((s.ctx c).place = [] ∨ (s.ctx c).set.preq = false) →
    (∀ e ∈ s.hub.stopped, e.2.1 ≠ c) → s.spoiled c = false → s.choosePlace c cores = some m →
    (s.mustWait c = true → exec (.contextResume c cores) s = .next (s.post (.contextResume c []))) ∧
    (s.mustWait c = false → Still s c → ∃ t : State, exec (.contextResume c cores) s = .next t ∧ (t.ctx c).set.preq = false ∧ t.mem = s.mem ∧
      ∀ v p, s.phys? c v = none → look m v = some p → t.phys? c v = some p ∧ (t.core c v).l1 = [] ∧
        (t.core c v).scratch = (s.core c v).scratch ∧ ThreadsBack s t c v)) ∧
  (∀ (s : State) c cores, (s.ctx? c).isSome → (s.ctx c).place.length = (s.ctx c).n → exec (.contextResume c cores) s = .next s) ∧
  (∀ (s : State) c v p, s.scanJob 1 p = none → (s.ctx? c).isSome → s.phys? c v = none → (put (s.ctx c).place v p).length = (s.ctx c).n → v < (s.ctx c).n →
    s.placeOk c (put (s.ctx c).place v p) = true → s.coreIdle p = true → s.fits c v p = true → (∀ e ∈ s.hub.stopped, e.2 ≠ (c, v)) → s.mustWait c = false →
    Still s c → ∃ t : State, exec (.imageRestore c v p) s = .next t ∧ t.phys? c v = some p ∧ (t.ctx c).set.preq = false ∧ t.mem = s.mem ∧
      ((t.core c v).run = .running ∨ ∃ q, (t.core c v).run = .debugStopped q) ∧ (t.core c v).scratch = (s.core c v).scratch ∧ ThreadsBack s t c v) ∧
  (∀ (s : State) c cores, (s.ctx? c).isSome → (s.ctx c).place.length = (s.ctx c).n → cores.length = (s.ctx c).n → ((s.ctx c).place.map (·.1)).Nodup →
    s.placeOk c ((List.range (s.ctx c).n).zip cores) = true →
    (∀ v p, (v, p) ∈ (List.range (s.ctx c).n).zip cores → s.phys? c v ≠ some p → (s.core c v).run = .running ∧
      (s.releasable c v = true ∨ Config.coreRev (s.phys c v) = Config.coreRev p) ∧ s.repliesDue c v = false ∧ CoreClean s c v) → s.halves = [] → Still s c →
    ∃ t : State, exec (.contextMigrate c cores) s = .next t ∧ t.mem = s.mem ∧
      ∀ v p, (v, p) ∈ (List.range (s.ctx c).n).zip cores → t.phys? c v = some p ∧ (t.core c v).scratch = (s.core c v).scratch ∧
        (s.phys? c v ≠ some p → ThreadsBack s t c v))

/-- Fault replay and scan: FaultReplay, ScanStarts (stated above). What it says of points that the spec leaves open is the
model's choice: notes/assumptions/64, 66. -/
def Obligations.ReplayAndScan : Prop :=
  Claim.FaultReplay ∧ Claim.ScanStarts

/-- Contexts leave their cores and come back: LeavingCores, ComingBack (stated above). What it says of points that the
spec leaves open is the model's choice: notes/assumptions/18, 19, 34, 41, 100. -/
def Obligations.CoresLeaveAndReturn : Prop :=
  Claim.LeavingCores ∧ Claim.ComingBack
/-! ## Management and the host port -/

namespace Sys2Proof.Claim
open Sys2Proof Sys2Proof.Machine

/-- A frame of a type that is accepted on a session (R371 to R373): the device is up, the port takes the packet, the tag is the one that the
session's key gives, the number is due, it frees no frame of the device, and replies may leave at once. -/
abbrev Accepted (s : State) (h : Hdr) (ty : Nat) (x : Session) : Prop :=
  s.hub.power = .up ∧ s.lctOk h = true ∧ look s.hub.sessions h.sess = some x ∧ x.tagHolds h ty = true ∧ h.seq = x.expect ∧
  x.unacked.length < 256 ∧ x.owed = [] ∧ (h.ack = 0 ∨ x.unacked = [])
/-- A management frame that is accepted: it comes on session 0. -/
abbrev Taken (s : State) (h : Hdr) : Prop := h.sess = 0 ∧ s.hub.paused = 0#8 ∧ ∃ x, Accepted s h 0x30 x
/-- A frame of a session that is accepted. -/
abbrev TakenOn (s : State) (h : Hdr) (ty : Nat) : Prop := s.hub.paused = 0#8 ∧ ∃ x, Accepted s h ty x

/-- Frames that leave, in order, each under a header. -/
def Sends (s t : State) (l : List Frame) : Prop := ∃ l', t.out = s.out ++ l' ∧ l'.map (·.frame) = l

/-- The sessions after the reply to a frame of session n and its acknowledgement: the next frame is due, the reply has the session's next
number and is unacknowledged. -/
def SessionsAfter (s u t : State) (h : Hdr) (f : Frame) : Prop :=
  (∀ x, look s.hub.sessions h.sess = some x →
    look t.hub.sessions h.sess = some { x with expect := seqNext h.seq, next := seqNext x.next, unacked := x.unacked ++ [(x.next, f)], acked := h.seq }) ∧
  ∀ n, n ≠ h.sess → look t.hub.sessions n = look u.hub.sessions n

/-- A management operation: it answers code and status with a payload under its header, the frame is acknowledged, and beside that the
state is u and nothing else. -/
def Manages (i : Instr) (s : State) (h : Hdr) (code st : Nat) (pay : List Nat) (u : State) : Prop :=
  ∃ t : State, exec i s = .next t ∧ SessionsAfter s u t h (.mgmt code st pay) ∧
    t = { u with out := t.out, hub := { u.hub with sessions := t.hub.sessions } } ∧
    ∀ x, look s.hub.sessions 0 = some x → t.out = s.out ++
      [{ frame := .mgmt code st pay, hdr := some (lctHeader x 0 x.next (.mgmt code st pay)) },
       { frame := .ack 0 h.seq, hdr := some (lctHeader { x with acked := h.seq } 0 0 (.ack 0 h.seq)) }]

/-- The management operations of R376 that answer whatever the state. -/
def mgmtHdr : Instr → Option Hdr
  | .contextCreate h _ _ _ _ _ _ | .contextDestroy h _ | .queueBind h _ _ _ | .queueUnbind h _ | .rangeRegisterWrite h _ _ _
  | .pageMap h _ _ _ _ | .pageUnmap h _ _ _ | .pageChange h _ _ _ _ | .windowOpenClose h _ _ _ _ _ _ _ _ | .sessionOpenClose h _ _ _ _
  | .faultResolve h _ _ | .faultFail h _ _ | .trapResume h _ _ | .trapRetry h _ _ | .trapAbandon h _ _ | .fabricRecordWrite h _ _
  | .fabricGroupOp h _ _ _ _ | .portStatus h _ _ | .cutMapRead h _ | .delayThrashSet h _ _ _ | .imageSubmit h _ _ _ | .imageRelease h _ _
  | .quotaSet h _ _ => some h
  | _ => none

/-- The translation state of a context after a change of its page entries alone. -/
def withPages (s : State) (c : Nat) (p : Tbl Nat DWord) : State :=
  { s with ctxs := put s.ctxs c { s.ctx c with trans := { (s.ctx c).trans with pages := p } } }

/-- After the entry at a physical address became e (none if e is 0): the other entries, every other context, memory and threads are
as before, no line came into L2, and the lines of a frame whose leaf no walk reaches any more have left it (R312, R318). -/
def EntryWritten (s u : State) (c a : Nat) (e : DWord) : Prop :=
  (∀ k, look (u.ctx c).trans.pages k = if k = a then (if e = 0 then none else some e) else look (s.ctx c).trans.pages k) ∧
  (∀ c', c' ≠ c → u.ctx c' = s.ctx c') ∧ u.mem = s.mem ∧ u.threads = s.threads ∧ u.agenda = s.agenda ∧
  (∀ n, ∀ l ∈ (u.vcOf c n).lines, l ∈ (s.vcOf c n).lines) ∧
  ∀ M p y, (M, p, y) ∈ (s.ctx c).trans.leaves → (M, p, y) ∉ (u.ctx c).trans.leaves → ∀ n, ∀ l ∈ (u.vcOf c n).lines,
    l.pa + l.bytes ≤ pePa y ∨ pePa y + pageSize M ≤ l.pa

/-- No virtual cache has a change to take up: none follows its squares, none has lost a share, every context is within its quota. -/
abbrev NoRetake (s : State) : Prop := ∀ c, (∀ n, (s.vcOf c n).followNext = none ∧ ∀ h ∈ (s.vcOf c n).shares, s.shareLost h = false) ∧
  (s.ctx c).heldShares ≤ (s.ctx c).quota

/-- The fields of a header (R372): version 1, type, session, number, what is acknowledged, the free depth that the frame carries, and the
payload's length, each within its bits; above them the tag over all that and the payload under the session's key. -/
def Headed (b : Nat) (x : Session) (n k : Nat) (f : Frame) : Prop :=
  b % 2 ^ 8 = 0x10 ∧ b / 2 ^ 8 % 2 ^ 8 = f.kind ∧ b / 2 ^ 16 % 2 ^ 16 = n % 2 ^ 16 ∧ b / 2 ^ 32 % 2 ^ 32 = k % 2 ^ 32 ∧ b / 2 ^ 64 % 2 ^ 32 = x.acked % 2 ^ 32 ∧
  b / 2 ^ 96 % 2 ^ 16 = f.credit % 2 ^ 16 ∧ b / 2 ^ 112 % 2 ^ 16 = f.payload.length % 2 ^ 16 ∧
  b / 2 ^ 128 = natOfBytes ((hmacSha256 (bytesOfNat x.key.toNat 32) (bytesOfNat (b % 2 ^ 128) 32 ++ f.payload)).take 16) % 2 ^ 128

/-- The host has acknowledged the frames of a session up to a number (R373): they are free, those that come among the first 256 leave, and
nothing else happens. -/
def Acked (s : State) (o : Host.Outcome State Fault Refusal) (n : Nat) (x : Session) (ack : Nat) : Prop :=
  let up (e : Nat × Frame) : Bool := decide ((ack + 2 ^ 32 - e.1) % 2 ^ 32 < 2 ^ 31)
  let left := x.unacked.filter (fun e => !up e)
  let k := (x.unacked.filter up).length
  ∃ t : State, ∃ y, o = .next t ∧ t.mem = s.mem ∧ t.threads = s.threads ∧ look t.hub.sessions n = some y ∧ y.unacked = left ∧
    Sends s t (((left.drop (256 - k)).take k).map (·.2))

/-- Record f of a die names one lane of the line that the issue latch names, whose core stands and whose thread is x; no other thread holds
an access. -/
abbrev Answered (s : State) (d f : Nat) (r : FaultRec) (l : Nat) (x : Thread) : Prop :=
  (s.die d).faults.filter (fun x => x.fid == f) = [r] ∧ r.stale = false ∧ r.note.job = none ∧ r.note.lanes = [l] ∧
  (r.note.ctx, r.note.vc, r.note.line) = (s.issue.ctx, s.issue.vc, s.issue.line) ∧ s.coreHere s.issue.ctx s.issue.vc = true ∧
  look s.threads (at' s l) = some x ∧ x.heldTrap = false ∧ (∀ e ∈ s.threads, e.1 ≠ at' s l → e.2.held = []) ∧ (s.threads.map (·.1)).Nodup

end Sys2Proof.Claim

open Sys2Proof Sys2Proof.Machine Sys2Proof.Claim

/-- R371, R372, R373, R376: a management frame in a packet that the port drops, on a session that is not open, or while the device is not up, has
no effect; one whose tag is not what its session's key gives is counted and has no other; one on another session than 0, or with a
number that is not due, has none. -/
def Sys2Proof.Claim.FramesRefused : Prop :=
  ∀ i (s : State) h, mgmtHdr i = some h →
    (s.hub.power ≠ .up ∨ s.lctOk h = false ∨ look s.hub.sessions h.sess = none → exec i s = .next s) ∧
    (∀ x, s.hub.power = .up → s.lctOk h = true → look s.hub.sessions h.sess = some x →
      (h.tag.toNat ≠ lctTag x.key (lctHead 0x30 h.sess h.seq h.ack 0 h.bytes.length) h.bytes →
        exec i s = .next { s with hub := { s.hub with portErrors := s.hub.portErrors + 1 } }) ∧
      (h.tag.toNat = lctTag x.key (lctHead 0x30 h.sess h.seq h.ack 0 h.bytes.length) h.bytes → h.sess ≠ 0 ∨ h.seq ≠ x.expect → exec i s = .next s))

/-- R14, R15, R222, R279, R376: creation makes a context with its settings, its vc0 and its register backing area, its cores not yet placed; it is refused for
a number in use or out of range and for shares that cannot be had. A queue is bound with sequence number 1, refused while a
launch of it is not done. The destruction of a context takes every trace of it away, completes its launches with code 0x09, and
leaves memory and every other context's threads. -/
def Sys2Proof.Claim.ContextsAndQueues : Prop :=
  (∀ (s : State) h c n quota priv root v, Taken s h →
    let r := v.getD s.defaultVc0
    let bad := (s.ctx? c).isSome ∨ 1024 ≤ c ∨ n = 0 ∨ s.coresPresent < n ∨ s.vcRefused r .undefined = true
    (bad → Manages (.contextCreate h c n quota priv root v) s h 1 1 [] s) ∧
    (¬ bad → (s.newContext c n quota priv root).grantShares c r 0 (vcShares r) = none → Manages (.contextCreate h c n quota priv root v) s h 1 1 [] s) ∧
    (∀ sh, ¬ bad → (s.newContext c n quota priv root).grantShares c r 0 (vcShares r) = some sh →
      Manages (.contextCreate h c n quota priv root v) s h 1 0 [] { s with
        ctxs := put s.ctxs c { n := n, quota := quota, backing := n * 2 ^ 20, set := { priv := priv, tsel := c }, trans := { root := root }
                               vcs := [(0, { state := .stable, recd := r, shares := sh })] }
        cores := s.cores ++ (List.range n).map (fun k => (⟨c, k⟩, { run := .unplaced })) })) ∧
  (∀ (s : State) h c, Taken s h → (s.ctx? c = none → Manages (.contextDestroy h c) s h 2 2 [] s) ∧
    ((s.ctx? c).isSome → (∀ e ∈ s.launches, e.2.ctx = c → e.2.state = .done) → NoRetake s → ∃ t : State, exec (.contextDestroy h c) s = .next t ∧ t.ctx? c = none ∧
      (∀ c', c' ≠ c → t.ctx? c' = s.ctx? c') ∧ (∀ p, look t.threads p = if p.ctx = c then none else look s.threads p) ∧ t.mem = s.mem ∧
      t.launches = s.launches ∧ (∀ q, (t.square q).sqm = (s.square q).sqm) ∧ Sends s t [.mgmt 2 0 [], .ack 0 h.seq]) ∧
    ((s.ctx? c).isSome → (s.launches.map (·.1)).Nodup → ∃ t : State, exec (.contextDestroy h c) s = .next t ∧ t.ctx? c = none ∧ t.mem = s.mem ∧ ∀ u l,
      look s.launches u = some l → look t.launches u = some (if l.ctx = c ∧ l.state ≠ .done then
        { l with state := .done, code := 9, live := 0, units := [], edges := [], groups := [] } else l))) ∧
  (∀ (s : State) h q c cls, Taken s h →
    (8192 ≤ q ∨ s.ctx? c = none → Manages (.queueBind h q c cls) s h 3 2 [] s) ∧
    (q < 8192 → (s.ctx? c).isSome → 3 < cls ∨ (∃ e ∈ s.launches, e.2.queue = q ∧ e.2.state ≠ .done) → Manages (.queueBind h q c cls) s h 3 1 [] s) ∧
    (q < 8192 → (s.ctx? c).isSome → cls ≤ 3 → (∀ e ∈ s.launches, e.2.queue = q → e.2.state = .done) →
      Manages (.queueBind h q c cls) s h 3 0 [] { s with
        launches := s.launches.map (fun e => if e.2.queue = q then (e.1, { e.2 with queue := 8192 }) else e)
        queues := put s.queues q { ctx := c, cls := cls, next := 1, items := [] } })) ∧
  (∀ (s : State) h q, Taken s h →
    (look s.queues q = none → Manages (.queueUnbind h q) s h 3 2 [] s) ∧
    ((look s.queues q).isSome → (∃ e ∈ s.launches, e.2.queue = q ∧ e.2.state ≠ .done) → Manages (.queueUnbind h q) s h 3 1 [] s) ∧
    ((look s.queues q).isSome → (∀ e ∈ s.launches, e.2.queue = q → e.2.state = .done) →
      Manages (.queueUnbind h q) s h 3 0 [] { s with
        launches := s.launches.map (fun e => if e.2.queue = q then (e.1, { e.2 with queue := 8192 }) else e), queues := del s.queues q }))

/-- R373, R374, R376: a window opens on bytes of the context that its session is bound to, within the virtual addresses, and closes;
a session from 1 to 255 opens for a context and closes with its windows. Anything else is refused (1), or names nothing that exists
(2), without effect. -/
def Sys2Proof.Claim.WindowsAndSessions : Prop :=
  (∀ (s : State) h w k c base size rd wr, Taken s h →
    let i : Instr := .windowOpenClose h true w k c base size rd wr
    ((s.ctx? c = none ∨ look s.hub.sessions k = none) → Manages i s h 8 2 [] s) ∧
    (∀ x, (s.ctx? c).isSome → look s.hub.sessions k = some x →
      ((k ≠ 0 ∧ x.ctx ≠ c) ∨ (look s.hub.windows w).isSome ∨ size = 0 ∨ 2 ^ 57 < base + size → Manages i s h 8 1 [] s) ∧
      ((k = 0 ∨ x.ctx = c) → look s.hub.windows w = none → 0 < size → base + size ≤ 2 ^ 57 →
        Manages i s h 8 0 [] { s with hub := { s.hub with windows := put s.hub.windows w ⟨k, c, base, size, rd, wr⟩ } }))) ∧
  (∀ (s : State) h w k c base size rd wr, Taken s h →
    let i : Instr := .windowOpenClose h false w k c base size rd wr
    (look s.hub.windows w = none → Manages i s h 8 2 [] s) ∧
    ((look s.hub.windows w).isSome → Manages i s h 8 0 [] { s with hub := { s.hub with windows := del s.hub.windows w } })) ∧
  (∀ (s : State) h o k c key, Taken s h →
    let i : Instr := .sessionOpenClose h o k c key
    (k = 0 ∨ 256 ≤ k → Manages i s h 9 1 [] s) ∧
    (k ≠ 0 → k < 256 → o = true →
      (s.ctx? c = none → Manages i s h 9 2 [] s) ∧
      ((s.ctx? c).isSome → (look s.hub.sessions k).isSome → Manages i s h 9 1 [] s) ∧
      ((s.ctx? c).isSome → look s.hub.sessions k = none →
        Manages i s h 9 0 [] { s with hub := { s.hub with sessions := put s.hub.sessions k { ctx := c, key := key } } })) ∧
    (k ≠ 0 → k < 256 → o = false →
      (look s.hub.sessions k = none → Manages i s h 9 2 [] s) ∧
      (∀ x, look s.hub.sessions k = some x → s.activeCut x.ctx = none → Manages i s h 9 0 [] { s with hub := { s.hub with
        sessions := del s.hub.sessions k, windows := s.hub.windows.filter (fun w => w.2.sess != k) } })))

/-- R306, R307, R309 to R312, R272, R284: range registers, page entries, market allotments and quotas. A record or an entry that breaks
its rules is refused (1); a context, a table or an entry that does not exist is status 2. A new entry has clear marks, a changed
one keeps the hardware's, and the lines of a frame that is no longer mapped leave L2. An allotment's new bytes read zero. -/
def Sys2Proof.Claim.TranslationManagement : Prop :=
  (∀ (s : State) h c k r, Taken s h →
    (s.ctx? c = none → Manages (.rangeRegisterWrite h c k r) s h 4 2 [] s) ∧
    (∀ x, s.ctx? c = some x → (16 ≤ k ∨ rrRefused x.trans.ranges k r = true) → Manages (.rangeRegisterWrite h c k r) s h 4 1 [] s) ∧
    (∀ x, s.ctx? c = some x → k < 16 → rrRefused x.trans.ranges k r = false → Manages (.rangeRegisterWrite h c k r) s h 4 0 [] { s with
      ctxs := put s.ctxs c { x with trans := { x.trans with ranges := put x.trans.ranges k r } } })) ∧
  (∀ (s : State) h c L ia e, Taken s h →
    (s.ctx? c = none → Manages (.pageMap h c L ia e) s h 5 2 [] s ∧ Manages (.pageUnmap h c L ia) s h 6 2 [] s ∧ Manages (.pageChange h c L ia e) s h 7 2 [] s) ∧
    (∀ x, s.ctx? c = some x →
      let e' := e &&& ~~~(3#64 <<< 53)
      (s.pageRefused c L ia e = true → Manages (.pageMap h c L ia e) s h 5 1 [] s) ∧
      (x.trans.entryAt L ia = none → Manages (.pageUnmap h c L ia) s h 6 2 [] s ∧ Manages (.pageChange h c L ia e) s h 7 2 [] s ∧
        (s.pageRefused c L ia e = false → Manages (.pageMap h c L ia e) s h 5 2 [] s)) ∧
      (∀ a, x.trans.entryAt L ia = some a → s.halves = [] →
        (look x.trans.pages a = none → Manages (.pageUnmap h c L ia) s h 6 2 [] s ∧ Manages (.pageChange h c L ia e) s h 7 2 [] s ∧
          (s.pageRefused c L ia e = false → e' ≠ 0 → Manages (.pageMap h c L ia e) s h 5 0 [] (withPages s c (put x.trans.pages a e')))) ∧
        (∀ old, look x.trans.pages a = some old →
          (∃ u, Manages (.pageUnmap h c L ia) s h 6 0 [] u ∧ EntryWritten s u c a 0) ∧
          (s.pageRefused c L ia e = true → Manages (.pageChange h c L ia e) s h 7 1 [] s) ∧
          (s.pageRefused c L ia e = false → (∃ u, Manages (.pageMap h c L ia e) s h 5 0 [] u ∧ EntryWritten s u c a e') ∧
            ∃ u, Manages (.pageChange h c L ia e) s h 7 0 [] u ∧ EntryWritten s u c a (e' ||| (old &&& (3#64 <<< 53)))))))) ∧
  (∀ (s : State) h c q, Taken s h →
    (s.ctx? c = none → Manages (.quotaSet h c q) s h 0x13 2 [] s) ∧
    (∀ x, s.ctx? c = some x → NoRetake { s with ctxs := put s.ctxs c { x with quota := q } } →
      Manages (.quotaSet h c q) s h 0x13 0 [] { s with ctxs := put s.ctxs c { x with quota := q } })) ∧
  (∀ (s : State) h c d b z x, Taken s h → s.ctx? c = some x →
    let old := (look x.trans.market d).getD (0, 0)
    let bad := s.diePresent d = false ∨ b % 65536 ≠ 0 ∨ z % 65536 ≠ 0 ∨ 2 ^ 25 < b + z ∨
      z ≠ 0 ∧ ∃ c' y b' z', (c', y) ∈ s.ctxs ∧ c' ≠ c ∧ look y.trans.market d = some (b', z') ∧ b' < b + z ∧ b < b' + z'
    (old.2 ≠ 0 → s.allotBusy c d old.1 old.2 b z = true →
      exec (.marketAllotmentSet h c d b z) s = .next (s.post (.marketAllotmentSet h c d b z))) ∧
    ((old.2 = 0 ∨ s.allotBusy c d old.1 old.2 b z = false) →
      (bad → Manages (.marketAllotmentSet h c d b z) s h 0x14 1 [] s) ∧
      (¬ bad → ∃ t : State, exec (.marketAllotmentSet h c d b z) s = .next t ∧ t.mem = s.mem ∧ t.threads = s.threads ∧
        Sends s t [.mgmt 0x14 0 [], .ack 0 h.seq] ∧ look (t.ctx c).trans.market d = (if z = 0 then none else some (b, z)) ∧
        ∀ a, (s.die d).market.wf = true → (t.die d).market.byte a =
          if b ≤ a ∧ a < b + z ∧ ¬ (old.1 ≤ a ∧ a < old.1 + old.2) then 0#8 else (s.die d).market.byte a)))

/-- R223, R319, R364, R365, R367, R376, R378, R102: the fabric record, fabric groups, the port's report and addresses, delays and
thrash parameters, the cut map, and kernel images. -/
def Sys2Proof.Claim.SettingsManagement : Prop :=
  (∀ (s : State) h r routes, Taken s h →
    let bad := fabricRefused r = true ∨ (fabMode r ≠ 1 ∧ routes ≠ []) ∨ ∃ e ∈ routes, 32 ≤ e.2
    (bad → Manages (.fabricRecordWrite h r routes) s h 0x0C 1 [] s) ∧
    (¬ bad → Manages (.fabricRecordWrite h r routes) s h 0x0C 0 [] { s with hub := { s.hub with fabric := { s.hub.fabric with recd := r, routes := routes } } })) ∧
  (∀ (s : State) h g c d, Taken s h →
    let f := s.hub.fabric
    (g ∈ f.groupIds ∨ 2 ^ 32 ≤ g → Manages (.fabricGroupOp h true g c d) s h 0x0D 1 [] s) ∧
    (g ∉ f.groupIds → g < 2 ^ 32 → Manages (.fabricGroupOp h true g c d) s h 0x0D 0 [] { s with hub := { s.hub with fabric := { f with groupIds := f.groupIds ++ [g] } } }) ∧
    (g ∉ f.groupIds ∨ (d = s.ownDevice ∧ s.ctx? c = none) → Manages (.fabricGroupOp h false g c d) s h 0x0D 2 [] s) ∧
    (g ∈ f.groupIds → (d ≠ s.ownDevice ∨ (s.ctx? c).isSome) →
      ((∃ y ∈ f.groups, y.1 = g ∧ y.2.1 = d) → Manages (.fabricGroupOp h false g c d) s h 0x0D 1 [] s) ∧
      ((∀ y ∈ f.groups, ¬ (y.1 = g ∧ y.2.1 = d)) →
        Manages (.fabricGroupOp h false g c d) s h 0x0D 0 [] { s with hub := { s.hub with fabric := { f with groups := f.groups ++ [(g, d, c)] } } }))) ∧
  (∀ (s : State) h p l, Taken s h →
    (l.2.length ≤ 8 → Manages (.portStatus h p (some l)) s h 0x0E 0 [] { s with hub := { s.hub with addrs := l.1, vlans := l.2 } }) ∧
    (8 < l.2.length → Manages (.portStatus h p (some l)) s h 0x0E 1 [] s) ∧
    (32 ≤ p ∨ p ∈ s.hub.ras.absentPorts → Manages (.portStatus h p none) s h 0x0E 2 [] s) ∧
    (p < 32 → p ∉ s.hub.ras.absentPorts → Manages (.portStatus h p none) s h 0x0E 0
      [portStateCode ((look s.hub.fabric.ports p).getD .down), (look s.hub.fabric.retransmits p).getD 0, s.hub.portErrors,
        4, 224, 800, 64, 56, 4, 4, 8, 2, 600] s)) ∧
  (∀ (s : State) h k d, Taken s h →
    (3 < k → Manages (.delayThrashSet h k d none) s h 0x10 1 [] s) ∧
    (k ≤ 3 → Manages (.delayThrashSet h k d none) s h 0x10 0 [] { s with hub := { s.hub with delays := setNth s.hub.delays k d } }) ∧
    ∀ n w t, (1 ≤ n ∧ n ≤ 255 ∧ 10000 ≤ w ∧ w ≤ 100000000 ∧ t ≤ 1000000000 →
        Manages (.delayThrashSet h k d (some (n, w, t))) s h 0x10 0 [] { s with hub := { s.hub with thrash := (n, w, t) } }) ∧
      (¬ (1 ≤ n ∧ n ≤ 255 ∧ 10000 ≤ w ∧ w ≤ 100000000 ∧ t ≤ 1000000000) → Manages (.delayThrashSet h k d (some (n, w, t))) s h 0x10 1 [] s)) ∧
  (∀ (s : State) h c, Taken s h → (s.ctx? c = none → Manages (.cutMapRead h c) s h 0x0F 2 [] s) ∧
    ∀ x, s.ctx? c = some x → Manages (.cutMapRead h c) s h 0x0F 0 x.ckpt.map s) ∧
  (∀ (s : State) h c va n x ss u, Taken s h → s.ctx? c = some x → s.mapVa c va n true false = some ss → s.openPages c (spanIas ss) true false = .ok u →
    u.badByte c (spanIas ss) = none →
    (∀ e, checkKernel c x.set.priv x.set.ylim ((spanIas ss).map (u.homeByte c)) = .error e → Manages (.imageSubmit h c va n) s h 0x11 1 [e, 0] u) ∧
    (∀ k, checkKernel c x.set.priv x.set.ylim ((spanIas ss).map (u.homeByte c)) = .ok k → Manages (.imageSubmit h c va n) s h 0x11 0 [0, s.hub.nextKhnd]
      { u with kernels := s.kernels ++ [(s.hub.nextKhnd, k)], hub := { u.hub with nextKhnd := s.hub.nextKhnd + 1 } })) ∧
  (∀ (s : State) h c n, Taken s h →
    ((∀ k, look s.kernels n = some k → k.ctx = c → k.released = true) → Manages (.imageRelease h c n) s h 0x12 2 [] s) ∧
    (∀ k, look s.kernels n = some k → k.ctx = c → k.released = false →
      Manages (.imageRelease h c n) s h 0x12 0 [] { s with kernels := put s.kernels n { k with released := true } }))

/-- R316, R317, R341, R343, R388, R400, R401: fault records and trap records. A fault takes the next number of its die's buffer and its
record goes to management; with the buffer full it is held and counted. An answer frees its record: a job goes on, or retires with
code 0x05; a write-back's record cannot be failed. Trap records go to the context's queue while it has room. Management's
resume takes trapped lanes past their position, retry lets them run where they stand, abandon ends their threads.
What it says of points that the spec leaves open is the model's choice: notes/assumptions/48. -/
def Obligations.FaultsAndTrapsAnswered : Prop :=
  (∀ (s : State) n, (s.ctx? n.ctx).isSome →
    ((s.die n.die).faults.length < 256 → ∃ t u : State, exec (.gatewayPageFault n) s = .next t ∧ exec (.writebackFault n) s = .next u ∧ u = t ∧
      t.threads = s.threads ∧ t.mem = s.mem ∧ t.ctxs = s.ctxs ∧ t.agenda = s.agenda ∧
      t.die n.die = { s.die n.die with faults := (s.die n.die).faults ++ [{ fid := (s.die n.die).nextFid, note := n }]
                                       nextFid := ((s.die n.die).nextFid + 1) % 2 ^ 32 } ∧
      (∀ x, look s.hub.sessions 0 = some x → s.hub.paused = 0#8 → x.unacked.length < 256 → Sends s t [.event (faultRecord n (s.die n.die).nextFid)])) ∧
    (256 ≤ (s.die n.die).faults.length → ∃ t u : State, exec (.gatewayPageFault n) s = .next t ∧ exec (.writebackFault n) s = .next u ∧ u = t ∧
      t.threads = s.threads ∧ t.mem = s.mem ∧ t.out = s.out ∧ t.die n.die = { s.die n.die with heldFaults := (s.die n.die).heldFaults ++ [n] } ∧
      (t.ctx n.ctx).set.fltc.toNat = 2 ^ 31 + min (2 ^ 31 - 1) ((s.ctx n.ctx).set.fltc.toNat % 2 ^ 31 + 1))) ∧
  (∀ (s : State) h d f, Taken s h →
    ((∀ r ∈ (s.die d).faults, r.fid ≠ f) → Manages (.faultResolve h d f) s h 0x0A 2 [] s ∧ Manages (.faultFail h d f) s h 0x0A 2 [] s) ∧
    (∀ r, (s.die d).faults.filter (fun x => x.fid == f) = [r] →
      (∀ j, r.note.job = some j → (r.stale = true ∨ ∀ x, look (s.ctx r.note.ctx).jobs j = some x → x.stalled = false ∨ x.retired = true ∨ x.code ≠ 0) →
        ∃ t u : State, exec (.faultResolve h d f) s = .next t ∧ exec (.faultFail h d f) s = .next u ∧ t.ctxs = s.ctxs ∧ u.ctxs = s.ctxs ∧ t.agenda = s.agenda ∧
          u.agenda = s.agenda ∧ (t.die d).faults = (s.die d).faults.filter (fun x => x.fid != f)) ∧
      (∀ j x, r.note.job = some j → r.stale = false → look (s.ctx r.note.ctx).jobs j = some x → x.stalled = true → x.retired = false → x.code = 0 →
        ∃ t u : State, exec (.faultResolve h d f) s = .next t ∧
        (t.die d).faults = (s.die d).faults.filter (fun x => x.fid != f) ∧ JobIs s t r.note.ctx j { x with stalled := false } ∧
        ((∃ a b e, x.kind = .cut a b e) → Adds s t [.ckptGranuleCopy r.note.ctx]) ∧
        ((∀ a b e, x.kind ≠ .cut a b e) → Adds s t [.jobElement r.note.ctx j]) ∧ exec (.faultFail h d f) s = .next u ∧ (u.die d).faults = (s.die d).faults.filter (fun x => x.fid != f) ∧
        JobIs s u r.note.ctx j { x with code := 5, stalled := false } ∧ Adds s u [.jobRetire r.note.ctx j]) ∧
      (r.note.job = none → r.note.lanes = [] → Manages (.faultFail h d f) s h 0x0A 1 [] s) ∧
      (r.note.job = none → r.note.lanes ≠ [] → r.stale = true → ∃ t u : State, exec (.faultResolve h d f) s = .next t ∧ exec (.faultFail h d f) s = .next u ∧
        t.threads = s.threads ∧ t.mem = s.mem ∧ u.threads = s.threads ∧ u.mem = s.mem ∧ (t.die d).faults = (s.die d).faults.filter (fun x => x.fid != f)))) ∧
  (∀ (s : State) h d f r l x id, Taken s h → Answered s d f r l x → (x.stat = .run ∨ x.stat = .parked id) →
    (∀ pos va bs sp, x.held = [⟨pos, .store .g true va bs, some [sp], some r.note.ia⟩] → bs.length = sp.len → sp.attr ≠ 2 → GlobalFree s sp true →
      OneLine sp.ia sp.len → sp.ia < 2 ^ 52 → OthersClean s sp.ia → LineClean s sp.ia → NoCut s → SoleCopy s sp.ia → Opens s sp.ia false true false → 0 < sp.len →
      ∃ t : State, exec (.faultResolve h d f) s = .next t ∧ Sends s t [.mgmt 0x0A 0 [], .ack 0 h.seq] ∧ Posts s t [] ∧ (∀ e ∈ (t.die d).faults, e.fid ≠ f) ∧
        t.lane l = { x with held := [] } ∧ (∀ k, k < sp.len → some (t.mem.byte (s.paOf s.issue.ctx (sp.ia + k))) = bs[k]?) ∧
        ∀ pa, (∀ k, k < sp.len → pa ≠ s.paOf s.issue.ctx (sp.ia + k)) → t.mem.byte pa = s.mem.byte pa) ∧
    (∀ pos va n sg dst sp, x.held = [⟨pos, .load .g false va n sg dst, some [sp], some r.note.ia⟩] → sp.len = n → 0 < n → sp.attr ≠ 2 → GlobalFree s sp false →
      OneLine sp.ia n → sp.ia < 2 ^ 52 → OthersClean s sp.ia → l1Bytes s sp.ia n = none → SoleCopy s sp.ia → Opens s sp.ia true false false →
      (∀ k, k < n → s.badByte s.issue.ctx [sp.ia + k] = none) →
      ∃ t : State, exec (.faultResolve h d f) s = .next t ∧ Sends s t [.mgmt 0x0A 0 [], .ack 0 h.seq] ∧ (∀ e ∈ (t.die d).faults, e.fid ≠ f) ∧
        t.lane l = { x with held := [] } ∧ (∀ a, t.mem.byte a = s.mem.byte a) ∧ Posts s t [.longLatencyReturn (laneResult dst l (loadWords n sg
          ((List.range n).map (fun k => (ownDirty s (sp.ia + k)).getD (s.homeByte s.issue.ctx (sp.ia + k))))))])) ∧
  (∀ (s : State) h d f r l x id, Taken s h → Answered s d f r l x → x.held = [] → x.stat = .parkedRetry id →
    (∃ t : State, exec (.faultResolve h d f) s = .next t ∧ Sends s t [.mgmt 0x0A 0 [], .ack 0 h.seq] ∧ t.lane l = { x with stat := .parked id } ∧ t.agenda = s.agenda ∧ t.mem = s.mem) ∧
    ∃ u : State, exec (.faultFail h d f) s = .next u ∧ Sends s u [.mgmt 0x0A 0 [], .ack 0 h.seq] ∧ u.mem = s.mem ∧
      Trapped s u [l] x.pos { code := .translation, cause := r.note.cause, info := r.note.ia }) ∧
  (∀ (s : State) h d f r l x y, Taken s h → Answered s d f r l x → x.held = [y] → y.faulted = some r.note.ia → (∀ q m, x.stat ≠ .trapped q m) →
    ∃ u : State, exec (.faultFail h d f) s = .next u ∧ Sends s u [.mgmt 0x0A 0 [], .ack 0 h.seq] ∧ u.mem = s.mem ∧ (u.lane l).heldTrap = true ∧
      (u.lane l).stat = .trapped (s.issCtx).traps.tseq false ∧ (u.lane l).held = [y] ∧ (u.lane l).pos = x.pos ∧ (u.lane l).regs = x.regs ∧
      Trapped s u [l] y.pos { code := .translation, cause := r.note.cause, info := r.note.ia }) ∧
  (∀ (s : State) c x r rest, s.ctx? c = some x → x.traps.waiting = r :: rest →
    (64 ≤ x.traps.queue.length → exec (.trapRecordEnqueue c) s = .next (s.post (.trapRecordEnqueue c))) ∧
    (x.traps.queue.length < 64 → ∃ t : State, exec (.trapRecordEnqueue c) s = .next t ∧ t.threads = s.threads ∧ t.mem = s.mem ∧ t.agenda = s.agenda ∧
      t.ctx c = { x with traps := { x.traps with queue := x.traps.queue ++ [r], waiting := rest } } ∧
      (∀ y, look s.hub.sessions 0 = some y → s.hub.paused = 0#8 → y.unacked.length < 256 → Sends s t [.event r]))) ∧
  (∀ (s : State) h c q, Taken s h → s.trappedLanes c q = [] → Manages (.trapResume h c q) s h 0x0B 2 [] s ∧ Manages (.trapRetry h c q) s h 0x0B 2 [] s ∧
    Manages (.trapAbandon h c q) s h 0x0B 2 [] s) ∧
  (∀ (s : State) h c q, Taken s h → (∃ e ∈ s.trappedLanes c q, e.2 = true) → Manages (.trapResume h c q) s h 0x0B 1 [] s ∧ Manages (.trapRetry h c q) s h 0x0B 1 [] s) ∧
  (∀ (s : State) h c q, Taken s h → s.trappedLanes c q ≠ [] → (∀ e ∈ s.trappedLanes c q, e.2 = false ∧ s.coreHere c e.1.vc = true ∧ (s.thread e.1).heldTrap = false) →
    Still s c → ∃ t u : State, exec (.trapResume h c q) s = .next t ∧ exec (.trapRetry h c q) s = .next u ∧ t.mem = s.mem ∧ u.mem = s.mem ∧
      Sends s t [.mgmt 0x0B 0 [], .ack 0 h.seq] ∧ Sends s u [.mgmt 0x0B 0 [], .ack 0 h.seq] ∧ ∀ p,
      (p ∈ (s.trappedLanes c q).map (·.1) → t.thread p = { s.thread p with stat := .run, pos := nextPos (s.thread p), opened := nextOpened (s.thread p) } ∧
        u.thread p = { s.thread p with stat := .run }) ∧
      (p ∉ (s.trappedLanes c q).map (·.1) → t.thread p = s.thread p ∧ u.thread p = s.thread p)) ∧
  (∀ (s : State) h c q p m, Taken s h → s.trappedLanes c q = [(p, m)] → s.coreHere c p.vc = true → s.groupOf c ⟨p.vc, p.line, p.lane⟩ = none →
    (s.line c p.vc p.line).drains = [] → ∃ t : State,
    exec (.trapAbandon h c q) s = .next t ∧ Sends s t [.mgmt 0x0B 0 [], .ack 0 h.seq] ∧ look t.threads p = none ∧ t.mem = s.mem ∧ (∀ p', p' ≠ p → t.thread p' = s.thread p') ∧
    ∀ l, look s.launches (s.thread p).launch = some l → ∃ l', look t.launches (s.thread p).launch = some l' ∧ l'.live = l.live - 1 ∧
      l'.code = if l.code = 0 then 8 else l.code)

/-- R371 to R375, R394: the host port. A WRITE within a window puts its bytes at their homes and no others, a READ returns the bytes
there; an access that its window, its pages or a missing entry do not allow answers a status and has no effect; one to a page whose virtual cache
is being released, or whose line finds no way, waits. Acknowledgements
free frames; a timeout sends the unacknowledged again. ARP and echo requests are answered, flow control pauses what it names.
What it says of points that the spec leaves open is the model's choice: notes/assumptions/71, 72, 83, 102, 103, 106. -/
def Obligations.HostPort : Prop :=
  (∀ (s : State) h w o (data : List Byte) (c : Nat) (ias : List Nat), TakenOn s h 0x20 → s.hostGo h w o data.length true = .go c ias → ias.length = data.length → data ≠ [] →
    (∀ a ∈ ias, a / 128 = (ias.headD 0) / 128) → ias.Nodup → (∀ a ∈ ias, a < 2 ^ 52) → (s.ctx c).ckpt.cut = none → s.halves = [] →
    ∃ t : State, exec (.hostWrite h w o data) s = .next t ∧ t.threads = s.threads ∧ Sends s t [.wstat h.sess 0, .ack h.sess h.seq] ∧ Posts s t [] ∧
      (∀ (k : Nat) (a : Nat), ias[k]? = some a → some (t.mem.byte (s.paOf c a)) = data[k]?) ∧
      (∀ pa, (∀ a ∈ ias, pa ≠ s.paOf c a) → t.mem.byte pa = s.mem.byte pa)) ∧
  (∀ (s : State) h w o n c ias, TakenOn s h 0x21 → s.hostGo h w o n false = .go c ias → s.badByte c ias = none → (∀ a ∈ ias, a < 2 ^ 52) →
    ∃ t : State, exec (.hostRead h w o n) s = .next t ∧ t.threads = s.threads ∧ t.mem = s.mem ∧ Posts s t [] ∧
      Sends s t [.data h.sess 0 (ias.map (fun a => s.mem.byte (s.paOf c a))), .ack h.sess h.seq]) ∧
  (∀ (s : State) h w o n k data,
    (TakenOn s h 0x21 → s.hostGo h w o n false = .status k → ∃ t : State, exec (.hostRead h w o n) s = .next t ∧ t.mem = s.mem ∧ t.threads = s.threads ∧
      Sends s t [.data h.sess k [], .ack h.sess h.seq]) ∧
    (TakenOn s h 0x20 → s.hostGo h w o data.length true = .status k → ∃ t : State, exec (.hostWrite h w o data) s = .next t ∧ t.mem = s.mem ∧ t.threads = s.threads ∧
      Sends s t [.wstat h.sess k, .ack h.sess h.seq])) ∧
  (∀ (s : State) h w o n data,
    (TakenOn s h 0x21 → s.hostGo h w o n false = .wait → exec (.hostRead h w o n) s = .next (s.post (.hostRead h w o n))) ∧
    (TakenOn s h 0x20 → s.hostGo h w o data.length true = .wait → exec (.hostWrite h w o data) s = .next (s.post (.hostWrite h w o data)))) ∧
  (∀ (s : State) h w o n wr, (∀ x, look s.hub.windows w = some x → x.sess ≠ h.sess ∨ (wr = true ∧ x.wr = false) ∨ (wr = false ∧ x.rd = false) ∨ x.size < o + n ∨ 8192 < n) →
    s.hostGo h w o n wr = .status 1) ∧
  (∀ (s : State) h ack x, s.hub.power = .up → s.lctOk h = true → look s.hub.sessions h.sess = some x → x.tagHolds { h with ack := ack } 0x02 = true →
    s.hub.paused = 0#8 → x.owed = [] → (∀ e ∈ x.unacked, ∀ r, e.2 ≠ .event r) → Acked s (exec (.lctAck h ack) s) h.sess x ack) ∧
  (∀ (s : State) h c x, s.hub.power = .up → h.sess = 0 → s.lctOk h = true → look s.hub.sessions 0 = some x → x.tagHolds h 0x30 = true → h.seq = x.expect →
    h.ack ≠ 0 → s.hub.paused = 0#8 → x.owed = [] → x.unacked.length < 256 → (∀ e ∈ x.unacked, ∀ r, e.2 ≠ .event r) → s.ctx? c = none →
    ∃ t : State, ∃ y, exec (.cutMapRead h c) s = .next t ∧ Sends s t [.mgmt 0x0F 2 [], .ack 0 h.seq] ∧ look t.hub.sessions 0 = some y ∧ y.expect = seqNext h.seq ∧
      y.unacked = x.unacked.filter (fun e => !decide ((h.ack + 2 ^ 32 - e.1) % 2 ^ 32 < 2 ^ 31)) ++ [(x.next, .mgmt 0x0F 2 [])]) ∧
  (∀ (s : State) h c x, h.sess = 0 → Accepted s h 0x30 x → s.hub.paused.getLsbD (Config.sessionPriority 0 % 8) = true → s.ctx? c = none →
    ∃ t : State, exec (.cutMapRead h c) s = .next t ∧ t.out = s.out ∧
      t.hub.portQueue = s.hub.portQueue ++ [(0, x.next, .mgmt 0x0F 2 []), (0, 0, .ack 0 h.seq)]) ∧
  (∀ (s : State) n x, s.hub.power = .up → s.hub.paused = 0#8 → look s.hub.sessions n = some x →
    exec (.lctRetransmitTimeout n) s = .next { s with out := s.out ++ (x.unacked.take 256).map (fun e => { frame := e.2, hdr := some (lctHeader x n e.1 e.2) }) }) ∧
  (∀ (s : State) n, s.packetOk n = true ↔ n.fragment = false ∧ n.options = false ∧ (n.vlans = [] ∨ ∃ v, v ∈ s.hub.vlans ∧ n.vlans = [v])) ∧
  (∀ (s : State) (h : Hdr), s.lctOk h = true ↔ s.packetOk h.net = true ∧ h.udp = 31640 ∧ h.checksum = true ∧ h.bytes.length ≤ 9000) ∧
  (∀ x n k f, Headed (lctHeader x n k f).toNat x n k f) ∧
  (∀ (s : State) a, exec (.arpRequest a) s = .next (if s.hub.power = .up ∧ s.packetOk a.net = true ∧ a.addr ∈ s.hub.addrs then
    { s with out := s.out ++ [{ frame := .arp a.addr }] } else s)) ∧
  (∀ (s : State) a, exec (.icmpEcho a) s = .next (if s.hub.power = .up ∧ s.packetOk a.net = true ∧ a.addr ∈ s.hub.addrs then
    { s with out := s.out ++ [{ frame := .icmp a.payload }] } else s)) ∧
  (∀ (s : State) k p, s.hub.power = .up → ∃ t : State, exec (.priorityFlowControlFrame k p) s = .next t ∧ t.hub.paused = (s.hub.paused &&& ~~~k) ||| (p &&& k) ∧
    t.mem = s.mem ∧ t.threads = s.threads ∧ t.hub.sessions = s.hub.sessions ∧
    t.out = s.out ++ (s.hub.portQueue.filter (fun e => !t.hub.paused.getLsbD (Config.sessionPriority e.1 % 8))).filterMap (fun e =>
      (look s.hub.sessions e.1).map (fun x => { frame := e.2.2, hdr := some (lctHeader x e.1 e.2.1 e.2.2) })) ∧
    t.hub.portQueue = s.hub.portQueue.filter (fun e => t.hub.paused.getLsbD (Config.sessionPriority e.1 % 8)))

/-- Management of contexts, queues, windows, sessions: FramesRefused, ContextsAndQueues, WindowsAndSessions (stated
above). What it says of points that the spec leaves open is the model's choice: notes/assumptions/72, 73, 74, 102,
103, 106. -/
def Obligations.ContextManagement : Prop :=
  Claim.FramesRefused ∧ Claim.ContextsAndQueues ∧ Claim.WindowsAndSessions

/-- Management of translation and settings: TranslationManagement, SettingsManagement (stated above). What it says of
points that the spec leaves open is the model's choice: notes/assumptions/32, 37, 72, 75. -/
def Obligations.TranslationAndSettings : Prop :=
  Claim.TranslationManagement ∧ Claim.SettingsManagement
/-! ## Launches, gang sets, placement of pages, the debug unit, the fabric's ports, banks, clocks and power -/

namespace Sys2Proof.Claim
open Sys2Proof Sys2Proof.Machine

/-- Threads and memory are as before. -/
def Untouched (s t : State) : Prop := t.threads = s.threads ∧ t.lines = s.lines ∧ t.mem = s.mem ∧ (∀ q, (t.square q).sqm = (s.square q).sqm) ∧
  ∀ c v, (t.core c v).scratch = (s.core c v).scratch

/-- A freshly placed thread of a launch (R235, R236): registers and flags zero, window at 0, in no group or one just made, ready to run. -/
def Fresh (uid : Nat) (x : Thread) : Prop :=
  x.launch = uid ∧ x.regs = [] ∧ x.fst = 0#5 ∧ x.wb = 0 ∧ x.stat = .run ∧ x.held = [] ∧ x.opened = false ∧ x.diverted = false ∧ x.priv = []

/-- The session that a frame came on belongs to the context of a queue, or is session 0 (R222). -/
def MayUse (s : State) (h : Hdr) (q : Queue) : Prop := h.sess = 0 ∨ (look s.hub.sessions h.sess).map (·.ctx) = some q.ctx

/-- A slice unit of a launch has been placed (R230): each of its threads stands somewhere, fresh, with its flat index. -/
def Placed (t : State) (uid : Nat) (r : BitVec 2048) (e : Nat × Nat) : Prop :=
  ∀ i, i < 4 → 4 * e.2 + i < roleCount (lrRole r e.1) → ∃ p x, look t.threads p = some x ∧ Fresh uid x ∧ x.role = e.1 ∧ x.tid = roleBase r e.1 + 4 * e.2 + i

/-- The batch of slice units that a unit begins (R234). -/
def batch (r : BitVec 2048) (e : Nat × Nat) : List (Nat × Nat) := (List.range (batchLen r e.1 e.2)).map (fun i => (e.1, e.2 + i))

end Sys2Proof.Claim

open Sys2Proof Sys2Proof.Machine Sys2Proof.Claim

/-- R222, R229, R372: a LAUNCH frame to a queue that is not bound to its session's context is refused with code 1, to a full one with
code 2. Else the launch takes the queue's next number and is accepted with the free depth that is left; the LAUNCH is acknowledged
once its ACCEPT has been sent. A record that breaks its rules completes at once with its code. A launch whose edges are met is offered. -/
def Sys2Proof.Claim.Launches : Prop :=
  (∀ (s : State) q, s.freeDepth q = if look s.queues q = none then 0 else 64 - (s.launches.filter (fun e => e.2.queue == q && e.2.state != .done)).length) ∧
  (∀ (s : State) h q r x, s.hub.power = .up → s.lctOk h = true → look s.hub.sessions h.sess = some x → x.tagHolds h 0x10 = true → h.seq = x.expect → h.ack = 0 →
    256 ≤ x.unacked.length → look s.queues q = none → ∃ t : State, ∃ y, exec (.launch h q r) s = .next t ∧ Untouched s t ∧ t.out = s.out ∧
      look t.hub.sessions h.sess = some y ∧ y.unacked = x.unacked ++ [(x.next, .accept h.sess q 0 1 0)] ∧ y.owed = x.owed ++ [(h.seq, x.next)] ∧ y.acked = x.acked) ∧
  (∀ (s : State) h q r, TakenOn s h 0x10 →
    ((∀ x, look s.queues q = some x → ¬ MayUse s h x) → ∃ t : State, exec (.launch h q r) s = .next t ∧ Untouched s t ∧ t.queues = s.queues ∧ t.launches = s.launches ∧
      Sends s t [.accept h.sess q 0 1 (s.freeDepth q), .ack h.sess h.seq]) ∧
    (∀ x, look s.queues q = some x → MayUse s h x →
      (64 ≤ x.items.length → ∃ t : State, exec (.launch h q r) s = .next t ∧ Untouched s t ∧ t.queues = s.queues ∧ t.launches = s.launches ∧
        Sends s t [.accept h.sess q 0 2 (s.freeDepth q), .ack h.sess h.seq]) ∧
      (x.items.length < 64 → s.recordCodeOf x.ctx r = 0 → lrEdges r = [] → ∃ t : State, exec (.launch h q r) s = .next t ∧ Untouched s t ∧
        look t.queues q = some { x with next := seqNext x.next, items := x.items ++ [s.hub.nextLaunch] } ∧ t.hub.nextLaunch = s.hub.nextLaunch + 1 ∧
        look t.launches s.hub.nextLaunch = some { queue := q, seq := x.next, ctx := x.ctx, recd := r, sess := h.sess } ∧
        Sends s t [.accept h.sess q x.next 0 (t.freeDepth q), .ack h.sess h.seq] ∧ Adds s t [.launchStart q []]) ∧
      (x.items.length < 64 → s.recordCodeOf x.ctx r ≠ 0 → ∃ t : State, ∃ l : Launch, exec (.launch h q r) s = .next t ∧ Untouched s t ∧
        look t.launches s.hub.nextLaunch = some l ∧ l.state = .done ∧ l.code = s.recordCodeOf x.ctx r ∧ l.seq = x.next))) ∧
  (∀ (s : State) u l k, look s.launches u = some l → l.state = .waiting → k ∈ l.edges →
    (s.producer l k = none → ∃ t : State, exec (.edgeSatisfied u k) s = .next t ∧ Untouched s t ∧ look t.launches u = some { l with edges := l.edges.filter (· != k) } ∧
      Adds s t (if ∀ e ∈ l.edges, e = k then [.launchStart l.queue []] else [])) ∧
    (∀ v p, s.producer l k = some (v, p) → p.state = .done → p.code = 0 → lrEdgeBuf l.recd k = 0 → ∃ t : State, exec (.edgeSatisfied u k) s = .next t ∧ Untouched s t ∧
      look t.launches u = some { l with edges := l.edges.filter (· != k) } ∧ Adds s t (if ∀ e ∈ l.edges, e = k then [.launchStart l.queue []] else [])) ∧
    (∀ v p, s.producer l k = some (v, p) → p.state = .done → p.code ≠ 0 → ∃ t : State, ∃ l' : Launch, exec (.edgeSatisfied u k) s = .next t ∧ Untouched s t ∧
      look t.launches u = some l' ∧ l'.state = .done ∧ l'.code = 4)) ∧
  (∀ (s : State) u l, look s.launches u = some l → l.state = .started → l.live = 0 → l.units = [] → l.groups = [] → lrFbuf l.recd = 0 →
    ∃ t : State, ∃ l' : Launch, exec (.launchComplete u) s = .next t ∧ Untouched s t ∧ look t.launches u = some l' ∧ l'.state = .done ∧ l'.code = l.code ∧
      (∀ x, look s.queues l.queue = some x → look t.queues l.queue = some { x with items := x.items.filter (· != u) }) ∧ .launchStart l.queue [] ∈ t.agenda) ∧
  (∀ (s : State) u l, look s.launches u = some l → (l.state ≠ .started ∨ l.live ≠ 0 ∨ l.units ≠ [] ∨ l.groups ≠ []) → exec (.launchComplete u) s = .next s)

/-- R223, R229, R230 to R236: the offered launch whose turn it is starts, or completes with code 0x05, 0x06 or 0x07. Threads that
placement adds are fresh threads of the launch; what is still to place is part of what was. A launch whose delay has passed asks
the contexts that run only launches of lower classes on the cores that it needs to leave; one that can start now asks none. -/
def Sys2Proof.Claim.Starting : Prop :=
  (∀ (s : State) q cores u t, s.offerOf q = some u → (s.sweepEntry u).nextStart cores = some u → (s.sweepEntry u).startLaunch u cores = some t →
    t.offerOf q = none →
    exec (.launchStart q cores) s = .next { t with hub := { t.hub with turn := setNth t.hub.turn ((s.sweepEntry u).classOf u) (q + 1) } } ∧
    ∃ l : Launch, look t.launches u = some l ∧ (l.state = .started ∨ l.state = .done ∧ (l.code = 5 ∨ l.code = 6 ∨ l.code = 7))) ∧
  (∀ (s : State) q cores, s.offerOf q = none → exec (.launchStart q cores) s = .next s) ∧
  (∀ (s : State) q cores u l k w, s.offerOf q = some u → let v := s.sweepEntry u
    v.nextStart cores = some u → look v.launches u = some l → (v.ctx l.ctx).place.length = (v.ctx l.ctx).n → look v.kernels (khndOf l.recd) = some k →
    v.runsRefused l.ctx l.recd = false → v.areasRefused l.ctx l.recd k = false → lrCores l.recd = false → v.copyData l.ctx l.recd k = .ok w →
    ∀ e es, unitsOf l.recd = e :: es →
    ((w.modLaunch u (fun l => { l with state := .started, units := unitsOf l.recd })).placeBatch u l.recd (batch l.recd e)).isSome →
    ∃ t : State, ∃ l' : Launch, exec (.launchStart q cores) s = .next t ∧ look t.launches u = some l' ∧ l'.state = .started ∧
      (∀ d ∈ batch l.recd e, d ∉ l'.units) ∧ ∀ d ∈ unitsOf l.recd, d ∉ l'.units → Placed t u l.recd d) ∧
  (∀ (s : State) u k j l, look s.launches u = some l → let v := unitCore (lrRole l.recd k) j
    ((s.placeUnit u k j).isSome ↔ (s.coreThreads l.ctx v).length + 4 ≤ 512 ∧ s.entryWaits l v = false ∧
      ((∃ e, (s.lines.filter (fun e => e.1.ctx == l.ctx && e.1.vc == v && e.2.launch == u && e.2.role == k)).getLast? = some e ∧ e.2.slices < 8) ∨
        ∃ n, n < 16 ∧ ∀ e ∈ s.lines, e.1.ctx = l.ctx → e.1.vc = v → e.1.line ≠ n))) ∧
  (∀ (s : State) u l e es, look s.launches u = some l → l.state = .started → l.units = e :: es → (s.ctx l.ctx).n ≤ (s.ctx l.ctx).place.length →
    ((s.sweepEntry u).placeBatch u l.recd (batch l.recd e)).isSome →
    ∃ t : State, ∃ l' : Launch, exec (.unitPlace u) s = .next t ∧ look t.launches u = some l' ∧ ∀ d ∈ batch l.recd e, d ∉ l'.units ∧ Placed t u l.recd d) ∧
  (∀ (s : State) u l, look s.launches u = some l → l.state = .started → l.units ≠ [] → (s.ctx l.ctx).n ≤ (s.ctx l.ctx).place.length →
    ∃ t : State, ∃ l' : Launch, exec (.unitPlace u) s = .next t ∧ look t.launches u = some l' ∧ l'.placed = l'.units.isEmpty ∧ (∀ x ∈ l'.units, x ∈ l.units) ∧
      ∀ p x, look s.threads p = none → look t.threads p = some x → Fresh u x) ∧
  (∀ (s : State) q, (s.offerOf q = none → exec (.preemptDelayExpiry q) s = .next s) ∧
    (∀ u l, s.offerOf q = some u → look s.launches u = some l → (s.ctxs.map (·.1)).Nodup →
      (s.nextStart [] = some u → exec (.preemptDelayExpiry q) s = .next s) ∧
      (s.nextStart [] ≠ some u → ∃ t : State, exec (.preemptDelayExpiry q) s = .next t ∧ Untouched s t ∧
        ∀ c x, look s.ctxs c = some x →
          let needed := s.coresFor l (s.classOf u)
          let leaves := (∃ p ∈ x.place, p.2 ∈ needed) ∧ ∀ e ∈ s.threads, e.1.ctx = c → (∃ p, s.phys? c e.1.vc = some p ∧ p ∈ needed) →
            s.classOf e.2.launch < s.classOf u
          (leaves → (t.ctx c).set.preq = true) ∧ (¬ leaves → (t.ctx c).set.preq = x.set.preq))))

/-- R241, R242: once the gang that has waited longest for the active set of its core has waited more than 4096 cycles, it enters
the set; until then, and with no gang waiting, nothing changes. -/
def Sys2Proof.Claim.GangSets : Prop :=
  ∀ (s : State) c v, let rs := s.gangSets c v (s.coreGangs c v)
    (earliestPending (s.coreGangs c v) rs = none → exec (.gangPromotion c v) s = .next s) ∧
    (∀ p, earliestPending (s.coreGangs c v) rs = some p → ∃ t : State, exec (.gangPromotion c v) s = .next t ∧
      if 4096 < s.cyclesFrom (s.phys c v / 160) p.since (s.aux.time - p.since) then
        Untouched s t ∧ t.agenda = s.agenda ∧
        (∃ r ∈ (t.core c v).gangs, r.line = p.line ∧ r.slices = p.slices ∧ r.active = true ∧ r.since = s.aux.time) ∧
        (t.core c v).gangs.map (fun r => (r.line, r.slices)) = rs.map (fun r => (r.line, r.slices))
      else t = s)

/-- R273, R290, R401: a line's dirty bytes reach their homes: each stands there afterwards, the line holds them clean, and no other
byte of memory changes. A byte with a parity error stays as it is (the model's choice, log 108). -/
def Sys2Proof.Claim.StoresArrive : Prop :=
  ∀ (s : State) c v ia x, Sound s → s.l1Find c v (ia / 128 * 128) = some x → (∀ y ∈ (s.core c v).l1, y.ia = x.ia → y = x) → (x.bytes.map (·.1)).Nodup →
    (∀ b ∈ x.bytes, b.1 < 128) → (s.ctx c).ckpt.cut = none → x.ia + 128 ≤ 2 ^ 52 → s.halves = [] → s.wbHeld = [] →
    (∀ b ∈ x.bytes, ∃ r, s.openPage c (x.ia + b.1) false true = .ok r) →
    ∃ t : State, exec (.storePerform c v ia) s = .next t ∧ t.threads = s.threads ∧ Posts s t [] ∧ t.wbHeld = s.wbHeld ∧
      let bad (b : Nat × Byte × Bool) : Bool := s.badChip.contains ⟨.g, (c, v), x.ia + b.1⟩
      (∀ b ∈ x.bytes, b.2.2 = true → bad b = false → t.mem.byte (s.paOf c (x.ia + b.1)) = b.2.1) ∧
      (∀ pa, (∀ b ∈ x.bytes, b.2.2 = true → bad b = false → pa ≠ s.paOf c (x.ia + b.1)) → t.mem.byte pa = s.mem.byte pa) ∧
      (∃ y, t.l1Find c v (ia / 128 * 128) = some y ∧ y.bytes = x.bytes.map (fun b => (b.1, b.2.1, b.2.2 && bad b)))

/-- R318, R319: a page that may move goes to a free frame, and no context can see it by its bytes: every mapped address of every
context reads what it read. A page that an engine, an open slot or a cut holds waits; one that moved too often moves only when
management asks.
What it says of points that the spec leaves open is the model's choice: notes/assumptions/46. -/
def Obligations.MigrationInvisible : Prop :=
  (∀ (s : State) c ia pa L e asked, Sound s → s.halves = [] → s.walk c ia = .ok (L, e) → peMig e = true → (L = 2 → pa < lpBase) →
    s.frameFree pa (pageSize L) = true → (∀ M p, (M, p, e) ∈ (s.ctx c).trans.leaves → M = L) →
    let key := ia >>> levelShift L <<< levelShift L
    (asked = false → key ∈ (s.ctx c).trans.throttled → exec (.pageMigrate c ia ⟨pa, asked⟩) s = .next s) ∧ ((asked = true ∨ key ∉ (s.ctx c).trans.throttled) →
    (s.pagePinned c key (pageSize L) = true → exec (.pageMigrate c ia ⟨pa, asked⟩) s = .next (s.post (.pageMigrate c ia ⟨pa, asked⟩))) ∧
    (s.pagePinned c key (pageSize L) = false → ∃ t : State, exec (.pageMigrate c ia ⟨pa, asked⟩) s = .next t ∧ t.threads = s.threads ∧ t.paOf c ia = pa + ia % pageSize L ∧
      ∀ c' a le, a < 2 ^ 52 → s.walk c' a = .ok le → t.mem.byte (t.paOf c' a) = s.mem.byte (s.paOf c' a)))) ∧
  (∀ (s : State) c ia, ∃ t : State, exec (.thrashThrottleExpiry c ia) s = .next t ∧ Untouched s t ∧ t.agenda = s.agenda ∧ ∀ k,
    (k ∈ (t.ctx c).trans.throttled ↔ k ∈ (s.ctx c).trans.throttled ∧ k ≠ ia))

/-- R382, R386, R387: a hit of an armed watchpoint in a square without a stop of its context stops every core of the square on which
the context runs; during a stop it adds to the stop. Its records take the context's next trap numbers. Threads and memory stay. -/
def Sys2Proof.Claim.DebugStops : Prop :=
  (∀ (s : State) h, s.ctx? h.ctx = none → exec (.watchpointHit h) s = .next s) ∧
  (∀ (s : State) h w, (s.ctx? h.ctx).isSome → h.kind ≠ .brk → (∃ v ∈ h.vals, look (s.square h.sq).watches v.wp = some w) → w.ctx = h.ctx →
    (∀ d ∈ (s.square h.sq).stops, d.ctx ≠ h.ctx) → ∃ t : State, exec (.watchpointHit h) s = .next t ∧ Untouched s t ∧
      (∃ d ∈ (t.square h.sq).stops, d.ctx = h.ctx ∧ d.anyHit = true) ∧
      ∀ v p, (v, p) ∈ (s.ctx h.ctx).place → p / 16 = h.sq → (t.core h.ctx v).run =
        if (s.core h.ctx v).run = .running then .debugStopped h.sq else (s.core h.ctx v).run) ∧
  (∀ (s : State) h d, (s.ctx? h.ctx).isSome → d ∈ (s.square h.sq).stops → d.ctx = h.ctx → ∃ t : State, exec (.watchpointHit h) s = .next t ∧ Untouched s t ∧
    (∀ c v, (t.core c v).run = (s.core c v).run) ∧ (∃ d' ∈ (t.square h.sq).stops, d'.ctx = h.ctx ∧ ∀ k ∈ d.hits, k ∈ d'.hits) ∧
    (t.ctx h.ctx).traps.waiting.length = (s.ctx h.ctx).traps.waiting.length + (if h.kind = .brk then 1 else 2 * h.vals.length)) ∧
  (∀ (s : State) h, (s.ctx? h.ctx).isSome → h.kind ≠ .brk → (∀ v ∈ h.vals, look (s.square h.sq).watches v.wp = none) →
    (∀ d ∈ (s.square h.sq).stops, d.ctx ≠ h.ctx) → ∃ t : State, exec (.watchpointHit h) s = .next t ∧ Untouched s t ∧ t.squares = s.squares ∧ t.cores = s.cores)

/-- R5, R42, R364, R366, R390 to R392, R396: a retransmitted flit is counted and delivers nothing; a port takes the state it is told unless it
is absent. A bank of a group that fails is rebuilt into the spare row by row; with no spare left and two banks gone, or with three, the group is
lost: a market is retired, and every context on a core that is lost is asked to leave and stopped. A die's clock falls to the droop's
step, and rises by one step at a time to 3.3 GHz, and the cycles that clk has counted stay. -/
def Sys2Proof.Claim.PortsBanksClocks : Prop :=
  (∀ (s : State) p, ∃ t : State, exec (.flitRetransmit p) s = .next t ∧ Untouched s t ∧ t.agenda = s.agenda ∧ t.out = s.out ∧
    look t.hub.fabric.retransmits p = some ((look s.hub.fabric.retransmits p).getD 0 + 1)) ∧
  (∀ (s : State) p st, (32 ≤ p ∨ p ∈ s.hub.ras.absentPorts → exec (.portStateChange p st) s = .next s) ∧
    (p < 32 → p ∉ s.hub.ras.absentPorts → (∀ e ∈ s.ctxs, ∀ j ∈ e.2.jobs, j.2.retired = true) →
      exec (.portStateChange p st) s = .next { s with hub := { s.hub with fabric := { s.hub.fabric with ports := put s.hub.fabric.ports p st } } })) ∧
  (∀ (s : State) g k, s.groupThere g = true → k ≤ 18 →
    let b := s.bankOf g
    (b.lost = true ∨ k ∈ b.failed → exec (.bankMarkFailed g k) s = .next s) ∧
    (b.lost = false → k ∉ b.failed →
      (b.failed = [] → k ≠ 18 → b.rebuilding = none → ∃ t : State, exec (.bankMarkFailed g k) s = .next t ∧ Untouched s t ∧
        t.bankOf g = { b with failed := [k], rebuilding := some (k, 0) } ∧ Adds s t [.bankRebuildRow g]) ∧
      (b.failed = [] → k = 18 → ∃ t : State, exec (.bankMarkFailed g k) s = .next t ∧ Untouched s t ∧
        t.bankOf g = { b with failed := [18], spareUsed := true } ∧ t.agenda = s.agenda) ∧
      (b.failed.length = 1 → b.spareUsed = false → k ≠ 18 → b.rebuilding.isSome → ∃ t : State, exec (.bankMarkFailed g k) s = .next t ∧ Untouched s t ∧
        t.bankOf g = { b with failed := b.failed ++ [k] } ∧ t.agenda = s.agenda) ∧
      (2 ≤ b.failed.length ∨ (b.failed ≠ [] ∧ (b.spareUsed = true ∨ k = 18)) → ∃ t : State, exec (.bankMarkFailed g k) s = .next t ∧ t.threads = s.threads ∧ t.mem = s.mem ∧
        (t.bankOf g).lost = true ∧ (t.bankOf g).rebuilding = none ∧ (g.unit = .market → (t.die g.which).marketRetired = true) ∧
        (g.unit ≠ .market → g.unit ≠ .l2 → g.which ∈ t.hub.ras.retiredCores ∧ ∀ c x e, (s.ctxs.map (·.1)).Nodup → look s.ctxs c = some x → e ∈ x.place →
          e.2 = g.which → (t.ctx c).set.preq = true ∧ ((s.core c e.1).run = .running → .forcedStop c e.1 .deadline ∈ t.agenda))))) ∧
  (∀ (s : State) g k r, (s.bankOf g).rebuilding = some (k, r) →
    (r + 1 < bankRows g.unit → ∃ t : State, exec (.bankRebuildRow g) s = .next t ∧ Untouched s t ∧ t.bankOf g = { s.bankOf g with rebuilding := some (k, r + 1) } ∧
      Adds s t [.bankRebuildRow g]) ∧
    (bankRows g.unit ≤ r + 1 → ∃ t : State, exec (.bankRebuildRow g) s = .next t ∧ Untouched s t ∧
      t.bankOf g = { s.bankOf g with rebuilding := none, spareUsed := true, replaced := some k } ∧ t.agenda = s.agenda)) ∧
  (∀ (s : State) d x, d ≤ 4 → (x = 30 ∨ x = 27 ∨ x = 24) → ∃ t u : State, exec (.clockDroop d x) s = .next t ∧ Untouched s t ∧ t.clockOf d = min x (s.clockOf d) ∧
    exec (.clockStepUp d) s = .next u ∧ Untouched s u ∧ u.clockOf d = (if 33 ≤ s.clockOf d then s.clockOf d else s.clockOf d + 3) ∧
    ∀ c v, t.clk c v = s.clk c v ∧ u.clk c v = s.clk c v)

/-- R397 to R399: the governor divides the pool in proportion to demand, and gives every unit at least a twentieth of an even share; a thermal
limit takes a tenth of the tokens; a thermal trip asserts THALRM and removes power, with which every context, all memory and all else in
flight is lost; power-up reads the straps, and no context, thread or byte of memory is there; a bank that the self-test finds bad is marked. -/
def Sys2Proof.Claim.PowerManagement : Prop :=
  (∀ (s : State) demand, ∃ t : State, exec (.governorRound demand) s = .next t ∧ Untouched s t ∧
    (∀ d, d < 4 → (t.die d).budget = s.unitBudget demand d) ∧ t.hub.fabric.portBudget = (List.range 32).map (fun p => s.unitBudget demand (4 + p)) ∧
    ((List.range 36).map (s.unitBudget demand)).sum ≤ s.tokens ∧
    ∃ low : List Nat, low.Nodup ∧ (∀ u ∈ low, u < 36) ∧ ∀ u, u < 36 → s.tokens * 5 / 3600 ≤ s.unitBudget demand u ∧
      s.unitBudget demand u = if u ∈ low then s.tokens * 5 / 3600 else
        (s.tokens - low.length * (s.tokens * 5 / 3600)) * demand.getD u 0 / (((List.range 36).filter (fun v => !low.contains v)).map (fun v => demand.getD v 0)).sum) ∧
  (∀ (s : State) d, s.hub.shrunk = 0 → s.tokens = (s.hub.pool - Config.fixedDraw) / 4 ∧
    ∃ t : State, exec (.thermalLimit d) s = .next t ∧ t.tokens = s.tokens - s.tokens / 10) ∧
  (∀ (s : State) d, ∃ t : State, exec (.thermalLimit d) s = .next t ∧ Untouched s t ∧ t.hub.pool = s.hub.pool ∧ t.tokens = s.tokens - s.tokens / 10 ∧
    t.hub.ras.logn = s.hub.ras.logn + 1) ∧
  (∀ (s : State), ∃ t : State, exec .thermalTrip s = .next t ∧ Untouched s t ∧ t.hub.therm = true ∧ Adds s t [.corePowerRemove]) ∧
  (∀ (s : State), (s.hub.therm = false → exec .corePowerRemove s = .next s) ∧
    (s.hub.therm = true → ∃ t : State, exec .corePowerRemove s = .next t ∧ t.hub.power = .off ∧ t.mem = [] ∧ t.squares = [] ∧ t.dies = [] ∧ t.dramSyms = [] ∧ t.badSyms = [] ∧ t.badStores = [] ∧
      (∀ c, t.ctx? c = none) ∧ ∀ i ∈ t.agenda, ∃ x, i = .powerUp x)) ∧
  (∀ (s : State) x, ∃ t : State, exec (.powerUp x) s = .next t ∧ t.ctxs = [] ∧ t.threads = [] ∧ t.mem = [] ∧ t.cores = [] ∧ (∀ i ∈ t.agenda, ∃ g, i = .bankRebuildRow g) ∧
    (∀ g, (t.bankOf g).rebuilding.isSome → .bankRebuildRow g ∈ t.agenda) ∧ t.launches = [] ∧ t.hub.straps = x ∧
    t.hub.pool = 3600 - 600 * (x.pwrlim % 4) ∧ t.hub.therm = false ∧
    t.hub.power = (if x.bootmd ≠ 0 then .halted else if x.physel = 3 ∨ s.hub.prov = false then .portDown else .up) ∧
    (∀ c, c ∈ s.hub.ras.absentCores ∨ c ∈ s.hub.ras.retiredCores ∨ c ∈ x.test.cores → t.corePresent c = false) ∧
    (x.test.banks = [] → t.hub.ras.logn = 0) ∧ ∀ g k, x.test.banks = [(g, k)] → k ≤ 18 → look s.hub.ras.banks g = none → t.groupThere g = true →
      (t.bankOf g).failed = [k] ∧ t.hub.ras.logn = 1)

/-- Loads, stores and prefetches of global memory, and how stores arrive: GlobalLoads, GlobalStores, Prefetches,
StoresArrive (stated above). What it says of points that the spec leaves open is the model's choice:
notes/assumptions/21, 28, 33, 47, 104, 108. -/
def Obligations.GlobalAccess : Prop :=
  Claim.GlobalLoads ∧ Claim.GlobalStores ∧ Claim.Prefetches ∧ Claim.StoresArrive

/-- Launches are accepted, start, and their gangs are promoted: Launches, Starting, GangSets (stated above). What it says
of points that the spec leaves open is the model's choice: notes/assumptions/2, 41, 105. -/
def Obligations.LaunchesRun : Prop :=
  Claim.Launches ∧ Claim.Starting ∧ Claim.GangSets

/-- Watchpoints, stops and stepping: Watchpoints, StepStarts, DebugStops (stated above). What it says of points that the
spec leaves open is the model's choice: notes/assumptions/43, 65, 117. -/
def Obligations.DebugUnit : Prop :=
  Claim.Watchpoints ∧ Claim.StepStarts ∧ Claim.DebugStops

/-- Ports, banks, clocks and power: PortsBanksClocks, PowerManagement (stated above). What it says of points that the spec
leaves open is the model's choice: notes/assumptions/14, 76, 77, 80, 81. -/
def Obligations.HardwareEvents : Prop :=
  Claim.PortsBanksClocks ∧ Claim.PowerManagement

/-! ## Encoding, loading, and steps -/

namespace Sys2Proof.Claim
open Sys2Proof Sys2Proof.Machine

/-- `scan` is one encoding with three rows of the table: its op stands in a register (R215). Its words decode to the first. -/
def otherScan : Instr → Bool
  | .scanRestore .. | .scanRestart .. => true
  | _ => false

/-- The majors that the opcode map leaves free (R84). -/
def unassignedMajors : List Nat := [0x19, 0x1A, 0x1B, 0x27, 0x35]

/-- Every kernel handle names one kernel, and those to come are not in use. -/
abbrev HandlesOnce (s : State) : Prop := (s.kernels.map (·.1)).Nodup ∧ ∀ e ∈ s.kernels, e.1 < s.hub.nextKhnd

/-- What a kernel is made of, whether or not it has been released. -/
def sameCode (k m : Kernel) : Prop :=
  m.ctx = k.ctx ∧ m.code = k.code ∧ m.dict = k.dict ∧ m.blocks = k.blocks ∧ m.roles = k.roles ∧ m.data = k.data ∧ m.priv = k.priv

/-- A word starts a block of a kernel (R101). -/
def BlockStart (k : Kernel) (n : Int) : Prop := ∃ e ∈ k.blocks, (e.1 : Int) = n

/-- The signed offset of a direct branch or call (R72). -/
def offsetOf : Instr → Option Int
  | .bnz _ _ o | .bz _ _ o | .call _ _ o => some (int 18 o.toNat)
  | _ => none

/-- The instructions past which control cannot fall: `exit`, `ret`, `jmpi`, `bz g0` (R102). -/
def stops : Instr → Bool
  | .exit .. | .ret .. | .jmpi .. => true
  | .bz _ d _ => d == 104#7
  | _ => false

/-- The privileged instructions (R95): `flt.replay`, `scan`, `wpset`, `wpclr`, `step`, and moves of special registers from
0x40 on. -/
def privileged : Instr → Bool
  | .fltReplay .. | .scanStop .. | .wpset .. | .wpclr .. | .step .. | .swrPreq .. | .swrFltcc .. => true
  | .srd _ _ n | .swr _ _ n => decide (0x40 ≤ n.toNat)
  | _ => false

end Sys2Proof.Claim

open Sys2Proof Sys2Proof.Machine Sys2Proof.Claim

/-- R67, R68, R85 to R95: worked encodings of the spec decode to the instructions that they stand for; the zero word to none
(R84). -/
def Obligations.DecodesSpecWords : Prop :=
  (decodeWord 0x20102860#32).toOption = some (.faddF32 false 4#7 5#7 6#7 0#2) ∧
  (decodeWord 0xC020168C#32).toOption = some (.ldC true 8#7 2#7 104#7 4#3) ∧
  (decodeWord 0x54000051#32).toOption = some (.fenceRel false 5#4) ∧
  (decodeWord 0x741FFFFD#32).toOption = some (.bnz false 7#7 0x3FFFD#18) ∧
  (decodeWord 0x38244085#32).toOption = some (.cvt false 9#7 8#7 1#4 0#2 5#4) ∧
  (decodeWord 0x180C3F80#32).toOption = some (.movhi false 3#7 0x3F80#16) ∧
  (decodeWord 0x0A0C1FFF#32).toOption = some (.addiI32 false 3#7 3#7 0x7FF#11) ∧
  (decodeWord 0x12143204#32).toOption = some (.shri false 5#7 6#7 false 4#6) ∧
  (decodeWord 0x1E1C0106#32).toOption = some (.srdPos false 7#7) ∧
  (decodeWord 0x1E002408#32).toOption = some (.swrFst false 4#7) ∧
  (decodeWord 0x50201149#32).toOption = some (.atomCas false 8#7 2#7 1#3 4#4) ∧
  (decodeWord 0x64009036#32).toOption = some (.mma false 0#4 1#3 2#4 3#4 6#4) ∧
  (decodeWord 0x68305225#32).toOption = some (.drainMx false 12#7 10#7 2#3 2#4 5#4) ∧
  (decodeWord 0x5E140032#32).toOption = some (.slotWait false 5#7 3#7) ∧
  (decodeWord 0x703046A0#32).toOption = some (.rng false 12#7 8#7 106#7) ∧
  (decodeWord 0x6C144002#32).toOption = some (.chain false 5#7 8#7) ∧
  (decodeWord 0x7A00000A#32).toOption = some (.bar false) ∧
  (decodeWord 0x7C144095#32).toOption = some (.wpset false 5#7 8#7 9#7) ∧
  (decodeWord 0x7C000050#32).toOption = some (.trap false 5#7) ∧
  (decodeWord 0#32).toOption = none

/-- R67, R84: the decoder reads back every well-formed instruction from its word, with every operand at every value that its
encoding admits. The three rows of `scan` have one word, which decodes to the first. -/
def Obligations.DecodeEncode : Prop :=
  ∀ i w, i.wf = true → encode i = some w → otherScan i = false → (decodeWord w).toOption = some i

/-- R67, R84: a word that decodes is the word of the instruction that it decodes to, so no two words are one instruction and
no bit of a word goes unread; a word with an unassigned major, and one of format P with its reserved bits set, is
unassigned. -/
def Obligations.EncodeDecode : Prop :=
  (∀ w i, (decodeWord w).toOption = some i → encode i = some w ∧ i.wf = true ∧ i.isWord = true) ∧
  (∀ w, (wordMajor w).toNat ∈ unassignedMajors → (decodeWord w).toOption = none) ∧
  (∀ w, (wordMajor w).toNat = 0x3F → wordFn w ≠ 0#4 → (decodeWord w).toOption = none)

/-- R84, R102: the loader's reading of the opcode map agrees with the decoder on every word: which words are assigned, and
which registers they name. -/
def Sys2Proof.Claim.LoaderTableAgrees : Prop := ∀ w, mapOps w = (decodeWord w).toOption.map Instr.ops

/-- R77, R80, R100 to R102: what the checks of the loader leave: of an accepted kernel every word of code and dictionary is
assigned; a dictionary entry is no pair, no transfer, and has no marker; pairs stay within the dictionary; blocks start at
word 0, rise, and lie in the code; roles start blocks and have a legal number of registers; branches and calls go to blocks;
the last word cannot fall through; and an unprivileged kernel holds no privileged instruction. -/
def Sys2Proof.Claim.AcceptedKernels : Prop :=
  ∀ ctx priv ylim img k, checkKernel ctx priv ylim img = .ok k →
    k.ctx = ctx ∧ (k.priv = true → priv = true) ∧ k.dict.length ≤ 1024 ∧ 0 < k.code.length ∧
    (∀ w ∈ k.code, ∃ i, (decodeWord w).toOption = some i ∧ (k.priv = false → privileged i = false) ∧
      ∀ t u e f, i = .dpair t u e f → e.toNat < k.dict.length ∧ f.toNat < k.dict.length) ∧
    (∀ w ∈ k.dict, ∃ i, (decodeWord w).toOption = some i ∧ (k.priv = false → privileged i = false) ∧ wordS w = false ∧
      isTransfer w = false ∧ ∀ t u e f, i ≠ .dpair t u e f) ∧
    ((k.blocks.map (·.1)).head? = some 0 ∧ (k.blocks.map (·.1)).Pairwise (· < ·) ∧ ∀ e ∈ k.blocks, e.1 < k.code.length) ∧
    (1 ≤ k.roles.length ∧ k.roles.length ≤ 4 ∧ ∀ r ∈ k.roles, BlockStart k r.1 ∧ 104 ≤ r.2 ∧ r.2 ≤ 512 ∧ r.2 % 8 = 0) ∧
    (∀ (n : Nat) w i o, k.code[n]? = some w → (decodeWord w).toOption = some i → offsetOf i = some o → BlockStart k ((n : Int) + o)) ∧
    (∃ w i, k.code.getLast? = some w ∧ (decodeWord w).toOption = some i ∧ stops i = true)

/-- R103: no step changes the code, the dictionary, the blocks or the roles of a loaded kernel; a handle names one kernel
from its loading on, and no handle is given out twice.
What it says of points that the spec leaves open is the model's choice: notes/assumptions/11. -/
def Obligations.CodeStays : Prop :=
  ∀ (s t : State), HandlesOnce s → step s = .next t →
    HandlesOnce t ∧ ∀ h k m, look s.kernels h = some k → look t.kernels h = some m → sameCode k m

/-- R399: after power-up no context, queue, launch, thread or job exists, session 0 is open, no result is outstanding, and no
byte is uncorrectable. What the bytes of memory read as, and the ports' states, are the model's choice (assumptions 6, 14). -/
def Sys2Proof.Claim.ResetState : Prop :=
  State.reset.ctxs = [] ∧ State.reset.queues = [] ∧ State.reset.launches = [] ∧ State.reset.kernels = [] ∧ State.reset.threads = [] ∧
  State.reset.lines = [] ∧ State.reset.cores = [] ∧ State.reset.agenda = [] ∧ State.reset.waits = [] ∧ State.reset.images = [] ∧
  State.reset.pans = [] ∧ State.reset.roots = [] ∧ State.reset.uncorr = [] ∧ State.reset.badChip = [] ∧ State.reset.badSyms = [] ∧
  State.reset.badStores = [] ∧ State.reset.dramSyms = [] ∧ State.reset.hub.power = .up ∧ State.reset.hub.therm = false ∧
  State.reset.hub.sessions.map (·.1) = [0] ∧ State.reset.hub.windows = [] ∧
  State.reset.hub.delays = [100000, 100000, 100000, 100000] ∧ State.reset.hub.thrash = (4, 1000000, 10000000) ∧
  (∀ a, State.reset.mem.byte a = 0#8) ∧ ∃ x, look State.reset.hub.sessions 0 = some x ∧ x.key = Config.session0Key

/-- The state after reset has the invariants that steps keep. -/
def Sys2Proof.Claim.ResetIsSound : Prop := Sound State.reset ∧ HandlesOnce State.reset

/-- Every step keeps memories and register files in canonical form, lines with their 8 g registers and 8 channels (R23, R164),
and one thread at most at a place (R13). -/
def Obligations.StepKeepsSound : Prop := ∀ (s t : State), Sound s → step s = .next t → Sound t

/-- A step runs what was chosen: the meaning of the decoded instruction in the state in which its gang's lanes are in the issue
latch, the illegal-instruction trap of a word that no instruction has (R84), the meaning of an action of the agenda, or
nothing. Every step counts one.
What it says of points that the spec leaves open is the model's choice: notes/assumptions/2. -/
def Obligations.StepRunsDecoded : Prop :=
  (∀ (s s1 : State) w i, s.choose = .issue w s1 → (decodeWord w).toOption = some i → step s = exec i s1) ∧
  (∀ (s s1 : State) w, s.choose = .issue w s1 → (decodeWord w).toOption = none → step s = exec (.unassignedWordIssue w) s1) ∧
  (∀ (s s1 : State) i, s.choose = .event i s1 → step s = exec i s1) ∧
  (∀ s : State, s.choose = .idle → step s = .next s.tick)

/-- R72, R73, R79, R132, R239: the word that issues is the one that the gang's lanes stand at: a word of their kernel's code,
or half of a pair once each of them has opened it; the lanes are distinct, stand at one position of one line, and each may
issue. Threads are as the state stood, but for a cold register that may have gone to backing store (R26).
What it says of points that the spec leaves open is the model's choice: notes/assumptions/15. -/
def Obligations.FetchedWord : Prop :=
  ∀ (s s1 : State) w, (s.threads.map (·.1)).Nodup → s.choose = .issue w s1 →
    Gang s1 ∧ (s1.threads = s.tick.settle.threads ∨ ∃ n, s1.threads = (s.tick.settle.spillNth n).threads) ∧ s1.kernels = s.kernels ∧ ∃ l0 rest, s1.issue.lanes = l0 :: rest ∧
      w = (match s1.kernelOf (s1.lane l0) with
        | some k => k.wordAt (s1.lane l0).pos (decide (∀ l ∈ s1.issue.lanes, (s1.lane l).opened = true))
        | none => 0#32) ∧
      s1.issue.pos = (s1.lane l0).pos ∧ ∀ l ∈ s1.issue.lanes, (s1.lane l).pos = (s1.lane l0).pos ∧
        s1.eligible (at' s1 l) (s1.lane l) = true ∧ l < 32

/-- R95, R181, R218: no instruction of an unprivileged context, and none but `swr` of a privileged one, changes a setting of any
context, but for the step status and the fault count, which hardware writes; and none but `exit` and `scan`, which may release lines,
changes a tile: tiles change when a pass starts. -/
def Sys2Proof.Claim.SettingsAndTilesGuarded : Prop :=
  (∀ i (s t : State), i.isWord = true → exec i s = .next t →
    s.issCtx.set.priv = false ∨ (∀ sw a n, i ≠ .swr sw a n) ∧ (∀ sw a, i ≠ .swrPreq sw a) ∧ (∀ sw a, i ≠ .swrFltcc sw a) →
    ∀ c, { (t.ctx c).set with dbst := (s.ctx c).set.dbst, fltc := (s.ctx c).set.fltc } = (s.ctx c).set) ∧
  (∀ i (s t : State), i.isWord = true → (∀ sw, i ≠ .exit sw) → scanForm i = none → exec i s = .next t →
    ∀ c v l, (t.line c v l).tiles = (s.line c v l).tiles)

/-- R9: bytes written to a memory read back, and no other byte changes; two memories in canonical form with equal bytes are
equal; the bytes of a number give the number back. -/
def Sys2Proof.Claim.MemoryReadAfterWrite : Prop :=
  (∀ (m : Memory) a bs b, m.wf = true → (m.writeBytes a bs).byte b = if a ≤ b ∧ b < a + bs.length then bs.getD (b - a) 0#8 else m.byte b) ∧
  (∀ m n : Memory, m.wf = true → n.wf = true → (∀ a, m.byte a = n.byte a) → m = n) ∧
  (∀ x n, natOfBytes (bytesOfNat x n) = x % 256 ^ n)

/-- Loads and stores of on-chip memories, and reads after writes: OnChipLoads, OnChipStores, MemoryReadAfterWrite (stated
above). What it says of points that the spec leaves open is the model's choice: notes/assumptions/8. -/
def Obligations.OnChipAccess : Prop :=
  Claim.OnChipLoads ∧ Claim.OnChipStores ∧ Claim.MemoryReadAfterWrite

/-- Privileged instructions trap in an unprivileged context; settings and tiles change only as the spec says:
SpecialRegisterPrivilege, PrivilegedTraps, SettingsAndTilesGuarded (stated above). -/
def Obligations.PrivilegeGuards : Prop :=
  Claim.SpecialRegisterPrivilege ∧ Claim.PrivilegedTraps ∧ Claim.SettingsAndTilesGuarded

/-- The loader's opcode map is the decoder's; what it leaves of a kernel that it accepts: LoaderTableAgrees,
AcceptedKernels (stated above). What it says of points that the spec leaves open is the model's choice:
notes/assumptions/31, 84, 102, 103. -/
def Obligations.LoadedKernels : Prop :=
  Claim.LoaderTableAgrees ∧ Claim.AcceptedKernels

/-- The state after reset: ResetState, ResetIsSound (stated above). What it says of points that the spec leaves open is
the model's choice: notes/assumptions/6, 14. -/
def Obligations.ResetState : Prop :=
  Claim.ResetState ∧ Claim.ResetIsSound
/-! ## Hardware events complete -/

open Sys2Proof Sys2Proof.Machine Sys2Proof.Claim

/-- Every instruction and every hardware event answers a next state, whatever the state and the operands: none faults, none is refused. -/
def Obligations.EveryInstructionAnswers : Prop := ∀ (i : Instr) (s : State), ∃ t : State, exec i s = .next t

/-- Events in a core complete: `longLatencyReturn`, `channelPushArrive`, `gangPromotion`, `storePerform`, `gatewayPageFault`, `writebackFault`,
`trapRecordEnqueue`, `mmaPassStart`, `fusionWindowExpiry`, `drainSeqWrite`, `unassignedWordIssue`. A result is written and its pushes set out; pushed data
fills its reserved entries; the gang due longest enters the active set; a line's dirty bytes, or the write of an atomic that has
read, reach their home; a fault takes a number of its die's buffer; a trap record enters the queue; the engine's first pass leaves its
queue, and one that clears empties its tile; a fusion window closes; a drain's next bytes reach their homes; an unassigned word traps.
What it says of points that the spec leaves open is the model's choice: notes/assumptions/25, 54, 90. -/
def Obligations.CoreEventsComplete : Prop :=
  (∀ (s : State) r, Sound s → (r.regs.map (fun e => (e.1, e.2.1))).Nodup → (∀ e ∈ r.regs, (look s.threads ⟨r.ctx, r.vc, r.line, e.1⟩).isSome) →
    ∃ t : State, exec (.longLatencyReturn r) s = .next t ∧ t.mem = s.mem ∧ Adds s t (r.pushes.map .channelPushArrive) ∧
      ∀ e ∈ r.regs, sget 0#32 (t.thread ⟨r.ctx, r.vc, r.line, e.1⟩).regs e.2.1 = e.2.2) ∧
  (∀ (s : State) p pre post, Sound s → (look s.lines ⟨p.ctx, p.vc, p.line⟩).isSome → p.ch < 8 → (∀ e ∈ pre, e ≠ .resv p.key) →
    ((s.line p.ctx p.vc p.line).chans.getD p.ch {}).queue = pre ++ List.replicate p.vals.length (.resv p.key) ++ post →
    ∃ t : State, exec (.channelPushArrive p) s = .next t ∧ t.mem = s.mem ∧ t.agenda = s.agenda ∧
      ((t.line p.ctx p.vc p.line).chans.getD p.ch {}).queue = pre ++ p.vals.map .data ++ post) ∧
  (∀ (s : State) c v p, earliestPending (s.coreGangs c v) (s.gangSets c v (s.coreGangs c v)) = some p →
    ∃ t : State, exec (.gangPromotion c v) s = .next t ∧ Untouched s t ∧ (4096 < s.cyclesFrom (s.phys c v / 160) p.since (s.aux.time - p.since) →
      ∃ r ∈ (t.core c v).gangs, r.line = p.line ∧ r.slices = p.slices ∧ r.active = true)) ∧
  (∀ (s : State) c v ia x, Sound s → s.l1Find c v (ia / 128 * 128) = some x → (∀ y ∈ (s.core c v).l1, y.ia = x.ia → y = x) → (x.bytes.map (·.1)).Nodup →
    (∀ b ∈ x.bytes, b.1 < 128) → (s.ctx c).ckpt.cut = none → x.ia + 128 ≤ 2 ^ 52 → s.halves = [] → s.wbHeld = [] →
    (∀ b ∈ x.bytes, ∃ r, s.openPage c (x.ia + b.1) false true = .ok r) →
    ∃ t : State, exec (.storePerform c v ia) s = .next t ∧ t.threads = s.threads ∧
      ∀ b ∈ x.bytes, b.2.2 = true → ⟨.g, (c, v), x.ia + b.1⟩ ∉ s.badChip → t.mem.byte (s.paOf c (x.ia + b.1)) = b.2.1) ∧
  (∀ (s : State) c v ia h a (bs : List Byte), s.halves = [h] → h.ctx = c → h.vc = v → h.sq = some (s.phys c v / 16) → h.bytes = bs.zipIdx.map (fun e => (a + e.2, e.1)) →
    a + bs.length ≤ 2 ^ 22 → s.l1Find c v (ia / 128 * 128) = none →
    ∃ t : State, exec (.storePerform c v ia) s = .next t ∧ t.threads = s.threads ∧ t.mem = s.mem ∧ t.halves = [] ∧
      ∀ k, k < bs.length → (t.square (s.phys c v / 16)).sqm.byte (a + k) = bs.getD k 0#8) ∧
  (∀ (s : State) n, (s.ctx? n.ctx).isSome → (s.die n.die).faults.length < 256 → ∃ t : State, exec (.gatewayPageFault n) s = .next t ∧ t.threads = s.threads ∧
    t.mem = s.mem ∧ (t.die n.die).faults = (s.die n.die).faults ++ [{ fid := (s.die n.die).nextFid, note := n }]) ∧
  (∀ (s : State) n, (s.ctx? n.ctx).isSome → (s.die n.die).faults.length < 256 → ∃ t : State, exec (.writebackFault n) s = .next t ∧ t.threads = s.threads ∧
    t.mem = s.mem ∧ (t.die n.die).faults = (s.die n.die).faults ++ [{ fid := (s.die n.die).nextFid, note := n }]) ∧
  (∀ (s : State) c x r rest, s.ctx? c = some x → x.traps.waiting = r :: rest → x.traps.queue.length < 64 →
    ∃ t : State, exec (.trapRecordEnqueue c) s = .next t ∧ t.threads = s.threads ∧ (t.ctx c).traps.queue = x.traps.queue ++ [r] ∧ (t.ctx c).traps.waiting = rest) ∧
  (∀ (s : State) c v q p rest, s.coreHere c v = true → q < 4 → s.queue c v q = p :: rest → (∀ n, p.fuse = some n → p.waits = false ∧ s.joined c v n = [q]) →
    (∀ e ∈ s.badStores, ∀ k, e.1 ≠ .tile c v p.line k) → ∃ t : State, exec (.mmaPassStart c v q) s = .next t ∧ t.mem = s.mem ∧ t.queue c v q = rest ∧ ∀ l n, p = .clear l n → (t.line c v l).tile q n = {}) ∧
  (∀ (s : State) c v g, ∃ t : State, exec (.fusionWindowExpiry c v g) s = .next t ∧
    t.mem = s.mem ∧ t.threads = s.threads ∧ ∀ r, r < 4 → t.queue c v r = (s.queue c v r).map (fun x => if x.fuse = some g then x.close else x)) ∧
  (∀ (s : State) c v line q d w rest, s.coreHere c v = true → (s.line c v line).drainOf q = some d → d.held = false → (s.thread ⟨c, v, line, d.lanes.headD 0⟩).held = [] → d.writes = w :: rest → w.bytes ≠ [] →
    w.attr ≠ 2 → OneLine w.ia w.bytes.length → s.boardWaits c v .g [(w.ia, w.ia + w.bytes.length - 1)] true = false →
    (∃ r, s.openPage c w.ia false true = .ok r) → s.wbHeld = [] → s.halves = [] → CoreClean s c v → (s.ctx c).ckpt.cut = none →
    (look s.lines ⟨c, v, line⟩).isSome →
    ∃ t : State, exec (.drainSeqWrite c v line q) s = .next t ∧ t.threads = s.threads ∧
      ∀ k, k < w.bytes.length → t.mem.byte (s.paOf c (w.ia + k)) = w.bytes.getD k 0#8) ∧
  (∀ (s : State) w, Gang s → ∃ t : State, exec (.unassignedWordIssue w) s = .next t ∧ t.mem = s.mem ∧
    Trapped s t s.issue.lanes s.issue.pos { code := .illegal, info := s.issue.info })

/-- Events of the saltern complete: `partialArrive`, `panHoldExpiry`, `ctbmLeafArrive`, `closeMarkerArrive`, `slotResolve`, `slotFinal`. A partial
that meets nobody is held; one whose hold time ends moves on; a `ctbm` leaf is held at the unit of its home; a close marker at its
apex is counted; a slot to which nothing was contributed resolves to the empty root, and one of an integer tree with its root alone
writes it; a resolved slot becomes final.
What it says of points that the spec leaves open is the model's choice: notes/assumptions/10, 17, 23. -/
def Obligations.SalternEventsComplete : Prop :=
  (∀ (s : State) i p tp, s.panAway i = false → (∀ c v, i ≠ .core c v) → (∀ b, i ≠ .msu b) → (∀ b, i ≠ .port b) → p.coll = none → s.treeParms p = some tp →
    (s.slotOf p.ctx p.slot).apex = i → i ∉ (s.slotOf p.ctx p.slot).exhausted → (s.slotOf p.ctx p.slot).check = none → s.brineWaits i p = false →
    (tp.op ≠ .add ∨ (tp.fmt ≠ 0 ∧ tp.fmt ≠ 9)) → Alone s i p → p.level < tp.k → beyond tp p.level (p.index ^^^ 1) = false →
    (s.loose i p).length < s.panCapacity i → ∃ t : State, exec (.partialArrive i p) s = .next t ∧ t.pan i = s.pan i ++ [p] ∧ t.mem = s.mem) ∧
  (∀ (s : State) i p j, s.panAway i = false → s.nextHop i p = .pan j → p ∈ s.pan i → (∀ tp, s.treeParms p = some tp → p.level < tp.k) → (i, p) ∉ s.badPans →
    ∃ t : State, exec (.panHoldExpiry i p) s = .next t ∧ t.pan i = (s.pan i).filter (· ≠ p) ∧ Adds s t [.partialArrive j p] ∧ t.mem = s.mem) ∧
  (∀ (s : State) p tp L e t0, s.walk p.ctx p.addr = .ok (L, e) → s.touchL2 p.ctx (peVc e) (leafPa L e p.addr) [] false = some t0 →
    t0.rehome p.ctx = t0 → p.coll = none → s.treeParms p = some tp →
    let i := PanId.msu (t0.homeBank p.ctx p.addr)
    i ∉ (s.slotOf p.ctx p.slot).exhausted → (s.slotOf p.ctx p.slot).check = none → p.level < tp.k → beyond tp p.level (p.index ^^^ 1) = false →
    t0.brineWaits i p = false → Alone s i p → (s.loose i p).length < 16 →
    ∃ t : State, exec (.ctbmLeafArrive p) s = .next t ∧ t.pan i = s.pan i ++ [p] ∧ t.mem = s.mem) ∧
  (∀ (s : State) c n i, (s.ctx? c).isSome → (s.slotOf c n).state = .closing → s.panAway i = false → (s.slotOf c n).apex = i → (∀ b, i ≠ .msu b) → NoneComing s c n →
    ∃ t : State, exec (.closeMarkerArrive c n i) s = .next t ∧ t.mem = s.mem ∧ (t.slotOf c n).markers = (s.slotOf c n).markers + 1 ∧
      Adds s t (if (s.slotOf c n).markers + 1 = (s.slotOf c n).expect then [.slotResolve c n] else [])) ∧
  (∀ (s : State) c n, (s.ctx? c).isSome → (s.slotOf c n).state = .closing → (s.slotOf c n).check = none → (descParms (s.slotOf c n).desc).isSome →
    (s.slotOf c n).tainted = false → (s.slotOf c n).spilled = [] → s.partialsAfoot c n = false → (s.roots.filter (inSlot c n)) = [] →
    (s.pans.flatMap (fun e => e.2.filter (inSlot c n))) = [] → 4 ≤ (s.slotOf c n).code →
    ∃ t : State, exec (.slotResolve c n) s = .next t ∧ t.mem = s.mem ∧ .slotFinal c n ∈ t.agenda ∧ (t.slotOf c n).code = (s.slotOf c n).code) ∧
  (∀ (s : State) c n p sgn w sp, (s.ctx? c).isSome → (s.slotOf c n).state = .closing → (s.slotOf c n).check = none → (s.slotOf c n).code = 0 →
    (s.slotOf c n).tainted = false → (s.slotOf c n).spilled = [] → sdMode (s.slotOf c n).desc = false → sdTrees (s.slotOf c n).desc = 1 →
    sdOp (s.slotOf c n).desc = 0 → accOf (sdFmt (s.slotOf c n).desc) = some (.int sgn w) → s.partialsAfoot c n = false →
    (s.roots.filter (inSlot c n)) = [] → ((s.pans.flatMap (fun e => e.2.filter (inSlot c n))) = [] ∨
      (s.pans.flatMap (fun e => e.2.filter (inSlot c n))) = [p] ∧ p.level = rootOf (s.slotOf c n).desc ∧ p.index = 0) →
    (∀ e ∈ s.badPans, inSlot c n e.2 = false) →
    s.mapVa c (sdDest (s.slotOf c n).desc) (accBytes (sdFmt (s.slotOf c n).desc)) false true = some [sp] →
    sp.len = accBytes (sdFmt (s.slotOf c n).desc) → OneLine sp.ia sp.len → (∃ r, s.openPage c sp.ia false true = .ok r) → (s.ctx c).ckpt.cut = none → s.halves = [] →
    ∃ t : State, exec (.slotResolve c n) s = .next t ∧ t.threads = s.threads ∧ .slotFinal c n ∈ t.agenda ∧ ∀ k, k < sp.len →
      t.mem.byte (s.paOf c (sp.ia + k)) = byteOf (if (s.pans.flatMap (fun e => e.2.filter (inSlot c n))) = [] then 0 else p.val.toNat) k) ∧
  (∀ (s : State) c n, (s.ctx? c).isSome → (s.slotOf c n).spilled = [] → s.partialsAfoot c n = false → (∀ w ∈ s.waits, w.on ≠ .slot c n) →
    ∃ t : State, exec (.slotFinal c n) s = .next t ∧ (t.slotOf c n).state = .final ∧ t.mem = s.mem ∧ t.threads = s.threads)

/-- Events of the engines, the checkpoint copier, the caches and the paging complete: `jobElement`, `jobRetire`, `collectiveWindowGrant`,
`collectiveRootReturn`, `ckptGranuleCopy`, `ckptCowCopy`, `vcAccept`, `vcMoveStep`, `vcCommit`, `pageMigrate`, `thrashThrottleExpiry`. An element of a copy on
chip is copied; a job retires; a collective gets its window, and takes a root; a copy of a cut takes its granule, in order or ahead
of it; a request for a virtual cache is judged and answered, a line moves, the change commits; a page moves; a throttle ends.
What it says of points that the spec leaves open is the model's choice: notes/assumptions/7, 24, 46, 89. -/
def Obligations.EngineAndCacheEventsComplete : Prop :=
  (∀ (s : State) c n j r, Runs s c n j → j.kind = .copy r → j.next < j.total → s.awayOf r = .own → s.halves = [] →
    let a := (shSrcAt r j.next).toNat
    let b := (shDstAt r j.next).toNat
    OnChip s (shSlev r) a (shSw r) → OnChip s (shDlev r) b (shSw r) → ReadsCorrect s c j.vc (s.jobSquare c j a) (shSlev r) a (shSw r) →
    ∃ t : State, exec (.jobElement c n) s = .next t ∧ JobIs s t c n { j with next := j.next + 1 } ∧
      EngineWrote s t c j.vc (s.jobSquare c j b) (shDlev r) b
        ((List.range (shSw r)).map (fun k => engByte s c j.vc (s.jobSquare c j a) (shSlev r) (a + k)))) ∧
  (∀ (s : State) c n j, look (s.ctx c).jobs n = some j → j.retired = false → j.after = [] → Quiet s c → (∀ x ∈ s.agenda, faultOf c n x = false) → (∀ w ∈ s.waits, w.on ≠ .job c n) →
    s.wbHeld = [] → CoreClean s c j.vc →
    ∃ t : State, exec (.jobRetire c n) s = .next t ∧ t.threads = s.threads ∧ t.mem = s.mem ∧ look (t.ctx c).jobs n = some { j with retired := true }) ∧
  (∀ (s : State) c n j r p rank ranks formed w, look (s.ctx c).jobs n = some j → j.kind = .coll r p rank ranks 0 formed → j.retired = false →
    s.atCollApex p = true → 0 < w → 0 < s.hubRoom →
    ∃ t : State, exec (.collectiveWindowGrant c n w) s = .next t ∧ t.mem = s.mem ∧
      JobIs s t c n { j with kind := .coll r p rank ranks (min w s.hubRoom) formed }) ∧
  (∀ (s : State) c n j r p rank ranks w formed elem (m : CollMsg) v fl, Runs s c n j → j.kind = .coll r p rank ranks w formed → elem ∉ formed → elem < j.total →
    m.dest = fabCoords s.hub.fabric.recd → m.body = .root v → m.parms.cid = p.cid → s.halves = [] →
    (p.ckind ≠ 1 ∨ rank = p.root → OnChip s (shDlev r) (shDstAt r elem).toNat (shDw r)) →
    ∃ t : State, exec (.collectiveRootReturn c n elem m fl) s = .next t ∧ JobIs s t c n { j with kind := .coll r p rank ranks w (formed ++ [elem]), flags := j.flags ||| fl }) ∧
  (∀ (s : State) c n j r all, s.activeCut c = some (n, j) → j.retired = false → j.stalled = false → j.code = 0 → j.kind = .cut r all [] → cutKind r = 0 →
    Quiet s c → s.wbHeld = [] → ∃ t : State, exec (.ckptGranuleCopy c) s = .next t ∧ t.mem = s.mem ∧ t.threads = s.threads ∧ Adds s t [.jobRetire c n]) ∧
  (∀ (s : State) c n j r all e rest (pa : Nat → Nat), Sound s → s.activeCut c = some (n, j) → j.retired = false → j.stalled = false → j.kind = .cut r all (e :: rest) →
    cutKind r = 0 → s.granuleBad c e.2 = false → (∃ x, s.walk c (e.2 * 2 ^ 14) = .ok x) → Quiet s c → s.wbHeld = [] →
    let k := all.findIdx (fun x => x.2 == e.2)
    4 * (k + 1) ≤ cutSize r → Pieces s c j r k pa →
    ∃ t : State, exec (.ckptGranuleCopy c) s = .next t ∧ t.threads = s.threads ∧ JobIs s t c n { j with kind := .cut r all rest } ∧ Copied s t c e.2 pa) ∧
  (∀ (s : State) c g n j r all todo (pa : Nat → Nat), Sound s → s.activeCut c = some (n, j) → j.kind = .cut r all todo → cutKind r = 0 → (∃ e ∈ todo, e.2 = g) →
    (∀ e ∈ todo, s.sameGranule c g e.2 = true → e.2 = g) → s.granuleBad c g = false → (∃ x, s.walk c (g * 2 ^ 14) = .ok x) → Quiet s c → s.wbHeld = [] →
    let k := all.findIdx (fun x => x.2 == g)
    4 * (k + 1) ≤ cutSize r → Pieces s c j r k pa →
    ∃ t : State, exec (.ckptCowCopy c g) s = .next t ∧ t.threads = s.threads ∧
      JobIs s t c n { j with kind := .cut r all (todo.filter (fun e => e.2 != g)) } ∧ Copied s t c g pa) ∧
  (∀ (s : State) c n r q sh, (s.ctx? c).isSome → s.vcRefused r (s.vcOf c n).state = false → (s.vcOf c n).state = .undefined →
    s.grantShares c r 0 (vcShares r) = some sh → ∃ t : State, exec (.vcAccept ⟨c, n, r, true, some q⟩) s = .next t ∧ t.mem = s.mem ∧ t.threads = s.threads ∧
      t.vcOf c n = { state := .stable, recd := r, shares := sh }) ∧
  (∀ (s : State) c n line l, s.pans = [] → (s.ctx? c).isSome → (s.vcOf c n).lines.filter (fun l => l.old && l.line == line) = [l] → s.linePinned c l = false →
    s.lineBad l = false → ∃ t : State, exec (.vcMoveStep c n line) s = .next t ∧ t.mem = s.mem ∧ t.threads = s.threads ∧
      ∀ z ∈ (t.vcOf c n).lines, z.old = true → z ∈ (s.vcOf c n).lines ∧ z ≠ l) ∧
  (∀ (s : State) c n, s.pans = [] → (s.ctx? c).isSome → (s.vcOf c n).state = .resizing ∨ (s.vcOf c n).state = .migrating → (∀ l ∈ (s.vcOf c n).lines, l.old = false) →
    NoRetake s → ∃ t : State, exec (.vcCommit c n) s = .next t ∧ t.mem = s.mem ∧ t.threads = s.threads ∧
      t.vcOf c n = { s.vcOf c n with state := .stable, oldRec := 0, oldShares := [] }) ∧
  (∀ (s : State) c ia pa L e asked, Sound s → s.halves = [] → s.walk c ia = .ok (L, e) → peMig e = true → (L = 2 → pa < lpBase) →
    s.frameFree pa (pageSize L) = true → (∀ M p, (M, p, e) ∈ (s.ctx c).trans.leaves → M = L) →
    let key := ia >>> levelShift L <<< levelShift L
    (asked = true ∨ key ∉ (s.ctx c).trans.throttled) → s.pagePinned c key (pageSize L) = false →
    ∃ t : State, exec (.pageMigrate c ia ⟨pa, asked⟩) s = .next t ∧ t.threads = s.threads ∧ t.paOf c ia = pa + ia % pageSize L) ∧
  (∀ (s : State) c ia, ∃ t : State, exec (.thrashThrottleExpiry c ia) s = .next t ∧ t.mem = s.mem ∧ t.threads = s.threads ∧ ia ∉ (t.ctx c).trans.throttled)

/-- Events of launches and of stopping complete: `launch`, `launchStart`, `unitPlace`, `edgeSatisfied`, `launchComplete`, `preemptDelayExpiry`, `preemptDeadline`,
`coreRelease`, `forcedStop`, `scanComplete`, `imageRestore`, `contextResume`, `contextMigrate`, `watchpointHit`. A launch is accepted, an edge met, a launch
started, its units placed, the launch completed; the contexts whose cores it needs are asked to leave; a deadline stops cores; a core
is released, stopped, saved, restored; a context resumes and migrates; a watchpoint stops its square.
What it says of points that the spec leaves open is the model's choice: notes/assumptions/34, 41, 69, 105. -/
def Obligations.LaunchAndStopEventsComplete : Prop :=
  (∀ (s : State) h q r x, TakenOn s h 0x10 → look s.queues q = some x → MayUse s h x → x.items.length < 64 → s.recordCodeOf x.ctx r = 0 → lrEdges r = [] →
    ∃ t : State, exec (.launch h q r) s = .next t ∧ Untouched s t ∧ Adds s t [.launchStart q []] ∧
      look t.launches s.hub.nextLaunch = some { queue := q, seq := x.next, ctx := x.ctx, recd := r, sess := h.sess }) ∧
  (∀ (s : State) u l k, look s.launches u = some l → l.state = .waiting → k ∈ l.edges → s.producer l k = none →
    ∃ t : State, exec (.edgeSatisfied u k) s = .next t ∧ Untouched s t ∧ look t.launches u = some { l with edges := l.edges.filter (· != k) }) ∧
  (∀ (s : State) q cores u l k w, s.offerOf q = some u → let v := s.sweepEntry u
    v.nextStart cores = some u → look v.launches u = some l → (v.ctx l.ctx).place.length = (v.ctx l.ctx).n → look v.kernels (khndOf l.recd) = some k →
    v.runsRefused l.ctx l.recd = false → v.areasRefused l.ctx l.recd k = false → lrCores l.recd = false → v.copyData l.ctx l.recd k = .ok w →
    ∀ e es, unitsOf l.recd = e :: es →
    ((w.modLaunch u (fun l => { l with state := .started, units := unitsOf l.recd })).placeBatch u l.recd (batch l.recd e)).isSome →
    ∃ t : State, ∃ l' : Launch, exec (.launchStart q cores) s = .next t ∧ look t.launches u = some l' ∧ l'.state = .started ∧
      ∀ d ∈ batch l.recd e, d ∉ l'.units ∧ Placed t u l.recd d) ∧
  (∀ (s : State) u l e es, look s.launches u = some l → l.state = .started → l.units = e :: es → (s.ctx l.ctx).n ≤ (s.ctx l.ctx).place.length →
    ((s.sweepEntry u).placeBatch u l.recd (batch l.recd e)).isSome →
    ∃ t : State, ∃ l' : Launch, exec (.unitPlace u) s = .next t ∧ look t.launches u = some l' ∧ ∀ d ∈ batch l.recd e, d ∉ l'.units ∧ Placed t u l.recd d) ∧
  (∀ (s : State) u l, look s.launches u = some l → l.state = .started → l.live = 0 → l.units = [] → l.groups = [] → lrFbuf l.recd = 0 →
    ∃ t : State, exec (.launchComplete u) s = .next t ∧ Untouched s t ∧ ∃ l' : Launch, look t.launches u = some l' ∧ l'.state = .done ∧ l'.code = l.code) ∧
  (∀ (s : State) q u l, s.offerOf q = some u → look s.launches u = some l → s.nextStart [] ≠ some u → (s.ctxs.map (·.1)).Nodup →
    ∃ t : State, exec (.preemptDelayExpiry q) s = .next t ∧ Untouched s t ∧ ∀ c x, look s.ctxs c = some x → (∃ p ∈ x.place, p.2 ∈ s.coresFor l (s.classOf u)) →
      (∀ e ∈ s.threads, e.1.ctx = c → s.classOf e.2.launch < s.classOf u) → (t.ctx c).set.preq = true) ∧
  (∀ (s : State) c, (s.ctx c).set.preq = true → ∃ t : State, exec (.preemptDeadline c) s = .next t ∧ t.threads = s.threads ∧ t.mem = s.mem ∧
    ∀ v p, (v, p) ∈ (s.ctx c).place → (s.core c v).run = .running → .forcedStop c v .deadline ∈ t.agenda) ∧
  (∀ (s : State) c v p, (s.ctx c).set.preq = true → s.releasable c v = true → s.phys? c v = some p → (s.ctx c).place.filter (fun e => e.1 == v) = [(v, p)] →
    CoreClean s c v → s.halves = [] → ∃ t : State, exec (.coreRelease c v) s = .next t ∧ t.threads = s.threads ∧ t.mem = s.mem ∧ t.phys? c v = none ∧
      (t.core c v).run = .record) ∧
  (∀ (s : State) c v k, (s.phys? c v).isSome → (k ≠ .scan → (s.ctx c).set.preq = true) → (s.core c v).run = .running → CoreClean s c v → s.halves = [] →
    ∃ t : State, exec (.forcedStop c v k) s = .next t ∧ t.threads = s.threads ∧ t.mem = s.mem ∧ (t.core c v).run = .scanning (if k = .scan then .scan else .deadline) none (s.clk c v) ∧
      Adds s t [.scanComplete c v]) ∧
  (∀ (s : State) c v k sq clk p, (s.core c v).run = .scanning k sq clk → s.phys? c v = some p → (s.ctx c).place.filter (fun e => e.1 == v) = [(v, p)] →
    s.repliesDue c v = false → s.coreBad c v (s.lastThere c v p) = false → s.scanJob 0 p = none → ∃ t : State, ∃ im : Image, exec (.scanComplete c v) s = .next t ∧
      t.images = s.images ++ [im] ∧ im.ctx = c ∧ im.vc = v ∧ (t.core c v).run = .image (s.ctx c).imgSeq ∧ t.phys? c v = none ∧ t.threads = s.threads ∧ t.mem = s.mem) ∧
  (∀ (s : State) c v p, s.scanJob 1 p = none → (s.ctx? c).isSome → s.phys? c v = none → (put (s.ctx c).place v p).length = (s.ctx c).n → v < (s.ctx c).n →
    s.placeOk c (put (s.ctx c).place v p) = true → s.coreIdle p = true → s.fits c v p = true → (∀ e ∈ s.hub.stopped, e.2 ≠ (c, v)) → s.mustWait c = false →
    Still s c → ∃ t : State, exec (.imageRestore c v p) s = .next t ∧ t.phys? c v = some p ∧ t.mem = s.mem ∧ ThreadsBack s t c v) ∧
  (∀ (s : State) c cores m, (s.ctx? c).isSome → (s.ctx c).place.length ≠ (s.ctx c).n → ((s.ctx c).place = [] ∨ (s.ctx c).set.preq = false) →
    (∀ e ∈ s.hub.stopped, e.2.1 ≠ c) → s.spoiled c = false → s.choosePlace c cores = some m → s.mustWait c = false → Still s c →
    ∃ t : State, exec (.contextResume c cores) s = .next t ∧ t.mem = s.mem ∧ (t.ctx c).set.preq = false ∧
      ∀ v p, s.phys? c v = none → look m v = some p → t.phys? c v = some p ∧ ThreadsBack s t c v) ∧
  (∀ (s : State) c cores, (s.ctx? c).isSome → (s.ctx c).place.length = (s.ctx c).n → cores.length = (s.ctx c).n → ((s.ctx c).place.map (·.1)).Nodup →
    s.placeOk c ((List.range (s.ctx c).n).zip cores) = true →
    (∀ v p, (v, p) ∈ (List.range (s.ctx c).n).zip cores → s.phys? c v ≠ some p → (s.core c v).run = .running ∧ s.releasable c v = true ∧
      s.repliesDue c v = false ∧ CoreClean s c v) → s.halves = [] → Still s c →
    ∃ t : State, exec (.contextMigrate c cores) s = .next t ∧ t.mem = s.mem ∧ ∀ v p, (v, p) ∈ (List.range (s.ctx c).n).zip cores → t.phys? c v = some p) ∧
  (∀ (s : State) h w, (s.ctx? h.ctx).isSome → h.kind ≠ .brk → (∃ v ∈ h.vals, look (s.square h.sq).watches v.wp = some w) → w.ctx = h.ctx →
    (∀ d ∈ (s.square h.sq).stops, d.ctx ≠ h.ctx) → ∃ t : State, exec (.watchpointHit h) s = .next t ∧ Untouched s t ∧
      ∀ v p, (v, p) ∈ (s.ctx h.ctx).place → p / 16 = h.sq → (s.core h.ctx v).run = .running → (t.core h.ctx v).run = .debugStopped h.sq)

/-- What an accepted management frame answers and how it is acknowledged (R373, R376): beside the reply and the acknowledgement
something is true of the state after it. -/
def Sys2Proof.Claim.Done (i : Instr) (s : State) (h : Hdr) (code : Nat) (pay : List Nat) (p : State → Prop) : Prop :=
  ∃ t : State, exec i s = .next t ∧ Sends s t [.mgmt code 0 pay, .ack 0 h.seq] ∧ p t

/-- Host frames and management operations complete with their effect: `hostWrite`, `hostRead`, `lctAck`, `lctRetransmitTimeout`, `contextCreate`,
`contextDestroy`, `queueBind`, `queueUnbind`, `rangeRegisterWrite`, `pageMap`, `pageUnmap`, `pageChange`, `windowOpenClose`, `sessionOpenClose`, `faultResolve`,
`faultFail`, `trapResume`, `trapRetry`, `trapAbandon`, `fabricRecordWrite`, `fabricGroupOp`, `portStatus`, `cutMapRead`, `delayThrashSet`, `imageSubmit`,
`imageRelease`, `quotaSet`, `marketAllotmentSet`. Each is answered with status 0, acknowledged, and done.
What it says of points that the spec leaves open is the model's choice: notes/assumptions/31, 37, 72, 75, 106. -/
def Obligations.ManagementCompletes : Prop :=
  (∀ (s : State) h w o (data : List Byte) (c : Nat) (ias : List Nat), TakenOn s h 0x20 → s.hostGo h w o data.length true = .go c ias → ias.length = data.length → data ≠ [] →
    (∀ a ∈ ias, a / 128 = (ias.headD 0) / 128) → ias.Nodup → (∀ a ∈ ias, a < 2 ^ 52) → (s.ctx c).ckpt.cut = none → s.halves = [] →
    ∃ t : State, exec (.hostWrite h w o data) s = .next t ∧ Sends s t [.wstat h.sess 0, .ack h.sess h.seq] ∧
      ∀ (k : Nat) (a : Nat), ias[k]? = some a → some (t.mem.byte (s.paOf c a)) = data[k]?) ∧
  (∀ (s : State) h w o n c ias, TakenOn s h 0x21 → s.hostGo h w o n false = .go c ias → s.badByte c ias = none → (∀ a ∈ ias, a < 2 ^ 52) →
    ∃ t : State, exec (.hostRead h w o n) s = .next t ∧ t.mem = s.mem ∧ Sends s t [.data h.sess 0 (ias.map (fun a => s.mem.byte (s.paOf c a))), .ack h.sess h.seq]) ∧
  (∀ (s : State) h a x, s.hub.power = .up → s.lctOk h = true → look s.hub.sessions h.sess = some x → x.tagHolds { h with ack := a } 0x02 = true →
    s.hub.paused = 0#8 → x.owed = [] → (∀ e ∈ x.unacked, ∀ r, e.2 ≠ .event r) → Acked s (exec (.lctAck h a) s) h.sess x a) ∧
  (∀ (s : State) n x, s.hub.power = .up → s.hub.paused = 0#8 → look s.hub.sessions n = some x → ∃ t : State, exec (.lctRetransmitTimeout n) s = .next t ∧
    Sends s t ((x.unacked.take 256).map (·.2))) ∧
  (∀ (s : State) h, Taken s h →
    (∀ c n quota priv root v sh, s.ctx? c = none → c < 1024 → n ≠ 0 → n ≤ s.coresPresent → s.vcRefused (v.getD s.defaultVc0) .undefined = false →
      (s.newContext c n quota priv root).grantShares c (v.getD s.defaultVc0) 0 (vcShares (v.getD s.defaultVc0)) = some sh →
      Done (.contextCreate h c n quota priv root v) s h 1 [] (fun t => (t.ctx? c).isSome ∧ (t.ctx c).n = n ∧ (t.ctx c).set.priv = priv ∧ t.threads = s.threads)) ∧
    (∀ c, (s.ctx? c).isSome → (∀ e ∈ s.launches, e.2.ctx = c → e.2.state = .done) → NoRetake s →
      Done (.contextDestroy h c) s h 2 [] (fun t => t.ctx? c = none ∧ t.mem = s.mem)) ∧
    (∀ q c k, q < 8192 → (s.ctx? c).isSome → k ≤ 3 → (∀ e ∈ s.launches, e.2.queue = q → e.2.state = .done) →
      Done (.queueBind h q c k) s h 3 [] (fun t => look t.queues q = some { ctx := c, cls := k, next := 1, items := [] })) ∧
    (∀ q, (look s.queues q).isSome → (∀ e ∈ s.launches, e.2.queue = q → e.2.state = .done) → Done (.queueUnbind h q) s h 3 [] (fun t => look t.queues q = none)) ∧
    (∀ c k r, (s.ctx? c).isSome → k < 16 → rrRefused (s.ctx c).trans.ranges k r = false →
      Done (.rangeRegisterWrite h c k r) s h 4 [] (fun t => look (t.ctx c).trans.ranges k = some r)) ∧
    (∀ c L ia e a, (s.ctx? c).isSome → (s.ctx c).trans.entryAt L ia = some a → s.halves = [] → s.pageRefused c L ia e = false → e &&& ~~~(3#64 <<< 53) ≠ 0 →
      Done (.pageMap h c L ia e) s h 5 [] (fun t => look (t.ctx c).trans.pages a = some (e &&& ~~~(3#64 <<< 53)))) ∧
    (∀ c L ia a old, (s.ctx? c).isSome → (s.ctx c).trans.entryAt L ia = some a → s.halves = [] → look (s.ctx c).trans.pages a = some old →
      Done (.pageUnmap h c L ia) s h 6 [] (fun t => look (t.ctx c).trans.pages a = none)) ∧
    (∀ c L ia e a old, (s.ctx? c).isSome → (s.ctx c).trans.entryAt L ia = some a → s.halves = [] → look (s.ctx c).trans.pages a = some old →
      s.pageRefused c L ia e = false → (e &&& ~~~(3#64 <<< 53)) ||| (old &&& (3#64 <<< 53)) ≠ 0 →
      Done (.pageChange h c L ia e) s h 7 [] (fun t => look (t.ctx c).trans.pages a = some ((e &&& ~~~(3#64 <<< 53)) ||| (old &&& (3#64 <<< 53))))) ∧
    (∀ w k c b z rd wr x, (s.ctx? c).isSome → look s.hub.sessions k = some x → (k = 0 ∨ x.ctx = c) → look s.hub.windows w = none → 0 < z → b + z ≤ 2 ^ 57 →
      Done (.windowOpenClose h true w k c b z rd wr) s h 8 [] (fun t => look t.hub.windows w = some ⟨k, c, b, z, rd, wr⟩)) ∧
    (∀ w k c b z rd wr, (look s.hub.windows w).isSome → Done (.windowOpenClose h false w k c b z rd wr) s h 8 [] (fun t => look t.hub.windows w = none)) ∧
    (∀ k c key, k ≠ 0 → k < 256 → (s.ctx? c).isSome → look s.hub.sessions k = none →
      Done (.sessionOpenClose h true k c key) s h 9 [] (fun t => look t.hub.sessions k = some { ctx := c, key := key })) ∧
    (∀ k c key x, k ≠ 0 → k < 256 → look s.hub.sessions k = some x → s.activeCut x.ctx = none →
      Done (.sessionOpenClose h false k c key) s h 9 [] (fun t => look t.hub.sessions k = none)) ∧
    (∀ d f r j x, (s.die d).faults.filter (fun x => x.fid == f) = [r] → r.note.job = some j → look (s.ctx r.note.ctx).jobs j = some x →
      r.stale = false → x.stalled = true → x.retired = false → x.code = 0 → (∀ a b e, x.kind ≠ .cut a b e) →
      Done (.faultResolve h d f) s h 0x0A [] (fun t => JobIs s t r.note.ctx j { x with stalled := false } ∧ .jobElement r.note.ctx j ∈ t.agenda) ∧
      Done (.faultFail h d f) s h 0x0A [] (fun t => JobIs s t r.note.ctx j { x with code := 5, stalled := false } ∧ .jobRetire r.note.ctx j ∈ t.agenda)) ∧
    (∀ c q, s.trappedLanes c q ≠ [] → (∀ e ∈ s.trappedLanes c q, e.2 = false ∧ s.coreHere c e.1.vc = true ∧ (s.thread e.1).heldTrap = false) → Still s c →
      Done (.trapResume h c q) s h 0x0B [] (fun t => ∀ p ∈ (s.trappedLanes c q).map (·.1), (t.thread p).stat = .run ∧ (t.thread p).pos = nextPos (s.thread p)) ∧
      Done (.trapRetry h c q) s h 0x0B [] (fun t => ∀ p ∈ (s.trappedLanes c q).map (·.1), (t.thread p).stat = .run ∧ (t.thread p).pos = (s.thread p).pos)) ∧
    (∀ c q p m, s.trappedLanes c q = [(p, m)] → s.coreHere c p.vc = true → s.groupOf c ⟨p.vc, p.line, p.lane⟩ = none → (s.line c p.vc p.line).drains = [] →
      Done (.trapAbandon h c q) s h 0x0B [] (fun t => look t.threads p = none ∧ t.mem = s.mem)) ∧
    (∀ r routes, fabricRefused r = false → (fabMode r = 1 ∨ routes = []) → (∀ e ∈ routes, e.2 < 32) →
      Done (.fabricRecordWrite h r routes) s h 0x0C [] (fun t => t.hub.fabric.recd = r ∧ t.hub.fabric.routes = routes)) ∧
    (∀ g c d, g ∉ s.hub.fabric.groupIds → g < 2 ^ 32 → Done (.fabricGroupOp h true g c d) s h 0x0D [] (fun t => g ∈ t.hub.fabric.groupIds)) ∧
    (∀ g c d, g ∈ s.hub.fabric.groupIds → (d ≠ s.ownDevice ∨ (s.ctx? c).isSome) → (∀ y ∈ s.hub.fabric.groups, ¬ (y.1 = g ∧ y.2.1 = d)) →
      Done (.fabricGroupOp h false g c d) s h 0x0D [] (fun t => (g, d, c) ∈ t.hub.fabric.groups)) ∧
    (∀ p l, l.2.length ≤ 8 → Done (.portStatus h p (some l)) s h 0x0E [] (fun t => t.hub.addrs = l.1 ∧ t.hub.vlans = l.2)) ∧
    (∀ p, p < 32 → p ∉ s.hub.ras.absentPorts → Done (.portStatus h p none) s h 0x0E
      [portStateCode ((look s.hub.fabric.ports p).getD .down), (look s.hub.fabric.retransmits p).getD 0, s.hub.portErrors,
        4, 224, 800, 64, 56, 4, 4, 8, 2, 600] (fun t => t.mem = s.mem)) ∧
    (∀ c, (s.ctx? c).isSome → Done (.cutMapRead h c) s h 0x0F (s.ctx c).ckpt.map (fun t => t.mem = s.mem)) ∧
    (∀ k d, k ≤ 3 → Done (.delayThrashSet h k d none) s h 0x10 [] (fun t => t.hub.delays = setNth s.hub.delays k d)) ∧
    (∀ k d n w t, 1 ≤ n → n ≤ 255 → 10000 ≤ w → w ≤ 100000000 → t ≤ 1000000000 →
      Done (.delayThrashSet h k d (some (n, w, t))) s h 0x10 [] (fun u => u.hub.thrash = (n, w, t))) ∧
    (∀ c va n ss u k, (s.ctx? c).isSome → s.mapVa c va n true false = some ss → s.openPages c (spanIas ss) true false = .ok u → u.badByte c (spanIas ss) = none →
      checkKernel c (s.ctx c).set.priv (s.ctx c).set.ylim ((spanIas ss).map (u.homeByte c)) = .ok k →
      Done (.imageSubmit h c va n) s h 0x11 [0, s.hub.nextKhnd] (fun t => t.kernels = s.kernels ++ [(s.hub.nextKhnd, k)])) ∧
    (∀ c n k, look s.kernels n = some k → k.ctx = c → k.released = false →
      Done (.imageRelease h c n) s h 0x12 [] (fun t => look t.kernels n = some { k with released := true })) ∧
    (∀ c q, (s.ctx? c).isSome → NoRetake { s with ctxs := put s.ctxs c { s.ctx c with quota := q } } →
      Done (.quotaSet h c q) s h 0x13 [] (fun t => (t.ctx c).quota = q)) ∧
    (∀ c d b z x, s.ctx? c = some x → look x.trans.market d = none → s.diePresent d = true → b % 65536 = 0 → z % 65536 = 0 → b + z ≤ 2 ^ 25 → z ≠ 0 →
      (∀ c' y b' z', (c', y) ∈ s.ctxs → c' ≠ c → look y.trans.market d = some (b', z') → b + z ≤ b' ∨ b' + z' ≤ b) →
      Done (.marketAllotmentSet h c d b z) s h 0x14 [] (fun t => look (t.ctx c).trans.market d = some (b, z))))

/-- Events of the port, the fabric, the memories' banks, clocks and power complete: `arpRequest`, `icmpEcho`, `priorityFlowControlFrame`, `flitRetransmit`,
`portStateChange`, `bankMarkFailed`, `bankRebuildRow`, `clockDroop`, `clockStepUp`, `governorRound`, `thermalLimit`, `thermalTrip`, `corePowerRemove`, `powerUp`.
What it says of points that the spec leaves open is the model's choice: notes/assumptions/14, 76, 77, 80, 81. -/
def Obligations.DeviceEventsComplete : Prop :=
  (∀ (s : State) a, s.hub.power = .up → s.packetOk a.net = true → a.addr ∈ s.hub.addrs → ∃ t : State, exec (.arpRequest a) s = .next t ∧ Sends s t [.arp a.addr] ∧ t.mem = s.mem) ∧
  (∀ (s : State) a, s.hub.power = .up → s.packetOk a.net = true → a.addr ∈ s.hub.addrs → ∃ t : State, exec (.icmpEcho a) s = .next t ∧ Sends s t [.icmp a.payload] ∧ t.mem = s.mem) ∧
  (∀ (s : State) k p, s.hub.power = .up → ∃ t : State, exec (.priorityFlowControlFrame k p) s = .next t ∧ t.hub.paused = (s.hub.paused &&& ~~~k) ||| (p &&& k)) ∧
  (∀ (s : State) p, ∃ t : State, exec (.flitRetransmit p) s = .next t ∧ t.mem = s.mem ∧ t.out = s.out ∧
    look t.hub.fabric.retransmits p = some ((look s.hub.fabric.retransmits p).getD 0 + 1)) ∧
  (∀ (s : State) p st, p < 32 → p ∉ s.hub.ras.absentPorts → (∀ e ∈ s.ctxs, ∀ j ∈ e.2.jobs, j.2.retired = true) →
    ∃ t : State, exec (.portStateChange p st) s = .next t ∧ t.mem = s.mem ∧ look t.hub.fabric.ports p = some st) ∧
  (∀ (s : State) g k, s.groupThere g = true → k ≤ 18 → (s.bankOf g).lost = false → (s.bankOf g).failed = [] → k ≠ 18 → (s.bankOf g).rebuilding = none → ∃ t : State, exec (.bankMarkFailed g k) s = .next t ∧ Untouched s t ∧ (t.bankOf g).failed = [k] ∧
      (t.bankOf g).rebuilding = some (k, 0) ∧ Adds s t [.bankRebuildRow g]) ∧
  (∀ (s : State) g k r, (s.bankOf g).rebuilding = some (k, r) → ∃ t : State, exec (.bankRebuildRow g) s = .next t ∧ Untouched s t ∧
    t.bankOf g = if r + 1 < bankRows g.unit then { s.bankOf g with rebuilding := some (k, r + 1) } else { s.bankOf g with rebuilding := none, spareUsed := true, replaced := some k }) ∧
  (∀ (s : State) d x, d ≤ 4 → (x = 30 ∨ x = 27 ∨ x = 24) → ∃ t : State, exec (.clockDroop d x) s = .next t ∧ Untouched s t ∧ t.clockOf d = min x (s.clockOf d)) ∧
  (∀ (s : State) d, d ≤ 4 → s.clockOf d < 33 → ∃ t : State, exec (.clockStepUp d) s = .next t ∧ Untouched s t ∧ t.clockOf d = s.clockOf d + 3) ∧
  (∀ (s : State) demand, ∃ t : State, exec (.governorRound demand) s = .next t ∧ Untouched s t ∧ ∀ d, d < 4 → (t.die d).budget = s.unitBudget demand d) ∧
  (∀ (s : State) d, ∃ t : State, exec (.thermalLimit d) s = .next t ∧ Untouched s t ∧ t.tokens = s.tokens - s.tokens / 10) ∧
  (∀ (s : State), ∃ t : State, exec .thermalTrip s = .next t ∧ Untouched s t ∧ t.hub.therm = true ∧ Adds s t [.corePowerRemove]) ∧
  (∀ (s : State), s.hub.therm = true → ∃ t : State, exec .corePowerRemove s = .next t ∧ t.hub.power = .off ∧ t.mem = [] ∧ ∀ c, t.ctx? c = none) ∧
  (∀ (s : State) x, ∃ t : State, exec (.powerUp x) s = .next t ∧ t.ctxs = [] ∧ t.threads = [] ∧ t.mem = [] ∧ t.hub.straps = x)
end

