-- ==== Sys2Proof/Laws/Memory.lean ====
section
/-!
SUPPORT. The sparse maps that hold memories and register files: what a read gives after a write, and that every operation
keeps the canonical form.
-/
namespace Sys2Proof.Laws
open Sys2Proof Sys2Proof.Machine

variable {α : Type} [DecidableEq α] {d : α} {m : List (Nat × α)} {lo lo' k j : Nat} {v : α}

theorem swfFrom_mono (h : swfFrom d lo m = true) (hl : lo' ≤ lo) : swfFrom d lo' m = true := by
  cases m with
  | nil => rfl
  | cons e r =>
    simp only [swfFrom, Bool.and_eq_true, decide_eq_true_eq] at h ⊢
    exact ⟨⟨hl.trans h.1.1, h.1.2⟩, h.2⟩

theorem sget_below (h : swfFrom d lo m = true) (hk : k < lo) : sget d m k = d := by
  induction m generalizing lo with
  | nil => rfl
  | cons e r ih =>
    simp only [swfFrom, Bool.and_eq_true, decide_eq_true_eq] at h
    have : e.1 ≠ k := by omega
    simp only [sget, if_neg this]
    exact ih h.2 (by omega)

theorem swfFrom_sset (h : swfFrom d lo m = true) (hk : lo ≤ k) : swfFrom d lo (sset d m k v) = true := by
  induction m generalizing lo with
  | nil => by_cases hv : v = d <;> simp [sset, hv, swfFrom, hk]
  | cons e r ih =>
    obtain ⟨a, w⟩ := e
    simp only [swfFrom, Bool.and_eq_true, decide_eq_true_eq] at h
    obtain ⟨⟨ha, hw⟩, hr⟩ := h
    simp only [sset]
    split_ifs with h1 h2 h3 h4
    · simp [swfFrom, ha, hw, hr]
    · simp [swfFrom, hk, h2, hw, hr]; omega
    · exact swfFrom_mono hr (by omega)
    · subst h3; simp [swfFrom, h4, hr, hk]
    · simp only [swfFrom, Bool.and_eq_true, decide_eq_true_eq]
      exact ⟨⟨ha, hw⟩, ih hr (by omega)⟩

/-- A write keeps the canonical form. -/
theorem swf_sset (h : swf d m = true) : swf d (sset d m k v) = true := swfFrom_sset h (Nat.zero_le k)

theorem sget_sset_from (h : swfFrom d lo m = true) : sget d (sset d m k v) j = if k = j then v else sget d m j := by
  induction m generalizing lo with
  | nil => by_cases hv : v = d <;> by_cases hj : k = j <;> simp [sset, sget, hv, hj]
  | cons e r ih =>
    obtain ⟨a, w⟩ := e
    simp only [swfFrom, Bool.and_eq_true, decide_eq_true_eq] at h
    obtain ⟨⟨ha, hw⟩, hr⟩ := h
    rcases lt_trichotomy k a with h1 | h1 | h1
    · by_cases hj : k = j
      · subst hj
        by_cases hv : v = d <;> simp [sset, h1, hv, sget, show a ≠ k by omega, sget_below hr (show k < a + 1 by omega)]
      · by_cases hv : v = d <;> simp [sset, h1, hv, sget, hj]
    · subst h1
      by_cases hv : v = d <;> by_cases hj : k = j <;> simp [sset, hv, hj, sget]
      subst hj
      exact sget_below hr (Nat.lt_succ_self k)
    · by_cases hj : a = j
      · subst hj
        simp [sset, sget, show ¬k < a by omega, show k ≠ a by omega]
      · simp [sset, sget, hj, show ¬k < a by omega, show k ≠ a by omega, ih hr]

/-- What a read gives after a write, of a map in canonical form. -/
theorem sget_sset (h : swf d m = true) : sget d (sset d m k v) j = if k = j then v else sget d m j := sget_sset_from h

omit [DecidableEq α] in
theorem sget_filter_not (p : Nat × α → Bool) (hp : ∀ w, p (j, w) = false) : sget d (m.filter p) j = d := by
  induction m with
  | nil => rfl
  | cons e r ih =>
    obtain ⟨a, w⟩ := e
    by_cases h : p (a, w) = true
    · have : a ≠ j := by rintro rfl; simp [hp] at h
      simp [List.filter, h, sget, this, ih]
    · simp [List.filter, Bool.eq_false_iff.mpr h, ih]

omit [DecidableEq α] in
theorem sget_filter_kept (p : Nat × α → Bool) (hp : ∀ w, p (j, w) = true) : sget d (m.filter p) j = sget d m j := by
  induction m with
  | nil => rfl
  | cons e r ih =>
    obtain ⟨a, w⟩ := e
    by_cases hj : a = j
    · subst hj; simp [List.filter, hp, sget]
    · cases h : p (a, w) <;> simp [List.filter, h, sget, hj, ih]

theorem swfFrom_filter (p : Nat × α → Bool) (h : swfFrom d lo m = true) : swfFrom d lo (m.filter p) = true := by
  induction m generalizing lo with
  | nil => rfl
  | cons e r ih =>
    obtain ⟨a, w⟩ := e
    simp only [swfFrom, Bool.and_eq_true, decide_eq_true_eq] at h
    cases hp : p (a, w)
    · simpa [List.filter, hp] using ih (swfFrom_mono h.2 (by omega))
    · simp only [List.filter, hp, swfFrom, Bool.and_eq_true, decide_eq_true_eq]
      exact ⟨h.1, ih h.2⟩

/-! ## Memories -/

variable {mem cells : Memory} {a b n : Nat} {bs : List Byte} {x : Byte}

@[simp] theorem byte_nil : Memory.byte [] a = 0#8 := rfl
@[simp] theorem wf_nil : Memory.wf [] = true := rfl

theorem byte_setByte (h : mem.wf = true) : (mem.setByte a x).byte b = if a = b then x else mem.byte b := sget_sset h
theorem wf_setByte (h : mem.wf = true) : (mem.setByte a x).wf = true := swf_sset h

theorem wf_writeBytes (h : mem.wf = true) : (mem.writeBytes a bs).wf = true := by
  induction bs generalizing mem a with
  | nil => exact h
  | cons x r ih => exact ih (wf_setByte h)

/-- A write of bytes leaves every byte outside it alone. -/
theorem byte_writeBytes_other (h : mem.wf = true) (hb : b < a ∨ a + bs.length ≤ b) : (mem.writeBytes a bs).byte b = mem.byte b := by
  induction bs generalizing mem a with
  | nil => rfl
  | cons x r ih =>
    simp only [List.length_cons] at hb
    rw [Memory.writeBytes, ih (wf_setByte h) (by omega), byte_setByte h, if_neg (by omega)]

theorem wf_filter (p : Nat × Byte → Bool) (h : mem.wf = true) : Memory.wf (mem.filter p) = true := swfFrom_filter p h
theorem wf_zero (h : mem.wf = true) : (mem.zero a b).wf = true := swfFrom_filter _ h

/-- Bytes from a to b become zero, and no other byte changes. -/
theorem byte_zero : (mem.zero a b).byte n = if a ≤ n ∧ n ≤ b then 0#8 else mem.byte n := by
  unfold Memory.zero Memory.byte sclear
  split_ifs with h
  · exact sget_filter_not _ (fun w => by simp; omega)
  · exact sget_filter_kept _ (fun w => by simp; omega)

theorem wf_foldl_setByte (f : Nat → Nat) (h : mem.wf = true) : (cells.foldl (fun m e => m.setByte (f e.1) e.2) mem).wf = true := by
  induction cells generalizing mem with
  | nil => exact h
  | cons e r ih => exact ih (wf_setByte h)

/-- A copy of cells into a memory keeps its canonical form. -/
theorem wf_memPaste (h : mem.wf = true) : (memPaste mem a n cells).wf = true := wf_foldl_setByte _ (wf_zero h)

theorem wf_shift (h : swfFrom d lo m = true) (hm : ∀ e ∈ m, k ≤ e.1) : swfFrom d (lo - k) (m.map (fun e => (e.1 - k, e.2))) = true := by
  induction m generalizing lo with
  | nil => rfl
  | cons e r ih =>
    simp only [swfFrom, List.map_cons, Bool.and_eq_true, decide_eq_true_eq] at h ⊢
    have he := hm e (by simp)
    refine ⟨⟨by omega, h.1.2⟩, ?_⟩
    have := ih h.2 (fun x hx => hm x (by simp [hx]))
    rwa [show e.1 + 1 - k = e.1 - k + 1 by omega] at this

/-- A stretch of a memory, numbered from zero, is in canonical form. -/
theorem wf_memSlice (h : mem.wf = true) : (memSlice mem a n).wf = true := by
  have := wf_shift (k := a) (lo := 0) (wf_filter (fun e => decide (a ≤ e.1) && decide (e.1 < a + n)) h) (by
    intro e he
    simp at he
    omega)
  simpa [memSlice, Memory.wf, swf] using this

theorem wf_foldl_set {β : Type} (l : List β) (f : β → Nat) (v : Memory → β → Byte) (h : mem.wf = true) :
    (l.foldl (fun m e => m.setByte (f e) (v m e)) mem).wf = true := by
  induction l generalizing mem with
  | nil => exact h
  | cons e r ih => exact ih (wf_setByte h)

/-- Writing an element or a scale of a reservation keeps the canonical form. -/
theorem wf_storeElem {sc : Bool} {r : BitVec 256} {row kk v : Nat} (h : mem.wf = true) : (storeElem sc mem r row kk v).wf = true := by
  unfold storeElem
  split_ifs
  · exact wf_setByte h
  · exact wf_foldl_set _ _ _ h

/-- The memory after reset is in canonical form. -/
theorem wf_reset : State.reset.mem.wf = true := rfl

@[simp] theorem length_readBytes : (mem.readBytes a n).length = n := by
  induction n generalizing a with
  | zero => rfl
  | succ n ih => simp [Memory.readBytes, ih]

/-- The i-th byte of a read is the byte at its address. -/
theorem getD_readBytes {i : Nat} (hi : i < n) : (mem.readBytes a n).getD i x = mem.byte (a + i) := by
  induction n generalizing a i with
  | zero => omega
  | succ n ih =>
    cases i with
    | zero => simp [Memory.readBytes]
    | succ i => simpa [Memory.readBytes, Nat.add_assoc, Nat.add_comm 1 i] using ih (a := a + 1) (i := i) (by omega)

@[simp] theorem length_bytesOfNat : (bytesOfNat b n).length = n := by
  induction n generalizing b with
  | zero => rfl
  | succ n ih => simp [bytesOfNat, ih]

@[simp] theorem length_wordsOfNat : (wordsOfNat b n).length = n := by
  induction n generalizing b with
  | zero => rfl
  | succ n ih => simp [wordsOfNat, ih]

end Sys2Proof.Laws
end

