-- ==== Sys2Proof/Laws/State.lean ====
section
/-!
SUPPORT. One lemma per field of the state and per update that leaves it alone, and what an update does to the entry that it
names, so that no proof unfolds a record update.
-/
namespace Sys2Proof.Laws
open Sys2Proof Sys2Proof.Machine

variable (s : State)

/-! ## Tables -/

section Tables
variable {κ α : Type} [DecidableEq κ] {t : List (κ × α)} {k j : κ} {v : α}

theorem look_put : look (put t k v) j = if k = j then some v else look t j := by
  induction t with
  | nil => rfl
  | cons e r ih =>
    obtain ⟨a, w⟩ := e
    by_cases ha : a = k <;> by_cases hj : k = j <;> by_cases haj : a = j <;> simp_all [put, look]

@[simp] theorem look_put_self : look (put t k v) k = some v := by simp [look_put]
theorem look_put_other (h : k ≠ j) : look (put t k v) j = look t j := by simp [look_put, h]

theorem look_del : look (del t k) j = if k = j then none else look t j := by
  induction t with
  | nil => simp [del, look]
  | cons e r ih =>
    obtain ⟨a, w⟩ := e
    by_cases ha : a = k <;> by_cases hj : k = j <;> by_cases haj : a = j <;> simp_all [del, look]

theorem look_mem (h : look t k = some v) : (k, v) ∈ t := by
  induction t with
  | nil => simp [look] at h
  | cons e r ih =>
    obtain ⟨a, w⟩ := e
    by_cases ha : a = k <;> simp_all [look]

theorem mem_put {e : κ × α} (h : e ∈ put t k v) : e = (k, v) ∨ e ∈ t := by
  induction t with
  | nil => simpa [put] using h
  | cons x r ih =>
    obtain ⟨a, w⟩ := x
    simp only [put] at h
    split_ifs at h <;> simp only [List.mem_cons] at h ⊢ <;> tauto

theorem mem_of_mem_del {e : κ × α} (h : e ∈ del t k) : e ∈ t := by
  induction t with
  | nil => exact h
  | cons x r ih =>
    obtain ⟨a, w⟩ := x
    simp only [del] at h
    split_ifs at h <;> simp only [List.mem_cons] at h ⊢ <;> tauto

theorem keys_put (h : (look t k).isSome) : (put t k v).map (·.1) = t.map (·.1) := by
  induction t with
  | nil => simp [look] at h
  | cons e r ih =>
    obtain ⟨a, w⟩ := e
    by_cases ha : a = k <;> simp_all [put, look]

end Tables

/-! ## Fields that an update leaves alone -/

@[simp] theorem bump_issue : (s.bump).issue = s.issue := rfl
@[simp] theorem bump_agenda : (s.bump).agenda = s.agenda := rfl
@[simp] theorem bump_threads : (s.bump).threads = s.threads := rfl
@[simp] theorem bump_lines : (s.bump).lines = s.lines := rfl
@[simp] theorem bump_cores : (s.bump).cores = s.cores := rfl
@[simp] theorem bump_squares : (s.bump).squares = s.squares := rfl
@[simp] theorem bump_dies : (s.bump).dies = s.dies := rfl
@[simp] theorem bump_mem : (s.bump).mem = s.mem := rfl
@[simp] theorem bump_uncorr : (s.bump).uncorr = s.uncorr := rfl
@[simp] theorem bump_badChip : (s.bump).badChip = s.badChip := rfl
@[simp] theorem bump_badPans : (s.bump).badPans = s.badPans := rfl
@[simp] theorem bump_ctxs : (s.bump).ctxs = s.ctxs := rfl
@[simp] theorem bump_queues : (s.bump).queues = s.queues := rfl
@[simp] theorem bump_launches : (s.bump).launches = s.launches := rfl
@[simp] theorem bump_kernels : (s.bump).kernels = s.kernels := rfl
@[simp] theorem bump_pans : (s.bump).pans = s.pans := rfl
@[simp] theorem bump_roots : (s.bump).roots = s.roots := rfl
@[simp] theorem bump_waits : (s.bump).waits = s.waits := rfl
@[simp] theorem bump_wbHeld : (s.bump).wbHeld = s.wbHeld := rfl
@[simp] theorem bump_halves : (s.bump).halves = s.halves := rfl
@[simp] theorem bump_images : (s.bump).images = s.images := rfl
@[simp] theorem bump_hub : (s.bump).hub = s.hub := rfl
@[simp] theorem bump_out : (s.bump).out = s.out := rfl

@[simp] theorem tick_issue : (s.tick).issue = s.issue := rfl
@[simp] theorem tick_agenda : (s.tick).agenda = s.agenda := rfl
@[simp] theorem tick_threads : (s.tick).threads = s.threads := rfl
@[simp] theorem tick_lines : (s.tick).lines = s.lines := rfl
@[simp] theorem tick_cores : (s.tick).cores = s.cores := rfl
@[simp] theorem tick_squares : (s.tick).squares = s.squares := rfl
@[simp] theorem tick_dies : (s.tick).dies = s.dies := rfl
@[simp] theorem tick_mem : (s.tick).mem = s.mem := rfl
@[simp] theorem tick_uncorr : (s.tick).uncorr = s.uncorr := rfl
@[simp] theorem tick_badChip : (s.tick).badChip = s.badChip := rfl
@[simp] theorem tick_badPans : (s.tick).badPans = s.badPans := rfl
@[simp] theorem tick_ctxs : (s.tick).ctxs = s.ctxs := rfl
@[simp] theorem tick_queues : (s.tick).queues = s.queues := rfl
@[simp] theorem tick_launches : (s.tick).launches = s.launches := rfl
@[simp] theorem tick_kernels : (s.tick).kernels = s.kernels := rfl
@[simp] theorem tick_pans : (s.tick).pans = s.pans := rfl
@[simp] theorem tick_roots : (s.tick).roots = s.roots := rfl
@[simp] theorem tick_waits : (s.tick).waits = s.waits := rfl
@[simp] theorem tick_wbHeld : (s.tick).wbHeld = s.wbHeld := rfl
@[simp] theorem tick_halves : (s.tick).halves = s.halves := rfl
@[simp] theorem tick_images : (s.tick).images = s.images := rfl
@[simp] theorem tick_hub : (s.tick).hub = s.hub := rfl
@[simp] theorem tick_out : (s.tick).out = s.out := rfl

@[simp] theorem post_aux (i : Instr) : (s.post i).aux = s.aux := rfl
@[simp] theorem post_issue (i : Instr) : (s.post i).issue = s.issue := rfl
@[simp] theorem post_threads (i : Instr) : (s.post i).threads = s.threads := rfl
@[simp] theorem post_lines (i : Instr) : (s.post i).lines = s.lines := rfl
@[simp] theorem post_cores (i : Instr) : (s.post i).cores = s.cores := rfl
@[simp] theorem post_squares (i : Instr) : (s.post i).squares = s.squares := rfl
@[simp] theorem post_dies (i : Instr) : (s.post i).dies = s.dies := rfl
@[simp] theorem post_mem (i : Instr) : (s.post i).mem = s.mem := rfl
@[simp] theorem post_uncorr (i : Instr) : (s.post i).uncorr = s.uncorr := rfl
@[simp] theorem post_badChip (i : Instr) : (s.post i).badChip = s.badChip := rfl
@[simp] theorem post_badPans (i : Instr) : (s.post i).badPans = s.badPans := rfl
@[simp] theorem post_ctxs (i : Instr) : (s.post i).ctxs = s.ctxs := rfl
@[simp] theorem post_queues (i : Instr) : (s.post i).queues = s.queues := rfl
@[simp] theorem post_launches (i : Instr) : (s.post i).launches = s.launches := rfl
@[simp] theorem post_kernels (i : Instr) : (s.post i).kernels = s.kernels := rfl
@[simp] theorem post_pans (i : Instr) : (s.post i).pans = s.pans := rfl
@[simp] theorem post_roots (i : Instr) : (s.post i).roots = s.roots := rfl
@[simp] theorem post_waits (i : Instr) : (s.post i).waits = s.waits := rfl
@[simp] theorem post_wbHeld (i : Instr) : (s.post i).wbHeld = s.wbHeld := rfl
@[simp] theorem post_halves (i : Instr) : (s.post i).halves = s.halves := rfl
@[simp] theorem post_images (i : Instr) : (s.post i).images = s.images := rfl
@[simp] theorem post_hub (i : Instr) : (s.post i).hub = s.hub := rfl
@[simp] theorem post_out (i : Instr) : (s.post i).out = s.out := rfl

@[simp] theorem send_aux (x : Frame) : (s.send x).aux = s.aux := rfl
@[simp] theorem send_issue (x : Frame) : (s.send x).issue = s.issue := rfl
@[simp] theorem send_agenda (x : Frame) : (s.send x).agenda = s.agenda := rfl
@[simp] theorem send_threads (x : Frame) : (s.send x).threads = s.threads := rfl
@[simp] theorem send_lines (x : Frame) : (s.send x).lines = s.lines := rfl
@[simp] theorem send_cores (x : Frame) : (s.send x).cores = s.cores := rfl
@[simp] theorem send_squares (x : Frame) : (s.send x).squares = s.squares := rfl
@[simp] theorem send_dies (x : Frame) : (s.send x).dies = s.dies := rfl
@[simp] theorem send_mem (x : Frame) : (s.send x).mem = s.mem := rfl
@[simp] theorem send_uncorr (x : Frame) : (s.send x).uncorr = s.uncorr := rfl
@[simp] theorem send_badChip (x : Frame) : (s.send x).badChip = s.badChip := rfl
@[simp] theorem send_badPans (x : Frame) : (s.send x).badPans = s.badPans := rfl
@[simp] theorem send_ctxs (x : Frame) : (s.send x).ctxs = s.ctxs := rfl
@[simp] theorem send_queues (x : Frame) : (s.send x).queues = s.queues := rfl
@[simp] theorem send_launches (x : Frame) : (s.send x).launches = s.launches := rfl
@[simp] theorem send_kernels (x : Frame) : (s.send x).kernels = s.kernels := rfl
@[simp] theorem send_pans (x : Frame) : (s.send x).pans = s.pans := rfl
@[simp] theorem send_roots (x : Frame) : (s.send x).roots = s.roots := rfl
@[simp] theorem send_waits (x : Frame) : (s.send x).waits = s.waits := rfl
@[simp] theorem send_wbHeld (x : Frame) : (s.send x).wbHeld = s.wbHeld := rfl
@[simp] theorem send_halves (x : Frame) : (s.send x).halves = s.halves := rfl
@[simp] theorem send_images (x : Frame) : (s.send x).images = s.images := rfl
@[simp] theorem send_hub (x : Frame) : (s.send x).hub = s.hub := rfl

@[simp] theorem modCore_aux (c v : Nat) (f : Core → Core) : (s.modCore c v f).aux = s.aux := rfl
@[simp] theorem modCore_issue (c v : Nat) (f : Core → Core) : (s.modCore c v f).issue = s.issue := rfl
@[simp] theorem modCore_agenda (c v : Nat) (f : Core → Core) : (s.modCore c v f).agenda = s.agenda := rfl
@[simp] theorem modCore_threads (c v : Nat) (f : Core → Core) : (s.modCore c v f).threads = s.threads := rfl
@[simp] theorem modCore_lines (c v : Nat) (f : Core → Core) : (s.modCore c v f).lines = s.lines := rfl
@[simp] theorem modCore_squares (c v : Nat) (f : Core → Core) : (s.modCore c v f).squares = s.squares := rfl
@[simp] theorem modCore_dies (c v : Nat) (f : Core → Core) : (s.modCore c v f).dies = s.dies := rfl
@[simp] theorem modCore_mem (c v : Nat) (f : Core → Core) : (s.modCore c v f).mem = s.mem := rfl
@[simp] theorem modCore_uncorr (c v : Nat) (f : Core → Core) : (s.modCore c v f).uncorr = s.uncorr := rfl
@[simp] theorem modCore_badChip (c v : Nat) (f : Core → Core) : (s.modCore c v f).badChip = s.badChip := rfl
@[simp] theorem modCore_badPans (c v : Nat) (f : Core → Core) : (s.modCore c v f).badPans = s.badPans := rfl
@[simp] theorem modCore_ctxs (c v : Nat) (f : Core → Core) : (s.modCore c v f).ctxs = s.ctxs := rfl
@[simp] theorem modCore_queues (c v : Nat) (f : Core → Core) : (s.modCore c v f).queues = s.queues := rfl
@[simp] theorem modCore_launches (c v : Nat) (f : Core → Core) : (s.modCore c v f).launches = s.launches := rfl
@[simp] theorem modCore_kernels (c v : Nat) (f : Core → Core) : (s.modCore c v f).kernels = s.kernels := rfl
@[simp] theorem modCore_pans (c v : Nat) (f : Core → Core) : (s.modCore c v f).pans = s.pans := rfl
@[simp] theorem modCore_roots (c v : Nat) (f : Core → Core) : (s.modCore c v f).roots = s.roots := rfl
@[simp] theorem modCore_waits (c v : Nat) (f : Core → Core) : (s.modCore c v f).waits = s.waits := rfl
@[simp] theorem modCore_wbHeld (c v : Nat) (f : Core → Core) : (s.modCore c v f).wbHeld = s.wbHeld := rfl
@[simp] theorem modCore_halves (c v : Nat) (f : Core → Core) : (s.modCore c v f).halves = s.halves := rfl
@[simp] theorem modCore_images (c v : Nat) (f : Core → Core) : (s.modCore c v f).images = s.images := rfl
@[simp] theorem modCore_hub (c v : Nat) (f : Core → Core) : (s.modCore c v f).hub = s.hub := rfl
@[simp] theorem modCore_out (c v : Nat) (f : Core → Core) : (s.modCore c v f).out = s.out := rfl

@[simp] theorem modLine_aux (c v l : Nat) (f : Line → Line) : (s.modLine c v l f).aux = s.aux := rfl
@[simp] theorem modLine_issue (c v l : Nat) (f : Line → Line) : (s.modLine c v l f).issue = s.issue := rfl
@[simp] theorem modLine_agenda (c v l : Nat) (f : Line → Line) : (s.modLine c v l f).agenda = s.agenda := rfl
@[simp] theorem modLine_threads (c v l : Nat) (f : Line → Line) : (s.modLine c v l f).threads = s.threads := rfl
@[simp] theorem modLine_cores (c v l : Nat) (f : Line → Line) : (s.modLine c v l f).cores = s.cores := rfl
@[simp] theorem modLine_squares (c v l : Nat) (f : Line → Line) : (s.modLine c v l f).squares = s.squares := rfl
@[simp] theorem modLine_dies (c v l : Nat) (f : Line → Line) : (s.modLine c v l f).dies = s.dies := rfl
@[simp] theorem modLine_mem (c v l : Nat) (f : Line → Line) : (s.modLine c v l f).mem = s.mem := rfl
@[simp] theorem modLine_uncorr (c v l : Nat) (f : Line → Line) : (s.modLine c v l f).uncorr = s.uncorr := rfl
@[simp] theorem modLine_badChip (c v l : Nat) (f : Line → Line) : (s.modLine c v l f).badChip = s.badChip := rfl
@[simp] theorem modLine_badPans (c v l : Nat) (f : Line → Line) : (s.modLine c v l f).badPans = s.badPans := rfl
@[simp] theorem modLine_ctxs (c v l : Nat) (f : Line → Line) : (s.modLine c v l f).ctxs = s.ctxs := rfl
@[simp] theorem modLine_queues (c v l : Nat) (f : Line → Line) : (s.modLine c v l f).queues = s.queues := rfl
@[simp] theorem modLine_launches (c v l : Nat) (f : Line → Line) : (s.modLine c v l f).launches = s.launches := rfl
@[simp] theorem modLine_kernels (c v l : Nat) (f : Line → Line) : (s.modLine c v l f).kernels = s.kernels := rfl
@[simp] theorem modLine_pans (c v l : Nat) (f : Line → Line) : (s.modLine c v l f).pans = s.pans := rfl
@[simp] theorem modLine_roots (c v l : Nat) (f : Line → Line) : (s.modLine c v l f).roots = s.roots := rfl
@[simp] theorem modLine_waits (c v l : Nat) (f : Line → Line) : (s.modLine c v l f).waits = s.waits := rfl
@[simp] theorem modLine_wbHeld (c v l : Nat) (f : Line → Line) : (s.modLine c v l f).wbHeld = s.wbHeld := rfl
@[simp] theorem modLine_halves (c v l : Nat) (f : Line → Line) : (s.modLine c v l f).halves = s.halves := rfl
@[simp] theorem modLine_images (c v l : Nat) (f : Line → Line) : (s.modLine c v l f).images = s.images := rfl
@[simp] theorem modLine_hub (c v l : Nat) (f : Line → Line) : (s.modLine c v l f).hub = s.hub := rfl
@[simp] theorem modLine_out (c v l : Nat) (f : Line → Line) : (s.modLine c v l f).out = s.out := rfl

@[simp] theorem modSquare_aux (q : Nat) (f : Square → Square) : (s.modSquare q f).aux = s.aux := rfl
@[simp] theorem modSquare_issue (q : Nat) (f : Square → Square) : (s.modSquare q f).issue = s.issue := rfl
@[simp] theorem modSquare_agenda (q : Nat) (f : Square → Square) : (s.modSquare q f).agenda = s.agenda := rfl
@[simp] theorem modSquare_threads (q : Nat) (f : Square → Square) : (s.modSquare q f).threads = s.threads := rfl
@[simp] theorem modSquare_lines (q : Nat) (f : Square → Square) : (s.modSquare q f).lines = s.lines := rfl
@[simp] theorem modSquare_cores (q : Nat) (f : Square → Square) : (s.modSquare q f).cores = s.cores := rfl
@[simp] theorem modSquare_dies (q : Nat) (f : Square → Square) : (s.modSquare q f).dies = s.dies := rfl
@[simp] theorem modSquare_mem (q : Nat) (f : Square → Square) : (s.modSquare q f).mem = s.mem := rfl
@[simp] theorem modSquare_uncorr (q : Nat) (f : Square → Square) : (s.modSquare q f).uncorr = s.uncorr := rfl
@[simp] theorem modSquare_badChip (q : Nat) (f : Square → Square) : (s.modSquare q f).badChip = s.badChip := rfl
@[simp] theorem modSquare_badPans (q : Nat) (f : Square → Square) : (s.modSquare q f).badPans = s.badPans := rfl
@[simp] theorem modSquare_ctxs (q : Nat) (f : Square → Square) : (s.modSquare q f).ctxs = s.ctxs := rfl
@[simp] theorem modSquare_queues (q : Nat) (f : Square → Square) : (s.modSquare q f).queues = s.queues := rfl
@[simp] theorem modSquare_launches (q : Nat) (f : Square → Square) : (s.modSquare q f).launches = s.launches := rfl
@[simp] theorem modSquare_kernels (q : Nat) (f : Square → Square) : (s.modSquare q f).kernels = s.kernels := rfl
@[simp] theorem modSquare_pans (q : Nat) (f : Square → Square) : (s.modSquare q f).pans = s.pans := rfl
@[simp] theorem modSquare_roots (q : Nat) (f : Square → Square) : (s.modSquare q f).roots = s.roots := rfl
@[simp] theorem modSquare_waits (q : Nat) (f : Square → Square) : (s.modSquare q f).waits = s.waits := rfl
@[simp] theorem modSquare_wbHeld (q : Nat) (f : Square → Square) : (s.modSquare q f).wbHeld = s.wbHeld := rfl
@[simp] theorem modSquare_halves (q : Nat) (f : Square → Square) : (s.modSquare q f).halves = s.halves := rfl
@[simp] theorem modSquare_images (q : Nat) (f : Square → Square) : (s.modSquare q f).images = s.images := rfl
@[simp] theorem modSquare_hub (q : Nat) (f : Square → Square) : (s.modSquare q f).hub = s.hub := rfl
@[simp] theorem modSquare_out (q : Nat) (f : Square → Square) : (s.modSquare q f).out = s.out := rfl

@[simp] theorem modDie_aux (q : Nat) (f : Die → Die) : (s.modDie q f).aux = s.aux := rfl
@[simp] theorem modDie_issue (q : Nat) (f : Die → Die) : (s.modDie q f).issue = s.issue := rfl
@[simp] theorem modDie_agenda (q : Nat) (f : Die → Die) : (s.modDie q f).agenda = s.agenda := rfl
@[simp] theorem modDie_threads (q : Nat) (f : Die → Die) : (s.modDie q f).threads = s.threads := rfl
@[simp] theorem modDie_lines (q : Nat) (f : Die → Die) : (s.modDie q f).lines = s.lines := rfl
@[simp] theorem modDie_cores (q : Nat) (f : Die → Die) : (s.modDie q f).cores = s.cores := rfl
@[simp] theorem modDie_squares (q : Nat) (f : Die → Die) : (s.modDie q f).squares = s.squares := rfl
@[simp] theorem modDie_mem (q : Nat) (f : Die → Die) : (s.modDie q f).mem = s.mem := rfl
@[simp] theorem modDie_uncorr (q : Nat) (f : Die → Die) : (s.modDie q f).uncorr = s.uncorr := rfl
@[simp] theorem modDie_badChip (q : Nat) (f : Die → Die) : (s.modDie q f).badChip = s.badChip := rfl
@[simp] theorem modDie_badPans (q : Nat) (f : Die → Die) : (s.modDie q f).badPans = s.badPans := rfl
@[simp] theorem modDie_ctxs (q : Nat) (f : Die → Die) : (s.modDie q f).ctxs = s.ctxs := rfl
@[simp] theorem modDie_queues (q : Nat) (f : Die → Die) : (s.modDie q f).queues = s.queues := rfl
@[simp] theorem modDie_launches (q : Nat) (f : Die → Die) : (s.modDie q f).launches = s.launches := rfl
@[simp] theorem modDie_kernels (q : Nat) (f : Die → Die) : (s.modDie q f).kernels = s.kernels := rfl
@[simp] theorem modDie_pans (q : Nat) (f : Die → Die) : (s.modDie q f).pans = s.pans := rfl
@[simp] theorem modDie_roots (q : Nat) (f : Die → Die) : (s.modDie q f).roots = s.roots := rfl
@[simp] theorem modDie_waits (q : Nat) (f : Die → Die) : (s.modDie q f).waits = s.waits := rfl
@[simp] theorem modDie_wbHeld (q : Nat) (f : Die → Die) : (s.modDie q f).wbHeld = s.wbHeld := rfl
@[simp] theorem modDie_halves (q : Nat) (f : Die → Die) : (s.modDie q f).halves = s.halves := rfl
@[simp] theorem modDie_images (q : Nat) (f : Die → Die) : (s.modDie q f).images = s.images := rfl
@[simp] theorem modDie_hub (q : Nat) (f : Die → Die) : (s.modDie q f).hub = s.hub := rfl
@[simp] theorem modDie_out (q : Nat) (f : Die → Die) : (s.modDie q f).out = s.out := rfl

@[simp] theorem modIssCore_aux (f : Core → Core) : (s.modIssCore f).aux = s.aux := rfl
@[simp] theorem modIssCore_issue (f : Core → Core) : (s.modIssCore f).issue = s.issue := rfl
@[simp] theorem modIssCore_agenda (f : Core → Core) : (s.modIssCore f).agenda = s.agenda := rfl
@[simp] theorem modIssCore_threads (f : Core → Core) : (s.modIssCore f).threads = s.threads := rfl
@[simp] theorem modIssCore_lines (f : Core → Core) : (s.modIssCore f).lines = s.lines := rfl
@[simp] theorem modIssCore_squares (f : Core → Core) : (s.modIssCore f).squares = s.squares := rfl
@[simp] theorem modIssCore_dies (f : Core → Core) : (s.modIssCore f).dies = s.dies := rfl
@[simp] theorem modIssCore_mem (f : Core → Core) : (s.modIssCore f).mem = s.mem := rfl
@[simp] theorem modIssCore_uncorr (f : Core → Core) : (s.modIssCore f).uncorr = s.uncorr := rfl
@[simp] theorem modIssCore_badChip (f : Core → Core) : (s.modIssCore f).badChip = s.badChip := rfl
@[simp] theorem modIssCore_badPans (f : Core → Core) : (s.modIssCore f).badPans = s.badPans := rfl
@[simp] theorem modIssCore_ctxs (f : Core → Core) : (s.modIssCore f).ctxs = s.ctxs := rfl
@[simp] theorem modIssCore_queues (f : Core → Core) : (s.modIssCore f).queues = s.queues := rfl
@[simp] theorem modIssCore_launches (f : Core → Core) : (s.modIssCore f).launches = s.launches := rfl
@[simp] theorem modIssCore_kernels (f : Core → Core) : (s.modIssCore f).kernels = s.kernels := rfl
@[simp] theorem modIssCore_pans (f : Core → Core) : (s.modIssCore f).pans = s.pans := rfl
@[simp] theorem modIssCore_roots (f : Core → Core) : (s.modIssCore f).roots = s.roots := rfl
@[simp] theorem modIssCore_waits (f : Core → Core) : (s.modIssCore f).waits = s.waits := rfl
@[simp] theorem modIssCore_wbHeld (f : Core → Core) : (s.modIssCore f).wbHeld = s.wbHeld := rfl
@[simp] theorem modIssCore_halves (f : Core → Core) : (s.modIssCore f).halves = s.halves := rfl
@[simp] theorem modIssCore_images (f : Core → Core) : (s.modIssCore f).images = s.images := rfl
@[simp] theorem modIssCore_hub (f : Core → Core) : (s.modIssCore f).hub = s.hub := rfl
@[simp] theorem modIssCore_out (f : Core → Core) : (s.modIssCore f).out = s.out := rfl

@[simp] theorem modIssLine_aux (f : Line → Line) : (s.modIssLine f).aux = s.aux := rfl
@[simp] theorem modIssLine_issue (f : Line → Line) : (s.modIssLine f).issue = s.issue := rfl
@[simp] theorem modIssLine_agenda (f : Line → Line) : (s.modIssLine f).agenda = s.agenda := rfl
@[simp] theorem modIssLine_threads (f : Line → Line) : (s.modIssLine f).threads = s.threads := rfl
@[simp] theorem modIssLine_cores (f : Line → Line) : (s.modIssLine f).cores = s.cores := rfl
@[simp] theorem modIssLine_squares (f : Line → Line) : (s.modIssLine f).squares = s.squares := rfl
@[simp] theorem modIssLine_dies (f : Line → Line) : (s.modIssLine f).dies = s.dies := rfl
@[simp] theorem modIssLine_mem (f : Line → Line) : (s.modIssLine f).mem = s.mem := rfl
@[simp] theorem modIssLine_uncorr (f : Line → Line) : (s.modIssLine f).uncorr = s.uncorr := rfl
@[simp] theorem modIssLine_badChip (f : Line → Line) : (s.modIssLine f).badChip = s.badChip := rfl
@[simp] theorem modIssLine_badPans (f : Line → Line) : (s.modIssLine f).badPans = s.badPans := rfl
@[simp] theorem modIssLine_ctxs (f : Line → Line) : (s.modIssLine f).ctxs = s.ctxs := rfl
@[simp] theorem modIssLine_queues (f : Line → Line) : (s.modIssLine f).queues = s.queues := rfl
@[simp] theorem modIssLine_launches (f : Line → Line) : (s.modIssLine f).launches = s.launches := rfl
@[simp] theorem modIssLine_kernels (f : Line → Line) : (s.modIssLine f).kernels = s.kernels := rfl
@[simp] theorem modIssLine_pans (f : Line → Line) : (s.modIssLine f).pans = s.pans := rfl
@[simp] theorem modIssLine_roots (f : Line → Line) : (s.modIssLine f).roots = s.roots := rfl
@[simp] theorem modIssLine_waits (f : Line → Line) : (s.modIssLine f).waits = s.waits := rfl
@[simp] theorem modIssLine_wbHeld (f : Line → Line) : (s.modIssLine f).wbHeld = s.wbHeld := rfl
@[simp] theorem modIssLine_halves (f : Line → Line) : (s.modIssLine f).halves = s.halves := rfl
@[simp] theorem modIssLine_images (f : Line → Line) : (s.modIssLine f).images = s.images := rfl
@[simp] theorem modIssLine_hub (f : Line → Line) : (s.modIssLine f).hub = s.hub := rfl
@[simp] theorem modIssLine_out (f : Line → Line) : (s.modIssLine f).out = s.out := rfl

@[simp] theorem modCtx_aux (c : Nat) (f : Ctx → Ctx) : (s.modCtx c f).aux = s.aux := by unfold State.modCtx; split <;> rfl
@[simp] theorem modCtx_issue (c : Nat) (f : Ctx → Ctx) : (s.modCtx c f).issue = s.issue := by unfold State.modCtx; split <;> rfl
@[simp] theorem modCtx_agenda (c : Nat) (f : Ctx → Ctx) : (s.modCtx c f).agenda = s.agenda := by unfold State.modCtx; split <;> rfl
@[simp] theorem modCtx_threads (c : Nat) (f : Ctx → Ctx) : (s.modCtx c f).threads = s.threads := by unfold State.modCtx; split <;> rfl
@[simp] theorem modCtx_lines (c : Nat) (f : Ctx → Ctx) : (s.modCtx c f).lines = s.lines := by unfold State.modCtx; split <;> rfl
@[simp] theorem modCtx_cores (c : Nat) (f : Ctx → Ctx) : (s.modCtx c f).cores = s.cores := by unfold State.modCtx; split <;> rfl
@[simp] theorem modCtx_squares (c : Nat) (f : Ctx → Ctx) : (s.modCtx c f).squares = s.squares := by unfold State.modCtx; split <;> rfl
@[simp] theorem modCtx_dies (c : Nat) (f : Ctx → Ctx) : (s.modCtx c f).dies = s.dies := by unfold State.modCtx; split <;> rfl
@[simp] theorem modCtx_mem (c : Nat) (f : Ctx → Ctx) : (s.modCtx c f).mem = s.mem := by unfold State.modCtx; split <;> rfl
@[simp] theorem modCtx_uncorr (c : Nat) (f : Ctx → Ctx) : (s.modCtx c f).uncorr = s.uncorr := by unfold State.modCtx; split <;> rfl
@[simp] theorem modCtx_badChip (c : Nat) (f : Ctx → Ctx) : (s.modCtx c f).badChip = s.badChip := by unfold State.modCtx; split <;> rfl
@[simp] theorem modCtx_badPans (c : Nat) (f : Ctx → Ctx) : (s.modCtx c f).badPans = s.badPans := by unfold State.modCtx; split <;> rfl
@[simp] theorem modCtx_queues (c : Nat) (f : Ctx → Ctx) : (s.modCtx c f).queues = s.queues := by unfold State.modCtx; split <;> rfl
@[simp] theorem modCtx_launches (c : Nat) (f : Ctx → Ctx) : (s.modCtx c f).launches = s.launches := by unfold State.modCtx; split <;> rfl
@[simp] theorem modCtx_kernels (c : Nat) (f : Ctx → Ctx) : (s.modCtx c f).kernels = s.kernels := by unfold State.modCtx; split <;> rfl
@[simp] theorem modCtx_pans (c : Nat) (f : Ctx → Ctx) : (s.modCtx c f).pans = s.pans := by unfold State.modCtx; split <;> rfl
@[simp] theorem modCtx_roots (c : Nat) (f : Ctx → Ctx) : (s.modCtx c f).roots = s.roots := by unfold State.modCtx; split <;> rfl
@[simp] theorem modCtx_waits (c : Nat) (f : Ctx → Ctx) : (s.modCtx c f).waits = s.waits := by unfold State.modCtx; split <;> rfl
@[simp] theorem modCtx_wbHeld (c : Nat) (f : Ctx → Ctx) : (s.modCtx c f).wbHeld = s.wbHeld := by unfold State.modCtx; split <;> rfl
@[simp] theorem modCtx_halves (c : Nat) (f : Ctx → Ctx) : (s.modCtx c f).halves = s.halves := by unfold State.modCtx; split <;> rfl
@[simp] theorem modCtx_images (c : Nat) (f : Ctx → Ctx) : (s.modCtx c f).images = s.images := by unfold State.modCtx; split <;> rfl
@[simp] theorem modCtx_hub (c : Nat) (f : Ctx → Ctx) : (s.modCtx c f).hub = s.hub := by unfold State.modCtx; split <;> rfl
@[simp] theorem modCtx_out (c : Nat) (f : Ctx → Ctx) : (s.modCtx c f).out = s.out := by unfold State.modCtx; split <;> rfl

@[simp] theorem modThread_aux (p : Place) (f : Thread → Thread) : (s.modThread p f).aux = s.aux := by unfold State.modThread; split <;> rfl
@[simp] theorem modThread_issue (p : Place) (f : Thread → Thread) : (s.modThread p f).issue = s.issue := by unfold State.modThread; split <;> rfl
@[simp] theorem modThread_agenda (p : Place) (f : Thread → Thread) : (s.modThread p f).agenda = s.agenda := by unfold State.modThread; split <;> rfl
@[simp] theorem modThread_lines (p : Place) (f : Thread → Thread) : (s.modThread p f).lines = s.lines := by unfold State.modThread; split <;> rfl
@[simp] theorem modThread_cores (p : Place) (f : Thread → Thread) : (s.modThread p f).cores = s.cores := by unfold State.modThread; split <;> rfl
@[simp] theorem modThread_squares (p : Place) (f : Thread → Thread) : (s.modThread p f).squares = s.squares := by unfold State.modThread; split <;> rfl
@[simp] theorem modThread_dies (p : Place) (f : Thread → Thread) : (s.modThread p f).dies = s.dies := by unfold State.modThread; split <;> rfl
@[simp] theorem modThread_mem (p : Place) (f : Thread → Thread) : (s.modThread p f).mem = s.mem := by unfold State.modThread; split <;> rfl
@[simp] theorem modThread_uncorr (p : Place) (f : Thread → Thread) : (s.modThread p f).uncorr = s.uncorr := by unfold State.modThread; split <;> rfl
@[simp] theorem modThread_badChip (p : Place) (f : Thread → Thread) : (s.modThread p f).badChip = s.badChip := by unfold State.modThread; split <;> rfl
@[simp] theorem modThread_badPans (p : Place) (f : Thread → Thread) : (s.modThread p f).badPans = s.badPans := by unfold State.modThread; split <;> rfl
@[simp] theorem modThread_ctxs (p : Place) (f : Thread → Thread) : (s.modThread p f).ctxs = s.ctxs := by unfold State.modThread; split <;> rfl
@[simp] theorem modThread_queues (p : Place) (f : Thread → Thread) : (s.modThread p f).queues = s.queues := by unfold State.modThread; split <;> rfl
@[simp] theorem modThread_launches (p : Place) (f : Thread → Thread) : (s.modThread p f).launches = s.launches := by unfold State.modThread; split <;> rfl
@[simp] theorem modThread_kernels (p : Place) (f : Thread → Thread) : (s.modThread p f).kernels = s.kernels := by unfold State.modThread; split <;> rfl
@[simp] theorem modThread_pans (p : Place) (f : Thread → Thread) : (s.modThread p f).pans = s.pans := by unfold State.modThread; split <;> rfl
@[simp] theorem modThread_roots (p : Place) (f : Thread → Thread) : (s.modThread p f).roots = s.roots := by unfold State.modThread; split <;> rfl
@[simp] theorem modThread_waits (p : Place) (f : Thread → Thread) : (s.modThread p f).waits = s.waits := by unfold State.modThread; split <;> rfl
@[simp] theorem modThread_wbHeld (p : Place) (f : Thread → Thread) : (s.modThread p f).wbHeld = s.wbHeld := by unfold State.modThread; split <;> rfl
@[simp] theorem modThread_halves (p : Place) (f : Thread → Thread) : (s.modThread p f).halves = s.halves := by unfold State.modThread; split <;> rfl
@[simp] theorem modThread_images (p : Place) (f : Thread → Thread) : (s.modThread p f).images = s.images := by unfold State.modThread; split <;> rfl
@[simp] theorem modThread_hub (p : Place) (f : Thread → Thread) : (s.modThread p f).hub = s.hub := by unfold State.modThread; split <;> rfl
@[simp] theorem modThread_out (p : Place) (f : Thread → Thread) : (s.modThread p f).out = s.out := by unfold State.modThread; split <;> rfl

@[simp] theorem modIssCtx_aux (f : Ctx → Ctx) : (s.modIssCtx f).aux = s.aux := modCtx_aux s _ f
@[simp] theorem modIssCtx_issue (f : Ctx → Ctx) : (s.modIssCtx f).issue = s.issue := modCtx_issue s _ f
@[simp] theorem modIssCtx_agenda (f : Ctx → Ctx) : (s.modIssCtx f).agenda = s.agenda := modCtx_agenda s _ f
@[simp] theorem modIssCtx_threads (f : Ctx → Ctx) : (s.modIssCtx f).threads = s.threads := modCtx_threads s _ f
@[simp] theorem modIssCtx_lines (f : Ctx → Ctx) : (s.modIssCtx f).lines = s.lines := modCtx_lines s _ f
@[simp] theorem modIssCtx_cores (f : Ctx → Ctx) : (s.modIssCtx f).cores = s.cores := modCtx_cores s _ f
@[simp] theorem modIssCtx_squares (f : Ctx → Ctx) : (s.modIssCtx f).squares = s.squares := modCtx_squares s _ f
@[simp] theorem modIssCtx_dies (f : Ctx → Ctx) : (s.modIssCtx f).dies = s.dies := modCtx_dies s _ f
@[simp] theorem modIssCtx_mem (f : Ctx → Ctx) : (s.modIssCtx f).mem = s.mem := modCtx_mem s _ f
@[simp] theorem modIssCtx_uncorr (f : Ctx → Ctx) : (s.modIssCtx f).uncorr = s.uncorr := modCtx_uncorr s _ f
@[simp] theorem modIssCtx_badChip (f : Ctx → Ctx) : (s.modIssCtx f).badChip = s.badChip := modCtx_badChip s _ f
@[simp] theorem modIssCtx_badPans (f : Ctx → Ctx) : (s.modIssCtx f).badPans = s.badPans := modCtx_badPans s _ f
@[simp] theorem modIssCtx_queues (f : Ctx → Ctx) : (s.modIssCtx f).queues = s.queues := modCtx_queues s _ f
@[simp] theorem modIssCtx_launches (f : Ctx → Ctx) : (s.modIssCtx f).launches = s.launches := modCtx_launches s _ f
@[simp] theorem modIssCtx_kernels (f : Ctx → Ctx) : (s.modIssCtx f).kernels = s.kernels := modCtx_kernels s _ f
@[simp] theorem modIssCtx_pans (f : Ctx → Ctx) : (s.modIssCtx f).pans = s.pans := modCtx_pans s _ f
@[simp] theorem modIssCtx_roots (f : Ctx → Ctx) : (s.modIssCtx f).roots = s.roots := modCtx_roots s _ f
@[simp] theorem modIssCtx_waits (f : Ctx → Ctx) : (s.modIssCtx f).waits = s.waits := modCtx_waits s _ f
@[simp] theorem modIssCtx_wbHeld (f : Ctx → Ctx) : (s.modIssCtx f).wbHeld = s.wbHeld := modCtx_wbHeld s _ f
@[simp] theorem modIssCtx_halves (f : Ctx → Ctx) : (s.modIssCtx f).halves = s.halves := modCtx_halves s _ f
@[simp] theorem modIssCtx_images (f : Ctx → Ctx) : (s.modIssCtx f).images = s.images := modCtx_images s _ f
@[simp] theorem modIssCtx_hub (f : Ctx → Ctx) : (s.modIssCtx f).hub = s.hub := modCtx_hub s _ f
@[simp] theorem modIssCtx_out (f : Ctx → Ctx) : (s.modIssCtx f).out = s.out := modCtx_out s _ f

@[simp] theorem modLane_aux (l : Nat) (f : Thread → Thread) : (s.modLane l f).aux = s.aux := modThread_aux s _ f
@[simp] theorem modLane_issue (l : Nat) (f : Thread → Thread) : (s.modLane l f).issue = s.issue := modThread_issue s _ f
@[simp] theorem modLane_agenda (l : Nat) (f : Thread → Thread) : (s.modLane l f).agenda = s.agenda := modThread_agenda s _ f
@[simp] theorem modLane_lines (l : Nat) (f : Thread → Thread) : (s.modLane l f).lines = s.lines := modThread_lines s _ f
@[simp] theorem modLane_cores (l : Nat) (f : Thread → Thread) : (s.modLane l f).cores = s.cores := modThread_cores s _ f
@[simp] theorem modLane_squares (l : Nat) (f : Thread → Thread) : (s.modLane l f).squares = s.squares := modThread_squares s _ f
@[simp] theorem modLane_dies (l : Nat) (f : Thread → Thread) : (s.modLane l f).dies = s.dies := modThread_dies s _ f
@[simp] theorem modLane_mem (l : Nat) (f : Thread → Thread) : (s.modLane l f).mem = s.mem := modThread_mem s _ f
@[simp] theorem modLane_uncorr (l : Nat) (f : Thread → Thread) : (s.modLane l f).uncorr = s.uncorr := modThread_uncorr s _ f
@[simp] theorem modLane_badChip (l : Nat) (f : Thread → Thread) : (s.modLane l f).badChip = s.badChip := modThread_badChip s _ f
@[simp] theorem modLane_badPans (l : Nat) (f : Thread → Thread) : (s.modLane l f).badPans = s.badPans := modThread_badPans s _ f
@[simp] theorem modLane_ctxs (l : Nat) (f : Thread → Thread) : (s.modLane l f).ctxs = s.ctxs := modThread_ctxs s _ f
@[simp] theorem modLane_queues (l : Nat) (f : Thread → Thread) : (s.modLane l f).queues = s.queues := modThread_queues s _ f
@[simp] theorem modLane_launches (l : Nat) (f : Thread → Thread) : (s.modLane l f).launches = s.launches := modThread_launches s _ f
@[simp] theorem modLane_kernels (l : Nat) (f : Thread → Thread) : (s.modLane l f).kernels = s.kernels := modThread_kernels s _ f
@[simp] theorem modLane_pans (l : Nat) (f : Thread → Thread) : (s.modLane l f).pans = s.pans := modThread_pans s _ f
@[simp] theorem modLane_roots (l : Nat) (f : Thread → Thread) : (s.modLane l f).roots = s.roots := modThread_roots s _ f
@[simp] theorem modLane_waits (l : Nat) (f : Thread → Thread) : (s.modLane l f).waits = s.waits := modThread_waits s _ f
@[simp] theorem modLane_wbHeld (l : Nat) (f : Thread → Thread) : (s.modLane l f).wbHeld = s.wbHeld := modThread_wbHeld s _ f
@[simp] theorem modLane_halves (l : Nat) (f : Thread → Thread) : (s.modLane l f).halves = s.halves := modThread_halves s _ f
@[simp] theorem modLane_images (l : Nat) (f : Thread → Thread) : (s.modLane l f).images = s.images := modThread_images s _ f
@[simp] theorem modLane_hub (l : Nat) (f : Thread → Thread) : (s.modLane l f).hub = s.hub := modThread_hub s _ f
@[simp] theorem modLane_out (l : Nat) (f : Thread → Thread) : (s.modLane l f).out = s.out := modThread_out s _ f

@[simp] theorem logError_aux (k a c l x : Nat) : (s.logError k a c l x).aux = s.aux := rfl
@[simp] theorem logError_issue (k a c l x : Nat) : (s.logError k a c l x).issue = s.issue := rfl
@[simp] theorem logError_agenda (k a c l x : Nat) : (s.logError k a c l x).agenda = s.agenda := rfl
@[simp] theorem logError_threads (k a c l x : Nat) : (s.logError k a c l x).threads = s.threads := rfl
@[simp] theorem logError_lines (k a c l x : Nat) : (s.logError k a c l x).lines = s.lines := rfl
@[simp] theorem logError_cores (k a c l x : Nat) : (s.logError k a c l x).cores = s.cores := rfl
@[simp] theorem logError_squares (k a c l x : Nat) : (s.logError k a c l x).squares = s.squares := rfl
@[simp] theorem logError_dies (k a c l x : Nat) : (s.logError k a c l x).dies = s.dies := rfl
@[simp] theorem logError_mem (k a c l x : Nat) : (s.logError k a c l x).mem = s.mem := rfl
@[simp] theorem logError_uncorr (k a c l x : Nat) : (s.logError k a c l x).uncorr = s.uncorr := rfl
@[simp] theorem logError_badChip (k a c l x : Nat) : (s.logError k a c l x).badChip = s.badChip := rfl
@[simp] theorem logError_badPans (k a c l x : Nat) : (s.logError k a c l x).badPans = s.badPans := rfl
@[simp] theorem logError_ctxs (k a c l x : Nat) : (s.logError k a c l x).ctxs = s.ctxs := rfl
@[simp] theorem logError_queues (k a c l x : Nat) : (s.logError k a c l x).queues = s.queues := rfl
@[simp] theorem logError_launches (k a c l x : Nat) : (s.logError k a c l x).launches = s.launches := rfl
@[simp] theorem logError_kernels (k a c l x : Nat) : (s.logError k a c l x).kernels = s.kernels := rfl
@[simp] theorem logError_pans (k a c l x : Nat) : (s.logError k a c l x).pans = s.pans := rfl
@[simp] theorem logError_roots (k a c l x : Nat) : (s.logError k a c l x).roots = s.roots := rfl
@[simp] theorem logError_waits (k a c l x : Nat) : (s.logError k a c l x).waits = s.waits := rfl
@[simp] theorem logError_wbHeld (k a c l x : Nat) : (s.logError k a c l x).wbHeld = s.wbHeld := rfl
@[simp] theorem logError_halves (k a c l x : Nat) : (s.logError k a c l x).halves = s.halves := rfl
@[simp] theorem logError_images (k a c l x : Nat) : (s.logError k a c l x).images = s.images := rfl
@[simp] theorem logError_out (k a c l x : Nat) : (s.logError k a c l x).out = s.out := rfl

@[simp] theorem count_aux (k n : Nat) : (s.count k n).aux = s.aux := rfl
@[simp] theorem count_issue (k n : Nat) : (s.count k n).issue = s.issue := rfl
@[simp] theorem count_agenda (k n : Nat) : (s.count k n).agenda = s.agenda := rfl
@[simp] theorem count_threads (k n : Nat) : (s.count k n).threads = s.threads := rfl
@[simp] theorem count_lines (k n : Nat) : (s.count k n).lines = s.lines := rfl
@[simp] theorem count_cores (k n : Nat) : (s.count k n).cores = s.cores := rfl
@[simp] theorem count_squares (k n : Nat) : (s.count k n).squares = s.squares := rfl
@[simp] theorem count_dies (k n : Nat) : (s.count k n).dies = s.dies := rfl
@[simp] theorem count_mem (k n : Nat) : (s.count k n).mem = s.mem := rfl
@[simp] theorem count_uncorr (k n : Nat) : (s.count k n).uncorr = s.uncorr := rfl
@[simp] theorem count_badChip (k n : Nat) : (s.count k n).badChip = s.badChip := rfl
@[simp] theorem count_badPans (k n : Nat) : (s.count k n).badPans = s.badPans := rfl
@[simp] theorem count_ctxs (k n : Nat) : (s.count k n).ctxs = s.ctxs := rfl
@[simp] theorem count_queues (k n : Nat) : (s.count k n).queues = s.queues := rfl
@[simp] theorem count_launches (k n : Nat) : (s.count k n).launches = s.launches := rfl
@[simp] theorem count_kernels (k n : Nat) : (s.count k n).kernels = s.kernels := rfl
@[simp] theorem count_pans (k n : Nat) : (s.count k n).pans = s.pans := rfl
@[simp] theorem count_roots (k n : Nat) : (s.count k n).roots = s.roots := rfl
@[simp] theorem count_waits (k n : Nat) : (s.count k n).waits = s.waits := rfl
@[simp] theorem count_wbHeld (k n : Nat) : (s.count k n).wbHeld = s.wbHeld := rfl
@[simp] theorem count_halves (k n : Nat) : (s.count k n).halves = s.halves := rfl
@[simp] theorem count_images (k n : Nat) : (s.count k n).images = s.images := rfl
@[simp] theorem count_out (k n : Nat) : (s.count k n).out = s.out := rfl

/-! ## The entry that an update names -/

@[simp] theorem post_agenda (i : Instr) : (s.post i).agenda = s.agenda ++ [i] := rfl
@[simp] theorem send_out (x : Frame) : (s.send x).out = s.out ++ [{ frame := x }] := rfl
@[simp] theorem bump_serial : s.bump.aux.serial = s.aux.serial + 1 := rfl
@[simp] theorem bump_time : s.bump.aux.time = s.aux.time := rfl
@[simp] theorem bump_residue : s.bump.aux.residue = s.aux.residue := rfl
@[simp] theorem tick_time : s.tick.aux.time = s.aux.time + 1 := rfl

theorem core_modCore (c v : Nat) (f : Core → Core) (a b : Nat) :
    (s.modCore c v f).core a b = if c = a ∧ v = b then f (s.core c v) else s.core a b := by
  simp only [State.modCore, State.core, look_put, CoreKey.mk.injEq]
  split_ifs <;> rfl

theorem line_modLine (c v l : Nat) (f : Line → Line) (a b m : Nat) :
    (s.modLine c v l f).line a b m = if c = a ∧ v = b ∧ l = m then f (s.line c v l) else s.line a b m := by
  simp only [State.modLine, State.line, look_put, LineKey.mk.injEq]
  split_ifs <;> rfl

theorem square_modSquare (q : Nat) (f : Square → Square) (r : Nat) :
    (s.modSquare q f).square r = if q = r then f (s.square q) else s.square r := by
  simp only [State.modSquare, State.square, look_put]
  split_ifs <;> rfl

theorem die_modDie (q : Nat) (f : Die → Die) (r : Nat) :
    (s.modDie q f).die r = if q = r then f (s.die q) else s.die r := by
  simp only [State.modDie, State.die, look_put]
  split_ifs <;> rfl

theorem ctx_modCtx (c : Nat) (f : Ctx → Ctx) (b : Nat) (h : (look s.ctxs c).isSome) :
    (s.modCtx c f).ctx b = if c = b then f (s.ctx c) else s.ctx b := by
  obtain ⟨x, hx⟩ := Option.isSome_iff_exists.mp h
  simp only [State.modCtx, State.ctx, hx, look_put]
  split_ifs <;> rfl

/-- A thread that is there is changed, and no other. -/
theorem thread_modThread (p : Place) (f : Thread → Thread) (q : Place) (h : (look s.threads p).isSome) :
    (s.modThread p f).thread q = if p = q then f (s.thread p) else s.thread q := by
  obtain ⟨x, hx⟩ := Option.isSome_iff_exists.mp h
  simp only [State.modThread, State.thread, hx, look_put]
  split_ifs <;> rfl

theorem thread_modThread_other (p : Place) (f : Thread → Thread) (q : Place) (h : p ≠ q) :
    (s.modThread p f).thread q = s.thread q := by
  unfold State.modThread State.thread
  split <;> simp_all [look_put]

/-- A change of a thread leaves the places of the threads. -/
@[simp] theorem keys_modThread (p : Place) (f : Thread → Thread) : (s.modThread p f).threads.map (·.1) = s.threads.map (·.1) := by
  unfold State.modThread
  split
  · rfl
  · exact keys_put (by simp_all)

@[simp] theorem isSome_modThread (p q : Place) (f : Thread → Thread) :
    (look (s.modThread p f).threads q).isSome = (look s.threads q).isSome := by
  unfold State.modThread
  split
  · rfl
  · rename_i x hx
    by_cases h : p = q
    · subst h; simp [hx]
    · simp [look_put, h]

end Sys2Proof.Laws
end

