-- ==== Sys2Proof/Laws/Ops.lean ====
section
/-!
SUPPORT. The shared operations of an issue: what changing lanes, going on, taking a trap, reading operands and delivering
results can do.
-/
namespace Sys2Proof.Laws
open Sys2Proof Sys2Proof.Machine

variable (s : State)

/-- The place of a lane of the issuing gang. -/
abbrev placeOf (s : State) (l : Nat) : Place := ⟨s.issue.ctx, s.issue.vc, s.issue.line, l⟩

/-! ## Changing lanes -/

/-- What a change of one thread leaves alone, a change of lanes leaves alone. -/
theorem modLanes_inv {β : Type} (g : State → β) (hg : ∀ (s : State) p f, g (s.modThread p f) = g s) (ls : List Nat) (f : Thread → Thread) :
    g (s.modLanes ls f) = g s := by
  unfold State.modLanes
  induction ls generalizing s with
  | nil => rfl
  | cons l r ih => rw [List.foldl_cons, ih]; exact hg _ _ _

@[simp] theorem modLanes_aux (ls : List Nat) (f : Thread → Thread) : (s.modLanes ls f).aux = s.aux := modLanes_inv s (fun s => s.aux) (fun s p f => modThread_aux s p f) ls f
@[simp] theorem modLanes_issue (ls : List Nat) (f : Thread → Thread) : (s.modLanes ls f).issue = s.issue := modLanes_inv s (fun s => s.issue) (fun s p f => modThread_issue s p f) ls f
@[simp] theorem modLanes_agenda (ls : List Nat) (f : Thread → Thread) : (s.modLanes ls f).agenda = s.agenda := modLanes_inv s (fun s => s.agenda) (fun s p f => modThread_agenda s p f) ls f
@[simp] theorem modLanes_lines (ls : List Nat) (f : Thread → Thread) : (s.modLanes ls f).lines = s.lines := modLanes_inv s (fun s => s.lines) (fun s p f => modThread_lines s p f) ls f
@[simp] theorem modLanes_cores (ls : List Nat) (f : Thread → Thread) : (s.modLanes ls f).cores = s.cores := modLanes_inv s (fun s => s.cores) (fun s p f => modThread_cores s p f) ls f
@[simp] theorem modLanes_squares (ls : List Nat) (f : Thread → Thread) : (s.modLanes ls f).squares = s.squares := modLanes_inv s (fun s => s.squares) (fun s p f => modThread_squares s p f) ls f
@[simp] theorem modLanes_dies (ls : List Nat) (f : Thread → Thread) : (s.modLanes ls f).dies = s.dies := modLanes_inv s (fun s => s.dies) (fun s p f => modThread_dies s p f) ls f
@[simp] theorem modLanes_mem (ls : List Nat) (f : Thread → Thread) : (s.modLanes ls f).mem = s.mem := modLanes_inv s (fun s => s.mem) (fun s p f => modThread_mem s p f) ls f
@[simp] theorem modLanes_uncorr (ls : List Nat) (f : Thread → Thread) : (s.modLanes ls f).uncorr = s.uncorr := modLanes_inv s (fun s => s.uncorr) (fun s p f => modThread_uncorr s p f) ls f
@[simp] theorem modLanes_badChip (ls : List Nat) (f : Thread → Thread) : (s.modLanes ls f).badChip = s.badChip := modLanes_inv s (fun s => s.badChip) (fun s p f => modThread_badChip s p f) ls f
@[simp] theorem modLanes_badPans (ls : List Nat) (f : Thread → Thread) : (s.modLanes ls f).badPans = s.badPans := modLanes_inv s (fun s => s.badPans) (fun s p f => modThread_badPans s p f) ls f
@[simp] theorem modLanes_ctxs (ls : List Nat) (f : Thread → Thread) : (s.modLanes ls f).ctxs = s.ctxs := modLanes_inv s (fun s => s.ctxs) (fun s p f => modThread_ctxs s p f) ls f
@[simp] theorem modLanes_queues (ls : List Nat) (f : Thread → Thread) : (s.modLanes ls f).queues = s.queues := modLanes_inv s (fun s => s.queues) (fun s p f => modThread_queues s p f) ls f
@[simp] theorem modLanes_launches (ls : List Nat) (f : Thread → Thread) : (s.modLanes ls f).launches = s.launches := modLanes_inv s (fun s => s.launches) (fun s p f => modThread_launches s p f) ls f
@[simp] theorem modLanes_kernels (ls : List Nat) (f : Thread → Thread) : (s.modLanes ls f).kernels = s.kernels := modLanes_inv s (fun s => s.kernels) (fun s p f => modThread_kernels s p f) ls f
@[simp] theorem modLanes_pans (ls : List Nat) (f : Thread → Thread) : (s.modLanes ls f).pans = s.pans := modLanes_inv s (fun s => s.pans) (fun s p f => modThread_pans s p f) ls f
@[simp] theorem modLanes_roots (ls : List Nat) (f : Thread → Thread) : (s.modLanes ls f).roots = s.roots := modLanes_inv s (fun s => s.roots) (fun s p f => modThread_roots s p f) ls f
@[simp] theorem modLanes_waits (ls : List Nat) (f : Thread → Thread) : (s.modLanes ls f).waits = s.waits := modLanes_inv s (fun s => s.waits) (fun s p f => modThread_waits s p f) ls f
@[simp] theorem modLanes_wbHeld (ls : List Nat) (f : Thread → Thread) : (s.modLanes ls f).wbHeld = s.wbHeld := modLanes_inv s (fun s => s.wbHeld) (fun s p f => modThread_wbHeld s p f) ls f
@[simp] theorem modLanes_halves (ls : List Nat) (f : Thread → Thread) : (s.modLanes ls f).halves = s.halves := modLanes_inv s (fun s => s.halves) (fun s p f => modThread_halves s p f) ls f
@[simp] theorem modLanes_images (ls : List Nat) (f : Thread → Thread) : (s.modLanes ls f).images = s.images := modLanes_inv s (fun s => s.images) (fun s p f => modThread_images s p f) ls f
@[simp] theorem modLanes_hub (ls : List Nat) (f : Thread → Thread) : (s.modLanes ls f).hub = s.hub := modLanes_inv s (fun s => s.hub) (fun s p f => modThread_hub s p f) ls f
@[simp] theorem modLanes_out (ls : List Nat) (f : Thread → Thread) : (s.modLanes ls f).out = s.out := modLanes_inv s (fun s => s.out) (fun s p f => modThread_out s p f) ls f

@[simp] theorem keys_modLanes (ls : List Nat) (f : Thread → Thread) : (s.modLanes ls f).threads.map (·.1) = s.threads.map (·.1) :=
  modLanes_inv s (fun s => s.threads.map (·.1)) (fun s p f => keys_modThread s p f) ls f

/-- A thread at no lane of the list stays as it is. -/
theorem thread_modLanes_other (ls : List Nat) (f : Thread → Thread) (q : Place) (h : ∀ l ∈ ls, placeOf s l ≠ q) :
    (s.modLanes ls f).thread q = s.thread q := by
  unfold State.modLanes
  induction ls generalizing s with
  | nil => rfl
  | cons l r ih =>
    rw [List.foldl_cons, ih]
    · exact thread_modThread_other s _ f q (h l (by simp))
    · intro m hm
      simpa [placeOf] using h m (by simp [hm])

/-- The threads of distinct lanes that are there are changed. -/
theorem thread_modLanes (ls : List Nat) (f : Thread → Thread) (l : Nat) (hn : ls.Nodup) (hl : l ∈ ls)
    (hs : ∀ m ∈ ls, (look s.threads (placeOf s m)).isSome) : (s.modLanes ls f).thread (placeOf s l) = f (s.thread (placeOf s l)) := by
  induction ls generalizing s with
  | nil => simp at hl
  | cons m r ih =>
    have hrest : (s.modLanes (m :: r) f) = (s.modLane m f).modLanes r f := rfl
    have hp : ∀ k, placeOf (s.modLane m f) k = placeOf s k := fun k => by simp [placeOf]
    rw [hrest]
    obtain ⟨hm, hr⟩ := List.nodup_cons.mp hn
    rcases List.mem_cons.mp hl with h0 | h1
    · subst h0
      rw [thread_modLanes_other _ _ _ _ (fun k hk => by
        rw [hp]; simp only [placeOf, ne_eq, Place.mk.injEq, true_and]; rintro rfl; exact hm hk)]
      rw [State.modLane, thread_modThread s _ f _ (hs _ (by simp))]
      simp
    · have hlm : l ≠ m := fun e => hm (e ▸ h1)
      have := ih (s.modLane m f) hr h1 (fun k hk => by
        rw [hp]; simp only [State.modLane, isSome_modThread]; exact hs k (by simp [hk]))
      rw [hp] at this
      rw [this, State.modLane, thread_modThread_other _ _ _ _ (by simp [placeOf]; exact fun h => hlm h.symm)]

/-! ## Going on -/

/-- What a change of one lane leaves alone, changes of many leave alone, whatever they read of the state. -/
theorem foldl_modLane_inv {β : Type} (g : State → β) (hg : ∀ (s : State) l f, g (s.modLane l f) = g s) (ls : List Nat)
    (f : State → Nat → Thread → Thread) : g (ls.foldl (fun s l => s.modLane l (f s l)) s) = g s := by
  induction ls generalizing s with
  | nil => rfl
  | cons l r ih => rw [List.foldl_cons, ih, hg]

@[simp] theorem countIssue_aux : (s.countIssue).aux = s.aux := by unfold State.countIssue; split <;> rfl
@[simp] theorem countIssue_agenda : (s.countIssue).agenda = s.agenda := by unfold State.countIssue; split <;> rfl
@[simp] theorem countIssue_threads : (s.countIssue).threads = s.threads := by unfold State.countIssue; split <;> rfl
@[simp] theorem countIssue_lines : (s.countIssue).lines = s.lines := by unfold State.countIssue; split <;> rfl
@[simp] theorem countIssue_squares : (s.countIssue).squares = s.squares := by unfold State.countIssue; split <;> rfl
@[simp] theorem countIssue_dies : (s.countIssue).dies = s.dies := by unfold State.countIssue; split <;> rfl
@[simp] theorem countIssue_mem : (s.countIssue).mem = s.mem := by unfold State.countIssue; split <;> rfl
@[simp] theorem countIssue_uncorr : (s.countIssue).uncorr = s.uncorr := by unfold State.countIssue; split <;> rfl
@[simp] theorem countIssue_badChip : (s.countIssue).badChip = s.badChip := by unfold State.countIssue; split <;> rfl
@[simp] theorem countIssue_badPans : (s.countIssue).badPans = s.badPans := by unfold State.countIssue; split <;> rfl
@[simp] theorem countIssue_ctxs : (s.countIssue).ctxs = s.ctxs := by unfold State.countIssue; split <;> rfl
@[simp] theorem countIssue_queues : (s.countIssue).queues = s.queues := by unfold State.countIssue; split <;> rfl
@[simp] theorem countIssue_launches : (s.countIssue).launches = s.launches := by unfold State.countIssue; split <;> rfl
@[simp] theorem countIssue_kernels : (s.countIssue).kernels = s.kernels := by unfold State.countIssue; split <;> rfl
@[simp] theorem countIssue_pans : (s.countIssue).pans = s.pans := by unfold State.countIssue; split <;> rfl
@[simp] theorem countIssue_roots : (s.countIssue).roots = s.roots := by unfold State.countIssue; split <;> rfl
@[simp] theorem countIssue_waits : (s.countIssue).waits = s.waits := by unfold State.countIssue; split <;> rfl
@[simp] theorem countIssue_wbHeld : (s.countIssue).wbHeld = s.wbHeld := by unfold State.countIssue; split <;> rfl
@[simp] theorem countIssue_halves : (s.countIssue).halves = s.halves := by unfold State.countIssue; split <;> rfl
@[simp] theorem countIssue_images : (s.countIssue).images = s.images := by unfold State.countIssue; split <;> rfl
@[simp] theorem countIssue_hub : (s.countIssue).hub = s.hub := by unfold State.countIssue; split <;> rfl
@[simp] theorem countIssue_out : (s.countIssue).out = s.out := by unfold State.countIssue; split <;> rfl

@[simp] theorem countIssue_lanes : s.countIssue.issue.lanes = s.issue.lanes := by unfold State.countIssue; split <;> rfl
@[simp] theorem countIssue_place (l : Nat) : placeOf s.countIssue l = placeOf s l := by
  unfold State.countIssue; split <;> rfl

@[simp] theorem moveTo_issue (sb : Bool) (ls : List Nat) (nx : Nat → Thread → Pos × Bool) : (s.moveTo sb ls nx).issue = s.issue := (bump_issue _).trans (foldl_modLane_inv s (fun s => s.issue) (fun s l f => modLane_issue s l f) ls _)
@[simp] theorem moveTo_agenda (sb : Bool) (ls : List Nat) (nx : Nat → Thread → Pos × Bool) : (s.moveTo sb ls nx).agenda = s.agenda := (bump_agenda _).trans (foldl_modLane_inv s (fun s => s.agenda) (fun s l f => modLane_agenda s l f) ls _)
@[simp] theorem moveTo_lines (sb : Bool) (ls : List Nat) (nx : Nat → Thread → Pos × Bool) : (s.moveTo sb ls nx).lines = s.lines := (bump_lines _).trans (foldl_modLane_inv s (fun s => s.lines) (fun s l f => modLane_lines s l f) ls _)
@[simp] theorem moveTo_cores (sb : Bool) (ls : List Nat) (nx : Nat → Thread → Pos × Bool) : (s.moveTo sb ls nx).cores = s.cores := (bump_cores _).trans (foldl_modLane_inv s (fun s => s.cores) (fun s l f => modLane_cores s l f) ls _)
@[simp] theorem moveTo_squares (sb : Bool) (ls : List Nat) (nx : Nat → Thread → Pos × Bool) : (s.moveTo sb ls nx).squares = s.squares := (bump_squares _).trans (foldl_modLane_inv s (fun s => s.squares) (fun s l f => modLane_squares s l f) ls _)
@[simp] theorem moveTo_dies (sb : Bool) (ls : List Nat) (nx : Nat → Thread → Pos × Bool) : (s.moveTo sb ls nx).dies = s.dies := (bump_dies _).trans (foldl_modLane_inv s (fun s => s.dies) (fun s l f => modLane_dies s l f) ls _)
@[simp] theorem moveTo_mem (sb : Bool) (ls : List Nat) (nx : Nat → Thread → Pos × Bool) : (s.moveTo sb ls nx).mem = s.mem := (bump_mem _).trans (foldl_modLane_inv s (fun s => s.mem) (fun s l f => modLane_mem s l f) ls _)
@[simp] theorem moveTo_uncorr (sb : Bool) (ls : List Nat) (nx : Nat → Thread → Pos × Bool) : (s.moveTo sb ls nx).uncorr = s.uncorr := (bump_uncorr _).trans (foldl_modLane_inv s (fun s => s.uncorr) (fun s l f => modLane_uncorr s l f) ls _)
@[simp] theorem moveTo_badChip (sb : Bool) (ls : List Nat) (nx : Nat → Thread → Pos × Bool) : (s.moveTo sb ls nx).badChip = s.badChip := (bump_badChip _).trans (foldl_modLane_inv s (fun s => s.badChip) (fun s l f => modLane_badChip s l f) ls _)
@[simp] theorem moveTo_badPans (sb : Bool) (ls : List Nat) (nx : Nat → Thread → Pos × Bool) : (s.moveTo sb ls nx).badPans = s.badPans := (bump_badPans _).trans (foldl_modLane_inv s (fun s => s.badPans) (fun s l f => modLane_badPans s l f) ls _)
@[simp] theorem moveTo_ctxs (sb : Bool) (ls : List Nat) (nx : Nat → Thread → Pos × Bool) : (s.moveTo sb ls nx).ctxs = s.ctxs := (bump_ctxs _).trans (foldl_modLane_inv s (fun s => s.ctxs) (fun s l f => modLane_ctxs s l f) ls _)
@[simp] theorem moveTo_queues (sb : Bool) (ls : List Nat) (nx : Nat → Thread → Pos × Bool) : (s.moveTo sb ls nx).queues = s.queues := (bump_queues _).trans (foldl_modLane_inv s (fun s => s.queues) (fun s l f => modLane_queues s l f) ls _)
@[simp] theorem moveTo_launches (sb : Bool) (ls : List Nat) (nx : Nat → Thread → Pos × Bool) : (s.moveTo sb ls nx).launches = s.launches := (bump_launches _).trans (foldl_modLane_inv s (fun s => s.launches) (fun s l f => modLane_launches s l f) ls _)
@[simp] theorem moveTo_kernels (sb : Bool) (ls : List Nat) (nx : Nat → Thread → Pos × Bool) : (s.moveTo sb ls nx).kernels = s.kernels := (bump_kernels _).trans (foldl_modLane_inv s (fun s => s.kernels) (fun s l f => modLane_kernels s l f) ls _)
@[simp] theorem moveTo_pans (sb : Bool) (ls : List Nat) (nx : Nat → Thread → Pos × Bool) : (s.moveTo sb ls nx).pans = s.pans := (bump_pans _).trans (foldl_modLane_inv s (fun s => s.pans) (fun s l f => modLane_pans s l f) ls _)
@[simp] theorem moveTo_roots (sb : Bool) (ls : List Nat) (nx : Nat → Thread → Pos × Bool) : (s.moveTo sb ls nx).roots = s.roots := (bump_roots _).trans (foldl_modLane_inv s (fun s => s.roots) (fun s l f => modLane_roots s l f) ls _)
@[simp] theorem moveTo_waits (sb : Bool) (ls : List Nat) (nx : Nat → Thread → Pos × Bool) : (s.moveTo sb ls nx).waits = s.waits := (bump_waits _).trans (foldl_modLane_inv s (fun s => s.waits) (fun s l f => modLane_waits s l f) ls _)
@[simp] theorem moveTo_wbHeld (sb : Bool) (ls : List Nat) (nx : Nat → Thread → Pos × Bool) : (s.moveTo sb ls nx).wbHeld = s.wbHeld := (bump_wbHeld _).trans (foldl_modLane_inv s (fun s => s.wbHeld) (fun s l f => modLane_wbHeld s l f) ls _)
@[simp] theorem moveTo_halves (sb : Bool) (ls : List Nat) (nx : Nat → Thread → Pos × Bool) : (s.moveTo sb ls nx).halves = s.halves := (bump_halves _).trans (foldl_modLane_inv s (fun s => s.halves) (fun s l f => modLane_halves s l f) ls _)
@[simp] theorem moveTo_images (sb : Bool) (ls : List Nat) (nx : Nat → Thread → Pos × Bool) : (s.moveTo sb ls nx).images = s.images := (bump_images _).trans (foldl_modLane_inv s (fun s => s.images) (fun s l f => modLane_images s l f) ls _)
@[simp] theorem moveTo_hub (sb : Bool) (ls : List Nat) (nx : Nat → Thread → Pos × Bool) : (s.moveTo sb ls nx).hub = s.hub := (bump_hub _).trans (foldl_modLane_inv s (fun s => s.hub) (fun s l f => modLane_hub s l f) ls _)
@[simp] theorem moveTo_out (sb : Bool) (ls : List Nat) (nx : Nat → Thread → Pos × Bool) : (s.moveTo sb ls nx).out = s.out := (bump_out _).trans (foldl_modLane_inv s (fun s => s.out) (fun s l f => modLane_out s l f) ls _)

/-- What a change of the issuing line leaves alone, the popping of channel entries leaves alone. -/
theorem foldl_modIssLine_inv {β : Type} (g : State → β) (hg : ∀ (s : State) f, g (s.modIssLine f) = g s) (ks : List Nat) (f : Nat → Line → Line) :
    g (ks.foldl (fun s k => s.modIssLine (f k)) s) = g s := by
  induction ks generalizing s with
  | nil => rfl
  | cons k r ih => rw [List.foldl_cons, ih, hg]

theorem popFor_nil (h : s.issue.pops = []) (ls : List Nat) : s.popFor ls = s := by simp [State.popFor, h]

@[simp] theorem popFor_aux (ls : List Nat) : (s.popFor ls).aux = s.aux := by
  unfold State.popFor; split
  · rfl
  · exact foldl_modIssLine_inv s (fun s => s.aux) (fun s f => modIssLine_aux s f) _ _
@[simp] theorem popFor_agenda (ls : List Nat) : (s.popFor ls).agenda = s.agenda := by
  unfold State.popFor; split
  · rfl
  · exact foldl_modIssLine_inv s (fun s => s.agenda) (fun s f => modIssLine_agenda s f) _ _
@[simp] theorem popFor_threads (ls : List Nat) : (s.popFor ls).threads = s.threads := by
  unfold State.popFor; split
  · rfl
  · exact foldl_modIssLine_inv s (fun s => s.threads) (fun s f => modIssLine_threads s f) _ _
@[simp] theorem popFor_cores (ls : List Nat) : (s.popFor ls).cores = s.cores := by
  unfold State.popFor; split
  · rfl
  · exact foldl_modIssLine_inv s (fun s => s.cores) (fun s f => modIssLine_cores s f) _ _
@[simp] theorem popFor_squares (ls : List Nat) : (s.popFor ls).squares = s.squares := by
  unfold State.popFor; split
  · rfl
  · exact foldl_modIssLine_inv s (fun s => s.squares) (fun s f => modIssLine_squares s f) _ _
@[simp] theorem popFor_dies (ls : List Nat) : (s.popFor ls).dies = s.dies := by
  unfold State.popFor; split
  · rfl
  · exact foldl_modIssLine_inv s (fun s => s.dies) (fun s f => modIssLine_dies s f) _ _
@[simp] theorem popFor_mem (ls : List Nat) : (s.popFor ls).mem = s.mem := by
  unfold State.popFor; split
  · rfl
  · exact foldl_modIssLine_inv s (fun s => s.mem) (fun s f => modIssLine_mem s f) _ _
@[simp] theorem popFor_uncorr (ls : List Nat) : (s.popFor ls).uncorr = s.uncorr := by
  unfold State.popFor; split
  · rfl
  · exact foldl_modIssLine_inv s (fun s => s.uncorr) (fun s f => modIssLine_uncorr s f) _ _
@[simp] theorem popFor_badChip (ls : List Nat) : (s.popFor ls).badChip = s.badChip := by
  unfold State.popFor; split
  · rfl
  · exact foldl_modIssLine_inv s (fun s => s.badChip) (fun s f => modIssLine_badChip s f) _ _
@[simp] theorem popFor_badPans (ls : List Nat) : (s.popFor ls).badPans = s.badPans := by
  unfold State.popFor; split
  · rfl
  · exact foldl_modIssLine_inv s (fun s => s.badPans) (fun s f => modIssLine_badPans s f) _ _
@[simp] theorem popFor_ctxs (ls : List Nat) : (s.popFor ls).ctxs = s.ctxs := by
  unfold State.popFor; split
  · rfl
  · exact foldl_modIssLine_inv s (fun s => s.ctxs) (fun s f => modIssLine_ctxs s f) _ _
@[simp] theorem popFor_queues (ls : List Nat) : (s.popFor ls).queues = s.queues := by
  unfold State.popFor; split
  · rfl
  · exact foldl_modIssLine_inv s (fun s => s.queues) (fun s f => modIssLine_queues s f) _ _
@[simp] theorem popFor_launches (ls : List Nat) : (s.popFor ls).launches = s.launches := by
  unfold State.popFor; split
  · rfl
  · exact foldl_modIssLine_inv s (fun s => s.launches) (fun s f => modIssLine_launches s f) _ _
@[simp] theorem popFor_kernels (ls : List Nat) : (s.popFor ls).kernels = s.kernels := by
  unfold State.popFor; split
  · rfl
  · exact foldl_modIssLine_inv s (fun s => s.kernels) (fun s f => modIssLine_kernels s f) _ _
@[simp] theorem popFor_pans (ls : List Nat) : (s.popFor ls).pans = s.pans := by
  unfold State.popFor; split
  · rfl
  · exact foldl_modIssLine_inv s (fun s => s.pans) (fun s f => modIssLine_pans s f) _ _
@[simp] theorem popFor_roots (ls : List Nat) : (s.popFor ls).roots = s.roots := by
  unfold State.popFor; split
  · rfl
  · exact foldl_modIssLine_inv s (fun s => s.roots) (fun s f => modIssLine_roots s f) _ _
@[simp] theorem popFor_waits (ls : List Nat) : (s.popFor ls).waits = s.waits := by
  unfold State.popFor; split
  · rfl
  · exact foldl_modIssLine_inv s (fun s => s.waits) (fun s f => modIssLine_waits s f) _ _
@[simp] theorem popFor_wbHeld (ls : List Nat) : (s.popFor ls).wbHeld = s.wbHeld := by
  unfold State.popFor; split
  · rfl
  · exact foldl_modIssLine_inv s (fun s => s.wbHeld) (fun s f => modIssLine_wbHeld s f) _ _
@[simp] theorem popFor_halves (ls : List Nat) : (s.popFor ls).halves = s.halves := by
  unfold State.popFor; split
  · rfl
  · exact foldl_modIssLine_inv s (fun s => s.halves) (fun s f => modIssLine_halves s f) _ _
@[simp] theorem popFor_images (ls : List Nat) : (s.popFor ls).images = s.images := by
  unfold State.popFor; split
  · rfl
  · exact foldl_modIssLine_inv s (fun s => s.images) (fun s f => modIssLine_images s f) _ _
@[simp] theorem popFor_hub (ls : List Nat) : (s.popFor ls).hub = s.hub := by
  unfold State.popFor; split
  · rfl
  · exact foldl_modIssLine_inv s (fun s => s.hub) (fun s f => modIssLine_hub s f) _ _
@[simp] theorem popFor_out (ls : List Nat) : (s.popFor ls).out = s.out := by
  unfold State.popFor; split
  · rfl
  · exact foldl_modIssLine_inv s (fun s => s.out) (fun s f => modIssLine_out s f) _ _

@[simp] theorem popFor_place (ls : List Nat) (l : Nat) : placeOf (s.popFor ls) l = placeOf s l := by
  unfold State.popFor
  split
  · rfl
  · exact foldl_modIssLine_inv s (fun s => placeOf s l) (fun s f => rfl) _ _
@[simp] theorem thread_popFor (ls : List Nat) (q : Place) : (s.popFor ls).thread q = s.thread q := by unfold State.thread; rw [popFor_threads]

@[simp] theorem finish_agenda (sb : Bool) (ls : List Nat) : (s.finish sb ls).agenda = s.agenda := by unfold State.finish State.finishTo; split <;> simp
@[simp] theorem finish_squares (sb : Bool) (ls : List Nat) : (s.finish sb ls).squares = s.squares := by unfold State.finish State.finishTo; split <;> simp
@[simp] theorem finish_dies (sb : Bool) (ls : List Nat) : (s.finish sb ls).dies = s.dies := by unfold State.finish State.finishTo; split <;> simp
@[simp] theorem finish_mem (sb : Bool) (ls : List Nat) : (s.finish sb ls).mem = s.mem := by unfold State.finish State.finishTo; split <;> simp
@[simp] theorem finish_uncorr (sb : Bool) (ls : List Nat) : (s.finish sb ls).uncorr = s.uncorr := by unfold State.finish State.finishTo; split <;> simp
@[simp] theorem finish_badChip (sb : Bool) (ls : List Nat) : (s.finish sb ls).badChip = s.badChip := by unfold State.finish State.finishTo; split <;> simp
@[simp] theorem finish_badPans (sb : Bool) (ls : List Nat) : (s.finish sb ls).badPans = s.badPans := by unfold State.finish State.finishTo; split <;> simp
@[simp] theorem finish_ctxs (sb : Bool) (ls : List Nat) : (s.finish sb ls).ctxs = s.ctxs := by unfold State.finish State.finishTo; split <;> simp
@[simp] theorem finish_queues (sb : Bool) (ls : List Nat) : (s.finish sb ls).queues = s.queues := by unfold State.finish State.finishTo; split <;> simp
@[simp] theorem finish_launches (sb : Bool) (ls : List Nat) : (s.finish sb ls).launches = s.launches := by unfold State.finish State.finishTo; split <;> simp
@[simp] theorem finish_kernels (sb : Bool) (ls : List Nat) : (s.finish sb ls).kernels = s.kernels := by unfold State.finish State.finishTo; split <;> simp
@[simp] theorem finish_pans (sb : Bool) (ls : List Nat) : (s.finish sb ls).pans = s.pans := by unfold State.finish State.finishTo; split <;> simp
@[simp] theorem finish_roots (sb : Bool) (ls : List Nat) : (s.finish sb ls).roots = s.roots := by unfold State.finish State.finishTo; split <;> simp
@[simp] theorem finish_waits (sb : Bool) (ls : List Nat) : (s.finish sb ls).waits = s.waits := by unfold State.finish State.finishTo; split <;> simp
@[simp] theorem finish_wbHeld (sb : Bool) (ls : List Nat) : (s.finish sb ls).wbHeld = s.wbHeld := by unfold State.finish State.finishTo; split <;> simp
@[simp] theorem finish_halves (sb : Bool) (ls : List Nat) : (s.finish sb ls).halves = s.halves := by unfold State.finish State.finishTo; split <;> simp
@[simp] theorem finish_images (sb : Bool) (ls : List Nat) : (s.finish sb ls).images = s.images := by unfold State.finish State.finishTo; split <;> simp
@[simp] theorem finish_hub (sb : Bool) (ls : List Nat) : (s.finish sb ls).hub = s.hub := by unfold State.finish State.finishTo; split <;> simp
@[simp] theorem finish_out (sb : Bool) (ls : List Nat) : (s.finish sb ls).out = s.out := by unfold State.finish State.finishTo; split <;> simp

theorem finish_lines (h : s.issue.pops = []) (sb : Bool) (ls : List Nat) : (s.finish sb ls).lines = s.lines := by
  unfold State.finish State.finishTo; split <;> simp [popFor_nil s h]

/-- A thread at no lane of the list stays as it is, whatever the changes read of the state. -/
theorem thread_foldl_modLane_other (ls : List Nat) (f : State → Nat → Thread → Thread) (q : Place) (h : ∀ l ∈ ls, placeOf s l ≠ q) :
    (ls.foldl (fun s l => s.modLane l (f s l)) s).thread q = s.thread q := by
  induction ls generalizing s with
  | nil => rfl
  | cons l r ih =>
    rw [List.foldl_cons, ih]
    · exact thread_modThread_other s _ _ q (h l (by simp))
    · intro m hm
      simpa [placeOf] using h m (by simp [hm])

/-- The threads of distinct lanes that are there are changed as the state at the start gives it. -/
theorem thread_foldl_modLane (ls : List Nat) (f : State → Nat → Thread → Thread) (hf : ∀ (s : State) m g l, f (s.modLane m g) l = f s l)
    (l : Nat) (hn : ls.Nodup) (hl : l ∈ ls) (hs : ∀ m ∈ ls, (look s.threads (placeOf s m)).isSome) :
    (ls.foldl (fun s l => s.modLane l (f s l)) s).thread (placeOf s l) = f s l (s.thread (placeOf s l)) := by
  induction ls generalizing s with
  | nil => simp at hl
  | cons m r ih =>
    have hp : ∀ k, placeOf (s.modLane m (f s m)) k = placeOf s k := fun k => by simp [placeOf]
    rw [List.foldl_cons]
    obtain ⟨hm, hr⟩ := List.nodup_cons.mp hn
    rcases List.mem_cons.mp hl with h0 | h1
    · subst h0
      rw [thread_foldl_modLane_other _ _ _ _ (fun k hk => by
        rw [hp]; simp only [placeOf, ne_eq, Place.mk.injEq, true_and]; rintro rfl; exact hm hk)]
      rw [State.modLane, thread_modThread s _ _ _ (hs _ (by simp))]
      simp
    · have hlm : l ≠ m := fun e => hm (e ▸ h1)
      have := ih (s.modLane m (f s m)) hr h1 (fun k hk => by
        rw [hp]; simp only [State.modLane, isSome_modThread]; exact hs k (by simp [hk]))
      rw [hp, hf] at this
      rw [this, State.modLane, thread_modThread_other _ _ _ _ (by simp [placeOf]; exact fun h => hlm h.symm)]

/-- Where a lane of a gang stands after its instruction, and in what state. -/
theorem thread_moveTo (sb : Bool) (ls : List Nat) (nx : Nat → Thread → Pos × Bool) (l : Nat) (hn : ls.Nodup) (hl : l ∈ ls)
    (hs : ∀ m ∈ ls, (look s.threads (placeOf s m)).isSome) :
    let t := s.thread (placeOf s l)
    let u := (s.moveTo sb ls nx).thread (placeOf s l)
    u.pos = (nx l t).1 ∧ u.opened = (nx l t).2 ∧ u.chanWait = false ∧ u.regs = t.regs ∧ u.fst = t.fst ∧ u.held = t.held ∧
    u.stat = if sb then (if t.held.isEmpty then .sync s.aux.serial else .parked s.aux.serial) else .run := by
  have h := thread_foldl_modLane s ls (fun x k t => { t with
      pos := (nx k t).1
      opened := (nx k t).2
      last := x.aux.time
      chanWait := false
      stalled := none
      stat := if sb then (if t.held.isEmpty then .sync s.aux.serial else .parked s.aux.serial) else .run })
    (fun x m g k => by simp) l hn hl hs
  have hb : (s.moveTo sb ls nx).thread (placeOf s l) = _ := h
  simp only [hb, and_self]

@[simp] theorem thread_countIssue (q : Place) : s.countIssue.thread q = s.thread q := by unfold State.thread; rw [countIssue_threads]

/-- Where a lane of a gang stands after an instruction that goes on to the next position. -/
theorem thread_finish (sb : Bool) (ls : List Nat) (l : Nat) (hn : ls.Nodup) (hl : l ∈ ls)
    (hs : ∀ m ∈ ls, (look s.threads (placeOf s m)).isSome) :
    let t := s.thread (placeOf s l)
    let u := (s.finish sb ls).thread (placeOf s l)
    u.pos = nextPos t ∧ u.opened = nextOpened t ∧ u.chanWait = false ∧ u.regs = t.regs ∧ u.fst = t.fst ∧ u.held = t.held ∧
    u.stat = if sb then (if t.held.isEmpty then .sync s.aux.serial else .parked s.aux.serial) else .run := by
  have he : ls.isEmpty = false := by cases ls <;> simp_all
  have hp : ∀ k, placeOf (s.popFor ls).countIssue k = placeOf s k := fun k => (countIssue_place _ k).trans (popFor_place s ls k)
  have h := thread_moveTo (s.popFor ls).countIssue sb ls (fun _ t => (nextPos t, nextOpened t)) l hn hl (fun m hm => by
    rw [hp, countIssue_threads, popFor_threads]; exact hs m hm)
  simpa [State.finish, State.finishTo, he, hp] using h

/-! ## Taking a trap -/

/-- Lanes of the state that stop in a trap. -/
theorem foldl_modThread_inv {β γ : Type} (g : State → β) (hg : ∀ (s : State) p f, g (s.modThread p f) = g s) (ls : List γ) (p : γ → Place)
    (f : γ → Thread → Thread) : g (ls.foldl (fun s l => s.modThread (p l) (f l)) s) = g s := by
  induction ls generalizing s with
  | nil => rfl
  | cons l r ih => rw [List.foldl_cons, ih, hg]

@[simp] theorem reportError_ctxs (k a c l x : Nat) : (s.reportError k a c l x).ctxs = s.ctxs := rfl
@[simp] theorem reportError_mem (k a c l x : Nat) : (s.reportError k a c l x).mem = s.mem := rfl
@[simp] theorem reportError_threads (k a c l x : Nat) : (s.reportError k a c l x).threads = s.threads := rfl
@[simp] theorem reportError_lines (k a c l x : Nat) : (s.reportError k a c l x).lines = s.lines := rfl
@[simp] theorem queueRecord_threads (c : Nat) (r : BitVec 256) : (s.queueRecord c r).threads = s.threads := by simp [State.queueRecord]
@[simp] theorem queueRecord_mem (c : Nat) (r : BitVec 256) : (s.queueRecord c r).mem = s.mem := by simp [State.queueRecord]
@[simp] theorem queueRecord_lines (c : Nat) (r : BitVec 256) : (s.queueRecord c r).lines = s.lines := by simp [State.queueRecord]
@[simp] theorem queueRecord_squares (c : Nat) (r : BitVec 256) : (s.queueRecord c r).squares = s.squares := by simp [State.queueRecord]
@[simp] theorem queueRecord_dies (c : Nat) (r : BitVec 256) : (s.queueRecord c r).dies = s.dies := by simp [State.queueRecord]
@[simp] theorem queueRecord_agenda (c : Nat) (r : BitVec 256) : (s.queueRecord c r).agenda = s.agenda ++ [.trapRecordEnqueue c] := by
  simp [State.queueRecord]

/-- A trap changes no byte of physical memory, of the squares or of the markets, and no g register. -/
theorem takeTrap_frame (p : LineKey) (ls : List Nat) (pos : Pos) (t : Trap) :
    (s.takeTrap p ls pos t).mem = s.mem ∧ (s.takeTrap p ls pos t).squares = s.squares ∧ (s.takeTrap p ls pos t).dies = s.dies ∧
    (s.takeTrap p ls pos t).lines = s.lines := by
  unfold State.takeTrap
  split
  · exact ⟨rfl, rfl, rfl, rfl⟩
  · refine ⟨?_, ?_, ?_, ?_⟩
    · rw [queueRecord_mem, foldl_modThread_inv _ (fun s => s.mem) (fun s p f => modThread_mem s p f)]
      cases t.log <;> split_ifs <;> simp [State.reportError]
    · rw [queueRecord_squares, foldl_modThread_inv _ (fun s => s.squares) (fun s p f => modThread_squares s p f)]
      cases t.log <;> split_ifs <;> simp [State.reportError]
    · rw [queueRecord_dies, foldl_modThread_inv _ (fun s => s.dies) (fun s p f => modThread_dies s p f)]
      cases t.log <;> split_ifs <;> simp [State.reportError]
    · rw [queueRecord_lines, foldl_modThread_inv _ (fun s => s.lines) (fun s p f => modThread_lines s p f)]
      cases t.log <;> split_ifs <;> simp [State.reportError]

@[simp] theorem trapIssue_nil : s.trapIssue [] = s := rfl

/-! ## Reading operands -/

/-- Operands that name v and g registers only check no channel. -/
theorem chanChecks_vg (n : Nat) (ops : List OpSpec) (k : Nat → Nat)
    (h : ∀ o ∈ ops, (∃ i, regName o.fld = .v i) ∨ ∃ i, regName o.fld = .g i) : s.chanChecks n ops k = none := by
  induction ops generalizing k with
  | nil => rfl
  | cons o r ih =>
    have hr := ih k (fun x hx => h x (by simp [hx]))
    rcases h o (by simp) with ⟨i, hi⟩ | ⟨i, hi⟩ <;> simp only [State.chanChecks, hi] <;> exact hr

/-- The words that a v or g operand reads in a lane. -/
def vgWords (s : State) (l : Nat) (o : OpSpec) : List Word :=
  match regName o.fld with
  | .v i => readV (s.lane l) i o.words
  | .g k => readG s.issLine.g k o.words
  | _ => []

theorem readOperands_vg (ls : List Nat) (ops : List OpSpec) (ps : List (Nat × Nat))
    (h : ∀ o ∈ ops, (∃ i, regName o.fld = .v i) ∨ ∃ i, regName o.fld = .g i) :
    s.readOperands ls ops ps = (ops.map (fun o => ls.map (fun l => (l, vgWords s l o))), ps) := by
  induction ops with
  | nil => rfl
  | cons o r ih =>
    have hr := ih (fun x hx => h x (by simp [hx]))
    rcases h o (by simp) with ⟨i, hi⟩ | ⟨i, hi⟩ <;> simp [State.readOperands, State.readOperand, vgWords, hi, hr]

/-- Lanes whose registers hold no corrected error are left as they are. -/
theorem correctRegs_sound (ops : List OpSpec) (ls : List Nat) (h : ∀ l ∈ ls, (s.lane l).softRegs = []) :
    s.correctRegs ops ls = s := by
  unfold State.correctRegs
  induction ls with
  | nil => rfl
  | cons a r ih => 
    have := ih (fun l hl => h l (by simp [hl]))
    have ha := h a (by simp)
    simp_all

/-- Operands in v and g registers that are there and sound are read in every lane, and reading them changes nothing. -/
theorem prepare_vg (pr : Bool) (ops : List OpSpec) (hl : s.issue.lanes ≠ [])
    (hb : ∀ l ∈ s.issue.lanes, badClaim (s.lane l) ops = none) (ha : ∀ l ∈ s.issue.lanes, (s.lane l).cold = [])
    (hso : ∀ l ∈ s.issue.lanes, (s.lane l).softRegs = []) (hp : (pr && !s.issCtx.set.priv) = false) (hg : s.gPending ops = false)
    (h : ∀ o ∈ ops, (∃ i, regName o.fld = .v i) ∨ ∃ i, regName o.fld = .g i) :
    s.prepare pr ops = .go s.issue.lanes (s.issue.lanes.map (fun l => (l, (ops.filter (opIsSrc ·)).map (fun o =>
      (look (s.issue.lanes.map (fun m => (m, vgWords s m o))) l).getD [])))) s := by
  have hbad : s.issue.lanes.filterMap (fun l => (badClaim (s.lane l) ops).map (fun r => (l, s.registerCheck r))) = [] := by
    rw [List.filterMap_eq_nil_iff]; intro l hl; simp [hb l hl]
  have hpa : s.parkCold ops s.issue.lanes = (s, s.issue.lanes) := by
    have : s.issue.lanes.all (fun l => (s.lane l).cold.isEmpty) = true := by rw [List.all_eq_true]; intro l hl; simp [ha l hl]
    simp [State.parkCold, this]
  have hco : s.correctRegs ops s.issue.lanes = s := correctRegs_sound s ops _ hso
  have hf : s.issue.lanes.filter (fun _ => true) = s.issue.lanes := List.filter_true _
  have hne : s.issue.lanes.isEmpty = false := by simpa using hl
  have hrd := readOperands_vg s s.issue.lanes (ops.filter (opIsSrc ·)) [] (fun o ho => h o (List.mem_of_mem_filter ho))
  simp only [State.prepare, hbad, List.any_nil, Bool.not_false, hf, trapIssue_nil, hne, hp, hco, hpa, chanChecks_vg s _ ops _ h, hg, hrd]
  simp [Function.comp_def]

/-! ## Delivering results -/

/-- A result writes registers, flags and channels: no memory, and no state of a context. -/
theorem applyResult_frame (r : Result) :
    (s.applyResult r).mem = s.mem ∧ (s.applyResult r).ctxs = s.ctxs ∧ (s.applyResult r).squares = s.squares ∧
    (s.applyResult r).dies = s.dies ∧ (s.applyResult r).cores = s.cores := by
  have hpost : ∀ (l : List Push) (x : State) {β : Type} (g : State → β), (∀ (y : State) i, g (y.post i) = g y) →
      g (l.foldl (fun s p => s.post (.channelPushArrive p)) x) = g x := by
    intro l
    induction l with
    | nil => intros; rfl
    | cons p r ih => intro x β g hg; rw [List.foldl_cons, ih _ g hg, hg]
  have key : ∀ {β : Type} (g : State → β), (∀ (y : State) i, g (y.post i) = g y) → (∀ (y : State) p f, g (y.modThread p f) = g y) →
      (∀ (y : State) a b c f, g (y.modLine a b c f) = g y) → g (s.applyResult r) = g s := by
    intro β g h1 h2 h3
    unfold State.applyResult
    rw [hpost _ _ g h1, foldl_modThread_inv _ g h2]
    split_ifs
    · rw [foldl_modThread_inv _ g h2]
    · rw [h3, foldl_modThread_inv _ g h2]
  exact ⟨key _ (fun _ _ => rfl) (fun y p f => modThread_mem y p f) (fun _ _ _ _ _ => rfl),
    key _ (fun _ _ => rfl) (fun y p f => modThread_ctxs y p f) (fun _ _ _ _ _ => rfl),
    key _ (fun _ _ => rfl) (fun y p f => modThread_squares y p f) (fun _ _ _ _ _ => rfl),
    key _ (fun _ _ => rfl) (fun y p f => modThread_dies y p f) (fun _ _ _ _ _ => rfl),
    key _ (fun _ _ => rfl) (fun y p f => modThread_cores y p f) (fun _ _ _ _ _ => rfl)⟩

end Sys2Proof.Laws
end

