-- ==== Sys2Proof/Laws/PerInstr.lean ====
section
/-!
SUPPORT. Statements about every instruction, one lemma per constructor: an instruction has a word if it is one of the
instruction set, and an event has none.
-/
namespace Sys2Proof.Laws.HasWord
open Sys2Proof

/-- The encoder gives a word to the instructions of the instruction set and to no event. -/
def Statement (i : Instr) : Prop := (encode i).isSome = i.isWord

theorem addI32 : ∀ a b c d, Statement (.addI32 a b c d) := fun _ _ _ _ => rfl
theorem subI32 : ∀ a b c d, Statement (.subI32 a b c d) := fun _ _ _ _ => rfl
theorem addSatI32 : ∀ a b c d, Statement (.addSatI32 a b c d) := fun _ _ _ _ => rfl
theorem subSatI32 : ∀ a b c d, Statement (.subSatI32 a b c d) := fun _ _ _ _ => rfl
theorem addSatN32 : ∀ a b c d, Statement (.addSatN32 a b c d) := fun _ _ _ _ => rfl
theorem subSatN32 : ∀ a b c d, Statement (.subSatN32 a b c d) := fun _ _ _ _ => rfl
theorem mulloI32 : ∀ a b c d, Statement (.mulloI32 a b c d) := fun _ _ _ _ => rfl
theorem mulhiI32 : ∀ a b c d, Statement (.mulhiI32 a b c d) := fun _ _ _ _ => rfl
theorem mulhiN32 : ∀ a b c d, Statement (.mulhiN32 a b c d) := fun _ _ _ _ => rfl
theorem minI32 : ∀ a b c d, Statement (.minI32 a b c d) := fun _ _ _ _ => rfl
theorem maxI32 : ∀ a b c d, Statement (.maxI32 a b c d) := fun _ _ _ _ => rfl
theorem minN32 : ∀ a b c d, Statement (.minN32 a b c d) := fun _ _ _ _ => rfl
theorem maxN32 : ∀ a b c d, Statement (.maxN32 a b c d) := fun _ _ _ _ => rfl
theorem absI32 : ∀ a b c, Statement (.absI32 a b c) := fun _ _ _ => rfl
theorem negI32 : ∀ a b c, Statement (.negI32 a b c) := fun _ _ _ => rfl
theorem addI64 : ∀ a b c d, Statement (.addI64 a b c d) := fun _ _ _ _ => rfl
theorem subI64 : ∀ a b c d, Statement (.subI64 a b c d) := fun _ _ _ _ => rfl
theorem mulloI64 : ∀ a b c d, Statement (.mulloI64 a b c d) := fun _ _ _ _ => rfl
theorem mulhiI64 : ∀ a b c d, Statement (.mulhiI64 a b c d) := fun _ _ _ _ => rfl
theorem mulhiN64 : ∀ a b c d, Statement (.mulhiN64 a b c d) := fun _ _ _ _ => rfl
theorem minI64 : ∀ a b c d, Statement (.minI64 a b c d) := fun _ _ _ _ => rfl
theorem maxI64 : ∀ a b c d, Statement (.maxI64 a b c d) := fun _ _ _ _ => rfl
theorem minN64 : ∀ a b c d, Statement (.minN64 a b c d) := fun _ _ _ _ => rfl
theorem maxN64 : ∀ a b c d, Statement (.maxN64 a b c d) := fun _ _ _ _ => rfl
theorem negI64 : ∀ a b c, Statement (.negI64 a b c) := fun _ _ _ => rfl
theorem absI64 : ∀ a b c, Statement (.absI64 a b c) := fun _ _ _ => rfl
theorem andB32 : ∀ a b c d, Statement (.andB32 a b c d) := fun _ _ _ _ => rfl
theorem orB32 : ∀ a b c d, Statement (.orB32 a b c d) := fun _ _ _ _ => rfl
theorem xorB32 : ∀ a b c d, Statement (.xorB32 a b c d) := fun _ _ _ _ => rfl
theorem andnB32 : ∀ a b c d, Statement (.andnB32 a b c d) := fun _ _ _ _ => rfl
theorem ornB32 : ∀ a b c d, Statement (.ornB32 a b c d) := fun _ _ _ _ => rfl
theorem xnorB32 : ∀ a b c d, Statement (.xnorB32 a b c d) := fun _ _ _ _ => rfl
theorem notB32 : ∀ a b c, Statement (.notB32 a b c) := fun _ _ _ => rfl
theorem shlB32 : ∀ a b c d, Statement (.shlB32 a b c d) := fun _ _ _ _ => rfl
theorem shrB32 : ∀ a b c d, Statement (.shrB32 a b c d) := fun _ _ _ _ => rfl
theorem sarB32 : ∀ a b c d, Statement (.sarB32 a b c d) := fun _ _ _ _ => rfl
theorem rotlB32 : ∀ a b c d, Statement (.rotlB32 a b c d) := fun _ _ _ _ => rfl
theorem rotrB32 : ∀ a b c d, Statement (.rotrB32 a b c d) := fun _ _ _ _ => rfl
theorem movB32 : ∀ a b c, Statement (.movB32 a b c) := fun _ _ _ => rfl
theorem movB64 : ∀ a b c, Statement (.movB64 a b c) := fun _ _ _ => rfl
theorem popcB32 : ∀ a b c, Statement (.popcB32 a b c) := fun _ _ _ => rfl
theorem clzB32 : ∀ a b c, Statement (.clzB32 a b c) := fun _ _ _ => rfl
theorem ctzB32 : ∀ a b c, Statement (.ctzB32 a b c) := fun _ _ _ => rfl
theorem brevB32 : ∀ a b c, Statement (.brevB32 a b c) := fun _ _ _ => rfl
theorem bfeI32 : ∀ a b c d, Statement (.bfeI32 a b c d) := fun _ _ _ _ => rfl
theorem bfeN32 : ∀ a b c d, Statement (.bfeN32 a b c d) := fun _ _ _ _ => rfl
theorem bfiB32 : ∀ a b c d, Statement (.bfiB32 a b c d) := fun _ _ _ _ => rfl
theorem bselB32 : ∀ a b c d, Statement (.bselB32 a b c d) := fun _ _ _ _ => rfl
theorem shlB64 : ∀ a b c d, Statement (.shlB64 a b c d) := fun _ _ _ _ => rfl
theorem shrB64 : ∀ a b c d, Statement (.shrB64 a b c d) := fun _ _ _ _ => rfl
theorem sarB64 : ∀ a b c d, Statement (.sarB64 a b c d) := fun _ _ _ _ => rfl
theorem popcB64 : ∀ a b c, Statement (.popcB64 a b c) := fun _ _ _ => rfl
theorem clzB64 : ∀ a b c, Statement (.clzB64 a b c) := fun _ _ _ => rfl
theorem setEqB32 : ∀ a b c d, Statement (.setEqB32 a b c d) := fun _ _ _ _ => rfl
theorem setNeB32 : ∀ a b c d, Statement (.setNeB32 a b c d) := fun _ _ _ _ => rfl
theorem setLtI32 : ∀ a b c d, Statement (.setLtI32 a b c d) := fun _ _ _ _ => rfl
theorem setLeI32 : ∀ a b c d, Statement (.setLeI32 a b c d) := fun _ _ _ _ => rfl
theorem setLtN32 : ∀ a b c d, Statement (.setLtN32 a b c d) := fun _ _ _ _ => rfl
theorem setLeN32 : ∀ a b c d, Statement (.setLeN32 a b c d) := fun _ _ _ _ => rfl
theorem setEqB64 : ∀ a b c d, Statement (.setEqB64 a b c d) := fun _ _ _ _ => rfl
theorem setNeB64 : ∀ a b c d, Statement (.setNeB64 a b c d) := fun _ _ _ _ => rfl
theorem setLtI64 : ∀ a b c d, Statement (.setLtI64 a b c d) := fun _ _ _ _ => rfl
theorem setLeI64 : ∀ a b c d, Statement (.setLeI64 a b c d) := fun _ _ _ _ => rfl
theorem setLtN64 : ∀ a b c d, Statement (.setLtN64 a b c d) := fun _ _ _ _ => rfl
theorem setLeN64 : ∀ a b c d, Statement (.setLeN64 a b c d) := fun _ _ _ _ => rfl
theorem selB32 : ∀ a b c d, Statement (.selB32 a b c d) := fun _ _ _ _ => rfl
theorem selB64 : ∀ a b c d, Statement (.selB64 a b c d) := fun _ _ _ _ => rfl
theorem addiI32 : ∀ a b c d, Statement (.addiI32 a b c d) := fun _ _ _ _ => rfl
theorem andiB32 : ∀ a b c d, Statement (.andiB32 a b c d) := fun _ _ _ _ => rfl
theorem oriB32 : ∀ a b c d, Statement (.oriB32 a b c d) := fun _ _ _ _ => rfl
theorem xoriB32 : ∀ a b c d, Statement (.xoriB32 a b c d) := fun _ _ _ _ => rfl
theorem shli : ∀ a b c d e, Statement (.shli a b c d e) := fun _ _ _ _ _ => rfl
theorem shri : ∀ a b c d e, Statement (.shri a b c d e) := fun _ _ _ _ _ => rfl
theorem sari : ∀ a b c d e, Statement (.sari a b c d e) := fun _ _ _ _ _ => rfl
theorem rotri : ∀ a b c d e, Statement (.rotri a b c d e) := fun _ _ _ _ _ => rfl
theorem andB64 : ∀ a b c d, Statement (.andB64 a b c d) := fun _ _ _ _ => rfl
theorem orB64 : ∀ a b c d, Statement (.orB64 a b c d) := fun _ _ _ _ => rfl
theorem xorB64 : ∀ a b c d, Statement (.xorB64 a b c d) := fun _ _ _ _ => rfl
theorem notB64 : ∀ a b c, Statement (.notB64 a b c) := fun _ _ _ => rfl
theorem rotlB64 : ∀ a b c d, Statement (.rotlB64 a b c d) := fun _ _ _ _ => rfl
theorem rotrB64 : ∀ a b c d, Statement (.rotrB64 a b c d) := fun _ _ _ _ => rfl
theorem movi : ∀ a b c, Statement (.movi a b c) := fun _ _ _ => rfl
theorem movhi : ∀ a b c, Statement (.movhi a b c) := fun _ _ _ => rfl
theorem movlo : ∀ a b c, Statement (.movlo a b c) := fun _ _ _ => rfl
theorem addaI : ∀ a b c d, Statement (.addaI a b c d) := fun _ _ _ _ => rfl
theorem addaN : ∀ a b c d, Statement (.addaN a b c d) := fun _ _ _ _ => rfl
theorem madaN32 : ∀ a b c d, Statement (.madaN32 a b c d) := fun _ _ _ _ => rfl
theorem extI32 : ∀ a b c, Statement (.extI32 a b c) := fun _ _ _ => rfl
theorem extN32 : ∀ a b c, Statement (.extN32 a b c) := fun _ _ _ => rfl
theorem truncB64 : ∀ a b c, Statement (.truncB64 a b c) := fun _ _ _ => rfl
theorem srd : ∀ a b c, Statement (.srd a b c) := fun _ _ _ => rfl
theorem srdPos : ∀ a b, Statement (.srdPos a b) := fun _ _ => rfl
theorem swr : ∀ a b c, Statement (.swr a b c) := fun _ _ _ => rfl
theorem swrFst : ∀ a b, Statement (.swrFst a b) := fun _ _ => rfl
theorem swrPreq : ∀ a b, Statement (.swrPreq a b) := fun _ _ => rfl
theorem swrFltcc : ∀ a b, Statement (.swrFltcc a b) := fun _ _ => rfl
theorem faddF32 : ∀ a b c d e, Statement (.faddF32 a b c d e) := fun _ _ _ _ _ => rfl
theorem fsubF32 : ∀ a b c d e, Statement (.fsubF32 a b c d e) := fun _ _ _ _ _ => rfl
theorem fmulF32 : ∀ a b c d e, Statement (.fmulF32 a b c d e) := fun _ _ _ _ _ => rfl
theorem ffmaF32 : ∀ a b c d e, Statement (.ffmaF32 a b c d e) := fun _ _ _ _ _ => rfl
theorem faddF64 : ∀ a b c d e, Statement (.faddF64 a b c d e) := fun _ _ _ _ _ => rfl
theorem fsubF64 : ∀ a b c d e, Statement (.fsubF64 a b c d e) := fun _ _ _ _ _ => rfl
theorem fmulF64 : ∀ a b c d e, Statement (.fmulF64 a b c d e) := fun _ _ _ _ _ => rfl
theorem ffmaF64 : ∀ a b c d e, Statement (.ffmaF64 a b c d e) := fun _ _ _ _ _ => rfl
theorem faddBf16x2 : ∀ a b c d e, Statement (.faddBf16x2 a b c d e) := fun _ _ _ _ _ => rfl
theorem fsubBf16x2 : ∀ a b c d e, Statement (.fsubBf16x2 a b c d e) := fun _ _ _ _ _ => rfl
theorem fmulBf16x2 : ∀ a b c d e, Statement (.fmulBf16x2 a b c d e) := fun _ _ _ _ _ => rfl
theorem ffmaBf16x2 : ∀ a b c d e, Statement (.ffmaBf16x2 a b c d e) := fun _ _ _ _ _ => rfl
theorem faddF16x2 : ∀ a b c d e, Statement (.faddF16x2 a b c d e) := fun _ _ _ _ _ => rfl
theorem fsubF16x2 : ∀ a b c d e, Statement (.fsubF16x2 a b c d e) := fun _ _ _ _ _ => rfl
theorem fmulF16x2 : ∀ a b c d e, Statement (.fmulF16x2 a b c d e) := fun _ _ _ _ _ => rfl
theorem ffmaF16x2 : ∀ a b c d e, Statement (.ffmaF16x2 a b c d e) := fun _ _ _ _ _ => rfl
theorem fminF32 : ∀ a b c d, Statement (.fminF32 a b c d) := fun _ _ _ _ => rfl
theorem fmaxF32 : ∀ a b c d, Statement (.fmaxF32 a b c d) := fun _ _ _ _ => rfl
theorem fabsF32 : ∀ a b c, Statement (.fabsF32 a b c) := fun _ _ _ => rfl
theorem fnegF32 : ∀ a b c, Statement (.fnegF32 a b c) := fun _ _ _ => rfl
theorem fcpsgnF32 : ∀ a b c d, Statement (.fcpsgnF32 a b c d) := fun _ _ _ _ => rfl
theorem fdivF32 : ∀ a b c d, Statement (.fdivF32 a b c d) := fun _ _ _ _ => rfl
theorem fsqrtF32 : ∀ a b c, Statement (.fsqrtF32 a b c) := fun _ _ _ => rfl
theorem fsetEqF32 : ∀ a b c d, Statement (.fsetEqF32 a b c d) := fun _ _ _ _ => rfl
theorem fsetNeF32 : ∀ a b c d, Statement (.fsetNeF32 a b c d) := fun _ _ _ _ => rfl
theorem fsetLtF32 : ∀ a b c d, Statement (.fsetLtF32 a b c d) := fun _ _ _ _ => rfl
theorem fsetLeF32 : ∀ a b c d, Statement (.fsetLeF32 a b c d) := fun _ _ _ _ => rfl
theorem fsetUnF32 : ∀ a b c d, Statement (.fsetUnF32 a b c d) := fun _ _ _ _ => rfl
theorem fclassF32 : ∀ a b c, Statement (.fclassF32 a b c) := fun _ _ _ => rfl
theorem fminF64 : ∀ a b c d, Statement (.fminF64 a b c d) := fun _ _ _ _ => rfl
theorem fmaxF64 : ∀ a b c d, Statement (.fmaxF64 a b c d) := fun _ _ _ _ => rfl
theorem fabsF64 : ∀ a b c, Statement (.fabsF64 a b c) := fun _ _ _ => rfl
theorem fnegF64 : ∀ a b c, Statement (.fnegF64 a b c) := fun _ _ _ => rfl
theorem fcpsgnF64 : ∀ a b c d, Statement (.fcpsgnF64 a b c d) := fun _ _ _ _ => rfl
theorem fdivF64 : ∀ a b c d, Statement (.fdivF64 a b c d) := fun _ _ _ _ => rfl
theorem fsqrtF64 : ∀ a b c, Statement (.fsqrtF64 a b c) := fun _ _ _ => rfl
theorem fsetEqF64 : ∀ a b c d, Statement (.fsetEqF64 a b c d) := fun _ _ _ _ => rfl
theorem fsetNeF64 : ∀ a b c d, Statement (.fsetNeF64 a b c d) := fun _ _ _ _ => rfl
theorem fsetLtF64 : ∀ a b c d, Statement (.fsetLtF64 a b c d) := fun _ _ _ _ => rfl
theorem fsetLeF64 : ∀ a b c d, Statement (.fsetLeF64 a b c d) := fun _ _ _ _ => rfl
theorem fsetUnF64 : ∀ a b c d, Statement (.fsetUnF64 a b c d) := fun _ _ _ _ => rfl
theorem fclassF64 : ∀ a b c, Statement (.fclassF64 a b c) := fun _ _ _ => rfl
theorem fminBf16x2 : ∀ a b c d, Statement (.fminBf16x2 a b c d) := fun _ _ _ _ => rfl
theorem fmaxBf16x2 : ∀ a b c d, Statement (.fmaxBf16x2 a b c d) := fun _ _ _ _ => rfl
theorem fabsBf16x2 : ∀ a b c, Statement (.fabsBf16x2 a b c) := fun _ _ _ => rfl
theorem fnegBf16x2 : ∀ a b c, Statement (.fnegBf16x2 a b c) := fun _ _ _ => rfl
theorem fminF16x2 : ∀ a b c d, Statement (.fminF16x2 a b c d) := fun _ _ _ _ => rfl
theorem fmaxF16x2 : ∀ a b c d, Statement (.fmaxF16x2 a b c d) := fun _ _ _ _ => rfl
theorem fabsF16x2 : ∀ a b c, Statement (.fabsF16x2 a b c) := fun _ _ _ => rfl
theorem fnegF16x2 : ∀ a b c, Statement (.fnegF16x2 a b c) := fun _ _ _ => rfl
theorem frcpF32 : ∀ a b c, Statement (.frcpF32 a b c) := fun _ _ _ => rfl
theorem frsqrtF32 : ∀ a b c, Statement (.frsqrtF32 a b c) := fun _ _ _ => rfl
theorem fexp2F32 : ∀ a b c, Statement (.fexp2F32 a b c) := fun _ _ _ => rfl
theorem flog2F32 : ∀ a b c, Statement (.flog2F32 a b c) := fun _ _ _ => rfl
theorem fsinpiF32 : ∀ a b c, Statement (.fsinpiF32 a b c) := fun _ _ _ => rfl
theorem fcospiF32 : ∀ a b c, Statement (.fcospiF32 a b c) := fun _ _ _ => rfl
theorem ftanhF32 : ∀ a b c, Statement (.ftanhF32 a b c) := fun _ _ _ => rfl
theorem frcpF64 : ∀ a b c, Statement (.frcpF64 a b c) := fun _ _ _ => rfl
theorem frsqrtF64 : ∀ a b c, Statement (.frsqrtF64 a b c) := fun _ _ _ => rfl
theorem fexp2F64 : ∀ a b c, Statement (.fexp2F64 a b c) := fun _ _ _ => rfl
theorem flog2F64 : ∀ a b c, Statement (.flog2F64 a b c) := fun _ _ _ => rfl
theorem cvt : ∀ a b c d e f, Statement (.cvt a b c d e f) := fun _ _ _ _ _ _ => rfl
theorem cvtpBf16x2F32 : ∀ a b c d, Statement (.cvtpBf16x2F32 a b c d) := fun _ _ _ _ => rfl
theorem cvtpF16x2F32 : ∀ a b c d, Statement (.cvtpF16x2F32 a b c d) := fun _ _ _ _ => rfl
theorem insE8 : ∀ a b c d, Statement (.insE8 a b c d) := fun _ _ _ _ => rfl
theorem insE4 : ∀ a b c d, Statement (.insE4 a b c d) := fun _ _ _ _ => rfl
theorem extE8 : ∀ a b c d, Statement (.extE8 a b c d) := fun _ _ _ _ => rfl
theorem extE4 : ∀ a b c d, Statement (.extE4 a b c d) := fun _ _ _ _ => rfl
theorem cvtS8E8m0 : ∀ a b c, Statement (.cvtS8E8m0 a b c) := fun _ _ _ => rfl
theorem cvtE8m0S8 : ∀ a b c, Statement (.cvtE8m0S8 a b c) := fun _ _ _ => rfl
theorem sclF32 : ∀ a b c d, Statement (.sclF32 a b c d) := fun _ _ _ _ => rfl
theorem sclF64 : ∀ a b c d, Statement (.sclF64 a b c d) := fun _ _ _ _ => rfl
theorem dp4I8 : ∀ a b c d, Statement (.dp4I8 a b c d) := fun _ _ _ _ => rfl
theorem dp4N8 : ∀ a b c d, Statement (.dp4N8 a b c d) := fun _ _ _ _ => rfl
theorem dp4F8e4m3 : ∀ a b c d, Statement (.dp4F8e4m3 a b c d) := fun _ _ _ _ => rfl
theorem dp4F8e5m2 : ∀ a b c d, Statement (.dp4F8e5m2 a b c d) := fun _ _ _ _ => rfl
theorem dp8I4 : ∀ a b c d, Statement (.dp8I4 a b c d) := fun _ _ _ _ => rfl
theorem dp8N4 : ∀ a b c d, Statement (.dp8N4 a b c d) := fun _ _ _ _ => rfl
theorem dp8F4e2m1 : ∀ a b c d, Statement (.dp8F4e2m1 a b c d) := fun _ _ _ _ => rfl
theorem ldP : ∀ a b c d e, Statement (.ldP a b c d e) := fun _ _ _ _ _ => rfl
theorem ldC : ∀ a b c d e, Statement (.ldC a b c d e) := fun _ _ _ _ _ => rfl
theorem stP : ∀ a b c d e, Statement (.stP a b c d e) := fun _ _ _ _ _ => rfl
theorem stC : ∀ a b c d e, Statement (.stC a b c d e) := fun _ _ _ _ _ => rfl
theorem ldQ : ∀ a b c d e, Statement (.ldQ a b c d e) := fun _ _ _ _ _ => rfl
theorem ldM : ∀ a b c d e, Statement (.ldM a b c d e) := fun _ _ _ _ _ => rfl
theorem stQ : ∀ a b c d e, Statement (.stQ a b c d e) := fun _ _ _ _ _ => rfl
theorem stM : ∀ a b c d e, Statement (.stM a b c d e) := fun _ _ _ _ _ => rfl
theorem ldG : ∀ a b c d e, Statement (.ldG a b c d e) := fun _ _ _ _ _ => rfl
theorem ldGNt : ∀ a b c d e, Statement (.ldGNt a b c d e) := fun _ _ _ _ _ => rfl
theorem stG : ∀ a b c d e, Statement (.stG a b c d e) := fun _ _ _ _ _ => rfl
theorem stGNt : ∀ a b c d e, Statement (.stGNt a b c d e) := fun _ _ _ _ _ => rfl
theorem prfL1 : ∀ a b c, Statement (.prfL1 a b c) := fun _ _ _ => rfl
theorem prfL2 : ∀ a b c, Statement (.prfL2 a b c) := fun _ _ _ => rfl
theorem atomAdd : ∀ a b c d e, Statement (.atomAdd a b c d e) := fun _ _ _ _ _ => rfl
theorem atomAnd : ∀ a b c d e, Statement (.atomAnd a b c d e) := fun _ _ _ _ _ => rfl
theorem atomOr : ∀ a b c d e, Statement (.atomOr a b c d e) := fun _ _ _ _ _ => rfl
theorem atomXor : ∀ a b c d e, Statement (.atomXor a b c d e) := fun _ _ _ _ _ => rfl
theorem atomMinI : ∀ a b c d e, Statement (.atomMinI a b c d e) := fun _ _ _ _ _ => rfl
theorem atomMaxI : ∀ a b c d e, Statement (.atomMaxI a b c d e) := fun _ _ _ _ _ => rfl
theorem atomMinN : ∀ a b c d e, Statement (.atomMinN a b c d e) := fun _ _ _ _ _ => rfl
theorem atomMaxN : ∀ a b c d e, Statement (.atomMaxN a b c d e) := fun _ _ _ _ _ => rfl
theorem atomExch : ∀ a b c d e, Statement (.atomExch a b c d e) := fun _ _ _ _ _ => rfl
theorem atomCas : ∀ a b c d e, Statement (.atomCas a b c d e) := fun _ _ _ _ _ => rfl
theorem redAdd : ∀ a b c d e, Statement (.redAdd a b c d e) := fun _ _ _ _ _ => rfl
theorem redAnd : ∀ a b c d e, Statement (.redAnd a b c d e) := fun _ _ _ _ _ => rfl
theorem redOr : ∀ a b c d e, Statement (.redOr a b c d e) := fun _ _ _ _ _ => rfl
theorem redXor : ∀ a b c d e, Statement (.redXor a b c d e) := fun _ _ _ _ _ => rfl
theorem redMinI : ∀ a b c d e, Statement (.redMinI a b c d e) := fun _ _ _ _ _ => rfl
theorem redMaxI : ∀ a b c d e, Statement (.redMaxI a b c d e) := fun _ _ _ _ _ => rfl
theorem redMinN : ∀ a b c d e, Statement (.redMinN a b c d e) := fun _ _ _ _ _ => rfl
theorem redMaxN : ∀ a b c d e, Statement (.redMaxN a b c d e) := fun _ _ _ _ _ => rfl
theorem fenceAcq : ∀ a b, Statement (.fenceAcq a b) := fun _ _ => rfl
theorem fenceRel : ∀ a b, Statement (.fenceRel a b) := fun _ _ => rfl
theorem fenceAr : ∀ a b, Statement (.fenceAr a b) := fun _ _ => rfl
theorem fenceSc : ∀ a b, Statement (.fenceSc a b) := fun _ _ => rfl
theorem scset : ∀ a b c, Statement (.scset a b c) := fun _ _ _ => rfl
theorem scinv : ∀ a b, Statement (.scinv a b) := fun _ _ => rfl
theorem scqry : ∀ a b c, Statement (.scqry a b c) := fun _ _ _ => rfl
theorem scmem : ∀ a b c, Statement (.scmem a b c) := fun _ _ _ => rfl
theorem ctb : ∀ a b c d e, Statement (.ctb a b c d e) := fun _ _ _ _ _ => rfl
theorem ctbn : ∀ a b c d, Statement (.ctbn a b c d) := fun _ _ _ _ => rfl
theorem ctbm : ∀ a b c d e, Statement (.ctbm a b c d e) := fun _ _ _ _ _ => rfl
theorem slotOpen : ∀ a b c d, Statement (.slotOpen a b c d) := fun _ _ _ _ => rfl
theorem slotClose : ∀ a b c, Statement (.slotClose a b c) := fun _ _ _ => rfl
theorem slotWait : ∀ a b c, Statement (.slotWait a b c) := fun _ _ _ => rfl
theorem slotStat : ∀ a b c, Statement (.slotStat a b c) := fun _ _ _ => rfl
theorem oprDef : ∀ a b c, Statement (.oprDef a b c) := fun _ _ _ => rfl
theorem oprRel : ∀ a b, Statement (.oprRel a b) := fun _ _ => rfl
theorem oprQry : ∀ a b c, Statement (.oprQry a b c) := fun _ _ _ => rfl
theorem stp : ∀ a b c d, Statement (.stp a b c d) := fun _ _ _ _ => rfl
theorem stpSc : ∀ a b c d, Statement (.stpSc a b c d) := fun _ _ _ _ => rfl
theorem ldp : ∀ a b c d, Statement (.ldp a b c d) := fun _ _ _ _ => rfl
theorem ldpSc : ∀ a b c d, Statement (.ldpSc a b c d) := fun _ _ _ _ => rfl
theorem mma : ∀ a b c d e f, Statement (.mma a b c d e f) := fun _ _ _ _ _ _ => rfl
theorem accClr : ∀ a b, Statement (.accClr a b) := fun _ _ => rfl
theorem accRd : ∀ a b c d, Statement (.accRd a b c d) := fun _ _ _ _ => rfl
theorem drain : ∀ a b c d, Statement (.drain a b c d) := fun _ _ _ _ => rfl
theorem drainMx : ∀ a b c d e f, Statement (.drainMx a b c d e f) := fun _ _ _ _ _ _ => rfl
theorem cpy : ∀ a b c, Statement (.cpy a b c) := fun _ _ _ => rfl
theorem cpyc : ∀ a b c, Statement (.cpyc a b c) := fun _ _ _ => rfl
theorem chain : ∀ a b c, Statement (.chain a b c) := fun _ _ _ => rfl
theorem cpyw : ∀ a b c, Statement (.cpyw a b c) := fun _ _ _ => rfl
theorem chBind : ∀ a b c, Statement (.chBind a b c) := fun _ _ _ => rfl
theorem chFree : ∀ a b, Statement (.chFree a b) := fun _ _ => rfl
theorem chCnt : ∀ a b c, Statement (.chCnt a b c) := fun _ _ _ => rfl
theorem rng : ∀ a b c d, Statement (.rng a b c d) := fun _ _ _ _ => rfl
theorem rngReg : ∀ a b c, Statement (.rngReg a b c) := fun _ _ _ => rfl
theorem rngUnreg : ∀ a b c, Statement (.rngUnreg a b c) := fun _ _ _ => rfl
theorem vcdef : ∀ a b c d, Statement (.vcdef a b c d) := fun _ _ _ _ => rfl
theorem vcqry : ∀ a b c, Statement (.vcqry a b c) := fun _ _ _ => rfl
theorem ckcut : ∀ a b c, Statement (.ckcut a b c) := fun _ _ _ => rfl
theorem bnz : ∀ a b c, Statement (.bnz a b c) := fun _ _ _ => rfl
theorem bz : ∀ a b c, Statement (.bz a b c) := fun _ _ _ => rfl
theorem call : ∀ a b c, Statement (.call a b c) := fun _ _ _ => rfl
theorem jmpi : ∀ a b, Statement (.jmpi a b) := fun _ _ => rfl
theorem calli : ∀ a b c, Statement (.calli a b c) := fun _ _ _ => rfl
theorem ret : ∀ a b, Statement (.ret a b) := fun _ _ => rfl
theorem exit : ∀ a, Statement (.exit a) := fun _ => rfl
theorem ychk : ∀ a, Statement (.ychk a) := fun _ => rfl
theorem yield : ∀ a, Statement (.yield a) := fun _ => rfl
theorem win : ∀ a b, Statement (.win a b) := fun _ _ => rfl
theorem gnew : ∀ a b c d, Statement (.gnew a b c d) := fun _ _ _ _ => rfl
theorem join : ∀ a b, Statement (.join a b) := fun _ _ => rfl
theorem leave : ∀ a, Statement (.leave a) := fun _ => rfl
theorem bar : ∀ a, Statement (.bar a) := fun _ => rfl
theorem trap : ∀ a b, Statement (.trap a b) := fun _ _ => rfl
theorem brk : ∀ a, Statement (.brk a) := fun _ => rfl
theorem nop : ∀ a, Statement (.nop a) := fun _ => rfl
theorem fltReplay : ∀ a b, Statement (.fltReplay a b) := fun _ _ => rfl
theorem scanStop : ∀ a b c d, Statement (.scanStop a b c d) := fun _ _ _ _ => rfl
theorem scanRestore : ∀ a b c d, Statement (.scanRestore a b c d) := fun _ _ _ _ => rfl
theorem scanRestart : ∀ a b c d, Statement (.scanRestart a b c d) := fun _ _ _ _ => rfl
theorem wpset : ∀ a b c d, Statement (.wpset a b c d) := fun _ _ _ _ => rfl
theorem wpclr : ∀ a b, Statement (.wpclr a b) := fun _ _ => rfl
theorem step : ∀ a b c, Statement (.step a b c) := fun _ _ _ => rfl
theorem dpair : ∀ a b c d, Statement (.dpair a b c d) := fun _ _ _ _ => rfl
theorem longLatencyReturn : ∀ a, Statement (.longLatencyReturn a) := fun _ => rfl
theorem gangPromotion : ∀ a b, Statement (.gangPromotion a b) := fun _ _ => rfl
theorem channelPushArrive : ∀ a, Statement (.channelPushArrive a) := fun _ => rfl
theorem storePerform : ∀ a b c, Statement (.storePerform a b c) := fun _ _ _ => rfl
theorem gatewayPageFault : ∀ a, Statement (.gatewayPageFault a) := fun _ => rfl
theorem writebackFault : ∀ a, Statement (.writebackFault a) := fun _ => rfl
theorem trapRecordEnqueue : ∀ a, Statement (.trapRecordEnqueue a) := fun _ => rfl
theorem partialArrive : ∀ a b, Statement (.partialArrive a b) := fun _ _ => rfl
theorem panHoldExpiry : ∀ a b, Statement (.panHoldExpiry a b) := fun _ _ => rfl
theorem ctbmLeafArrive : ∀ a, Statement (.ctbmLeafArrive a) := fun _ => rfl
theorem closeMarkerArrive : ∀ a b c, Statement (.closeMarkerArrive a b c) := fun _ _ _ => rfl
theorem slotResolve : ∀ a b, Statement (.slotResolve a b) := fun _ _ => rfl
theorem slotFinal : ∀ a b, Statement (.slotFinal a b) := fun _ _ => rfl
theorem mmaPassStart : ∀ a b c, Statement (.mmaPassStart a b c) := fun _ _ _ => rfl
theorem fusionWindowExpiry : ∀ a b c, Statement (.fusionWindowExpiry a b c) := fun _ _ _ => rfl
theorem drainSeqWrite : ∀ a b c d, Statement (.drainSeqWrite a b c d) := fun _ _ _ _ => rfl
theorem jobElement : ∀ a b, Statement (.jobElement a b) := fun _ _ => rfl
theorem jobRetire : ∀ a b, Statement (.jobRetire a b) := fun _ _ => rfl
theorem collectiveWindowGrant : ∀ a b c, Statement (.collectiveWindowGrant a b c) := fun _ _ _ => rfl
theorem collectiveRootReturn : ∀ a b c d e, Statement (.collectiveRootReturn a b c d e) := fun _ _ _ _ _ => rfl
theorem ckptGranuleCopy : ∀ a, Statement (.ckptGranuleCopy a) := fun _ => rfl
theorem ckptCowCopy : ∀ a b, Statement (.ckptCowCopy a b) := fun _ _ => rfl
theorem vcAccept : ∀ a, Statement (.vcAccept a) := fun _ => rfl
theorem vcMoveStep : ∀ a b c, Statement (.vcMoveStep a b c) := fun _ _ _ => rfl
theorem vcCommit : ∀ a b, Statement (.vcCommit a b) := fun _ _ => rfl
theorem pageMigrate : ∀ a b c, Statement (.pageMigrate a b c) := fun _ _ _ => rfl
theorem thrashThrottleExpiry : ∀ a b, Statement (.thrashThrottleExpiry a b) := fun _ _ => rfl
theorem launch : ∀ a b c, Statement (.launch a b c) := fun _ _ _ => rfl
theorem launchStart : ∀ a b, Statement (.launchStart a b) := fun _ _ => rfl
theorem unitPlace : ∀ a, Statement (.unitPlace a) := fun _ => rfl
theorem edgeSatisfied : ∀ a b, Statement (.edgeSatisfied a b) := fun _ _ => rfl
theorem launchComplete : ∀ a, Statement (.launchComplete a) := fun _ => rfl
theorem preemptDelayExpiry : ∀ a, Statement (.preemptDelayExpiry a) := fun _ => rfl
theorem preemptDeadline : ∀ a, Statement (.preemptDeadline a) := fun _ => rfl
theorem coreRelease : ∀ a b, Statement (.coreRelease a b) := fun _ _ => rfl
theorem forcedStop : ∀ a b c, Statement (.forcedStop a b c) := fun _ _ _ => rfl
theorem scanComplete : ∀ a b, Statement (.scanComplete a b) := fun _ _ => rfl
theorem imageRestore : ∀ a b c, Statement (.imageRestore a b c) := fun _ _ _ => rfl
theorem contextResume : ∀ a b, Statement (.contextResume a b) := fun _ _ => rfl
theorem contextMigrate : ∀ a b, Statement (.contextMigrate a b) := fun _ _ => rfl
theorem watchpointHit : ∀ a, Statement (.watchpointHit a) := fun _ => rfl
theorem hostWrite : ∀ a b c d, Statement (.hostWrite a b c d) := fun _ _ _ _ => rfl
theorem hostRead : ∀ a b c d, Statement (.hostRead a b c d) := fun _ _ _ _ => rfl
theorem lctAck : ∀ a b, Statement (.lctAck a b) := fun _ _ => rfl
theorem lctRetransmitTimeout : ∀ a, Statement (.lctRetransmitTimeout a) := fun _ => rfl
theorem contextCreate : ∀ a b c d e f g, Statement (.contextCreate a b c d e f g) := fun _ _ _ _ _ _ _ => rfl
theorem contextDestroy : ∀ a b, Statement (.contextDestroy a b) := fun _ _ => rfl
theorem queueBind : ∀ a b c d, Statement (.queueBind a b c d) := fun _ _ _ _ => rfl
theorem queueUnbind : ∀ a b, Statement (.queueUnbind a b) := fun _ _ => rfl
theorem rangeRegisterWrite : ∀ a b c d, Statement (.rangeRegisterWrite a b c d) := fun _ _ _ _ => rfl
theorem pageMap : ∀ a b c d e, Statement (.pageMap a b c d e) := fun _ _ _ _ _ => rfl
theorem pageUnmap : ∀ a b c d, Statement (.pageUnmap a b c d) := fun _ _ _ _ => rfl
theorem pageChange : ∀ a b c d e, Statement (.pageChange a b c d e) := fun _ _ _ _ _ => rfl
theorem windowOpenClose : ∀ a b c d e f g h k, Statement (.windowOpenClose a b c d e f g h k) := fun _ _ _ _ _ _ _ _ _ => rfl
theorem sessionOpenClose : ∀ a b c d e, Statement (.sessionOpenClose a b c d e) := fun _ _ _ _ _ => rfl
theorem faultResolve : ∀ a b c, Statement (.faultResolve a b c) := fun _ _ _ => rfl
theorem faultFail : ∀ a b c, Statement (.faultFail a b c) := fun _ _ _ => rfl
theorem trapResume : ∀ a b c, Statement (.trapResume a b c) := fun _ _ _ => rfl
theorem trapRetry : ∀ a b c, Statement (.trapRetry a b c) := fun _ _ _ => rfl
theorem trapAbandon : ∀ a b c, Statement (.trapAbandon a b c) := fun _ _ _ => rfl
theorem fabricRecordWrite : ∀ a b c, Statement (.fabricRecordWrite a b c) := fun _ _ _ => rfl
theorem fabricGroupOp : ∀ a b c d e, Statement (.fabricGroupOp a b c d e) := fun _ _ _ _ _ => rfl
theorem portStatus : ∀ a b c, Statement (.portStatus a b c) := fun _ _ _ => rfl
theorem cutMapRead : ∀ a b, Statement (.cutMapRead a b) := fun _ _ => rfl
theorem delayThrashSet : ∀ a b c d, Statement (.delayThrashSet a b c d) := fun _ _ _ _ => rfl
theorem imageSubmit : ∀ a b c d, Statement (.imageSubmit a b c d) := fun _ _ _ _ => rfl
theorem imageRelease : ∀ a b c, Statement (.imageRelease a b c) := fun _ _ _ => rfl
theorem quotaSet : ∀ a b c, Statement (.quotaSet a b c) := fun _ _ _ => rfl
theorem marketAllotmentSet : ∀ a b c d e, Statement (.marketAllotmentSet a b c d e) := fun _ _ _ _ _ => rfl
theorem arpRequest : ∀ a, Statement (.arpRequest a) := fun _ => rfl
theorem icmpEcho : ∀ a, Statement (.icmpEcho a) := fun _ => rfl
theorem flitRetransmit : ∀ a, Statement (.flitRetransmit a) := fun _ => rfl
theorem portStateChange : ∀ a b, Statement (.portStateChange a b) := fun _ _ => rfl
theorem bankMarkFailed : ∀ a b, Statement (.bankMarkFailed a b) := fun _ _ => rfl
theorem bankRebuildRow : ∀ a, Statement (.bankRebuildRow a) := fun _ => rfl
theorem clockDroop : ∀ a b, Statement (.clockDroop a b) := fun _ _ => rfl
theorem clockStepUp : ∀ a, Statement (.clockStepUp a) := fun _ => rfl
theorem governorRound : ∀ a, Statement (.governorRound a) := fun _ => rfl
theorem thermalLimit : ∀ a, Statement (.thermalLimit a) := fun _ => rfl
theorem thermalTrip : Statement .thermalTrip := rfl
theorem corePowerRemove : Statement .corePowerRemove := rfl
theorem powerUp : ∀ a, Statement (.powerUp a) := fun _ => rfl
theorem unassignedWordIssue : ∀ a, Statement (.unassignedWordIssue a) := fun _ => rfl
theorem priorityFlowControlFrame : ∀ a b, Statement (.priorityFlowControlFrame a b) := fun _ _ => rfl

end Sys2Proof.Laws.HasWord
end

