-- ==== Sys2Proof/Tests/Slice0.lean ====
section
/-!
SUPPORT. Tests: ill-formed instructions that WellFormed refuses, words that decode, and single steps on small states. Expected
results come from the manual's encodings, tables and worked examples, or were worked out by hand from them.
-/
set_option Elab.async false

namespace Sys2Proof.Tests
open Sys2Proof Sys2Proof.Machine

/-! ## Small states -/

/-- A kernel of two words: `nop` and `exit`, each a block. -/
def kern : Kernel :=
  { ctx := 0, code := [0x7C000002#32, 0x7A000003#32], dict := [0x7C000002#32, 0x7C000002#32], blocks := [(0, 0), (1, 0)]
    roles := [(0, 512)], data := [] }

/-- A range register that maps [base, limit] to ia on, readable and writable. -/
def rr (base limit ia attr : Nat) : BitVec 256 :=
  BitVec.ofNat 256 (base + limit * 2 ^ 64 + ia * 2 ^ 128 + 3 * 2 ^ 192 + attr * 2 ^ 194 + 2 ^ 199)

/-- A context of two cores whose first 2^40 bytes map one to one, readable and writable; above them the same bytes again,
strongly ordered. -/
def ctx0 : Ctx :=
  { n := 2, quota := 4, place := [(0, 0), (1, 1)], set := { yhnd := 1 }
    trans := { ranges := [(0, rr 0 (2 ^ 40 - 1) 0 0), (1, rr (2 ^ 40) (2 ^ 41 - 1) 0 2)], pages := [(0, 0xA300000000000000#64)] }
    vcs := [(0, { state := .stable })] }

/-- A gang of one lane for each list of registers, on line 0 of virtual core 0, at word 0. -/
def gang (rs : List (List (Nat × Word))) : State :=
  { State.reset with
    ctxs := [(0, ctx0)]
    kernels := [(1, kern)]
    launches := [(0, { queue := 0, seq := 1, ctx := 0, recd := oneThreadRecord, state := .started, live := rs.length, placed := true, cores := [0] })]
    cores := [(⟨0, 0⟩, { clkFrom := some 0 }), (⟨0, 1⟩, { clkFrom := some 0 })]
    lines := [(⟨0, 0, 0⟩, { slices := 1 })]
    threads := rs.zipIdx.map (fun e => (⟨0, 0, 0, e.2⟩, { tid := e.2, regs := e.1 }))
    issue := { lanes := List.range rs.length, word := 7, info := 9 } }

/-- The state after an instruction. -/
noncomputable def after (i : Instr) (s : State) : State :=
  match exec i s with
  | .next t => t
  | .fault _ => State.reset
  | .refused _ => State.reset

/-- The state after an instruction of one lane with such registers. -/
noncomputable def run (i : Instr) (rs : List (Nat × Word)) : State := after i (gang [rs])
/-- Register k of lane l. -/
def r (s : State) (l k : Nat) : Word := sget 0#32 (s.lane l).regs k

/-- What a long-latency instruction of one lane leaves once its result has returned. -/
noncomputable def runLong (i : Instr) (s : State) : State :=
  match (after i s).agenda.getLast? with
  | some e => after e (after i s)
  | none => State.reset

/-- Every word of a list decodes to its instruction. -/
abbrev reads (l : List (Nat × Instr)) : Prop := ∀ e ∈ l, (decodeWord (BitVec.ofNat 32 e.1)).toOption = some e.2

/-! ## Well-formedness: one ill-formed instruction for each check -/

/-- R69, R70, R154: operands. An odd pair, a quad not on a multiple of four, an odd g pair, a quad in g; a pk name as
destination, d read through a channel, an odd g register as an atomic's destination, a 128-bit operand through pk. -/
theorem test_wf_operands : (Instr.addI64 false 3#7 4#7 6#7).wf = false ∧ (Instr.rng false 2#7 4#7 106#7).wf = false ∧
    (Instr.addI64 false 105#7 4#7 6#7).wf = false ∧ (Instr.rng false 104#7 4#7 106#7).wf = false ∧ (Instr.addI32 false 112#7 1#7 2#7).wf = false ∧
    (Instr.selB32 false 120#7 1#7 2#7).wf = false ∧ (Instr.atomAdd false 105#7 4#7 0#3 4#4).wf = false ∧
    (Instr.ldG false 113#7 4#7 104#7 6#3).wf = false := by decide +kernel

/-- R41, R85, R113: shift counts past 31 in 32 bits, special registers that do not exist, read-only ones written, `fst` through
`swr`'s common form. -/
theorem test_wf_registers : (Instr.shli false 1#7 2#7 false 32#6).wf = false ∧ (Instr.rotri false 1#7 2#7 false 63#6).wf = false ∧
    (Instr.shri false 1#7 2#7 false 32#6).wf = false ∧ (Instr.sari false 1#7 2#7 false 32#6).wf = false ∧ (Instr.srd false 1#7 0x0E#8).wf = false ∧
    (Instr.swr false 1#7 0x47#8).wf = false ∧ (Instr.swr false 1#7 0x08#8).wf = false := by decide +kernel

/-- R82, R88, R189: format codes that do not exist. -/
theorem test_wf_formats : (Instr.cvt false 1#7 2#7 14#4 0#2 1#4).wf = false ∧ (Instr.cvt false 1#7 2#7 10#4 0#2 11#4).wf = false ∧
    (Instr.ldC false 1#7 2#7 3#7 7#3).wf = false ∧ (Instr.stC false 1#7 2#7 3#7 1#3).wf = false ∧ (Instr.stG false 1#7 2#7 3#7 3#3).wf = false ∧
    (Instr.ctb false 1#7 2#7 3#7 4#4).wf = false ∧ (Instr.ctbn false 1#7 2#7 4#4).wf = false ∧ (Instr.ctbm false 1#7 2#7 3#7 14#4).wf = false ∧
    (Instr.drain false 2#7 0#4 10#4).wf = false ∧ (Instr.drainMx false 2#7 4#7 0#3 0#4 5#4).wf = false ∧
    (Instr.drainMx false 2#7 4#7 1#3 0#4 3#4).wf = false := by decide +kernel

/-- R137, R154, R161, R177, R208: other code fields past their range. -/
theorem test_wf_codes : (Instr.win false 52#7).wf = false ∧ (Instr.atomAdd false 1#7 2#7 4#3 4#4).wf = false ∧ (Instr.redAdd false 1#7 2#7 4#3 4#4).wf = false ∧
    (Instr.scset false 2#7 3#4).wf = false ∧ (Instr.scinv false 3#4).wf = false ∧ (Instr.mma false 0#4 0#3 0#4 0#4 14#4).wf = false ∧
    (Instr.rng false 4#7 8#7 104#7).wf = false := by decide +kernel

/-! ## Decoding: every constructor, from words made of the fields that the encoding gives it; then words of the manual -/

theorem test_decode_integer : reads [
  (0x801040C1, .addI32 true 4#7 8#7 12#7),
  (0x801040C2, .subI32 true 4#7 8#7 12#7),
  (0x801040C3, .addSatI32 true 4#7 8#7 12#7),
  (0x801040C4, .subSatI32 true 4#7 8#7 12#7),
  (0x801040C5, .addSatN32 true 4#7 8#7 12#7),
  (0x801040C6, .subSatN32 true 4#7 8#7 12#7),
  (0x801040C7, .mulloI32 true 4#7 8#7 12#7),
  (0x801040C8, .mulhiI32 true 4#7 8#7 12#7),
  (0x801040C9, .mulhiN32 true 4#7 8#7 12#7),
  (0x801040CA, .minI32 true 4#7 8#7 12#7),
  (0x801040CB, .maxI32 true 4#7 8#7 12#7),
  (0x801040CC, .minN32 true 4#7 8#7 12#7),
  (0x801040CD, .maxN32 true 4#7 8#7 12#7),
  (0x8010400E, .absI32 true 4#7 8#7),
  (0x8010400F, .negI32 true 4#7 8#7),
  (0x821040C0, .addI64 true 4#7 8#7 12#7),
  (0x821040C1, .subI64 true 4#7 8#7 12#7),
  (0x821040C2, .mulloI64 true 4#7 8#7 12#7),
  (0x821040C3, .mulhiI64 true 4#7 8#7 12#7),
  (0x821040C4, .mulhiN64 true 4#7 8#7 12#7),
  (0x821040C5, .minI64 true 4#7 8#7 12#7),
  (0x821040C6, .maxI64 true 4#7 8#7 12#7),
  (0x821040C7, .minN64 true 4#7 8#7 12#7),
  (0x821040C8, .maxN64 true 4#7 8#7 12#7),
  (0x82104009, .negI64 true 4#7 8#7),
  (0x8210400A, .absI64 true 4#7 8#7),
  (0x841040C0, .andB32 true 4#7 8#7 12#7),
  (0x841040C1, .orB32 true 4#7 8#7 12#7),
  (0x841040C2, .xorB32 true 4#7 8#7 12#7),
  (0x841040C3, .andnB32 true 4#7 8#7 12#7)] := by decide +kernel

theorem test_decode_integer1 : reads [
  (0x841040C4, .ornB32 true 4#7 8#7 12#7),
  (0x841040C5, .xnorB32 true 4#7 8#7 12#7),
  (0x84104006, .notB32 true 4#7 8#7),
  (0x841040C7, .shlB32 true 4#7 8#7 12#7),
  (0x841040C8, .shrB32 true 4#7 8#7 12#7),
  (0x841040C9, .sarB32 true 4#7 8#7 12#7),
  (0x841040CA, .rotlB32 true 4#7 8#7 12#7),
  (0x841040CB, .rotrB32 true 4#7 8#7 12#7),
  (0x8410400C, .movB32 true 4#7 8#7),
  (0x8410400D, .movB64 true 4#7 8#7),
  (0x86104000, .popcB32 true 4#7 8#7),
  (0x86104001, .clzB32 true 4#7 8#7),
  (0x86104002, .ctzB32 true 4#7 8#7),
  (0x86104003, .brevB32 true 4#7 8#7),
  (0x861040C4, .bfeI32 true 4#7 8#7 12#7),
  (0x861040C5, .bfeN32 true 4#7 8#7 12#7),
  (0x861040C6, .bfiB32 true 4#7 8#7 12#7),
  (0x861040C7, .bselB32 true 4#7 8#7 12#7),
  (0x861040C8, .shlB64 true 4#7 8#7 12#7),
  (0x861040C9, .shrB64 true 4#7 8#7 12#7),
  (0x861040CA, .sarB64 true 4#7 8#7 12#7),
  (0x8610400B, .popcB64 true 4#7 8#7),
  (0x8610400C, .clzB64 true 4#7 8#7),
  (0x881040C0, .setEqB32 true 4#7 8#7 12#7),
  (0x881040C1, .setNeB32 true 4#7 8#7 12#7),
  (0x881040C2, .setLtI32 true 4#7 8#7 12#7),
  (0x881040C3, .setLeI32 true 4#7 8#7 12#7),
  (0x881040C4, .setLtN32 true 4#7 8#7 12#7),
  (0x881040C5, .setLeN32 true 4#7 8#7 12#7),
  (0x881040C6, .setEqB64 true 4#7 8#7 12#7)] := by decide +kernel

theorem test_decode_integer2 : reads [
  (0x881040C7, .setNeB64 true 4#7 8#7 12#7),
  (0x881040C8, .setLtI64 true 4#7 8#7 12#7),
  (0x881040C9, .setLeI64 true 4#7 8#7 12#7),
  (0x881040CA, .setLtN64 true 4#7 8#7 12#7),
  (0x881040CB, .setLeN64 true 4#7 8#7 12#7),
  (0x881040CC, .selB32 true 4#7 8#7 12#7),
  (0x881040CD, .selB64 true 4#7 8#7 12#7)] := by decide +kernel

theorem test_decode_immediate : reads [
  (0x8A1045A3, .addiI32 true 4#7 8#7 1443#11),
  (0x8C1045A3, .andiB32 true 4#7 8#7 1443#11),
  (0x8E1045A3, .oriB32 true 4#7 8#7 1443#11),
  (0x901045A3, .xoriB32 true 4#7 8#7 1443#11),
  (0x9210412B, .shli true 4#7 8#7 true 43#6),
  (0x9210432B, .shri true 4#7 8#7 true 43#6),
  (0x9210452B, .sari true 4#7 8#7 true 43#6),
  (0x9210472B, .rotri true 4#7 8#7 true 43#6),
  (0x941040C0, .andB64 true 4#7 8#7 12#7),
  (0x941040C1, .orB64 true 4#7 8#7 12#7),
  (0x941040C2, .xorB64 true 4#7 8#7 12#7),
  (0x94104003, .notB64 true 4#7 8#7),
  (0x941040C4, .rotlB64 true 4#7 8#7 12#7),
  (0x941040C5, .rotrB64 true 4#7 8#7 12#7),
  (0x9612FFF5, .movi true 4#7 196597#18),
  (0x9810BEEF, .movhi true 4#7 48879#16),
  (0x9A10BEEF, .movlo true 4#7 48879#16),
  (0x9C1040C0, .addaI true 4#7 8#7 12#7),
  (0x9C1040C1, .addaN true 4#7 8#7 12#7),
  (0x9C1040C2, .madaN32 true 4#7 8#7 12#7),
  (0x9C104003, .extI32 true 4#7 8#7),
  (0x9C104004, .extN32 true 4#7 8#7),
  (0x9C104005, .truncB64 true 4#7 8#7),
  (0x9E10004A, .srd true 4#7 74#8),
  (0x9E100106, .srdPos true 4#7),
  (0x9E004444, .swr true 8#7 68#8),
  (0x9E004408, .swrFst true 8#7),
  (0x9E004441, .swrPreq true 8#7),
  (0x9E004445, .swrFltcc true 8#7)] := by decide +kernel

theorem test_decode_float : reads [
  (0xA01040C8, .faddF32 true 4#7 8#7 12#7 2#2),
  (0xA01040C9, .fsubF32 true 4#7 8#7 12#7 2#2),
  (0xA01040CA, .fmulF32 true 4#7 8#7 12#7 2#2),
  (0xA01040CB, .ffmaF32 true 4#7 8#7 12#7 2#2),
  (0xA21040C8, .faddF64 true 4#7 8#7 12#7 2#2),
  (0xA21040C9, .fsubF64 true 4#7 8#7 12#7 2#2),
  (0xA21040CA, .fmulF64 true 4#7 8#7 12#7 2#2),
  (0xA21040CB, .ffmaF64 true 4#7 8#7 12#7 2#2),
  (0xA41040C8, .faddBf16x2 true 4#7 8#7 12#7 2#2),
  (0xA41040C9, .fsubBf16x2 true 4#7 8#7 12#7 2#2),
  (0xA41040CA, .fmulBf16x2 true 4#7 8#7 12#7 2#2),
  (0xA41040CB, .ffmaBf16x2 true 4#7 8#7 12#7 2#2),
  (0xA61040C8, .faddF16x2 true 4#7 8#7 12#7 2#2),
  (0xA61040C9, .fsubF16x2 true 4#7 8#7 12#7 2#2),
  (0xA61040CA, .fmulF16x2 true 4#7 8#7 12#7 2#2),
  (0xA61040CB, .ffmaF16x2 true 4#7 8#7 12#7 2#2),
  (0xA81040C0, .fminF32 true 4#7 8#7 12#7),
  (0xA81040C1, .fmaxF32 true 4#7 8#7 12#7),
  (0xA8104002, .fabsF32 true 4#7 8#7),
  (0xA8104003, .fnegF32 true 4#7 8#7),
  (0xA81040C4, .fcpsgnF32 true 4#7 8#7 12#7),
  (0xA81040C5, .fdivF32 true 4#7 8#7 12#7),
  (0xA8104006, .fsqrtF32 true 4#7 8#7),
  (0xA81040C7, .fsetEqF32 true 4#7 8#7 12#7),
  (0xA81040C8, .fsetNeF32 true 4#7 8#7 12#7),
  (0xA81040C9, .fsetLtF32 true 4#7 8#7 12#7),
  (0xA81040CA, .fsetLeF32 true 4#7 8#7 12#7),
  (0xA81040CB, .fsetUnF32 true 4#7 8#7 12#7),
  (0xA810400C, .fclassF32 true 4#7 8#7),
  (0xAA1040C0, .fminF64 true 4#7 8#7 12#7)] := by decide +kernel

theorem test_decode_float1 : reads [
  (0xAA1040C1, .fmaxF64 true 4#7 8#7 12#7),
  (0xAA104002, .fabsF64 true 4#7 8#7),
  (0xAA104003, .fnegF64 true 4#7 8#7),
  (0xAA1040C4, .fcpsgnF64 true 4#7 8#7 12#7),
  (0xAA1040C5, .fdivF64 true 4#7 8#7 12#7),
  (0xAA104006, .fsqrtF64 true 4#7 8#7),
  (0xAA1040C7, .fsetEqF64 true 4#7 8#7 12#7),
  (0xAA1040C8, .fsetNeF64 true 4#7 8#7 12#7),
  (0xAA1040C9, .fsetLtF64 true 4#7 8#7 12#7),
  (0xAA1040CA, .fsetLeF64 true 4#7 8#7 12#7),
  (0xAA1040CB, .fsetUnF64 true 4#7 8#7 12#7),
  (0xAA10400C, .fclassF64 true 4#7 8#7)] := by decide +kernel

theorem test_decode_special_convert : reads [
  (0xAC1040C0, .fminBf16x2 true 4#7 8#7 12#7),
  (0xAC1040C1, .fmaxBf16x2 true 4#7 8#7 12#7),
  (0xAC104002, .fabsBf16x2 true 4#7 8#7),
  (0xAC104003, .fnegBf16x2 true 4#7 8#7),
  (0xAC1040C4, .fminF16x2 true 4#7 8#7 12#7),
  (0xAC1040C5, .fmaxF16x2 true 4#7 8#7 12#7),
  (0xAC104006, .fabsF16x2 true 4#7 8#7),
  (0xAC104007, .fnegF16x2 true 4#7 8#7),
  (0xAE104000, .frcpF32 true 4#7 8#7),
  (0xAE104001, .frsqrtF32 true 4#7 8#7),
  (0xAE104002, .fexp2F32 true 4#7 8#7),
  (0xAE104003, .flog2F32 true 4#7 8#7),
  (0xAE104004, .fsinpiF32 true 4#7 8#7),
  (0xAE104005, .fcospiF32 true 4#7 8#7),
  (0xAE104006, .ftanhF32 true 4#7 8#7),
  (0xB0104000, .frcpF64 true 4#7 8#7),
  (0xB0104001, .frsqrtF64 true 4#7 8#7),
  (0xB0104002, .fexp2F64 true 4#7 8#7),
  (0xB0104003, .flog2F64 true 4#7 8#7),
  (0xB81040AA, .cvt true 4#7 8#7 1#4 1#2 10#4),
  (0xBA1040C0, .cvtpBf16x2F32 true 4#7 8#7 12#7),
  (0xBA1040C1, .cvtpF16x2F32 true 4#7 8#7 12#7),
  (0xBA1040C2, .insE8 true 4#7 8#7 12#7),
  (0xBA1040C3, .insE4 true 4#7 8#7 12#7),
  (0xBA1040C4, .extE8 true 4#7 8#7 12#7),
  (0xBA1040C5, .extE4 true 4#7 8#7 12#7),
  (0xBC104000, .cvtS8E8m0 true 4#7 8#7),
  (0xBC104001, .cvtE8m0S8 true 4#7 8#7),
  (0xBC1040C2, .sclF32 true 4#7 8#7 12#7),
  (0xBC1040C3, .sclF64 true 4#7 8#7 12#7)] := by decide +kernel

theorem test_decode_special_convert1 : reads [
  (0xBE1040C0, .dp4I8 true 4#7 8#7 12#7),
  (0xBE1040C1, .dp4N8 true 4#7 8#7 12#7),
  (0xBE1040C2, .dp4F8e4m3 true 4#7 8#7 12#7),
  (0xBE1040C3, .dp4F8e5m2 true 4#7 8#7 12#7),
  (0xBE1040C4, .dp8I4 true 4#7 8#7 12#7),
  (0xBE1040C5, .dp8N4 true 4#7 8#7 12#7),
  (0xBE1040C6, .dp8F4e2m1 true 4#7 8#7 12#7)] := by decide +kernel

theorem test_decode_memory : reads [
  (0xC01040C4, .ldP true 4#7 8#7 12#7 4#3),
  (0xC01040CC, .ldC true 4#7 8#7 12#7 4#3),
  (0xC21040C4, .stP true 4#7 8#7 12#7 4#3),
  (0xC21040CC, .stC true 4#7 8#7 12#7 4#3),
  (0xC41040C4, .ldQ true 4#7 8#7 12#7 4#3),
  (0xC41040CC, .ldM true 4#7 8#7 12#7 4#3),
  (0xC61040C4, .stQ true 4#7 8#7 12#7 4#3),
  (0xC61040CC, .stM true 4#7 8#7 12#7 4#3),
  (0xC81040C4, .ldG true 4#7 8#7 12#7 4#3),
  (0xC81040CC, .ldGNt true 4#7 8#7 12#7 4#3),
  (0xCA1040C4, .stG true 4#7 8#7 12#7 4#3),
  (0xCA1040CC, .stGNt true 4#7 8#7 12#7 4#3),
  (0xCC0040C0, .prfL1 true 8#7 12#7),
  (0xCC0040C1, .prfL2 true 8#7 12#7)] := by decide +kernel

theorem test_decode_atomic : reads [
  (0xD0104250, .atomAdd true 4#7 8#7 2#3 5#4),
  (0xD0104251, .atomAnd true 4#7 8#7 2#3 5#4),
  (0xD0104252, .atomOr true 4#7 8#7 2#3 5#4),
  (0xD0104253, .atomXor true 4#7 8#7 2#3 5#4),
  (0xD0104254, .atomMinI true 4#7 8#7 2#3 5#4),
  (0xD0104255, .atomMaxI true 4#7 8#7 2#3 5#4),
  (0xD0104256, .atomMinN true 4#7 8#7 2#3 5#4),
  (0xD0104257, .atomMaxN true 4#7 8#7 2#3 5#4),
  (0xD0104258, .atomExch true 4#7 8#7 2#3 5#4),
  (0xD0104259, .atomCas true 4#7 8#7 2#3 5#4),
  (0xD2104250, .redAdd true 4#7 8#7 2#3 5#4),
  (0xD2104251, .redAnd true 4#7 8#7 2#3 5#4),
  (0xD2104252, .redOr true 4#7 8#7 2#3 5#4),
  (0xD2104253, .redXor true 4#7 8#7 2#3 5#4),
  (0xD2104254, .redMinI true 4#7 8#7 2#3 5#4),
  (0xD2104255, .redMaxI true 4#7 8#7 2#3 5#4),
  (0xD2104256, .redMinN true 4#7 8#7 2#3 5#4),
  (0xD2104257, .redMaxN true 4#7 8#7 2#3 5#4),
  (0xD4000050, .fenceAcq true 5#4),
  (0xD4000051, .fenceRel true 5#4),
  (0xD4000052, .fenceAr true 5#4),
  (0xD4000053, .fenceSc true 5#4),
  (0xD6004050, .scset true 8#7 5#4),
  (0xD6000051, .scinv true 5#4),
  (0xD6100052, .scqry true 4#7 5#4),
  (0xD6100053, .scmem true 4#7 5#4)] := by decide +kernel

theorem test_decode_sum : reads [
  (0xD81040CA, .ctb true 4#7 8#7 12#7 10#4),
  (0xDA10400A, .ctbn true 4#7 8#7 10#4),
  (0xDC1040CA, .ctbm true 4#7 8#7 12#7 10#4),
  (0xDE1040C0, .slotOpen true 4#7 8#7 12#7),
  (0xDE1000C1, .slotClose true 4#7 12#7),
  (0xDE1000C2, .slotWait true 4#7 12#7),
  (0xDE1000C3, .slotStat true 4#7 12#7)] := by decide +kernel

theorem test_decode_matrix : reads [
  (0xE0004050, .oprDef true 8#7 5#4),
  (0xE0000051, .oprRel true 5#4),
  (0xE0100052, .oprQry true 4#7 5#4),
  (0xE2104050, .stp true 4#7 8#7 5#4),
  (0xE2104051, .stpSc true 4#7 8#7 5#4),
  (0xE2104052, .ldp true 4#7 8#7 5#4),
  (0xE2104053, .ldpSc true 4#7 8#7 5#4),
  (0xE4152855, .mma true 5#4 2#3 5#4 5#4 5#4),
  (0xE6000050, .accClr true 5#4),
  (0xE6104051, .accRd true 4#7 8#7 5#4),
  (0xE8004055, .drain true 8#7 5#4 5#4),
  (0xE8104275, .drainMx true 4#7 8#7 2#3 7#4 5#4)] := by decide +kernel

theorem test_decode_engine : reads [
  (0xEC104000, .cpy true 4#7 8#7),
  (0xEC104001, .cpyc true 4#7 8#7),
  (0xEC104002, .chain true 4#7 8#7),
  (0xEC104003, .cpyw true 4#7 8#7),
  (0xEE004020, .chBind true 8#7 2#3),
  (0xEE000021, .chFree true 2#3),
  (0xEE100022, .chCnt true 4#7 2#3),
  (0xF01046E0, .rng true 4#7 8#7 110#7),
  (0xF0104001, .rngReg true 4#7 8#7),
  (0xF0104002, .rngUnreg true 4#7 8#7),
  (0xF2104020, .vcdef true 4#7 8#7 2#3),
  (0xF2100021, .vcqry true 4#7 2#3),
  (0xF2104002, .ckcut true 4#7 8#7)] := by decide +kernel

theorem test_decode_control : reads [
  (0xF412FFF5, .bnz true 4#7 196597#18),
  (0xF612FFF5, .bz true 4#7 196597#18),
  (0xF812FFF5, .call true 4#7 196597#18),
  (0xFA004000, .jmpi true 8#7),
  (0xFA104001, .calli true 4#7 8#7),
  (0xFA004002, .ret true 8#7),
  (0xFA000003, .exit true),
  (0xFA000004, .ychk true),
  (0xFA000005, .yield true),
  (0xFA000336, .win true 51#7),
  (0xFA104017, .gnew true 4#7 8#7 true),
  (0xFA004008, .join true 8#7),
  (0xFA000009, .leave true),
  (0xFA00000A, .bar true),
  (0xFC000100, .trap true 16#7),
  (0xFC000001, .brk true),
  (0xFC000002, .nop true),
  (0xFC004003, .fltReplay true 8#7),
  (0xFC1040C4, .scanStop true 4#7 8#7 12#7),
  (0xFC1040C5, .wpset true 4#7 8#7 12#7),
  (0xFC0000C6, .wpclr true 12#7),
  (0xFC104007, .step true 4#7 8#7),
  (0xFFA96A50, .dpair true true 677#10 677#10)] := by decide +kernel

/-- Encodings that the manual works out in its tables and listings. -/
theorem test_decode_worked : reads [
  (0x20102867, .ffmaF32 false 4#7 5#7 6#7 1#2),
  (0x38244082, .cvt false 9#7 8#7 1#4 0#2 2#4),
  (0x222050CA, .fmulF64 false 8#7 10#7 12#7 2#2),
  (0x24102863, .ffmaBf16x2 false 4#7 5#7 6#7 0#2),
  (0x382440AA, .cvt false 9#7 8#7 1#4 1#2 10#4),
  (0x38244281, .cvt false 9#7 8#7 5#4 0#2 1#4),
  (0x3E102862, .dp4F8e4m3 false 4#7 5#7 6#7),
  (0x3C102072, .sclF32 false 4#7 4#7 7#7),
  (0x160BFFFB, .movi false 2#7 0x3FFFB#18),
  (0x1E1C0000, .srd false 7#7 0#8),
  (0x50101050, .atomAdd false 4#7 2#7 0#3 5#4),
  (0x520C3247, .redMaxN false 3#7 6#7 2#3 4#4),
  (0x60003020, .oprDef false 6#7 2#4),
  (0x601C0022, .oprQry false 7#7 2#4),
  (0x62104820, .stp false 4#7 9#7 2#4),
  (0x640E8010, .mma false 3#4 5#3 0#4 1#4 0#4),
  (0x66000050, .accClr false 5#4),
  (0x66203051, .accRd false 8#7 6#7 5#4),
  (0x68005022, .drain false 10#7 2#4 2#4),
  (0x58104031, .ctb false 4#7 8#7 3#7 1#4),
  (0x5A184009, .ctbn false 6#7 8#7 9#4),
  (0x5C104031, .ctbm false 4#7 8#7 3#7 1#4),
  (0x5E144030, .slotOpen false 5#7 8#7 3#7),
  (0x6C144001, .cpyc false 5#7 8#7),
  (0x6C182803, .cpyw false 6#7 5#7),
  (0x70144002, .rngUnreg false 5#7 8#7),
  (0x72144020, .vcdef false 5#7 8#7 2#3),
  (0x721C4002, .ckcut false 7#7 8#7),
  (0x7C002003, .fltReplay false 4#7),
  (0x7C144094, .scanStop false 5#7 8#7 9#7),
  (0x7C000096, .wpclr false 9#7),
  (0x7C144807, .step false 5#7 9#7),
  (0x48235044, .ldG false 8#7 106#7 4#7 4#3),
  (0xDE1F5060, .slotOpen true 7#7 106#7 6#7),
  (0x52245022, .redOr false 9#7 10#7 0#3 2#4),
  (0xD0247020, .atomAdd true 9#7 14#7 0#3 2#4),
  (0x0C50601F, .andiB32 false 20#7 12#7 31#11),
  (0x0458B151, .orB32 false 22#7 22#7 21#7),
  (0x0828AE80, .setEqB32 false 10#7 21#7 104#7),
  (0x0828488C, .selB32 false 10#7 9#7 8#7),
  (0x4240368E, .stC false 16#7 6#7 104#7 6#3),
  (0xC82351F0, .ldG true 8#7 106#7 31#7 0#3),
  (0x62210011, .stpSc false 8#7 32#7 1#4),
  (0x705086E0, .rng false 20#7 16#7 110#7),
  (0x4A77505C, .stGNt false 29#7 106#7 5#7 4#3),
  (0x1CB06004, .extN32 false 44#7 12#7),
  (0x988C4010, .movhi true 35#7 0x4010#16),
  (0x2AD99345, .fdivF64 false 54#7 50#7 52#7),
  (0x22F1B1C3, .ffmaF64 false 60#7 54#7 28#7 0#2),
  (0x5600E040, .scset false 28#7 4#4),
  (0xD0507B40, .atomAdd true 20#7 15#7 3#3 4#4),
  (0xC4587E85, .ldQ true 22#7 15#7 104#7 5#3),
  (0x1E18004A, .srd false 6#7 0x4A#8)] := by decide +kernel

/-! ## Single steps -/

-- R108: sums wrap, |−2^31| keeps its bits, saturation and high products are exact.
theorem test_integer : r (run (.addI32 false 4#7 5#7 6#7) [(5, 0xFFFFFFFF#32), (6, 2#32)]) 0 4 = 1#32 ∧
    r (run (.absI32 false 4#7 5#7) [(5, 0x80000000#32)]) 0 4 = 0x80000000#32 ∧
    r (run (.addSatI32 false 4#7 5#7 6#7) [(5, 0x7FFFFFFF#32), (6, 1#32)]) 0 4 = 0x7FFFFFFF#32 ∧
    r (run (.mulhiI32 false 4#7 5#7 6#7) [(5, 0xFFFFFFFF#32), (6, 2#32)]) 0 4 = 0xFFFFFFFF#32 := by decide +kernel

-- R109: a pair's carry; |−2^63|.
theorem test_integer64 : (let s := run (.addI64 false 4#7 6#7 8#7) [(6, 0xFFFFFFFF#32), (8, 1#32)]; r s 0 4 = 0#32 ∧ r s 0 5 = 1#32) ∧
    r (run (.absI64 false 4#7 6#7) [(7, 0x80000000#32)]) 0 5 = 0x80000000#32 := by decide +kernel

-- R110, R111: counts are taken modulo the width.
theorem test_shifts : r (run (.shlB32 false 4#7 5#7 6#7) [(5, 3#32), (6, 33#32)]) 0 4 = 6#32 ∧
    r (run (.sarB32 false 4#7 5#7 6#7) [(5, 0x80000000#32), (6, 31#32)]) 0 4 = 0xFFFFFFFF#32 ∧
    r (run (.rotrB32 false 4#7 5#7 6#7) [(5, 1#32), (6, 1#32)]) 0 4 = 0x80000000#32 ∧
    r (run (.shrB64 false 4#7 6#7 8#7) [(7, 1#32), (8, 32#32)]) 0 4 = 1#32 := by decide +kernel

-- R114.
theorem test_bit_counts : r (run (.clzB32 false 4#7 5#7) []) 0 4 = 32#32 ∧ r (run (.ctzB32 false 4#7 5#7) [(5, 8#32)]) 0 4 = 3#32 ∧
    r (run (.brevB32 false 4#7 5#7) [(5, 1#32)]) 0 4 = 0x80000000#32 ∧ r (run (.popcB64 false 4#7 6#7) [(6, 0xF#32), (7, 1#32)]) 0 4 = 5#32 := by
  decide +kernel

-- R115, the worked case: a field that runs past bit 31.
theorem test_bfe : r (run (.bfeI32 false 4#7 5#7 6#7) [(5, 0xF0000000#32), (6, 0x81C#32)]) 0 4 = 0xFFFFFFFF#32 ∧
    r (run (.bfiB32 false 4#7 5#7 6#7) [(4, 0xFFFFFFFF#32), (5, 0x2#32), (6, 0x404#32)]) 0 4 = 0xFFFFFF2F#32 := by decide +kernel

-- R116, the worked selectors on the bytes 0x11, 0x22, 0x93, 0x84.
theorem test_bsel : r (run (.bselB32 false 4#7 5#7 6#7) [(5, 0x84932211#32), (6, 0x053#32)]) 0 4 = 0x11229384#32 ∧
    r (run (.bselB32 false 4#7 5#7 6#7) [(5, 0x849322F1#32), (6, 0xDB0#32)]) 0 4 = 0xFFFFFFF1#32 ∧
    r (run (.bselB32 false 4#7 5#7 6#7) [(5, 0x84932211#32), (6, 0xFF9#32)]) 0 4 = 0x22222222#32 ∧
    r (run (.bselB32 false 4#7 5#7 6#7) [(5, 0x84932211#32), (6, 0x922#32)]) 0 4 = 0x00000093#32 := by decide +kernel

-- R117: signed and unsigned order; `sel` reads its condition from d.
theorem test_compare : r (run (.setLtI32 false 4#7 5#7 6#7) [(5, 0xFFFFFFFF#32), (6, 1#32)]) 0 4 = 1#32 ∧
    r (run (.setLtN32 false 4#7 5#7 6#7) [(5, 0xFFFFFFFF#32), (6, 1#32)]) 0 4 = 0#32 ∧
    r (run (.selB32 false 4#7 5#7 6#7) [(4, 1#32), (5, 7#32), (6, 8#32)]) 0 4 = 7#32 := by decide +kernel

-- R112, R118, R119.
theorem test_immediates : r (run (.addiI32 false 4#7 5#7 0x7FF#11) []) 0 4 = 0xFFFFFFFF#32 ∧ r (run (.andiB32 false 4#7 5#7 0x7FF#11) [(5, 0xFFFFFFFF#32)]) 0 4 = 0x7FF#32 ∧
    r (run (.movi false 4#7 0x3FFFB#18) []) 0 4 = 0xFFFFFFFB#32 ∧ r (run (.movlo false 4#7 1#16) [(4, 0x3F800002#32)]) 0 4 = 0x3F800001#32 ∧
    r (run (.addaI false 4#7 6#7 8#7) [(6, 1#32), (8, 0xFFFFFFFE#32)]) 0 5 = 0xFFFFFFFF#32 := by decide +kernel

-- R121, the worked example: one rounding; no flag.
theorem test_ffma : (let s := run (.ffmaF32 false 4#7 5#7 6#7 0#2) [(4, 0xBF800002#32), (5, 0x3F800001#32), (6, 0x3F800001#32)];
    r s 0 4 = 0x28800000#32 ∧ (s.lane 0).fst = 0#5) := by decide +kernel

-- R51, R53: 1 + 2^−24 by mode; overflow toward zero is max finite.
theorem test_fadd_modes : r (run (.faddF32 false 4#7 5#7 6#7 0#2) [(5, 0x3F800000#32), (6, 0x33800000#32)]) 0 4 = 0x3F800000#32 ∧
    r (run (.faddF32 false 4#7 5#7 6#7 2#2) [(5, 0x3F800000#32), (6, 0x33800000#32)]) 0 4 = 0x3F800001#32 ∧
    r (run (.faddF32 false 4#7 5#7 6#7 1#2) [(5, 0x7F7FFFFF#32), (6, 0x7F7FFFFF#32)]) 0 4 = 0x7F7FFFFF#32 := by decide +kernel

-- R123: 1/0 and √−1 with their flags.
theorem test_fdiv : (let s := run (.fdivF32 false 4#7 5#7 6#7) [(5, 0x3F800000#32)]; r s 0 4 = 0x7F800000#32 ∧ (s.lane 0).fst = 0b01000#5) ∧
    (let s := run (.fsqrtF32 false 4#7 5#7) [(5, 0xBF800000#32)]; r s 0 4 = 0x7FC00000#32 ∧ (s.lane 0).fst = 0b10000#5) := by decide +kernel

-- R124: +0 = −0, and an ordered compare of a NaN is invalid.
theorem test_fset : r (run (.fsetEqF32 false 4#7 5#7 6#7) [(6, 0x80000000#32)]) 0 4 = 1#32 ∧
    ((run (.fsetLtF32 false 4#7 5#7 6#7) [(6, 0x7FC00000#32)]).lane 0).fst = 0b10000#5 := by decide +kernel

-- R56, the worked conversions, with overflow, underflow and inexact.
theorem test_cvt : (let s := run (.cvt false 4#7 5#7 1#4 0#2 2#4) [(5, 0x3F818000#32)]; r s 0 4 = 0x3F82#32 ∧ (s.lane 0).fst = 0b00001#5) ∧
    (let s := run (.cvt false 4#7 5#7 1#4 0#2 5#4) [(5, 0x43EB0000#32)]; r s 0 4 = 0x7E#32 ∧ (s.lane 0).fst = 0b00101#5) ∧
    (let s := run (.cvt false 4#7 5#7 1#4 0#2 8#4) [(5, 0x3E800000#32)]; r s 0 4 = 0#32 ∧ (s.lane 0).fst = 0b00011#5) := by decide +kernel

-- R131, R130: the worked MXFP8 row, 0.25 + 3.5 and its scale.
theorem test_dp4_scl : r (run (.dp4F8e4m3 false 4#7 5#7 6#7) [(4, 0x3E800000#32), (5, 0xBC304038#32), (6, 0x38403044#32)]) 0 4 = 0x40700000#32 ∧
    r (run (.sclF32 false 4#7 4#7 7#7) [(4, 0x40700000#32), (7, 3#32)]) 0 4 = 0x41F00000#32 := by decide +kernel

-- R208, the published first draw.
theorem test_rng : (let s := runLong (.rng false 4#7 8#7 106#7) (gang [[]]);
    r s 0 4 = 0x6627E8D5#32 ∧ r s 0 5 = 0xE169C58D#32 ∧ r s 0 6 = 0xBC57AC4C#32 ∧ r s 0 7 = 0x9B00DBD8#32) := by decide +kernel

-- R41, R120: `srd` of the lane's numbers; `swr fst` clears the bits named.
theorem test_sregs : r (after (.srd false 4#7 6#8) (gang [[], []])) 1 4 = 0#32 ∧ r (after (.srdPos false 4#7) (gang [[], []])) 1 4 = 1#32 ∧
    r (run (.srd false 4#7 7#8) []) 0 4 = 0xFFFFFFFF#32 := by decide +kernel

-- R95, R341, R342: a privileged read in an unprivileged context traps with the word.
theorem test_privileged : (let s := run (.srd false 4#7 0x40#8) []; (s.lane 0).stat = .trapped 0 false ∧
    (s.ctx 0).traps.waiting = [BitVec.ofNat 256 (1 + 2 * 2 ^ 152 + 7 * 2 ^ 192)]) := by decide +kernel

-- R146: sign extension of a byte of the scratchpad; a store's byte order; a misaligned address traps.
theorem test_scratchpad : (let s := (gang [[(5, 8#32)]]).modIssCore (fun x => { x with scratch := [(8, 0x80#8)] });
    r (runLong (.ldC false 4#7 5#7 104#7 1#3) s) 0 4 = 0xFFFFFF80#32 ∧ r (runLong (.ldC false 4#7 5#7 104#7 0#3) s) 0 4 = 0x80#32) ∧
    ((run (.stC false 4#7 5#7 104#7 4#3) [(4, 0x11223344#32), (5, 8#32)]).core 0 0).scratch = [(8, 0x44#8), (9, 0x33#8), (10, 0x22#8), (11, 0x11#8)] ∧
    ((run (.ldC false 4#7 5#7 104#7 4#3) [(5, 6#32)]).lane 0).stat = .trapped 0 false := by decide +kernel

-- R273, R274: a plain global store stays in L1, one with `nt` reaches its home.
theorem test_global_store : (let s := run (.stG false 4#7 6#7 104#7 4#3) [(4, 0xAB#32), (6, 0x100#32)]; s.mem = [] ∧ s.l1Byte 0 0 0x100 = some 0xAB#8) ∧
    (run (.stGNt false 4#7 6#7 104#7 4#3) [(4, 0xAB#32), (6, 0x100#32)]).mem = [(0x100, 0xAB#8)] := by decide +kernel

-- R314, R315: an access outside every range register traps with its address.
theorem test_range_trap : ((run (.ldG false 4#7 6#7 104#7 4#3) [(7, 0x10000#32)]).lane 0).stat = .trapped 0 false := by decide +kernel

-- R154, R155: two lanes add to one word in turn; the second finds what the first left.
theorem test_atom : (let s := runLong (.atomAdd false 4#7 6#7 0#3 0#4) (gang [[(4, 5#32)]]); r s 0 4 = 0#32 ∧ s.mem = [(0, 5#8)]) := by decide +kernel

-- R133, R134, R135: a branch back by three words; the link; a jump to a word that starts no block.
theorem test_branches : ((after (.bnz false 7#7 0x3FFFD#18) { gang [[(7, 1#32)]] with
      threads := [(⟨0, 0, 0, 0⟩, { regs := [(7, 1#32)], pos := ⟨5, false⟩ })], issue := { lanes := [0], pos := ⟨5, false⟩ } }).lane 0).pos = ⟨2, false⟩ ∧
    r (run (.call false 4#7 1#18) []) 0 4 = 1#32 ∧ ((run (.jmpi false 4#7) [(4, 2#32)]).lane 0).stat = .trapped 0 false ∧
    ((run (.jmpi false 4#7) [(4, 1#32)]).lane 0).pos = ⟨1, false⟩ := by decide +kernel

-- R137: the window moves; R136: the thread ends.
theorem test_window_exit : ((run (.win false 51#7) []).lane 0).wb = 408 ∧ (run (.exit false) []).threads = [] := by decide +kernel

-- R141, R142, R144: the handle of the first core group with room for one: number 0, generation 0; leaving dissolves it.
theorem test_groups : (let s := run (.gnew false 4#7 5#7 false) [(5, 1#32)]; r s 0 4 = 0#32 ∧ (s.lane 0).group = 0#32 ∧
    (look (s.core 0 0).groups 0).isSome) ∧ r (run (.gnew false 4#7 5#7 false) []) 0 4 = 0xFFFFFFFD#32 ∧
    ((run (.bar false) []).lane 0).pos = ⟨1, false⟩ := by decide +kernel

-- R166: a pop takes the head of the queue, a peek leaves it; an unbound channel traps.
theorem test_channels : (let s := (gang [[]]).modIssLine (fun x => { x with chans := { bound := true, queue := [.data 7#32, .data 8#32] } :: x.chans.drop 1 });
    r (runLong (.movB32 false 4#7 120#7) s) 0 4 = 7#32 ∧ ((runLong (.movB32 false 4#7 120#7) s).issLine.chans.getD 0 {}).queue = [.data 8#32] ∧
    ((runLong (.movB32 false 4#7 112#7) s).issLine.chans.getD 0 {}).queue = [.data 7#32, .data 8#32]) ∧
    ((run (.movB32 false 4#7 120#7) []).lane 0).stat = .trapped 0 false := by decide +kernel

-- R213, R341: the software trap's record names its number, position and lanes.
theorem test_trap : (let s := after (.trap false 5#7) (gang [[], []]); (s.lane 1).stat = .trapped 0 false ∧
    (s.ctx 0).traps.waiting = [BitVec.ofNat 256 (3 + 5 * 2 ^ 144 + 0x12 * 2 ^ 152)]) := by decide +kernel

-- R178, the worked example: K = 192, chunks in the order 2, 0, 1: the stack after each, and the root.
theorem test_tile : (let t1 := ({} : Tile).addChunk 1 192 2 [1#64] 0#5; let t2 := t1.addChunk 1 192 0 [2#64] 0#5; let t3 := t2.addChunk 1 192 1 [3#64] 0#5;
    t1.entries.map (fun e => (e.level, e.index)) = [(7, 1)] ∧ t2.sorted.map (fun e => (e.level, e.index)) = [(6, 0), (7, 1)] ∧ t3.complete = true) := by
  decide +kernel

-- R36, R61: the tree of the worked slot of R251 to R253: leaves 0, 1, 2, 4, 5 of six as 1, 2, 4, 8, 16: 31.0.
theorem test_tree : (accOf 1).map (fun A => treeRoot .add A 3 [some (0x3F800000, 0#5), some (0x40000000, 0#5), some (0x40800000, 0#5), none, some (0x41000000, 0#5),
    some (0x41800000, 0#5), none, none]) = some (some (0x41F80000, 0#5)) := by decide +kernel

-- R192, R193: `slot.stat` of a free slot is code 0x00, state 0; `slot.wait` on one answers code 0x07.
theorem test_slots : r (runLong (.slotStat false 4#7 5#7) (gang [[]])) 0 4 = 0#32 ∧ r (runLong (.slotWait false 4#7 5#7) (gang [[]])) 0 4 = 0x07000000#32 := by
  decide +kernel

/-! ## Whole steps -/

/-- The state after a step. -/
noncomputable def afterStep (s : State) : State :=
  match step s with
  | .next t => t
  | .fault _ => State.reset
  | .refused _ => State.reset

/-- The word of `addi.i32 v3, v3, -1` runs as the first instruction after placing it. -/
theorem test_step_placed : let t := afterStep (State.reset.withFetchWord 32 0x0A0C1FFF)
    sget 0#32 (t.thread ⟨0, 0, 0, 0⟩).regs 3 = 0xFFFFFFFF#32 ∧ (t.thread ⟨0, 0, 0, 0⟩).pos = ⟨1, false⟩ := by decide +kernel

/-- The zero word takes the illegal-instruction trap (R84). -/
theorem test_step_zero_word : ((afterStep (State.reset.withFetchWord 32 0)).thread ⟨0, 0, 0, 0⟩).stat = .trapped 0 false := by decide +kernel

end Sys2Proof.Tests
end

