-- ==== Sys2Proof/Tests/Witnesses.lean ====
section
/-!
SUPPORT. Witnesses: for each clause of the statements that has hypotheses, a state and operands that meet all of them
together.
-/
set_option Elab.async false

namespace Sys2Proof.Tests
open Sys2Proof Sys2Proof.Machine Sys2Proof.Claim

/-! ## Small states -/

/-- The gang in a context of its own making. -/
def inCtx (f : Ctx → Ctx) (s : State) : State := { s with ctxs := [(0, f ctx0)] }
/-- The gang in a privileged context. -/
def privileged (s : State) : State := inCtx (fun x => { x with set := { x.set with priv := true } }) s
/-- Every thread of a state changed alike. -/
def eachThread (f : Thread → Thread) (s : State) : State := { s with threads := s.threads.map (fun e => (e.1, f e.2)) }

/-- An action that answers answers something. -/
theorem ok_some {ε α : Type} {x : Except ε α} (h : x.toBool = true) : ∃ r, x = .ok r := by
  cases x with
  | ok a => exact ⟨a, rfl⟩
  | error e => simp [Except.toBool] at h
theorem ok_pair {ε α β : Type} {x : Except ε (α × β)} (h : x.toBool = true) : ∃ a b, x = .ok (a, b) := by
  cases x with
  | ok a => exact ⟨a.1, a.2, rfl⟩
  | error e => simp [Except.toBool] at h
theorem opens_ok {s : State} {ia : Nat} {rd wr nt : Bool} (h : (s.openPage s.issue.ctx ia rd wr nt).toBool = true) : Opens s ia rd wr nt := ok_some h
theorem no_drain {s : State} {q : Nat} (h : queueOf s q = []) : NoDrain s q := ⟨by rw [h]; decide, by rw [h]; intros; contradiction⟩
theorem quiet_of {s : State} {c : Nat} (h : NothingWaits s ∧ (∀ x ∈ s.groupsOf c, phaseDone x.g = false) ∧
    s.waits.all (fun w => match w.on with | .slot _ _ => false | _ => true) = true) : Quiet s c :=
  ⟨h.1, h.2.1, fun w hw n e => by have := List.all_eq_true.mp h.2.2 w hw; rw [e] at this; cases this⟩
theorem still_of {s : State} {c : Nat} (h : (NothingWaits s ∧ (∀ x ∈ s.groupsOf c, phaseDone x.g = false) ∧
    s.waits.all (fun w => match w.on with | .slot _ _ => false | _ => true) = true) ∧ s.wbHeld = [] ∧ (s.ctx c).traps.late = [] ∧
    (s.threads.map (·.1)).Nodup ∧ s.agenda = [] ∧ ∀ e ∈ (s.ctx c).slots, e.2.state = .free ∨ e.2.state = .final) : Still s c :=
  ⟨quiet_of h.1, h.2.1, h.2.2.1, h.2.2.2.1, (fun n hn => by rw [h.2.2.2.2.1] at hn; cases hn), h.2.2.2.2.2⟩
theorem all_open {s : State} {c : Nat} {x : L1Line} (h : x.bytes.all (fun b => (s.openPage c (x.ia + b.1) false true).toBool) = true) :
    ∀ b ∈ x.bytes, ∃ r, s.openPage c (x.ia + b.1) false true = .ok r := fun b hb => ok_some (List.all_eq_true.mp h b hb)
theorem leaf_level {t : Trans} {e : DWord} {L : Nat} (h : t.leaves.all (fun x => decide (x.2.2 = e → x.1 = L)) = true) :
    ∀ M p, (M, p, e) ∈ t.leaves → M = L := fun M p hm => by simpa using List.all_eq_true.mp h (M, p, e) hm
theorem some_getD {α : Type} {o : Option α} {d : α} (h : o.isSome = true) : o = some (o.getD d) := by
  cases o with
  | none => cases h
  | some a => rfl
theorem rehome_nil {t : State} {c : Nat} (h : t.pans.isEmpty = true) : t.rehome c = t := by
  have h : t.pans = [] := by simpa using h
  simp [State.rehome, h]
theorem below_root {s : State} {p : Partial} {tp : TreeParms} (h : s.treeParms p = some tp) (g : p.level < tp.k) :
    ∀ t, s.treeParms p = some t → p.level < t.k := fun t e => by
  obtain rfl : tp = t := by simpa using h.symm.trans e
  exact g
theorem no_retake {s : State} (h : s.ctxs.all (fun e => e.2.vcs.all (fun v => v.2.followNext.isNone && v.2.shares.all (fun x => !s.shareLost x)) &&
    decide (e.2.heldShares ≤ e.2.quota)) = true) : NoRetake s := by
  have all := List.all_eq_true.mp h
  intro c
  have one : (s.ctx c).vcs.all (fun v => v.2.followNext.isNone && v.2.shares.all (fun x => !s.shareLost x)) = true ∧ (s.ctx c).heldShares ≤ (s.ctx c).quota := by
    unfold State.ctx
    cases e : look s.ctxs c with
    | none => exact ⟨rfl, Nat.zero_le _⟩
    | some x =>
      have := all _ (Laws.look_mem e)
      simp only [Bool.and_eq_true, decide_eq_true_eq] at this
      exact this
  refine ⟨fun n => ?_, one.2⟩
  unfold State.vcOf
  cases e : look (s.ctx c).vcs n with
  | none => exact ⟨rfl, fun h hh => by cases hh⟩
  | some v =>
    have := List.all_eq_true.mp one.1 _ (Laws.look_mem e)
    simp only [Bool.and_eq_true, List.all_eq_true, Option.isNone_iff_eq_none, Bool.not_eq_true'] at this
    exact this

/-- With no check symbol wrong anywhere, the bytes that are not lost are correct. -/
theorem correct_of {s : State} {l : Nat} {lvl : Lvl} {a n : Nat}
    (h : s.badSyms = [] ∧ ∀ k, k < n → placeAt s l lvl (a + k) ∉ s.badChip) : Correct s l lvl a n := fun k hk =>
  ⟨fun e => e.elim (h.2 k hk) (fun e => e.1 h.1), fun z _ => by simp [State.wrongSyms, h.1]⟩
/-- A lost byte is not correct. -/
theorem incorrect_of {s : State} {l : Nat} {lvl : Lvl} {a n : Nat} (k : Nat) (h : k < n ∧ placeAt s l lvl (a + k) ∈ s.badChip) :
    ¬ Correct s l lvl a n := fun c => (c k h.1).1 (Or.inl h.2)
theorem rows_fit {s : State} {q n more : Nat} (h : s.issLine.tileAway = [] ∧
    (((s.tilesIn s.issue.ctx s.issue.vc q).filter (fun t => !(t.1 == s.issue.line && t.2.1 == 16 * q + n))).map (fun t => t.2.2)).sum +
    max (s.rowsAfter s.issue.ctx s.issue.vc s.issue.line q n) ((s.shapeAfter s.issue.ctx s.issue.vc s.issue.line q n).rows + more) ≤ 32 ∧
    s.badStores = []) : RowsFit s q n more := ⟨h.1, h.2.1, by rw [h.2.2]; intro e h; cases h⟩
theorem none_coming {s : State} {c n : Nat} (h : s.agenda = []) : NoneComing s c n := by
  intro i p e
  rw [h] at e
  cases e

theorem wit_IntegerArithmetic_1 : ∃ i f s, arithTable i = some f ∧ i.wf = true ∧ Sound s ∧ Gang s ∧ Clean s i.ops :=
  ⟨.addI64 false 6#7 2#7 4#7, _, gang [[(2, 0xFFFFFFFF#32), (3, 0xFFFFFFFF#32), (4, 1#32)], [(2, 0xFFFFFFFF#32), (3, 0xFFFFFFFF#32), (4, 1#32)]], rfl, by decide +kernel⟩

theorem wit_LogicShiftsFields_1 : ∃ i f s, logicTable i = some f ∧ i.wf = true ∧ Sound s ∧ Gang s ∧ Clean s i.ops :=
  ⟨.shlB32 true 106#7 2#7 3#7, _, gang [[(2, 1#32), (3, 33#32)], [(2, 1#32), (3, 33#32)]], rfl, by decide +kernel⟩

theorem wit_LogicShiftsFields_2 : ∃ i f s, fieldTable i = some f ∧ i.wf = true ∧ Sound s ∧ Gang s ∧ Clean s i.ops :=
  ⟨.bfeI32 false 1#7 2#7 3#7, _, gang [[(2, 0xF0000000#32), (3, 0x81C#32)], [(2, 0xF0000000#32), (3, 0x81C#32)]], rfl, by decide +kernel⟩

theorem wit_CompareSelectImmediates_1 : ∃ i f s, compareTable i = some f ∧ i.wf = true ∧ Sound s ∧ Gang s ∧ Clean s i.ops :=
  ⟨.selB32 false 1#7 2#7 3#7, _, gang [[(1, 1#32), (2, 7#32), (3, 8#32)], [(1, 1#32), (2, 7#32), (3, 8#32)]], rfl, by decide +kernel⟩

theorem wit_CompareSelectImmediates_2 : ∃ i f s, movesTable i = some f ∧ i.wf = true ∧ Sound s ∧ Gang s ∧ Clean s i.ops :=
  ⟨.movlo false 1#7 1#16, _, gang [[(1, 0x3F800002#32)], [(1, 0x3F800002#32)]], rfl, by decide +kernel⟩

theorem wit_FloatArithmetic_1 : ∃ i f s, roundedTable i = some f ∧ i.wf = true ∧ Sound s ∧ Gang s ∧ Clean s i.ops ∧ NoMismatch s :=
  ⟨.ffmaF32 false 1#7 2#7 3#7 3#2, _, gang [[(1, 0xBF800002#32), (2, 0x3F800001#32), (3, 0x3F800001#32)], []], rfl, by decide +kernel⟩

theorem wit_FloatArithmetic_2 : ∃ i f s, orderTable i = some f ∧ i.wf = true ∧ Sound s ∧ Gang s ∧ Clean s i.ops ∧ NoMismatch s :=
  ⟨.fminF32 false 1#7 2#7 3#7, _, gang [[(2, 0x7FC00000#32), (3, 0x80000000#32)], []], rfl, by decide +kernel⟩

theorem wit_ConversionsAndDots_1 : ∃ i f s, convertTable i = some f ∧ i.wf = true ∧ Sound s ∧ Gang s ∧ Clean s i.ops ∧ NoMismatch s :=
  ⟨.cvt false 1#7 2#7 1#4 0#2 5#4, _, gang [[(2, 0x43EB0000#32)], []], rfl, by decide +kernel⟩

/-- The gang with a word waiting in channel 0. -/
def popper : State := (gang [[(3, 1#32)]]).modIssLine (fun x => { x with chans := { bound := true, queue := [.data 7#32] } :: x.chans.drop 1 })
/-- What the operands of an instruction read in its one lane. -/
theorem goes {s : State} {ops : List OpSpec} (h : (match s.prepare false ops with | .go _ _ _ => true | _ => false) = true) :
    ∃ lanes vals s1, s.prepare false ops = .go lanes vals s1 := by
  revert h
  cases s.prepare false ops with
  | go a b c => exact fun _ => ⟨a, b, c, rfl⟩
  | halt _ => exact fun h => by simp at h

theorem wit_EveryForm : ∀ i ∈ [Instr.addI32 false 1#7 120#7 3#7, .andB32 false 1#7 112#7 3#7, .popcB32 false 1#7 120#7, .setEqB32 false 1#7 120#7 3#7,
    .addiI32 false 1#7 120#7 1#11], ∃ lanes vals s1, i.wf = true ∧ (dstOf i.ops).isSome ∧ popper.prepare false i.ops = .go lanes vals s1 := by
  have h : ∀ i ∈ [Instr.addI32 false 1#7 120#7 3#7, .andB32 false 1#7 112#7 3#7, .popcB32 false 1#7 120#7, .setEqB32 false 1#7 120#7 3#7,
    .addiI32 false 1#7 120#7 1#11], i.wf = true ∧ (dstOf i.ops).isSome ∧ (match popper.prepare false i.ops with | .go _ _ _ => true | _ => false) = true := by decide +kernel
  intro i hi
  obtain ⟨a, b, c⟩ := h i hi
  obtain ⟨l, v, t, e⟩ := goes c
  exact ⟨l, v, t, a, b, e⟩

/-- Words of an unassigned fn, at both ends of a range. -/
theorem wit_Unassigned : (wordMajor 0x0200000B#32).toNat = 1 ∧ (wordFn 0x0200000B#32).toNat = 11 ∧ (wordMajor 0x0200000F#32).toNat = 1 ∧ (wordFn 0x0200000F#32).toNat = 15 ∧
    (wordMajor 0#32).toNat = 0 ∧ (wordFn 0#32).toNat = 0 := by decide +kernel

/-- Every dirty byte of the core can be written back. -/
theorem dirty_ok {s : State} (h : s.issCore.l1.all (fun x => x.bytes.all (fun b => !b.2.2 || (s.checkPage s.issue.ctx (x.ia + b.1) false true).toBool)) = true) :
    ∀ x ∈ s.issCore.l1, ∀ b ∈ x.bytes, b.2.2 = true → ∃ r, s.checkPage s.issue.ctx (x.ia + b.1) false true = .ok r := by
  intro x hx b hb hd
  have := List.all_eq_true.mp (List.all_eq_true.mp h x hx) b hb
  exact ok_some (by simpa [hd] using this)
/-- The gang on a core whose L1 holds a dirty byte. -/
def soiled (rs : List (List (Nat × Word))) : State :=
  (gang rs).modIssCore (fun x => { x with l1 := [{ ia := 0x80, cls := 0, epoch := 0, bytes := [(3, 7#8, true), (4, 8#8, false)] }] })

/-- The gang with square memory of its own from byte 0x1000 on, and with a partition of the market of die 0. -/
def housed (rs : List (List (Nat × Word))) : State :=
  { inCtx (fun x => { x with trans := { x.trans with market := [(0, (0x100, 0x100))] } }) (gang rs) with
    squares := [(0, { allocs := [{ ctx := 0, vc := 0, num := 0, base := 0x1000, len := 0x1000 }] })] }

/-- OnChipLoads and OnChipStores at the other levels: the last word of an allocation, the first of a partition. -/
theorem wit_OnChip_other_levels : (∃ i s lvl ty, loadForm i = some (lvl, false, ty) ∧ lvl = .q ∧ i.wf = true ∧ Sound s ∧ Gang s ∧ Clean s i.ops ∧ Unheld s ∧
      (∀ l ∈ s.issue.lanes, address s l i lvl % width ty = 0 ∧ Within s l lvl (address s l i lvl) (width ty) ∧ Undisturbed s lvl (address s l i lvl) (width ty) false ∧
        Correct s l lvl (address s l i lvl) (width ty))) ∧
    (∃ i s lvl ty, storeForm i = some (lvl, false, ty) ∧ lvl = .m ∧ i.wf = true ∧ Sound s ∧ Gang s ∧ Clean s i.ops ∧ Unheld s ∧
      (∀ l ∈ s.issue.lanes, address s l i lvl % width ty = 0 ∧ Within s l lvl (address s l i lvl) (width ty) ∧ Undisturbed s lvl (address s l i lvl) (width ty) true)) :=
  ⟨⟨.ldQ false 4#7 5#7 104#7 4#3, housed [[(5, 0x1FFC#32)]], .q, 4#3, rfl, rfl, by decide +kernel, by decide +kernel, by decide +kernel, by decide +kernel,
      by decide +kernel, by simp only [Within]; decide +kernel⟩,
    .stM false 4#7 5#7 104#7 4#3, housed [[(5, 0x100#32)]], .m, 4#3, rfl, rfl, by decide +kernel, by decide +kernel, by decide +kernel, by decide +kernel,
      by decide +kernel, fun l h => by
        simp only [show l = 0 from by have : l ∈ [0] := h; simpa using this, Within]
        exact ⟨by decide +kernel, ⟨by decide +kernel, by decide +kernel, 0x100, 0x100, by decide +kernel⟩, by decide +kernel⟩⟩

/-- An aligned access past the end of a level. -/
theorem wit_AccessTraps_bounds : ∃ i s l, i = .ldC false 4#7 5#7 104#7 4#3 ∧ ¬ Within s l .c (address s l i .c) (width 4#3) ∧ Sound s ∧ Gang s ∧ Clean s i.ops ∧ Unheld s ∧
    s.issue.lanes = [l] ∧ address s l i .c % width 4#3 = 0 :=
  ⟨_, gang [[(5, 0x100000#32)]], 0, rfl, by simp only [Within]; decide +kernel, by decide +kernel⟩

/-- UncorrectableLoad at the other levels. -/
theorem wit_UncorrectableLoad_levels : ¬ Correct { gang [[]] with badChip := [⟨.p, (0, 0), 512 + 7⟩] } 1 .p 4 4 ∧
    ¬ Correct { gang [[]] with badChip := [⟨.q, (0, 0), 0x1FFC⟩] } 0 .q 0x1FFC 4 ∧ ¬ Correct { gang [[]] with badChip := [⟨.m, (0, 0), 0x103⟩] } 0 .m 0x100 4 ∧
    Correct { gang [[]] with badChip := [⟨.m, (1, 0), 0x103⟩] } 0 .m 0x100 4 := 
  ⟨incorrect_of 3 (by decide +kernel), incorrect_of 0 (by decide +kernel), incorrect_of 3 (by decide +kernel), correct_of (by decide +kernel)⟩

/-- The gang with a scope record in its L1: a system scope of no core, written whole. -/
def scopeRecord (b : Byte) : State :=
  (gang [[(2, 0x80#32)]]).modIssCore (fun x => { x with l1 := [{ ia := 0x80, cls := 0, epoch := 0, bytes := (List.range 128).map (fun k => (k, if k = 81 then b else if k = 0 then 2#8 else 0#8, true)) }] })
theorem wit_ScopeEntries_record : ∃ s : State, ∃ sp bs, (Sound s ∧ Gang s ∧ Clean s [⟨.src, 2#7, 2⟩] ∧ Unheld s ∧ (s.ctx? s.issue.ctx).isSome ∧
    val s (s.issue.lanes.headD 0) 2#7 2 = 0x80 ∧ Maps s 0x80 128 true false sp ∧ sp.attr ≠ 2 ∧ sp.len = 128 ∧ GlobalFree s sp false ∧ l1Bytes s sp.ia 128 = some bs) ∧
    scopeOk (s.issCtx).n (number bs) :=
  ⟨scopeRecord 2#8, { ia := 0x80, len := 128, attr := 0, va := 0x80 }, (List.range 128).map (fun k => if k = 81 then 2#8 else if k = 0 then 2#8 else 0#8), by decide +kernel,
    by decide +kernel, by decide +kernel, by decide +kernel, by decide +kernel, fun h => absurd h (by decide +kernel)⟩

/-- The two cases of a dictionary pair: an index one past the dictionary, and the last. -/
theorem wit_TrapsByInstruction_pairs : kern.dict.length ≤ (2#10).toNat ∧ (1#10).toNat < kern.dict.length ∧ (0#10).toNat < kern.dict.length := by decide

/-- A group of the two first lanes of line 0 on core 0, of which some have arrived at the barrier. -/
def grouped (members arrived : List Member) (s : State) : State :=
  (eachThread (fun t => { t with group := 0#32 }) s).modIssCore (fun x =>
    { x with groups := [(0, { gen := 0, square := false, base := 0, alloc := 0, cap := 2, launch := none, members := members, arrived := arrived })] })
/-- The gang of the first of two lanes. -/
def first : State := { gang [[(3, 0#32)], []] with issue := { lanes := [0] } }
theorem wit_GroupCreation_cases : ¬ gnewOk 0 1 false ∧ ¬ gnewOk (0x10100001) 1 false ∧ gnewOk 0x10000200 2 false ∧ gnewOk 0x40000400 1 true ∧
    spanFree (gang [[]]) false 0 256 ∧ ¬ spanFree (gang [[]]) false 1 256 ∧ spanFree (gang [[]]) true 0 1024 := by decide +kernel

/-- `join`: a group with room, and one without. -/
theorem wit_JoinAndLeave_named : ((grouped [⟨0, 0, 1⟩] [] first).groupNamed 0 0 0#32 = some ⟨0, 0, { gen := 0, square := false, base := 0, alloc := 0, cap := 2, launch := none, members := [⟨0, 0, 1⟩], arrived := [] }⟩ ∧ Groupless (grouped [⟨0, 0, 1⟩] [] first) ∧
      look ((grouped [⟨0, 0, 1⟩] [] first).core 0 0).groups 0 = some (GroupAt.mk 0 0 { gen := 0, square := false, base := 0, alloc := 0, cap := 2, launch := none, members := [⟨0, 0, 1⟩], arrived := [] }).g) ∧
    ((grouped [⟨0, 0, 1⟩, ⟨0, 0, 5⟩] [] first).groupNamed 0 0 0#32 = some ⟨0, 0, { gen := 0, square := false, base := 0, alloc := 0, cap := 2, launch := none, members := [⟨0, 0, 1⟩, ⟨0, 0, 5⟩], arrived := [] }⟩ ∧ Groupless (grouped [⟨0, 0, 1⟩, ⟨0, 0, 5⟩] [] first)) ∧
    (gang [[]]).groupNamed 0 0 0#32 = none := by decide +kernel

/-- `bar` in a group: the first to arrive, and the last. -/
theorem wit_Barriers_group : (let s := grouped [⟨0, 0, 0⟩, ⟨0, 0, 1⟩] [] first; Gang s ∧ Settled s ∧ s.issLine.drains = [] ∧ s.wbHeld = [] ∧ (s.issCore).step = none ∧
      s.issCore.l1 = [] ∧ s.issue.lanes = [0] ∧ s.groupOf s.issue.ctx (memberAt s 0) = some ⟨0, 0, { gen := 0, square := false, base := 0, alloc := 0, cap := 2, launch := none, members := [⟨0, 0, 0⟩, ⟨0, 0, 1⟩], arrived := [] }⟩ ∧
      ∃ m ∈ [(⟨0, 0, 0⟩ : Member), ⟨0, 0, 1⟩], m ≠ memberAt s 0 ∧ m ∉ ([] : List Member)) ∧
    (let s := grouped [⟨0, 0, 0⟩, ⟨0, 0, 1⟩] [⟨0, 0, 1⟩] first; Gang s ∧ Settled s ∧ s.issLine.drains = [] ∧ s.wbHeld = [] ∧ (s.issCore).step = none ∧
      s.issCore.l1 = [] ∧ s.issue.lanes = [0] ∧ s.groupOf s.issue.ctx (memberAt s 0) = some ⟨0, 0, { gen := 0, square := false, base := 0, alloc := 0, cap := 2, launch := none, members := [⟨0, 0, 0⟩, ⟨0, 0, 1⟩], arrived := [⟨0, 0, 1⟩] }⟩ ∧
      ∀ m ∈ [(⟨0, 0, 0⟩ : Member), ⟨0, 0, 1⟩], m = memberAt s 0 ∨ m ∈ [(⟨0, 0, 1⟩ : Member)]) := by decide +kernel

/-- A descriptor of one tree of six leaves of 32-bit integers, its result at 0x100; with the bits of a number beside. -/
def six (extra : Nat) : BitVec 512 := BitVec.ofNat 512 (5 + 10 * 2 ^ 92 + 0x100 * 2 ^ 128 + extra)
/-- The gang in a context with slot 1 in some state. -/
def slotted (x : Slot) (s : State) : State := inCtx (fun c => { c with slots := [(1, x)] }) s
def openSlot : Slot := { state := .opened, desc := six 0, apex := .gateway 0 }
/-- A partial of slot 1. -/
def part (level index val : Nat) : Partial := { ctx := 0, slot := 1, level := level, index := index, val := BitVec.ofNat 64 val, flags := 0#5 }

/-- The cases of a contribute: the last leaf of the tree, one past it, an unsuitable format, a slot that is not open. -/
theorem wit_Contributes_cases : (let s := slotted openSlot (gang [[(2, 5#32), (5, 1#32)]]); LeafOk s 1 10 5 ∧ ¬ LeafOk s 1 10 6 ∧ slotCause (slotAt s 1) 10 false false = 0 ∧
      slotCause (slotAt s 1) 1 false false = 2 ∧ slotCause (slotAt s 1) 10 true false = 3 ∧ slotCause (slotAt s 0) 10 false false = 1 ∧
      slotCause (slotAt s 1) 10 false true = 0 ∧ (descParms (slotAt s 1).desc).isSome ∧ rootOf (slotAt s 1).desc = 3 ∧ sdTrees (slotAt s 1).desc = 1 ∧ sdExt (slotAt s 1).desc = 6) ∧
    (let s := slotted { openSlot with desc := six (2 ^ 96) } (gang [[(2, 0x100#32), (5, 0x01000005#32)]]); slotCause (slotAt s 1) 10 true false = 0 ∧
      (descParms (slotAt s 1).desc).isSome ∧ Maps s 0x100 4 false true { ia := 0x100, len := 4, attr := 0, va := 0x100 } ∧
      GlobalFree s { ia := 0x100, len := 4, attr := 0, va := 0x100 } true ∧ OneLine 0x100 4 ∧ (s.checkPage 0 0x100 false true).toBool = true) := by decide +kernel

/-- A pan with nobody for a partial, with its sibling under the root, and with its own label. -/
theorem wit_PartialsMeet_cases : (let s := slotted openSlot (gang [[]]); Alone s (.gateway 0) (part 0 4 7) ∧
      beyond { op := .add, acc := .int true 32, fmt := 10, n := 6, k := 3, trees := 1 } 0 5 = false ∧ (s.pan (.gateway 0)).length < s.panCapacity (.gateway 0)) ∧
    (let s : State := { slotted openSlot (gang [[]]) with pans := [(.gateway 0, [part 2 1 9])] }; part 2 1 9 ∈ s.pan (.gateway 0) ∧
      (∀ r ∈ s.pan (.gateway 0), sameLabel (part 2 0 7) r = false ∧ (siblings (part 2 0 7) r = true → r = part 2 1 9)) ∧
      siblings (part 2 0 7) (part 2 1 9) = true ∧ (∀ r ∈ s.pan (.gateway 0), r.level ≠ 3 ∨ sameTree r (part 2 0 7) = false) ∧
      sameLabel (part 2 1 7) (part 2 1 9) = true ∧ (s.ctx? 0).isSome ∧ (PanId.gateway 0, part 2 1 9) ∉ s.badPans) ∧
    (let s : State := { slotted openSlot (gang [[]]) with pans := [(.gateway 0, [part 2 1 9])], badPans := [(.gateway 0, part 2 1 9)] };
      part 2 1 9 ∈ s.pan (.gateway 0) ∧ siblings (part 2 0 7) (part 2 1 9) = true ∧ (PanId.gateway 0, part 2 1 9) ∈ s.badPans ∧ (s.ctx? 0).isSome) := by decide +kernel

/-- `slot.open` of a slot in use, at a wrong address, and of a good descriptor. -/
theorem wit_SlotInstructions_open : (slotAt (slotted openSlot (gang [[]])) 1).state ≠ .free ∧ (slotAt (gang [[]]) 1).state = .free ∧ 0x41 % 64 ≠ 0 ∧
    (let s := (gang [[(2, 0x40#32), (5, 1#32)]]).modIssCore (fun x => { x with l1 := [{ ia := 0, cls := 0, epoch := 0, bytes := (List.range 64).map (fun k => (64 + k, byteOf (six 0).toNat k, false)) }] });
      Maps s 0x40 64 true false { ia := 0x40, len := 64, attr := 0, va := 0x40 } ∧ GlobalFree s { ia := 0x40, len := 64, attr := 0, va := 0x40 } false ∧
      l1Bytes s 0x40 64 = some ((List.range 64).map (byteOf (six 0).toNat)) ∧ Unheld s ∧ (s.ctx? s.issue.ctx).isSome ∧
      BitVec.ofNat 512 (number ((List.range 64).map (byteOf (six 0).toNat))) = six 0 ∧
      sdRefused (six 0) = false ∧ sdBrsz (six 0) = 0 ∧ (s.mapVa 0 (sdDest (six 0)) (sdTrees (six 0) * accBytes (sdFmt (six 0))) false true).isSome) := by decide +kernel
/-- `slot.close` and `slot.wait` of slots of each state. -/
theorem wit_SlotInstructions_states : (slotAt (slotted openSlot (gang [[]])) 1).state = .opened ∧ (slotAt (slotted openSlot (gang [[]])) 0).state ≠ .opened ∧
    sdMode (six 0) = false ∧ (slotAt (slotted { openSlot with state := .closing } (gang [[]])) 1).state = .closing ∧ 0 < (slotted openSlot (gang [[]])).issCtx.n ∧
    (slotAt (slotted { openSlot with state := .final, code := 3 } (gang [[]])) 1).tainted = false := by decide +kernel

/-- Reservations of 16 × 64 elements: 8-bit integers for A and for B, and scaled 8-bit floats. -/
def recA : BitVec 256 := BitVec.ofNat 256 (14 * 2 ^ 7 + 8 * 2 ^ 13 + 63 * 2 ^ 128)
def recB : BitVec 256 := BitVec.ofNat 256 (14 * 2 ^ 7 + 8 * 2 ^ 13 + 2 ^ 31 + 0x1000 * 2 ^ 64 + 63 * 2 ^ 128)
def recS : BitVec 256 := BitVec.ofNat 256 (5 * 2 ^ 7 + 3 * 2 ^ 11 + 3 * 2 ^ 13 + 0x2000 * 2 ^ 64 + 0x8000 * 2 ^ 96 + 63 * 2 ^ 128)
/-- A gang in group 0 on a core with these reservations. -/
def reserved (rs : List (List (Nat × Word))) : State :=
  (eachThread (fun t => { t with group := 0#32 }) (gang rs)).modIssCore (fun x =>
    { x with oprs := [(0, { recd := recA, group := 0#32 }), (1, { recd := recB, group := 0#32 }), (2, { recd := recS, group := 0#32 })] })
/-- The gang's line with a complete tile 0 of integers. -/
def tiled (s : State) : State :=
  s.modIssLine (fun x => { x with tiles := [(0, { cls := 3, k := 64, complete := true, entries := [{ level := 6, index := 0, cells := List.replicate 256 1#64 }] })] })

/-- `opr.def`: a good record, and each cause. -/
theorem wit_Reservations_def : (let s := (eachThread (fun t => { t with group := 0#32 }) (gang [[]])).modIssCore (fun x => { x with scratch := [(1, 7#8), (2, 1#8), (16, 63#8)] })
      recordAt s 0 = recA ∧ rsInvalid (recordAt s 0) = false ∧ rsMisplaced [] (recordAt s 0) = false ∧ oprAt s 0 = none ∧ rsInvalid (recordAt s 32) = true ∧
      s.boardWaits 0 0 .c [(0, 31)] false = false) ∧ rsMisplaced [recA] recA = true ∧ rsMisplaced [recA, recB] recS = false ∧ rsInvalid recS = false ∧ rsInvalid recB = false := by decide +kernel
/-- `opr.rel`: of the own group, of another, and while a pass names it. -/
theorem wit_Reservations_rel : (reserved [[]]).issCore.engines.any (fun e => e.2.any (fun p => p.names 1)) = false ∧
    oprAt (reserved [[]]) 1 = some { recd := recB, group := 0#32 } ∧
    (((reserved [[]]).setQueue 0 0 0 [.mma 0 0 0 1 recA recB 0#32 0 true 0 [0] ⟨0, false⟩]).issCore.engines.any (fun e => e.2.any (fun p => p.names 1)) = true) := by decide +kernel

/-- `drain`: a plan for a complete tile, and none for one that is not. -/
theorem wit_Drains_plan : ((tiled (gang [[]])).drainPlan 0 [0] 0 1 0 0x100 0).toBool = true ∧ ((gang [[]]).drainPlan 0 [0] 0 1 0 0x100 0).toBool = false ∧
    ((gang [[]]).issLine.tile 0 0).complete = false := by decide +kernel

/-- The gang's core with bytes of a number in its L1, from an address on that is a multiple of 128. -/
def recorded (va lines x : Nat) (s : State) : State :=
  s.modIssCore (fun c => { c with l1 := (List.range lines).map (fun k => { ia := va + 128 * k, cls := 0, epoch := 0, bytes := (List.range 128).map (fun j => (j, byteOf x (128 * k + j), false)) }) })
/-- A chain of four elements, input + 1 in binary32, in the scratchpad; and a copy of four words there. -/
def chainRec : Nat := 3 + 2 ^ 36 + 2 ^ 42 + 0x100 * 2 ^ 64 + 0x200 * 2 ^ 256 + 4 * 2 ^ 320 + 4 * 2 ^ 416 + 2 ^ 448 + 2 ^ 460 + 3 * 2 ^ 464 + 3 * 2 ^ 470 + 1344 * 2 ^ 512 + 0x3F800000 * 2 ^ 640
def copyRec : Nat := 0x100 + 0x200 * 2 ^ 64 + 3 * 2 ^ 128 + 3 * 2 ^ 130 + 2 * 2 ^ 192 + 3 * 2 ^ 512 + 4 * 2 ^ 544 + 4 * 2 ^ 592
def bytesN (n x : Nat) : List Byte := (List.range n).map (byteOf x)
/-- A job of the context. -/
def job (k : JobKind) : Job := { gen := 0, eng := .copy, kind := k, vc := 0, square := 0, total := 4 }
def withJob (j : Job) (s : State) : State := inCtx (fun c => { c with jobs := [(0, j)] }) s

/-- Records of jobs that are admitted. -/
theorem wit_JobAdmission_record : (let s := recorded 0x80 1 chainRec (gang [[(2, 0x80#32)]]); Record s 0x80 128 (bytesN 128 chainRec)) ∧
    (let s := recorded 0x80 4 copyRec (gang [[(2, 0x80#32)]]); Record s 0x80 512 (bytesN 512 copyRec)) :=
  ⟨⟨by decide +kernel, { ia := 0x80, len := 128, attr := 0, va := 0x80 }, by decide +kernel⟩, ⟨by decide +kernel, { ia := 0x80, len := 512, attr := 0, va := 0x80 }, by decide +kernel⟩⟩
theorem wit_JobAdmission_plan : (chainPlan (gang [[]]) (bytesN 128 chainRec)).toBool = true ∧ (chainPlan (gang [[]]) (bytesN 128 (chainRec + 2 ^ 35))).toBool = false ∧
    (match chainPlan (gang [[]]) (bytesN 128 chainRec) with
      | .ok p => p.regions.length == 2 && p.regions.all (fun x => (gang [[]]).regionTrap 0 0 x == none) && !(gang [[]]).drainsIn 0 0 0 [0] (p.regions.map ((gang [[]]).intervalOf 0 0))
      | .error _ => false) = true := by decide +kernel
theorem wit_JobAdmission_copy : (match cpyPlan (gang [[]]) (bytesN 512 copyRec) with
      | .ok p => p.regions.all (fun x => (gang [[]]).regionTrap 0 0 x == none)
      | .error _ => false) = true := by decide +kernel

/-- The elements of those jobs lie in the scratchpad. -/
theorem wit_JobElements_places : OnChip (gang [[]]) (shSlev (BitVec.ofNat 4096 copyRec)) 0x10C 4 ∧ OnChip (gang [[]]) (chLvl (BitVec.ofNat 1024 chainRec) 3) 0x200 4 ∧
    (shSrcAt (BitVec.ofNat 4096 copyRec) 3).toNat = 0x10C ∧ (chAt (BitVec.ofNat 1024 chainRec) 3 0).toNat = 0x200 := by
  refine ⟨⟨by decide +kernel, by decide +kernel, fun h => absurd h (by decide +kernel)⟩, ⟨by decide +kernel, by decide +kernel, fun h => absurd h (by decide +kernel)⟩, by decide +kernel, by decide +kernel⟩

/-- `cpyw`: a job in flight, a retired one, and a stale handle. -/
theorem wit_JobsEndAndWait_handles : (withJob (job (.copy (BitVec.ofNat 4096 copyRec))) (gang [[]])).jobOf 0 0#32 = some (0, job (.copy (BitVec.ofNat 4096 copyRec))) ∧ (withJob (job (.copy (BitVec.ofNat 4096 copyRec))) (gang [[]])).jobOf 0 1#32 = none ∧
    (withJob { job (.copy (BitVec.ofNat 4096 copyRec)) with retired := true } (gang [[]])).jobOf 0 0#32 = some (0, { job (.copy (BitVec.ofNat 4096 copyRec)) with retired := true }) := by decide +kernel

/-- `rng.reg`: a good record, one without counters, one past the end of the counter. -/
theorem wit_RandomStreams_records : (let x := number (bytesN 32 (7 + 5 * 2 ^ 64 + (2 ^ 64 - 1) * 2 ^ 192)); ¬ (x / 2 ^ 192 % 2 ^ 64 = 0 ∨ 2 ^ 128 < x / 2 ^ 64 % 2 ^ 128 + x / 2 ^ 192 % 2 ^ 64)) ∧
    (let x := number (bytesN 32 (7 + 5 * 2 ^ 64)); x / 2 ^ 192 % 2 ^ 64 = 0) ∧
    (let x := number (bytesN 32 (7 + (2 ^ 128 - 1) * 2 ^ 64 + 2 * 2 ^ 192)); 2 ^ 128 < x / 2 ^ 64 % 2 ^ 128 + x / 2 ^ 192 % 2 ^ 64) := by decide +kernel

/-- The record of `ckcut` in L1. -/
theorem wit_CheckpointCuts_1_record : Record (recorded 0x80 1 (4 + 2 ^ 32 + 0x100000 * 2 ^ 64) (gang [[(2, 0x80#32)]])) 0x80 64 (bytesN 64 (4 + 2 ^ 32 + 0x100000 * 2 ^ 64)) :=
  ⟨by decide +kernel, { ia := 0x80, len := 64, attr := 0, va := 0x80 }, by decide +kernel⟩
/-- `ckcut`: a good record; a target inside the covered range; a context with and without the permission. -/
theorem wit_CheckpointCuts_records : cutRefused (gang [[]]).issCtx.trans.ranges (BitVec.ofNat 512 (4 + 2 ^ 32 + 0x100000 * 2 ^ 64)) = false ∧ cutRefused (gang [[]]).issCtx.trans.ranges 0 = true ∧
    cutTargetBad (gang [[]]).issCtx.trans.ranges (BitVec.ofNat 512 (4 + 2 ^ 32 + 0x100000 * 2 ^ 64)) = true ∧ cutTargetBad (gang [[]]).issCtx.trans.ranges (BitVec.ofNat 512 (2 ^ 32)) = false ∧
    (gang [[]]).issCtx.set.ckperm = false ∧ (gang [[]]).activeCut 0 = none := by decide +kernel
/-- A context with a cut under way. -/
def cutting (j : Job) : State := inCtx (fun c => { c with jobs := [(0, j)], ckpt := { cut := some 0, map := [3] } }) (gang [[]])

/-- A watchpoint of the context, and a stop of its square that one hit made. -/
def watched : State :=
  (privileged (gang [[(5, 1#32)]])).modSquare 0 (fun q => { q with watches := [(1, { ctx := 0, kind := 0, lev := 3, len := 2, addr := 8, shown := 8 })]
                                                                   stops := [{ ctx := 0, hits := [1], anyHit := true, brk := false }] })
/-- `wpclr` of a watchpoint of which the stop's only hit was; `wpset` of a scratchpad address, refused one byte on. -/
theorem wit_Watchpoints_cases : (look (watched.square 0).watches 1).isSome ∧ (∀ e ∈ watched.cores, e.2.step = none) ∧
    (∃ d ∈ (watched.square 0).stops, d.ctx = 0 ∧ d.anyHit = true ∧ ∀ h ∈ d.hits, h = 1) ∧ watched.squarePresent 0 = true ∧ (watched.ctx? 0).isSome ∧
    0x100 % 2 ^ (0x8C / 2 ^ 4 % 4) = 0 ∧ 0x9C / 2 ^ 8 % 2 ^ 8 = 0 ∧ 0x101 % 2 ^ (0x9C / 2 ^ 4 % 4) ≠ 0 := by decide +kernel

/-- `step` of a line on a core that the square's stop holds. -/
theorem wit_StepStarts_stopped : (let s := { watched with cores := [(⟨0, 0⟩, {}), (⟨0, 1⟩, { run := .debugStopped 0 })], lines := [(⟨0, 0, 0⟩, { slices := 1 }), (⟨0, 1, 2⟩, { slices := 1 })], threads := [(⟨0, 0, 0, 0⟩, {}), (⟨0, 1, 2, 0⟩, {})] };
    ¬ (0x10801 / 2 ^ 14 % 4 ≠ 0 ∨ 0x10801 / 2 ^ 16 = 0 ∨ s.corePresent 1 = false) ∧ (s.square 0).stops ≠ [] ∧ s.squareStepped 0 = false ∧ s.stoppedLine 1 2 = some (0, 1)) ∧
    (privileged (gang [[]])).stepping = false := by decide +kernel

/-- `flt.replay`: a die that holds a fault of the context. -/
theorem wit_FaultReplay_held : (let n : FaultNote := { ctx := 0, vc := 0, line := 0, die := 0, src := 0, cause := 1, kind := 0, vcache := 0, lvl := 0, ia := 0, va := 0, lanes := [0], job := none };
    let s := (privileged (gang [[]])).modDie 0 (fun d => { d with heldFaults := [n] });
    0x400 = 0 + 2 ^ (10 + 0) ∧ (s.ctx? 0).isSome ∧ (s.die 0).heldFaults.filter (fun n => n.ctx == 0) = [n] ∧ n.die = 0 ∧ (s.die 0).faults.length < 256) := by decide +kernel

/-- `scan` op 0 on a core that holds a virtual core, and on one that does not. -/
theorem wit_ScanStarts_ready : (let s := privileged (gang [[]]); s.scanReady 0 1 = true ∧ s.scanReady 0 2 = false ∧ s.scanReady 2 1 = false ∧ (s.mapVa 0 0x1000 0x400000 false true).isSome ∧
    s.mapVa 0 0x20000000000 0x400000 false true = none ∧ look s.issCtx.jobs 0 = none ∧ s.holder 1 = some (0, 1)) := by decide +kernel

/-- A device with session 0 and a session of context 0, which has a window. -/
def hosted : State :=
  { gang [[]] with hub := { sessions := [(0, { ctx := 0, key := 0 }), (1, { ctx := 0, key := 0 })], windows := [(0, ⟨1, 0, 0x100, 0x100, true, true⟩)] } }
/-- A frame of a session with sequence number 1, nothing acknowledged and no payload, under the tag of key 0. -/
def hdrOf (sess ty : Nat) : Hdr := { sess := sess, seq := 1, tag := BitVec.ofNat 128 (lctTag 0 (lctHead ty sess 1 0 0 0) []) }
/-- The same, as a management frame of session 0. -/
def hdr0 : Hdr := hdrOf 0 0x30
theorem taken_of {s : State} {h : Hdr} {x : Session} (r : h.sess = 0 ∧ s.hub.paused = 0#8 ∧ s.hub.power = .up ∧ s.lctOk h = true) (e : look s.hub.sessions h.sess = some x)
    (t : x.tagHolds h 0x30 = true) (q : h.seq = x.expect ∧ x.unacked.length < 256 ∧ x.owed = [] ∧ (h.ack = 0 ∨ x.unacked = [])) : Taken s h :=
  ⟨r.1, r.2.1, x, r.2.2.1, r.2.2.2, e, t, q⟩
theorem hdr0_tag : ({ ctx := 0, key := 0 } : Session).tagHolds hdr0 0x30 = true := by decide +kernel
/-- The premise of the management operations. -/
theorem hosted_taken : Taken hosted hdr0 := taken_of (by decide +kernel) rfl hdr0_tag (by decide +kernel)
theorem hosted_writes : TakenOn hosted (hdrOf 1 0x20) 0x20 := ⟨rfl, { ctx := 0, key := 0 }, by decide +kernel⟩
theorem hosted_reads : TakenOn hosted (hdrOf 1 0x21) 0x21 := ⟨rfl, { ctx := 0, key := 0 }, by decide +kernel⟩

/-- Operations on contexts, queues, windows, sessions, translation and settings all have one premise, which hosted_taken meets; and
the cases that they tell apart: names in use and free. -/
theorem wit_management_cases : hosted.ctx? 5 = none ∧ (hosted.ctx? 0).isSome ∧ look hosted.queues 7 = none ∧ (∀ e ∈ hosted.launches, e.2.queue = 7 → e.2.state = .done) ∧
    (∃ e ∈ hosted.launches, e.2.queue = 0 ∧ e.2.state ≠ .done) ∧ (look hosted.hub.windows 0).isSome ∧ look hosted.hub.windows 1 = none ∧
    (look hosted.hub.sessions 1).isSome ∧ look hosted.hub.sessions 255 = none ∧ hosted.activeCut 0 = none ∧ (hosted.launches.map (·.1)).Nodup ∧
    rrRefused hosted.issCtx.trans.ranges 15 (rr (2 ^ 41) (2 ^ 41 + 4095) 0 0) = false ∧ rrRefused hosted.issCtx.trans.ranges 15 (rr 0 4095 0 0) = true ∧
    hosted.pageRefused 0 3 (2 ^ 42) 0x8000000000000000#64 = false ∧ hosted.issCtx.trans.entryAt 3 (2 ^ 42) = some 8 ∧ hosted.issCtx.trans.entryAt 2 (2 ^ 42) = none ∧
    fabricRefused 0 = false ∧ (look hosted.kernels 1).isSome ∧ look hosted.kernels 2 = none := by decide +kernel
/-- A destruction while no launch is under way; a creation for which shares are free. -/
theorem wit_ContextsAndQueues_cases : (let s : State := { hosted with launches := [] }; ∀ e ∈ s.launches, e.2.ctx = 0 → e.2.state = .done) ∧
    ¬ ((hosted.ctx? 1023).isSome ∨ 1024 ≤ 1023 ∨ 640 = 0 ∨ hosted.coresPresent < 640 ∨ hosted.vcRefused (BitVec.ofNat 512 (1 + 2 * 2 ^ 64 + 2 ^ 102)) .undefined = true) ∧
    ((hosted.newContext 1023 640 4 false 0).grantShares 1023 (BitVec.ofNat 512 (1 + 2 * 2 ^ 64 + 2 ^ 102)) 0 2).isSome ∧
    (hosted.newContext 1023 640 1 false 0).grantShares 1023 (BitVec.ofNat 512 (1 + 2 * 2 ^ 64 + 2 ^ 102)) 0 2 = none := by decide +kernel
/-- Market allotments: a good one, one that meets another context's, one past the end. -/
theorem wit_TranslationManagement_market : hosted.diePresent 0 = true ∧ 0x10000 % 65536 = 0 ∧ 0x10000 + 0x1FF0000 ≤ 2 ^ 25 ∧ ¬ (0x10000 + 0x2000000 ≤ 2 ^ 25) ∧
    ((look hosted.issCtx.trans.market 0).getD (0, 0)).2 = 0 ∧ hosted.issCtx.vcs.all (fun v => v.2.state == .stable) = true ∧ (hosted.issCtx.vcs.map (·.1)).Nodup ∧
    hosted.issCtx.heldShares ≤ 4 := by decide +kernel

/-- A full fault buffer, and a record that is answered. -/
theorem wit_FaultsAndTrapsAnswered_buffer : (let s := hosted.modDie 0 (fun d => { d with faults := List.replicate 256 { fid := 7, note := { ctx := 0, vc := 0, line := 0, die := 0, src := 0, cause := 1, kind := 0, vcache := 0, lvl := 0, ia := 0, va := 0, lanes := [0], job := none } } }); 256 ≤ (s.die 0).faults.length) ∧
    (let s := hosted.modDie 0 (fun d => { d with faults := [{ fid := 7, note := { ctx := 0, vc := 0, line := 0, die := 0, src := 0, cause := 1, kind := 0, vcache := 0, lvl := 0, ia := 0, va := 0, lanes := [0], job := none }, stale := true }] }); (s.die 0).faults.filter (fun x => x.fid == 7) = [{ fid := 7, note := { ctx := 0, vc := 0, line := 0, die := 0, src := 0, cause := 1, kind := 0, vcache := 0, lvl := 0, ia := 0, va := 0, lanes := [0], job := none }, stale := true }]) ∧
    (∀ r ∈ (hosted.die 0).faults, r.fid ≠ 7) := by decide +kernel

/-- The device with queue 7 bound to context 0, and one launch in it in some state. -/
def queued (l : Launch) : State :=
  { hosted with queues := [(7, { ctx := 0, cls := 0, items := [0] })], launches := [(0, l)], threads := [], lines := [] }
def launch0 : Launch := { queue := 7, seq := 1, ctx := 0, recd := oneThreadRecord }

/-- A LAUNCH frame: to a queue that is not bound, to one of its session's context, with a record that breaks a rule. -/
theorem wit_Launches_cases : look (queued launch0).queues 8 = none ∧ look (queued launch0).queues 7 = some { ctx := 0, cls := 0, items := [0] } ∧
    MayUse (queued launch0) (hdrOf 1 0x10) { ctx := 0, cls := 0, items := [0] } ∧ (queued launch0).recordCodeOf 0 oneThreadRecord = 0 ∧ lrEdges oneThreadRecord = [] ∧
    (queued launch0).recordCodeOf 0 0 ≠ 0 ∧ (queued { launch0 with edges := [0] }).producer { launch0 with edges := [0] } 0 = none :=
  ⟨by decide +kernel, by decide +kernel, Or.inr (by decide +kernel), by decide +kernel, by decide +kernel, by decide +kernel, by decide +kernel⟩

/-- A launch whose delay has passed is offered. -/
theorem wit_Starting_4 : (queued launch0).offerOf 7 = some 0 ∧ look (queued launch0).launches 0 = some launch0 ∧ ((queued launch0).ctxs.map (·.1)).Nodup := by decide +kernel
/-- A ninth gang that waits for the active set of eight; and no gang. -/
theorem wit_GangSets : (let s : State := { gang [[]] with threads := (List.range 9).map (fun k => (⟨0, 0, k, 0⟩, {})), lines := (List.range 9).map (fun k => (⟨0, 0, k⟩, { slices := 1 })), cores := [(⟨0, 0⟩, { gangs := (List.range 8).map (fun k => { line := k, slices := [0], active := true, since := 0 }) })] };
    (earliestPending (s.coreGangs 0 0) (s.gangSets 0 0 (s.coreGangs 0 0))).isSome) ∧
    earliestPending (State.reset.coreGangs 0 0) (State.reset.gangSets 0 0 (State.reset.coreGangs 0 0)) = none := by decide +kernel

/-- The page of that address is neither pinned nor throttled. -/
theorem wit_MigrationInvisible_free : (let s := inCtx (fun x => { x with trans := { x.trans with pages := [(0, 0x8000000000010000#64), (0x10000, 0x8000000000020000#64), (0x20000, 0x8000000000030000#64), (0x30000, 0xA380000000000000#64)] } }) (gang [[]]); s.pagePinned 0 0 (pageSize 0) = false ∧ 0 ∉ (s.ctx 0).trans.throttled) := by decide +kernel

/-- Ports that are there and that are not; bank groups with one failed bank, a rebuild, the spare used. -/
theorem wit_PortsBanksClocks_ports : 31 ∉ State.reset.hub.ras.absentPorts ∧ (∀ e ∈ State.reset.ctxs, ∀ j ∈ e.2.jobs, j.2.retired = true) := by decide +kernel

/-- A step that issues a word. -/
theorem issues {s : State} {p : Word → Prop} [DecidablePred p] (h : (match s.choose with | .issue w _ => decide (p w) | _ => false) = true) :
    ∃ w s1, s.choose = .issue w s1 ∧ p w := by
  revert h
  cases s.choose with
  | issue w s1 => exact fun h => ⟨w, s1, rfl, by simpa using h⟩
  | idle | event _ _ => exact fun h => by simp at h
/-- An instruction answers a next state. -/
theorem nexts {i : Instr} {s : State} (h : (match exec i s with | .next _ => true | _ => false) = true) : ∃ t, exec i s = .next t := by
  revert h
  cases exec i s with
  | next t => exact fun _ => ⟨t, rfl⟩
  | fault _ | refused _ => exact fun h => by simp at h

theorem wit_StepKeepsSound : ∃ s t : State, Sound s ∧ step s = .next t := ⟨State.reset, _, by decide +kernel, rfl⟩

/-- What the operations of management tell apart in the device above: each case in which one is done. -/
theorem wit_ManagementCompletes_cases : hosted.ctx? 5 = none ∧ (1 ≤ hosted.coresPresent ∧ hosted.vcRefused (BitVec.ofNat 512 (1 + 2 * 2 ^ 64 + 2 ^ 102)) .undefined = false) ∧
    ((hosted.newContext 5 1 4 false 0).grantShares 5 (BitVec.ofNat 512 (1 + 2 * 2 ^ 64 + 2 ^ 102)) 0 (vcShares (BitVec.ofNat 512 (1 + 2 * 2 ^ 64 + 2 ^ 102)))).isSome ∧
    (hosted.issCtx.trans.entryAt 3 0 = some 0 ∧ look hosted.issCtx.trans.pages 0 = some 0xA300000000000000#64) ∧
    hosted.pageRefused 0 3 (2 ^ 42) 0x8000000000000000#64 = false ∧ (look hosted.queues 7 = none ∧ (look (queued launch0).queues 7).isSome) := by decide +kernel
theorem wit_ManagementCompletes_more : 5 ∉ hosted.hub.fabric.groupIds ∧ (match hosted.hub.sessions with | [_, e] => e.2.ctx == 0 | _ => false) = true ∧
    (look hosted.issCtx.trans.market 0 = none ∧ hosted.diePresent 0 = true) ∧ (hosted.trappedLanes 0 0 = [] ∧
      (eachThread (fun t => { t with stat := .trapped 0 false }) hosted).trappedLanes 0 0 = [(⟨0, 0, 0, 0⟩, false)]) ∧ hosted.ownDevice ≠ hosted.ownDevice + 1 := by decide +kernel

/-- The target takes the pieces of the first granule of that cut, which is still to be copied. -/
theorem wit_CheckpointCuts_pieces : (let s := { cutting ({ job (.cut (BitVec.ofNat 512 (4 + 2 ^ 32 + 0x100000 * 2 ^ 64)) [(3, 3), (4, 4)] [(3, 3), (4, 4)]) with ranges := [(0, rr 0 (2 ^ 40 - 1) 0 0)] }) with threads := (gang [[(4, 0xAB#32), (6, 0xC07C#32)]]).threads }; let j := { job (.cut (BitVec.ofNat 512 (4 + 2 ^ 32 + 0x100000 * 2 ^ 64)) [(3, 3), (4, 4)] [(3, 3), (4, 4)]) with ranges := [(0, rr 0 (2 ^ 40 - 1) 0 0)] }; let r := BitVec.ofNat 512 (4 + 2 ^ 32 + 0x100000 * 2 ^ 64)
    Pieces s 0 j r 0 (fun q => 0x100000 + 4096 * q) ∧ s.activeCut 0 = some (0, j) ∧ cutKind r = 0 ∧ (∀ e ∈ [(3, 3), (4, 4)], s.sameGranule 0 3 e.2 = true → e.2 = 3) ∧
      s.granuleBad 0 3 = false ∧ 4 ≤ cutSize r ∧
      ∀ q, q < 4 → 0x100000 + 4096 * q + 2 ^ 12 ≤ s.paOf 0 (3 * 2 ^ 14) ∨ s.paOf 0 (3 * 2 ^ 14) + 2 ^ 14 ≤ 0x100000 + 4096 * q) := by
  refine ⟨⟨by decide +kernel, fun q hq => ?_, fun q p hq hp h => ?_⟩, by decide +kernel⟩
  · exact ⟨0x100000 + 4096 * q, by revert hq; revert q; decide +kernel⟩
  · dsimp only; omega

/-- Accesses of a session that its window does not allow, and the premises of the clauses on refused and waiting accesses. -/
theorem wit_HostPort_refused : TakenOn hosted (hdrOf 1 0x21) 0x21 ∧ TakenOn hosted (hdrOf 1 0x20) 0x20 ∧ hosted.hostGo (hdrOf 1 0x21) 3 0 2 false = .status 1 ∧
    hosted.hostGo (hdrOf 1 0x20) 0 0xFF 2 true = .status 1 ∧
    (let s := inCtx (fun c => { c with vcs := [(0, { state := .releasing })] }) hosted; s.hostGo (hdrOf 1 0x21) 0 0 2 false = .wait ∧ s.hostGo (hdrOf 1 0x20) 0 0 2 true = .wait) :=
  ⟨hosted_reads, hosted_writes, by decide +kernel, by decide +kernel, by decide +kernel⟩
/-- The device with two frames of session 1 unacknowledged, the first an event's. -/
def sentTwo : State := { hosted with hub := { hosted.hub with sessions := [(0, { ctx := 0, key := 0, next := 3, unacked := [(1, .mgmt 3 0 []), (2, .mgmt 4 0 [])] })] } }
def ackHdr (ty : Nat) : Hdr := { sess := 0, seq := 1, ack := 1, tag := BitVec.ofNat 128 (lctTag 0 (lctHead ty 0 1 1 0 0) []) }

/-- A lane with accesses held behind a fault, of which a record stands in the buffer of die 0. -/
def faulted (st : Stat) (h : List Held) : State :=
  (eachThread (fun t => { t with stat := st, held := h }) hosted).modDie 0 (fun d => { d with faults := [{ fid := 7, note := { ctx := 0, vc := 0, line := 0, die := 0, src := 0, cause := 1, kind := 1, vcache := 0, lvl := 0, ia := 0x107C, va := 0x107C, lanes := [0], job := none } }] })
theorem faulted_taken (st : Stat) (h : List Held) : Taken (faulted st h) hdr0 := taken_of ⟨rfl, rfl, rfl, rfl⟩ rfl hdr0_tag (by decide +kernel)
def heldStore : Held := ⟨⟨0, false⟩, .store .g true 0x107C [1#8, 2#8], some [{ ia := 0x107C, len := 2, attr := 0, va := 0x107C }], some 0x107C⟩
def heldLoad : Held := ⟨⟨0, false⟩, .load .g false 0x107C 2 false { ctx := 0, vc := 0, line := 0, lanes := [0], regs := [(0, [4])], gs := [], pushes := [], stamp := 0 }, some [{ ia := 0x107C, len := 2, attr := 0, va := 0x107C }], some 0x107C⟩
/-- What the held store asks of the state. -/
theorem wit_FaultsAndTrapsAnswered_store : (let s := faulted .run [heldStore]; let sp : Span := { ia := 0x107C, len := 2, attr := 0, va := 0x107C }
    GlobalFree s sp true ∧ OneLine sp.ia sp.len ∧ OthersClean s sp.ia ∧ LineClean s sp.ia ∧ NoCut s ∧ SoleCopy s sp.ia ∧ Opens s sp.ia false true false ∧ 0 < sp.len) :=
  ⟨by decide +kernel, by decide +kernel, by decide +kernel, by decide +kernel, by decide +kernel, by decide +kernel, opens_ok (by decide +kernel), by decide⟩
/-- What the held load asks of it. -/
theorem wit_FaultsAndTrapsAnswered_load : (let s := faulted .run [heldLoad]; let sp : Span := { ia := 0x107C, len := 2, attr := 0, va := 0x107C }
    GlobalFree s sp false ∧ OneLine sp.ia 2 ∧ OthersClean s sp.ia ∧ l1Bytes s sp.ia 2 = none ∧ SoleCopy s sp.ia ∧ Opens s sp.ia true false false ∧
    ∀ k, k < 2 → s.badByte s.issue.ctx [sp.ia + k] = none) :=
  ⟨by decide +kernel, by decide +kernel, by decide +kernel, by decide +kernel, by decide +kernel, opens_ok (by decide +kernel), by decide +kernel⟩

/-- The same launch finds its kernel, its areas and room for its only unit. -/
theorem wit_Starting_started : (let s := queued launch0; let v := s.sweepEntry 0
    v.nextStart [] = some 0 ∧ look v.launches 0 = some launch0 ∧ (v.ctx 0).place.length = (v.ctx 0).n ∧ look v.kernels (khndOf oneThreadRecord) = some kern ∧
    v.runsRefused 0 oneThreadRecord = false ∧ v.areasRefused 0 oneThreadRecord kern = false ∧ lrCores oneThreadRecord = false ∧ unitsOf oneThreadRecord = [(0, 0)] ∧
    (match v.copyData 0 oneThreadRecord kern with
      | .ok w => ((w.modLaunch 0 (fun l => { l with state := .started, units := [(0, 0)] })).placeBatch 0 oneThreadRecord (batch oneThreadRecord (0, 0))).isSome
      | .error _ => false) = true) := by decide +kernel

theorem wit_LogicShiftsFields_c8 : ∃ (w : _), ((wordB w).extractLsb' 2 2 ≠ 0#2 ∨ ((wordB w).getLsbD 4 = false ∧ (wordB w).getLsbD 1 = true)) ∧ (wordMajor w).toNat = 9 :=
  ⟨0x12000020#32, (Or.inr (by decide +kernel)), by decide +kernel⟩

theorem wit_CompareSelectImmediates_c7 : ∃ (w : _), ((wordMajor w).toNat = 12 ∨ (wordMajor w).toNat = 13) ∧ (wordA w).extractLsb' 5 2 ≠ 0#2 :=
  ⟨0x18010000#32, (Or.inl (by decide +kernel)), by decide +kernel⟩

theorem wit_SpecialRegisterReads_c1 : ∃ (sw : Bool) (d : _) (n : _) (s : State), (Instr.srd sw d n).wf = true ∧ Sound s ∧ Gang s ∧ Clean s [⟨.dst, d, 1⟩] ∧ (64 ≤ n.toNat → s.issCtx.set.priv = true) :=
  ⟨false, 1#7, 0x4C#8, privileged (gang [[], []]), by decide +kernel⟩

theorem wit_SpecialRegisterReads_c2 : ∃ (sw : Bool) (d : _) (s : State), (Instr.srdPos sw d).wf = true ∧ Sound s ∧ Gang s ∧ Clean s [⟨.dst, d, 1⟩] :=
  ⟨false, 105#7, gang [[], []], by decide +kernel⟩

theorem wit_FstCleared_c1 : ∃ (a : _) (s : State), Sound s ∧ Gang s ∧ Clean s [⟨.src, a, 1⟩] :=
  ⟨3#7, eachThread (fun t => { t with fst := 0x1F#5 }) (gang [[(3, 5#32)], []]), by decide +kernel⟩

theorem wit_SpecialRegisterWrites_c1 : ∃ (sw : Bool) (a : _) (n : _) (s : State), (Instr.swr sw a n).wf = true ∧ Gang s ∧ Clean s [⟨.src, a, 1⟩] ∧ s.issCtx.set.priv = true :=
  ⟨false, 3#7, 0x43#8, privileged (gang [[(3, 5#32)], []]), by decide +kernel⟩

theorem wit_SpecialRegisterWrites_c2 : ∃ (a : _) (s : State), Sound s ∧ Gang s ∧ Clean s [⟨.src, a, 1⟩] ∧ s.issCtx.set.priv = true ∧ (∀ l ∈ s.issue.lanes, (s.lane l).stat ≠ .yielded) :=
  ⟨3#7, privileged (gang [[(3, 1#32)]]), by decide +kernel⟩

theorem wit_SpecialRegisterWrites_c3 : ∃ (a : _) (s : State), Gang s ∧ Clean s [⟨.src, a, 1⟩] ∧ s.issCtx.set.priv = true :=
  ⟨3#7, privileged (gang [[(3, 0x80000000#32)], []]), by decide +kernel⟩

theorem wit_SpecialRegisterPrivilege_c1 : ∃ (i : Instr) (s : State), ((∃ sw d n, i = .srd sw d n ∧ 64 ≤ n.toNat) ∨ (∃ sw a n, i = .swr sw a n) ∨ (∃ sw a, i = .swrPreq sw a ∨ i = .swrFltcc sw a)) ∧ i.wf = true ∧ Gang s ∧ Clean s i.ops ∧ s.issCtx.set.priv = false :=
  ⟨.srd false 1#7 0x40#8, gang [[], []], (Or.inl ⟨_, _, _, rfl, by decide⟩), by decide +kernel⟩

theorem wit_SpecialFunctions_c2 : ∃ (i : Instr) (f : _) (s : State), specialTable i = some f ∧ i.wf = true ∧ Sound s ∧ Gang s ∧ Clean s i.ops ∧ NoMismatch s :=
  ⟨.frcpF32 false 1#7 2#7, _, gang [[(2, 0x40000000#32)], []], (rfl), by decide +kernel⟩



theorem wit_ResidueMismatch_c1 : ∃ (i : Instr) (f : _) (s : State), ((roundedTable i).or (convertTable i)) = some f ∧ residueChecked i = true ∧ i.wf = true ∧ Sound s ∧ Gang s ∧ Clean s i.ops :=
  ⟨.faddF64 false 2#7 4#7 6#7 0#2, _, { gang [[(5, 0x3FF00000#32)], []] with aux := { residue := [0, 2] } }, (rfl), by decide +kernel⟩

theorem wit_ResidueMismatch_c2 : ∃ (i : Instr) (f : _) (s : State), specialTable i = some f ∧ residueSpecial i = true ∧ i.wf = true ∧ Sound s ∧ Gang s ∧ Clean s i.ops :=
  ⟨.frcpF64 false 2#7 4#7, _, { gang [[(5, 0x3FF00000#32)], []] with aux := { residue := [0, 2] } }, (rfl), by decide +kernel⟩

theorem wit_NansInfinitiesZeros : ∃ F, ∃ c : Nat, F ∈ formats ∧ isNan F c = true := ⟨fmtF32, 0x7FC00000, by decide +kernel⟩

/-- A NaN operand in every format that has one; a signalling one of f16. -/
theorem wit_NansInfinitiesZeros_c2 : (∀ e ∈ qnans, isNan e.1 e.2 = true ∧ isSnan e.1 e.2 = false) ∧ isSnan fmtF16 0x7C01 = true := by decide +kernel

/-- Infinities, zeros and numbers for the conditions of the third clause. -/
theorem wit_NansInfinitiesZeros_c3 : ∃ F q x y z, (F, q) ∈ qnans ∧ F.top = .infNan ∧ isNan F x = false ∧ isNan F y = false ∧ isNan F z = false ∧ isInf F x = true ∧
    isInf F y = true ∧ negOf F x ≠ negOf F y ∧ magOf F z = 0 := ⟨fmtF16, 0x7E00, 0x7C00, 0xFC00, 0x8000, by decide +kernel⟩

theorem wit_code : ∃ F ∈ formats, ∃ x a, codeVal F x = some a := ⟨fmtF32, by simp [formats], 0x3F800000, _, by unfold codeVal; rw [show (unpack fmtF32 0x3F800000).1 = .fin false 8388608 (-23) false from by decide +kernel]; rfl⟩
theorem wit_NansInfinitiesZeros_c4 : ∃ F x y z, ∃ a b c : ℝ, F ∈ formats ∧ codeVal F x = some a ∧ codeVal F y = some b ∧ codeVal F z = some c ∧ a - b = 0 :=
  let ⟨F, h, x, a, e⟩ := wit_code
  ⟨F, x, x, x, a, a, a, h, e, e, e, sub_self a⟩


theorem wit_ConversionValues : ∃ (i j : Nat) (S D : Fmt) (x : Nat), codeFormats[i]? = some S ∧ codeFormats[j]? = some D ∧ isInf S x = true ∧ D.top ≠ .infNan :=
  ⟨1, 5, fmtF32, fmtF8e4m3, 0x7F800000, by decide +kernel⟩
theorem wit_ConversionValues_numbers : ∃ (i : Nat) (S : Fmt) (x : Nat) (a : ℝ), codeFormats[i]? = some S ∧ codeVal S x = some a :=
  ⟨1, fmtF32, 0x3F800000, _, rfl, by unfold codeVal; rw [show (unpack fmtF32 0x3F800000).1 = .fin false 8388608 (-23) false from by decide +kernel]; rfl⟩

theorem wit_ConversionValues_c2 : ∃ (i k : Nat) (S : Fmt) (sgn : Bool) (w x : Nat), codeFormats[i]? = some S ∧ (k, sgn, w) ∈ codeInts ∧ isNan S x = true :=
  ⟨1, 13, fmtF32, false, 64, 0x7FC00000, by decide +kernel⟩

theorem wit_ConversionValues_c3 : ∃ (k j : Nat) (D : Fmt) (sgn : Bool) (w : Nat), (k, sgn, w) ∈ codeInts ∧ codeFormats[j]? = some D := ⟨10, 8, fmtF4e2m1, true, 32, by decide +kernel⟩



/-- A NaN, a zero and an infinity of each of the formats. -/
theorem wit_SpecialValues : ∀ e ∈ [(fmtF32, 0x7FC00000), (fmtF64, 0x7FF8000000000000)], isNan e.1 e.2 = true ∧ magOf e.1 0 = 0 ∧ isInf e.1 (infMag e.1) = true := by
  decide +kernel

theorem wit_SpecialValues_c2 : ∃ x a, codeVal fmtF32 x = some a := ⟨0x3F800000, _, by unfold codeVal; rw [show (unpack fmtF32 0x3F800000).1 = .fin false 8388608 (-23) false from by decide +kernel]; rfl⟩

/-- 1 as an operand: its number, and intervals whose ends round alike. -/
theorem wit_TranscendentalValues : ∃ F x a neg man exp sg, F ∈ [fmtF32, fmtF64] ∧ codeVal F x = some a ∧ unpack F x = (.fin neg man exp false, sg) ∧
    Settles F (exp2At neg man exp) 6 256 :=
  ⟨fmtF32, 0x3E99999A, _, false, 10066330, -25, false, by simp, by unfold codeVal; rw [show (unpack fmtF32 0x3E99999A).1 = .fin false 10066330 (-25) false from by decide +kernel]; rfl,
    by decide +kernel, 0, by decide +kernel⟩

theorem wit_TranscendentalValues_c2 : ∃ x a neg man exp sg, codeVal fmtF32 x = some a ∧ unpack fmtF32 x = (.fin neg man exp false, sg) ∧
    Settles fmtF32 (sinpiAt neg man exp) 4 320 ∧ Settles fmtF32 (cospiAt man exp) 4 320 ∧ Settles fmtF32 (tanhAt neg man exp) 5 256 :=
  ⟨0x3E99999A, _, false, 10066330, -25, false, by unfold codeVal; rw [show (unpack fmtF32 0x3E99999A).1 = .fin false 10066330 (-25) false from by decide +kernel]; rfl,
    by decide +kernel, ⟨0, by decide +kernel⟩, ⟨0, by decide +kernel⟩, 0, by decide +kernel⟩

theorem wit_RoundingIsCorrect : ∃ F neg man exp x, F ∈ formats ∧ realOf (.fin neg man exp false) = some x :=
  ⟨fmtF32, true, 3, -1, _, by simp [formats], rfl⟩

theorem wit_ArithmeticRoundsOnce : ∃ F x y z, ∃ a b c : ℝ, F ∈ formats ∧ codeVal F x = some a ∧ codeVal F y = some b ∧ codeVal F z = some c :=
  let ⟨F, h, x, a, e⟩ := wit_code
  ⟨F, x, x, x, a, a, a, h, e, e, e⟩

theorem wit_ComparesOrderNumbers : ∃ F x y, ∃ a b : ℝ, F ∈ formats ∧ codeVal F x = some a ∧ codeVal F y = some b :=
  let ⟨F, h, x, a, e⟩ := wit_code
  ⟨F, x, x, a, a, h, e, e⟩

theorem wit_TrapTaken_c1 : ∃ (s : State) (lanes : _), lanes ≠ [] ∧ lanes.Nodup ∧ (∀ l ∈ lanes, (look s.threads (at' s l)).isSome) :=
  ⟨gang [[], []], [0, 1], by decide +kernel⟩

theorem wit_OnChipLoads_c1 : ∃ (i : Instr) (s : State) (lvl : _) (ty : _), (∀ l ∈ s.issue.lanes, address s l i lvl % width ty = 0 ∧ Within s l lvl (address s l i lvl) (width ty) ∧ Undisturbed s lvl (address s l i lvl) (width ty) false ∧ Correct s l lvl (address s l i lvl) (width ty)) ∧ loadForm i = some (lvl, false, ty) ∧ lvl ≠ .g ∧ i.wf = true ∧ Sound s ∧ Gang s ∧ Clean s i.ops ∧ Unheld s :=
  ⟨.ldC false 4#7 5#7 104#7 6#3, gang [[(5, 0xFFFF0#32)], [(5, 0x10#32)]], .c, 6#3, (by simp only [Within]; decide +kernel), by decide +kernel⟩

theorem wit_OnChipStores_c1 : ∃ (i : Instr) (s : State) (lvl : _) (ty : _), (∀ l ∈ s.issue.lanes, address s l i lvl % width ty = 0 ∧ Within s l lvl (address s l i lvl) (width ty) ∧ Undisturbed s lvl (address s l i lvl) (width ty) true) ∧ storeForm i = some (lvl, false, ty) ∧ lvl ≠ .g ∧ i.wf = true ∧ Sound s ∧ Gang s ∧ Clean s i.ops ∧ Unheld s :=
  ⟨.stP false 4#7 5#7 104#7 5#3, { gang [[(5, 8#32)], []] with launches := [(0, { queue := 0, seq := 1, ctx := 0, recd := oneThreadRecord + BitVec.ofNat 2048 (2 ^ 688), state := .started, live := 2, placed := true, cores := [0] })] }, .p, 5#3, (by simp only [Within]; decide +kernel), by decide +kernel⟩

theorem wit_AccessTraps_c1 : ∃ (i : Instr) (s : State) (lvl : _) (ty : _), (loadForm i = some (lvl, false, ty) ∨ storeForm i = some (lvl, false, ty)) ∧ lvl ≠ .g ∧ i.wf = true ∧ Sound s ∧ Gang s ∧ Clean s i.ops ∧ Unheld s :=
  ⟨.stQ false 4#7 5#7 104#7 4#3, gang [[(5, 6#32)]], .q, 4#3, (Or.inr rfl), by decide +kernel⟩

theorem wit_RetiredMarketAccess_c1 : ∃ (i : Instr) (s : State) (ty : _) (l : _), (loadForm i = some (.m, false, ty) ∨ storeForm i = some (.m, false, ty)) ∧ Within s l .m (address s l i .m) (width ty) ∧ (i.wf = true ∧ Sound s ∧ Gang s ∧ Clean s i.ops ∧ Unheld s ∧ s.issue.lanes = [l] ∧ address s l i .m % width ty = 0) ∧ s.boardWaits s.issue.ctx s.issue.vc .m [(address s l i .m, address s l i .m + width ty - 1)] (storeForm i).isSome = false ∧ (s.die (address s l i .m / 2 ^ 25 % 4)).marketRetired = true :=
  ⟨.ldM false 4#7 5#7 104#7 4#3, (housed [[(5, 0x1FC#32)]]).modDie 0 (fun d => { d with marketRetired := true }), 4#3, 0, (Or.inl rfl), (by simp only [Within]; exact ⟨by decide +kernel, by decide +kernel, 0x100, 0x100, by decide +kernel⟩), by decide +kernel, by decide +kernel⟩

theorem wit_UncorrectableLoad_c1 : ∃ (i : Instr) (s : State) (lvl : _) (ty : _) (l : _), Within s l lvl (address s l i lvl) (width ty) ∧ (loadForm i = some (lvl, false, ty) ∧ lvl ≠ .g ∧ i.wf = true ∧ Sound s ∧ Gang s ∧ Clean s i.ops ∧ Unheld s) ∧ s.issue.lanes = [l] ∧ address s l i lvl % width ty = 0 ∧ Undisturbed s lvl (address s l i lvl) (width ty) false :=
  ⟨.ldC false 4#7 5#7 104#7 4#3, { gang [[(5, 0xFFFFC#32)]] with badChip := [⟨.c, (0, 0), 0xFFFFF⟩] }, .c, 4#3, 0, (by simp only [Within]; decide +kernel), by decide +kernel, by decide +kernel⟩

theorem wit_GlobalLoads_c1 : ∃ (i : Instr) (s : State) (nt : _) (ty : _), loadForm i = some (.g, nt, ty) ∧ i.wf = true ∧ Sound s ∧ Gang s ∧ Clean s i.ops ∧ Unheld s :=
  ⟨.ldG false 4#7 6#7 104#7 4#3, gang [[(6, 0x107C#32)], []], false, 4#3, by decide +kernel⟩

theorem wit_GlobalStores_c1 : ∃ (i : Instr) (s : State) (nt : _) (ty : _) (l : _) (sp : _), (storeForm i = some (.g, nt, ty) ∧ i.wf = true ∧ Sound s ∧ Gang s ∧ Clean s i.ops ∧ Unheld s ∧ s.issue.lanes = [l]) ∧ Maps s (address s l i .g) (width ty) false true sp ∧ sp.len = width ty ∧ GlobalFree s sp true ∧ OneLine sp.ia (width ty) ∧ OthersClean s sp.ia :=
  ⟨.stG false 4#7 6#7 104#7 4#3, gang [[(4, 0xAB#32), (6, 0x107C#32)]], false, 4#3, 0, { ia := 0x107C, len := 4, attr := 0, va := 0x107C }, by decide +kernel, by decide +kernel⟩

theorem wit_GlobalFaults_c1 : ∃ (i : Instr) (s : State) (nt : _) (ty : _) (l : _), (loadForm i = some (.g, nt, ty) ∨ storeForm i = some (.g, nt, ty)) ∧ i.wf = true ∧ Sound s ∧ Gang s ∧ Clean s i.ops ∧ Unheld s ∧ s.issue.lanes = [l] :=
  ⟨.ldG false 4#7 6#7 104#7 4#3, gang [[(7, 0x2000000#32)]], false, 4#3, 0, (Or.inl rfl), by decide +kernel⟩

theorem wit_Prefetches_c1 : ∃ (i : Instr) (s : State), (∃ sw a b, i = .prfL1 sw a b ∨ i = .prfL2 sw a b) ∧ i.wf = true ∧ Gang s ∧ Clean s i.ops :=
  ⟨.prfL1 false 6#7 104#7, gang [[(6, 0x107C#32)], []], (⟨_, _, _, Or.inl rfl⟩), by decide +kernel⟩

theorem wit_AtomicsSquare_c1 : ∃ (i : Instr) (s : State) (op : _) (w : _) (c : _) (d : _), atomForm i = some (op, w, c, d) ∧ (∀ l ∈ s.issue.lanes, InScope s l c.toNat ∧ src s l i.ops 0 % atomN w = 0 ∧ Within s l .q (src s l i.ops 0) (atomN w) ∧ s.boardWaits s.issue.ctx s.issue.vc .q [(src s l i.ops 0, src s l i.ops 0 + atomN w - 1)] true = false ∧ Correct s l .q (src s l i.ops 0) (atomN w) ∧ ∀ h ∈ s.halves, halfIn (s.issPhys / 16) (src s l i.ops 0) (atomN w) h = false) ∧ atomGlobal w = false ∧ i.wf = true ∧ Sound s ∧ Gang s ∧ Clean s i.ops ∧ Unheld s ∧ (∀ m ∈ s.aux.atoms.take s.issue.lanes.length, m = 0) :=
  ⟨.atomCas false 4#7 6#7 3#3 3#4, housed [[(6, 0x1008#32)], [(6, 0x1008#32)]], .cas, 3#3, 3#4, _, (rfl), (by simp only [Within]; decide +kernel), by decide +kernel⟩

theorem wit_AtomicsGlobal_c1 : ∃ (i : Instr) (s : State) (op : _) (w : _) (c : _) (d : _) (l : _) (sp : _), Opens s sp.ia true true false ∧ (atomForm i = some (op, w, c, d) ∧ atomGlobal w = true ∧ i.wf = true ∧ Sound s ∧ Gang s ∧ Clean s i.ops ∧ Unheld s) ∧ (s.issue.lanes = [l] ∧ InScope s l c.toNat ∧ src s l i.ops 0 % atomN w = 0 ∧ Maps s (src s l i.ops 0) (atomN w) true true sp ∧ sp.len = atomN w ∧ GlobalFree s sp true ∧ OneLine sp.ia (atomN w)) ∧ OthersClean s sp.ia ∧ LineClean s sp.ia ∧ NoCut s ∧ SoleCopy s sp.ia ∧ (s.aux.atoms.headD 0 = 0 ∨ sp.attr = 2) ∧ (∀ k, k < atomN w → s.badByte s.issue.ctx [sp.ia + k] = none) :=
  ⟨.redAdd false 4#7 6#7 1#3 2#4, gang [[(4, 5#32), (6, 0x1078#32)]], .add, 1#3, 2#4, none, 0, { ia := 0x1078, len := 8, attr := 0, va := 0x1078 }, (opens_ok (by decide +kernel)), by decide +kernel, by decide +kernel, by decide +kernel⟩

theorem wit_ScopeTraps_c1 : ∃ (i : Instr) (s : _) (l : _) (c : BitVec 4), ((∃ op w d, atomForm i = some (op, w, c, d)) ∨ (∃ k, fenceForm i = some (k, c))) ∧ i.wf = true ∧ Sound s ∧ Gang s ∧ Clean s i.ops ∧ Unheld s ∧ s.issue.lanes = [l] ∧ ¬ InScope s l c.toNat :=
  ⟨.fenceAcq false 5#4, gang [[]], 0, 5#4, (Or.inr ⟨_, rfl⟩), by decide +kernel⟩

theorem wit_Fences_c1 : ∃ (i : Instr) (s : _) (k : _) (c : BitVec 4) (g : _), (∀ a, (⟨.g, (s.issue.ctx, s.issue.vc), a⟩ : ChipAt) ∉ s.badChip) ∧ (∀ x ∈ (s.issCore).l1, ∀ b ∈ x.bytes, b.2.2 = true → (∃ r, s.checkPage s.issue.ctx (x.ia + b.1) false true = .ok r)) ∧ (fenceForm i = some (k, c) ∧ i.wf = true ∧ Sound s ∧ Gang s ∧ Unheld s ∧ s.wbHeld = [] ∧ s.issLine.drains = []) ∧ NoCut s ∧ s.halves = [] ∧ (∀ j ∈ (s.issCtx).jobs, j.2.retired = true) ∧ (∀ l ∈ s.issue.lanes, InScope s l c.toNat ∧ s.scopeGen s.issue.ctx ⟨s.issue.vc, s.issue.line, l⟩ c.toNat = g) :=
  ⟨.fenceSc false 2#4, soiled [[], []], .sc, 2#4, (gang [[], []]).scopeGen 0 ⟨0, 0, 0⟩ 2, (fun a h => by cases h), (dirty_ok (by decide +kernel)), by decide +kernel, by decide +kernel⟩

theorem wit_ScopeEntries_c1 : ∃ (sw : Bool) (a : _) (c : _) (s : State), (Instr.scset sw a c).wf = true ∧ Sound s ∧ Gang s ∧ Clean s [⟨.src, a, 2⟩] ∧ Unheld s ∧ (s.ctx? s.issue.ctx).isSome ∧ s.heldCount s.issue.ctx s.issue.vc + s.issue.lanes.length ≤ 64 :=
  ⟨false, 2#7, 4#4, gang [[(2, 0x80#32)]], by decide +kernel⟩

theorem wit_ScopeEntries_c2 : ∃ (sw : Bool) (c : _) (s : State), (Instr.scinv sw c).wf = true ∧ Gang s ∧ (s.ctx? s.issue.ctx).isSome :=
  ⟨false, 15#4, gang [[]], by decide +kernel⟩

theorem wit_ScopeQueries_c1 : ∃ (sw : Bool) (d : _) (c : _) (s : State), (Instr.scqry sw d c).wf = true ∧ Sound s ∧ Gang s ∧ Clean s [⟨.dst, d, 2⟩] :=
  ⟨false, 4#7, 0#4, gang [[], []], by decide +kernel⟩

theorem wit_ScopeQueries_c2 : ∃ (sw : Bool) (d : _) (c : _) (s : State), (Instr.scmem sw d c).wf = true ∧ Sound s ∧ Gang s ∧ Clean s [⟨.dst, d, 1⟩] :=
  ⟨false, 4#7, 4#4, gang [[], []], by decide +kernel⟩

theorem wit_Branches_c1 : ∃ (i : Instr) (s : State) (sw : Bool) (d : _) (o : _), (i = .bnz sw d o ∨ i = .bz sw d o) ∧ i.wf = true ∧ Sound s ∧ Gang s ∧ Clean s [⟨.src, d, 1⟩] :=
  ⟨.bz true 3#7 0x20000#18, gang [[(3, 1#32)], []], true, 3#7, 0x20000#18, (Or.inr rfl), by decide +kernel⟩

theorem wit_CallsAndIndirect_c1 : ∃ (s : State) (sw : Bool) (d : _) (o : _), (Instr.call sw d o).wf = true ∧ Sound s ∧ Gang s ∧ Clean s [⟨.dstVG, d, 1⟩] :=
  ⟨gang [[], []], false, 106#7, 0x3FFFF#18, by decide +kernel⟩

theorem wit_CallsAndIndirect_c2 : ∃ (i : Instr) (s : State) (sw : Bool) (a : _) (k : _), (i = .jmpi sw a ∨ i = .ret sw a) ∧ i.wf = true ∧ Sound s ∧ Gang s ∧ Clean s [⟨.src, a, 1⟩] ∧ OneKernel s k :=
  ⟨.jmpi false 3#7, gang [[(3, 1#32)], [(3, 2#32)]], false, 3#7, kern, (Or.inl rfl), by decide +kernel⟩

theorem wit_CallsAndIndirect_c3 : ∃ (s : State) (sw : Bool) (d : _) (a : _) (k : _), (Instr.calli sw d a).wf = true ∧ Sound s ∧ Gang s ∧ Clean s (Instr.calli sw d a).ops ∧ OneKernel s k :=
  ⟨gang [[(3, 1#32)], [(3, 2#32)]], false, 4#7, 3#7, kern, by decide +kernel⟩

theorem wit_CallsAndIndirect_c4 : ∃ (i : Instr) (s : State) (sw : Bool) (a : _) (k : _) (l : _), (i = .jmpi sw a ∨ i = .ret sw a ∨ ∃ d, i = .calli sw d a) ∧ ¬ blockAt k (val s l a 1) ∧ i.wf = true ∧ Sound s ∧ Gang s ∧ Clean s i.ops ∧ OneKernel s k ∧ s.issue.lanes = [l] :=
  ⟨.calli false 4#7 3#7, gang [[(3, 2#32)]], false, 3#7, kern, 0, (Or.inr (Or.inr ⟨_, rfl⟩)), (fun h => absurd h.1 (by decide +kernel)), by decide +kernel⟩

theorem wit_ExitAndWindow_c1 : ∃ (s : State), Gang s ∧ Settled s ∧ (∀ l ∈ s.issue.lanes, s.draining s.issue.ctx s.issue.vc s.issue.line l = false) :=
  ⟨gang [[], []], by decide +kernel⟩

theorem wit_ExitAndWindow_c2 : ∃ (s : State) (sw : Bool) (b : _), (Instr.win sw b).wf = true ∧ Gang s :=
  ⟨gang [[], []], false, 51#7, by decide +kernel⟩

theorem wit_ExitAndWindow_c3 : ∃ (s : State) (sw : Bool) (b : _) (l : _), (Instr.win sw b).wf = true ∧ Gang s ∧ s.issue.lanes = [l] ∧ allotted s l < 8 * b.toNat + 104 :=
  ⟨{ gang [[]] with kernels := [(1, { kern with roles := [(0, 104)] })] }, false, 1#7, 0, by decide +kernel⟩

theorem wit_PointsWait_c1 : ∃ (i : Instr) (s : State) (sw : Bool), (i = .exit sw ∨ i = .ychk sw ∨ i = .yield sw) ∧ Gang s ∧ ¬ Settled s :=
  ⟨.exit false, eachThread (fun t => { t with held := [{ pos := ⟨0, false⟩, req := .barrier }] }) (gang [[]]), false, (Or.inl rfl), by decide +kernel⟩

theorem wit_Yielding_c1 : ∃ (s : State), Gang s ∧ Settled s ∧ (s.issCtx).set.preq = false :=
  ⟨gang [[], []], by decide +kernel⟩

theorem wit_Yielding_c2 : ∃ (s : State), Gang s ∧ Settled s ∧ (s.issCtx).set.preq = true :=
  ⟨inCtx (fun x => { x with set := { x.set with preq := true, yhnd := 1 } }) (gang [[], []]), by decide +kernel⟩

theorem wit_Yielding_c3 : ∃ (s : State), Gang s ∧ Settled s ∧ (s.issCtx).set.preq = true ∧ (∀ l ∈ s.issue.lanes, (s.lane l).diverted = true) :=
  ⟨eachThread (fun t => { t with diverted := true }) (inCtx (fun x => { x with set := { x.set with preq := true, yhnd := 1 } }) (gang [[], []])), by decide +kernel⟩

theorem wit_Yielding_c4 : ∃ (s : State) (k : _), ¬ blockAt k (s.issCtx).set.yhnd ∧ Gang s ∧ Settled s ∧ (s.issCtx).set.preq = true ∧ (∀ l ∈ s.issue.lanes, (s.lane l).diverted = false) ∧ OneKernel s k :=
  ⟨inCtx (fun x => { x with set := { x.set with preq := true, yhnd := 2 } }) (gang [[], []]), kern, (fun h => absurd h.1 (by decide +kernel)), by decide +kernel⟩

theorem wit_Yielding_c5 : ∃ (s : State) (k : _) (l : _) (sp : _), blockAt k (s.issCtx).set.yhnd ∧ (∃ a, look s.launches (s.lane l).launch = some a ∧ Maps s ((a.recd.toNat / 2 ^ 128 % 2 ^ 57 + (s.lane l).tid * (a.recd.toNat / 2 ^ 224 % 2 ^ 32)) % 2 ^ 64) 16 false true sp) ∧ (Sound s ∧ Gang s ∧ Settled s ∧ Unheld s ∧ (s.issCtx).set.preq = true ∧ s.issue.lanes = [l] ∧ (s.lane l).diverted = false) ∧ OneKernel s k ∧ sp.len = 16 ∧ sp.attr ≠ 2 ∧ GlobalFree s sp true ∧ OneLine sp.ia 16 ∧ OthersClean s sp.ia :=
  ⟨inCtx (fun x => { x with set := { x.set with preq := true, yhnd := 1 } }) (gang [[]]), kern, 0, { ia := 0, len := 16, attr := 0, va := 0 }, (⟨by decide +kernel, 0, by decide +kernel⟩), (⟨_, by exact (show look (gang [[]]).launches 0 = some _ from rfl), by decide +kernel⟩), by decide +kernel, by decide +kernel⟩

theorem wit_TrapsByInstruction_c1 : ∃ (s : State), Gang s :=
  ⟨gang [[], []], by decide +kernel⟩

theorem wit_TrapsByInstruction_c2 : ∃ (s : State), Gang s :=
  ⟨gang [[], []], by decide +kernel⟩

theorem wit_TrapsByInstruction_c3 : ∃ (s : State), Gang s :=
  ⟨gang [[], []], by decide +kernel⟩

theorem wit_TrapsByInstruction_c4 : ∃ (s : State), Gang s ∧ (s.square (s.issPhys / 16)).watches.all (fun w => w.2.ctx != s.issue.ctx) = true :=
  ⟨gang [[], []], by decide +kernel⟩

theorem wit_TrapsByInstruction_c5 : ∃ (s : State), Gang s ∧ (s.square (s.issPhys / 16)).watches.any (fun w => w.2.ctx == s.issue.ctx) = true :=
  ⟨(gang [[], []]).modSquare 0 (fun q => { q with watches := [(0, { ctx := 0, kind := 0, lev := 3, len := 4, addr := 0, shown := 0 })] }), by decide +kernel⟩

theorem wit_TrapsByInstruction_c6 : ∃ (s : State) (k : _), Gang s ∧ OneKernel s k :=
  ⟨gang [[], []], kern, by decide +kernel⟩

theorem wit_GroupCreation_c1 : ∃ (s : State) (sw : Bool) (d : _) (a : _) (m : _), (Instr.gnew sw d a m).wf = true ∧ Sound s ∧ Gang s ∧ Clean s (da 1 1 d a) ∧ Groupless s :=
  ⟨gang [[(5, 0x40000002#32)], []], false, 4#7, 5#7, true, by decide +kernel⟩

theorem wit_JoinAndLeave_c1 : ∃ (s : State) (sw : Bool) (a : _), (Instr.join sw a).wf = true ∧ Sound s ∧ Gang s ∧ Clean s [⟨.src, a, 1⟩] ∧ Groupless s :=
  ⟨gang [[(3, 1#32)], []], false, 3#7, by decide +kernel⟩

theorem wit_JoinAndLeave_c2 : ∃ (s : State), Gang s ∧ Groupless s :=
  ⟨gang [[], []], by decide +kernel⟩

theorem wit_JoinAndLeave_c3 : ∃ (s : State) (l : _) (x : _), Gang s ∧ s.issue.lanes = [l] ∧ s.groupOf s.issue.ctx (memberAt s l) = some x ∧ look (s.core s.issue.ctx x.vc).groups x.num = some x.g ∧ (∃ m ∈ x.g.members, m ≠ memberAt s l ∧ m ∉ x.g.arrived) :=
  ⟨grouped [⟨0, 0, 0⟩, ⟨0, 0, 1⟩] [] first, 0, ⟨0, 0, { gen := 0, square := false, base := 0, alloc := 0, cap := 2, launch := none, members := [⟨0, 0, 0⟩, ⟨0, 0, 1⟩], arrived := [] }⟩, by decide +kernel⟩

theorem wit_JoinAndLeave_c4 : ∃ (s : State) (l : _) (x : _), Gang s ∧ s.issue.lanes = [l] ∧ s.groupOf s.issue.ctx (memberAt s l) = some x ∧ look (s.core s.issue.ctx x.vc).groups x.num = some x.g ∧ (∀ m ∈ x.g.members, m = memberAt s l) ∧ s.halves = [] :=
  ⟨grouped [⟨0, 0, 0⟩] [] first, 0, ⟨0, 0, { gen := 0, square := false, base := 0, alloc := 0, cap := 2, launch := none, members := [⟨0, 0, 0⟩], arrived := [] }⟩, by decide +kernel⟩

theorem wit_Barriers_c1 : ∃ (s : State), Gang s ∧ Settled s ∧ s.issLine.drains = [] ∧ s.wbHeld = [] ∧ s.halves = [] ∧ (s.issCore).step = none ∧ (∀ x ∈ (s.issCore).l1, ∀ b ∈ x.bytes, b.2.2 = false) :=
  ⟨gang [[], []], by decide +kernel⟩

theorem wit_ChannelBindings_c1 : ∃ (s : State) (sw : Bool) (a : _) (k : _), (Instr.chBind sw a k).wf = true ∧ Sound s ∧ Gang s ∧ Clean s [⟨.src, a, 1⟩] :=
  ⟨gang [[(3, 3#32)], []], false, 3#7, 0#3, by decide +kernel⟩

theorem wit_ChannelBindings_c2 : ∃ (s : State), Sound s ∧ Gang s :=
  ⟨gang [[], []], by decide +kernel⟩

theorem wit_ChannelBindings_c3 : ∃ (s : State) (sw : Bool) (d : _) (k : _), (Instr.chCnt sw d k).wf = true ∧ Sound s ∧ Gang s ∧ Clean s [⟨.dst, d, 1⟩] :=
  ⟨gang [[], []], false, 4#7, 0#3, by decide +kernel⟩

theorem wit_ChannelQueues_c1 : ∃ (s : State) (d : _) (a : _) (k : _) (ws : _), (regName a = .ch k ∨ regName a = .pk k) ∧ Begins (chan s k).queue ws ∧ Gang s ∧ Clean s [⟨.dst, d, 1⟩] ∧ (chan s k).bound = true ∧ ws.length = s.issue.lanes.length ∧ ws.length ≤ depth (chan s k).word ∧ k < 8 ∧ Sound s :=
  ⟨(gang [[], []]).modIssLine (fun x => { x with chans := { bound := true, queue := [.data 7#32, .data 8#32, .resv 3] } :: x.chans.drop 1 }), 1#7, 120#7, 0, [7#32, 8#32], (Or.inl (by decide +kernel)), (⟨_, rfl⟩), by decide +kernel⟩

theorem wit_ChannelQueues_c2 : ∃ (s : State) (d : _) (a : _) (k : _), (regName a = .ch k ∨ regName a = .pk k) ∧ (∀ ws, ws.length = s.issue.lanes.length → ¬ Begins (chan s k).queue ws) ∧ Gang s ∧ Clean s [⟨.dst, d, 1⟩] ∧ (chan s k).bound = true ∧ s.issue.lanes.length ≤ depth (chan s k).word :=
  ⟨(gang [[], []]).modIssLine (fun x => { x with chans := { bound := true, queue := [.data 7#32, .resv 3] } :: x.chans.drop 1 }), 1#7, 112#7, 0, (Or.inr (by decide +kernel)), (by
      intro ws h
      rintro ⟨r, e⟩
      have h1 : ws.length = 2 := h
      have h2 : [QEnt.data 7#32, .resv 3] = ws.map QEnt.data ++ r := e
      match ws, h1, h2 with
      | [a, b], _, h2 => simp at h2), by decide +kernel⟩

theorem wit_ChannelQueues_c3 : ∃ (s : State) (d : _) (a : _) (k : _) (j : _), (regName d = .ch k ∧ k < 8 ∧ j < 8 ∧ Sound s ∧ Gang s ∧ Clean s [⟨.src, a, 1⟩] ∧ (chan s k).bound = true) ∧ (chan s k).word.toNat / 2 ^ 30 = 0 ∧ (chan s k).word.toNat / 2 ^ 19 % 8 = j ∧ (chan s j).bound = true ∧ (look s.lines ⟨s.issue.ctx, s.issue.vc, s.issue.line⟩).isSome ∧ s.issue.lanes.length ≤ depth (chan s j).word ∧ (chan s j).queue.length + s.issue.lanes.length ≤ depth (chan s j).word ∧ (∀ e ∈ (chan s j).queue, e ≠ .resv s.serial) :=
  ⟨(gang [[(3, 1#32)]]).modIssLine (fun x => { x with chans := { bound := true, queue := [] } :: x.chans.drop 1 }), 120#7, 3#7, 0, 0, by decide +kernel, by decide +kernel⟩

theorem wit_ChannelQueues_c4 : ∃ (s : State) (d : _) (a : _) (k : _), (regName a = .ch k ∨ regName a = .pk k) ∧ Gang s ∧ Clean s [⟨.dst, d, 1⟩] :=
  ⟨(gang [[], []]).modIssLine (fun x => { x with chans := { bound := true, queue := [] } :: x.chans.drop 1 }), 1#7, 112#7, 0, (Or.inr (by decide +kernel)), by decide +kernel⟩

theorem wit_ChannelQueues_c5 : ∃ (s : State) (d : _) (a : _) (k : _), regName d = .ch k ∧ Gang s ∧ Clean s [⟨.src, a, 1⟩] ∧ (chan s k).bound = true ∧ s.peerOf s.issue.ctx s.issue.vc s.issue.line (chan s k).word = none :=
  ⟨(gang [[(3, 1#32)]]).modIssLine (fun x => { x with chans := { bound := true, word := 0xBC000000#32 } :: x.chans.drop 1 }), 120#7, 3#7, 0, by decide +kernel⟩

theorem wit_ReductionTrees_c1 : ∃ (k : _) (ls : List Node), ls.length = 2 ^ (k + 1) :=
  ⟨0, [none, some (1, 0#5)], by decide +kernel⟩

theorem wit_ReductionTrees_2 : ∃ (w k : Nat) (xs : List (Option Nat)), xs.length = 2 ^ k ∧ ∀ x ∈ xs, ∀ v, x = some v → v < 2 ^ w :=
  ⟨8, 2, [some 255, none, some 3, some 0], rfl, by simp⟩

theorem wit_Decomposition : ∃ a b fuel : Nat, a ≤ b ∧ b ≤ 2 ^ 48 ∧ 128 ≤ fuel := ⟨2 ^ 48 - 1, 2 ^ 48, 128, by decide⟩

theorem wit_Contributes_c1 : ∃ (s : State) (sw : Bool) (d : _) (a : _) (b : _) (f : _), (Instr.ctb sw d a b f).wf = true ∧ Sound s ∧ Gang s ∧ Clean s (Instr.ctb sw d a b f).ops ∧ Unheld s :=
  ⟨slotted openSlot (gang [[(2, 5#32), (4, 1#32), (5, 1#32)], [(2, 6#32), (5, 1#32)]]), false, 4#7, 2#7, 5#7, 10#4, by decide +kernel⟩

theorem wit_Contributes_c2 : ∃ (s : State) (sw : Bool) (d : _) (a : _) (f : _) (l : _), (Instr.ctbn sw d a f).wf = true ∧ Sound s ∧ Gang s ∧ Clean s (Instr.ctbn sw d a f).ops ∧ Unheld s ∧ s.issue.lanes = [l] :=
  ⟨slotted openSlot (gang [[(3, 0x01040001#32), (4, 1#32)]]), false, 4#7, 2#7, 10#4, 0, by decide +kernel⟩

theorem wit_Contributes_c3 : ∃ (s : State) (sw : Bool) (d : _) (a : _) (b : _) (f : _) (l : _), (Instr.ctbm sw d a b f).wf = true ∧ Sound s ∧ Gang s ∧ Clean s (Instr.ctbm sw d a b f).ops ∧ Unheld s ∧ s.issue.lanes = [l] :=
  ⟨slotted { openSlot with desc := six (2 ^ 96) } (gang [[(2, 0x100#32), (5, 0x01000005#32)]]), false, 4#7, 2#7, 5#7, 10#4, 0, by decide +kernel⟩

theorem wit_PartialsMeet_c1 : ∃ (s : State) (i : PanId) (p : _) (tp : _), (∀ c v, i ≠ .core c v) ∧ (∀ b, i ≠ .msu b) ∧ (∀ b, i ≠ .port b) ∧ (s.panAway i = false ∧ p.coll = none ∧ s.treeParms p = some tp ∧ (s.slotOf p.ctx p.slot).apex = i ∧ i ∉ (s.slotOf p.ctx p.slot).exhausted ∧ (s.slotOf p.ctx p.slot).check = none ∧ s.brineWaits i p = false) ∧ (tp.op ≠ .add ∨ (tp.fmt ≠ 0 ∧ tp.fmt ≠ 9)) :=
  ⟨slotted openSlot (gang [[]]), .gateway 0, part 2 0 7, { op := .add, acc := .int true 32, fmt := 10, n := 6, k := 3, trees := 1 }, (by intro _ _ h; cases h), (by intro _ h; cases h), (by intro _ h; cases h), by decide +kernel, by decide +kernel⟩

theorem wit_PartialsMeet_c2 : ∃ (s : State) (i : PanId) (p : _) (j : _), s.panAway i = false ∧ s.nextHop i p = .pan j :=
  ⟨slotted { openSlot with apex := .hub } (gang [[]]), .core 0 0, part 2 0 7, .gateway 0, by decide +kernel⟩

theorem wit_PartialsMeet_c3 : ∃ (s : State) (p : _) (tp : _) (L : _) (e : _) (t0 : _), s.touchL2 p.ctx (peVc e) (leafPa L e p.addr) [] false = some t0 ∧ t0.rehome p.ctx = t0 ∧ s.walk p.ctx p.addr = .ok (L, e) ∧ p.coll = none ∧ s.treeParms p = some tp :=
  ⟨slotted { openSlot with desc := six (2 ^ 96) } (gang [[]]), { part 0 4 7 with addr := 0x100 }, { op := .add, acc := .int true 32, fmt := 10, n := 6, k := 3, trees := 1 }, 3, 0xA300000000000000#64, ((slotted { openSlot with desc := six (2 ^ 96) } (gang [[]])).touchL2 0 0 0x100 [] false).getD State.reset, (some_getD (by decide +kernel)), (rehome_nil (by decide +kernel)), by decide +kernel⟩

theorem wit_SlotInstructions_c1 : ∃ (s : State) (sw : Bool) (d : _) (a : _) (b : _), (Instr.slotOpen sw d a b).wf = true ∧ Sound s ∧ Gang s ∧ Clean s (Instr.slotOpen sw d a b).ops :=
  ⟨gang [[(2, 0x40#32), (5, 1#32)], []], false, 4#7, 2#7, 5#7, by decide +kernel⟩

theorem wit_SlotInstructions_c2 : ∃ (s : State) (sw : Bool) (d : _) (b : _), (Instr.slotClose sw d b).wf = true ∧ Sound s ∧ Gang s ∧ Clean s (Instr.slotClose sw d b).ops :=
  ⟨slotted openSlot (gang [[(5, 1#32)]]), false, 4#7, 5#7, by decide +kernel⟩

theorem wit_SlotInstructions_c3 : ∃ (s : State) (sw : Bool) (d : _) (b : _), (Instr.slotWait sw d b).wf = true ∧ Sound s ∧ Gang s ∧ Clean s (Instr.slotWait sw d b).ops :=
  ⟨slotted { openSlot with state := .closing } (gang [[(5, 1#32)]]), false, 4#7, 5#7, by decide +kernel⟩

theorem wit_SlotInstructions_c4 : ∃ (s : State) (sw : Bool) (d : _) (b : _), (Instr.slotStat sw d b).wf = true ∧ Sound s ∧ Gang s ∧ Clean s (Instr.slotStat sw d b).ops :=
  ⟨slotted { openSlot with state := .final, code := 3 } (gang [[(5, 1#32)]]), false, 4#7, 5#7, by decide +kernel⟩

theorem wit_SlotsResolve_c1 : ∃ (s : State) (c : _) (n : _) (i : PanId), (∀ b, i ≠ .msu b) ∧ NoneComing s c n ∧ (s.ctx? c).isSome ∧ (s.slotOf c n).state = .closing ∧ s.panAway i = false ∧ (s.slotOf c n).apex = i :=
  ⟨slotted { openSlot with state := .closing, expect := 2, markers := 1 } (gang [[]]), 0, 1, .gateway 0, (by intro _ h; cases h), (none_coming (by decide +kernel)), by decide +kernel⟩

theorem wit_SlotsResolve_c2 : ∃ (s : State) (c : _) (n : _) (q : _) (d : _), NoneComing s c n ∧ (s.slotOf c n).state = .closing ∧ (s.slotOf c n).apex = .hubEnd d ∧ (∀ p ∈ s.pan (.gateway q), inSlot c n p = false) :=
  ⟨slotted { openSlot with state := .closing, expect := 2, apex := .hubEnd 0 } (gang [[]]), 0, 1, 0, 0, (none_coming (by decide +kernel)), by decide +kernel⟩

theorem wit_SlotsResolve_c3 : ∃ (s : State) (c : _) (n : _) (p : _) (sgn : _) (w : _) (sp : _), (∃ r, s.openPage c sp.ia false true = .ok r) ∧ ((s.ctx? c).isSome ∧ (s.slotOf c n).state = .closing ∧ (s.slotOf c n).check = none ∧ (s.slotOf c n).code = 0 ∧ (s.slotOf c n).tainted = false ∧ (s.slotOf c n).spilled = [] ∧ sdMode (s.slotOf c n).desc = false) ∧ (sdTrees (s.slotOf c n).desc = 1 ∧ sdOp (s.slotOf c n).desc = 0 ∧ accOf (sdFmt (s.slotOf c n).desc) = some (.int sgn w) ∧ s.partialsAfoot c n = false ∧ (s.roots.filter (inSlot c n)) = [] ∧ (s.pans.flatMap (fun e => e.2.filter (inSlot c n))) = [p] ∧ p.level = rootOf (s.slotOf c n).desc) ∧ p.index = 0 ∧ (∀ e ∈ s.badPans, inSlot c n e.2 = false) ∧ s.mapVa c (sdDest (s.slotOf c n).desc) (accBytes (sdFmt (s.slotOf c n).desc)) false true = some [sp] ∧ sp.len = accBytes (sdFmt (s.slotOf c n).desc) ∧ OneLine sp.ia sp.len ∧ (s.ctx c).ckpt.cut = none ∧ s.halves = [] :=
  ⟨{ slotted { openSlot with state := .closing, expect := 2, markers := 2 } (gang [[]]) with pans := [(.gateway 0, [part 3 0 9])] }, 0, 1, part 3 0 9, true, 32, { ia := 0x100, len := 4, attr := 0, va := 0x100 }, (ok_some (by decide +kernel)), by decide +kernel, by decide +kernel, by decide +kernel⟩

theorem wit_SlotsResolve_c4 : ∃ (s : State) (c : _) (n : _), (s.ctx? c).isSome ∧ (s.slotOf c n).spilled = [] ∧ s.partialsAfoot c n = false ∧ (∀ w ∈ s.waits, w.on ≠ .slot c n) :=
  ⟨slotted { openSlot with state := .closing } (gang [[]]), 0, 1, by decide +kernel⟩

theorem wit_SlotsResolve_c5 : ∃ (s : State) (c : _) (n : _) (w : _), ((s.ctx? c).isSome ∧ (s.slotOf c n).spilled = [] ∧ s.partialsAfoot c n = false ∧ s.wbHeld = [] ∧ s.waits.filter (fun w => w.on == .slot c n) = [w] ∧ (s.slotOf c n).check = none ∧ (s.slotOf c n).code = 0) ∧ (s.slotOf c n).incomplete = false ∧ (s.slotOf c n).tainted = false ∧ (∀ x ∈ (s.core w.reply.ctx w.reply.vc).l1, ∀ b ∈ x.bytes, b.2.2 = false) :=
  ⟨{ slotted { openSlot with state := .final } (gang [[]]) with waits := [{ on := .slot 0 1, reply := { ctx := 0, vc := 0, line := 0, lanes := [0], regs := [(0, [4])], gs := [], pushes := [], stamp := 0 }, pos := ⟨0, false⟩ }] }, 0, 1, { on := .slot 0 1, reply := { ctx := 0, vc := 0, line := 0, lanes := [0], regs := [(0, [4])], gs := [], pushes := [], stamp := 0 }, pos := ⟨0, false⟩ }, by decide +kernel, by decide +kernel⟩

theorem wit_SlotsResolve_c6 : ∃ (s : State) (c : _) (n : _) (i : PanId) (p : _), (s.slotOf c n).state = .closing ∧ .partialArrive i p ∈ s.agenda ∧ inSlot c n p = true :=
  ⟨{ slotted { openSlot with state := .closing, expect := 2, markers := 2 } (gang [[]]) with agenda := [.partialArrive (.gateway 0) (part 3 0 9)] }, 0, 1, .gateway 0, part 3 0 9, by decide +kernel⟩

theorem wit_Reservations_c1 : ∃ (s : State) (sw : Bool) (a : _) (n : _) (q : _), (Instr.oprDef sw a n).wf = true ∧ Sound s ∧ Gang s ∧ OneQuarter s q ∧ Clean s [⟨.src, a, 1⟩] :=
  ⟨reserved [[(3, 0x100#32)], []], false, 3#7, 4#4, 0, by decide +kernel⟩

theorem wit_Reservations_c2 : ∃ (s : State) (q : _), Gang s ∧ OneQuarter s q :=
  ⟨reserved [[]], 0, by decide +kernel⟩

theorem wit_Reservations_c3 : ∃ (s : State) (sw : Bool) (d : _) (n : _), (Instr.oprQry sw d n).wf = true ∧ Sound s ∧ Gang s ∧ Clean s [⟨.dst, d, 1⟩] :=
  ⟨reserved [[]], false, 4#7, 1#4, by decide +kernel⟩

theorem wit_PlanesKeepElements_c1 : ∃ (r : _) (row : _) (kk : _), rsInvalid r = false ∧ row < rsR r ∧ kk < rsC r :=
  ⟨recS, 15, 63, by decide +kernel⟩

theorem wit_PlaneAccess_c1 : ∃ (s : State) (d : _) (a : _) (n : _) (l : _) (r : _) (sw : Bool), Owns s l n.toNat r ∧ ((Instr.stp sw d a n).wf = true ∧ Sound s ∧ Gang s ∧ s.issue.lanes = [l] ∧ rsEfmt r ≠ 0 ∧ Unheld s ∧ Clean s [⟨.src, a, 1⟩, ⟨.src, d, 1⟩]) ∧ val s l a 1 < rsR r * rsC r ∧ s.oprQueued n.toNat = false ∧ ScratchFree s (elemBytes r (val s l a 1 / rsC r) (val s l a 1 % rsC r)) true :=
  ⟨reserved [[(3, 1023#32), (4, 5#32)]], 4#7, 3#7, 0#4, 0, recA, false, (⟨{ recd := recA, group := 0#32 }, by decide +kernel⟩), by decide +kernel, by decide +kernel⟩

theorem wit_PlaneAccess_c2 : ∃ (s : State) (d : _) (a : _) (n : _) (l : _) (r : _) (sw : Bool), Owns s l n.toNat r ∧ ((Instr.stpSc sw d a n).wf = true ∧ Sound s ∧ Gang s ∧ s.issue.lanes = [l] ∧ rsBlk r ≠ 0 ∧ Unheld s ∧ Clean s [⟨.src, a, 1⟩, ⟨.src, d, 1⟩]) ∧ val s l a 1 < rsScales r ∧ s.oprQueued n.toNat = false :=
  ⟨reserved [[(3, 31#32), (4, 5#32)]], 4#7, 3#7, 2#4, 0, recS, false, (⟨{ recd := recS, group := 0#32 }, by decide +kernel⟩), by decide +kernel, by decide +kernel⟩

theorem wit_PlaneAccess_c3 : ∃ (s : State) (d : _) (a : _) (n : _) (l : _) (r : _) (sw : Bool), Owns s l n.toNat r ∧ ((Instr.ldp sw d a n).wf = true ∧ Sound s ∧ Gang s ∧ s.issue.lanes = [l] ∧ rsEfmt r ≠ 0 ∧ Unheld s ∧ Clean s [⟨.src, a, 1⟩, ⟨.dst, d, 1⟩]) ∧ val s l a 1 < rsR r * rsC r ∧ ScratchFree s (elemBytes r (val s l a 1 / rsC r) (val s l a 1 % rsC r)) false :=
  ⟨reserved [[(3, 1023#32)]], 4#7, 3#7, 2#4, 0, recS, false, (⟨{ recd := recS, group := 0#32 }, by decide +kernel⟩), by decide +kernel, by decide +kernel⟩

theorem wit_PlaneAccess_c4 : ∃ (s : State) (d : _) (a : _) (n : _) (l : _) (r : _) (sw : Bool), Owns s l n.toNat r ∧ ((Instr.ldpSc sw d a n).wf = true ∧ Sound s ∧ Gang s ∧ s.issue.lanes = [l] ∧ rsBlk r ≠ 0 ∧ Unheld s ∧ Clean s [⟨.src, a, 1⟩, ⟨.dst, d, 1⟩]) ∧ val s l a 1 < rsScales r :=
  ⟨reserved [[(3, 31#32)]], 4#7, 3#7, 2#4, 0, recS, false, (⟨{ recd := recS, group := 0#32 }, by decide +kernel⟩), by decide +kernel, by decide +kernel⟩

theorem wit_PlaneAccess_c5 : ∃ (i : Instr) (s : _) (d : _) (a : _) (n : BitVec 4) (l : _) (sw : Bool), (i = .stp sw d a n ∨ i = .ldp sw d a n ∨ i = .stpSc sw d a n ∨ i = .ldpSc sw d a n) ∧ (∀ r, ¬ Owns s l n.toNat r) ∧ (∀ o, oprAt s n.toNat = some o → rsEfmt o.recd ≠ 0) ∧ i.wf = true ∧ Sound s ∧ Gang s ∧ s.issue.lanes = [l] ∧ Clean s i.ops ∧ Unheld s :=
  ⟨.ldp false 4#7 3#7 3#4, gang [[(3, 1023#32)]], 4#7, 3#7, 3#4, 0, false, (Or.inr (Or.inl rfl)), (fun r ⟨o, h, _⟩ => by cases (show (none : Option Opr) = some o from h)), (fun o h => by cases (show (none : Option Opr) = some _ from h)), by decide +kernel⟩

theorem wit_TileOrderIndependent : ∃ cls K, ∃ (nodes : Nat → List DWord) (order : List Nat), 1 ≤ cls ∧ cls ≤ 3 ∧ 1 ≤ K ∧ K ≤ 2 ^ 20 ∧
    order.Perm (List.range ((K + 63) / 64)) ∧ ∀ i j, (nodes i).length = (nodes j).length :=
  ⟨3, 192, fun c => [BitVec.ofNat 64 c], [2, 0, 1], by decide, by decide, by decide, by decide, by decide +kernel, fun _ _ => rfl⟩

theorem wit_EnginePasses_c1 : ∃ (s : State) (t : _) (g : BitVec 3) (x : _) (y : _) (p : BitVec 4) (q : _) (w : _) (ra : _) (rb : _), RowsFit s q t.toNat 1 ∧ (Sound s ∧ Gang s ∧ OneQuarter s q ∧ Clean s [⟨.src, BitVec.ofNat 7 (104 + g.toNat), 1⟩] ∧ (∀ l ∈ s.issue.lanes, (s.lane l).held = []) ∧ w = greg s g.toNat ∧ s.mmaCheck q s.issue.lanes t x y p.toNat w = .ok (ra, rb)) ∧ (queueOf s q).length < 8 ∧ s.boardWaits s.issue.ctx s.issue.vc .c ((mmaReads (s.issCore).scratch ra rb w p.toNat q).map (fun a => (a, a))) false = false ∧ (mmaClass ra rb = 2 → ∀ r ∈ s.aux.residue.take (s.mmaChecks q t.toNat ra w), r = 0) :=
  ⟨reserved [[], []], 0#4, 0#3, 0#4, 1#4, 0#4, 0, 0#32, recA, recB, (rows_fit (by decide +kernel)), by decide +kernel, by decide +kernel⟩

theorem wit_EnginePasses_c2 : ∃ (s : State) (t : BitVec 4) (q : _), RowsFit s q t.toNat 0 ∧ Gang s ∧ OneQuarter s q ∧ (queueOf s q).length < 8 :=
  ⟨gang [[], []], 0#4, 0, (rows_fit (by decide +kernel)), by decide +kernel⟩

theorem wit_EnginePasses_c3 : ∃ (s : State) (sw : Bool) (d : _) (a : _) (t : _) (q : _), RowsFit s q t.toNat 0 ∧ ((Instr.accRd sw d a t).wf = true ∧ Sound s ∧ Gang s ∧ OneQuarter s q ∧ Clean s (Instr.accRd sw d a t).ops ∧ (queueOf s q).length < 8 ∧ (∀ l ∈ s.issue.lanes, val s l a 1 < 2 ^ 12)) ∧ (s.shapeAfter s.issue.ctx s.issue.vc s.issue.line q t.toNat).cls ≠ 2 :=
  ⟨tiled (gang [[(3, 0xFFF#32)], [(3, 0x7#32)]]), false, 4#7, 3#7, 0#4, 0, (rows_fit (by decide +kernel)), by decide +kernel, by decide +kernel⟩

theorem wit_EnginePasses_c4 : ∃ (s : State) (c : _) (v : _) (q : _) (p : _) (rest : _), (∀ n, p.fuse = some n → p.waits = false ∧ s.joined c v n = [q]) ∧ (∀ e ∈ s.badStores, ∀ k, e.1 ≠ .tile c v p.line k) ∧ s.coreHere c v = true ∧ q < 4 ∧ s.queue c v q = p :: rest :=
  ⟨(reserved [[]]).setQueue 0 0 0 [.mma 0 0 0 1 recA recB 0#32 0 false 0 [0] ⟨0, false⟩], 0, 0, 0, .mma 0 0 0 1 recA recB 0#32 0 false 0 [0] ⟨0, false⟩, [], (fun n h => by cases (show some 0 = some n from h); decide +kernel), (fun e h => by cases h), by decide +kernel⟩

theorem wit_Drains_c1 : ∃ (i : Instr) (s : State) (sw : Bool) (a : _) (t : _) (f : _) (L : _) (q : _) (ops : _), (i = .drain sw a t f ∧ L = 0 ∧ ops = [⟨.src, a, 2⟩] ∨ ∃ d m, i = .drainMx sw d a m t f ∧ L = 4 * 2 ^ m.toNat ∧ ops = [⟨.src, a, 2⟩, ⟨.src, d, 2⟩]) ∧ RowsFit s q t.toNat 0 ∧ NoDrain s q ∧ i.wf = true ∧ Sound s ∧ Gang s ∧ OneQuarter s q ∧ Clean s ops ∧ s.issLine.drainOf q = none ∧ (∀ l ∈ s.issue.lanes, (s.lane l).held = []) :=
  ⟨.drain false 2#7 0#4 1#4, tiled (gang [[(2, 0x100#32)], []]), false, 2#7, 0#4, 1#4, 0, 0, [⟨.src, 2#7, 2⟩], (Or.inl ⟨rfl, rfl, rfl⟩), (rows_fit (by decide +kernel)), (no_drain (by decide +kernel)), by decide +kernel⟩

theorem wit_Drains_c2 : ∃ (s : State) (q : _) (n : _), (s.shapeAfter s.issue.ctx s.issue.vc s.issue.line q n).complete = false :=
  ⟨gang [[]], 0, 1, by decide +kernel⟩

theorem wit_Drains_c3 : ∃ (s : State) (c : _) (v : _) (line : _) (q : _) (d : _) (w : _) (rest : _), (∃ r, s.openPage c w.ia false true = .ok r) ∧ (s.coreHere c v = true ∧ (s.line c v line).drainOf q = some d ∧ d.held = false ∧ (s.thread ⟨c, v, line, d.lanes.headD 0⟩).held = [] ∧ d.writes = w :: rest ∧ w.bytes ≠ [] ∧ w.attr ≠ 2) ∧ OneLine w.ia w.bytes.length ∧ s.boardWaits c v .g [(w.ia, w.ia + w.bytes.length - 1)] true = false ∧ s.wbHeld = [] ∧ s.halves = [] ∧ (∀ x ∈ (s.core c v).l1, ∀ b ∈ x.bytes, b.2.2 = false) ∧ (s.ctx c).ckpt.cut = none ∧ (look s.lines ⟨c, v, line⟩).isSome :=
  ⟨(gang [[]]).modIssLine (fun x => { x with drains := [(0, { lanes := [0], pos := ⟨0, false⟩, writes := [{ va := 0x100, ia := 0x100, attr := 0, bytes := List.replicate 64 7#8 }] })] }), 0, 0, 0, 0, { lanes := [0], pos := ⟨0, false⟩, writes := [{ va := 0x100, ia := 0x100, attr := 0, bytes := List.replicate 64 7#8 }] }, { va := 0x100, ia := 0x100, attr := 0, bytes := List.replicate 64 7#8 }, [], (ok_some (by decide +kernel)), by decide +kernel, by decide +kernel⟩

theorem wit_JobAdmission_c1 : ∃ (i : Instr) (s : State) (d : _) (a : _) (e : _) (bytes : _) (plan : _), jobForm i = some (d, a, e, bytes, plan) ∧ i.wf = true ∧ Sound s ∧ Gang s ∧ Clean s i.ops ∧ (s.ctx? s.issue.ctx).isSome :=
  ⟨.chain false 4#7 2#7, recorded 0x80 1 chainRec (gang [[(2, 0x80#32)]]), 4#7, 2#7, .chain, 128, chainPlan, (rfl), by decide +kernel⟩

theorem wit_JobElements_c1 : ∃ (s : State) (c : _) (n : _) (j : _) (r : _), Runs s c n j ∧ j.kind = .copy r ∧ j.next < j.total ∧ s.awayOf r = .own ∧ s.halves = [] :=
  ⟨withJob { job (.copy (BitVec.ofNat 4096 copyRec)) with next := 3 } (gang [[]]), 0, 0, { job (.copy (BitVec.ofNat 4096 copyRec)) with next := 3 }, BitVec.ofNat 4096 copyRec, by decide +kernel⟩

theorem wit_JobElements_c2 : ∃ (s : State) (c : _) (n : _) (j : _) (r : _), Runs s c n j ∧ j.kind = .chain r ∧ j.next < j.total ∧ s.halves = [] ∧ (∀ x ∈ s.aux.residue.take (chChecks r).length, x = 0) :=
  ⟨withJob (job (.chain (BitVec.ofNat 1024 chainRec))) (gang [[]]), 0, 0, job (.chain (BitVec.ofNat 1024 chainRec)), BitVec.ofNat 1024 chainRec, by decide +kernel⟩

theorem wit_JobElements_c3 : ∃ (s : State) (c : _) (n : _) (j : _) (r : _), Runs s c n j ∧ j.kind = .copy r ∧ j.total ≤ j.next :=
  ⟨withJob { job (.copy (BitVec.ofNat 4096 copyRec)) with next := 4 } (gang [[]]), 0, 0, { job (.copy (BitVec.ofNat 4096 copyRec)) with next := 4 }, BitVec.ofNat 4096 copyRec, by decide +kernel⟩

theorem wit_JobElements_c4 : ∃ (s : State) (c : _) (n : _) (j : _), look (s.ctx c).jobs n = some j ∧ j.retired = false ∧ j.stalled = false ∧ j.code = 0 ∧ j.after ≠ [] :=
  ⟨withJob { job (.copy (BitVec.ofNat 4096 copyRec)) with after := [1] } (gang [[]]), 0, 0, { job (.copy (BitVec.ofNat 4096 copyRec)) with after := [1] }, by decide +kernel⟩

theorem wit_JobsEndAndWait_c1 : ∃ (s : State) (c : _) (n : _) (j : _), Quiet s c ∧ look (s.ctx c).jobs n = some j ∧ j.retired = false ∧ j.after = [] ∧ (∀ x ∈ s.agenda, faultOf c n x = false) ∧ (∀ w ∈ s.waits, w.on ≠ .job c n) ∧ s.wbHeld = [] ∧ (∀ x ∈ (s.core c j.vc).l1, ∀ b ∈ x.bytes, b.2.2 = false) :=
  ⟨withJob (job (.copy (BitVec.ofNat 4096 copyRec))) (gang [[]]), 0, 0, job (.copy (BitVec.ofNat 4096 copyRec)), (quiet_of (by decide +kernel)), by decide +kernel⟩

theorem wit_JobsEndAndWait_c2 : ∃ (s : State) (c : _) (n : _) (j : _) (w : _), Quiet s c ∧ (look (s.ctx c).jobs n = some j ∧ j.retired = false ∧ j.after = [] ∧ (∀ x ∈ s.agenda, faultOf c n x = false) ∧ s.waits.filter (fun w => w.on == .job c n) = [w] ∧ s.wbHeld = [] ∧ (∀ x ∈ (s.core c j.vc).l1, ∀ b ∈ x.bytes, b.2.2 = false)) ∧ j.code ≠ 0 ∧ j.code ≠ 3 :=
  ⟨{ withJob { job (.copy (BitVec.ofNat 4096 copyRec)) with code := 5 } (gang [[]]) with waits := [{ on := .job 0 0, reply := { ctx := 0, vc := 0, line := 0, lanes := [0], regs := [(0, [4])], gs := [], pushes := [], stamp := 0 }, pos := ⟨0, false⟩ }] }, 0, 0, { job (.copy (BitVec.ofNat 4096 copyRec)) with code := 5 }, { on := .job 0 0, reply := { ctx := 0, vc := 0, line := 0, lanes := [0], regs := [(0, [4])], gs := [], pushes := [], stamp := 0 }, pos := ⟨0, false⟩ }, (quiet_of (by decide +kernel)), by decide +kernel, by decide +kernel⟩

theorem wit_JobsEndAndWait_c3 : ∃ (s : State) (sw : Bool) (d : _) (a : _) (l : _), (Instr.cpyw sw d a).wf = true ∧ Sound s ∧ Gang s ∧ Clean s (Instr.cpyw sw d a).ops ∧ s.issue.lanes = [l] :=
  ⟨withJob (job (.copy (BitVec.ofNat 4096 copyRec))) (gang [[]]), false, 4#7, 3#7, 0, by decide +kernel⟩

theorem wit_CollectiveWindows_c1 : ∃ (s : State) (c : _) (n : _) (j : _) (r : _) (p : _) (rank : _) (ranks : _) (formed : _) (w : _), look (s.ctx c).jobs n = some j ∧ j.kind = .coll r p rank ranks 0 formed ∧ j.retired = false ∧ 0 < w :=
  ⟨withJob (job (.coll (BitVec.ofNat 4096 copyRec) { cid := 0, ckind := 1, rmask := 1, root := 0, ren := true, rop := 0, rfmt := 10, sfmt := 10, elems := 4 } 0 1 0 [])) (gang [[]]), 0, 0, job (.coll (BitVec.ofNat 4096 copyRec) { cid := 0, ckind := 1, rmask := 1, root := 0, ren := true, rop := 0, rfmt := 10, sfmt := 10, elems := 4 } 0 1 0 []), BitVec.ofNat 4096 copyRec, { cid := 0, ckind := 1, rmask := 1, root := 0, ren := true, rop := 0, rfmt := 10, sfmt := 10, elems := 4 }, 0, 1, [], 64, by decide +kernel⟩

theorem wit_CollectiveWindows_c2 : ∃ (s : State) (c : _) (n : _) (j : _) (r : _) (p : _) (rank : _) (ranks : _) (w : _) (formed : _) (elem : _) (m : CollMsg) (v : _), (Runs s c n j ∧ j.kind = .coll r p rank ranks w formed ∧ elem ∉ formed ∧ elem < j.total ∧ m.dest = fabCoords s.hub.fabric.recd ∧ m.body = .root v ∧ m.parms.cid = p.cid) ∧ s.halves = [] :=
  ⟨withJob (job (.coll (BitVec.ofNat 4096 copyRec) { cid := 0, ckind := 1, rmask := 1, root := 0, ren := true, rop := 0, rfmt := 10, sfmt := 10, elems := 4 } 0 1 4 [0])) (gang [[]]), 0, 0, job (.coll (BitVec.ofNat 4096 copyRec) { cid := 0, ckind := 1, rmask := 1, root := 0, ren := true, rop := 0, rfmt := 10, sfmt := 10, elems := 4 } 0 1 4 [0]), BitVec.ofNat 4096 copyRec, { cid := 0, ckind := 1, rmask := 1, root := 0, ren := true, rop := 0, rfmt := 10, sfmt := 10, elems := 4 }, 0, 1, 4, [0], 3, { group := 0, parms := { cid := 0, ckind := 1, rmask := 1, root := 0, ren := true, rop := 0, rfmt := 10, sfmt := 10, elems := 4 }, seq := 0, dest := [0, 0, 0, 0], body := .root 7 }, 7, by decide +kernel, by decide +kernel⟩

theorem wit_CollectiveWindows_c3 : ∃ (s : State) (m : CollMsg), m.dest ≠ fabCoords s.hub.fabric.recd :=
  ⟨gang [[]], { group := 0, parms := { cid := 0, ckind := 1, rmask := 1, root := 0, ren := true, rop := 0, rfmt := 10, sfmt := 10, elems := 4 }, seq := 0, dest := [1, 0, 0, 0], body := .grant 4 }, by decide +kernel⟩

theorem wit_CollectiveWindows_c4 : ∃ (s : State) (c : _) (n : _) (j : _) (r : _) (p : _) (rank : _) (ranks : _) (w : _) (formed : _) (m : CollMsg), look (s.ctx c).jobs n = some j ∧ j.kind = .coll r p rank ranks w formed ∧ j.retired = false ∧ j.code = 0 ∧ m.dest = fabCoords s.hub.fabric.recd ∧ m.parms.cid = p.cid :=
  ⟨withJob (job (.coll (BitVec.ofNat 4096 copyRec) { cid := 0, ckind := 1, rmask := 1, root := 0, ren := true, rop := 0, rfmt := 10, sfmt := 10, elems := 4 } 0 1 4 [0])) (gang [[]]), 0, 0, job (.coll (BitVec.ofNat 4096 copyRec) { cid := 0, ckind := 1, rmask := 1, root := 0, ren := true, rop := 0, rfmt := 10, sfmt := 10, elems := 4 } 0 1 4 [0]), BitVec.ofNat 4096 copyRec, { cid := 0, ckind := 1, rmask := 1, root := 0, ren := true, rop := 0, rfmt := 10, sfmt := 10, elems := 4 }, 0, 1, 4, [0], { group := 0, parms := { cid := 0, ckind := 1, rmask := 1, root := 0, ren := true, rop := 0, rfmt := 10, sfmt := 10, elems := 4 }, seq := 0, dest := [0, 0, 0, 0], body := .failed 4 }, by decide +kernel⟩

theorem wit_RandomStreams_c1 : ∃ (s : State) (sw : Bool) (d : _) (a : _) (b : _), (Instr.rng sw d a b).wf = true ∧ Sound s ∧ Gang s ∧ Clean s (Instr.rng sw d a b).ops :=
  ⟨gang [[(8, 1#32)], []], false, 4#7, 8#7, 106#7, by decide +kernel⟩

theorem wit_RandomStreams_c2 : ∃ (s : State) (sw : Bool) (d : _) (a : _) (bs : _), Record s (val s (s.issue.lanes.headD 0) a 2) 32 bs ∧ (Instr.rngReg sw d a).wf = true ∧ Sound s ∧ Gang s ∧ Clean s (Instr.rngReg sw d a).ops ∧ (s.ctx? s.issue.ctx).isSome :=
  ⟨recorded 0x80 1 (7 + 5 * 2 ^ 64 + (2 ^ 64 - 1) * 2 ^ 192) (gang [[(2, 0x80#32)]]), false, 4#7, 2#7, bytesN 32 (7 + 5 * 2 ^ 64 + (2 ^ 64 - 1) * 2 ^ 192), (⟨by decide +kernel, { ia := 0x80, len := 32, attr := 0, va := 0x80 }, by decide +kernel⟩), by decide +kernel⟩

theorem wit_VirtualCacheDefinition_c1 : ∃ (s : State) (sw : Bool) (d : _) (a : _) (n : _), (Instr.vcdef sw d a n).wf = true ∧ Sound s ∧ Gang s ∧ Clean s (Instr.vcdef sw d a n).ops :=
  ⟨gang [[(2, 0x84#32)], []], false, 4#7, 2#7, 0#3, by decide +kernel⟩

theorem wit_VirtualCacheDefinition_c2 : ∃ (s : State) (sw : Bool) (d : _) (n : _), (Instr.vcqry sw d n).wf = true ∧ Sound s ∧ Gang s ∧ Clean s (Instr.vcqry sw d n).ops :=
  ⟨gang [[], []], false, 4#7, 0#3, by decide +kernel⟩

theorem wit_VirtualCacheDefinition_c3 : ∃ (s : State) (c : _), (s.ctx? c).isSome :=
  ⟨gang [[]], 0, by decide +kernel⟩

theorem wit_SharesGranted : ∃ (s : State) (c : Nat) (r : BitVec 512) (own n : Nat) (sh : List Nat), s.grantShares c r own n = some sh :=
  ⟨gang [[]], 0, BitVec.ofNat 512 (1 + 2 ^ 102), 0, 2, Option.isSome_iff_exists.mp (by decide +kernel)⟩

theorem wit_VirtualCacheChanges_c1 : ∃ (s : State) (c : _) (n : _) (line : _) (l : _), s.pans = [] ∧ (s.ctx? c).isSome ∧ (s.vcOf c n).lines.filter (fun l => l.old && l.line == line) = [l] :=
  ⟨inCtx (fun c => { c with vcs := [(0, { state := .resizing, lines := [{ line := 5, sectors := [0], old := true }] })] }) (gang [[]]), 0, 0, 5, { line := 5, sectors := [0], old := true }, by decide +kernel⟩

theorem wit_VirtualCacheChanges_c2 : ∃ (s : State) (c : _) (n : _), s.pans = [] ∧ (s.ctx? c).isSome ∧ (s.vcOf c n).state ≠ .undefined ∧ (s.vcOf c n).state ≠ .stable :=
  ⟨inCtx (fun c => { c with vcs := [(0, { state := .releasing, lines := [{ line := 5, sectors := [0], old := false }] })] }) (gang [[]]), 0, 0, by decide +kernel⟩

theorem wit_CheckpointCuts_c1 : ∃ (s : State) (sw : Bool) (d : _) (a : _), (Instr.ckcut sw d a).wf = true ∧ Sound s ∧ Gang s ∧ Clean s (Instr.ckcut sw d a).ops ∧ (s.ctx? s.issue.ctx).isSome :=
  ⟨recorded 0x80 1 (4 + 2 ^ 32 + 0x100000 * 2 ^ 64) (gang [[(2, 0x80#32)]]), false, 4#7, 2#7, by decide +kernel⟩

theorem wit_CheckpointCuts_c2 : ∃ (s : _) (c : _) (n : _) (j : _) (r : _) (all : _) (e : _) (rest : _), (∃ x, s.walk c (e.2 * 2 ^ 14) = .ok x) ∧ Quiet s c ∧ Sound s ∧ s.activeCut c = some (n, j) ∧ j.retired = false ∧ j.stalled = false ∧ j.kind = .cut r all (e :: rest) ∧ s.granuleBad c e.2 = false ∧ s.wbHeld = [] :=
  ⟨cutting ({ job (.cut (BitVec.ofNat 512 (4 + 2 ^ 32 + 0x100000 * 2 ^ 64)) [(3, 3), (4, 4)] [(3, 3), (4, 4)]) with ranges := [(0, rr 0 (2 ^ 40 - 1) 0 0)] }), 0, 0, { job (.cut (BitVec.ofNat 512 (4 + 2 ^ 32 + 0x100000 * 2 ^ 64)) [(3, 3), (4, 4)] [(3, 3), (4, 4)]) with ranges := [(0, rr 0 (2 ^ 40 - 1) 0 0)] }, BitVec.ofNat 512 (4 + 2 ^ 32 + 0x100000 * 2 ^ 64), [(3, 3), (4, 4)], (3, 3), [(4, 4)], (ok_some (by decide +kernel)), (quiet_of (by decide +kernel)), by decide +kernel⟩

theorem wit_CheckpointCuts_c3 : ∃ (s : State) (c : _) (n : _) (j : _) (r : _) (all : _), Quiet s c ∧ s.activeCut c = some (n, j) ∧ j.retired = false ∧ j.stalled = false ∧ j.code = 0 ∧ j.kind = .cut r all [] ∧ s.wbHeld = [] :=
  ⟨cutting ({ job (.cut (BitVec.ofNat 512 (4 + 2 ^ 32 + 0x100000 * 2 ^ 64)) [(3, 3), (4, 4)] []) with ranges := [(0, rr 0 (2 ^ 40 - 1) 0 0)] }), 0, 0, { job (.cut (BitVec.ofNat 512 (4 + 2 ^ 32 + 0x100000 * 2 ^ 64)) [(3, 3), (4, 4)] []) with ranges := [(0, rr 0 (2 ^ 40 - 1) 0 0)] }, BitVec.ofNat 512 (4 + 2 ^ 32 + 0x100000 * 2 ^ 64), [(3, 3), (4, 4)], (quiet_of (by decide +kernel)), by decide +kernel⟩

theorem wit_CheckpointCuts_c4 : ∃ (s : State) (c : _) (g : _) (n : _) (j : _) (r : _) (all : _) (todo : _), (∃ x, s.walk c (g * 2 ^ 14) = .ok x) ∧ Quiet s c ∧ Sound s ∧ s.activeCut c = some (n, j) ∧ j.kind = .cut r all todo ∧ (∃ e ∈ todo, e.2 = g) ∧ (∀ e ∈ todo, s.sameGranule c g e.2 = true → e.2 = g) ∧ s.granuleBad c g = false ∧ s.wbHeld = [] :=
  ⟨cutting ({ job (.cut (BitVec.ofNat 512 (4 + 2 ^ 32 + 0x100000 * 2 ^ 64)) [(3, 3), (4, 4)] [(3, 3), (4, 4)]) with ranges := [(0, rr 0 (2 ^ 40 - 1) 0 0)] }), 0, 4, 0, { job (.cut (BitVec.ofNat 512 (4 + 2 ^ 32 + 0x100000 * 2 ^ 64)) [(3, 3), (4, 4)] [(3, 3), (4, 4)]) with ranges := [(0, rr 0 (2 ^ 40 - 1) 0 0)] }, BitVec.ofNat 512 (4 + 2 ^ 32 + 0x100000 * 2 ^ 64), [(3, 3), (4, 4)], [(3, 3), (4, 4)], (ok_some (by decide +kernel)), (quiet_of (by decide +kernel)), by decide +kernel⟩

theorem wit_CheckpointCuts_c5 : ∃ (i : Instr) (s : State) (ty : _) (l : _) (sp : _), Opens s sp.ia false true false ∧ (storeForm i = some (.g, true, ty) ∧ i.wf = true ∧ Sound s ∧ Gang s ∧ Clean s i.ops ∧ Unheld s ∧ s.issue.lanes = [l]) ∧ (Maps s (address s l i .g) (width ty) false true sp ∧ sp.attr ≠ 2 ∧ sp.len = width ty ∧ GlobalFree s sp true ∧ OneLine sp.ia (width ty) ∧ OthersClean s sp.ia ∧ LineClean s sp.ia) ∧ SoleCopy s sp.ia :=
  ⟨.stGNt false 4#7 6#7 104#7 4#3, { cutting ({ job (.cut (BitVec.ofNat 512 (4 + 2 ^ 32 + 0x100000 * 2 ^ 64)) [(3, 3), (4, 4)] [(3, 3), (4, 4)]) with ranges := [(0, rr 0 (2 ^ 40 - 1) 0 0)] }) with threads := (gang [[(4, 0xAB#32), (6, 0xC07C#32)]]).threads }, 4#3, 0, { ia := 0xC07C, len := 4, attr := 0, va := 0xC07C }, (opens_ok (by decide +kernel)), by decide +kernel, by decide +kernel, by decide +kernel⟩

theorem wit_PrivilegedTraps_c1 : ∃ (i : Instr) (s : State), privilegedForm i = true ∧ i.wf = true ∧ Sound s ∧ Gang s ∧ Clean s i.ops ∧ s.stepping = false ∧ (s.issCtx).set.priv = false :=
  ⟨.step false 4#7 3#7, gang [[(3, 0x10000#32)]], by decide +kernel⟩

theorem wit_Watchpoints_c1 : ∃ (s : State) (sw : Bool) (d : _) (a : _) (b : _), (Instr.wpset sw d a b).wf = true ∧ Sound s ∧ Gang s ∧ Clean s (Instr.wpset sw d a b).ops ∧ (s.issCtx).set.priv = true :=
  ⟨privileged (gang [[(2, 0x100#32), (5, 0x8C#32)]]), false, 4#7, 2#7, 5#7, by decide +kernel⟩

theorem wit_Watchpoints_c2 : ∃ (s : State) (sw : Bool) (b : _), (Instr.wpclr sw b).wf = true ∧ Sound s ∧ Gang s ∧ Clean s [⟨.src, b, 1⟩] ∧ (s.issCtx).set.priv = true :=
  ⟨watched, false, 5#7, by decide +kernel⟩

theorem wit_StepStarts_c1 : ∃ (s : State) (sw : Bool) (d : _) (a : _), (Instr.step sw d a).wf = true ∧ Sound s ∧ Gang s ∧ Clean s (Instr.step sw d a).ops ∧ (s.issCtx).set.priv = true ∧ s.stepping = false :=
  ⟨privileged (gang [[(3, 0x10001#32)]]), false, 4#7, 3#7, by decide +kernel⟩

theorem wit_FaultReplay_c1 : ∃ (s : State) (sw : Bool) (a : _), (Instr.fltReplay sw a).wf = true ∧ Sound s ∧ Gang s ∧ Clean s [⟨.src, a, 1⟩] ∧ (s.issCtx).set.priv = true :=
  ⟨privileged (gang [[(3, 0x400#32)]]), false, 3#7, by decide +kernel⟩

theorem wit_ScanStarts_c1 : ∃ (i : Instr) (s : State) (sw : Bool) (d : _) (a : _) (b : _), scanForm i = some (sw, d, a, b) ∧ i.wf = true ∧ Sound s ∧ Gang s ∧ Clean s [⟨.src, a, 2⟩, ⟨.src, b, 1⟩, ⟨.dst, d, 1⟩] ∧ (s.issCtx).set.priv = true ∧ (s.ctx? s.issue.ctx).isSome :=
  ⟨.scanStop false 4#7 2#7 5#7, privileged (gang [[(2, 0x1000#32), (5, 1#32)]]), false, 4#7, 2#7, 5#7, by decide +kernel⟩

theorem wit_LeavingCores_c1 : ∃ (s : State) (c : _), (s.ctx c).set.preq = true :=
  ⟨inCtx (fun x => { x with set := { x.set with preq := true } }) (gang [[]]), 0, by decide +kernel⟩

theorem wit_LeavingCores_c2 : ∃ (s : State) (c : _), (s.ctx c).set.preq = false :=
  ⟨gang [[]], 0, by decide +kernel⟩

theorem wit_LeavingCores_c3 : ∃ (s : State) (c : _) (v : _) (p : _), (s.ctx c).set.preq = true ∧ s.releasable c v = true ∧ s.phys? c v = some p ∧ (s.ctx c).place.filter (fun e => e.1 == v) = [(v, p)] ∧ CoreClean s c v ∧ s.halves = [] :=
  ⟨eachThread (fun t => { t with stat := .bar }) (inCtx (fun x => { x with set := { x.set with preq := true } }) (gang [[]])), 0, 0, 0, by decide +kernel⟩

theorem wit_LeavingCores_c4 : ∃ (s : State) (c : _) (v : _), s.releasable c v = false :=
  ⟨gang [[]], 0, 0, by decide +kernel⟩

theorem wit_LeavingCores_c5 : ∃ (s : State) (c : _) (v : _) (k : StopKind), (s.phys? c v).isSome ∧ (k ≠ .scan → (s.ctx c).set.preq = true) ∧ (s.core c v).run = .running ∧ CoreClean s c v ∧ s.halves = [] :=
  ⟨inCtx (fun x => { x with set := { x.set with preq := true } }) (gang [[]]), 0, 0, .deadline, by decide +kernel⟩

theorem wit_LeavingCores_c6 : ∃ (s : State) (c : _) (v : _) (k : StopKind) (sq : _) (clk : _) (p : _), (s.core c v).run = .scanning k sq clk ∧ s.phys? c v = some p ∧ (s.ctx c).place.filter (fun e => e.1 == v) = [(v, p)] :=
  ⟨(gang [[]]).modCore 0 1 (fun x => { x with run := .scanning .scan none 0 }), 0, 1, .scan, none, 0, 1, by decide +kernel⟩

theorem wit_ComingBack_c1 : ∃ (s : State) (c : _) (cores : _) (m : _), (s.ctx? c).isSome ∧ (s.ctx c).place.length ≠ (s.ctx c).n ∧ ((s.ctx c).place = [] ∨ (s.ctx c).set.preq = false) ∧ (∀ e ∈ s.hub.stopped, e.2.1 ≠ c) ∧ s.spoiled c = false ∧ s.choosePlace c cores = some m :=
  ⟨{ inCtx (fun x => { x with n := 1, place := [], set := { x.set with preq := true } }) (gang [[]]) with cores := [(⟨0, 0⟩, { run := .record })] }, 0, [3], [(0, 3)], by decide +kernel⟩

theorem wit_ComingBack_c2 : ∃ (s : State) (c : _), (s.ctx? c).isSome ∧ (s.ctx c).place.length = (s.ctx c).n :=
  ⟨gang [[]], 0, by decide +kernel⟩

theorem wit_ComingBack_c3 : ∃ (s : State) (c : _) (v : _) (p : _), Still s c ∧ (s.scanJob 1 p = none ∧ (s.ctx? c).isSome ∧ s.phys? c v = none ∧ (put (s.ctx c).place v p).length = (s.ctx c).n ∧ v < (s.ctx c).n ∧ s.placeOk c (put (s.ctx c).place v p) = true ∧ s.coreIdle p = true) ∧ s.fits c v p = true ∧ (∀ e ∈ s.hub.stopped, e.2 ≠ (c, v)) ∧ s.mustWait c = false :=
  ⟨{ inCtx (fun x => { x with n := 1, place := [], set := { x.set with preq := true } }) (gang [[]]) with cores := [(⟨0, 0⟩, { run := .record })] }, 0, 0, 3, (still_of (by decide +kernel)), by decide +kernel, by decide +kernel⟩

theorem wit_ComingBack_c4 : ∃ (s : State) (c : _) (cores : _), (∀ v p, (v, p) ∈ (List.range (s.ctx c).n).zip cores → s.phys? c v ≠ some p → (s.core c v).run = .running ∧ (s.releasable c v = true ∨ Config.coreRev (s.phys c v) = Config.coreRev p) ∧ s.repliesDue c v = false ∧ CoreClean s c v) ∧ Still s c ∧ (s.ctx? c).isSome ∧ (s.ctx c).place.length = (s.ctx c).n ∧ cores.length = (s.ctx c).n ∧ ((s.ctx c).place.map (·.1)).Nodup ∧ s.placeOk c ((List.range (s.ctx c).n).zip cores) = true ∧ s.halves = [] :=
  ⟨eachThread (fun t => { t with stat := .bar }) (inCtx (fun x => { x with n := 1, place := [(0, 0)] }) (gang [[]])), 0, [1], (by
      intro v p h _
      have h : (v, p) ∈ [(0, 1)] := h
      obtain ⟨rfl, rfl⟩ : v = 0 ∧ p = 1 := by simpa using h
      exact ⟨by decide +kernel, Or.inl (by decide +kernel), by decide +kernel, by decide +kernel⟩), (still_of (by decide +kernel)), by decide +kernel⟩

theorem wit_FramesRefused_c1 : ∃ (i : Instr) (h : _), mgmtHdr i = some h :=
  ⟨.queueUnbind hdr0 0, hdr0, (rfl)⟩











theorem wit_TranslationManagement_c4 : ∃ (s : State) (h : _) (c : _) (x : _), Taken s h ∧ s.ctx? c = some x :=
  ⟨hosted, hdr0, 0, hosted.issCtx, (hosted_taken), (rfl)⟩






theorem wit_SettingsManagement_c6 : ∃ (s : State) (h : _) (c : _) (va : _) (n : _) (x : _) (ss : _) (u : _), Taken s h ∧ s.ctx? c = some x ∧ s.openPages c (spanIas ss) true false = .ok u ∧ s.mapVa c va n true false = some ss ∧ u.badByte c (spanIas ss) = none :=
  ⟨hosted, hdr0, 0, 0x100, 2, hosted.issCtx, [{ ia := 0x100, len := 2, attr := 0, va := 0x100 }], _, (hosted_taken), (rfl), (rfl), by decide +kernel⟩


theorem wit_FaultsAndTrapsAnswered_c1 : ∃ (s : State) (n : FaultNote), (s.ctx? n.ctx).isSome :=
  ⟨gang [[]], { ctx := 0, vc := 0, line := 0, die := 0, src := 0, cause := 1, kind := 0, vcache := 0, lvl := 0, ia := 0, va := 0, lanes := [0], job := none }, by decide +kernel⟩


theorem wit_FaultsAndTrapsAnswered_c3 : ∃ (s : State) (h : _) (d : _) (f : _) (r : _) (l : _) (x : _) (id : _), Taken s h ∧ (x.stat = .run ∨ x.stat = .parked id) ∧ Answered s d f r l x :=
  ⟨faulted .run [heldStore], hdr0, 0, 7, { fid := 7, note := { ctx := 0, vc := 0, line := 0, die := 0, src := 0, cause := 1, kind := 1, vcache := 0, lvl := 0, ia := 0x107C, va := 0x107C, lanes := [0], job := none } }, 0, (faulted .run [heldStore]).thread ⟨0, 0, 0, 0⟩, 0, (faulted_taken _ _), (Or.inl rfl), by decide +kernel⟩

theorem wit_FaultsAndTrapsAnswered_c4 : ∃ (s : State) (h : _) (d : _) (f : _) (r : _) (l : _) (x : _) (id : _), Taken s h ∧ Answered s d f r l x ∧ x.held = [] ∧ x.stat = .parkedRetry id :=
  ⟨faulted (.parkedRetry 5) [], hdr0, 0, 7, { fid := 7, note := { ctx := 0, vc := 0, line := 0, die := 0, src := 0, cause := 1, kind := 1, vcache := 0, lvl := 0, ia := 0x107C, va := 0x107C, lanes := [0], job := none } }, 0, (faulted (.parkedRetry 5) []).thread ⟨0, 0, 0, 0⟩, 5, (faulted_taken _ _), by decide +kernel⟩

theorem wit_FaultsAndTrapsAnswered_c5 : ∃ (s : State) (h : _) (d : _) (f : _) (r : _) (l : _) (x : _) (y : _), Taken s h ∧ (∀ q m, x.stat ≠ .trapped q m) ∧ Answered s d f r l x ∧ x.held = [y] ∧ y.faulted = some r.note.ia :=
  ⟨faulted .run [heldStore], hdr0, 0, 7, { fid := 7, note := { ctx := 0, vc := 0, line := 0, die := 0, src := 0, cause := 1, kind := 1, vcache := 0, lvl := 0, ia := 0x107C, va := 0x107C, lanes := [0], job := none } }, 0, (faulted .run [heldStore]).thread ⟨0, 0, 0, 0⟩, heldStore, (faulted_taken _ _), (fun q m h => by cases h), by decide +kernel⟩

theorem wit_FaultsAndTrapsAnswered_c6 : ∃ (s : State) (c : _) (x : _) (r : _) (rest : _), s.ctx? c = some x ∧ x.traps.waiting = r :: rest :=
  ⟨inCtx (fun x => { x with traps := { waiting := [5] } }) hosted, 0, { ctx0 with traps := { waiting := [5] } }, 5, [], by decide +kernel⟩

theorem wit_FaultsAndTrapsAnswered_c7 : ∃ (s : State) (h : _) (c : _) (q : _), Taken s h ∧ s.trappedLanes c q = [] :=
  ⟨hosted, hdr0, 0, 0, (hosted_taken), by decide +kernel⟩

theorem wit_FaultsAndTrapsAnswered_c8 : ∃ (s : State) (h : _) (c : _) (q : _), Taken s h ∧ (∃ e ∈ s.trappedLanes c q, e.2 = true) :=
  ⟨eachThread (fun t => { t with stat := .trapped 0 true }) hosted, hdr0, 0, 0, (taken_of (by decide +kernel) rfl hdr0_tag (by decide +kernel)), by decide +kernel⟩

theorem wit_FaultsAndTrapsAnswered_c9 : ∃ (s : State) (h : _) (c : _) (q : _), Taken s h ∧ Still s c ∧ s.trappedLanes c q ≠ [] ∧ (∀ e ∈ s.trappedLanes c q, e.2 = false ∧ s.coreHere c e.1.vc = true ∧ (s.thread e.1).heldTrap = false) :=
  ⟨eachThread (fun t => { t with stat := .trapped 0 false }) hosted, hdr0, 0, 0, (taken_of (by decide +kernel) rfl hdr0_tag (by decide +kernel)), (still_of (by decide +kernel)), by decide +kernel⟩

theorem wit_FaultsAndTrapsAnswered_c10 : ∃ (s : State) (h : _) (c : _) (q : _) (p : _) (m : _), Taken s h ∧ s.trappedLanes c q = [(p, m)] ∧ s.coreHere c p.vc = true ∧ s.groupOf c ⟨p.vc, p.line, p.lane⟩ = none ∧ (s.line c p.vc p.line).drains = [] :=
  ⟨eachThread (fun t => { t with stat := .trapped 0 false }) hosted, hdr0, 0, 0, ⟨0, 0, 0, 0⟩, false, (taken_of (by decide +kernel) rfl hdr0_tag (by decide +kernel)), by decide +kernel⟩

theorem wit_HostPort_c1 : ∃ (s : State) (h : _) (w : _) (o : _) (data : List Byte) (c : Nat) (ias : List Nat), TakenOn s h 0x20 ∧ (s.hostGo h w o data.length true = .go c ias ∧ ias.length = data.length ∧ data ≠ [] ∧ (∀ a ∈ ias, a / 128 = (ias.headD 0) / 128) ∧ ias.Nodup ∧ (∀ a ∈ ias, a < 2 ^ 52) ∧ (s.ctx c).ckpt.cut = none) ∧ s.halves = [] :=
  ⟨hosted, hdrOf 1 0x20, 0, 0xFF, [7#8], 0, [0x1FF], (hosted_writes), by decide +kernel, by decide +kernel⟩

theorem wit_HostPort_c2 : ∃ (s : State) (h : _) (w : _) (o : _) (n : _) (c : _) (ias : _), TakenOn s h 0x21 ∧ s.hostGo h w o n false = .go c ias ∧ s.badByte c ias = none ∧ (∀ a ∈ ias, a < 2 ^ 52) :=
  ⟨hosted, hdrOf 1 0x21, 0, 0xFE, 2, 0, [0x1FE, 0x1FF], (hosted_reads), by decide +kernel⟩

theorem wit_HostPort_c5 : ∃ (s : State) (h : Hdr) (w : _) (o : _) (n : _) (wr : _), (∀ x, look s.hub.windows w = some x → x.sess ≠ h.sess ∨ (wr = true ∧ x.wr = false) ∨ (wr = false ∧ x.rd = false) ∨ x.size < o + n ∨ 8192 < n) :=
  ⟨hosted, hdrOf 1 0x20, 0, 0xFF, 2, true, (by
      intro x h
      obtain rfl : (⟨1, 0, 0x100, 0x100, true, true⟩ : Window) = x := by simpa using (show some _ = some x from h)
      decide)⟩

theorem wit_HostPort_c6 : ∃ (s : State) (h : Hdr) (ack : _) (x : _), (∀ e ∈ x.unacked, ∀ r, e.2 ≠ .event r) ∧ s.hub.power = .up ∧ s.lctOk h = true ∧ look s.hub.sessions h.sess = some x ∧ x.tagHolds { h with ack := ack } 0x02 = true ∧ s.hub.paused = 0#8 ∧ x.owed = [] :=
  ⟨sentTwo, ackHdr 2, 1, { ctx := 0, key := 0, next := 3, unacked := [(1, .mgmt 3 0 []), (2, .mgmt 4 0 [])] }, (by intro e h r; simp only [List.mem_cons, List.not_mem_nil, or_false] at h; rcases h with rfl | rfl <;> exact fun k => by cases k), by decide +kernel⟩

theorem wit_HostPort_c7 : ∃ (s : State) (h : Hdr) (c : _) (x : _), (∀ e ∈ x.unacked, ∀ r, e.2 ≠ .event r) ∧ (s.hub.power = .up ∧ h.sess = 0 ∧ s.lctOk h = true ∧ look s.hub.sessions 0 = some x ∧ x.tagHolds h 0x30 = true ∧ h.seq = x.expect ∧ h.ack ≠ 0) ∧ s.hub.paused = 0#8 ∧ x.owed = [] ∧ x.unacked.length < 256 ∧ s.ctx? c = none :=
  ⟨sentTwo, ackHdr 0x30, 7, { ctx := 0, key := 0, next := 3, unacked := [(1, .mgmt 3 0 []), (2, .mgmt 4 0 [])] }, (by intro e h r; simp only [List.mem_cons, List.not_mem_nil, or_false] at h; rcases h with rfl | rfl <;> exact fun k => by cases k), by decide +kernel, by decide +kernel⟩

theorem wit_HostPort_c8 : ∃ (s : State) (h : Hdr) (c : _) (x : _), s.hub.paused.getLsbD (Config.sessionPriority 0 % 8) = true ∧ h.sess = 0 ∧ Accepted s h 0x30 x ∧ s.ctx? c = none :=
  ⟨{ hosted with hub := { hosted.hub with paused := 0xFF#8 } }, hdr0, 7, { ctx := 0, key := 0 }, (by
      have h := Nat.mod_lt (Config.sessionPriority 0) (show 8 > 0 by decide)
      generalize Config.sessionPriority 0 % 8 = k at h ⊢
      interval_cases k <;> rfl), by decide +kernel⟩

theorem wit_HostPort_c9 : ∃ (s : State) (n : _) (x : _), s.hub.power = .up ∧ s.hub.paused = 0#8 ∧ look s.hub.sessions n = some x :=
  ⟨hosted, 1, { ctx := 0, key := 0 }, by decide +kernel⟩

theorem wit_HostPort_c15 : ∃ (s : State), s.hub.power = .up :=
  ⟨hosted, by decide +kernel⟩

theorem wit_Launches_c2 : ∃ (s : State) (h : _) (q : _) (x : _), (s.hub.power = .up ∧ s.lctOk h = true ∧ look s.hub.sessions h.sess = some x ∧ x.tagHolds h 0x10 = true ∧ h.seq = x.expect ∧ h.ack = 0 ∧ 256 ≤ x.unacked.length) ∧ look s.queues q = none :=
  ⟨{ queued launch0 with hub := { hosted.hub with sessions := [(1, { ctx := 0, key := 0, unacked := List.replicate 256 (1, .mgmt 3 0 []) })] } }, hdrOf 1 0x10, 9, { ctx := 0, key := 0, unacked := List.replicate 256 (1, .mgmt 3 0 []) }, by decide +kernel, by decide +kernel⟩

theorem wit_Launches_c3 : ∃ (s : State) (h : _), TakenOn s h 0x10 :=
  ⟨queued launch0, hdrOf 1 0x10, (⟨rfl, { ctx := 0, key := 0 }, by decide +kernel⟩)⟩

theorem wit_Launches_c4 : ∃ (s : State) (u : _) (l : _) (k : _), look s.launches u = some l ∧ l.state = .waiting ∧ k ∈ l.edges :=
  ⟨queued { launch0 with edges := [0, 1] }, 0, { launch0 with edges := [0, 1] }, 1, by decide +kernel⟩

theorem wit_Launches_c5 : ∃ (s : State) (u : _) (l : _), look s.launches u = some l ∧ l.state = .started ∧ l.live = 0 ∧ l.units = [] ∧ l.groups = [] ∧ lrFbuf l.recd = 0 :=
  ⟨queued { launch0 with state := .started }, 0, { launch0 with state := .started }, by decide +kernel⟩

theorem wit_Launches_c6 : ∃ (s : State) (u : _) (l : _), look s.launches u = some l ∧ (l.state ≠ .started ∨ l.live ≠ 0 ∨ l.units ≠ [] ∨ l.groups ≠ []) :=
  ⟨queued { launch0 with state := .started, live := 1 }, 0, { launch0 with state := .started, live := 1 }, by decide +kernel⟩

/-- The offered launch starts. -/
theorem wit_Starting_1 : ∃ (s : State) (q : Nat) (cores : List Nat) (u : Nat) (t : State), s.offerOf q = some u ∧ (s.sweepEntry u).nextStart cores = some u ∧
    (s.sweepEntry u).startLaunch u cores = some t ∧ t.offerOf q = none := by
  have h : (match ((queued launch0).sweepEntry 0).startLaunch 0 [] with | some t => decide (t.offerOf 7 = none) | none => false) = true := by decide +kernel
  refine ⟨queued launch0, 7, [], 0, ?_⟩
  revert h
  cases ((queued launch0).sweepEntry 0).startLaunch 0 [] with
  | none => exact fun h => by simp at h
  | some t => exact fun h => ⟨t, by decide +kernel, by decide +kernel, rfl, by simpa using h⟩

theorem wit_Starting_c2 : ∃ (s : State) (q : _), s.offerOf q = none :=
  ⟨hosted, 7, by decide +kernel⟩

theorem wit_Starting_c3 : ∃ (s : State) (q : Nat) (u : Nat), s.offerOf q = some u :=
  ⟨queued launch0, 7, 0, by decide +kernel⟩

theorem wit_Starting_c4 : ∃ (s : State) (u : _) (l : _), look s.launches u = some l :=
  ⟨queued { launch0 with state := .started, units := [(0, 0)] }, 0, { launch0 with state := .started, units := [(0, 0)] }, by decide +kernel⟩

theorem wit_Starting_c5 : ∃ (s : State) (u : _) (l : _) (e : _) (es : _), look s.launches u = some l ∧ l.state = .started ∧ l.units = e :: es ∧ (s.ctx l.ctx).n ≤ (s.ctx l.ctx).place.length ∧ ((s.sweepEntry u).placeBatch u l.recd (batch l.recd e)).isSome :=
  ⟨queued { launch0 with state := .started, units := [(0, 0)] }, 0, { launch0 with state := .started, units := [(0, 0)] }, (0, 0), [], by decide +kernel⟩

theorem wit_Starting_c6 : ∃ (s : State) (u : _) (l : _), look s.launches u = some l ∧ l.state = .started ∧ l.units ≠ [] ∧ (s.ctx l.ctx).n ≤ (s.ctx l.ctx).place.length :=
  ⟨queued { launch0 with state := .started, units := [(0, 0)] }, 0, { launch0 with state := .started, units := [(0, 0)] }, by decide +kernel⟩

theorem wit_StoresArrive_c1 : ∃ (s : State) (c : _) (v : _) (ia : _) (x : _), (∀ b ∈ x.bytes, ∃ r, s.openPage c (x.ia + b.1) false true = .ok r) ∧ (Sound s ∧ s.l1Find c v (ia / 128 * 128) = some x ∧ (∀ y ∈ (s.core c v).l1, y.ia = x.ia → y = x) ∧ (x.bytes.map (·.1)).Nodup ∧ (∀ b ∈ x.bytes, b.1 < 128) ∧ (s.ctx c).ckpt.cut = none ∧ x.ia + 128 ≤ 2 ^ 52) ∧ s.halves = [] ∧ s.wbHeld = [] :=
  ⟨soiled [[]], 0, 0, 0x83, { ia := 0x80, cls := 0, epoch := 0, bytes := [(3, 7#8, true), (4, 8#8, false)] }, (all_open (by decide +kernel)), by decide +kernel, by decide +kernel⟩

theorem wit_MigrationInvisible_c1 : ∃ (s : State) (c : _) (ia : _) (pa : _) (L : _) (e : _), (∀ M p, (M, p, e) ∈ (s.ctx c).trans.leaves → M = L) ∧ Sound s ∧ s.halves = [] ∧ s.walk c ia = .ok (L, e) ∧ peMig e = true ∧ (L = 2 → pa < lpBase) ∧ s.frameFree pa (pageSize L) = true :=
  ⟨inCtx (fun x => { x with trans := { x.trans with pages := [(0, 0x8000000000010000#64), (0x10000, 0x8000000000020000#64), (0x20000, 0x8000000000030000#64), (0x30000, 0xA380000000000000#64)] } }) (gang [[]]), 0, 5, 0x40000, 0, 0xA380000000000000#64, (leaf_level (by decide +kernel)), by decide +kernel⟩

theorem wit_DebugStops_c1 : ∃ (s : State) (h : Hit), s.ctx? h.ctx = none :=
  ⟨State.reset, { sq := 0, vals := [{ wp := 1, addr := 8, len := 4, old := 0, new := 0 }], kind := .load, lev := 3, ctx := 0, vc := 0, line := 0, lanes := [0], pos := ⟨0, false⟩, counts := [] }, by decide +kernel⟩

theorem wit_DebugStops_c2 : ∃ (s : State) (h : Hit) (w : Watch), (s.ctx? h.ctx).isSome ∧ h.kind ≠ .brk ∧ (∃ v ∈ h.vals, look (s.square h.sq).watches v.wp = some w) ∧ w.ctx = h.ctx ∧ (∀ d ∈ (s.square h.sq).stops, d.ctx ≠ h.ctx) :=
  ⟨(gang [[]]).modSquare 0 (fun q => { q with watches := [(1, { ctx := 0, kind := 0, lev := 3, len := 2, addr := 8, shown := 8 })] }), { sq := 0, vals := [{ wp := 1, addr := 8, len := 4, old := 0, new := 0 }], kind := .load, lev := 3, ctx := 0, vc := 0, line := 0, lanes := [0], pos := ⟨0, false⟩, counts := [] }, { ctx := 0, kind := 0, lev := 3, len := 2, addr := 8, shown := 8 }, by decide +kernel⟩

theorem wit_DebugStops_c3 : ∃ (s : State) (h : Hit) (d : _), (s.ctx? h.ctx).isSome ∧ d ∈ (s.square h.sq).stops ∧ d.ctx = h.ctx :=
  ⟨(gang [[]]).modSquare 0 (fun q => { q with stops := [{ ctx := 0, hits := [2], anyHit := true, brk := false }] }), { sq := 0, vals := [{ wp := 1, addr := 8, len := 4, old := 0, new := 0 }], kind := .load, lev := 3, ctx := 0, vc := 0, line := 0, lanes := [0], pos := ⟨0, false⟩, counts := [] }, { ctx := 0, hits := [2], anyHit := true, brk := false }, by decide +kernel⟩

theorem wit_DebugStops_c4 : ∃ (s : State) (h : Hit), (s.ctx? h.ctx).isSome ∧ h.kind ≠ .brk ∧ (∀ v ∈ h.vals, look (s.square h.sq).watches v.wp = none) ∧ (∀ d ∈ (s.square h.sq).stops, d.ctx ≠ h.ctx) :=
  ⟨gang [[]], { sq := 0, vals := [{ wp := 1, addr := 8, len := 4, old := 0, new := 0 }], kind := .load, lev := 3, ctx := 0, vc := 0, line := 0, lanes := [0], pos := ⟨0, false⟩, counts := [] }, by decide +kernel⟩

theorem wit_PortsBanksClocks_c3 : ∃ (s : State) (g : BankGroup) (k : _), s.groupThere g = true ∧ k ≤ 18 :=
  ⟨State.reset, ⟨.market, 0, 0⟩, 18, by decide +kernel⟩

theorem wit_PortsBanksClocks_c4 : ∃ (s : State) (g : BankGroup) (k : _) (r : _), (s.bankOf g).rebuilding = some (k, r) :=
  ⟨{ State.reset with hub := { ras := { banks := [(⟨.market, 0, 0⟩, { failed := [3], rebuilding := some (3, 5) })] } } }, ⟨.market, 0, 0⟩, 3, 5, by decide +kernel⟩

theorem wit_PortsBanksClocks_c5 : ∃ (d : Nat) (x : Nat), (x = 30 ∨ x = 27 ∨ x = 24) ∧ d ≤ 4 :=
  ⟨4, 24, (Or.inr (Or.inr rfl)), by decide +kernel⟩

theorem wit_PowerManagement_c2 : ∃ (s : State), s.hub.shrunk = 0 :=
  ⟨State.reset, by decide +kernel⟩

theorem wit_DecodeEncode : ∃ i w, i.wf = true ∧ encode i = some w ∧ otherScan i = false := ⟨.movi true 4#7 0x20000#18, 0x96120000#32, by decide +kernel⟩

theorem wit_EncodeDecode_1 : ∃ w i, (decodeWord w).toOption = some i := ⟨0x0A0C1FFF#32, .addiI32 false 3#7 3#7 0x7FF#11, by decide +kernel⟩

theorem wit_EncodeDecode_c2 : ∃ (w : _), (wordMajor w).toNat ∈ unassignedMajors :=
  ⟨0x6A000000#32, by decide +kernel⟩

theorem wit_EncodeDecode_c3 : ∃ (w : _), (wordMajor w).toNat = 0x3F ∧ wordFn w ≠ 0#4 :=
  ⟨0x7E000001#32, by decide +kernel⟩

/-- The image of a kernel of one word, `exit`, with one block and one role of 104 registers. -/
def image : List Byte := (List.range 256).map (byteOf (0x4B4C4D41 + 2 ^ 32 + 64 * 2 ^ 64 + 2 ^ 96 + 128 * 2 ^ 192 + 2 ^ 224 + 192 * 2 ^ 256 + 2 ^ 288 + 0x7A000003 * 2 ^ 512 + 104 * 2 ^ 1568))
theorem wit_AcceptedKernels : ∃ ctx priv ylim img k, checkKernel ctx priv ylim img = .ok k := ⟨0, false, 0x10000, image, ok_some (by decide +kernel)⟩

theorem wit_CodeStays : ∃ s t : State, HandlesOnce s ∧ step s = .next t ∧ ∃ h k m, look s.kernels h = some k ∧ look t.kernels h = some m := by
  refine ⟨{ State.reset with kernels := [(1, kern)], hub := { nextKhnd := 2 } }, _, by decide +kernel, rfl, 1, kern, kern, by decide +kernel, by decide +kernel⟩

theorem wit_StepRunsDecoded_1 : ∃ (s s1 : State) (w : Word) (i : Instr), s.choose = .issue w s1 ∧ (decodeWord w).toOption = some i := by
  obtain ⟨w, s1, h, e⟩ := issues (s := State.reset.withFetchWord 32 0x0A0C1FFF) (p := fun w => w = 0x0A0C1FFF#32) (by decide +kernel)
  exact ⟨_, s1, w, .addiI32 false 3#7 3#7 0x7FF#11, h, by subst e; decide +kernel⟩

theorem wit_StepRunsDecoded_2 : ∃ (s s1 : State) (w : Word), s.choose = .issue w s1 ∧ (decodeWord w).toOption = none := by
  obtain ⟨w, s1, h, e⟩ := issues (s := State.reset.withFetchWord 32 0) (p := fun w => w = 0#32) (by decide +kernel)
  exact ⟨_, s1, w, h, by subst e; decide +kernel⟩

theorem wit_StepRunsDecoded_3 : ∃ (s s1 : State) (i : Instr), s.choose = .event i s1 := ⟨{ State.reset with agenda := [.icmpEcho { addr := 5, payload := [] }] }, _, .icmpEcho { addr := 5, payload := [] }, rfl⟩

theorem wit_StepRunsDecoded_4 : ∃ s : State, s.choose = .idle := ⟨State.reset, rfl⟩

theorem wit_FetchedWord : ∃ (s s1 : State) (w : Word), (s.threads.map (·.1)).Nodup ∧ s.choose = .issue w s1 := by
  obtain ⟨w, s1, h, _⟩ := issues (s := State.reset.withFetchWord 32 0x0A0C1FFF) (p := fun w => w = 0x0A0C1FFF#32) (by decide +kernel)
  exact ⟨_, s1, w, by decide +kernel, h⟩

theorem wit_SettingsAndTilesGuarded_1 : (∃ (i : Instr) (s t : State), i.isWord = true ∧ exec i s = .next t ∧ s.issCtx.set.priv = false) ∧
    ∃ (i : Instr) (s t : State), i.isWord = true ∧ exec i s = .next t ∧ s.issCtx.set.priv = true ∧ (∀ sw a n, i ≠ .swr sw a n) ∧ (∀ sw a, i ≠ .swrPreq sw a) ∧
      ∀ sw a, i ≠ .swrFltcc sw a := by
  obtain ⟨t, h⟩ := nexts (i := .swr false 3#7 0x42#8) (s := gang [[]]) (by decide +kernel)
  obtain ⟨u, g⟩ := nexts (i := .swrFst false 3#7) (s := privileged (gang [[]])) (by decide +kernel)
  exact ⟨⟨_, _, t, rfl, h, by decide +kernel⟩, ⟨_, _, u, rfl, g, by decide +kernel, by simp, by simp, by simp⟩⟩

theorem wit_SettingsAndTilesGuarded_2 : ∃ (i : Instr) (s t : State), i.isWord = true ∧ (∀ sw, i ≠ .exit sw) ∧ exec i s = .next t := by
  obtain ⟨t, h⟩ := nexts (i := .accClr false 3#4) (s := gang [[]]) (by decide +kernel)
  exact ⟨_, _, t, rfl, by simp, h⟩

theorem wit_MemoryReadAfterWrite_c1 : ∃ (m : Memory), m.wf = true :=
  ⟨[(2, 7#8), (5, 1#8)], by decide +kernel⟩

theorem wit_MemoryReadAfterWrite_2 : ∃ m n : Memory, m.wf = true ∧ n.wf = true ∧ ∀ a, m.byte a = n.byte a := ⟨[(2, 7#8)], [(2, 7#8)], by decide, by decide, fun _ => rfl⟩

theorem wit_CoreEventsComplete_c1 : ∃ (s : State) (r : Result), Sound s ∧ (r.regs.map (fun e => (e.1, e.2.1))).Nodup ∧ (∀ e ∈ r.regs, (look s.threads ⟨r.ctx, r.vc, r.line, e.1⟩).isSome) :=
  ⟨gang [[]], { ctx := 0, vc := 0, line := 0, lanes := [0], regs := [(0, 4, 7#32), (0, 5, 8#32)], gs := [], flags := [], pushes := [], stamp := 0 }, by decide +kernel⟩

theorem wit_CoreEventsComplete_c2 : ∃ (s : State) (p : Push) (pre : _) (post : _), Sound s ∧ (look s.lines ⟨p.ctx, p.vc, p.line⟩).isSome ∧ p.ch < 8 ∧ (∀ e ∈ pre, e ≠ .resv p.key) ∧ ((s.line p.ctx p.vc p.line).chans.getD p.ch {}).queue = pre ++ List.replicate p.vals.length (.resv p.key) ++ post :=
  ⟨(gang [[]]).modIssLine (fun x => { x with chans := { bound := true, queue := [.data 7#32, .resv 3, .resv 3, .data 9#32] } :: x.chans.drop 1 }), { ctx := 0, vc := 0, line := 0, ch := 0, key := 3, vals := [1#32, 2#32], svc := 0, sline := 0 }, [.data 7#32], [.data 9#32], by decide +kernel⟩

theorem wit_CoreEventsComplete_c3 : ∃ (s : State) (c : _) (v : _) (p : _), earliestPending (s.coreGangs c v) (s.gangSets c v (s.coreGangs c v)) = some p :=
  ⟨{ gang [[]] with aux := { time := 100000 }, threads := (List.range 9).map (fun k => (⟨0, 0, k, 0⟩, {})), lines := (List.range 9).map (fun k => (⟨0, 0, k⟩, { slices := 1 })), cores := [(⟨0, 0⟩, { gangs := (List.range 9).map (fun k => { line := k, slices := [0], active := decide (k < 8), since := 0 }) })] }, 0, 0, { line := 8, slices := [0], active := false, since := 0 }, by decide +kernel⟩

theorem wit_CoreEventsComplete_c4 : ∃ (s : State) (c : _) (v : _) (ia : _) (x : _), (∀ b ∈ x.bytes, ∃ r, s.openPage c (x.ia + b.1) false true = .ok r) ∧ (Sound s ∧ s.l1Find c v (ia / 128 * 128) = some x ∧ (∀ y ∈ (s.core c v).l1, y.ia = x.ia → y = x) ∧ (x.bytes.map (·.1)).Nodup ∧ (∀ b ∈ x.bytes, b.1 < 128) ∧ (s.ctx c).ckpt.cut = none ∧ x.ia + 128 ≤ 2 ^ 52) ∧ s.halves = [] ∧ s.wbHeld = [] :=
  ⟨soiled [[]], 0, 0, 0x83, { ia := 0x80, cls := 0, epoch := 0, bytes := [(3, 7#8, true), (4, 8#8, false)] }, (all_open (by decide +kernel)), by decide +kernel, by decide +kernel⟩

theorem wit_CoreEventsComplete_c5 : ∃ (s : State) (c : _) (v : _) (ia : _) (h : _) (a : _) (bs : List Byte), s.halves = [h] ∧ h.ctx = c ∧ h.vc = v ∧ h.sq = some (s.phys c v / 16) ∧ h.bytes = bs.zipIdx.map (fun e => (a + e.2, e.1)) ∧ a + bs.length ≤ 2 ^ 22 ∧ s.l1Find c v (ia / 128 * 128) = none :=
  ⟨{ gang [[]] with halves := [{ ctx := 0, vc := 0, line := 0, lane := 0, pos := ⟨0, false⟩, vmask := 3, sq := some 0, reads := true, bytes := [(8, 1#8), (9, 2#8)] }] }, 0, 0, 0, { ctx := 0, vc := 0, line := 0, lane := 0, pos := ⟨0, false⟩, vmask := 3, sq := some 0, reads := true, bytes := [(8, 1#8), (9, 2#8)] }, 8, [1#8, 2#8], by decide +kernel⟩

theorem wit_CoreEventsComplete_c6 : ∃ (s : State) (n : FaultNote), (s.ctx? n.ctx).isSome ∧ (s.die n.die).faults.length < 256 :=
  ⟨gang [[]], { ctx := 0, vc := 0, line := 0, die := 0, src := 0, cause := 1, kind := 0, vcache := 0, lvl := 0, ia := 0, va := 0, lanes := [0], job := none }, by decide +kernel⟩

theorem wit_CoreEventsComplete_c7 : ∃ (s : State) (n : FaultNote), (s.ctx? n.ctx).isSome ∧ (s.die n.die).faults.length < 256 :=
  ⟨gang [[]], { ctx := 0, vc := 0, line := 0, die := 0, src := 0, cause := 1, kind := 0, vcache := 0, lvl := 0, ia := 0, va := 0, lanes := [0], job := none }, by decide +kernel⟩

theorem wit_CoreEventsComplete_c8 : ∃ (s : State) (c : _) (x : _) (r : _) (rest : _), s.ctx? c = some x ∧ x.traps.waiting = r :: rest ∧ x.traps.queue.length < 64 :=
  ⟨inCtx (fun x => { x with traps := { waiting := [5] } }) hosted, 0, { ctx0 with traps := { waiting := [5] } }, 5, [], by decide +kernel⟩

theorem wit_CoreEventsComplete_c9 : ∃ (s : State) (c : _) (v : _) (q : _) (p : _) (rest : _), (∀ n, p.fuse = some n → p.waits = false ∧ s.joined c v n = [q]) ∧ (∀ e ∈ s.badStores, ∀ k, e.1 ≠ .tile c v p.line k) ∧ s.coreHere c v = true ∧ q < 4 ∧ s.queue c v q = p :: rest :=
  ⟨(reserved [[]]).setQueue 0 0 0 [.mma 0 0 0 1 recA recB 0#32 0 false 0 [0] ⟨0, false⟩], 0, 0, 0, .mma 0 0 0 1 recA recB 0#32 0 false 0 [0] ⟨0, false⟩, [], (fun n h => by cases (show some 0 = some n from h); decide +kernel), (fun e h => by cases h), by decide +kernel⟩

theorem wit_CoreEventsComplete_c11 : ∃ (s : State) (c : _) (v : _) (line : _) (q : _) (d : _) (w : _) (rest : _), (∃ r, s.openPage c w.ia false true = .ok r) ∧ (s.coreHere c v = true ∧ (s.line c v line).drainOf q = some d ∧ d.held = false ∧ (s.thread ⟨c, v, line, d.lanes.headD 0⟩).held = [] ∧ d.writes = w :: rest ∧ w.bytes ≠ [] ∧ w.attr ≠ 2) ∧ OneLine w.ia w.bytes.length ∧ s.boardWaits c v .g [(w.ia, w.ia + w.bytes.length - 1)] true = false ∧ s.wbHeld = [] ∧ s.halves = [] ∧ CoreClean s c v ∧ (s.ctx c).ckpt.cut = none ∧ (look s.lines ⟨c, v, line⟩).isSome :=
  ⟨(gang [[]]).modIssLine (fun x => { x with drains := [(0, { lanes := [0], pos := ⟨0, false⟩, writes := [{ va := 0x100, ia := 0x100, attr := 0, bytes := List.replicate 64 7#8 }] })] }), 0, 0, 0, 0, { lanes := [0], pos := ⟨0, false⟩, writes := [{ va := 0x100, ia := 0x100, attr := 0, bytes := List.replicate 64 7#8 }] }, { va := 0x100, ia := 0x100, attr := 0, bytes := List.replicate 64 7#8 }, [], (ok_some (by decide +kernel)), by decide +kernel, by decide +kernel⟩

theorem wit_CoreEventsComplete_c12 : ∃ (s : State), Gang s :=
  ⟨gang [[], []], by decide +kernel⟩

theorem wit_SalternEventsComplete_c1 : ∃ (s : State) (i : PanId) (p : _) (tp : _), (∀ c v, i ≠ .core c v) ∧ (∀ b, i ≠ .msu b) ∧ (∀ b, i ≠ .port b) ∧ (s.panAway i = false ∧ p.coll = none ∧ s.treeParms p = some tp ∧ (s.slotOf p.ctx p.slot).apex = i ∧ i ∉ (s.slotOf p.ctx p.slot).exhausted ∧ (s.slotOf p.ctx p.slot).check = none ∧ s.brineWaits i p = false) ∧ (tp.op ≠ .add ∨ (tp.fmt ≠ 0 ∧ tp.fmt ≠ 9)) ∧ Alone s i p ∧ p.level < tp.k ∧ beyond tp p.level (p.index ^^^ 1) = false ∧ (s.loose i p).length < s.panCapacity i :=
  ⟨slotted openSlot (gang [[]]), .gateway 0, part 0 4 7, { op := .add, acc := .int true 32, fmt := 10, n := 6, k := 3, trees := 1 }, (by intro _ _ h; cases h), (by intro _ h; cases h), (by intro _ h; cases h), by decide +kernel, by decide +kernel⟩

theorem wit_SalternEventsComplete_c2 : ∃ (s : State) (i : PanId) (p : _) (j : _), (∀ tp, s.treeParms p = some tp → p.level < tp.k) ∧ s.panAway i = false ∧ s.nextHop i p = .pan j ∧ p ∈ s.pan i ∧ (i, p) ∉ s.badPans :=
  ⟨{ slotted { openSlot with apex := .hub } (gang [[]]) with pans := [(.core 0 0, [part 2 0 7])] }, .core 0 0, part 2 0 7, .gateway 0, (below_root (tp := { op := .add, acc := .int true 32, fmt := 10, n := 6, k := 3, trees := 1 }) (by decide +kernel) (by decide)), by decide +kernel⟩

theorem wit_SalternEventsComplete_c3 : ∃ (s : State) (p : _) (tp : _) (L : _) (e : _) (t0 : _), s.touchL2 p.ctx (peVc e) (leafPa L e p.addr) [] false = some t0 ∧ t0.rehome p.ctx = t0 ∧ s.walk p.ctx p.addr = .ok (L, e) ∧ p.coll = none ∧ s.treeParms p = some tp :=
  ⟨slotted { openSlot with desc := six (2 ^ 96) } (gang [[]]), { part 0 4 7 with addr := 0x100 }, { op := .add, acc := .int true 32, fmt := 10, n := 6, k := 3, trees := 1 }, 3, 0xA300000000000000#64, ((slotted { openSlot with desc := six (2 ^ 96) } (gang [[]])).touchL2 0 0 0x100 [] false).getD State.reset, (some_getD (by decide +kernel)), (rehome_nil (by decide +kernel)), by decide +kernel⟩

theorem wit_SalternEventsComplete_c4 : ∃ (s : State) (c : _) (n : _) (i : PanId), (∀ b, i ≠ .msu b) ∧ NoneComing s c n ∧ (s.ctx? c).isSome ∧ (s.slotOf c n).state = .closing ∧ s.panAway i = false ∧ (s.slotOf c n).apex = i :=
  ⟨slotted { openSlot with state := .closing, expect := 2, markers := 1 } (gang [[]]), 0, 1, .gateway 0, (by intro _ h; cases h), (none_coming (by decide +kernel)), by decide +kernel⟩

theorem wit_SalternEventsComplete_c5 : ∃ (s : State) (c : _) (n : _), ((s.ctx? c).isSome ∧ (s.slotOf c n).state = .closing ∧ (s.slotOf c n).check = none ∧ (descParms (s.slotOf c n).desc).isSome ∧ (s.slotOf c n).tainted = false ∧ (s.slotOf c n).spilled = [] ∧ s.partialsAfoot c n = false) ∧ (s.roots.filter (inSlot c n)) = [] ∧ (s.pans.flatMap (fun e => e.2.filter (inSlot c n))) = [] ∧ 4 ≤ (s.slotOf c n).code :=
  ⟨slotted { openSlot with state := .closing, code := 4 } (gang [[]]), 0, 1, by decide +kernel, by decide +kernel⟩

theorem wit_SalternEventsComplete_c6 : ∃ (s : State) (c : _) (n : _) (p : _) (sgn : _) (w : _) (sp : _), (∃ r, s.openPage c sp.ia false true = .ok r) ∧ ((s.ctx? c).isSome ∧ (s.slotOf c n).state = .closing ∧ (s.slotOf c n).check = none ∧ (s.slotOf c n).code = 0 ∧ (s.slotOf c n).tainted = false ∧ (s.slotOf c n).spilled = [] ∧ sdMode (s.slotOf c n).desc = false) ∧ (sdTrees (s.slotOf c n).desc = 1 ∧ sdOp (s.slotOf c n).desc = 0 ∧ accOf (sdFmt (s.slotOf c n).desc) = some (.int sgn w) ∧ s.partialsAfoot c n = false ∧ (s.roots.filter (inSlot c n)) = [] ∧ ((s.pans.flatMap (fun e => e.2.filter (inSlot c n))) = [] ∨ (s.pans.flatMap (fun e => e.2.filter (inSlot c n))) = [p] ∧ p.level = rootOf (s.slotOf c n).desc ∧ p.index = 0) ∧ (∀ e ∈ s.badPans, inSlot c n e.2 = false)) ∧ s.mapVa c (sdDest (s.slotOf c n).desc) (accBytes (sdFmt (s.slotOf c n).desc)) false true = some [sp] ∧ sp.len = accBytes (sdFmt (s.slotOf c n).desc) ∧ OneLine sp.ia sp.len ∧ (s.ctx c).ckpt.cut = none ∧ s.halves = [] :=
  ⟨{ slotted { openSlot with state := .closing, expect := 2, markers := 2 } (gang [[]]) with pans := [(.gateway 0, [part 3 0 9])] }, 0, 1, part 3 0 9, true, 32, { ia := 0x100, len := 4, attr := 0, va := 0x100 }, (ok_some (by decide +kernel)), by decide +kernel, by decide +kernel, by decide +kernel⟩

theorem wit_SalternEventsComplete_c7 : ∃ (s : State) (c : _) (n : _), (s.ctx? c).isSome ∧ (s.slotOf c n).spilled = [] ∧ s.partialsAfoot c n = false ∧ (∀ w ∈ s.waits, w.on ≠ .slot c n) :=
  ⟨slotted { openSlot with state := .closing } (gang [[]]), 0, 1, by decide +kernel⟩

theorem wit_EngineAndCacheEventsComplete_c1 : ∃ (s : State) (c : _) (n : _) (j : _) (r : _), Runs s c n j ∧ j.kind = .copy r ∧ j.next < j.total ∧ s.awayOf r = .own ∧ s.halves = [] :=
  ⟨withJob { job (.copy (BitVec.ofNat 4096 copyRec)) with next := 3 } (gang [[]]), 0, 0, { job (.copy (BitVec.ofNat 4096 copyRec)) with next := 3 }, BitVec.ofNat 4096 copyRec, by decide +kernel⟩

theorem wit_EngineAndCacheEventsComplete_c2 : ∃ (s : State) (c : _) (n : _) (j : _), Quiet s c ∧ look (s.ctx c).jobs n = some j ∧ j.retired = false ∧ j.after = [] ∧ (∀ x ∈ s.agenda, faultOf c n x = false) ∧ (∀ w ∈ s.waits, w.on ≠ .job c n) ∧ s.wbHeld = [] ∧ CoreClean s c j.vc :=
  ⟨withJob (job (.copy (BitVec.ofNat 4096 copyRec))) (gang [[]]), 0, 0, job (.copy (BitVec.ofNat 4096 copyRec)), (quiet_of (by decide +kernel)), by decide +kernel⟩

theorem wit_EngineAndCacheEventsComplete_c3 : ∃ (s : State) (c : _) (n : _) (j : _) (r : _) (p : _) (rank : _) (ranks : _) (formed : _) (w : _), look (s.ctx c).jobs n = some j ∧ j.kind = .coll r p rank ranks 0 formed ∧ j.retired = false ∧ s.atCollApex p = true ∧ 0 < w ∧ 0 < s.hubRoom :=
  ⟨withJob (job (.coll (BitVec.ofNat 4096 copyRec) { cid := 0, ckind := 1, rmask := 1, root := 0, ren := true, rop := 0, rfmt := 10, sfmt := 10, elems := 4 } 0 1 0 [])) (gang [[]]), 0, 0, job (.coll (BitVec.ofNat 4096 copyRec) { cid := 0, ckind := 1, rmask := 1, root := 0, ren := true, rop := 0, rfmt := 10, sfmt := 10, elems := 4 } 0 1 0 []), BitVec.ofNat 4096 copyRec, { cid := 0, ckind := 1, rmask := 1, root := 0, ren := true, rop := 0, rfmt := 10, sfmt := 10, elems := 4 }, 0, 1, [], 64, by decide +kernel⟩

theorem wit_EngineAndCacheEventsComplete_c4 : ∃ (s : State) (c : _) (n : _) (j : _) (r : _) (p : _) (rank : _) (ranks : _) (w : _) (formed : _) (elem : _) (m : CollMsg) (v : _), (p.ckind ≠ 1 ∨ rank = p.root → OnChip s (shDlev r) (shDstAt r elem).toNat (shDw r)) ∧ (Runs s c n j ∧ j.kind = .coll r p rank ranks w formed ∧ elem ∉ formed ∧ elem < j.total ∧ m.dest = fabCoords s.hub.fabric.recd ∧ m.body = .root v ∧ m.parms.cid = p.cid) ∧ s.halves = [] :=
  ⟨withJob (job (.coll (BitVec.ofNat 4096 copyRec) { cid := 0, ckind := 1, rmask := 1, root := 0, ren := true, rop := 0, rfmt := 10, sfmt := 10, elems := 4 } 0 1 4 [0])) (gang [[]]), 0, 0, job (.coll (BitVec.ofNat 4096 copyRec) { cid := 0, ckind := 1, rmask := 1, root := 0, ren := true, rop := 0, rfmt := 10, sfmt := 10, elems := 4 } 0 1 4 [0]), BitVec.ofNat 4096 copyRec, { cid := 0, ckind := 1, rmask := 1, root := 0, ren := true, rop := 0, rfmt := 10, sfmt := 10, elems := 4 }, 0, 1, 4, [0], 3, { group := 0, parms := { cid := 0, ckind := 1, rmask := 1, root := 0, ren := true, rop := 0, rfmt := 10, sfmt := 10, elems := 4 }, seq := 0, dest := [0, 0, 0, 0], body := .root 7 }, 7, (fun _ => ⟨by decide +kernel, by decide +kernel, fun h => absurd h (by decide +kernel)⟩), by decide +kernel, by decide +kernel⟩

theorem wit_EngineAndCacheEventsComplete_c5 : ∃ (s : State) (c : _) (n : _) (j : _) (r : _) (all : _), Quiet s c ∧ s.activeCut c = some (n, j) ∧ j.retired = false ∧ j.stalled = false ∧ j.code = 0 ∧ j.kind = .cut r all [] ∧ cutKind r = 0 ∧ s.wbHeld = [] :=
  ⟨cutting ({ job (.cut (BitVec.ofNat 512 (4 + 2 ^ 32 + 0x100000 * 2 ^ 64)) [(3, 3), (4, 4)] []) with ranges := [(0, rr 0 (2 ^ 40 - 1) 0 0)] }), 0, 0, { job (.cut (BitVec.ofNat 512 (4 + 2 ^ 32 + 0x100000 * 2 ^ 64)) [(3, 3), (4, 4)] []) with ranges := [(0, rr 0 (2 ^ 40 - 1) 0 0)] }, BitVec.ofNat 512 (4 + 2 ^ 32 + 0x100000 * 2 ^ 64), [(3, 3), (4, 4)], (quiet_of (by decide +kernel)), by decide +kernel⟩

theorem wit_EngineAndCacheEventsComplete_c6 : ∃ (s : State) (c : _) (n : _) (j : _) (r : _) (all : _) (e : _) (rest : _), (∃ x, s.walk c (e.2 * 2 ^ 14) = .ok x) ∧ Quiet s c ∧ (Sound s ∧ s.activeCut c = some (n, j) ∧ j.retired = false ∧ j.stalled = false ∧ j.kind = .cut r all (e :: rest) ∧ cutKind r = 0 ∧ s.granuleBad c e.2 = false) ∧ s.wbHeld = [] :=
  ⟨cutting ({ job (.cut (BitVec.ofNat 512 (4 + 2 ^ 32 + 0x100000 * 2 ^ 64)) [(3, 3), (4, 4)] [(3, 3), (4, 4)]) with ranges := [(0, rr 0 (2 ^ 40 - 1) 0 0)] }), 0, 0, { job (.cut (BitVec.ofNat 512 (4 + 2 ^ 32 + 0x100000 * 2 ^ 64)) [(3, 3), (4, 4)] [(3, 3), (4, 4)]) with ranges := [(0, rr 0 (2 ^ 40 - 1) 0 0)] }, BitVec.ofNat 512 (4 + 2 ^ 32 + 0x100000 * 2 ^ 64), [(3, 3), (4, 4)], (3, 3), [(4, 4)], (ok_some (by decide +kernel)), (quiet_of (by decide +kernel)), by decide +kernel, by decide +kernel⟩

theorem wit_EngineAndCacheEventsComplete_c7 : ∃ (s : State) (c : _) (g : _) (n : _) (j : _) (r : _) (all : _) (todo : _), (∃ x, s.walk c (g * 2 ^ 14) = .ok x) ∧ Quiet s c ∧ (Sound s ∧ s.activeCut c = some (n, j) ∧ j.kind = .cut r all todo ∧ cutKind r = 0 ∧ (∃ e ∈ todo, e.2 = g) ∧ (∀ e ∈ todo, s.sameGranule c g e.2 = true → e.2 = g) ∧ s.granuleBad c g = false) ∧ s.wbHeld = [] :=
  ⟨cutting ({ job (.cut (BitVec.ofNat 512 (4 + 2 ^ 32 + 0x100000 * 2 ^ 64)) [(3, 3), (4, 4)] [(3, 3), (4, 4)]) with ranges := [(0, rr 0 (2 ^ 40 - 1) 0 0)] }), 0, 4, 0, { job (.cut (BitVec.ofNat 512 (4 + 2 ^ 32 + 0x100000 * 2 ^ 64)) [(3, 3), (4, 4)] [(3, 3), (4, 4)]) with ranges := [(0, rr 0 (2 ^ 40 - 1) 0 0)] }, BitVec.ofNat 512 (4 + 2 ^ 32 + 0x100000 * 2 ^ 64), [(3, 3), (4, 4)], [(3, 3), (4, 4)], (ok_some (by decide +kernel)), (quiet_of (by decide +kernel)), by decide +kernel, by decide +kernel⟩

theorem wit_EngineAndCacheEventsComplete_c8 : ∃ (s : State) (c : _) (n : _) (r : _) (sh : _), s.grantShares c r 0 (vcShares r) = some sh ∧ (s.ctx? c).isSome ∧ s.vcRefused r (s.vcOf c n).state = false ∧ (s.vcOf c n).state = .undefined :=
  ⟨inCtx (fun c => { c with vcs := [] }) (gang [[]]), 0, 0, BitVec.ofNat 512 (1 + 2 * 2 ^ 64 + 2 ^ 102), ((inCtx (fun c => { c with vcs := [] }) (gang [[]])).grantShares 0 (BitVec.ofNat 512 (1 + 2 * 2 ^ 64 + 2 ^ 102)) 0 (vcShares (BitVec.ofNat 512 (1 + 2 * 2 ^ 64 + 2 ^ 102)))).getD [], (some_getD (by decide +kernel)), by decide +kernel⟩

theorem wit_EngineAndCacheEventsComplete_c9 : ∃ (s : State) (c : _) (n : _) (line : _) (l : _), s.pans = [] ∧ (s.ctx? c).isSome ∧ (s.vcOf c n).lines.filter (fun l => l.old && l.line == line) = [l] ∧ s.linePinned c l = false ∧ s.lineBad l = false :=
  ⟨inCtx (fun c => { c with vcs := [(0, { state := .resizing, lines := [{ line := 5, sectors := [0], old := true }] })] }) (gang [[]]), 0, 0, 5, { line := 5, sectors := [0], old := true }, by decide +kernel⟩

theorem wit_EngineAndCacheEventsComplete_c10 : ∃ (s : State) (c : _) (n : _), NoRetake s ∧ s.pans = [] ∧ (s.ctx? c).isSome ∧ ((s.vcOf c n).state = .resizing ∨ (s.vcOf c n).state = .migrating) ∧ (∀ l ∈ (s.vcOf c n).lines, l.old = false) :=
  ⟨inCtx (fun c => { c with vcs := [(0, { state := .resizing, lines := [{ line := 5, sectors := [0], old := false }] })] }) (gang [[]]), 0, 0, (no_retake (by decide +kernel)), by decide +kernel⟩

theorem wit_EngineAndCacheEventsComplete_c11 : ∃ (s : State) (c : _) (ia : _) (pa : _) (L : _) (e : _), (∀ M p, (M, p, e) ∈ (s.ctx c).trans.leaves → M = L) ∧ Sound s ∧ s.halves = [] ∧ s.walk c ia = .ok (L, e) ∧ peMig e = true ∧ (L = 2 → pa < lpBase) ∧ s.frameFree pa (pageSize L) = true :=
  ⟨inCtx (fun x => { x with trans := { x.trans with pages := [(0, 0x8000000000010000#64), (0x10000, 0x8000000000020000#64), (0x20000, 0x8000000000030000#64), (0x30000, 0xA380000000000000#64)] } }) (gang [[]]), 0, 5, 0x40000, 0, 0xA380000000000000#64, (leaf_level (by decide +kernel)), by decide +kernel⟩

theorem wit_LaunchAndStopEventsComplete_c1 : ∃ (s : State) (h : _) (q : _) (r : _) (x : _), TakenOn s h 0x10 ∧ MayUse s h x ∧ look s.queues q = some x ∧ x.items.length < 64 ∧ s.recordCodeOf x.ctx r = 0 ∧ lrEdges r = [] :=
  ⟨queued launch0, hdrOf 1 0x10, 7, oneThreadRecord, { ctx := 0, cls := 0, items := [0] }, (⟨rfl, { ctx := 0, key := 0 }, by decide +kernel⟩), (Or.inr (by decide +kernel)), by decide +kernel⟩

theorem wit_LaunchAndStopEventsComplete_c2 : ∃ (s : State) (u : _) (l : _) (k : _), look s.launches u = some l ∧ l.state = .waiting ∧ k ∈ l.edges ∧ s.producer l k = none :=
  ⟨queued { launch0 with edges := [0, 1] }, 0, { launch0 with edges := [0, 1] }, 1, by decide +kernel⟩

/-- The launch of wit_Starting_started meets every premise of the clause on starting. -/
theorem wit_LaunchAndStopEventsComplete_c3 : ∃ (s : State) (q u : Nat) (l : Launch) (k : Kernel) (w : State), s.offerOf q = some u ∧ (let v := s.sweepEntry u
    v.nextStart [] = some u ∧ look v.launches u = some l ∧ (v.ctx l.ctx).place.length = (v.ctx l.ctx).n ∧ look v.kernels (khndOf l.recd) = some k ∧
    v.runsRefused l.ctx l.recd = false ∧ v.areasRefused l.ctx l.recd k = false ∧ lrCores l.recd = false ∧ v.copyData l.ctx l.recd k = .ok w ∧
    ∃ e es, unitsOf l.recd = e :: es ∧ ((w.modLaunch u (fun l => { l with state := .started, units := unitsOf l.recd })).placeBatch u l.recd (batch l.recd e)).isSome) := by
  have h : (match ((queued launch0).sweepEntry 0).copyData 0 oneThreadRecord kern with
      | .ok w => ((w.modLaunch 0 (fun l => { l with state := .started, units := unitsOf l.recd })).placeBatch 0 oneThreadRecord (batch oneThreadRecord (0, 0))).isSome
      | .error _ => false) = true := by decide +kernel
  have g := wit_Starting_started
  revert h
  cases e : ((queued launch0).sweepEntry 0).copyData 0 oneThreadRecord kern with
  | error _ => exact fun h => by simp at h
  | ok w => exact fun h => ⟨queued launch0, 7, 0, launch0, kern, w, by decide +kernel, g.1, g.2.1, g.2.2.1, g.2.2.2.1, g.2.2.2.2.1, g.2.2.2.2.2.1, g.2.2.2.2.2.2.1, e, (0, 0), [],
      g.2.2.2.2.2.2.2.1, h⟩

theorem wit_LaunchAndStopEventsComplete_c4 : ∃ (s : State) (u : _) (l : _) (e : _) (es : _), look s.launches u = some l ∧ l.state = .started ∧ l.units = e :: es ∧ (s.ctx l.ctx).n ≤ (s.ctx l.ctx).place.length ∧ ((s.sweepEntry u).placeBatch u l.recd (batch l.recd e)).isSome :=
  ⟨queued { launch0 with state := .started, units := [(0, 0)] }, 0, { launch0 with state := .started, units := [(0, 0)] }, (0, 0), [], by decide +kernel⟩

theorem wit_LaunchAndStopEventsComplete_c5 : ∃ (s : State) (u : _) (l : _), look s.launches u = some l ∧ l.state = .started ∧ l.live = 0 ∧ l.units = [] ∧ l.groups = [] ∧ lrFbuf l.recd = 0 :=
  ⟨queued { launch0 with state := .started }, 0, { launch0 with state := .started }, by decide +kernel⟩

theorem wit_LaunchAndStopEventsComplete_c6 : ∃ (s : State) (q : _) (u : _) (l : _), s.offerOf q = some u ∧ look s.launches u = some l ∧ s.nextStart [] ≠ some u ∧ (s.ctxs.map (·.1)).Nodup :=
  ⟨{ queued launch0 with ctxs := [(0, { ctx0 with n := 3 })] }, 7, 0, launch0, by decide +kernel⟩

theorem wit_LaunchAndStopEventsComplete_c7 : ∃ (s : State) (c : _), (s.ctx c).set.preq = true :=
  ⟨inCtx (fun x => { x with set := { x.set with preq := true } }) (gang [[]]), 0, by decide +kernel⟩

theorem wit_LaunchAndStopEventsComplete_c8 : ∃ (s : State) (c : _) (v : _) (p : _), (s.ctx c).set.preq = true ∧ s.releasable c v = true ∧ s.phys? c v = some p ∧ (s.ctx c).place.filter (fun e => e.1 == v) = [(v, p)] ∧ CoreClean s c v ∧ s.halves = [] :=
  ⟨eachThread (fun t => { t with stat := .bar }) (inCtx (fun x => { x with set := { x.set with preq := true } }) (gang [[]])), 0, 0, 0, by decide +kernel⟩

theorem wit_LaunchAndStopEventsComplete_c9 : ∃ (s : State) (c : _) (v : _) (k : StopKind), (s.phys? c v).isSome ∧ (k ≠ .scan → (s.ctx c).set.preq = true) ∧ (s.core c v).run = .running ∧ CoreClean s c v ∧ s.halves = [] :=
  ⟨inCtx (fun x => { x with set := { x.set with preq := true } }) (gang [[]]), 0, 0, .deadline, by decide +kernel⟩

theorem wit_LaunchAndStopEventsComplete_c10 : ∃ (s : State) (c : _) (v : _) (k : StopKind) (sq : _) (clk : _) (p : _), (s.core c v).run = .scanning k sq clk ∧ s.phys? c v = some p ∧ (s.ctx c).place.filter (fun e => e.1 == v) = [(v, p)] ∧ s.repliesDue c v = false ∧ s.coreBad c v (s.lastThere c v p) = false ∧ s.scanJob 0 p = none :=
  ⟨(gang [[]]).modCore 0 1 (fun x => { x with run := .scanning .scan none 0 }), 0, 1, .scan, none, 0, 1, by decide +kernel⟩

theorem wit_LaunchAndStopEventsComplete_c11 : ∃ (s : State) (c : _) (v : _) (p : _), Still s c ∧ (s.scanJob 1 p = none ∧ (s.ctx? c).isSome ∧ s.phys? c v = none ∧ (put (s.ctx c).place v p).length = (s.ctx c).n ∧ v < (s.ctx c).n ∧ s.placeOk c (put (s.ctx c).place v p) = true ∧ s.coreIdle p = true) ∧ s.fits c v p = true ∧ (∀ e ∈ s.hub.stopped, e.2 ≠ (c, v)) ∧ s.mustWait c = false :=
  ⟨{ inCtx (fun x => { x with n := 1, place := [], set := { x.set with preq := true } }) (gang [[]]) with cores := [(⟨0, 0⟩, { run := .record })] }, 0, 0, 3, (still_of (by decide +kernel)), by decide +kernel, by decide +kernel⟩

theorem wit_LaunchAndStopEventsComplete_c12 : ∃ (s : State) (c : _) (cores : _) (m : _), Still s c ∧ (s.ctx? c).isSome ∧ (s.ctx c).place.length ≠ (s.ctx c).n ∧ ((s.ctx c).place = [] ∨ (s.ctx c).set.preq = false) ∧ (∀ e ∈ s.hub.stopped, e.2.1 ≠ c) ∧ s.spoiled c = false ∧ s.choosePlace c cores = some m ∧ s.mustWait c = false :=
  ⟨{ inCtx (fun x => { x with n := 1, place := [], set := { x.set with preq := true } }) (gang [[]]) with cores := [(⟨0, 0⟩, { run := .record })] }, 0, [3], [(0, 3)], (still_of (by decide +kernel)), by decide +kernel⟩

theorem wit_LaunchAndStopEventsComplete_c13 : ∃ (s : State) (c : _) (cores : _), (∀ v p, (v, p) ∈ (List.range (s.ctx c).n).zip cores → s.phys? c v ≠ some p → (s.core c v).run = .running ∧ s.releasable c v = true ∧ s.repliesDue c v = false ∧ CoreClean s c v) ∧ Still s c ∧ (s.ctx? c).isSome ∧ (s.ctx c).place.length = (s.ctx c).n ∧ cores.length = (s.ctx c).n ∧ ((s.ctx c).place.map (·.1)).Nodup ∧ s.placeOk c ((List.range (s.ctx c).n).zip cores) = true ∧ s.halves = [] :=
  ⟨eachThread (fun t => { t with stat := .bar }) (inCtx (fun x => { x with n := 1, place := [(0, 0)] }) (gang [[]])), 0, [1], (by
      intro v p h _
      have h : (v, p) ∈ [(0, 1)] := h
      obtain ⟨rfl, rfl⟩ : v = 0 ∧ p = 1 := by simpa using h
      decide +kernel), (still_of (by decide +kernel)), by decide +kernel⟩

theorem wit_LaunchAndStopEventsComplete_c14 : ∃ (s : State) (h : Hit) (w : Watch), (s.ctx? h.ctx).isSome ∧ h.kind ≠ .brk ∧ (∃ v ∈ h.vals, look (s.square h.sq).watches v.wp = some w) ∧ w.ctx = h.ctx ∧ (∀ d ∈ (s.square h.sq).stops, d.ctx ≠ h.ctx) :=
  ⟨(gang [[]]).modSquare 0 (fun q => { q with watches := [(1, { ctx := 0, kind := 0, lev := 3, len := 2, addr := 8, shown := 8 })] }), { sq := 0, vals := [{ wp := 1, addr := 8, len := 4, old := 0, new := 0 }], kind := .load, lev := 3, ctx := 0, vc := 0, line := 0, lanes := [0], pos := ⟨0, false⟩, counts := [] }, { ctx := 0, kind := 0, lev := 3, len := 2, addr := 8, shown := 8 }, by decide +kernel⟩

theorem wit_ManagementCompletes_c1 : ∃ (s : State) (h : _) (w : _) (o : _) (data : List Byte) (c : Nat) (ias : List Nat), TakenOn s h 0x20 ∧ (s.hostGo h w o data.length true = .go c ias ∧ ias.length = data.length ∧ data ≠ [] ∧ (∀ a ∈ ias, a / 128 = (ias.headD 0) / 128) ∧ ias.Nodup ∧ (∀ a ∈ ias, a < 2 ^ 52) ∧ (s.ctx c).ckpt.cut = none) ∧ s.halves = [] :=
  ⟨hosted, hdrOf 1 0x20, 0, 0xFF, [7#8], 0, [0x1FF], (hosted_writes), by decide +kernel, by decide +kernel⟩

theorem wit_ManagementCompletes_c2 : ∃ (s : State) (h : _) (w : _) (o : _) (n : _) (c : _) (ias : _), TakenOn s h 0x21 ∧ s.hostGo h w o n false = .go c ias ∧ s.badByte c ias = none ∧ (∀ a ∈ ias, a < 2 ^ 52) :=
  ⟨hosted, hdrOf 1 0x21, 0, 0xFE, 2, 0, [0x1FE, 0x1FF], (hosted_reads), by decide +kernel⟩

theorem wit_ManagementCompletes_c3 : ∃ (s : State) (h : Hdr) (a : _) (x : _), (∀ e ∈ x.unacked, ∀ r, e.2 ≠ .event r) ∧ s.hub.power = .up ∧ s.lctOk h = true ∧ look s.hub.sessions h.sess = some x ∧ x.tagHolds { h with ack := a } 0x02 = true ∧ s.hub.paused = 0#8 ∧ x.owed = [] :=
  ⟨sentTwo, ackHdr 2, 1, { ctx := 0, key := 0, next := 3, unacked := [(1, .mgmt 3 0 []), (2, .mgmt 4 0 [])] }, (by intro e h r; simp only [List.mem_cons, List.not_mem_nil, or_false] at h; rcases h with rfl | rfl <;> exact fun k => by cases k), by decide +kernel⟩

theorem wit_ManagementCompletes_c4 : ∃ (s : State) (n : _) (x : _), s.hub.power = .up ∧ s.hub.paused = 0#8 ∧ look s.hub.sessions n = some x :=
  ⟨hosted, 1, { ctx := 0, key := 0 }, by decide +kernel⟩

theorem wit_ManagementCompletes_c5 : ∃ (s : State) (h : _), Taken s h :=
  ⟨hosted, hdr0, (hosted_taken)⟩

theorem wit_DeviceEventsComplete_c1 : ∃ (s : State) (a : Ask), s.hub.power = .up ∧ s.packetOk a.net = true ∧ a.addr ∈ s.hub.addrs :=
  ⟨{ hosted with hub := { hosted.hub with addrs := [5] } }, { addr := 5, payload := [] }, by decide +kernel⟩

theorem wit_DeviceEventsComplete_c2 : ∃ (s : State) (a : Ask), s.hub.power = .up ∧ s.packetOk a.net = true ∧ a.addr ∈ s.hub.addrs :=
  ⟨{ hosted with hub := { hosted.hub with addrs := [5], vlans := [9] } }, { addr := 5, net := { vlans := [9] }, payload := [7#8] }, by decide +kernel⟩

theorem wit_DeviceEventsComplete_c3 : ∃ (s : State), s.hub.power = .up :=
  ⟨hosted, by decide +kernel⟩

theorem wit_DeviceEventsComplete_c5 : ∃ (s : State) (p : _), p < 32 ∧ p ∉ s.hub.ras.absentPorts ∧ (∀ e ∈ s.ctxs, ∀ j ∈ e.2.jobs, j.2.retired = true) :=
  ⟨State.reset, 31, by decide +kernel⟩

theorem wit_DeviceEventsComplete_c6 : ∃ (s : State) (g : BankGroup) (k : _), s.groupThere g = true ∧ k ≤ 18 ∧ (s.bankOf g).lost = false ∧ (s.bankOf g).failed = [] ∧ k ≠ 18 ∧ (s.bankOf g).rebuilding = none :=
  ⟨State.reset, ⟨.market, 0, 0⟩, 17, by decide +kernel⟩

theorem wit_DeviceEventsComplete_c7 : ∃ (s : State) (g : BankGroup) (k : _) (r : _), (s.bankOf g).rebuilding = some (k, r) :=
  ⟨{ State.reset with hub := { ras := { banks := [(⟨.market, 0, 0⟩, { failed := [3], rebuilding := some (3, 5) })] } } }, ⟨.market, 0, 0⟩, 3, 5, by decide +kernel⟩

theorem wit_DeviceEventsComplete_c8 : ∃ (d : Nat) (x : Nat), (x = 30 ∨ x = 27 ∨ x = 24) ∧ d ≤ 4 :=
  ⟨4, 24, (Or.inr (Or.inr rfl)), by decide +kernel⟩

theorem wit_DeviceEventsComplete_c9 : ∃ (s : State) (d : Nat), d ≤ 4 ∧ s.clockOf d < 33 :=
  ⟨{ State.reset with hub := { hubClock := 27 } }, 4, by decide +kernel⟩

theorem wit_DeviceEventsComplete_c13 : ∃ (s : State), s.hub.therm = true :=
  ⟨{ State.reset with hub := { therm := true } }, by decide +kernel⟩

end Sys2Proof.Tests
end

section
/-!
PROOF. O12 fails: a load's return writes no g register that the line's record `gLast` has as written by a later step (R23), and the
statement admits states in which that record is ahead of the count of steps.
-/
namespace Sys2Proof.Proofs
open Sys2Proof Sys2Proof.Machine Sys2Proof.Claim

/-- One lane at a `ld.c` into g1; its core's scratchpad holds 7 at address 0. The line has g1 as written by the issue of step 1,
while the count of steps is 0: `Sound` does not say that such a step lies in the past. -/
def stampedAhead : State :=
  { State.reset with
    issue := { lanes := [0] }
    threads := [(⟨0, 0, 0, 0⟩, {})]
    lines := [(⟨0, 0, 0⟩, { gLast := [(1, 1)] })]
    cores := [(⟨0, 0⟩, { scratch := [(0, 7#8)] })] }

/-- `ld.c.b32 g1, [g0 + g0]`. -/
noncomputable def loadG1 : Instr := .ldC false 105#7 104#7 104#7 4#3

/-- What the load has in flight: the word 7 for g1, as of step 0. -/
def loadedG1 : Result := { ctx := 0, vc := 0, line := 0, lanes := [0], regs := [], gs := [(1, 7#32)], flags := [(0, 0#5)], pushes := [], stamp := 0 }

/-- The state that an action answers. -/
noncomputable def answerTo (i : Instr) (s : State) : State :=
  match exec i s with
  | .next t => t
  | _ => s

theorem eq_answerTo {i : Instr} {s t : State} (h : exec i s = .next t) : t = answerTo i s := by
  simp [answerTo, h]

/-- The load's only action in flight is its return. -/
theorem agenda_loadG1 : (answerTo loadG1 stampedAhead).agenda = [.longLatencyReturn loadedG1] := by decide +kernel

/-- The return leaves g1 as it was. -/
theorem greg_after_return : val (answerTo (.longLatencyReturn loadedG1) (answerTo loadG1 stampedAhead)) 0 105#7 1 = 0 := by decide +kernel

/-- Refutes O12: `Sound` says nothing of the steps that a line's `gLast` names, and where one lies ahead of the load's own, the load's return
is taken for the older write (R23) and the g register that it names keeps its value. -/
theorem not_onChipAccess : ¬ Obligations.OnChipAccess := by
  unfold Obligations.OnChipAccess
  rintro ⟨loads, -, -⟩
  obtain ⟨t, o, ho, ht, -, -, -, -, hits, r, -, hagenda, -, u, hu, hholds, -⟩ :=
    loads loadG1 stampedAhead .c 4#3 rfl (by decide) (by decide +kernel) (by decide +kernel) (by decide +kernel) (by decide +kernel) (by decide +kernel)
      (by simp only [Within]; decide +kernel)
  obtain rfl : ⟨.dst, 105#7, 1⟩ = o := by simpa [loadG1, Instr.ops, dstOf, opIsDst, ldWords] using ho
  have hr : r = loadedG1 := by
    rw [eq_answerTo ht, agenda_loadG1] at hagenda
    have := congrArg List.getLast? hagenda
    simpa [eq_comm] using this
  have hu' : u = answerTo (.longLatencyReturn loadedG1) (answerTo loadG1 stampedAhead) := by
    rw [eq_answerTo hu, hr, eq_answerTo ht]
  have h7 := hholds (by decide) 0 [] rfl
  rw [hu', greg_after_return] at h7
  exact absurd h7 (by decide +kernel)

end Sys2Proof.Proofs
end

section
/-!
PROOF. The hardware's own events (O42): ports, bank groups and their loss, clocks, the governor, thermal limits, and power. First what such
events leave alone and what losing a group does; then one lemma for each event; the two claims are put together from these.
-/
namespace Sys2Proof.Proofs
open Sys2Proof Sys2Proof.Machine Sys2Proof.Claim Sys2Proof.Laws

section Hardware
variable {s : State}

/-! ## What hardware events leave alone -/

theorem untouched_of_eq {s t : State} (ht : t.threads = s.threads) (hl : t.lines = s.lines) (hm : t.mem = s.mem)
    (hq : t.squares = s.squares) (hc : t.cores = s.cores) : Untouched s t :=
  ⟨ht, hl, hm, fun q => by rw [State.square, State.square, hq], fun c v => by rw [State.core, State.core, hc]⟩

theorem untouched_refl (s : State) : Untouched s s := untouched_of_eq rfl rfl rfl rfl rfl

theorem untouched_trans {s t u : State} (h : Untouched s t) (k : Untouched t u) : Untouched s u := by
  obtain ⟨h1, h2, h3, h4, h5⟩ := h
  obtain ⟨k1, k2, k3, k4, k5⟩ := k
  exact ⟨k1.trans h1, k2.trans h2, k3.trans h3, fun q => (k4 q).trans (h4 q), fun c v => (k5 c v).trans (h5 c v)⟩

theorem untouched_logError (s : State) (k a c l x : Nat) : Untouched s (s.logError k a c l x) := untouched_of_eq rfl rfl rfl rfl rfl
theorem untouched_count (s : State) (k n : Nat) : Untouched s (s.count k n) := untouched_of_eq rfl rfl rfl rfl rfl
theorem untouched_setBank (s : State) (g : BankGroup) (b : BankSt) : Untouched s (s.setBank g b) := untouched_of_eq rfl rfl rfl rfl rfl
theorem untouched_post (s : State) (i : Instr) : Untouched s (s.post i) := untouched_of_eq rfl rfl rfl rfl rfl
theorem untouched_modDie (s : State) (d : Nat) (f : Die → Die) : Untouched s (s.modDie d f) := untouched_of_eq rfl rfl rfl rfl rfl
@[simp] theorem setBank_agenda (s : State) (g : BankGroup) (b : BankSt) : (s.setBank g b).agenda = s.agenda := rfl
@[simp] theorem setBank_ctxs (s : State) (g : BankGroup) (b : BankSt) : (s.setBank g b).ctxs = s.ctxs := rfl
@[simp] theorem setBank_cores (s : State) (g : BankGroup) (b : BankSt) : (s.setBank g b).cores = s.cores := rfl

/-! ## Changes of virtual caches (R284) -/

/-- A fact that changes of contexts and new actions keep. -/
structure KeptByChanges (P : State → Prop) : Prop where
  modCtx : ∀ (t : State) c f, P t → P (t.modCtx c f)
  post : ∀ (t : State) i, P t → P (t.post i)

variable {P : State → Prop}

theorem KeptByChanges.startChange (hP : KeptByChanges P) (h : P s) (c n : Nat) (st : VState) (r : BitVec 512) (new old : List Nat) :
    P (s.startChange c n st r new old) :=
  hP.post _ _ (List.foldlRecOn (motive := P) _ _ (hP.modCtx _ _ _ h) fun t ht _ _ => hP.post t _ ht)

theorem KeptByChanges.startMigration (hP : KeptByChanges P) (h : P s) {c n : Nat} {r : BitVec 512} {t : State}
    (ht : s.startMigration c n r = some t) : P t := by
  obtain ⟨new, -, rfl⟩ := Option.map_eq_some_iff.mp ht
  exact hP.startChange h _ _ _ _ _ _

theorem KeptByChanges.followTo (hP : KeptByChanges P) (h : P s) (c n m : Nat) : P (s.followTo c n m) := by
  unfold State.followTo
  split
  next ht => exact hP.modCtx _ _ _ (hP.startMigration h ht)
  next => exact hP.modCtx _ _ _ h

theorem KeptByChanges.cutShares (hP : KeptByChanges P) (h : P s) (c : Nat) : P (s.cutShares c) := by
  refine List.foldlRecOn (motive := P) _ _ h fun t ht n _ => ?_
  dsimp only
  split_ifs
  · exact ht
  · exact ht
  · exact hP.startChange ht _ _ _ _ _ _

theorem KeptByChanges.retakeChanges (hP : KeptByChanges P) (h : P s) : P s.retakeChanges := by
  refine List.foldlRecOn (motive := P) _ _ h fun t ht e _ =>
    hP.cutShares (List.foldlRecOn (motive := P) _ _ ht fun t ht v _ => ?_) e.1
  dsimp only
  by_cases hs : (t.vcOf e.1 v.1).state ≠ .stable
  · rwa [if_pos hs]
  rw [if_neg hs]
  split
  next m _ => exact hP.followTo ht _ _ m
  next =>
    split_ifs
    · cases hm : t.startMigration e.1 v.1 (t.vcOf e.1 v.1).recd with
      | none => exact ht
      | some u => exact hP.startMigration ht hm
    · exact ht

theorem retakeChanges_of_no_ctxs (h : s.ctxs = []) : s.retakeChanges = s := by simp [State.retakeChanges, h]

/-! ## Stopping the contexts on a core (R347, R392) -/

/-- A fold in which one element's turn brings about a fact, whatever came before it, that no other undoes. -/
theorem foldl_reaches {β α : Type} {op : β → α → β} {I Q : β → Prop} (hI : ∀ b x, I b → I (op b x)) (hQ : ∀ b x, Q b → Q (op b x))
    {l : List α} {a : α} (ha : a ∈ l) (hturn : ∀ b, I b → Q (op b a)) {b : β} (hb : I b) : Q (l.foldl op b) := by
  obtain ⟨before, after, rfl⟩ := List.append_of_mem ha
  rw [List.foldl_append, List.foldl_cons]
  exact List.foldlRecOn (motive := Q) _ _ (hturn _ (List.foldlRecOn (motive := I) _ _ hb fun t ht x _ => hI t x ht)) fun t ht x _ => hQ t x ht

/-- Context c is asked to leave. -/
def request (c : Nat) (s : State) : State := s.modCtx c (fun x => { x with set := { x.set with preq := true } })
/-- A core of context c that runs, or that a debug unit has stopped, is to be stopped. -/
def stopCore (c : Nat) (s : State) (x : Nat × Nat) : State :=
  match (s.core c x.1).run with
  | .running => s.post (.forcedStop c x.1 .deadline)
  | .debugStopped _ => s.post (.forcedStop c x.1 .debug)
  | _ => s
/-- One context's part of `State.stopContextsOn`. -/
def stopContext (p : Nat) (s : State) (e : Nat × Ctx) : State :=
  if !e.2.place.any (fun x => x.2 == p) then s else e.2.place.foldl (stopCore e.1) (request e.1 s)

theorem stopContextsOn_eq (s : State) (p : Nat) : s.stopContextsOn p = s.ctxs.foldl (stopContext p) s := rfl

theorem stopCore_keeps (hpost : ∀ (t : State) i, P t → P (t.post i)) (c : Nat) (x : Nat × Nat) (h : P s) : P (stopCore c s x) := by
  unfold stopCore
  split
  · exact hpost _ _ h
  · exact hpost _ _ h
  · exact h

/-- What requests and new actions keep, stopping a context keeps. -/
theorem stopContext_keeps (hreq : ∀ t c, P t → P (request c t)) (hpost : ∀ (t : State) i, P t → P (t.post i)) (p : Nat) (e : Nat × Ctx)
    (h : P s) : P (stopContext p s e) := by
  unfold stopContext
  split_ifs
  · exact h
  · exact List.foldlRecOn (motive := P) _ _ (hreq _ _ h) fun t ht x _ => stopCore_keeps hpost e.1 x ht

theorem KeptByChanges.stopContextsOn (hP : KeptByChanges P) (h : P s) (p : Nat) : P (s.stopContextsOn p) :=
  List.foldlRecOn (motive := P) _ _ h fun _ ht e _ => stopContext_keeps (fun t c => hP.modCtx t c _) hP.post p e ht

theorem stopContextsOn_of_no_ctxs (h : s.ctxs = []) (p : Nat) : s.stopContextsOn p = s := by simp [stopContextsOn_eq, h]

/-- A change of a context makes no other and takes none away. -/
theorem isSome_look_modCtx (s : State) (c d : Nat) (f : Ctx → Ctx) : (look (s.modCtx c f).ctxs d).isSome = (look s.ctxs d).isSome := by
  unfold State.modCtx
  split
  next => rfl
  next x hx =>
    by_cases h : c = d
    · subst h; simp [hx]
    · simp [look_put, h]

theorem preq_request_self {c : Nat} (h : (look s.ctxs c).isSome) : ((request c s).ctx c).set.preq = true := by
  rw [request, ctx_modCtx s c _ c h, if_pos rfl]

theorem preq_request {c d : Nat} (h : (s.ctx d).set.preq = true) : ((request c s).ctx d).set.preq = true := by
  by_cases hc : (look s.ctxs c).isSome
  · rw [request, ctx_modCtx s c _ d hc]
    split_ifs
    · rfl
    · exact h
  · rwa [request, State.modCtx, Option.not_isSome_iff_eq_none.mp hc]

theorem preq_stopContext {p c : Nat} (e : Nat × Ctx) (h : (s.ctx c).set.preq = true) : ((stopContext p s e).ctx c).set.preq = true :=
  stopContext_keeps (P := fun t : State => (t.ctx c).set.preq = true) (fun _ _ => preq_request) (fun _ _ => id) p e h

theorem mem_agenda_stopContext {p : Nat} {i : Instr} (e : Nat × Ctx) (h : i ∈ s.agenda) : i ∈ (stopContext p s e).agenda :=
  stopContext_keeps (P := fun t : State => i ∈ t.agenda) (fun t c h => by rwa [request, modCtx_agenda]) (fun t j h => by simp [h]) p e h

/-- A context's own turn raises its request flag and is to stop its cores that run. -/
theorem stopContext_stops {c v p : Nat} {x : Ctx} (hc : (look s.ctxs c).isSome) (hx : (v, p) ∈ x.place) :
    ((stopContext p s (c, x)).ctx c).set.preq = true ∧
      ((s.core c v).run = .running → .forcedStop c v .deadline ∈ (stopContext p s (c, x)).agenda) := by
  have hany : x.place.any (fun e => e.2 == p) = true := List.any_eq_true.mpr ⟨_, hx, by simp⟩
  simp only [stopContext, hany, Bool.not_true, Bool.false_eq_true, if_false]
  refine ⟨List.foldlRecOn (motive := fun t : State => (t.ctx c).set.preq = true) _ _ (preq_request_self hc) fun t ht y _ =>
    stopCore_keeps (P := fun t : State => (t.ctx c).set.preq = true) (fun _ _ => id) c y ht, fun hrun => ?_⟩
  refine foldl_reaches (I := fun t : State => t.cores = s.cores) (Q := fun t : State => .forcedStop c v .deadline ∈ t.agenda)
    (fun t y => stopCore_keeps (P := fun t : State => t.cores = s.cores) (fun _ _ => id) c y)
    (fun t y => stopCore_keeps (P := fun t : State => .forcedStop c v .deadline ∈ t.agenda) (fun t j h => by simp [h]) c y)
    hx (fun t ht => ?_) (modCtx_cores s c _)
  have hrun' : (t.core c v).run = .running := by rwa [State.core, ht]
  simp [stopCore, hrun']

/-- A context on a core that is lost is asked to leave, and its cores that run are to be stopped. -/
theorem stopContextsOn_stops {c v p : Nat} {x : Ctx} (hc : look s.ctxs c = some x) (hx : (v, p) ∈ x.place) :
    ((s.stopContextsOn p).ctx c).set.preq = true ∧
      ((s.core c v).run = .running → .forcedStop c v .deadline ∈ (s.stopContextsOn p).agenda) := by
  rw [stopContextsOn_eq]
  refine foldl_reaches (I := fun t : State => (look t.ctxs c).isSome ∧ t.cores = s.cores)
    (Q := fun t : State => (t.ctx c).set.preq = true ∧ ((s.core c v).run = .running → .forcedStop c v .deadline ∈ t.agenda))
    (fun t e => stopContext_keeps (P := fun t : State => (look t.ctxs c).isSome ∧ t.cores = s.cores)
      (fun t d h => by rwa [request, isSome_look_modCtx, modCtx_cores]) (fun _ _ => id) p e)
    (fun t e h => ⟨preq_stopContext e h.1, fun hr => mem_agenda_stopContext e (h.2 hr)⟩) (look_mem hc) (fun t ht => ?_) ⟨by simp [hc], rfl⟩
  have hstops := stopContext_stops ht.1 hx
  rwa [State.core, ht.2] at hstops

/-! ## Bank groups (R390 to R392) -/

/-- An update of the error state that leaves what is present alone. -/
def KeepsPresence (f : Ras → Ras) : Prop :=
  ∀ r, (f r).absentCores = r.absentCores ∧ (f r).absentSquares = r.absentSquares ∧ (f r).absentDies = r.absentDies ∧ (f r).absentL2 = r.absentL2
def KeepsBanks (f : Ras → Ras) : Prop := ∀ r, (f r).banks = r.banks

/-- A fact that reports of errors, and with them the retirement of units, keep. -/
structure KeptByErrors (P : State → Prop) : Prop where
  modRas : ∀ (t : State) f, KeepsPresence f → KeepsBanks f → P t → P (t.modRas f)
  modDie : ∀ (t : State) d f, P t → P (t.modDie d f)

theorem KeptByErrors.logError (hP : KeptByErrors P) (h : P s) (k a c l x : Nat) : P (s.logError k a c l x) :=
  hP.modRas s (fun r => { r with
      log := if r.log.length < 96 then r.log ++ [_] else setNth r.log (r.logn % 96) _
      logn := r.logn + 1 }) (fun _ => ⟨rfl, rfl, rfl, rfl⟩) (fun _ => rfl) h

theorem KeptByErrors.count (hP : KeptByErrors P) (h : P s) (k n : Nat) : P (s.count k n) :=
  hP.modRas s (fun r => { r with counters := put r.counters k (min (2 ^ 64 - 1) ((look r.counters k).getD 0 + n)) })
    (fun _ => ⟨rfl, rfl, rfl, rfl⟩) (fun _ => rfl) h

/-- Losing a group: what errors keep, and what stopping contexts and taking up changes of caches keep. -/
theorem KeptByErrors.loseGroup (hP : KeptByErrors P) (hctx : ∀ t : State, P t → (∀ p, P (t.stopContextsOn p)) ∧ P t.retakeChanges)
    (h : P s) (g : BankGroup) : P (s.loseGroup g) := by
  have hretire : ∀ a f, KeepsPresence f → KeepsBanks f → P ((s.logError 3 a 0x3FF (bankLoc g 0) 0).modRas f) := fun a f hp hb =>
    hP.modRas _ f hp hb (hP.logError h _ _ _ _ _)
  unfold State.loseGroup
  split
  · refine (hctx _ ?_).2
    exact hretire 3 _ (fun _ => ⟨rfl, rfl, rfl, rfl⟩) (fun _ => rfl)
  · exact hP.modDie _ _ _ (hretire 4 _ (fun _ => ⟨rfl, rfl, rfl, rfl⟩) (fun _ => rfl))
  · refine (hctx _ ?_).1 _
    exact hretire 2 _ (fun _ => ⟨rfl, rfl, rfl, rfl⟩) (fun _ => rfl)

theorem KeptByErrors.loseGroup_of_changes (hP : KeptByErrors P) (hC : KeptByChanges P) (h : P s) (g : BankGroup) : P (s.loseGroup g) :=
  hP.loseGroup (fun _ ht => ⟨hC.stopContextsOn ht, hC.retakeChanges ht⟩) h g

/-- With no context on the device only the error state and the dies change. -/
theorem KeptByErrors.loseGroup_of_no_ctxs (hP : KeptByErrors P) (h : P s) (hc : s.ctxs = []) (g : BankGroup) :
    P (s.loseGroup g) ∧ (s.loseGroup g).ctxs = [] :=
  KeptByErrors.loseGroup (P := fun t : State => P t ∧ t.ctxs = []) ⟨fun t f hp hb ht => ⟨hP.modRas t f hp hb ht.1, ht.2⟩, fun t d f ht => ⟨hP.modDie t d f ht.1, ht.2⟩⟩
    (fun t ht => ⟨fun p => by rwa [stopContextsOn_of_no_ctxs ht.2], by rwa [retakeChanges_of_no_ctxs ht.2]⟩) ⟨h, hc⟩ g

/-- A market that is lost is retired. -/
theorem marketRetired_loseGroup {g : BankGroup} (h : g.unit = .market) : ((s.loseGroup g).die g.which).marketRetired = true := by
  simp [State.loseGroup, h, die_modDie]

/-- A core of which a group is lost is retired, and its contexts are stopped. -/
theorem loseGroup_of_core {g : BankGroup} (hm : g.unit ≠ .market) (hl : g.unit ≠ .l2) :
    s.loseGroup g = ((s.logError 3 2 0x3FF (bankLoc g 0) 0).modRas (fun r => { r with retiredCores := addNat r.retiredCores g.which })).stopContextsOn g.which := by
  unfold State.loseGroup
  split
  · contradiction
  · contradiction
  · rfl

theorem mem_addNat (l : List Nat) (x : Nat) : x ∈ addNat l x := by
  unfold addNat
  split_ifs with h
  · simpa using h
  · simp

theorem retiredCores_loseGroup {g : BankGroup} (hm : g.unit ≠ .market) (hl : g.unit ≠ .l2) :
    g.which ∈ (s.loseGroup g).hub.ras.retiredCores := by
  rw [loseGroup_of_core hm hl]
  exact KeptByChanges.stopContextsOn (P := fun t : State => g.which ∈ t.hub.ras.retiredCores) ⟨fun t c f h => by rwa [modCtx_hub], fun _ _ => id⟩
    (mem_addNat _ _) _

/-! ## Marking a bank -/

@[simp] theorem bankOf_setBank (s : State) (g h : BankGroup) (b : BankSt) : (s.setBank g b).bankOf h = if g = h then b else s.bankOf h := by
  unfold State.setBank State.bankOf
  rw [look_put]
  split_ifs <;> rfl

theorem markedBy_loses {b : BankSt} {k : Nat} (h : 2 ≤ b.failed.length ∨ (b.failed ≠ [] ∧ (b.spareUsed = true ∨ k = 18))) :
    b.markedBy k = ({ b with failed := b.failed ++ [k], lost := true, rebuilding := none }, true) := by
  simp only [BankSt.markedBy, if_pos h]

theorem markedBy_spare {b : BankSt} (h : b.failed = []) : b.markedBy 18 = ({ b with failed := [18], spareUsed := true }, false) := by
  simp [BankSt.markedBy, h]

theorem markedBy_first {b : BankSt} {k : Nat} (h : b.failed = []) (hk : k ≠ 18) (hr : b.rebuilding = none) :
    b.markedBy k = ({ b with failed := [k], rebuilding := some (k, 0) }, false) := by
  simp [BankSt.markedBy, h, hk, hr]

theorem markedBy_second {b : BankSt} {k : Nat} (h : b.failed.length = 1) (hs : b.spareUsed = false) (hk : k ≠ 18) (hr : b.rebuilding.isSome) :
    b.markedBy k = ({ b with failed := b.failed ++ [k] }, false) := by
  simp [BankSt.markedBy, h, hs, hk, hr]

theorem rebuilding_of_lost {b : BankSt} {k : Nat} (h : (b.markedBy k).2 = true) : (b.markedBy k).1.rebuilding = none := by
  unfold BankSt.markedBy at h ⊢
  dsimp only at h ⊢
  split_ifs at h ⊢
  rfl

/-- The bank is in its place and not yet marked. -/
structure Markable (s : State) (g : BankGroup) (k : Nat) : Prop where
  there : s.groupThere g = true
  kept : (s.bankOf g).lost = false
  fresh : k ∉ (s.bankOf g).failed
  bank : k ≤ 18

/-- The bank's failure is in the log, and its group marked. -/
def marked (s : State) (g : BankGroup) (k : Nat) : State :=
  ((s.logError 1 0 0x3FF (bankLoc g k) 0).count 1 1).setBank g ((s.bankOf g).markedBy k).1

theorem bankOf_marked (s : State) (g h : BankGroup) (k : Nat) :
    (marked s g k).bankOf h = if g = h then ((s.bankOf g).markedBy k).1 else s.bankOf h := bankOf_setBank _ _ _ _

@[simp] theorem bankOf_marked_self (s : State) (g : BankGroup) (k : Nat) : (marked s g k).bankOf g = ((s.bankOf g).markedBy k).1 := by
  simp [bankOf_marked]

theorem untouched_marked (s : State) (g : BankGroup) (k : Nat) : Untouched s (marked s g k) :=
  untouched_trans (untouched_trans (untouched_logError _ _ _ _ _ _) (untouched_count _ _ _)) (untouched_setBank _ _ _)
@[simp] theorem marked_agenda (s : State) (g : BankGroup) (k : Nat) : (marked s g k).agenda = s.agenda := by simp [marked]
@[simp] theorem marked_ctxs (s : State) (g : BankGroup) (k : Nat) : (marked s g k).ctxs = s.ctxs := by simp [marked]
@[simp] theorem marked_cores (s : State) (g : BankGroup) (k : Nat) : (marked s g k).cores = s.cores := by simp [marked]

theorem markBank_of_markable {g : BankGroup} {k : Nat} (h : Markable s g k) :
    s.markBank g k = if ((s.bankOf g).markedBy k).2 then (marked s g k).loseGroup g
      else if (s.bankOf g).rebuilding.isNone && ((s.bankOf g).markedBy k).1.rebuilding.isSome then (marked s g k).post (.bankRebuildRow g)
      else marked s g k := by
  obtain ⟨hg, hl, hf, hk⟩ := h
  simp [State.markBank, marked, hg, hl, hf, hk]

theorem markBank_of_not_markable {g : BankGroup} {k : Nat} (h : ¬ Markable s g k) : s.markBank g k = s := by
  have hguard : (!s.groupThere g || (s.bankOf g).lost || (s.bankOf g).failed.contains k || decide (18 < k)) = true := by
    by_contra hn
    simp only [Bool.or_eq_true, not_or, decide_eq_true_eq, Nat.not_lt] at hn
    obtain ⟨⟨⟨hg, hl⟩, hf⟩, hk⟩ := hn
    exact h ⟨by simpa using hg, by simpa using hl, by simpa using hf, hk⟩
  simp only [State.markBank, hguard, if_true]

/-! ## Losing a group (R392) -/

theorem threads_mem_loseGroup (s : State) (g : BankGroup) : (s.loseGroup g).threads = s.threads ∧ (s.loseGroup g).mem = s.mem :=
  KeptByErrors.loseGroup_of_changes (P := fun t : State => t.threads = s.threads ∧ t.mem = s.mem) ⟨fun _ _ _ _ => id, fun _ _ _ => id⟩
    ⟨fun t c f h => by rwa [modCtx_threads, modCtx_mem], fun _ _ => id⟩ ⟨rfl, rfl⟩ g

theorem banks_loseGroup (s : State) (g : BankGroup) : (s.loseGroup g).hub.ras.banks = s.hub.ras.banks :=
  KeptByErrors.loseGroup_of_changes (P := fun t : State => t.hub.ras.banks = s.hub.ras.banks) ⟨fun _ _ _ hb h => (hb _).trans h, fun _ _ _ => id⟩
    ⟨fun t c f h => by rwa [modCtx_hub], fun _ _ => id⟩ rfl g

@[simp] theorem bankOf_loseGroup (s : State) (g h : BankGroup) : (s.loseGroup g).bankOf h = s.bankOf h := by
  rw [State.bankOf, State.bankOf, banks_loseGroup]

/-- What losing a group of a core does to a context on that core. -/
theorem loseGroup_stops {g : BankGroup} (hm : g.unit ≠ .market) (hl : g.unit ≠ .l2) {c v : Nat} {x : Ctx} (hc : look s.ctxs c = some x)
    (hx : (v, g.which) ∈ x.place) : ((s.loseGroup g).ctx c).set.preq = true ∧
      ((s.core c v).run = .running → .forcedStop c v .deadline ∈ (s.loseGroup g).agenda) := by
  rw [loseGroup_of_core hm hl]
  exact stopContextsOn_stops (s := (s.logError 3 2 0x3FF (bankLoc g 0) 0).modRas _) hc hx

/-! ## Ports (R364, R366) -/

theorem cutOff_of_retired (h : ∀ e ∈ s.ctxs, ∀ j ∈ e.2.jobs, j.2.retired = true) : s.cutOff = s := by
  refine List.foldlRecOn (motive := fun t => t = s) _ _ rfl fun t ht e he => ?_
  refine List.foldlRecOn (motive := fun t => t = s) _ _ ht fun t ht j hj => ?_
  simp [h e he j hj, ht]

theorem flitRetransmit_counts (s : State) (p : Nat) : ∃ t : State, exec (.flitRetransmit p) s = .next t ∧ Untouched s t ∧ t.agenda = s.agenda ∧
    t.out = s.out ∧ look t.hub.fabric.retransmits p = some ((look s.hub.fabric.retransmits p).getD 0 + 1) :=
  ⟨_, rfl, untouched_of_eq rfl rfl rfl rfl rfl, rfl, rfl, look_put_self⟩

theorem portStateChange_absent {p : Nat} (st : PortState) (h : 32 ≤ p ∨ p ∈ s.hub.ras.absentPorts) : exec (.portStateChange p st) s = .next s := by
  show execPortStateChange p st s = _
  unfold execPortStateChange
  exact if_pos (by simpa using h)

theorem portStateChange_present {p : Nat} (st : PortState) (hp : p < 32) (ha : p ∉ s.hub.ras.absentPorts)
    (hj : ∀ e ∈ s.ctxs, ∀ j ∈ e.2.jobs, j.2.retired = true) : exec (.portStateChange p st) s =
      .next { s with hub := { s.hub with fabric := { s.hub.fabric with ports := put s.hub.fabric.ports p st } } } := by
  show execPortStateChange p st s = _
  unfold execPortStateChange
  rw [if_neg (by simpa using ⟨hp, ha⟩)]
  exact congrArg Host.Outcome.next (cutOff_of_retired hj)

/-! ## Marking a bank (R391) -/

section Mark
variable {g : BankGroup} {k : Nat}

theorem exec_bankMarkFailed (s : State) (g : BankGroup) (k : Nat) : exec (.bankMarkFailed g k) s = .next (s.markBank g k) := rfl

/-- The first bank of a group to fail is rebuilt into the spare. -/
theorem markBank_first (h : Markable s g k) (hf : (s.bankOf g).failed = []) (hk : k ≠ 18) (hr : (s.bankOf g).rebuilding = none) :
    s.markBank g k = (marked s g k).post (.bankRebuildRow g) := by
  rw [markBank_of_markable h, markedBy_first hf hk hr]
  simp [hr]

/-- A failed spare is no spare any more. -/
theorem markBank_spare (h : Markable s g 18) (hf : (s.bankOf g).failed = []) : s.markBank g 18 = marked s g 18 := by
  rw [markBank_of_markable h, markedBy_spare hf]
  cases hr : (s.bankOf g).rebuilding <;> simp

/-- A second bank is borne while the spare is being filled for the first. -/
theorem markBank_second (h : Markable s g k) (hf : (s.bankOf g).failed.length = 1) (hs : (s.bankOf g).spareUsed = false) (hk : k ≠ 18)
    (hr : (s.bankOf g).rebuilding.isSome) : s.markBank g k = marked s g k := by
  rw [markBank_of_markable h, markedBy_second hf hs hk hr]
  simp [Option.isNone_iff_eq_none, Option.isSome_iff_ne_none.mp hr]

theorem markBank_loses (h : Markable s g k)
    (hf : 2 ≤ (s.bankOf g).failed.length ∨ ((s.bankOf g).failed ≠ [] ∧ ((s.bankOf g).spareUsed = true ∨ k = 18))) :
    s.markBank g k = (marked s g k).loseGroup g := by
  rw [markBank_of_markable h, markedBy_loses hf]
  simp

/-- The walker's next row of a bank that is being rebuilt. -/
theorem bankRebuildRow_next {r : Nat} (h : (s.bankOf g).rebuilding = some (k, r)) (hr : r + 1 < bankRows g.unit) :
    exec (.bankRebuildRow g) s = .next ((s.setBank g { s.bankOf g with rebuilding := some (k, r + 1) }).post (.bankRebuildRow g)) := by
  show execBankRebuildRow g s = _
  simp only [execBankRebuildRow, h, if_pos hr]

/-- With the last row the spare takes the bank's place. -/
theorem bankRebuildRow_last {r : Nat} (h : (s.bankOf g).rebuilding = some (k, r)) (hr : bankRows g.unit ≤ r + 1) :
    exec (.bankRebuildRow g) s = .next (((s.setBank g { s.bankOf g with rebuilding := none, spareUsed := true, replaced := some k }).logError
      2 0 0x3FF (bankLoc g k) 0).count 2 1) := by
  show execBankRebuildRow g s = _
  simp only [execBankRebuildRow, h, if_neg (Nat.not_lt.mpr hr)]

end Mark

/-! ## Clocks (R396) -/

theorem untouched_setClock (s : State) (d x : Nat) : Untouched s (s.setClock d x) := by
  unfold State.setClock
  split_ifs
  · exact untouched_of_eq rfl rfl rfl rfl rfl
  · exact untouched_modDie _ _ _

theorem clockOf_setClock (s : State) (d x : Nat) : (s.setClock d x).clockOf d = x := by
  unfold State.setClock State.clockOf
  split_ifs <;> simp [die_modDie]

/-- The clocks that a die had until now are those that it has had after a change. -/
theorem clockAt_setClock (s : State) (d x e : Nat) {t : Nat} (ht : t < s.aux.time) : ((s.setClock d x).die e).clockAt t = (s.die e).clockAt t := by
  unfold State.setClock
  split_ifs
  · rfl
  · rw [die_modDie]
    split_ifs with hde
    · subst hde
      simp only [Die.clockAt, List.filter_cons, ht, decide_true, if_true]
      cases hl : (s.die d).clocks.filter (fun e => decide (t < e.1)) with
      | nil => rfl
      | cons a l => simp [List.getLast?_cons]
    · rfl

theorem cyclesFrom_congr {s t : State} {d a n : Nat} (h : ∀ k, k < a + n → (t.die d).clockAt k = (s.die d).clockAt k) :
    t.cyclesFrom d a n = s.cyclesFrom d a n := by
  induction n with
  | zero => rfl
  | succ n ih =>
    simp only [State.cyclesFrom]
    rw [ih fun k hk => h k (by omega), h (a + n) (by omega)]

/-- The cycles that the counter clk has counted stay (R5, R42). -/
theorem clk_setClock (s : State) (d x c v : Nat) : (s.setClock d x).clk c v = s.clk c v := by
  have hcores : (s.setClock d x).cores = s.cores := by unfold State.setClock; split_ifs <;> rfl
  have hctxs : (s.setClock d x).ctxs = s.ctxs := by unfold State.setClock; split_ifs <;> rfl
  have haux : (s.setClock d x).aux = s.aux := by unfold State.setClock; split_ifs <;> rfl
  have hphys : (s.setClock d x).phys c v = s.phys c v := by simp only [State.phys, State.phys?, State.ctx, hctxs]
  simp only [State.clk, State.core, hcores, hphys, haux]
  split
  next => rfl
  next a _ =>
    rcases Nat.le_total s.aux.time a with h | h
    · rw [Nat.sub_eq_zero_of_le h]; rfl
    · rw [cyclesFrom_congr fun k hk => clockAt_setClock s d x _ (by omega)]

theorem clk_count (s : State) (k n c v : Nat) : (s.count k n).clk c v = s.clk c v := by
  have hcycles : ∀ d a m, (s.count k n).cyclesFrom d a m = s.cyclesFrom d a m := fun d a m => cyclesFrom_congr fun _ _ => rfl
  simp only [State.clk, hcycles]
  rfl

theorem clockOf_count (s : State) (k n d : Nat) : (s.count k n).clockOf d = s.clockOf d := rfl

theorem clockDroop_spec (s : State) {d x : Nat} (hd : d ≤ 4) (hx : x = 30 ∨ x = 27 ∨ x = 24) : ∃ t : State, exec (.clockDroop d x) s = .next t ∧
    Untouched s t ∧ t.clockOf d = min x (s.clockOf d) ∧ ∀ c v, t.clk c v = s.clk c v := by
  show ∃ t, execClockDroop d x s = _ ∧ _
  unfold execClockDroop
  by_cases hle : s.clockOf d ≤ x
  · exact ⟨s, if_pos (Or.inr (Or.inr hle)), untouched_refl s, (Nat.min_eq_right hle).symm, fun _ _ => rfl⟩
  · refine ⟨_, if_neg (by omega), untouched_trans (untouched_setClock s d x) (untouched_count _ _ _), ?_, fun c v => ?_⟩
    · rw [clockOf_count, clockOf_setClock, Nat.min_eq_left (by omega)]
    · rw [clk_count, clk_setClock]

theorem clockStepUp_spec (s : State) {d : Nat} (hd : d ≤ 4) : ∃ u : State, exec (.clockStepUp d) s = .next u ∧ Untouched s u ∧
    u.clockOf d = (if 33 ≤ s.clockOf d then s.clockOf d else s.clockOf d + 3) ∧ ∀ c v, u.clk c v = s.clk c v := by
  show ∃ u, execClockStepUp d s = _ ∧ _
  unfold execClockStepUp
  split_ifs with hstop hfast
  · exact ⟨s, rfl, untouched_refl s, rfl, fun _ _ => rfl⟩
  · omega
  · omega
  · exact ⟨_, rfl, untouched_setClock _ _ _, clockOf_setClock _ _ _, clk_setClock _ _ _⟩

/-! ## Ports, banks and clocks -/

theorem portsBanksClocks : Claim.PortsBanksClocks := by
  refine ⟨flitRetransmit_counts, fun s p st => ⟨portStateChange_absent st, portStateChange_present st⟩, fun s g k hg hk => ⟨?_, ?_⟩,
    fun s g k r hr => ⟨fun hn => ?_, fun hl => ?_⟩, fun s d x hd hx => ?_⟩
  · intro h
    rw [exec_bankMarkFailed, markBank_of_not_markable]
    rintro ⟨-, hl, hf, -⟩
    rcases h with h | h
    · simp [hl] at h
    · exact hf h
  · intro hl hf
    have hm : Markable s g k := ⟨hg, hl, hf, hk⟩
    simp only [exec_bankMarkFailed]
    refine ⟨fun h hk hr => ⟨_, rfl, ?_⟩, fun h hk => ⟨_, rfl, ?_⟩, fun h hs hk hr => ⟨_, rfl, ?_⟩, fun h => ⟨_, rfl, ?_⟩⟩
    · rw [markBank_first hm h hk hr]
      refine ⟨untouched_trans (untouched_marked _ _ _) (untouched_post _ _), ?_, by simp [Adds]⟩
      exact (bankOf_marked_self s g k).trans (by rw [markedBy_first h hk hr])
    · subst hk
      rw [markBank_spare hm h]
      exact ⟨untouched_marked _ _ _, (bankOf_marked_self s g 18).trans (by rw [markedBy_spare h]), marked_agenda _ _ _⟩
    · rw [markBank_second hm h hs hk hr]
      exact ⟨untouched_marked _ _ _, (bankOf_marked_self s g k).trans (by rw [markedBy_second h hs hk hr]), marked_agenda _ _ _⟩
    · obtain ⟨ht, -, hmem, -⟩ := untouched_marked s g k
      obtain ⟨ht', hmem'⟩ := threads_mem_loseGroup (marked s g k) g
      rw [markBank_loses hm h]
      refine ⟨ht'.trans ht, hmem'.trans hmem, ?_, ?_, marketRetired_loseGroup, fun hmk hl2 => ⟨retiredCores_loseGroup hmk hl2, ?_⟩⟩
      · rw [bankOf_loseGroup, bankOf_marked_self, markedBy_loses h]
      · rw [bankOf_loseGroup, bankOf_marked_self, markedBy_loses h]
      · rintro c x ⟨v, p⟩ - hc hx rfl
        have := loseGroup_stops (s := marked s g k) hmk hl2 (by rwa [marked_ctxs]) hx
        rwa [State.core, marked_cores] at this
  · rw [bankRebuildRow_next hr hn]
    exact ⟨_, rfl, untouched_trans (untouched_setBank _ _ _) (untouched_post _ _), (bankOf_setBank s g g _).trans (if_pos rfl), by simp [Adds]⟩
  · rw [bankRebuildRow_last hr hl]
    exact ⟨_, rfl, untouched_trans (untouched_trans (untouched_setBank _ _ _) (untouched_logError _ _ _ _ _ _)) (untouched_count _ _ _),
      (bankOf_setBank s g g _).trans (if_pos rfl), by simp⟩
  · obtain ⟨t, ht, hut, hct, hkt⟩ := clockDroop_spec s hd hx
    obtain ⟨u, hu, huu, hcu, hku⟩ := clockStepUp_spec s hd
    exact ⟨t, u, ht, hut, hct, hu, huu, hcu, fun c v => ⟨hkt c v, hku c v⟩⟩

/-! ## The governor (R397) -/

/-- What the units of a set of low shares leave of the pool; the demand of the others; a unit's share of it. -/
def poolLeft (pool : Nat) (low : List Nat) : Nat := pool - low.length * floorOf pool
def highUnits (low : List Nat) : List Nat := (List.range 36).filter (fun v => !low.contains v)
def shareOf (pool : Nat) (demand low : List Nat) (u : Nat) : Nat :=
  poolLeft pool low * demand.getD u 0 / ((highUnits low).map (fun v => demand.getD v 0)).sum

/-- Shares as the governor gives them: the floor to the units of `low`, and to each other unit its part of what is left, no less than the floor. -/
structure Shares (pool : Nat) (demand low : List Nat) (f : Nat → Nat) : Prop where
  nodup : low.Nodup
  units : ∀ u ∈ low, u < 36
  share : ∀ u, u < 36 → f u = if u ∈ low then floorOf pool else shareOf pool demand low u
  floor : ∀ u, u < 36 → floorOf pool ≤ f u

/-- The units whose share would fall under the floor. -/
def underFloor (pool : Nat) (demand low : List Nat) : List Nat :=
  (List.range 36).filter (fun v => !low.contains v && decide (shareOf pool demand low v < floorOf pool))

theorem sharesOf_succ (pool : Nat) (demand low : List Nat) (k u : Nat) : sharesOf pool demand (k + 1) low u =
    if low.contains u then floorOf pool else if underFloor pool demand low = [] then shareOf pool demand low u
    else sharesOf pool demand k (low ++ underFloor pool demand low) u := by
  simp only [sharesOf, underFloor, shareOf, poolLeft, highUnits, governorUnits, List.sum_eq_foldl, List.foldl_map]
  congr -- the two sides decide `= []` by different procedures

theorem sharesOf_of_mem {pool : Nat} {demand low : List Nat} {u : Nat} (h : u ∈ low) (k : Nat) : sharesOf pool demand k low u = floorOf pool := by
  cases k with
  | zero => rfl
  | succ k => rw [sharesOf_succ, if_pos (List.contains_iff_mem.mpr h)]

theorem mem_underFloor {pool : Nat} {demand low : List Nat} {u : Nat} :
    u ∈ underFloor pool demand low ↔ u < 36 ∧ u ∉ low ∧ shareOf pool demand low u < floorOf pool := by
  simp [underFloor]

theorem length_le_of_units {low : List Nat} (hn : low.Nodup) (hu : ∀ u ∈ low, u < 36) : low.length ≤ 36 := by
  simpa using (hn.subperm (l₂ := List.range 36) fun u h => List.mem_range.mpr (hu u h)).length_le

/-- The rounds end with the units at the floor that they need, within as many rounds as there are other units. -/
theorem exists_shares (pool : Nat) (demand : List Nat) (k : Nat) (low : List Nat) (hn : low.Nodup) (hu : ∀ u ∈ low, u < 36)
    (hk : 36 ≤ low.length + k) : ∃ low', low ⊆ low' ∧ Shares pool demand low' (sharesOf pool demand k low) := by
  induction k generalizing low with
  | zero =>
    have hall : ∀ u, u < 36 → u ∈ low := fun u h =>
      (hn.subperm (l₂ := List.range 36) fun u h => List.mem_range.mpr (hu u h)).perm_of_length_le (by simpa using hk) |>.mem_iff.mpr (List.mem_range.mpr h)
    exact ⟨low, List.Subset.refl _, hn, hu, fun u h => by rw [if_pos (hall u h)]; rfl, fun _ _ => le_rfl⟩
  | succ k ih =>
    by_cases hm : underFloor pool demand low = []
    · have hshare : ∀ u, sharesOf pool demand (k + 1) low u = if u ∈ low then floorOf pool else shareOf pool demand low u := fun u => by
        simp only [sharesOf_succ, if_pos hm, List.contains_iff_mem]
      refine ⟨low, List.Subset.refl _, hn, hu, fun u _ => hshare u, fun u h => ?_⟩
      rw [hshare]
      split_ifs with hl
      · exact le_rfl
      · by_contra hlt
        exact List.not_mem_nil (hm ▸ mem_underFloor.mpr ⟨h, hl, Nat.lt_of_not_le hlt⟩)
    · have hnew : (low ++ underFloor pool demand low).Nodup :=
        List.nodup_append'.mpr ⟨hn, List.nodup_range.filter _, fun u h h' => (mem_underFloor.mp h').2.1 h⟩
      have hpos := List.length_pos_iff.mpr hm
      obtain ⟨low', hsub, hs⟩ := ih _ hnew (fun u h => (List.mem_append.mp h).elim (hu u) fun h => (mem_underFloor.mp h).1)
        (by rw [List.length_append]; omega)
      have hlow : low ⊆ low' := fun u h => hsub (List.mem_append_left _ h)
      have heq : ∀ u, sharesOf pool demand (k + 1) low u = sharesOf pool demand k (low ++ underFloor pool demand low) u := fun u => by
        rw [sharesOf_succ, if_neg hm]
        split_ifs with hl
        · exact (sharesOf_of_mem (List.mem_append_left _ (List.contains_iff_mem.mp hl)) k).symm
        · rfl
      exact ⟨low', hlow, hs.nodup, hs.units, fun u h => (heq u).trans (hs.share u h), fun u h => (hs.floor u h).trans_eq (heq u).symm⟩

theorem sum_div_le (l : List Nat) (f : Nat → Nat) (a n : Nat) : (l.map (fun v => a * f v / n)).sum ≤ a * (l.map f).sum / n := by
  induction l with
  | nil => simp
  | cons x r ih =>
    simp only [List.map_cons, List.sum_cons, Nat.mul_add]
    exact (Nat.add_le_add_left ih _).trans Nat.div_add_div_le_add_div

/-- The shares come to no more than the pool. -/
theorem Shares.sum_le {pool : Nat} {demand low : List Nat} {f : Nat → Nat} (h : Shares pool demand low f) : ((List.range 36).map f).sum ≤ pool := by
  have hlen := length_le_of_units h.nodup h.units
  have hlow : (((List.range 36).filter low.contains).map f).sum ≤ low.length * floorOf pool := by
    have hconst : ((List.range 36).filter low.contains).map f = ((List.range 36).filter low.contains).map (fun _ => floorOf pool) :=
      List.map_congr_left fun u hu => by
        obtain ⟨hr, hl⟩ := List.mem_filter.mp hu
        rw [h.share u (List.mem_range.mp hr), if_pos (by simpa using hl)]
    rw [hconst, List.map_const', List.sum_replicate, smul_eq_mul]
    refine Nat.mul_le_mul_right _ (List.Nodup.subperm (List.nodup_range.filter _) fun u hu => ?_).length_le
    simpa using (List.mem_filter.mp hu).2
  have hhigh : ((highUnits low).map f).sum ≤ poolLeft pool low := by
    have hshare : (highUnits low).map f = (highUnits low).map (shareOf pool demand low) := List.map_congr_left fun u hu => by
      obtain ⟨hr, hl⟩ := List.mem_filter.mp hu
      rw [h.share u (List.mem_range.mp hr), if_neg (by simpa using hl)]
    rw [hshare]
    refine (sum_div_le _ _ _ _).trans ?_
    rw [Nat.mul_comm]
    exact Nat.div_le_of_le_mul le_rfl
  have hfloor : low.length * floorOf pool ≤ pool := by
    refine (Nat.mul_le_mul_right _ hlen).trans ?_
    simp only [floorOf, governorUnits]
    omega
  calc ((List.range 36).map f).sum = (((List.range 36).filter low.contains).map f).sum + ((highUnits low).map f).sum := by
        rw [← List.sum_append, ← List.map_append]
        exact (((List.filter_append_perm low.contains (List.range 36)).map f).sum_eq).symm
    _ ≤ low.length * floorOf pool + poolLeft pool low := Nat.add_le_add hlow hhigh
    _ = pool := Nat.add_sub_cancel' hfloor

theorem unitBudget_shares (s : State) (demand : List Nat) : ∃ low, Shares s.tokens demand low (s.unitBudget demand) := by
  obtain ⟨low, -, h⟩ := exists_shares s.tokens demand governorUnits [] List.nodup_nil (by simp) (by simp [governorUnits])
  exact ⟨low, h⟩

/-- The budgets that a round gives the dies. -/
theorem budget_foldl_modDie (f : Nat → Nat) (l : List Nat) (s : State) {d : Nat} (h : d ∈ l) :
    ((l.foldl (fun t d => t.modDie d (fun x => { x with budget := f d })) s).die d).budget = f d := by
  refine foldl_reaches (I := fun _ => True) (Q := fun t : State => (t.die d).budget = f d) (fun _ _ => id) (fun t e ht => ?_) h
    (fun t _ => by simp [die_modDie]) trivial
  rw [die_modDie]
  split_ifs with hde
  · rw [hde]
  · exact ht

theorem untouched_foldl_modDie (f : Nat → Die → Die) (l : List Nat) (s : State) : Untouched s (l.foldl (fun t d => t.modDie d (f d)) s) :=
  List.foldlRecOn (motive := Untouched s) _ _ (untouched_refl s) fun _ ht _ _ => untouched_trans ht (untouched_modDie _ _ _)

theorem hub_foldl_modDie (f : Nat → Die → Die) (l : List Nat) (s : State) : (l.foldl (fun t d => t.modDie d (f d)) s).hub = s.hub :=
  List.foldlRecOn (motive := fun t : State => t.hub = s.hub) _ _ rfl fun _ ht _ _ => ht

theorem governorRound_spec (s : State) (demand : List Nat) : ∃ t : State, exec (.governorRound demand) s = .next t ∧ Untouched s t ∧
    (∀ d, d < 4 → (t.die d).budget = s.unitBudget demand d) ∧ t.hub.fabric.portBudget = (List.range 32).map (fun p => s.unitBudget demand (4 + p)) := by
  let s' : State := { s with hub := { s.hub with fabric := { s.hub.fabric with portBudget := (List.range 32).map (fun p => s.unitBudget demand (4 + p)) } } }
  let t : State := (List.range 4).foldl (fun t d => t.modDie d (fun x => { x with budget := s.unitBudget demand d })) s'
  have hexec : exec (.governorRound demand) s = .next (if s.tokens < demand.sum then t.count 9 1 else t) := rfl
  have hdie : ∀ d, d < 4 → (t.die d).budget = s.unitBudget demand d := fun d hd => budget_foldl_modDie _ _ _ (List.mem_range.mpr hd)
  have hut : Untouched s t := untouched_trans (untouched_of_eq rfl rfl rfl rfl rfl) (untouched_foldl_modDie _ _ s')
  have hport : t.hub.fabric.portBudget = (List.range 32).map (fun p => s.unitBudget demand (4 + p)) := by
    rw [show t.hub = s'.hub from hub_foldl_modDie _ _ _]
  refine ⟨_, hexec, ?_⟩
  split_ifs
  · exact ⟨untouched_trans hut (untouched_count _ _ _), hdie, hport⟩
  · exact ⟨hut, hdie, hport⟩

/-! ## Thermal limits (R397) -/

theorem tokens_of_shrunk_zero {s : State} (h : s.hub.shrunk = 0) : s.tokens = (s.hub.pool - Config.fixedDraw) / 4 := by
  rw [State.tokens, h]; rfl

theorem thermalLimit_spec (s : State) (d : Nat) : ∃ t : State, exec (.thermalLimit d) s = .next t ∧ Untouched s t ∧ t.hub.pool = s.hub.pool ∧
    t.tokens = s.tokens - s.tokens / 10 ∧ t.hub.ras.logn = s.hub.ras.logn + 1 :=
  ⟨_, rfl, untouched_of_eq rfl rfl rfl rfl rfl, rfl, rfl, rfl⟩

theorem thermalTrip_spec (s : State) : ∃ t : State, exec .thermalTrip s = .next t ∧ Untouched s t ∧ t.hub.therm = true ∧ Adds s t [.corePowerRemove] :=
  ⟨_, rfl, untouched_of_eq rfl rfl rfl rfl rfl, rfl, rfl⟩

/-! ## Power is removed (R397) -/

theorem ctxs_modSess (s : State) (n : Nat) (f : Session → Session) : (s.modSess n f).ctxs = s.ctxs := by
  unfold State.modSess
  split <;> rfl

theorem ctxs_emit (s : State) (sess n : Nat) (f : Frame) : (s.emit sess n f).ctxs = s.ctxs := by
  unfold State.emit
  split <;> rfl

theorem ctxs_toPort (s : State) (sess n : Nat) (f : Frame) : (s.toPort sess n f).ctxs = s.ctxs := by
  unfold State.toPort
  split_ifs
  · rfl
  · exact ctxs_emit _ _ _ _

theorem ctxs_sendSess (s : State) (n : Nat) (f : Frame) : (s.sendSess n f).ctxs = s.ctxs := by
  unfold State.sendSess
  split
  · rfl
  · dsimp only
    split_ifs
    · exact (ctxs_toPort _ _ _ _).trans (ctxs_modSess _ _ _)
    · exact ctxs_modSess _ _ _

theorem ctxs_endLaunches (s : State) (c : Nat) : (s.endLaunches c).ctxs = s.ctxs := by
  refine List.foldlRecOn (motive := fun t : State => t.ctxs = s.ctxs) _ _ rfl fun t ht e _ => ?_
  split_ifs
  · exact ht
  · exact (ctxs_sendSess _ _ _).trans ht

theorem ctxs_wakeUnits (s : State) : s.wakeUnits.ctxs = s.ctxs := by
  refine List.foldlRecOn (motive := fun t : State => t.ctxs = s.ctxs) _ _ rfl fun t ht e _ => ?_
  split_ifs
  · exact ht
  · exact ht

theorem look_ctxs_dropContext (s : State) (c d : Nat) (h : c = d ∨ look s.ctxs d = none) : look (s.dropContext c).ctxs d = none := by
  have hkept : KeptByChanges (fun t : State => look t.ctxs d = none) := ⟨fun t c f ht => ?_, fun _ _ => id⟩
  · refine hkept.retakeChanges ?_
    rw [ctxs_wakeUnits]
    show look (del (s.endLaunches c).ctxs c) d = none
    rw [ctxs_endLaunches, look_del]
    split_ifs with hcd
    · rfl
    · exact h.resolve_left hcd
  · have := isSome_look_modCtx t c d f
    simpa [ht] using this

theorem ctxs_foldl_dropContext (s : State) (d : Nat) : look (s.ctxs.foldl (fun s e => s.dropContext e.1) s).ctxs d = none := by
  cases h : look s.ctxs d with
  | none =>
    exact List.foldlRecOn (motive := fun t : State => look t.ctxs d = none) _ _ h fun t ht e _ => look_ctxs_dropContext t e.1 d (Or.inr ht)
  | some x =>
    exact foldl_reaches (I := fun _ => True) (Q := fun t : State => look t.ctxs d = none) (fun _ _ => id)
      (fun t e ht => look_ctxs_dropContext t e.1 d (Or.inr ht)) (look_mem h) (fun t _ => look_ctxs_dropContext t d d (Or.inl rfl)) trivial

theorem corePowerRemove_cold {s : State} (h : s.hub.therm = false) : exec .corePowerRemove s = .next s := by
  show execCorePowerRemove s = _
  simp [execCorePowerRemove, h]

theorem corePowerRemove_tripped {s : State} (h : s.hub.therm = true) : ∃ t : State, exec .corePowerRemove s = .next t ∧ t.hub.power = .off ∧
    t.mem = [] ∧ t.squares = [] ∧ t.dies = [] ∧ t.dramSyms = [] ∧ t.badSyms = [] ∧ t.badStores = [] ∧ (∀ c, t.ctx? c = none) ∧
    ∀ i ∈ t.agenda, ∃ x, i = .powerUp x := by
  refine ⟨_, if_neg (by simp [h]), rfl, rfl, rfl, rfl, rfl, rfl, rfl, ctxs_foldl_dropContext s, fun i hi => ?_⟩
  have hout := (List.mem_filter.mp hi).2
  unfold fromOutside at hout
  split at hout
  next x => exact ⟨x, rfl⟩
  next => simp at hout

/-! ## Power-up (R398, R399) -/

/-- What power-up brings about, but for the banks: nothing of a context is there, the straps are read, and the units beyond repair are left out. -/
structure PoweredUp (x : Straps) (s t : State) : Prop where
  ctxs : t.ctxs = []
  threads : t.threads = []
  mem : t.mem = []
  cores : t.cores = []
  launches : t.launches = []
  agenda : ∀ i ∈ t.agenda, ∃ g, i = .bankRebuildRow g
  straps : t.hub.straps = x
  pool : t.hub.pool = 3600 - 600 * (x.pwrlim % 4)
  therm : t.hub.therm = false
  power : t.hub.power = if x.bootmd ≠ 0 then .halted else if x.physel = 3 ∨ s.hub.prov = false then .portDown else .up
  leftOut : ∀ c, c ∈ s.hub.ras.absentCores ∨ c ∈ s.hub.ras.retiredCores ∨ c ∈ x.test.cores → c ∈ t.hub.ras.absentCores

/-- Every group that is being rebuilt has its walker in flight. -/
def Rebuilding (s : State) : Prop := ∀ g, (s.bankOf g).rebuilding.isSome → .bankRebuildRow g ∈ s.agenda

/-- The error state of t leaves out what that of s leaves out. -/
structure LeavesOut (s t : State) : Prop where
  cores : s.hub.ras.absentCores ⊆ t.hub.ras.absentCores
  squares : s.hub.ras.absentSquares ⊆ t.hub.ras.absentSquares
  dies : s.hub.ras.absentDies ⊆ t.hub.ras.absentDies
  l2 : s.hub.ras.absentL2 ⊆ t.hub.ras.absentL2

theorem groupThere_of_leavesOut {s t : State} (h : LeavesOut s t) {g : BankGroup} (ht : t.groupThere g = true) : s.groupThere g = true := by
  have hcontains : ∀ {a b : List Nat}, a ⊆ b → ∀ x, b.contains x = false → a.contains x = false := fun {a b} hab x hx => by
    rw [List.contains_eq_mem, decide_eq_false_iff_not] at hx ⊢
    exact fun hm => hx (hab hm)
  have hcore : t.corePresent g.which = true → s.corePresent g.which = true := by
    simp only [State.corePresent, Bool.and_eq_true, Bool.not_eq_true']
    rintro ⟨⟨⟨hn, hc⟩, hq⟩, hd⟩
    exact ⟨⟨⟨hn, hcontains h.cores _ hc⟩, hcontains h.squares _ hq⟩, hcontains h.dies _ hd⟩
  have hdie : t.diePresent g.which = true → s.diePresent g.which = true := by
    simp only [State.diePresent, Bool.and_eq_true, Bool.not_eq_true']
    rintro ⟨hn, hd⟩
    exact ⟨hn, hcontains h.dies _ hd⟩
  simp only [State.groupThere, Bool.and_eq_true, Bool.not_eq_true', Bool.and_eq_false_iff] at ht ⊢
  obtain ⟨⟨hg, hp⟩, hl⟩ := ht
  refine ⟨⟨hg, ?_⟩, hl.imp_right (hcontains h.l2 _)⟩
  split_ifs at hp ⊢
  · exact hcore hp
  · exact hdie hp

theorem corePresent_of_absent {s : State} {c : Nat} (h : c ∈ s.hub.ras.absentCores) : s.corePresent c = false := by
  simp [State.corePresent, h]

/-- With no context on the device, marking a bank keeps what errors, marks and the walker's actions keep. -/
theorem KeptByErrors.markBank (hP : KeptByErrors P) (hmark : ∀ (t : State) g b, P t → P (t.setBank g b))
    (hpost : ∀ (t : State) g, P t → P (t.post (.bankRebuildRow g))) (h : P s) (hc : s.ctxs = []) (g : BankGroup) (k : Nat) :
    P (s.markBank g k) ∧ (s.markBank g k).ctxs = [] := by
  by_cases hm : Markable s g k
  · have hmarked : P (marked s g k) := hmark _ _ _ (hP.count (hP.logError h _ _ _ _ _) _ _)
    have hctxs : (marked s g k).ctxs = [] := (marked_ctxs s g k).trans hc
    rw [markBank_of_markable hm]
    split_ifs
    · exact hP.loseGroup_of_no_ctxs hmarked hctxs g
    · exact ⟨hpost _ _ hmarked, hctxs⟩
    · exact ⟨hmarked, hctxs⟩
  · rw [markBank_of_not_markable hm]
    exact ⟨h, hc⟩

/-- Power-up's facts stay as the self-test's banks are marked. -/
theorem PoweredUp.markBank {x : Straps} {s₀ : State} (h : PoweredUp x s₀ s) (g : BankGroup) (k : Nat) : PoweredUp x s₀ (s.markBank g k) := by
  refine (KeptByErrors.markBank (P := PoweredUp x s₀) ⟨fun t f hf _ ht => ?_, fun t d f ht => ?_⟩ (fun t g b ht => ?_) (fun t g ht => ?_) h h.ctxs g k).1
  · exact { ht with leftOut := fun c hc => (hf t.hub.ras).1 ▸ ht.leftOut c hc }
  · exact { ht with }
  · exact { ht with }
  · exact { ht with agenda := fun i hi => (List.mem_append.mp hi).elim (ht.agenda i) fun hi => ⟨g, List.mem_singleton.mp hi⟩ }

theorem LeavesOut.refl (s : State) : LeavesOut s s := ⟨fun _ => id, fun _ => id, fun _ => id, fun _ => id⟩

theorem leavesOut_markBank (hc : s.ctxs = []) (g : BankGroup) (k : Nat) : LeavesOut s (s.markBank g k) := by
  refine (KeptByErrors.markBank (P := LeavesOut s) ⟨fun t f hf _ ht => ?_, fun t d f ht => ⟨ht.1, ht.2, ht.3, ht.4⟩⟩
    (fun t g b ht => ⟨ht.1, ht.2, ht.3, ht.4⟩) (fun t g ht => ⟨ht.1, ht.2, ht.3, ht.4⟩) (LeavesOut.refl s) hc g k).1
  obtain ⟨h1, h2, h3, h4⟩ := hf t.hub.ras
  exact ⟨h1 ▸ ht.cores, h2 ▸ ht.squares, h3 ▸ ht.dies, h4 ▸ ht.l2⟩

/-- A group that starts to be rebuilt gets its walker, and one that is lost is rebuilt no more. -/
theorem Rebuilding.markBank (h : Rebuilding s) (hc : s.ctxs = []) (g : BankGroup) (k : Nat) : Rebuilding (s.markBank g k) := by
  by_cases hm : Markable s g k
  case neg => rwa [markBank_of_not_markable hm]
  have hother : ∀ b, g ≠ b → ((marked s g k).bankOf b).rebuilding.isSome → .bankRebuildRow b ∈ s.agenda := fun b hgb hb =>
    h b (by rwa [bankOf_marked, if_neg hgb] at hb)
  rw [markBank_of_markable hm]
  intro b hb
  split_ifs at hb ⊢ with hlost hstart
  · have hagenda : ((marked s g k).loseGroup g).agenda = (marked s g k).agenda :=
      (KeptByErrors.loseGroup_of_no_ctxs (P := fun t : State => t.agenda = (marked s g k).agenda) ⟨fun _ _ _ _ => id, fun _ _ _ => id⟩ rfl
        ((marked_ctxs s g k).trans hc) g).1
    rw [bankOf_loseGroup] at hb
    rw [hagenda, marked_agenda]
    by_cases hgb : g = b
    · subst hgb
      rw [bankOf_marked_self, rebuilding_of_lost hlost] at hb
      simp at hb
    · exact hother b hgb hb
  · rw [post_agenda, marked_agenda]
    by_cases hgb : g = b
    · subst hgb; simp
    · exact List.mem_append_left _ (hother b hgb hb)
  · rw [marked_agenda]
    by_cases hgb : g = b
    · subst hgb
      rw [bankOf_marked_self] at hb
      refine h g ?_
      simpa [hb, Option.isSome_iff_ne_none] using hstart
    · exact hother b hgb hb

theorem look_eq_none_of_filter {κ α : Type} [DecidableEq κ] {l : List (κ × α)} {k : κ} (p : κ × α → Bool) (f : κ × α → α) (h : look l k = none) :
    look ((l.filter p).map (fun e => (e.1, f e))) k = none := by
  induction l with
  | nil => rfl
  | cons e r ih =>
    obtain ⟨a, v⟩ := e
    by_cases ha : a = k
    · simp [look, ha] at h
    · have hr := ih (by simpa [look, ha] using h)
      cases hp : p (a, v) <;> simp [hp, look, ha, hr]

/-- Power-up marks the banks that the self-test finds bad in a state that has its other effects. -/
theorem exec_powerUp (s : State) (x : Straps) : ∃ t : State,
    exec (.powerUp x) s = .next ((x.test.banks.foldl (fun s e => s.markBank e.1 e.2) t).modRas Ras.leaveOut) ∧ PoweredUp x s t ∧ Rebuilding t ∧
    t.hub.ras.logn = 0 ∧ ∀ g, look s.hub.ras.banks g = none → t.bankOf g = {} := by
  refine ⟨_, rfl, ?_, ?_, rfl, ?_⟩
  · refine ⟨rfl, rfl, rfl, rfl, rfl, fun i hi => ?_, rfl, rfl, rfl, ?_, fun c hc => ?_⟩
    · obtain ⟨e, -, rfl⟩ := List.mem_map.mp hi
      exact ⟨e.1, rfl⟩
    · simp [powerOf]
    · simpa [presenceAfter, Ras.leaveOut, or_assoc] using hc
  · intro g hg
    unfold State.bankOf at hg
    cases hb : look (presenceAfter s.hub.ras x.test).banks g with
    | none => simp [hb] at hg
    | some b =>
      rw [hb] at hg
      exact List.mem_map.mpr ⟨(g, b), List.mem_filter.mpr ⟨look_mem hb, hg⟩, rfl⟩
  · intro g hg
    have hnone : look (presenceAfter s.hub.ras x.test).banks g = none := look_eq_none_of_filter _ _ hg
    show (look (presenceAfter s.hub.ras x.test).banks g).getD {} = _
    rw [hnone]
    rfl

/-- The one bank that the self-test finds bad is marked, and the log says so. -/
theorem markBank_of_new {g : BankGroup} {k : Nat} (hg : s.groupThere g = true) (hb : s.bankOf g = {}) (hk : k ≤ 18) :
    ((s.markBank g k).bankOf g).failed = [k] ∧ (s.markBank g k).hub.ras.logn = s.hub.ras.logn + 1 := by
  have hm : Markable s g k := ⟨hg, by rw [hb], by rw [hb]; simp, hk⟩
  have hf : (s.bankOf g).failed = [] := by rw [hb]
  by_cases h18 : k = 18
  · subst h18
    rw [markBank_spare hm hf, bankOf_marked_self, markedBy_spare hf]
    exact ⟨rfl, rfl⟩
  · have hr : (s.bankOf g).rebuilding = none := by rw [hb]
    rw [markBank_first hm hf h18 hr]
    refine ⟨?_, rfl⟩
    show ((marked s g k).bankOf g).failed = [k]
    rw [bankOf_marked_self, markedBy_first hf h18 hr]

theorem powerUp_spec (s : State) (x : Straps) : ∃ t : State, exec (.powerUp x) s = .next t ∧ PoweredUp x s t ∧ Rebuilding t ∧
    (x.test.banks = [] → t.hub.ras.logn = 0) ∧ ∀ g k, x.test.banks = [(g, k)] → k ≤ 18 → look s.hub.ras.banks g = none → t.groupThere g = true →
      (t.bankOf g).failed = [k] ∧ t.hub.ras.logn = 1 := by
  obtain ⟨t, ht, hup, hre, hlog, hnew⟩ := exec_powerUp s x
  have hfold : PoweredUp x s (x.test.banks.foldl (fun s e => s.markBank e.1 e.2) t) ∧ Rebuilding (x.test.banks.foldl (fun s e => s.markBank e.1 e.2) t) :=
    List.foldlRecOn (motive := fun u => PoweredUp x s u ∧ Rebuilding u) _ _ ⟨hup, hre⟩ fun u hu e _ =>
      ⟨hu.1.markBank e.1 e.2, hu.2.markBank hu.1.ctxs e.1 e.2⟩
  refine ⟨_, ht, { hfold.1 with leftOut := fun c hc => List.mem_append_left _ (hfold.1.leftOut c hc) }, hfold.2, fun hx => ?_, fun g k hx hk hg hthere => ?_⟩
  · rw [hx]
    exact hlog
  · rw [hx] at hthere ⊢
    have hout : LeavesOut t ((t.markBank g k).modRas Ras.leaveOut) := by
      obtain ⟨hc, hq, hd, hl⟩ := leavesOut_markBank hup.ctxs g k
      exact ⟨fun c h => List.mem_append_left _ (hc h), hq, hd, fun c h => List.mem_append_left _ (hl h)⟩
    obtain ⟨hfailed, hlogn⟩ := markBank_of_new (groupThere_of_leavesOut hout hthere) (hnew g hg) hk
    exact ⟨hfailed, by rw [← Nat.zero_add 1, ← hlog]; exact hlogn⟩

/-! ## Power management -/

theorem powerManagement : Claim.PowerManagement := by
  refine ⟨fun s demand => ?_, fun s d h => ⟨tokens_of_shrunk_zero h, ?_⟩, thermalLimit_spec, thermalTrip_spec,
    fun s => ⟨corePowerRemove_cold, corePowerRemove_tripped⟩, fun s x => ?_⟩
  · obtain ⟨t, ht, hut, hdie, hport⟩ := governorRound_spec s demand
    obtain ⟨low, hs⟩ := unitBudget_shares s demand
    exact ⟨t, ht, hut, hdie, hport, hs.sum_le, low, hs.nodup, hs.units, fun u hu => ⟨hs.floor u hu, hs.share u hu⟩⟩
  · obtain ⟨t, ht, -, -, htokens, -⟩ := thermalLimit_spec s d
    exact ⟨t, ht, htokens⟩
  · obtain ⟨t, ht, hup, hre, hlog, hbank⟩ := powerUp_spec s x
    exact ⟨t, ht, hup.ctxs, hup.threads, hup.mem, hup.cores, hup.agenda, hre, hup.launches, hup.straps, hup.pool, hup.therm, hup.power,
      fun c hc => corePresent_of_absent (hup.leftOut c hc), hlog, hbank⟩

end Hardware

/-- Settles O42, from one lemma for each event of ports, banks and clocks, and of power. -/
theorem hardwareEvents : Obligations.HardwareEvents := ⟨portsBanksClocks, powerManagement⟩

end Sys2Proof.Proofs
end

section
/-!
PROOF. The state after reset (O49): every clause says what a table or a field of it holds, or is a decidable property of it.
-/
namespace Sys2Proof.Proofs
open Sys2Proof Sys2Proof.Machine Sys2Proof.Claim

/-- Power-up leaves every table empty but that of the sessions, which holds session 0. -/
theorem reset_tables : Claim.ResetState :=
  ⟨rfl, rfl, rfl, rfl, rfl, rfl, rfl, rfl, rfl, rfl, rfl, rfl, rfl, rfl, rfl, rfl, rfl, rfl, rfl, rfl, rfl, rfl, rfl, fun _ => rfl, _, rfl, rfl⟩

theorem reset_sound : Claim.ResetIsSound := by
  unfold Claim.ResetIsSound HandlesOnce
  decide

/-- Settles O49: the tables of the state after reset are empty, so that what steps keep holds of it. -/
theorem resetState : Obligations.ResetState := ⟨reset_tables, reset_sound⟩

end Sys2Proof.Proofs
end

section
/-!
PROOF. O4 and O17 fail for the reason for which O12 does: no instruction writes a g register that the line's record `gLast` has as written by a
later step (R23), and the statements admit states in which that record is ahead of the count of steps, `stampedAhead` among them.
-/
namespace Sys2Proof.Proofs
open Sys2Proof Sys2Proof.Machine Sys2Proof.Claim

/-- The lane of `stampedAhead` with thread number 7 (R41). -/
def stampedSeven : State := { stampedAhead with threads := [(⟨0, 0, 0, 0⟩, { tid := 7 })] }

/-- `srd g1` of the thread's number. -/
noncomputable def readTid : Instr := .srd false 105#7 0#8

/-- The read leaves g1 as it was. -/
theorem greg_after_readTid : val (answerTo readTid stampedSeven) 0 105#7 1 = 0 := by decide +kernel

/-- Refutes O4: `srd` does not write the thread's number 7 to a g register whose last write the line has as made by step 1, while the count of
steps is 0; `Sound` says nothing of that record. -/
theorem not_specialRegisters : ¬ Obligations.SpecialRegisters := by
  unfold Obligations.SpecialRegisters
  rintro ⟨⟨reads, -⟩, -, -⟩
  obtain ⟨t, ht, hholds, -⟩ :=
    reads false 105#7 0#8 stampedSeven (by decide) (by decide +kernel) (by decide +kernel) (by decide +kernel) (by decide)
  have h7 := hholds (by decide) 0 [] rfl
  rw [eq_answerTo ht] at h7
  exact absurd (greg_after_readTid.symm.trans h7) (by decide +kernel)

/-- `scmem g1` of scope 0, whose one member is the lane's own core (R36). -/
noncomputable def memberOfScope0 : Instr := .scmem false 105#7 0#4

/-- The query leaves g1 as it was. -/
theorem greg_after_memberOfScope0 : val (answerTo memberOfScope0 stampedAhead) 0 105#7 1 = 0 := by decide +kernel

/-- Refutes O17: `scmem` does not write that the lane's core is a member of scope 0 to a g register whose last write the line has as made by
step 1, while the count of steps is 0; `Sound` says nothing of that record. -/
theorem not_scopesAndFences : ¬ Obligations.ScopesAndFences := by
  unfold Obligations.ScopesAndFences
  rintro ⟨-, -, ⟨-, queries⟩, -⟩
  obtain ⟨t, ht, -, -, -, -, hholds⟩ :=
    queries false 105#7 0#4 stampedAhead (by decide) (by decide +kernel) (by decide +kernel) (by decide +kernel)
  have h1 := hholds (by decide) 0 [] rfl
  rw [eq_answerTo ht] at h1
  exact absurd (greg_after_memberOfScope0.symm.trans h1) (by decide +kernel)

end Sys2Proof.Proofs
end

section
/-!
PROOF. Every step keeps the memories and register files canonical, lines whole, and places single (O50). `Whole` says so part by part; one lemma
per operation of the model says that the operation keeps it, and the step's lemma puts them together.
-/
namespace Sys2Proof.Proofs
open Sys2Proof Sys2Proof.Machine Sys2Proof.Claim Sys2Proof.Laws
set_option Elab.async false -- many short lemmas, each of which waits for those before it: in order they need no threads

/-! ## The invariant, part by part -/

/-- A thread's register file and lane-private memory are in canonical form. -/
abbrev ThreadOk (t : Thread) : Prop := t.priv.wf = true ∧ swf 0#32 t.regs = true

/-- A line has its 8 g registers and 8 channels (R23, R164). -/
abbrev LineOk (x : Line) : Prop := x.g.length = 8 ∧ x.chans.length = 8

/-- What `Sound` says of the seven tables that it speaks of. -/
structure Parts (m : Memory) (ts : Tbl Place Thread) (ls : Tbl LineKey Line) (cs : Tbl CoreKey Core) (qs : Tbl Nat Square) (ds : Tbl Nat Die)
    (is : List Image) : Prop where
  mem : m.wf = true
  threads : ∀ e ∈ ts, ThreadOk e.2
  places : (ts.map (·.1)).Nodup
  lines : ∀ e ∈ ls, LineOk e.2
  cores : ∀ e ∈ cs, e.2.scratch.wf = true
  squares : ∀ e ∈ qs, e.2.sqm.wf = true
  dies : ∀ e ∈ ds, e.2.market.wf = true
  images : ∀ i ∈ is, i.wf = true

/-- The invariant of a state. It reads seven fields, so an update of any other keeps it by definition. -/
def Whole (s : State) : Prop := Parts s.mem s.threads s.lines s.cores s.squares s.dies s.images

theorem sound_iff_whole {s : State} : Sound s ↔ Whole s := by
  constructor
  · rintro ⟨hwf, hlines, hplaces⟩
    simp only [State.wf, Bool.and_eq_true, List.all_eq_true, beq_iff_eq] at hwf hlines
    obtain ⟨⟨⟨⟨⟨hm, ht⟩, hc⟩, hq⟩, hd⟩, hi⟩ := hwf
    exact ⟨hm, ht, hplaces, hlines, hc, hq, hd, hi⟩
  · intro h
    refine ⟨?_, ?_, h.places⟩
    · simp only [State.wf, Bool.and_eq_true, List.all_eq_true]
      exact ⟨⟨⟨⟨⟨h.mem, h.threads⟩, h.cores⟩, h.squares⟩, h.dies⟩, h.images⟩
    · simpa only [List.all_eq_true, Bool.and_eq_true, beq_iff_eq] using h.lines

/-! The invariant of what an operation answers beside a state, or in place of one. -/

/-- Of the state that an optional answer holds. -/
def WholeOpt : Option State → Prop
  | some t => Whole t
  | none => True

/-- Of the state of an answer that is no error. -/
def WholeOk {ε : Type} : Except ε State → Prop
  | .ok t => Whole t
  | .error _ => True

/-- Of the state beside the value of an answer that is no error. -/
def WholeVal {ε α : Type} : Except ε (α × State) → Prop
  | .ok r => Whole r.2
  | .error _ => True

/-- Of the state beside the value of an optional answer. -/
def WholeOptSnd {α : Type} : Option (α × State) → Prop
  | some r => Whole r.2
  | none => True

def WholeOptFst {α : Type} : Option (State × α) → Prop
  | some r => Whole r.1
  | none => True

/-- Of the state in which the operands of an issue have been read, or its lanes have trapped or wait. -/
def WholePrep : Prep → Prop
  | .halt s => Whole s
  | .go _ _ s => Whole s

/-- Of the state in which an access has been performed, or waits. -/
def WholeServed : Served → Prop
  | .done s _ => Whole s
  | .wait s => Whole s
  | _ => True

/-- Of the state in which a contribution has been made. -/
def WholeContrib : Contrib → Prop
  | .done s => Whole s
  | _ => True

/-- Of the state in which a tile has its rows. -/
def WholeRoom : Room → Prop
  | .ok s => Whole s
  | _ => True

/-- Of the state in which a record has been read, or the lanes stopped. -/
def WholeRecRead : RecRead → Prop
  | .ok _ s => Whole s
  | .stop s => Whole s

/-- Of the state in which a drain sequencer has written, or waits. -/
def WholeDrained : Drained → Prop
  | .done s => Whole s
  | .wait s => Whole s
  | _ => True

/-- Of the state in which the chosen action is to be taken. -/
def WholeChoice : Choice → Prop
  | .event _ s => Whole s
  | .issue _ s => Whole s
  | .idle => True

/-- Of the state of an outcome. -/
def WholeNext : Host.Outcome State Fault Refusal → Prop
  | .next t => Whole t
  | _ => True

section Elim
variable {s t : State} {ε α : Type}

theorem WholeOpt.get {o : Option State} (e : o = some t) (h : WholeOpt o) : Whole t := by subst e; exact h
theorem WholeOpt.getD {o : Option State} (h : WholeOpt o) (hs : Whole s) : Whole (o.getD s) := by
  cases o
  · exact hs
  · exact h
theorem WholeOpt.map {o : Option α} {f : α → State} (h : ∀ a, Whole (f a)) : WholeOpt (o.map f) := by
  cases o
  · trivial
  · exact h _
theorem WholeOk.map {o : Except ε α} {f : α → State} (h : ∀ a, o = .ok a → Whole (f a)) : WholeOk (o.map f) := by
  cases o with
  | error => trivial
  | ok a => exact h a rfl
theorem WholeOk.get {r : Except ε State} (e : r = .ok t) (h : WholeOk r) : Whole t := by subst e; exact h
theorem WholeVal.get {r : Except ε (α × State)} {a : α} (e : r = .ok (a, t)) (h : WholeVal r) : Whole t := by subst e; exact h
theorem WholeVal.map {β : Type} {r : Except ε (α × State)} {f : α × State → β × State} (h : WholeVal r)
    (hf : ∀ x, (f x).2 = x.2 := by exact fun _ => rfl) :
    WholeVal (r.map f) := by
  cases r with
  | error => trivial
  | ok x => exact (congrArg Whole (hf x)).mpr h
theorem WholeNext.get {r : Host.Outcome State Fault Refusal} (e : r = .next t) (h : WholeNext r) : Whole t := by subst e; exact h
theorem WholeOptSnd.get {o : Option (α × State)} {a : α} (e : o = some (a, t)) (h : WholeOptSnd o) : Whole t := by subst e; exact h
theorem WholeOptFst.get {o : Option (State × α)} {a : α} (e : o = some (t, a)) (h : WholeOptFst o) : Whole t := by subst e; exact h
theorem WholeOptFst.getFst {o : Option (State × α)} {r : State × α} (e : o = some r) (h : WholeOptFst o) : Whole r.1 := by subst e; exact h
theorem WholePrep.halt {p : Prep} (e : p = .halt t) (h : WholePrep p) : Whole t := by subst e; exact h
theorem WholePrep.go {p : Prep} {ls : List Nat} {vs : List (Nat × List (List Word))} (e : p = .go ls vs t) (h : WholePrep p) : Whole t := by
  subst e; exact h
theorem WholeServed.done {r : Served} {o : Option (ReplyTo × List Word)} (e : r = .done t o) (h : WholeServed r) : Whole t := by subst e; exact h
theorem WholeServed.wait {r : Served} (e : r = .wait t) (h : WholeServed r) : Whole t := by subst e; exact h
theorem WholeContrib.done {r : Contrib} (e : r = .done t) (h : WholeContrib r) : Whole t := by subst e; exact h
theorem WholeRoom.ok {r : Room} (e : r = .ok t) (h : WholeRoom r) : Whole t := by subst e; exact h
theorem WholeRecRead.ok {r : RecRead} {bs : List Byte} (e : r = .ok bs t) (h : WholeRecRead r) : Whole t := by subst e; exact h
theorem WholeRecRead.stop {r : RecRead} (e : r = .stop t) (h : WholeRecRead r) : Whole t := by subst e; exact h
theorem WholeDrained.done {r : Drained} (e : r = .done t) (h : WholeDrained r) : Whole t := by subst e; exact h
theorem WholeDrained.wait {r : Drained} (e : r = .wait t) (h : WholeDrained r) : Whole t := by subst e; exact h
theorem WholeChoice.event {r : Choice} {i : Instr} (e : r = .event i t) (h : WholeChoice r) : Whole t := by subst e; exact h
theorem WholeChoice.issue {r : Choice} {w : Word} (e : r = .issue w t) (h : WholeChoice r) : Whole t := by subst e; exact h
theorem Whole.inSome (h : Whole s) : WholeOpt (some s) := h
theorem Whole.inOk (h : Whole s) : WholeOk (ε := ε) (.ok s) := h
theorem Whole.pair {a : α} (h : Whole s) : Whole (a, s).2 := h
theorem Whole.pairFst {a : α} (h : Whole s) : Whole (s, a).1 := h
theorem Whole.snd {r : α × State} {a : α} (e : r = (a, t)) (h : Whole r.2) : Whole t := by subst e; exact h
/-! Either way. -/

variable {u : State} {c : Prop} [Decidable c]

theorem Whole.ite (h : Whole t) (h' : Whole u) : Whole (if c then t else u) := by split <;> assumption
theorem Whole.iteThen (h : Whole u) (f : Whole u → Whole t) : Whole (if c then t else u) := .ite (f h) h
theorem Whole.iteOpt {a b : Option State} (h : WholeOpt a) (h' : WholeOpt b) : WholeOpt (if c then a else b) := by split <;> assumption
theorem Whole.iteOk {a b : Except ε State} (h : WholeOk a) (h' : WholeOk b) : WholeOk (if c then a else b) := by split <;> assumption
theorem Whole.iteVal {a b : Except ε (α × State)} (h : WholeVal a) (h' : WholeVal b) : WholeVal (if c then a else b) := by split <;> assumption
theorem Whole.iteNext {a b : Host.Outcome State Fault Refusal} (h : WholeNext a) (h' : WholeNext b) : WholeNext (if c then a else b) := by
  split <;> assumption
theorem Whole.iteRec {a b : RecRead} (h : WholeRecRead a) (h' : WholeRecRead b) : WholeRecRead (if c then a else b) := by split <;> assumption
theorem Whole.iteSnd {a b : α × State} (h : Whole a.2) (h' : Whole b.2) : Whole (if c then a else b).2 := by split <;> assumption
theorem Whole.iteFst {a b : State × α} (h : Whole a.1) (h' : Whole b.1) : Whole (if c then a else b).1 := by split <;> assumption
theorem Whole.iteSnd2 {β : Type} {a b : α × β × State} (h : Whole a.2.2) (h' : Whole b.2.2) : Whole (if c then a else b).2.2 := by split <;> assumption

end Elim

/-! ## Tables and loops -/

section Tables
variable {κ α β ε : Type} {s : State}

theorem forall_mem_put [DecidableEq κ] {p : α → Prop} {t : List (κ × α)} {k : κ} {v : α} (h : ∀ e ∈ t, p e.2) (hv : p v) :
    ∀ e ∈ put t k v, p e.2 := by
  intro e he
  rcases mem_put he with rfl | he
  · exact hv
  · exact h e he

theorem of_look [DecidableEq κ] {p : α → Prop} {t : List (κ × α)} {k : κ} {d : α} (h : ∀ e ∈ t, p e.2) (hd : p d) : p ((look t k).getD d) := by
  cases hl : look t k with
  | none => exact hd
  | some v => exact h _ (look_mem hl)

theorem nodup_keys_put [DecidableEq κ] {t : List (κ × α)} {k : κ} {v : α} (h : (t.map (·.1)).Nodup) : ((put t k v).map (·.1)).Nodup := by
  induction t with
  | nil => simp [put]
  | cons e r ih =>
    obtain ⟨a, w⟩ := e
    obtain ⟨ha, hr⟩ := List.nodup_cons.mp h
    by_cases hak : a = k
    · subst hak
      simpa [put] using And.intro ha hr
    · simp only [put, if_neg hak, List.map_cons, List.nodup_cons]
      refine ⟨fun hmem => ?_, ih hr⟩
      obtain ⟨e, he, rfl⟩ := List.mem_map.mp hmem
      rcases mem_put he with rfl | he
      · exact hak rfl
      · exact ha (List.mem_map.mpr ⟨e, he, rfl⟩)

theorem nodup_keys_del [DecidableEq κ] {t : List (κ × α)} {k : κ} (h : (t.map (·.1)).Nodup) : ((del t k).map (·.1)).Nodup := by
  induction t with
  | nil => simp [del]
  | cons e r ih =>
    obtain ⟨a, w⟩ := e
    obtain ⟨ha, hr⟩ := List.nodup_cons.mp h
    by_cases hak : a = k
    · simpa [del, hak] using ih hr
    · simp only [del, if_neg hak, List.map_cons, List.nodup_cons]
      refine ⟨fun hmem => ?_, ih hr⟩
      obtain ⟨e, he, rfl⟩ := List.mem_map.mp hmem
      exact ha (List.mem_map.mpr ⟨e, mem_of_mem_del he, rfl⟩)

theorem nodup_keys_filter {t : List (κ × α)} (p : κ × α → Bool) (h : (t.map (·.1)).Nodup) : ((t.filter p).map (·.1)).Nodup :=
  h.sublist (List.filter_sublist.map _)

@[simp] theorem length_setNth {l : List α} {n : Nat} {v : α} : (setNth l n v).length = l.length := by
  induction l generalizing n with
  | nil => rfl
  | cons x r ih => cases n <;> simp [setNth, ih]

/-- A loop keeps what each round keeps. -/
theorem Whole.foldl {l : List β} {f : State → β → State} (h : Whole s) (hf : ∀ t b, Whole t → Whole (f t b)) : Whole (l.foldl f s) :=
  List.foldlRecOn l f h fun t ht b _ => hf t b ht

/-- A loop with an accumulator beside the state. -/
theorem Whole.foldlSnd {l : List β} {x : α × State} {f : α × State → β → α × State} (h : Whole x.2) (hf : ∀ y b, Whole y.2 → Whole (f y b).2) :
    Whole (l.foldl f x).2 :=
  List.foldlRecOn (motive := fun y => Whole y.2) l f (b := x) h fun t ht b _ => hf t b ht

/-- A loop over values that hold a state. -/
theorem Whole.foldlAt (g : α → State) {l : List β} {x : α} {f : α → β → α} (h : Whole (g x)) (hf : ∀ y b, Whole (g y) → Whole (g (f y b))) :
    Whole (g (l.foldl f x)) :=
  List.foldlRecOn (motive := fun y => Whole (g y)) l f (b := x) h fun t ht b _ => hf t b ht

/-- A loop that may stop. -/
theorem Whole.foldlOpt {l : List β} {f : State → β → Option State} (h : Whole s) (hf : ∀ t b, Whole t → WholeOpt (f t b)) :
    WholeOpt (l.foldlM f s) := by
  induction l generalizing s with
  | nil => exact h
  | cons b r ih =>
    rw [List.foldlM_cons]
    cases hb : f s b with
    | none => trivial
    | some t => exact ih ((hf s b h).get hb)

theorem Whole.foldlOk {l : List β} {f : State → β → Except ε State} (h : Whole s) (hf : ∀ t b, Whole t → WholeOk (f t b)) :
    WholeOk (l.foldlM f s) := by
  induction l generalizing s with
  | nil => exact h
  | cons b r ih =>
    rw [List.foldlM_cons]
    cases hb : f s b with
    | error => trivial
    | ok t => exact ih ((hf s b h).get hb)

theorem Whole.foldlOptFst {l : List β} {f : State × α → β → Option (State × α)} {x : State × α} (h : Whole x.1)
    (hf : ∀ y b, Whole y.1 → WholeOptFst (f y b)) : WholeOptFst (l.foldlM f x) := by
  induction l generalizing x with
  | nil => exact h
  | cons b r ih =>
    rw [List.foldlM_cons]
    cases hb : f x b with
    | none => trivial
    | some y => exact ih ((hf x b h).get hb)

theorem Whole.foldlVal {l : List β} {f : α × State → β → Except ε (α × State)} {x : α × State} (h : Whole x.2)
    (hf : ∀ y b, Whole y.2 → WholeVal (f y b)) : WholeVal (l.foldlM f x) := by
  induction l generalizing x with
  | nil => exact h
  | cons b r ih =>
    rw [List.foldlM_cons]
    cases hb : f x b with
    | error => trivial
    | ok y => exact ih ((hf x b h).get hb)

end Tables

/-! ## Updates of one entry -/

section Entries
variable {s : State} (h : Whole s)
include h

theorem Whole.line {c v l : Nat} : LineOk (s.line c v l) := of_look h.lines ⟨rfl, rfl⟩
theorem Whole.core {c v : Nat} : (s.core c v).scratch.wf = true := of_look (p := fun x : Core => x.scratch.wf = true) h.cores rfl
theorem Whole.square {q : Nat} : (s.square q).sqm.wf = true := of_look (p := fun x : Square => x.sqm.wf = true) h.squares rfl
theorem Whole.die {d : Nat} : (s.die d).market.wf = true := of_look (p := fun x : Die => x.market.wf = true) h.dies rfl

theorem Whole.modCtx {c : Nat} {f : Ctx → Ctx} : Whole (s.modCtx c f) := by
  unfold State.modCtx
  split <;> exact h

theorem Whole.modIssCtx {f : Ctx → Ctx} : Whole (s.modIssCtx f) := h.modCtx

theorem Whole.modThread {p : Place} {f : Thread → Thread} (hf : ∀ t, ThreadOk t → ThreadOk (f t) := by exact fun _ h => h) : Whole (s.modThread p f) := by
  unfold State.modThread
  split
  · exact h
  · next t ht => exact { h with threads := forall_mem_put h.threads (hf t (h.threads _ (look_mem ht))), places := nodup_keys_put h.places }

theorem Whole.modLane {l : Nat} {f : Thread → Thread} (hf : ∀ t, ThreadOk t → ThreadOk (f t) := by exact fun _ h => h) : Whole (s.modLane l f) :=
  h.modThread hf

theorem Whole.modLanes {ls : List Nat} {f : Thread → Thread} (hf : ∀ t, ThreadOk t → ThreadOk (f t) := by exact fun _ h => h) : Whole (s.modLanes ls f) :=
  h.foldl fun _ _ h => h.modLane hf

theorem Whole.modCore {c v : Nat} {f : Core → Core} (hf : ∀ x : Core, x.scratch.wf = true → (f x).scratch.wf = true := by exact fun _ h => h) :
    Whole (s.modCore c v f) :=
  { h with cores := forall_mem_put (p := fun x : Core => x.scratch.wf = true) h.cores (hf _ h.core) }

theorem Whole.modIssCore {f : Core → Core} (hf : ∀ x : Core, x.scratch.wf = true → (f x).scratch.wf = true := by exact fun _ h => h) :
    Whole (s.modIssCore f) := h.modCore hf

theorem Whole.modLine {c v l : Nat} {f : Line → Line} (hf : ∀ x, LineOk x → LineOk (f x) := by exact fun _ h => h) : Whole (s.modLine c v l f) :=
  { h with lines := forall_mem_put h.lines (hf _ h.line) }

theorem Whole.modIssLine {f : Line → Line} (hf : ∀ x, LineOk x → LineOk (f x) := by exact fun _ h => h) : Whole (s.modIssLine f) := h.modLine hf

theorem Whole.modSquare {q : Nat} {f : Square → Square} (hf : ∀ x : Square, x.sqm.wf = true → (f x).sqm.wf = true := by exact fun _ h => h) :
    Whole (s.modSquare q f) :=
  { h with squares := forall_mem_put (p := fun x : Square => x.sqm.wf = true) h.squares (hf _ h.square) }

theorem Whole.modDie {d : Nat} {f : Die → Die} (hf : ∀ x : Die, x.market.wf = true → (f x).market.wf = true := by exact fun _ h => h) :
    Whole (s.modDie d f) :=
  { h with dies := forall_mem_put (p := fun x : Die => x.market.wf = true) h.dies (hf _ h.die) }

theorem Whole.dropThread {p : Place} : Whole { s with threads := del s.threads p } :=
  { h with threads := fun e he => h.threads e (mem_of_mem_del he), places := nodup_keys_del h.places }

theorem Whole.dropLine {k : LineKey} : Whole { s with lines := del s.lines k } := { h with lines := fun e he => h.lines e (mem_of_mem_del he) }

theorem Whole.putThread {p : Place} {t : Thread} (ht : ThreadOk t) : Whole { s with threads := put s.threads p t } :=
  { h with threads := forall_mem_put h.threads ht, places := nodup_keys_put h.places }

theorem Whole.putLine {k : LineKey} {x : Line} (hx : LineOk x) : Whole { s with lines := put s.lines k x } :=
  { h with lines := forall_mem_put h.lines hx }

theorem Whole.withMem {m : Memory} {u d : List Nat} (hm : m.wf = true) : Whole { s with mem := m, uncorr := u, dramSyms := d } :=
  { h with mem := hm }

theorem Whole.withSquares {q : Tbl Nat Square} (hq : ∀ e ∈ q, e.2.sqm.wf = true) : Whole { s with squares := q } := { h with squares := hq }

theorem Whole.withBadChip {b : List ChipAt} : Whole { s with badChip := b } := h

theorem Whole.withHeld {w : List WbHeld} : Whole { s with wbHeld := w } := h

theorem Whole.withLaunches {l : Tbl Nat Launch} : Whole { s with launches := l } := h

theorem Whole.withHub {u : Hub} : Whole { s with hub := u } := h

theorem Whole.withIssue {i : Issue} : Whole { s with issue := i } := h

end Entries

theorem LineOk.setChan {x : Line} (h : LineOk x) {k : Nat} {c : Chan} : LineOk (setChan x k c) := ⟨h.1, by simpa [Machine.setChan] using h.2⟩
theorem ThreadOk.setReg {t : Thread} (h : ThreadOk t) {r : Nat} {w : Word} : ThreadOk (t.setReg r w) := ⟨h.1, swf_sset h.2⟩

end Sys2Proof.Proofs
end

section
/-!
PROOF. O50: issues, their operands and their results keep the invariant.
-/
namespace Sys2Proof.Proofs
open Sys2Proof Sys2Proof.Machine Sys2Proof.Claim Sys2Proof.Laws
set_option Elab.async false

variable {s s0 : State}

/-! ### Frames of the state, traps and the finish of an issue -/

theorem Whole.bump (h : Whole s) : Whole s.bump := h

theorem Whole.post {i : Instr} (h : Whole s) : Whole (s.post i) := h

theorem Whole.send {f : Frame} (h : Whole s) : Whole (s.send f) := h

theorem Whole.catchFlits {c v n : Nat} (h : Whole s) : Whole (s.catchFlits c v n) := by
  unfold State.catchFlits
  split
  · exact h.modCore
  · exact h

theorem Whole.countIssue (h : Whole s) : Whole s.countIssue := .ite h (.withIssue h.modIssCore)

theorem Whole.moveTo {sb : Bool} {lanes : List Nat} {next : Nat → Thread → Pos × Bool} (h : Whole s) : Whole (s.moveTo sb lanes next) :=
  .bump (.foldl h fun _ _ h => h.modLane)

theorem Whole.popFor {lanes : List Nat} (h : Whole s) : Whole (s.popFor lanes) := by
  unfold State.popFor
  split
  · exact h
  · exact .foldl h fun _ _ h => h.modIssLine fun _ h => h.setChan

theorem Whole.finishTo {sb : Bool} {lanes : List Nat} {next : Nat → Thread → Pos × Bool} (h : Whole s) : Whole (s.finishTo sb lanes next) :=
  .moveTo (.ite h h.popFor.countIssue)

theorem Whole.finish {sb : Bool} {lanes : List Nat} (h : Whole s) : Whole (s.finish sb lanes) := h.finishTo

theorem Whole.stall (h : Whole s) : Whole s.stall := h.modLanes

theorem Whole.parkHere {lanes : List Nat} (h : Whole s) : Whole (s.parkHere lanes) := h.modLanes.bump

theorem Whole.parkHeld {lanes : List Nat} (h : Whole s) : Whole (s.parkHeld lanes) :=
  .bump (h.modLanes fun _ h => by split <;> exact h)

theorem Whole.stallChan (h : Whole s) : Whole s.stallChan := h.modLanes

theorem Whole.queueRecord {c : Nat} {r : BitVec 256} (h : Whole s) : Whole (s.queueRecord c r) := h.modCtx.post

theorem Whole.logError {kind action ctx loc addr : Nat} (h : Whole s) : Whole (s.logError kind action ctx loc addr) := h

theorem Whole.count {k n : Nat} (h : Whole s) : Whole (s.count k n) := h

theorem Whole.reportError {kind action ctx loc addr : Nat} (h : Whole s) : Whole (s.reportError kind action ctx loc addr) := h.logError.count

theorem Whole.takeTrap {p : LineKey} {lanes : List Nat} {pos : Pos} {t : Trap} (h : Whole s) : Whole (s.takeTrap p lanes pos t) := by
  unfold State.takeTrap
  dsimp only
  refine .ite h ?_
  refine .queueRecord ?_
  refine .foldl ?_ fun _ _ h => h.modThread
  have hlog : Whole (match t.log with
    | some (kind, loc, addr) => s.reportError kind 1 p.ctx loc addr
    | none => s) := by
    split
    · exact h.reportError
    · exact h
  exact .ite hlog.countIssue hlog

theorem Whole.takeTraps {p : LineKey} {pos : Pos} {ts : List (Nat × Trap)} (h : Whole s) : Whole (s.takeTraps p pos ts) :=
  .foldl h fun _ _ h => h.takeTrap

theorem Whole.trapIssue {ts : List (Nat × Trap)} (h : Whole s) : Whole (s.trapIssue ts) := h.takeTraps

theorem Whole.trapAll {t : Trap} (h : Whole s) : Whole (s.trapAll t) := h.takeTrap

theorem Whole.clearTrap {p : Place} {retry : Bool} (h : Whole s) : Whole (s.clearTrap p retry) :=
  h.modThread fun _ h => by split <;> exact h

theorem Whole.residueCheck {ctx die action : Nat} {lanes : List Nat} (h : Whole s) : Whole (s.residueCheck ctx die action lanes).2 :=
  .pair (.foldl (.ite h (.count h)) fun _ _ h => h.logError)

theorem Whole.readStore {x : StoreAt} (h : Whole s) : Whole (s.readStore x).2 := .iteSnd h (.pair (.ite (.count h) h))

/-! ### Page entries and marks -/

theorem Whole.modVc {c n : Nat} {f : VCache → VCache} (h : Whole s) : Whole (s.modVc c n f) := h.modCtx

theorem Whole.markLeaf {c ia : Nat} {wr : Bool} (h : Whole s) : Whole (s.markLeaf c ia wr) := by
  unfold State.markLeaf
  split
  · exact h
  · split
    · exact h
    · exact h.modCtx

/-! ### Operands: reading, delivering, residue checks -/

theorem Whole.unreserve {ps : List Push} (h : Whole s) : Whole (s.unreserve ps) :=
  .foldl h fun _ _ h => h.modLine fun _ h => h.setChan

theorem Whole.reserve {c v line k m : Nat} (h : Whole s) : Whole (s.reserve c v line k m).1 := by
  unfold State.reserve
  split
  · exact h
  · exact .pairFst (.bump (h.modLine fun _ h => h.setChan))

theorem Whole.markArea {c launch p : Nat} {wr : Bool} (h : Whole s) : Whole (s.markArea c launch p wr) := by
  unfold State.markArea
  split
  · exact h
  · refine .ite h ?_
    split
    · exact .ite h.markLeaf.modCtx h.markLeaf
    · exact h

theorem Whole.parkRetry {lanes : List Nat} (h : Whole s) : Whole (s.parkRetry lanes) := h.modLanes.bump

theorem Whole.noteBacking {hit : List (Nat × PFault × Nat × Bool)} (h : Whole s) : Whole (s.noteBacking hit) := by
  unfold State.noteBacking
  refine .foldl h fun _ _ h => ?_
  split
  · exact h.post
  · exact h

theorem Whole.parkCold {ops : List OpSpec} {lanes : List Nat} (h : Whole s) : Whole (s.parkCold ops lanes).1 :=
  .iteFst h <| .pairFst <| .ite (.modLanes (.foldl h.noteBacking fun _ _ h => .foldl h fun _ _ h => h.markArea))
    (.parkRetry (.modLanes (.foldl h.noteBacking fun _ _ h => .foldl h fun _ _ h => h.markArea)))

theorem Whole.spillReg {p : Place} {r place : Nat} (h : Whole s) : Whole (s.spillReg p r place) := by
  unfold State.spillReg
  split
  · exact h
  · split
    · exact h
    · exact .ite h h.modThread.markArea

theorem Whole.correctRegs {ops : List OpSpec} {lanes : List Nat} (h : Whole s) : Whole (s.correctRegs ops lanes) :=
  .foldl h fun _ _ h => .ite h h.modLane.count

theorem Whole.prepare {privileged : Bool} {ops : List OpSpec} (h : Whole s) : WholePrep (s.prepare privileged ops) := by
  unfold State.prepare
  dsimp only
  split
  · exact h.trapIssue
  · split
    · exact h.trapIssue.takeTrap
    · split
      · exact h.trapIssue.correctRegs.parkCold
      · split
        · exact h.trapIssue.correctRegs.parkCold.takeTrap
        · exact h.trapIssue.correctRegs.parkCold.stallChan
        · exact h.trapIssue.correctRegs.parkCold.stall
        · split
          · exact h.trapIssue.correctRegs.parkCold.stall
          · split
            · exact h.trapIssue.correctRegs.parkCold
            · exact h.trapIssue.correctRegs.parkCold

theorem Whole.replyTo {lanes : List Nat} {o : OpSpec} (h : Whole s) : Whole (s.replyTo lanes o).1 := by
  unfold State.replyTo
  dsimp only
  split
  · exact h
  · exact h
  · exact h
  · exact h.reserve.pairFst

/-- Writing g registers leaves a line whole. -/
theorem LineOk.writeG {r : Result} {x : Line} (h : LineOk x) : LineOk (r.gs.foldl (fun x e =>
    if r.stamp < (look x.gLast e.1).getD 0 then x else { x with g := setNth x.g e.1 e.2, gLast := put x.gLast e.1 r.stamp }) x) :=
  List.foldlRecOn (motive := LineOk) r.gs _ h fun x hx e _ => by
    split
    · exact hx
    · exact ⟨length_setNth.trans hx.1, hx.2⟩

theorem Whole.applyResult {r : Result} (h : Whole s) : Whole (s.applyResult r) := by
  have hregs : Whole (r.regs.foldl (fun s e => s.modThread ⟨r.ctx, r.vc, r.line, e.1⟩ (fun t => t.setReg e.2.1 e.2.2)) s) :=
    .foldl h fun _ _ h => h.modThread fun _ h => h.setReg
  exact .foldl (.foldl (.ite hregs (hregs.modLine fun _ h => h.writeG)) fun _ _ h => h.modThread) fun _ _ h => h.post

theorem Whole.deliver {long : Bool} {lanes : List Nat} {o : OpSpec} {vals : List (Nat × List Word × Flags)}
    (h : Whole s) : Whole (s.deliver long lanes o vals) :=
  .ite h (.ite h.replyTo.post h.replyTo.applyResult)

theorem Whole.compute {sb long checked : Bool} {ops : List OpSpec} {f : List (List Word) → List Word × Flags}
    (h : Whole s) : WholeNext (s.compute sb long checked ops f) := by
  unfold State.compute
  dsimp only
  split
  · next heq => exact h.prepare.halt heq
  · next heq =>
      have h1 := h.prepare.go heq
      split
      · exact Whole.finish (.deliver (.trapIssue (.iteSnd h1.residueCheck h1)))
      · exact Whole.finish (.trapIssue (.iteSnd h1.residueCheck h1))

end Sys2Proof.Proofs
end

section
/-!
PROOF. O50: special registers, sessions, and accesses to the levels of memory keep the invariant.
-/
namespace Sys2Proof.Proofs
open Sys2Proof Sys2Proof.Machine Sys2Proof.Claim Sys2Proof.Laws
set_option Elab.async false

variable {s s0 : State}

/-! ### Special registers -/

theorem Whole.wakeYielded {c v : Nat} (h : Whole s) : Whole (s.wakeYielded c v) :=
  .foldl (.foldl h fun _ _ h => h.modLine fun _ h => ⟨rfl, h.2⟩) fun _ _ h => h.modThread fun _ h => ⟨h.1, rfl⟩

theorem Whole.setPreq {c : Nat} {on : Bool} (h : Whole s) : Whole (s.setPreq c on) :=
  .ite h.modCtx (.ite h.modCtx.modCtx.post (.ite (.post (.foldl h.modCtx fun _ _ h => h.wakeYielded)) (.foldl h.modCtx fun _ _ h => h.wakeYielded)))

theorem Whole.writeSreg {n l : Nat} {w : Word} (h : Whole s) : Whole (s.writeSreg n l w) := by
  unfold State.writeSreg
  dsimp only
  split
  · exact h.modLane
  · exact h.modIssCtx
  · split
    · exact h.setPreq
    · exact h
  · split
    · exact h.modCtx
    · exact h
  · split
    · exact h.modCtx
    · exact h
  · split
    · exact h.modCtx
    · exact h
  · refine .ite ?_ h
    split
    · exact h.modCtx
    · exact h
  · split
    · exact h.modCtx
    · exact h
  · exact h

theorem Whole.readSpecial {sw priv : Bool} {d : Fld} {f : State → Nat → Word} (h : Whole s) : WholeNext (s.readSpecial sw priv d f) := by
  unfold State.readSpecial
  split
  · next heq => exact h.prepare.halt heq
  · next heq => exact (h.prepare.go heq).deliver.finish

theorem Whole.writeSpecial {sw : Bool} {a : Fld} {n : Nat} (h : Whole s) : WholeNext (s.writeSpecial sw a n) := by
  unfold State.writeSpecial
  split
  · next heq => exact h.prepare.halt heq
  · next heq => exact Whole.finish (.foldl (h.prepare.go heq) fun _ _ h => h.writeSreg)

/-! ### Frames and sessions -/

theorem Whole.modSess {n : Nat} {f : Session → Session} (h : Whole s) : Whole (s.modSess n f) := by
  unfold State.modSess
  split
  · exact h
  · exact h

theorem Whole.emit {sess n : Nat} {f : Frame} (h : Whole s) : Whole (s.emit sess n f) := by
  unfold State.emit
  split
  · exact h
  · exact h

theorem Whole.toPort {sess n : Nat} {f : Frame} (h : Whole s) : Whole (s.toPort sess n f) := .ite h h.emit

theorem Whole.sendSess {n : Nat} {f : Frame} (h : Whole s) : Whole (s.sendSess n f) := by
  unfold State.sendSess
  split
  · exact h
  · exact .ite h.modSess.toPort h.modSess

theorem Whole.acknowledge {sess seq : Nat} (h : Whole s) : Whole (s.acknowledge sess seq) := h.modSess.toPort

theorem Whole.payOwed {sess : Nat} {owed : List (Nat × Nat)} (h : Whole s) : Whole (s.payOwed sess owed) := by
  induction owed generalizing s with
  | nil => exact h
  | cons e r ih =>
    unfold State.payOwed
    split
    · exact .ite (ih h.modSess.acknowledge) h
    · exact h

theorem Whole.ackUpTo {sess ack : Nat} (h : Whole s) : Whole (s.ackUpTo sess ack) := by
  unfold State.ackUpTo
  dsimp only
  split
  · exact h
  · refine .ite h ?_
    refine .payOwed ?_
    refine .foldl (.foldl h.modSess fun _ _ h => h.toPort) fun _ _ h => ?_
    split
    · exact h
    · exact h

theorem Whole.arrived {h' : Hdr} {ty : Nat} (h : Whole s) : Whole (s.arrived h' ty).2 := by
  unfold State.arrived
  refine .iteSnd h ?_
  split
  · exact h
  · exact .iteSnd (.pair h) (.iteSnd h h)

theorem Whole.frame {h' : Hdr} {ty : Nat} (h : Whole s) : WholeOpt (s.takeFrame h' ty).1 := by
  unfold State.takeFrame
  split
  · trivial
  · next heq =>
      have h := Whole.snd heq h.arrived
      split
      · trivial
      · show Whole (if h'.ack = 0 then _ else _)
        split
        · exact h.modSess
        · exact h.modSess.ackUpTo

theorem Whole.takeFrame {h' : Hdr} {ty : Nat} (h : Whole s) : Whole (s.takeFrame h' ty).2 := by
  unfold State.takeFrame
  split
  · next heq => exact Whole.snd heq h.arrived
  · next heq =>
      have h := Whole.snd heq h.arrived
      split
      · exact h
      · exact h.modSess

theorem Whole.tookEffect {h' : Hdr} {need : Nat} (h : Whole s) : Whole (s.tookEffect h' need) := by
  unfold State.tookEffect
  split
  · exact h
  · exact .ite h.acknowledge h.modSess

theorem Whole.refused (h : Whole s) : Whole (refused s).2.2 := h

theorem Whole.noObject (h : Whole s) : Whole (noObject s).2.2 := h

theorem Whole.done (h : Whole s) : Whole (done s).2.2 := h

/-- A management operation keeps what its effect keeps. -/
theorem Whole.mgmt {h' : Hdr} {code : Nat} {f : MgOp} (h : Whole s) (hf : ∀ t, Whole t → Whole (f t).2.2) : WholeNext (s.mgmt h' code f) := by
  unfold State.mgmt
  split
  · next heq => exact Whole.snd heq h.takeFrame
  · next heq => exact (hf _ (h.frame.get (congrArg Prod.fst heq))).sendSess.tookEffect

theorem Whole.execLctAck {h' : Hdr} {ack : Nat} (h : Whole s) : WholeNext (execLctAck h' ack s) := by
  unfold Machine.execLctAck
  split
  · next heq => exact Whole.snd heq h.arrived
  · next heq => exact (Whole.snd heq h.arrived).ackUpTo

theorem Whole.execLctRetransmitTimeout {sess : Nat} (h : Whole s) : WholeNext (execLctRetransmitTimeout sess s) := by
  unfold Machine.execLctRetransmitTimeout
  split
  · exact h
  · exact Whole.ite (Whole.foldl h fun _ _ h => h.toPort) h

theorem Whole.execTrapRecordEnqueue {ctx : Nat} (h : Whole s) : WholeNext (execTrapRecordEnqueue ctx s) := by
  unfold Machine.execTrapRecordEnqueue
  split
  · exact h
  · split
    · exact h
    · exact Whole.iteNext h.post h.modCtx.sendSess

/-! ### Accesses to L1, L2 and the homes of bytes -/

theorem Whole.correctDram {c pa : Nat} (h : Whole s) : Whole (s.correctDram c pa) := .foldl h fun _ _ h => h.count.logError

theorem Whole.touchL2 {c vcn pa : Nat} {wr : List Nat} {nt : Bool} (h : Whole s) : WholeOpt (s.touchL2 c vcn pa wr nt) :=
  WholeOpt.map fun _ => h.modVc

theorem Whole.taint {c : Nat} {spans : List (Nat × Nat)} (h : Whole s) : Whole (s.taint c spans) := .ite h h.modCtx

theorem Whole.clearBad {x : ChipAt} {n : Nat} (h : Whole s) : Whole (s.clearBad x n) := .ite h h

theorem Whole.correctSym {y : SymAt} (h : Whole s) : Whole (s.correctSym y) := .ite (.post h) h

theorem Whole.noteRead {xs : List ChipAt} (h : Whole s) : Whole (s.noteRead xs) := .ite h (.foldl h fun _ _ h => .foldl h fun _ _ h => h.correctSym)

theorem Whole.noteReads {x : ChipAt} {n : Nat} (h : Whole s) : Whole (s.noteReads x n) := .ite h h.noteRead

theorem Whole.chipPut {c v : Nat} {lvl : Lvl} {a : Nat} {bs : List Byte} (h : Whole s) : Whole (s.chipPut c v lvl a bs) := by
  unfold State.chipPut
  dsimp only
  split
  · exact h.clearBad.modCore fun _ h => wf_writeBytes h
  · exact h.clearBad.modSquare fun _ h => wf_writeBytes h
  · exact h.clearBad.modDie fun _ h => wf_writeBytes h
  · exact h.clearBad

theorem Whole.observe {t : State} {c v : Nat} {who : Who} {lvl : Lvl} {spans : List (Nat × Nat)} {rd wr : Bool} (h : Whole t) :
    Whole (t.observe s c v who lvl spans rd wr) :=
  .foldl h fun _ _ h => h.post

theorem Whole.reportBad {c ia : Nat} (h : Whole s) : Whole (s.reportBad c ia) := h.reportError

theorem Whole.writeTarget {c : Nat} {ranges : Tbl Nat (BitVec 256)} {tgt k : Nat} {cells : Memory}
    (h : Whole s) : WholeOk (s.writeTarget c ranges tgt k cells) := by
  unfold State.writeTarget
  refine Whole.foldlOk h fun _ _ h => ?_
  split
  · exact trivial
  · exact Whole.iteOk trivial (Whole.inOk (Whole.observe (.modCtx (.taint (.markLeaf (.withMem h (wf_memPaste h.mem)))))))

theorem Whole.copyOut {c : Nat} {j : Job} {jn : Nat} {r : BitVec 512} {all : List (Nat × Nat)} {g : Nat} {cells : Memory}
    (h : Whole s) : WholeOk (s.copyOut c j jn r all g cells) :=
  Whole.iteOk (Whole.iteOk h.markLeaf.observe.inOk h.markLeaf.observe.writeTarget) h.markLeaf.observe.sendSess.sendSess.inOk

theorem Whole.modJob {c n : Nat} {f : Job → Job} (h : Whole s) : Whole (s.modJob c n f) := h.modCtx

theorem Whole.cowOne {c g : Nat} (h : Whole s) : WholeOpt (s.cowOne c g) := by
  unfold State.cowOne
  split
  · exact h
  · split
    · refine Whole.iteOpt h ?_
      split
      · exact h
      · refine Whole.iteOpt h.reportBad.modJob.inSome ?_
        split
        · next heq => exact (h.copyOut.get heq).modJob.inSome
        · exact trivial
    · exact h

theorem Whole.cowStep {c g : Nat} (h : Whole s) : WholeOpt (s.cowStep c g) := by
  unfold State.cowStep
  split
  · exact Whole.foldlOpt h fun _ _ h => h.cowOne
  · exact h

theorem Whole.cowCopy {c g : Nat} (h : Whole s) : Whole (s.cowCopy c g) := (WholeOpt.getD h.cowStep h)

theorem Whole.putBytes {c : Nat} {l : List (Nat × Byte)} (h : Whole s) : Whole (s.putBytes c l) := by
  unfold State.putBytes
  dsimp only
  refine .modCtx ?_
  refine .foldl ?_ fun _ _ h => .withMem h (wf_setByte h.mem)
  refine .foldl (.foldl h fun _ _ h => h.cowCopy) fun _ _ h => ?_
  split
  · exact (WholeOpt.getD h.markLeaf.touchL2 h.markLeaf)
  · exact h

theorem Whole.performHalf {h' : HalfAtom} (h : Whole s) : Whole (s.performHalf h') := by
  unfold State.performHalf
  dsimp only
  split
  · exact h.putBytes.taint.observe
  · exact h.chipPut.observe

theorem Whole.settleHalves {pick : HalfAtom → Bool} (h : Whole s) : Whole (s.settleHalves pick) := .ite h (.foldl h fun _ _ h => h.performHalf)

theorem Whole.putIa {c : Nat} {l : List (Nat × Byte)} (h : Whole s) : Whole (s.putIa c l) := h.settleHalves.putBytes

theorem Whole.writeIa {c : Nat} {l : List (Nat × Byte)} (h : Whole s) : Whole (s.writeIa c l) := h.putIa.taint

theorem Whole.chipWrite {c v : Nat} {lvl : Lvl} {a : Nat} {bs : List Byte} (h : Whole s) : Whole (s.chipWrite c v lvl a bs) :=
  .chipPut (.ite h.settleHalves h)

theorem Whole.openPage {c ia : Nat} {rd wr nt : Bool} (h : Whole s) : WholeOk (s.openPage c ia rd wr nt) := by
  unfold State.openPage
  dsimp only
  split
  · exact trivial
  · refine Whole.iteOk h ?_
    split
    · exact trivial
    · next heq =>
        have h1 := h.touchL2.get heq
        split
        · exact trivial
        · next heq => exact WholeOpt.get heq (Whole.iteOpt (Whole.cowStep (.markLeaf (.ite h1.correctDram h)))
            (Whole.inSome (.markLeaf (.ite h1.correctDram h))))

theorem Whole.openPages {c : Nat} {ias : List Nat} {rd wr nt : Bool} (h : Whole s) : WholeOk (s.openPages c ias rd wr nt) :=
  Whole.foldlOk h fun _ _ h => h.openPage

theorem Whole.writeStored {c v la : Nat} {bytes : List (Nat × Byte)} {stores : Tbl Nat Machine.Writer}
    (h : Whole s) : Whole (s.writeStored c v la bytes stores) :=
  .foldl h.writeIa fun _ _ h => h.observe

theorem Whole.flushHeld {pick : WbHeld → Bool} (h : Whole s) : Whole (s.flushHeld pick) := by
  unfold State.flushHeld
  dsimp only
  refine .ite h ?_
  refine .foldl h fun _ _ h => ?_
  split
  · next heq => exact (h.openPage.get heq).writeStored
  · exact h

theorem Whole.flushOwn {c v : Nat} {las : List Nat} (h : Whole s) : Whole (s.flushOwn c v las) := h.flushHeld

theorem Whole.l1Remove {c v : Nat} {p : L1Line → Bool} (h : Whole s) : Whole (s.l1Remove c v p) := h.modCore

theorem Whole.l1Touch {c v la : Nat} (h : Whole s) : Whole (s.l1Touch c v la) := h.modCore

theorem Whole.writeBack {c v la : Nat} (h : Whole s) : Whole (s.writeBack c v la) := by
  unfold State.writeBack
  dsimp only
  split
  · exact h
  · split
    · exact .foldl h fun _ _ h => h.reportError
    · split
      · next heq => exact (WholeOk.get heq (Whole.openPage (.flushOwn (.foldl h fun _ _ h => h.reportError)))).writeStored.modCore
      · exact .ite (.withHeld (.l1Remove (.flushOwn (.foldl h fun _ _ h => h.reportError))))
          (.post (.withHeld (.l1Remove (.flushOwn (.foldl h fun _ _ h => h.reportError)))))

theorem Whole.writeBackAll {c v : Nat} {cls : Nat → Bool} (h : Whole s) : Whole (s.writeBackAll c v cls) := .foldl h fun _ _ h => h.writeBack

theorem Whole.l1Insert {c v : Nat} {x : L1Line} (h : Whole s) : Whole (s.l1Insert c v x) := by
  unfold State.l1Insert
  dsimp only
  refine .l1Touch ?_
  refine .modCore ?_
  split
  · exact h.writeBack.l1Remove
  · exact h

theorem Whole.l1Drop {c v la : Nat} (h : Whole s) : Whole (s.l1Drop c v la) := h.writeBack.l1Remove

theorem Whole.dropAliases {c v : Nat} {las : List Nat} (h : Whole s) : Whole (s.dropAliases c v las) := .foldl h fun _ _ h => h.l1Drop

theorem Whole.ownFirst {c v : Nat} {ias : List Nat} (h : Whole s) : Whole (s.ownFirst c v ias) := .dropAliases (.flushOwn (.ite h h.settleHalves))

theorem Whole.l1Fill {c v la cls : Nat} (h : Whole s) : Whole (s.l1Fill c v la cls) := h.l1Insert

theorem Whole.bumpEpoch {c v k : Nat} (h : Whole s) : Whole (s.bumpEpoch c v k) := .ite h.writeBackAll.l1Remove.modCore h.modCore

theorem Whole.acquire {c v cset point : Nat} (h : Whole s) : Whole (s.acquire c v cset point) :=
  .ite h (.ite (.modCore (.foldl h fun _ _ h => h.bumpEpoch)) (.foldl h fun _ _ h => h.bumpEpoch))

theorem Whole.release {c v cset point : Nat} (h : Whole s) : Whole (s.release c v cset point) :=
  .ite h.settleHalves (.ite (.foldl h.settleHalves.writeBackAll fun _ _ h => h.writeBack) h.settleHalves.writeBackAll)

theorem Whole.preSweep {c v cset point : Nat} (h : Whole s) : Whole (s.preSweep c v cset point) := .ite h h.writeBackAll

theorem Whole.loadL1 {c v : Nat} {ias : List Nat} {nt : Bool} (h : Whole s) : WholeVal (s.loadL1 c v ias nt) := by
  unfold State.loadL1
  dsimp only
  split
  · exact trivial
  · next heq =>
      have h1 := WholeOk.get heq <| by
          refine Whole.foldlOk h fun _ _ h => ?_
          split
          · exact trivial
          · refine Whole.iteOk h.l1Touch.inOk ?_
            split
            · exact trivial
            · split
              · exact trivial
              · next heq =>
                  have h1 := h.ownFirst.openPage.get heq
                  split
                  · exact trivial
                  · exact Whole.inOk (.ite h1 h1.l1Fill)
      exact h1

theorem Whole.loadHome {c v : Nat} {ias : List Nat} {nt : Bool} (h : Whole s) : WholeVal (s.loadHome c v ias nt) := by
  unfold State.loadHome
  dsimp only
  split
  · exact trivial
  · next heq =>
      have h1 := WholeOk.get heq (Whole.openPages (.foldl h.ownFirst fun _ _ h => h.l1Drop))
      split
      · exact trivial
      · exact h1

theorem Whole.storeHome {c v : Nat} {who : Who} {l : List (Nat × Byte)} (h : Whole s) : WholeOk (s.storeHome c v who l) := by
  unfold State.storeHome
  dsimp only
  split
  · exact trivial
  · next heq => exact (WholeOk.get heq (Whole.openPages (.foldl h.ownFirst fun _ _ h => h.l1Drop))).writeIa.observe.inOk

theorem Whole.storeL1 {c v : Nat} {who : Who} {l : List (Nat × Byte)} (h : Whole s) : Whole (s.storeL1 c v who l) :=
  .foldl (.dropAliases (.ite h h)) fun _ _ h => h.l1Insert

theorem Whole.flushSo {c v : Nat} (h : Whole s) : Whole (s.flushSo c v) := by
  unfold State.flushSo
  dsimp only
  refine .ite h ?_
  refine .foldlSnd (.pair h) fun _ _ h => ?_
  refine .iteSnd (.pair h) ?_
  refine .iteSnd (.pair h.release) ?_
  split
  · exact .pair h.release
  · next heq => exact (h.release.l1Drop.openPage.get heq).writeStored.acquire.pair

end Sys2Proof.Proofs
end

section
/-!
PROOF. O50: the quarter engines, groups, and the saltern keep the invariant.
-/
namespace Sys2Proof.Proofs
open Sys2Proof Sys2Proof.Machine Sys2Proof.Claim Sys2Proof.Laws
set_option Elab.async false

variable {s s0 : State}

/-! ### Quarter engines and drain sequencers -/

theorem Whole.modDrain {c v line q : Nat} {f : DrainSeq → DrainSeq} (h : Whole s) : Whole (s.modDrain c v line q f) :=
  h.modLine fun _ h => by split <;> exact h

theorem Whole.dropDrain {c v line q : Nat} (h : Whole s) : Whole (s.dropDrain c v line q) := h.modLine

theorem Whole.holdDrain {c v line q : Nat} {d : DrainSeq} {fault : Option Nat} (h : Whole s) : Whole (s.holdDrain c v line q d fault) :=
  .foldl h.modDrain fun _ _ h => h.modThread

theorem Whole.setQueue {c v q : Nat} {l : List Pass} (h : Whole s) : Whole (s.setQueue c v q l) := h.modCore

theorem Whole.runPass {c v q : Nat} {p : Pass} (h : Whole s) : Whole (s.runPass c v q p) := by
  unfold State.runPass
  dsimp only
  refine .ite h.modCore.readStore.unreserve.takeTrap ?_
  split
  · split
    · exact .ite h.modCore.readStore.reportError h.modCore.readStore.takeTrap
    · exact h.modCore.readStore.observe.noteRead.modLine
  · exact h.modCore.readStore.modLine
  · exact h.modCore.readStore.post
  · exact .ite (.post (.modLine (.foldl h.modCore.readStore fun _ _ h => h.modThread)))
      (.holdDrain (.modLine (.foldl h.modCore.readStore fun _ _ h => h.modThread)))

theorem Whole.startPass {c v q : Nat} (h : Whole s) : Whole (s.startPass c v q) := by
  unfold State.startPass
  split
  · exact h
  · exact h.setQueue.runPass

theorem Whole.runNaming {c v q : Nat} {ns : List Nat} {fuel : Nat} (h : Whole s) : Whole (s.runNaming c v q ns fuel) := by
  induction fuel generalizing s with
  | zero => exact h
  | succ fuel ih => exact .ite (ih h.startPass) h

theorem Whole.releaseOprs {c : Nat} {owner : Nat × Nat} (h : Whole s) : Whole (s.releaseOprs c owner) :=
  .foldl h fun _ _ h => .ite h (.modCore (.foldl h fun _ _ h => h.runNaming))

/-! ### Groups and barriers -/

theorem Whole.modGroup {c v num : Nat} {f : Machine.Group → Machine.Group} (h : Whole s) : Whole (s.modGroup c v num f) :=
  h.modCore fun _ h => by split <;> exact h

theorem Whole.completePhase {c v num : Nat} (h : Whole s) : Whole (s.completePhase c v num) := by
  unfold State.completePhase
  split
  · exact h
  · refine .ite h (.ite (.foldl h fun _ _ h => h.preSweep) (.modGroup ?_))
    refine .foldl (.foldl (.foldl h fun _ _ h => h.preSweep) fun _ _ h => h.acquire) fun _ _ h => h.modThread fun _ h => ?_
    split <;> exact h

theorem Whole.completePhases {c : Nat} (h : Whole s) : Whole (s.completePhases c) := .foldl h fun _ _ h => h.completePhase

theorem Whole.arriveBar {c : Nat} {m : Member} (h : Whole s) : Whole (s.arriveBar c m) := by
  unfold State.arriveBar
  split
  · exact h
  · exact h.modThread.modGroup

theorem Whole.checkLaunch {uid : Nat} (h : Whole s) : Whole (s.checkLaunch uid) := by
  unfold State.checkLaunch
  split
  · exact h
  · exact .ite h.post h

theorem Whole.wakeUnits (h : Whole s) : Whole s.wakeUnits := .foldl h fun _ _ h => .ite h.post h

theorem Whole.dissolve {c v num : Nat} {g : Machine.Group} (h : Whole s) : Whole (s.dissolve c v num g) := by
  unfold State.dissolve
  dsimp only
  have h1 := h.settleHalves (pick := fun h => h.ctx == c && h.sq.isSome) |>.releaseOprs (c := c) (owner := (v, num))
  refine .wakeUnits ?_
  split
  · exact h1.modSquare.modCtx.modCore
  · refine .checkLaunch ?_
    split
    · exact h1.modSquare.modCtx.modCore
    · exact .withLaunches h1.modSquare.modCtx.modCore

theorem Whole.leaveGroup {c : Nat} {m : Member} (h : Whole s) : Whole (s.leaveGroup c m) := by
  unfold State.leaveGroup
  split
  · exact h
  · exact .ite h.modThread.modGroup.dissolve h.modThread.modGroup.completePhase

theorem Whole.makeGroup {c v : Nat} {sq : Bool} {alloc cap : Nat} {launch : Option Nat} {ms : List Member}
    (h : Whole s) : Whole (s.makeGroup c v sq alloc cap launch ms).2 := by
  unfold State.makeGroup
  split
  · exact h
  · split
    · exact h
    · refine .pair (.foldl (.iteThen (.modCore (.clearBad (.foldl h fun _ _ h => h.leaveGroup)) fun _ h => ?_) ?_) fun _ _ h => h.modThread)
      · dsimp only
        split
        · exact h
        · exact wf_zero h
      · exact fun h => h.modSquare fun _ h => wf_zero h

theorem Whole.endStep {c v code : Nat} (h : Whole s) : Whole (s.endStep c v code) := by
  unfold State.endStep
  split
  · exact h
  · exact .bump (.foldl h.modCore.modCtx.applyResult fun _ _ h => h.modThread)

theorem Whole.sendDrain {c v line : Nat} {d : DrainSeq} (h : Whole s) : Whole (s.sendDrain c v line d) := by
  unfold State.sendDrain
  dsimp only
  refine .foldl h fun _ _ h => ?_
  refine .ite h ?_
  refine .ite (.ite h.release h) ?_
  split
  · next heq =>
      have h1 := WholeOk.get heq (Whole.storeHome (.ite h.release h))
      exact .ite h1.acquire h1
  · exact .ite (.ite h.release h) (.post (.ite h.release h))
  · exact .ite h.release h

theorem Whole.releaseLine {c v line : Nat} (h : Whole s) : Whole (s.releaseLine c v line) :=
  .ite (.wakeUnits (.modCore (.dropLine (.foldl h fun _ _ h => h.sendDrain)))) h

theorem Whole.exitThread {p : Place} (h : Whole s) : Whole (s.exitThread p) := by
  unfold State.exitThread
  dsimp only
  split
  · exact h
  · refine .checkLaunch ?_
    refine .releaseLine ?_
    split
    · exact h.leaveGroup.dropThread
    · exact h.leaveGroup.dropThread

theorem Whole.syncFirst {keep : Thread → Bool} (h : Whole s) : WholeOpt (s.syncFirst keep) := Whole.iteOpt h.moveTo.inSome trivial

theorem Whole.execGnew {sw : Bool} {d a : Fld} {m : Bool} (h : Whole s) : WholeNext (execGnew sw d a m s) := by
  unfold Machine.execGnew
  split
  · next heq => exact h.prepare.halt heq
  · next heq =>
      have h1 := h.prepare.go heq
      exact Whole.finish (.deliver (.iteSnd h1 h1.makeGroup))

theorem Whole.execJoin {sw : Bool} {a : Fld} (h : Whole s) : WholeNext (execJoin sw a s) := by
  unfold Machine.execJoin
  dsimp only
  split
  · next heq => exact h.prepare.halt heq
  · next heq =>
      have h1 := h.prepare.go heq
      split
      · exact h1.takeTrap
      · refine Whole.iteNext h1.takeTrap (Whole.iteNext h1.takeTrap (.finish ?_))
        exact .foldl (.modGroup (.foldl h1 fun _ _ h => h.leaveGroup)) fun _ _ h => h.modThread

theorem Whole.execBar {sw : Bool} (h : Whole s) : WholeNext (execBar sw s) := by
  unfold Machine.execBar
  split
  · next heq => exact h.syncFirst.get heq
  · refine Whole.iteNext (.stall (.ite h h.release)) (Whole.iteNext h.stall (Whole.iteNext h.stall (.ite (.endStep ?_) ?_))) <;>
      exact .foldl (.foldl (.finish (.finish (.modLanes (.ite h h.release)))) fun _ _ h => h.arriveBar) fun _ _ h => h.completePhase

/-! ### Partials, pans and slots -/

theorem Whole.modSlot {c n : Nat} {f : Slot → Slot} (h : Whole s) : Whole (s.modSlot c n f) := h.modCtx

theorem Whole.sendNews {c elem : Nat} {m : CollMsg} {fl : Flags} (h : Whole s) : Whole (s.sendNews c elem m fl) := by
  unfold State.sendNews
  split
  · exact h.send
  · exact h.post

theorem Whole.tellRanks {c group : Nat} {p : CollParms} {seq elem : Nat} {body : CollNews} {fl : Flags}
    (h : Whole s) : Whole (s.tellRanks c group p seq elem body fl) :=
  .foldl h fun _ _ h => .ite h h.sendNews

theorem Whole.saltCheck {ctx loc : Nat} {t : TreeParms} (h : Whole s) : Whole (s.saltCheck ctx loc t).2 := by
  unfold State.saltCheck
  refine .iteSnd ?_ h
  split
  · exact h
  · exact .pair (.ite (.logError (.ite h (.count h))) (.ite h (.count h)))

theorem Whole.meet {loc : Nat} {t : TreeParms} {p q : Partial} (h : Whole s) : Whole (s.meet loc t p q).2 := h.saltCheck.pair

theorem Whole.recordCode {c n code : Nat} (h : Whole s) : Whole (s.recordCode c n code) := h.modSlot

theorem Whole.failSlot {c n : Nat} {k : SlotCheck} (h : Whole s) : Whole (s.failSlot c n k) := .ite h h.modSlot.post

theorem Whole.failJobs {c : Nat} {pick : Job → Bool} {code : Nat} (h : Whole s) : Whole (s.failJobs c pick code) :=
  .foldl h fun _ _ h => h.modJob.post

theorem Whole.dropColl {c : Nat} {group : Option Nat} {cid : Nat} (h : Whole s) : Whole (s.dropColl c group cid) := h

theorem Whole.failColl {ctx : Nat} {key : CollKey} {code : Nat} (h : Whole s) : Whole (s.failColl ctx key code) := by
  unfold State.failColl
  dsimp only
  split
  · refine .tellRanks ?_
    refine .dropColl ?_
    split
    · exact h.failJobs
    · exact h
  · refine .dropColl ?_
    split
    · exact h.failJobs
    · exact h

theorem Whole.failAdd {p : Partial} (h : Whole s) : Whole (s.failAdd p) := by
  unfold State.failAdd
  split
  · exact h.failSlot
  · exact h.failColl

theorem Whole.failPan {i : PanId} {p : Partial} (h : Whole s) : Whole (s.failPan i p) := .failSlot (.reportError h)

theorem Whole.setPan {i : PanId} {l : List Partial} (h : Whole s) : Whole (s.setPan i l) := h

theorem Whole.raiseApex {c n phys : Nat} (h : Whole s) : Whole (s.raiseApex c n phys) :=
  .ite h (.foldl (.foldl h.setPan.modSlot fun _ _ h => .ite h.failPan h.post) fun _ _ h => .foldl h fun _ _ h => h.post)

theorem Whole.raiseApexes {c : Nat} (h : Whole s) : Whole (s.raiseApexes c) := .foldl h fun _ _ h => .foldl h fun _ _ h => h.raiseApex

theorem Whole.forward {at' : PanId} {p : Partial} (h : Whole s) : Whole (s.forward at' p) := by
  unfold State.forward
  split
  · exact h.post
  · exact h.send
  · exact h.setPan

theorem Whole.spill {site : PanId} {p : Partial} (h : Whole s) : Whole (s.spill site p) := by
  unfold State.spill
  dsimp only
  split
  · exact h.recordCode.modSlot
  · split
    · exact h.post
    · next heq => exact (h.openPages.get heq).putIa.observe.modSlot

theorem Whole.freeBrine {c n i : Nat} {spans : List (Nat × Nat)} (h : Whole s) : WholeOpt (s.freeBrine c n i spans) := by
  unfold State.freeBrine
  dsimp only
  split
  · exact trivial
  · next heq => exact (h.openPages.get heq).putIa.observe.modSlot.inSome

theorem Whole.collRoot {p : Partial} {key : CollKey} (h : Whole s) : Whole (s.collRoot p key) := by
  unfold State.collRoot
  dsimp only
  split
  · exact h
  · split
    · exact .tellRanks (.foldl h fun _ _ h => h.post)
    · exact .foldl h fun _ _ h => h.post

theorem Whole.passOn {i : PanId} {q : Partial} (h : Whole s) : Whole (s.passOn i q) := by
  unfold State.passOn
  split
  · exact h.spill
  · exact h.spill
  · exact h.forward

theorem Whole.evict {i : PanId} {q : Partial} (h : Whole s) : Whole (s.evict i q) := .ite h.setPan.failPan h.setPan.passOn

theorem Whole.hold {i : PanId} {p : Partial} (h : Whole s) : Whole (s.hold i p) := by
  unfold State.hold
  dsimp only
  refine .ite (.passOn (.foldl h fun _ _ h => h.evict)) ?_
  split
  · exact .setPan (.foldl h fun _ _ h => h.evict)
  · exact .setPan (.foldl h fun _ _ h => h.evict)
  · exact .post (.setPan (.foldl h fun _ _ h => h.evict))

theorem Whole.arrive {fuel : Nat} {i : PanId} {p : Partial} (h : Whole s) : Whole (s.arrive fuel i p) := by
  induction fuel generalizing s i p with
  | zero => exact h
  | succ fuel ih =>
    unfold State.arrive
    split
    · exact h
    · refine .ite h ?_
      split
      · exact h.failColl.failColl
      · split
        · exact .ite (.setPan h) (.recordCode (.setPan h))
        · dsimp only
          split
          · refine .ite h (.ite (.failPan (.setPan h)) ?_)
            split
            · next heq => exact ih (Whole.snd heq (.meet (.setPan h)))
            · next heq => exact (Whole.snd heq (.meet (.setPan h))).failAdd
          · refine .ite ?_ (.ite (ih h) (.ite h (.ite h.hold ?_)))
            · split
              · exact h.collRoot
              · exact h.forward
              · split
                · exact .recordCode (s := { s with roots := _ }) h
                · exact h
              · exact h.setPan
            · split
              · split
                · exact h.reportBad.failSlot
                · split
                  · exact h.post
                  · next heq =>
                    have h1 := h.freeBrine.get heq
                    split
                    · next heq => exact ih (Whole.snd heq h1.meet)
                    · next heq => exact (Whole.snd heq h1.meet).failAdd
              · exact h.observe.hold

theorem Whole.execPartialArrive {pan : PanId} {p : Partial} (h : Whole s) : WholeNext (execPartialArrive pan p s) := by
  unfold Machine.execPartialArrive
  dsimp only
  refine Whole.iteNext h.post ?_
  refine Whole.iteNext h ?_
  refine .arrive ?_
  split
  · exact h.raiseApex
  · exact h

theorem Whole.rehome {c : Nat} (h : Whole s) : Whole (s.rehome c) := by
  unfold State.rehome
  refine .foldl h fun _ _ h => ?_
  split
  · exact .ite h (.foldl (l := List.filter _ _) h fun _ _ h => h.hold)
  · exact h

theorem Whole.execCtbmLeafArrive {p : Partial} (h : Whole s) : WholeNext (execCtbmLeafArrive p s) := by
  unfold Machine.execCtbmLeafArrive
  dsimp only
  split
  · exact h.post
  · split
    · exact h.post
    · next heq => exact Whole.ite h.post (h.touchL2.get heq).rehome.arrive

theorem Whole.flushSite {c n : Nat} {i : PanId} (h : Whole s) : Whole (s.flushSite c n i) := .foldl h.setPan fun _ _ h => .ite h.failPan h.forward

theorem Whole.execCloseMarkerArrive {ctx slot : Nat} {site : PanId} (h : Whole s) : WholeNext (execCloseMarkerArrive ctx slot site s) := by
  unfold Machine.execCloseMarkerArrive
  dsimp only
  refine Whole.iteNext h ?_
  refine Whole.iteNext h.post ?_
  split
  · exact Whole.ite h.modSlot.post h.modSlot
  · exact Whole.ite h.modSlot.post h.modSlot
  · exact Whole.ite h.modSlot.post h.modSlot
  · exact h.flushSite.post

theorem Whole.flushAway {c n : Nat} (h : Whole s) : Whole (s.flushAway c n) := .foldl h fun _ _ h => .ite h.flushSite h

theorem Whole.resolveLevel {loc : Nat} {t : TreeParms} {value : Bool} {L fuel : Nat} {r : Resolved}
    (h : Whole s) : Whole (resolveLevel loc t value L fuel s r).2 := by
  induction fuel generalizing s r with
  | zero => exact h
  | succ fuel ih =>
    unfold Machine.resolveLevel
    split
    · exact h
    · dsimp only
      split
      · split
        · next heq => exact Whole.snd heq h.meet
        · next heq => exact ih (Whole.snd heq h.meet)
      · exact ih h

theorem Whole.resolveFrom {loc : Nat} {t : TreeParms} {value : Bool} {fuel L : Nat} {r : Resolved}
    (h : Whole s) : Whole (resolveFrom loc t value fuel L s r).2 := by
  induction fuel generalizing s L r with
  | zero => exact h
  | succ fuel ih => exact ih h.resolveLevel

theorem Whole.rootWrite {c loc : Nat} {t : TreeParms} {accm : Bool} {w : RootWrite} (h : Whole s) : WholeVal (s.rootWrite c loc t accm w) :=
  Whole.iteVal (Whole.iteVal trivial h.settleHalves.saltCheck.putIa.observe.pair) h.putIa.observe.pair

theorem Whole.rootWriteAll {c loc : Nat} {t : TreeParms} {accm : Bool} {ws : List RootWrite} {fl : Flags}
    (h : Whole s) : WholeVal (s.rootWriteAll c loc t accm ws fl) := by
  induction ws generalizing s fl with
  | nil => exact h
  | cons w r ih =>
    unfold State.rootWriteAll
    split
    · trivial
    · next heq => exact ih (h.rootWrite.get heq)

theorem Whole.clearSlot {c n : Nat} (h : Whole s) : Whole (s.clearSlot c n) := h

theorem Whole.freeLive {c n : Nat} (h : Whole s) : WholeOpt (s.freeLive c n) := Whole.foldlOpt h fun _ _ h => h.freeBrine

theorem Whole.execSlotResolve {ctx slot : Nat} (h : Whole s) : WholeNext (execSlotResolve ctx slot s) := by
  unfold Machine.execSlotResolve
  dsimp only
  split
  · refine Whole.iteNext h ?_
    refine Whole.iteNext h.flushAway.post ?_
    refine Whole.iteNext h.post ?_
    split
    · exact h.reportBad.failSlot
    · split
      · exact h.failPan
      · refine Whole.iteNext h.resolveFrom.failSlot ?_
        split
        · exact h.post
        · exact h.post
        · next heq =>
            obtain ⟨s0, hfree, hopen⟩ := Option.map_eq_some_iff.mp heq
            have h1 := ((h.resolveFrom.freeLive).get hfree).openPages.get hopen
            split
            · exact Whole.failSlot h.resolveFrom
            · next heq => exact (h1.rootWriteAll.get heq).clearSlot.modSlot.post
  · exact h

theorem Whole.freeSlot {c n : Nat} (h : Whole s) : Whole (s.freeSlot c n) := h.modSlot

theorem Whole.answerWait {c n : Nat} {r : ReplyTo} {pos : Pos} (h : Whole s) : Whole (s.answerWait c n r pos) := by
  unfold State.answerWait
  dsimp only
  split
  · split
    · exact h.freeSlot.takeTrap
    · exact h.freeSlot.takeTrap
    · exact .ite h.preSweep h.preSweep.freeSlot.acquire.post
  · exact h.post

theorem Whole.answerWaits {c n : Nat} (h : Whole s) : Whole (s.answerWaits c n) := .foldl h fun _ _ h => h.answerWait

theorem Whole.execSlotFinal {ctx slot : Nat} (h : Whole s) : WholeNext (execSlotFinal ctx slot s) := by
  unfold Machine.execSlotFinal
  dsimp only
  refine Whole.iteNext h.post ?_
  split
  · exact h.post
  · next heq => exact (h.freeLive.get heq).clearSlot.modSlot.answerWaits

theorem Whole.contribute {c v F : Nat} {a : DWord} {n : Nat} {val : DWord} (h : Whole s) : WholeContrib (s.contribute c v F a n val) := by
  unfold State.contribute
  dsimp only
  split
  · exact trivial
  · exact h
  · split
    · exact h.recordCode
    · exact h.post

theorem Whole.contributeNode {c v F : Nat} {lab val : DWord} (h : Whole s) : WholeContrib (s.contributeNode c v F lab val) := by
  unfold State.contributeNode
  dsimp only
  split
  · exact trivial
  · exact h
  · split
    · exact h.recordCode
    · exact h.post

theorem Whole.contributeMem {c F addr : Nat} {b : Word} {val : DWord} {map : Option (List Span)}
    (h : Whole s) : WholeContrib (s.contributeMem c F addr b val map) := by
  unfold State.contributeMem
  dsimp only
  split
  · exact trivial
  · exact h
  · split
    · exact trivial
    · split
      · exact trivial
      · split
        · exact trivial
        · next heq =>
            have h1 := h.openPages.get heq
            split
            · exact h1.recordCode
            · exact h1.post

end Sys2Proof.Proofs
end

section
/-!
PROOF. O50: memory requests, control flow, and channels keep the invariant.
-/
namespace Sys2Proof.Proofs
open Sys2Proof Sys2Proof.Machine Sys2Proof.Claim Sys2Proof.Laws
set_option Elab.async false

variable {s s0 : State}

/-! ### Memory requests, held accesses and issues -/

theorem Whole.fenceFirst {c v : Nat} {r : MemReq} {map : Option (List Span)} (h : Whole s) : Whole (s.fenceFirst c v r map) := by
  unfold State.fenceFirst
  dsimp only
  split
  · refine .preSweep ?_
    split
    · exact h.release
    · exact h
  · split
    · exact h.release
    · exact h

theorem Whole.loadG {c v : Nat} {who : Who} {ss : List Span} {nt : Bool} (h : Whole s) : WholeVal (s.loadG c v who ss nt) := by
  unfold State.loadG
  dsimp only
  refine Whole.iteVal ?_ ?_
  · split
    · exact trivial
    · next heq => exact (h.loadHome.get heq).observe.pair
  · split
    · exact trivial
    · next heq =>
        have h1 := h.loadL1.get heq
        exact Whole.pair (.ite h1 h1.observe)

theorem Whole.served_ofFault {f : PFault} {va : Nat} (h : Whole s) : WholeServed (Served.ofFault s f va) := by
  unfold Served.ofFault
  split
  · exact h
  · exact trivial

theorem Whole.accOfErr {c : Nat} {ss : List Span} {a : AccErr} (h : Whole s) : WholeServed (s.accOfErr c ss a) := by
  unfold State.accOfErr
  split
  · exact h.served_ofFault
  · exact trivial
  · exact trivial
  · exact trivial

theorem Whole.drainOne {c v line q : Nat} (h : Whole s) : WholeDrained (s.drainOne c v line q) := by
  unfold State.drainOne
  dsimp only
  split
  · exact trivial
  · split
    · exact trivial
    · split
      · exact h
      · next w _ _ _ =>
        have hs1 : Whole (if w.attr = 2 then s.release c v 255 2 else s) := .ite h.release h
        generalize (if w.attr = 2 then s.release c v 255 2 else s) = s1 at *
        split
        · exact hs1
        · split
          · split
            · exact hs1
            · exact trivial
          · exact hs1
          · exact hs1
          · exact hs1
          · next heq =>
            have h1 := hs1.storeHome.get heq
            exact .ite (.dropDrain (.ite h1.acquire h1)) (.modDrain (.ite h1.acquire h1))

theorem Whole.drainAll {c v line q fuel : Nat} (h : Whole s) : WholeServed (s.drainAll c v line q fuel) := by
  induction fuel generalizing s with
  | zero => exact h
  | succ fuel ih =>
    unfold State.drainAll
    split
    · exact h.dropDrain
    · next heq => exact ih (h.drainOne.done heq)
    · next heq => exact h.drainOne.wait heq
    · trivial

theorem Whole.atomMode (h : Whole s) : Whole s.atomMode.2 := .pair h

theorem Whole.atomG {c v line lane : Nat} {pos : Pos} {op : AtomOp} {n : Nat} {x cmp : DWord} {g : ScopeGen} {d : Option ReplyTo} {ss : List Span}
    (h : Whole s) : WholeServed (s.atomG c v line lane pos op n x cmp g d ss) := by
  unfold State.atomG
  dsimp only
  split
  · split
    · exact trivial
    · split
      · exact h.atomMode.accOfErr
      · next heq => exact (h.atomMode.loadL1.get heq).storeL1
  · split
    · exact Whole.served_ofFault (.ite (.foldl h.atomMode.ownFirst fun _ _ h => h.l1Drop)
        (.settleHalves (.foldl h.atomMode.ownFirst fun _ _ h => h.l1Drop)))
    · next heq =>
        have h1 := WholeOk.get heq (Whole.openPages (.ite (.foldl h.atomMode.ownFirst fun _ _ h => h.l1Drop)
          (.settleHalves (.foldl h.atomMode.ownFirst fun _ _ h => h.l1Drop))))
        split
        · exact trivial
        · split
          · exact Whole.post (.observe h1)
          · exact h1.putBytes.taint.observe

theorem Whole.atomQ {c v line lane : Nat} {pos : Pos} {l : Lvl} {op : AtomOp} {n a : Nat} {x cmp : DWord} {g : ScopeGen} {d : Option ReplyTo}
    (h : Whole s) : WholeServed (s.atomQ c v line lane pos l op n a x cmp g d) := by
  unfold State.atomQ
  dsimp only
  split
  · exact trivial
  · exact Whole.ite (Whole.post (.observe h.atomMode.settleHalves.noteReads)) h.atomMode.settleHalves.noteReads.chipPut.observe

theorem Whole.performBare {c v line lane : Nat} {pos : Pos} {r : MemReq} {map : Option (List Span)}
    (h : Whole s) : WholeServed (s.performBare c v line lane pos r map) := by
  unfold State.performBare
  dsimp only
  split
  · split
    · exact trivial
    · exact h.noteReads
  · exact h.clearBad.modThread fun _ h => ⟨wf_writeBytes h.1, h.2⟩
  · split
    · exact h.accOfErr
    · next heq => exact h.loadG.get heq
  · split
    · exact h.accOfErr
    · next heq => exact WholeOk.get heq (Whole.iteOk h.storeHome h.storeL1.inOk)
  · exact h.atomG
  · split
    · exact trivial
    · split
      · exact trivial
      · exact Whole.noteReads (.observe (.ite h.settleHalves h))
  · split
    · exact trivial
    · exact h.chipWrite.observe
  · split
    · exact trivial
    · exact h.atomQ
  · exact h
  · split
    · exact h
    · exact h
  · split
    · exact h
    · split
      · exact h
      · split
        · exact h.release
        · refine .ite ?_ ?_
          · refine .endStep ?_
            split
            · exact h.release.arriveBar.completePhase
            · exact h.release.arriveBar
          · split
            · exact h.release.arriveBar.completePhase
            · exact h.release.arriveBar
  · split
    · next heq => exact h.contribute.done heq
    · exact trivial
    · exact h.served_ofFault
  · split
    · next heq => exact h.contributeNode.done heq
    · exact trivial
    · exact h.served_ofFault
  · split
    · next heq => exact h.contributeMem.done heq
    · exact trivial
    · exact h.served_ofFault
  · split
    · exact h.accOfErr
    · next heq =>
        have h1 := h.loadG.get heq
        split
        · exact trivial
        · exact h1.modCtx
  · exact Whole.observe (.modCore (.foldl h fun _ _ h => h.clearBad) fun _ h => wf_storeElem h)
  · split
    · exact trivial
    · exact h.observe.noteRead
  · exact h.drainAll

theorem Whole.perform {c v line lane : Nat} {pos : Pos} {r : MemReq} {map : Option (List Span)}
    (h : Whole s) : WholeServed (s.perform c v line lane pos r map) := by
  unfold State.perform
  split
  · exact trivial
  · split
    · next heq =>
        have h1 := h.performBare.done heq
        split
        · exact h1.acquire
        · exact h1
    · exact h.performBare

theorem Whole.noteFaults {c v line : Nat} {fs : List LaneFault} (h : Whole s) : Whole (s.noteFaults c v line fs) :=
  .foldl (.foldl h fun _ _ h => h.modThread) fun _ _ h => h.post

theorem Whole.issued_lane {x : Issued} {l : Nat} {r : MemReq} {map : Option (List Span)} (h : Whole x.s) : Whole (x.lane l r map).s := by
  unfold Issued.lane
  dsimp only
  split
  · exact h.modLane
  · split
    · next heq => exact h.perform.done heq
    · exact h.unreserve
    · exact h.modLane
    · next heq => exact (h.perform.wait heq).modLane

theorem Whole.laneReplies {dst : Option OpSpec} {reqs : List (Nat × MemReq)} {first : Bool}
    (h : Whole s) : Whole (s.laneReplies dst reqs first).2 := by
  induction reqs generalizing s first with
  | nil => exact h
  | cons e rest ih =>
    unfold State.laneReplies
    split
    · exact h
    · exact ih h.replyTo

theorem Whole.memIssueTo {sw : Bool} {dst : Option OpSpec} {reqs : List (Nat × MemReq)} {next : Nat → Thread → Pos × Bool}
    (h : Whole s) (h0 : Whole s0) : Whole (s.memIssueTo s0 sw dst reqs next) := by
  unfold State.memIssueTo
  dsimp only
  refine .ite h.readStore.trapAll ?_
  refine .ite h0.stall ?_
  refine .ite (.stall (.foldl h0 fun _ _ h => h.fenceFirst)) ?_
  refine .ite h0.stall ?_
  refine .finishTo ?_
  refine .trapIssue ?_
  have hfirst {l : List (Nat × MemReq × Option (List Span))} {f : State → Nat × MemReq × Option (List Span) → State}
      (hf : ∀ t e, Whole t → Whole (f t e)) : Whole (l.foldl f (s.readStore (.board s.issue.ctx s.issue.vc)).2) := .foldl h.readStore hf
  split
  · refine .post (.noteFaults (.foldlAt Issued.s (.laneReplies (.ite ?_ (.countIssue ?_))) fun _ _ h => h.issued_lane)) <;>
      exact hfirst fun _ _ h => h.fenceFirst
  · refine .noteFaults (.foldlAt Issued.s (.laneReplies (.ite ?_ (.countIssue ?_))) fun _ _ h => h.issued_lane) <;>
      exact hfirst fun _ _ h => h.fenceFirst

theorem Whole.memIssue {sw : Bool} {dst : Option OpSpec} {reqs : List (Nat × MemReq)} (h : Whole s) (h0 : Whole s0) :
    Whole (s.memIssue s0 sw dst reqs) :=
  h.memIssueTo h0

theorem Whole.gangIssue {sw : Bool} {lanes : List Nat} {r : MemReq} (h : Whole s) (h0 : Whole s0) : Whole (s.gangIssue s0 sw lanes r) := by
  unfold State.gangIssue
  dsimp only
  split
  · exact h.takeTrap
  · refine .ite h0.stall ?_
    refine .ite h0.fenceFirst.stall ?_
    refine .ite (.finish (.modLanes (.modLane (.ite h.fenceFirst h)))) ?_
    split
    · exact .takeTrap (.ite h.fenceFirst h)
    · next heq => exact (WholeServed.done heq (Whole.perform (.countIssue (.ite h.fenceFirst h)))).finish
    · exact .finish (.noteFaults (.modLanes (.modLane (.ite h.fenceFirst h))))
    · exact h0.fenceFirst.stall

theorem Whole.retried_lane {c v line lane fuel : Nat} {x : Retried} (h : Whole x.s) : Whole (Retried.lane c v line lane fuel x).s := by
  induction fuel generalizing x with
  | zero => exact h
  | succ fuel ih =>
    unfold Retried.lane
    dsimp only
    split
    · exact h
    · simp only [apply_ite Retried.s]
      refine .ite h (.ite h (.ite h.fenceFirst ?_))
      split
      · next heq =>
        have h1 := h.fenceFirst.perform.done heq
        refine ih ?_
        split
        · exact h1.modThread.post
        · exact h1.modThread
      · exact .foldl h.fenceFirst fun _ _ h => h.modThread
      · exact h.fenceFirst
      · next heq => exact h.fenceFirst.perform.wait heq

theorem Whole.retryLanes {c v line : Nat} {lanes : List Nat} (h : Whole s) : Whole (s.retryLanes c v line lanes) :=
  .foldl (.noteFaults (.foldlAt Retried.s h fun _ _ h => h.retried_lane)) fun _ _ h => h.takeTraps

theorem Whole.wakeHeld {c : Nat} (h : Whole s) : Whole (s.wakeHeld c) := .foldl h fun _ _ h => h.retryLanes

theorem Whole.answerTrap {p : Place} {retry : Bool} (h : Whole s) : Whole (s.answerTrap p retry) := by
  unfold State.answerTrap
  dsimp only
  refine .ite ?_ h.clearTrap
  refine .bump ?_
  refine .modThread ?_
  split
  · exact h.dropDrain
  · exact h.unreserve
  · exact h

/-! ### Control flow and channels -/

theorem Whole.execBranch {sw : Bool} {d : Fld} {o : BitVec 18} {taken : Word → Bool} (h : Whole s) : WholeNext (s.execBranch sw d o taken) := by
  unfold State.execBranch
  split
  · next heq => exact h.prepare.halt heq
  · next heq => exact (h.prepare.go heq).finishTo

theorem Whole.execCall {sw : Bool} {d : Fld} {o : BitVec 18} (h : Whole s) : WholeNext (execCall sw d o s) := by
  unfold Machine.execCall
  split
  · next heq => exact h.prepare.halt heq
  · next heq => exact (h.prepare.go heq).deliver.finishTo

theorem Whole.execIndirect {link : Option Fld} {a : Fld} (h : Whole s) : WholeNext (s.execIndirect link a) := by
  unfold State.execIndirect
  dsimp only
  split
  · next heq => exact h.prepare.halt heq
  · next heq =>
      have h1 := h.prepare.go heq
      refine .finishTo ?_
      split
      · exact .ite h1.trapIssue h1.trapIssue.deliver
      · exact h1.trapIssue

theorem Whole.execExit {sw : Bool} (h : Whole s) : WholeNext (execExit sw s) := by
  unfold Machine.execExit
  split
  · next heq => exact h.syncFirst.get heq
  · exact Whole.iteNext h.stall (Whole.foldl h.countIssue fun _ _ h => h.exitThread)

theorem Whole.execYchk {sw : Bool} (h : Whole s) : WholeNext (execYchk sw s) := by
  unfold Machine.execYchk
  split
  · next heq => exact h.syncFirst.get heq
  · refine Whole.iteNext h.finish (Whole.iteNext h.finish (Whole.iteNext h.finish.takeTrap (.modLanes (h.finish.memIssueTo h) fun _ h => ?_)))
    split <;> exact h

theorem Whole.execYield {sw : Bool} (h : Whole s) : WholeNext (execYield sw s) := by
  unfold Machine.execYield
  split
  · next heq => exact h.syncFirst.get heq
  · exact Whole.ite h.finish.modLanes.modLanes h.finish.modLanes

theorem Whole.execChBind {sw : Bool} {a : Fld} {k : BitVec 3} (h : Whole s) : WholeNext (execChBind sw a k s) := by
  unfold Machine.execChBind
  split
  · next heq => exact h.prepare.halt heq
  · next heq =>
      have h1 := h.prepare.go heq
      exact Whole.iteNext h1.takeTrap (.finish (h1.modIssLine fun _ h => h.setChan))

theorem Whole.execChCnt {sw : Bool} {d : Fld} {k : BitVec 3} (h : Whole s) : WholeNext (execChCnt sw d k s) := by
  unfold Machine.execChCnt
  split
  · next heq => exact h.prepare.halt heq
  · next heq => exact (h.prepare.go heq).deliver.finish

theorem Whole.execChannelPushArrive {p : Push} (h : Whole s) : WholeNext (execChannelPushArrive p s) := by
  unfold Machine.execChannelPushArrive
  split
  · exact h
  · exact Whole.foldl (h.catchFlits.modLine fun _ h => h.setChan) fun _ _ h => h.modThread

end Sys2Proof.Proofs
end

section
/-!
PROOF. O50: translation, slots, and engine jobs keep the invariant.
-/
namespace Sys2Proof.Proofs
open Sys2Proof Sys2Proof.Machine Sys2Proof.Claim Sys2Proof.Laws
set_option Elab.async false

variable {s s0 : State}

/-! ### Translation, page moves and faults -/

theorem Whole.execRangeRegisterWrite {h' : Hdr} {ctx k : Nat} {recd : BitVec 256}
    (h : Whole s) : WholeNext (execRangeRegisterWrite h' ctx k recd s) := by
  unfold Machine.execRangeRegisterWrite
  refine Whole.mgmt h fun _ h => ?_
  split
  · exact h.noObject
  · exact .iteSnd2 h.refused h.modCtx.done

theorem Whole.dropFrame {c pa n : Nat} (h : Whole s) : Whole (s.dropFrame c pa n) := h.modCtx

theorem Whole.setPage {c L ia : Nat} {e : DWord} (h : Whole s) : Whole (s.setPage c L ia e) := .foldl h.settleHalves.modCtx fun _ _ h => h.dropFrame

theorem Whole.execPageMap {h' : Hdr} {ctx level ia : Nat} {entry : DWord} (h : Whole s) : WholeNext (execPageMap h' ctx level ia entry s) := by
  unfold Machine.execPageMap
  refine Whole.mgmt h fun _ h => ?_
  split
  · exact h.noObject
  · exact .iteSnd2 h.refused (.iteSnd2 h.noObject h.setPage.done)

theorem Whole.execPageUnmap {h' : Hdr} {ctx level ia : Nat} (h : Whole s) : WholeNext (execPageUnmap h' ctx level ia s) := by
  unfold Machine.execPageUnmap
  refine Whole.mgmt h fun _ h => ?_
  split
  · exact h.noObject
  · split
    · exact h.noObject
    · exact h.setPage.done

theorem Whole.execPageChange {h' : Hdr} {ctx level ia : Nat} {entry : DWord} (h : Whole s) : WholeNext (execPageChange h' ctx level ia entry s) := by
  unfold Machine.execPageChange
  refine Whole.mgmt h fun _ h => ?_
  split
  · exact h.noObject
  · split
    · exact h.noObject
    · exact .iteSnd2 h.refused h.setPage.done

theorem Whole.movePage {c ia pa : Nat} (h : Whole s) : Whole (s.movePage c ia pa) := by
  unfold State.movePage
  split
  · exact h
  · exact .setPage (h.settleHalves.withMem (wf_memPaste h.settleHalves.mem))

theorem Whole.noteMove {c ia : Nat} (h : Whole s) : Whole (s.noteMove c ia) := .ite h.modCtx.post h.modCtx

theorem Whole.execPageMigrate {ctx ia : Nat} {move : PageMove} (h : Whole s) : WholeNext (execPageMigrate ctx ia move s) := by
  unfold Machine.execPageMigrate
  split
  · exact h
  · exact Whole.iteNext h (Whole.iteNext h.post h.movePage.noteMove)

theorem Whole.recordFault {n : FaultNote} (h : Whole s) : Whole (s.recordFault n) := by
  unfold State.recordFault
  split
  · exact h
  · exact .ite h.modDie.sendSess h.modDie.modCtx

theorem Whole.execFltReplay {sw : Bool} {a : Fld} (h : Whole s) : WholeNext (execFltReplay sw a s) := by
  unfold Machine.execFltReplay
  split
  · next heq => exact h.prepare.halt heq
  · next heq =>
      have h1 := h.prepare.go heq
      exact Whole.iteNext h1.takeTrap (Whole.finish (.foldl h1 fun _ _ h => .foldl h.modDie fun _ _ h => h.recordFault))

theorem Whole.resolveLanes {n : FaultNote} (h : Whole s) : Whole (s.resolveLanes n) := .wakeHeld (.retryLanes (.foldl h fun _ _ h => h.modThread))

theorem Whole.resumeHeld {c : Nat} (h : Whole s) : Whole (s.resumeHeld c) :=
  .foldl (.completePhases (.wakeHeld (.foldl h.flushHeld fun _ _ h => .ite h.flushSo h))) fun _ _ h => h.answerWaits

theorem Whole.resolveWriteback {n : FaultNote} (h : Whole s) : Whole (s.resolveWriteback n) := by
  unfold State.resolveWriteback
  dsimp only
  refine .resumeHeld ?_
  refine .foldl h.flushHeld fun _ _ h => ?_
  split
  · exact h
  · exact .ite h h.post

theorem Whole.resolveJob {c j : Nat} (h : Whole s) : Whole (s.resolveJob c j) := by
  unfold State.resolveJob
  dsimp only
  split
  · split
    · exact h.modJob.post
    · exact h.modJob.post
  · exact h

theorem Whole.takeFault {die fid : Nat} (h : Whole s) : WholeOptSnd (s.takeFault die fid) := by
  unfold State.takeFault
  split
  · exact trivial
  · exact h.modDie.pair

theorem Whole.execFaultResolve {h' : Hdr} {die fid : Nat} (h : Whole s) : WholeNext (execFaultResolve h' die fid s) := by
  unfold Machine.execFaultResolve
  dsimp only
  refine Whole.mgmt h fun _ h => ?_
  split
  · exact h.noObject
  · next heq =>
      have h1 := h.takeFault.get heq
      split
      · exact .done (.ite h1 h1.resolveJob)
      · exact .iteSnd2 h1.resolveWriteback.done (.iteSnd2 h1.done h1.resolveLanes.done)

theorem Whole.failLanes {n : FaultNote} (h : Whole s) : Whole (s.failLanes n) := .foldl (.foldl h fun _ _ h => h.modThread) fun _ _ h => h.takeTrap

theorem Whole.execFaultFail {h' : Hdr} {die fid : Nat} (h : Whole s) : WholeNext (execFaultFail h' die fid s) := by
  unfold Machine.execFaultFail
  dsimp only
  refine Whole.mgmt h fun _ h => ?_
  split
  · exact h.noObject
  · next heq =>
      have h1 := h.takeFault.get heq
      split
      · exact .done (.ite h1 h1.modJob.post)
      · exact .iteSnd2 h.refused (.iteSnd2 h1.done h1.failLanes.done)

/-! ### Contributions and slots -/

theorem Whole.parkRecord {lanes : List Nat} {f : PFault} {kind va : Nat} (h : Whole s) : Whole (s.parkRecord lanes f kind va) := h.post.parkRetry

theorem Whole.fetchRecord {lanes : List Nat} {va n : Nat} (h : Whole s) (h0 : Whole s0) : WholeRecRead (s.fetchRecord s0 lanes va n) := by
  unfold State.fetchRecord
  dsimp only
  refine Whole.iteRec h0.parkHere ?_
  split
  · exact h.takeTrap
  · refine Whole.iteRec h0.stall (Whole.iteRec (.stall (.ite h0.release.preSweep h0)) ?_)
    split
    · next heq =>
      have h2 := Whole.loadG (.ite h.release.preSweep h) |>.get heq
      exact .ite h2.acquire h2
    · exact .ite h0.stall (.parkRecord (.ite h.release.preSweep h))
    · exact .takeTrap (.ite h.release.preSweep h)
    · exact .takeTrap (.ite h.release.preSweep h)
    · exact .takeTrap (.ite h.release.preSweep h)

theorem Whole.execCtb {sw : Bool} {d a b : Fld} {f : BitVec 4} (h : Whole s) : WholeNext (execCtb sw d a b f s) := by
  unfold Machine.execCtb
  split
  · next heq => exact h.prepare.halt heq
  · next heq => exact (h.prepare.go heq).memIssue h

theorem Whole.execCtbn {sw : Bool} {d a : Fld} {f : BitVec 4} (h : Whole s) : WholeNext (execCtbn sw d a f s) := by
  unfold Machine.execCtbn
  split
  · next heq => exact h.prepare.halt heq
  · next heq => exact (h.prepare.go heq).memIssue h

theorem Whole.execCtbm {sw : Bool} {d a b : Fld} {f : BitVec 4} (h : Whole s) : WholeNext (execCtbm sw d a b f s) := by
  unfold Machine.execCtbm
  split
  · next heq => exact h.prepare.halt heq
  · next heq => exact (h.prepare.go heq).memIssue h

theorem Whole.zeroSpans {c : Nat} {ss : List Span} (h : Whole s) : WholeOpt (s.zeroSpans c ss) := by
  unfold State.zeroSpans
  dsimp only
  refine Whole.foldlOpt h fun _ _ h => ?_
  refine Whole.foldlOpt h fun _ _ h => ?_
  split
  · exact trivial
  · next heq =>
      have h1 := h.settleHalves.openPage.get heq
      exact .inSome (.markLeaf (.modCtx (h1.withMem (wf_zero h1.mem))))

theorem Whole.slotReply {sw : Bool} {lanes : List Nat} {d : Fld} {w : Word} (h : Whole s) : Whole (s.slotReply sw lanes d w) := h.deliver.finish

theorem Whole.openSlot {t : State} {c n : Nat} {d : BitVec 512} (h : Whole s) (e : s.openSlot c n d = .ok (some t)) : Whole t := by
  unfold State.openSlot at e
  dsimp only at e
  split at e
  · cases e
  · cases e
  · next heq =>
    have h1 := WholeOk.get heq <| Whole.foldlOk h fun _ _ h => by
      split
      · trivial
      · refine Whole.iteOk h ?_
        split
        · exact h.movePage.noteMove.inOk
        · trivial
    obtain ⟨u, hu, rfl⟩ := Option.map_eq_some_iff.mp (Except.ok.inj e)
    exact (WholeOpt.get hu (Whole.iteOpt h1.zeroSpans h1.inSome)).modSlot

theorem Whole.execSlotOpen {sw : Bool} {d a b : Fld} (h : Whole s) : WholeNext (execSlotOpen sw d a b s) := by
  unfold Machine.execSlotOpen
  dsimp only
  split
  · next heq => exact h.prepare.halt heq
  · next heq =>
      have h1 := h.prepare.go heq
      refine Whole.iteNext h1.slotReply ?_
      refine Whole.iteNext h1.slotReply ?_
      split
      · next heq => exact (h1.fetchRecord h).stop heq
      · next heq =>
          have h2 := (h1.fetchRecord h).ok heq
          refine Whole.iteNext h2.slotReply ?_
          split
          · exact h2.parkRecord
          · exact h.stall
          · next heq => exact (h2.openSlot heq).slotReply

theorem Whole.sendMarkers {c n : Nat} (h : Whole s) : Whole (s.sendMarkers c n) := .ite h.modSlot.post (.foldl h.modSlot fun _ _ h => h.post)

theorem Whole.execSlotClose {sw : Bool} {d b : Fld} (h : Whole s) : WholeNext (execSlotClose sw d b s) := by
  unfold Machine.execSlotClose
  split
  · next heq => exact h.prepare.halt heq
  · next heq =>
      have h1 := h.prepare.go heq
      exact Whole.iteNext h1.slotReply h1.sendMarkers.slotReply

theorem Whole.execSlotWait {sw : Bool} {d b : Fld} (h : Whole s) : WholeNext (execSlotWait sw d b s) := by
  unfold Machine.execSlotWait
  dsimp only
  split
  · next heq => exact h.prepare.halt heq
  · next heq =>
      have h1 := h.prepare.go heq
      split
      · exact Whole.finish h1.replyTo
      · exact h1.replyTo.finish.answerWait
      · exact h1.slotReply

theorem Whole.execSlotStat {sw : Bool} {d b : Fld} (h : Whole s) : WholeNext (execSlotStat sw d b s) := by
  unfold Machine.execSlotStat
  split
  · next heq => exact h.prepare.halt heq
  · next heq => exact (h.prepare.go heq).slotReply

/-! ### Engine jobs -/

theorem Whole.freeJob {c n : Nat} (h : Whole s) : Whole (s.freeJob c n) := h.modCtx

theorem Whole.addJob {c v : Nat} {e : Eng} {n : Nat} {p : JobPlan} {ivs : List Machine.Interval} (h : Whole s) : Whole (s.addJob c v e n p ivs) := by
  unfold State.addJob
  dsimp only
  refine .modCore ?_
  refine .modCtx ?_
  refine .taint ?_
  split
  · exact h
  · exact h

theorem Whole.jobMould {sw : Bool} {d a : Fld} {e : Eng} {bytes : Nat} {plan : State → List Byte → Except Trap JobPlan} {start : State → Nat → State}
    (h : Whole s) (hstart : ∀ t n, Whole t → Whole (start t n)) : WholeNext (s.jobMould sw d a e bytes plan start) := by
  unfold State.jobMould
  dsimp only
  split
  · next heq => exact h.prepare.halt heq
  · next heq =>
      have h1 := h.prepare.go heq
      refine Whole.iteNext h1.takeTrap ?_
      refine Whole.iteNext h1.takeTrap ?_
      split
      · next heq => exact (h1.fetchRecord h).stop heq
      · next heq =>
          have h2 := (h1.fetchRecord h).ok heq
          split
          · exact h2.takeTrap
          · split
            · exact h2.takeTrap
            · split
              · exact h.stall
              · refine Whole.iteNext h.stall (Whole.iteNext (.stall (.foldl h.settleHalves fun _ _ h => h.writeBack)) ?_)
                refine .finish (hstart _ _ (.deliver (.addJob ?_)))
                exact .foldl h2.settleHalves fun _ _ h => h.writeBack

theorem Whole.jobCode {c n code : Nat} (h : Whole s) : Whole (s.jobCode c n code) := h.modJob.post

theorem Whole.sendLeaf {q : Partial} {p : CollParms} (h : Whole s) : Whole (s.sendLeaf q p) := .ite h.post h.forward

theorem Whole.failBoth {c group : Nat} {p : CollParms} {seq : Nat} {q : CollParms × Nat} (h : Whole s) : Whole (s.failBoth c group p seq q) :=
  h.failColl.failColl

theorem Whole.startColl {c n : Nat} (h : Whole s) : Whole (s.startColl c n) := by
  unfold State.startColl
  dsimp only
  split
  · split
    · exact .jobCode h.modCtx.modJob
    · exact h.modCtx.modJob.failBoth
    · refine .ite h.modCtx.modJob.failColl ?_
      refine .ite h.modCtx.modJob.jobCode ?_
      refine .ite ?_ ?_
      · refine .post ?_
        split
        · exact h.modCtx.modJob.tellRanks
        · exact h.modCtx.modJob
      · refine .post ?_
        split
        · exact h.modCtx.modJob.tellRanks
        · exact h.modCtx.modJob
  · exact h

theorem Whole.jobRead {c : Nat} {j : Job} {l : Lvl} {a n : Nat} (h : Whole s) : WholeVal (s.jobRead c j l a n) := by
  unfold State.jobRead
  dsimp only
  split
  · split
    · exact trivial
    · next heq =>
        have h1 := h.openPages.get heq
        split
        · exact trivial
        · exact h1.observe.pair
  · refine Whole.iteVal trivial ?_
    split
    · exact trivial
    · exact h.observe.noteReads.pair

theorem Whole.jobWrite {c : Nat} {j : Job} {l : Lvl} {a : Nat} {bs : List Byte} (h : Whole s) : WholeOk (s.jobWrite c j l a bs) := by
  unfold State.jobWrite
  dsimp only
  split
  · split
    · exact trivial
    · next heq => exact (h.openPages.get heq).writeIa.observe.inOk
  · exact .inOk (.observe (h.settleHalves.clearBad.modSquare fun _ h => wf_writeBytes h))
  · exact Whole.iteOk trivial h.chipWrite.observe.inOk

theorem Whole.jobError {c n : Nat} {j : Job} {write : Bool} {e : AccErr} (h : Whole s) : Whole (s.jobError c n j write e) := by
  unfold State.jobError
  split
  · exact .ite h.post h.modJob.post
  · exact h.reportBad.modJob.post
  · exact h.modJob.post
  · exact h.reportError.modJob.post

theorem Whole.jobNext {c n : Nat} {j : Job} {fl : Flags} (h : Whole s) : Whole (s.jobNext c n j fl) := .ite h.modJob.post h.modJob.post

theorem Whole.remoteAccess {c n : Nat} {cs : List Nat} {a : Nat} {write : Bool} {len : Nat} {bs : List Byte} {next : State → State}
    (h : Whole s) (hnext : ∀ t, Whole t → Whole (next t)) : Whole (s.remoteAccess c n cs a write len bs next) := by
  unfold State.remoteAccess
  dsimp only
  split
  · split
    · exact hnext _ (.send h)
    · exact .jobCode (.send h)
    · exact .post (.send h)
  · exact h.jobCode

theorem Whole.copyElement {c n : Nat} {j : Job} {r : Shape} (h : Whole s) : Whole (s.copyElement c n j r) := by
  unfold State.copyElement
  dsimp only
  split
  · refine .ite (h.remoteAccess fun _ h => ?_) (.ite h.jobCode ?_)
    · split
      · exact h.jobError
      · next heq => exact (h.jobWrite.get heq).jobNext
    · split
      · exact h.jobError
      · next heq => exact (h.jobRead.get heq).remoteAccess fun _ h => h.jobNext
  · split
    · exact h.jobError
    · next heq =>
      have h1 := h.jobRead.get heq
      split
      · exact h1.jobError
      · next heq => exact (h1.jobWrite.get heq).jobNext

theorem Whole.chainElement {c n : Nat} {j : Job} {r : Chain} (h : Whole s) : Whole (s.chainElement c n j r) := by
  unfold State.chainElement
  dsimp only
  split
  · exact h.jobError
  · next heq =>
      have h1 := WholeVal.get heq (Whole.foldlVal h fun _ _ h => h.jobRead.map)
      refine .ite h1.residueCheck.jobCode ?_
      split
      · exact h.jobError
      · next heq => exact (h1.residueCheck.jobWrite.get heq).jobNext

theorem Whole.collElement {c n : Nat} {j : Job} {r : Shape} {p : CollParms} {rank ranks w : Nat} {formed : List Nat}
    (h : Whole s) : Whole (s.collElement c n j r p rank ranks w formed) := by
  unfold State.collElement
  dsimp only
  split
  · exact h.failBoth
  · refine .ite h ?_
    split
    · exact h.jobError
    · next heq =>
        have h1 := h.jobRead.get heq
        refine .ite h1.modJob.post.sendLeaf ?_
        refine .post ?_
        split
        · exact h1.modJob.post.tellRanks
        · exact h1.modJob.post

theorem Whole.execCollectiveWindowGrant {ctx job w : Nat} (h : Whole s) : WholeNext (execCollectiveWindowGrant ctx job w s) := by
  unfold Machine.execCollectiveWindowGrant
  dsimp only
  split
  · refine Whole.iteNext (Whole.ite h h.post) ?_
    refine .post ?_
    split
    · exact .tellRanks (.ite h.modJob h.modJob)
    · exact .ite h.modJob h.modJob
  · exact h

theorem Whole.hearIssued {c : Nat} {m : CollMsg} {rank : Nat} (h : Whole s) : Whole (s.hearIssued c m rank) := by
  unfold State.hearIssued
  dsimp only
  refine .ite h ?_
  split
  · exact .failBoth h
  · refine .foldl h fun _ _ h => ?_
    split
    · exact .ite h h.post
    · exact h

theorem Whole.hearFailed {c : Nat} {m : CollMsg} {code : Nat} (h : Whole s) : Whole (s.hearFailed c m code) := .ite h.failJobs.dropColl (.ite h h)

theorem Whole.rootHere {ctx job elem : Nat} {m : CollMsg} {val : QWord} {flags : Flags}
    (h : Whole s) : Whole (s.rootHere ctx job elem m val flags) := by
  unfold State.rootHere
  dsimp only
  split
  · split
    · refine .ite h ?_
      refine .ite h.post ?_
      split
      · refine .post ?_
        split
        · exact .ite h h.jobError
        · exact h.jobError
      · next heq => exact (WholeOk.get heq (Whole.iteOk h.jobWrite h)).modJob.post
    · exact h
  · exact h

theorem Whole.execCollectiveRootReturn {ctx job elem : Nat} {msg : CollMsg} {flags : Flags}
    (h : Whole s) : WholeNext (execCollectiveRootReturn ctx job elem msg flags s) := by
  unfold Machine.execCollectiveRootReturn
  refine Whole.iteNext h.sendNews ?_
  split
  · exact h.rootHere
  · exact Whole.foldl h fun _ _ h => h.post
  · exact h.hearIssued
  · exact h.hearFailed

theorem Whole.answerJob {j : Job} {r : ReplyTo} {pos : Pos} (h : Whole s) : Whole (s.answerJob j r pos) :=
  .ite (.takeTrap (.post (.ite h.acquire h))) (.post (.ite h.acquire h))

theorem Whole.answerJobs {c n : Nat} (h : Whole s) : Whole (s.answerJobs c n) := by
  unfold State.answerJobs
  dsimp only
  split
  · exact .ite (.post (.ite (.foldl h fun _ _ h => h.preSweep) h))
      (.freeJob (.foldl (.ite (.foldl h fun _ _ h => h.preSweep) h) fun _ _ h => h.answerJob))
  · exact h

theorem Whole.endFaults {c n : Nat} (h : Whole s) : Whole (s.endFaults c n) :=
  { h with dies := List.forall_mem_map.mpr h.dies }

theorem Whole.jobDone {c n : Nat} (h : Whole s) : Whole (s.jobDone c n) := h.endFaults.modCtx.answerJobs.wakeHeld.wakeUnits

theorem Whole.endColl {c n : Nat} {j : Job} (h : Whole s) : Whole (s.endColl c n j) := by
  unfold State.endColl
  dsimp only
  split
  · exact h
  · exact h

theorem Whole.execJobRetire {ctx job : Nat} (h : Whole s) : WholeNext (execJobRetire ctx job s) := by
  unfold Machine.execJobRetire
  split
  · exact h
  · exact Whole.iteNext h.answerJobs <| Whole.iteNext h.post <| Whole.iteNext (.post (.flushHeld (.foldl h fun _ _ h => h.l1Drop)))
      (.resumeHeld (.jobDone (.endColl (.modCore (.foldl h fun _ _ h => h.l1Drop)))))

theorem Whole.execCpyw {sw : Bool} {d a : Fld} (h : Whole s) : WholeNext (execCpyw sw d a s) := by
  unfold Machine.execCpyw
  split
  · next heq => exact h.prepare.halt heq
  · next heq =>
    have h1 := h.prepare.go heq
    dsimp only
    refine Whole.iteNext h.preSweep.stall (.finish (.trapIssue ?_))
    split
    on_goal 1 => apply Whole.post
    all_goals
      refine .foldl (.foldl (.foldl (.foldlAt (fun x : List (Nat × ReplyTo) × State × Bool => x.2.1) h1 fun _ _ h => h.replyTo) fun _ _ h => ?_)
        fun _ _ h => .ite h.acquire h) fun _ _ h => ?_
      · split <;> exact h
      · split
        · exact .ite h.freeJob h
        · exact h

end Sys2Proof.Proofs
end

section
/-!
PROOF. O50: streams, cuts, and the matrix instructions keep the invariant.
-/
namespace Sys2Proof.Proofs
open Sys2Proof Sys2Proof.Machine Sys2Proof.Claim Sys2Proof.Laws
set_option Elab.async false

variable {s s0 : State}

/-! ### Streams and checkpoint cuts -/

theorem Whole.execRng {sw : Bool} {d a b : Fld} (h : Whole s) : WholeNext (execRng sw d a b s) := by
  unfold Machine.execRng
  split
  · next heq => exact h.prepare.halt heq
  · next heq => exact (h.prepare.go heq).deliver.finish

theorem Whole.execStream {sw : Bool} {d a : Fld} {f : Streams → Machine.Stream → Nat × Nat × Streams}
    (h : Whole s) : WholeNext (s.execStream sw d a f) := by
  unfold State.execStream
  split
  · next heq => exact h.prepare.halt heq
  · next heq =>
      have h1 := h.prepare.go heq
      split
      · next heq => exact (h1.fetchRecord h).stop heq
      · next heq => exact ((h1.fetchRecord h).ok heq).modIssCtx.deliver.finish

theorem Whole.startCut {c v n : Nat} {r : BitVec 512} (h : Whole s) : Whole (s.startCut c v n r) := h.settleHalves.addJob.taint.modCtx.post

theorem Whole.execCkcut {sw : Bool} {d a : Fld} (h : Whole s) : WholeNext (execCkcut sw d a s) := by
  unfold Machine.execCkcut
  dsimp only
  split
  · next heq => exact h.prepare.halt heq
  · next heq =>
      have h1 := h.prepare.go heq
      split
      · next heq => exact (h1.fetchRecord h).stop heq
      · next heq =>
          have h2 := (h1.fetchRecord h).ok heq
          refine Whole.iteNext h2.takeTrap ?_
          refine Whole.iteNext h2.deliver.finish ?_
          refine Whole.iteNext h2.deliver.finish ?_
          refine Whole.iteNext h2.deliver.finish ?_
          split
          · exact h.stall
          · exact Whole.iteNext h.stall (Whole.iteNext h.release.stall h2.release.startCut.deliver.finish)

theorem Whole.endCut {c n : Nat} {j : Job} {r : BitVec 512} {all : List (Nat × Nat)} (h : Whole s) : Whole (s.endCut c n j r all) :=
  .jobCode (.ite h.sendSess h)

theorem Whole.execCkptGranuleCopy {ctx : Nat} (h : Whole s) : WholeNext (execCkptGranuleCopy ctx s) := by
  unfold Machine.execCkptGranuleCopy
  split
  · exact h
  · refine Whole.iteNext h ?_
    split
    · refine Whole.iteNext h.jobCode.resumeHeld ?_
      split
      · exact h.endCut.resumeHeld
      · split
        · exact h.jobError
        · refine Whole.iteNext h.reportBad.modJob.post.resumeHeld ?_
          split
          · exact h.jobError
          · next heq => exact (h.copyOut.get heq).modJob.post.resumeHeld
    · exact h

theorem Whole.execCkptCowCopy {ctx granule : Nat} (h : Whole s) : WholeNext (execCkptCowCopy ctx granule s) := by
  unfold Machine.execCkptCowCopy
  split
  · next heq => exact (h.cowStep.get heq).resumeHeld
  · exact h

theorem Whole.execCutMapRead {h' : Hdr} {ctx : Nat} (h : Whole s) : WholeNext (execCutMapRead h' ctx s) := by
  unfold Machine.execCutMapRead
  refine Whole.mgmt h fun _ h => ?_
  split
  · exact h.noObject
  · exact h

/-! ### Operand reservations, tiles and passes -/

theorem Whole.defineOpr {ls : List Nat} {a n : Nat} (h : Whole s) : WholeOk (s.defineOpr ls a n) := by
  unfold State.defineOpr
  dsimp only
  refine Whole.iteOk trivial ?_
  refine Whole.iteOk trivial ?_
  refine Whole.iteOk trivial ?_
  split
  · exact trivial
  · exact Whole.iteOk trivial (Whole.iteOk trivial h.noteReads.modIssCore.inOk)

theorem Whole.eachQuarter {f : State → Nat → List Nat → Except Trap State} {lanes : List Nat} (h : Whole s)
    (hf : ∀ t q ls, Whole t → WholeOk (f t q ls)) : Whole (eachQuarter f s lanes).2 := by
  unfold Machine.eachQuarter
  refine .foldlSnd h fun _ _ h => ?_
  split
  · next heq => exact (hf _ _ _ h).get heq
  · exact h

theorem Whole.finishRest {sw : Bool} {lanes : List Nat} {ts : List (Nat × Trap)} (h : Whole s) : Whole (s.finishRest sw lanes ts) :=
  h.trapIssue.finish

theorem Whole.execOprDef {sw : Bool} {a : Fld} {n : BitVec 4} (h : Whole s) : WholeNext (execOprDef sw a n s) := by
  unfold Machine.execOprDef
  split
  · next heq => exact h.prepare.halt heq
  · next heq => exact Whole.iteNext h.stall (.finishRest ((h.prepare.go heq).eachQuarter fun _ _ _ h => h.defineOpr))

theorem Whole.execOprQry {sw : Bool} {d : Fld} {n : BitVec 4} (h : Whole s) : WholeNext (execOprQry sw d n s) := by
  unfold Machine.execOprQry
  split
  · next heq => exact h.prepare.halt heq
  · next heq => exact (h.prepare.go heq).deliver.finish

theorem Whole.execPlaneStore {sw scale : Bool} {d a : Fld} {n : BitVec 4} (h : Whole s) : WholeNext (s.execPlaneStore sw scale d a n) := by
  unfold State.execPlaneStore
  dsimp only
  split
  · next heq => exact h.prepare.halt heq
  · next heq => exact (h.prepare.go heq).trapIssue.memIssue h

theorem Whole.execPlaneLoad {sw scale : Bool} {d a : Fld} {n : BitVec 4} (h : Whole s) : WholeNext (s.execPlaneLoad sw scale d a n) := by
  unfold State.execPlaneLoad
  dsimp only
  split
  · next heq => exact h.prepare.halt heq
  · next heq => exact (h.prepare.go heq).trapIssue.memIssue h

theorem Whole.makeRoom {c v q line key need fuel : Nat} (h : Whole s) : WholeRoom (s.makeRoom c v q line key need fuel) := by
  induction fuel generalizing s with
  | zero => trivial
  | succ fuel ih =>
    unfold State.makeRoom
    dsimp only
    split
    · exact h
    · split
      · trivial
      · split
        · trivial
        · exact ih h.modLine.markArea

theorem Whole.tileRoom {q n more : Nat} (h : Whole s) : WholeRoom (s.tileRoom q n more) := by
  unfold State.tileRoom
  dsimp only
  split
  · exact trivial
  · refine Whole.makeRoom ?_
    split
    · exact h
    · exact h.modIssLine.markArea

theorem Whole.tileRooms {lanes : List Nat} {n more : Nat} (h : Whole s) : WholeOptFst (s.tileRooms lanes n more) := by
  unfold State.tileRooms
  refine Whole.foldlOptFst h fun _ _ h => ?_
  split
  · next heq => exact h.tileRoom.ok heq
  · exact trivial
  · exact h

theorem Whole.parkTiles {lanes : List Nat} {n more : Nat} (h : Whole s) : WholeOptFst (s.parkTiles lanes n more) := by
  unfold State.parkTiles
  cases hr : s.tileRooms lanes n more with
  | none => trivial
  | some r =>
    have h1 := h.tileRooms.getFst hr
    exact .ite h1 h1.noteBacking.parkRetry

theorem Whole.closeWindow {c v g : Nat} (h : Whole s) : Whole (s.closeWindow c v g) := .foldl h fun _ _ h => h.setQueue

theorem Whole.enqueueMmas {c v : Nat} {ps : List (Nat × (Nat → Pass))} (h : Whole s) : Whole (s.enqueueMmas c v ps) :=
  .ite h (.ite (.closeWindow (.bump (.foldl h fun _ _ h => h.setQueue.post))) (.post (.bump (.foldl h fun _ _ h => h.setQueue.post))))

theorem Whole.execMma {sw : Bool} {t : BitVec 4} {g : BitVec 3} {x y p : BitVec 4} (h : Whole s) : WholeNext (execMma sw t g x y p s) := by
  unfold Machine.execMma
  dsimp only
  split
  · next heq => exact h.prepare.halt heq
  · next heq =>
      have h1 := h.prepare.go heq
      refine Whole.iteNext h.stall ?_
      split
      · exact h.stall
      · next heq => exact Whole.iteNext h.stall (h1.parkTiles.getFst heq).residueCheck.enqueueMmas.finishRest

theorem Whole.execMmaPassStart {ctx vc q : Nat} (h : Whole s) : WholeNext (execMmaPassStart ctx vc q s) := by
  unfold Machine.execMmaPassStart
  dsimp only
  refine Whole.iteNext (Whole.ite h h.post) ?_
  split
  · exact h
  · split
    · exact Whole.ite h.post h.startPass
    · exact Whole.iteNext h.post (Whole.foldl h fun _ _ h => h.startPass)

theorem Whole.enqueueAll {passes : List (Nat × Pass)} (h : Whole s) : WholeOpt (s.enqueueAll passes) :=
  Whole.iteOpt trivial (Whole.inSome (.foldl h fun _ _ h => h.setQueue.post))

theorem Whole.execAccClr {sw : Bool} {t : BitVec 4} (h : Whole s) : WholeNext (execAccClr sw t s) := by
  unfold Machine.execAccClr
  split
  · exact h.stall
  · next heq =>
      have h1 := h.parkTiles.getFst heq
      split
      · exact h.stall
      · next heq => exact (h1.enqueueAll.get heq).finish

theorem Whole.execAccRd {sw : Bool} {d a : Fld} {t : BitVec 4} (h : Whole s) : WholeNext (execAccRd sw d a t s) := by
  unfold Machine.execAccRd
  dsimp only
  split
  · next heq => exact h.prepare.halt heq
  · next heq =>
      have h1 := h.prepare.go heq
      split
      · exact h.stall
      · next heq =>
          have h2 := h1.parkTiles.getFst heq
          split
          · exact h.stall
          · next heq =>
            exact (WholeOpt.get heq (Whole.enqueueAll
              (.foldlAt (fun x : List (Nat × Pass) × State × Bool => x.2.1) h2 fun _ _ h => h.replyTo))).finishRest

theorem Whole.enqueueDrain {q : Nat} {ls : List Nat} {p : Pass} (h : Whole s) : Whole (s.enqueueDrain q ls p) :=
  .ite h.setQueue.startPass (.bump (h.setQueue.post.modLanes fun _ h => by split <;> exact h))

theorem Whole.execDrains {sw : Bool} {ops : List OpSpec} {t f : BitVec 4} {L : Nat} (h : Whole s) : WholeNext (s.execDrains sw ops t f L) := by
  unfold State.execDrains
  dsimp only
  split
  · next heq => exact h.prepare.halt heq
  · next heq =>
      have h1 := h.prepare.go heq
      split
      · exact h.stall
      · next heq =>
          have h2 := h1.parkTiles.getFst heq
          refine Whole.iteNext h.stall ?_
          refine .foldl h2.finishRest fun _ _ h => ?_
          split
          · exact h
          · exact h.enqueueDrain

theorem Whole.execDrainSeqWrite {ctx vc line q : Nat} (h : Whole s) : WholeNext (execDrainSeqWrite ctx vc line q s) := by
  unfold Machine.execDrainSeqWrite
  split
  · exact h
  · refine Whole.iteNext h ?_
    refine Whole.iteNext h.post ?_
    refine Whole.iteNext (Whole.ite h.holdDrain h.post) ?_
    split
    · exact h.dropDrain
    · next heq =>
        have h1 := h.drainOne.done heq
        exact Whole.ite h1.post h1
    · next heq => exact (h.drainOne.wait heq).post
    · exact Whole.iteNext h.post h.holdDrain.post

end Sys2Proof.Proofs
end

section
/-!
PROOF. O50: the choice of an action, virtual caches, and cores that leave and come back keep the invariant.
-/
namespace Sys2Proof.Proofs
open Sys2Proof Sys2Proof.Machine Sys2Proof.Claim Sys2Proof.Laws
set_option Elab.async false

variable {s s0 : State}

/-! ### The choice of an action -/

theorem Whole.tick (h : Whole s) : Whole s.tick := h

theorem Whole.takeGang {c : Cand} (h : Whole s) : WholeChoice (s.takeGang c) := h

theorem Whole.syncSets {k : CoreKey} (h : Whole s) : Whole (s.syncSets k) := .ite h.modCore h

theorem Whole.loseQueue {c v l : Nat} (h : Whole s) : Whole (s.loseQueue c v l) := .ite h.readStore (.foldl h.readStore fun _ _ h => h.takeTrap)

theorem Whole.settle (h : Whole s) : Whole s.settle := by
  unfold State.settle
  dsimp only
  refine .foldl ?_ fun _ _ h => h.syncSets
  refine .foldl ?_ fun _ _ h => ?_
  · refine .foldl ?_ fun _ _ h => h.rehome
    refine .foldl ?_ fun _ _ h => .ite h (.foldl h fun _ _ h => .ite h.post h)
    refine .foldl h fun _ _ h => ?_
    split
    · split
      · exact h.endStep
      · exact h
    · exact h
  · split
    · exact .ite h.loseQueue h
    · exact h

theorem Whole.takeEvent {n : Nat} (h : Whole s) : WholeChoice (s.takeEvent n) := by
  unfold State.takeEvent
  dsimp only
  split
  · exact h
  · exact trivial

theorem Whole.chooseDefault (h : Whole s) : WholeChoice s.chooseDefault := by
  unfold State.chooseDefault
  split
  · exact h.takeEvent
  · split
    · exact h.takeGang
    · exact h.takeEvent

theorem Whole.spillNth {n : Nat} (h : Whole s) : Whole (s.spillNth n) := by
  unfold State.spillNth
  split
  · exact h
  · exact h.spillReg

theorem Whole.choose (h : Whole s) : WholeChoice s.choose := by
  unfold State.choose
  dsimp only
  split
  · exact h.tick.settle.takeEvent
  · exact h.tick.settle
  · split
    · exact h.tick.settle.chooseDefault
    · split
      · exact Whole.takeEvent h.tick.settle
      · split
        · exact Whole.takeGang h.tick.settle
        · exact Whole.chooseDefault (.spillNth h.tick.settle)

/-! ### Virtual caches -/

theorem Whole.startChange {c n : Nat} {st : VState} {r : BitVec 512} {shares oldShares : List Nat}
    (h : Whole s) : Whole (s.startChange c n st r shares oldShares) :=
  .post (.foldl h.modVc fun _ _ h => h.post)

theorem Whole.startMigration {c n : Nat} {r : BitVec 512} (h : Whole s) : WholeOpt (s.startMigration c n r) := WholeOpt.map fun _ => h.startChange

theorem Whole.judgeVc {c n : Nat} {r : BitVec 512} {aligned : Bool} (h : Whole s) : Whole (s.judgeVc c n r aligned).2 := by
  unfold State.judgeVc
  dsimp only
  refine .iteSnd h ?_
  refine .iteSnd h ?_
  refine .iteSnd h ?_
  refine .iteSnd ?_ ?_
  · split
    · exact h
    · exact h.modVc.pair
  · refine .iteSnd (.iteSnd h h.startChange.pair) ?_
    refine .iteSnd h.modVc.pair ?_
    refine .iteSnd ?_ ?_
    · refine .iteSnd h.startChange.pair ?_
      split
      · exact h
      · exact h.startChange.pair
    · split
      · exact h
      · next heq => exact h.startMigration.get heq

theorem Whole.execVcAccept {r : VcReq} (h : Whole s) : WholeNext (execVcAccept r s) := by
  unfold Machine.execVcAccept
  dsimp only
  split
  · exact h
  · split
    · exact h.judgeVc
    · exact h.judgeVc.post

theorem Whole.execVcMoveStep {ctx vcn line : Nat} (h : Whole s) : WholeNext (execVcMoveStep ctx vcn line s) := by
  unfold Machine.execVcMoveStep
  dsimp only
  split
  · exact h
  · exact Whole.iteNext h.post (Whole.iteNext h.reportError h.modVc.rehome)

theorem Whole.followTo {c n smask : Nat} (h : Whole s) : Whole (s.followTo c n smask) := by
  unfold State.followTo
  split
  · next heq => exact (h.startMigration.get heq).modVc
  · exact h.modVc

theorem Whole.cutShares {c : Nat} (h : Whole s) : Whole (s.cutShares c) := .foldl h fun _ _ h => .ite h (.ite h h.startChange)

theorem Whole.retakeChanges (h : Whole s) : Whole s.retakeChanges := by
  unfold State.retakeChanges
  dsimp only
  refine .foldl h fun _ _ h => ?_
  refine .cutShares ?_
  refine .foldl h fun _ _ h => ?_
  refine .ite h ?_
  split
  · exact h.followTo
  · exact .ite ((WholeOpt.getD h.startMigration h)) h

theorem Whole.execVcdef {sw : Bool} {d a : Fld} {n : BitVec 3} (h : Whole s) : WholeNext (execVcdef sw d a n s) := by
  unfold Machine.execVcdef
  dsimp only
  split
  · next heq => exact h.prepare.halt heq
  · next heq =>
      have h1 := h.prepare.go heq
      refine Whole.iteNext h1.replyTo.post.finish ?_
      split
      · next heq => exact (h1.fetchRecord h).stop heq
      · next heq => exact ((h1.fetchRecord h).ok heq).replyTo.post.finish

theorem Whole.execVcqry {sw : Bool} {d : Fld} {n : BitVec 3} (h : Whole s) : WholeNext (execVcqry sw d n s) := by
  unfold Machine.execVcqry
  split
  · next heq => exact h.prepare.halt heq
  · next heq => exact (h.prepare.go heq).deliver.finish

theorem Whole.execQuotaSet {h' : Hdr} {ctx quota : Nat} (h : Whole s) : WholeNext (execQuotaSet h' ctx quota s) := by
  unfold Machine.execQuotaSet
  refine Whole.mgmt h fun _ h => ?_
  split
  · exact h.noObject
  · exact h.modCtx.retakeChanges.done

/-! ### Traps answered, scan, placement and images -/

theorem Whole.abandon {p : Place} (h : Whole s) : Whole (s.abandon p) := by
  unfold State.abandon
  dsimp only
  refine .exitThread ?_
  refine .unreserve ?_
  split
  · exact h
  · exact h

theorem Whole.actOnTrap {c : Nat} {ps : List Place} {action : Nat} (h : Whole s) : Whole (s.actOnTrap c ps action) :=
  .ite (.foldl h fun _ _ h => h.abandon) (.wakeHeld (.foldl h fun _ _ h => h.answerTrap))

theorem Whole.answer {c tseq action : Nat} (h : Whole s) : Whole (State.answer c tseq action s).2.2 :=
  .iteSnd2 h.noObject (.iteSnd2 h.refused (.done (.actOnTrap (.ite h.modCtx h))))

theorem Whole.execTrapResume {h' : Hdr} {ctx tseq : Nat} (h : Whole s) : WholeNext (execTrapResume h' ctx tseq s) :=
  Whole.mgmt h fun _ h => h.answer

theorem Whole.execTrapRetry {h' : Hdr} {ctx tseq : Nat} (h : Whole s) : WholeNext (execTrapRetry h' ctx tseq s) :=
  Whole.mgmt h fun _ h => h.answer

theorem Whole.execTrapAbandon {h' : Hdr} {ctx tseq : Nat} (h : Whole s) : WholeNext (execTrapAbandon h' ctx tseq s) :=
  Whole.mgmt h fun _ h => h.answer

theorem Whole.takeSlices {c q : Nat} (h : Whole s) : Whole (s.takeSlices c q) := .ite h (.ite h.modCtx.modSquare h.modCtx.modSquare.wakeUnits)

theorem Whole.drainL1 {c v : Nat} (h : Whole s) : Whole (s.drainL1 c v) := h.settleHalves.writeBackAll.modCore

theorem Whole.unplace {c v : Nat} {r : CoreRun} (h : Whole s) : Whole (s.unplace c v r) := by
  unfold State.unplace
  split
  · exact h
  · exact .ite h.modCore.modCtx.takeSlices.post h.modCore.modCtx.takeSlices

theorem Whole.execPreemptDeadline {ctx : Nat} (h : Whole s) : WholeNext (execPreemptDeadline ctx s) := by
  unfold Machine.execPreemptDeadline
  refine Whole.iteNext h ?_
  refine .foldl h fun _ _ h => ?_
  split
  · exact h.post
  · exact h.post
  · exact h

theorem Whole.execForcedStop {ctx vc : Nat} {kind : StopKind} (h : Whole s) : WholeNext (execForcedStop ctx vc kind s) := by
  unfold Machine.execForcedStop
  dsimp only
  refine Whole.iteNext h ?_
  split
  · exact h.modCore.drainL1.post
  · exact h.modCore.drainL1.post
  · exact h

theorem Whole.endLaunches {c : Nat} (h : Whole s) : Whole (s.endLaunches c) := .foldl h fun _ _ h => .ite h (.sendSess h)

theorem Whole.dropContext {c : Nat} (h : Whole s) : Whole (s.dropContext c) :=
  have h1 := h.endLaunches (c := c)
  .retakeChanges <| .wakeUnits
    { h1 with
      threads := fun e he => h1.threads e (List.mem_of_mem_filter he)
      places := nodup_keys_filter _ h1.places
      lines := fun e he => h1.lines e (List.mem_of_mem_filter he)
      cores := fun e he => h1.cores e (List.mem_of_mem_filter he)
      squares := List.forall_mem_map.mpr h1.squares
      dies := List.forall_mem_map.mpr h1.dies }

/-- What an image holds of the tables, clause by clause. -/
theorem image_wf_iff {i : Image} : i.wf = true ↔
    (∀ e ∈ i.threads, ThreadOk e.2 ∧ e.1.ctx = i.ctx ∧ e.1.vc = i.vc) ∧ (i.threads.map (·.1)).Nodup ∧
      (∀ e ∈ i.lines, LineOk e.2) ∧ i.core.scratch.wf = true := by
  simp [Image.wf, and_assoc]

/-- The image of a core holds its threads and lines as they stand. -/
theorem Whole.imageOfCore {i : Image} {c v : Nat} (h : Whole s) (hc : i.ctx = c) (hv : i.vc = v) (ht : i.threads = s.coreThreads c v)
    (hl : i.lines = s.lines.filter (fun e => e.1.ctx == c && e.1.vc == v)) (hk : i.core = s.core c v) : i.wf = true := by
  subst hc hv
  rw [image_wf_iff, ht, hl, hk]
  refine ⟨fun e he => ?_, nodup_keys_filter _ h.places, fun e he => h.lines e (List.mem_of_mem_filter he), h.core⟩
  obtain ⟨hmem, hown⟩ := List.mem_filter.mp he
  simp only [Bool.and_eq_true, beq_iff_eq] at hown
  exact ⟨h.threads e hmem, hown⟩

theorem Whole.addImage {i : Image} (h : Whole s) (hi : i.wf = true) : Whole { s with images := s.images ++ [i] } :=
  { h with images := List.forall_mem_append.mpr ⟨h.images, List.forall_mem_singleton.mpr hi⟩ }

theorem Whole.execScanComplete {ctx vc : Nat} (h : Whole s) : WholeNext (execScanComplete ctx vc s) := by
  unfold Machine.execScanComplete
  dsimp only
  split
  · refine Whole.iteNext h.post ?_
    refine Whole.iteNext ?_ ?_
    · split
      · exact h.modCore.jobCode
      · exact h.dropContext
    · split
      · refine .post (.withHub (.unplace (.modCtx (h.addImage ?_))))
        exact h.imageOfCore rfl rfl rfl rfl rfl
      · refine .unplace (.modCtx (h.addImage ?_))
        exact h.imageOfCore rfl rfl rfl rfl rfl
  · exact h

theorem Whole.writeImage {c n : Nat} {j : Job} {core buf : Nat} (h : Whole s) : Whole (s.writeImage c n j core buf) := by
  unfold State.writeImage
  split
  · exact h.jobCode
  · split
    · exact h.jobError
    · next heq => exact (WholeOk.get heq (Whole.foldlOk h fun _ _ h => h.jobWrite)).jobCode

theorem Whole.staleFaults {c v : Nat} (h : Whole s) : Whole (s.staleFaults c v) := { h with dies := List.forall_mem_map.mpr h.dies }

theorem Whole.putSlices {c v q : Nat} (h : Whole s) : Whole (s.putSlices c v q) :=
  have hkept : ∀ e ∈ s.squares, (if e.1 = q then e else
      (e.1, { e.2 with allocs := e.2.allocs.filter (fun a => !(a.ctx == c && a.vc == v)) })).2.sqm.wf = true := fun e he => by
    have := h.squares e he
    split <;> exact this
  .foldl (.modCtx (h.withSquares (List.forall_mem_map.mpr hkept))) fun _ _ h => h.clearBad.modSquare fun _ h => wf_memPaste h

theorem Whole.lateAnswers {c v : Nat} (h : Whole s) : Whole (s.lateAnswers c v) := .foldl h fun _ _ h => .ite h (.ite h.actOnTrap.modCtx h.actOnTrap)

theorem Whole.placeCore {c v p : Nat} (h : Whole s) : Whole (s.placeCore c v p) :=
  .raiseApexes (.lateAnswers (.wakeYielded (.foldl (.putSlices (.staleFaults (.withHub (h.modCtx.modCore)))) fun _ _ h => h.modThread)))

theorem Whole.followMoves {c : Nat} {old new : List (Nat × Nat)} (h : Whole s) : Whole (s.followMoves c old new) :=
  .foldl h fun _ _ h => .ite h (.ite h.followTo h.modVc)

theorem Whole.resume {c : Nat} {m : List (Nat × Nat)} (h : Whole s) : Whole (s.resume c m) :=
  .wakeUnits (.resumeHeld (.followMoves (.modCtx (.setPreq (.foldl h fun _ _ h => h.placeCore)))))

theorem Whole.vacate {c : Nat} (h : Whole s) : Whole (s.vacate c) := .ite h (.foldl h fun _ _ h => .foldl h fun _ _ h => h.drainL1.unplace)

theorem Whole.execContextResume {ctx : Nat} {cores : List Nat} (h : Whole s) : WholeNext (execContextResume ctx cores s) := by
  unfold Machine.execContextResume
  dsimp only
  split
  · exact h
  · refine Whole.iteNext h ?_
    refine Whole.iteNext h.post ?_
    refine Whole.iteNext h.dropContext ?_
    split
    · exact Whole.ite h.post h.resume
    · refine Whole.iteNext h ?_
      split
      · exact Whole.ite h.post h.vacate.resume
      · exact h.post

theorem Whole.execContextMigrate {ctx : Nat} {cores : List Nat} (h : Whole s) : WholeNext (execContextMigrate ctx cores s) := by
  unfold Machine.execContextMigrate
  split
  · exact h
  · exact Whole.iteNext h (Whole.wakeUnits (.resumeHeld (.followMoves (.foldl (.foldl h fun _ _ h => h.drainL1.unplace) fun _ _ h => h.placeCore))))

theorem Whole.reinstall {ps : List (Push × Nat)} (h : Whole s) : Whole (s.reinstall ps) := by
  unfold State.reinstall
  refine .foldl h fun _ _ h => ?_
  split
  · exact h
  · exact h.modLine fun _ h => h.setChan

theorem Whole.engineActs {c v : Nat} (h : Whole s) : Whole (s.engineActs c v) :=
  .foldl (.foldl (.foldl h fun _ _ h => .ite h h.post) fun _ _ h => h.post) fun _ _ h => .foldl h fun _ _ h => .ite h h.post

/-- The threads of an image take the places of its core, which no other thread holds. -/
theorem nodup_image_places {ts : Tbl Place Thread} {i : Image} (h : (ts.map (·.1)).Nodup) (hi : i.wf = true) :
    ((ts.filter (fun e => !(e.1.ctx == i.ctx && e.1.vc == i.vc)) ++ i.threads).map (·.1)).Nodup := by
  obtain ⟨hown, hplaces, -, -⟩ := image_wf_iff.mp hi
  rw [List.map_append]
  refine (nodup_keys_filter _ h).append hplaces fun p hp hp' => ?_
  obtain ⟨e, he, rfl⟩ := List.mem_map.mp hp
  obtain ⟨e', he', heq⟩ := List.mem_map.mp hp'
  obtain ⟨-, hctx, hvc⟩ := hown e' he'
  have := (List.mem_filter.mp he).2
  simp [← heq, hctx, hvc] at this

theorem Whole.loadImage {i : Image} (h : Whole s) (hi : i.wf = true) : Whole (s.loadImage i) := by
  obtain ⟨hthreads, -, hlines, hcore⟩ := image_wf_iff.mp hi
  unfold State.loadImage
  dsimp only
  refine .ite h (.withLaunches (.engineActs (.foldl (.reinstall (.setPan ?_)) fun _ _ h => h.post)))
  have h1 : Whole (if (s.phys? i.ctx i.vc).isSome then (s.drainL1 i.ctx i.vc).unplace i.ctx i.vc (.image i.seq) else s) := .ite h.drainL1.unplace h
  refine { h1 with
    threads := List.forall_mem_append.mpr ⟨fun e he => h1.threads e (List.mem_of_mem_filter he), fun e he => (hthreads e he).1⟩
    places := nodup_image_places h1.places hi
    lines := List.forall_mem_append.mpr ⟨fun e he => h1.lines e (List.mem_of_mem_filter he), hlines⟩
    cores := forall_mem_put (p := fun x : Core => x.scratch.wf = true) h1.cores hcore }

theorem Whole.checkedImage {core : Nat} {head : List Byte} {whole : Image → Bool} {i : Image} (h : Whole s)
    (e : s.checkImage core head whole = .ok i) : i.wf = true := by
  unfold State.checkImage at e
  dsimp only at e
  split at e
  · cases e
  · next hfound =>
    cases e
    exact h.images _ (List.mem_reverse.mp (List.mem_of_find?_eq_some hfound))
  · cases e

theorem Whole.restoreScan {c n : Nat} {j : Job} {core buf : Nat} (h : Whole s) : Whole (s.restoreScan c n j core buf) := by
  unfold State.restoreScan
  dsimp only
  split
  · exact h.jobError
  · next heq =>
      have h1 := h.jobRead.get heq
      split
      · exact h1.jobError
      · next heq =>
          have h2 := WholeVal.get heq (Whole.foldlVal h1 fun _ _ h => h.jobRead.map)
          split
          · exact h2.jobCode
          · next hi => exact .ite h2.post (h2.loadImage (h2.checkedImage hi)).placeCore.resumeHeld.wakeUnits.jobCode

theorem Whole.execImageRestore {ctx vc core : Nat} (h : Whole s) : WholeNext (execImageRestore ctx vc core s) := by
  unfold Machine.execImageRestore
  split
  · split
    · exact Whole.ite h h.restoreScan
    · exact h
  · split
    · exact h
    · exact Whole.iteNext h.resume h

theorem Whole.execJobElement {ctx job : Nat} (h : Whole s) : WholeNext (execJobElement ctx job s) := by
  unfold Machine.execJobElement
  split
  · exact h
  · refine Whole.iteNext h ?_
    refine Whole.iteNext h.post ?_
    split
    · exact Whole.ite h.post h.copyElement
    · exact Whole.ite h.post h.chainElement
    · exact h.collElement
    · exact h.post
    · exact h.writeImage
    · exact h.post
    · exact h.post

end Sys2Proof.Proofs
end

section
/-!
PROOF. O50: the debug unit, the host port, management, and launches keep the invariant.
-/
namespace Sys2Proof.Proofs
open Sys2Proof Sys2Proof.Machine Sys2Proof.Claim Sys2Proof.Laws
set_option Elab.async false

variable {s s0 : State}

/-! ### Watchpoints and debug stops -/

theorem Whole.debugRecord {c : Nat} {r : Nat → BitVec 256} (h : Whole s) : Whole (s.debugRecord c r) := h.queueRecord

theorem Whole.skids {h' : Hit} {cores : List (Nat × Nat)} (h : Whole s) : Whole (s.skids h' cores) := by
  unfold State.skids
  dsimp only
  refine .foldl h fun _ _ h => ?_
  split
  · exact h
  · refine .foldl h fun _ _ h => ?_
    split
    · exact h
    · exact h.debugRecord

theorem Whole.startStop {h' : Hit} {hits : List Nat} (h : Whole s) : Whole (s.startStop h' hits) :=
  .skids (.modSquare (.foldl h fun _ _ h => h.modCore))

theorem Whole.endStop {q c : Nat} (h : Whole s) : Whole (s.endStop q c) := .foldl h.modSquare fun _ _ h => .ite h h.endStep.modCore

theorem Whole.clearWatch {q wp : Nat} (h : Whole s) : Whole (s.clearWatch q wp) := by
  unfold State.clearWatch
  split
  · exact h
  · exact .ite h.modSquare.endStop h.modSquare

/-! ### The host port -/

theorem Whole.hostOpen {c : Nat} {wr : Bool} {ia : Nat} (h : Whole s) : WholeOpt (s.hostOpen c wr ia) := by
  unfold State.hostOpen
  split
  · refine Whole.iteOpt trivial ?_
    split
    · exact trivial
    · next heq => exact Whole.iteOpt h.markLeaf.cowStep (h.touchL2.get heq).correctDram.markLeaf.inSome
  · exact h

theorem Whole.hostOpens {c : Nat} {wr : Bool} {ias : List Nat} (h : Whole s) : WholeOpt (s.hostOpens c wr ias) :=
  Whole.foldlOpt h fun _ _ h => h.hostOpen

/-- The state in which a frame that is next in sequence is taken. -/
theorem Whole.framed {t u : State} {h' : Hdr} {ty : Nat} (h : Whole s) (e : s.takeFrame h' ty = (some t, u)) : Whole t :=
  h.frame.get (congrArg Prod.fst e)

theorem Whole.execHostWrite {h' : Hdr} {window offset : Nat} {data : List Byte}
    (h : Whole s) : WholeNext (execHostWrite h' window offset data s) := by
  unfold Machine.execHostWrite
  refine Whole.iteNext h.post ?_
  split
  · next heq => exact Whole.snd heq h.takeFrame
  · next heq =>
      have h1 := h.framed heq
      split
      · exact (h1.hostOpens.getD h1).writeIa.observe.sendSess.tookEffect
      · exact h1.sendSess.tookEffect
      · exact h1

theorem Whole.execHostRead {h' : Hdr} {window offset len : Nat} (h : Whole s) : WholeNext (execHostRead h' window offset len s) := by
  unfold Machine.execHostRead
  dsimp only
  refine Whole.iteNext h.post ?_
  split
  · next heq => exact Whole.snd heq h.takeFrame
  · next heq =>
      have h1 := h.framed heq
      split
      · split
        · exact (h1.hostOpens.getD h1).reportBad.sendSess.tookEffect
        · exact (h1.hostOpens.getD h1).observe.sendSess.tookEffect
      · exact h1.sendSess.tookEffect
      · exact h1

theorem Whole.releasePort (h : Whole s) : Whole s.releasePort := .foldl h fun _ _ h => h.emit

/-! ### Management of contexts, queues and sessions -/

theorem Whole.newContext {c n quota : Nat} {priv : Bool} {root : Nat} (h : Whole s) : Whole (s.newContext c n quota priv root) :=
  { h with cores := List.forall_mem_append.mpr ⟨h.cores, List.forall_mem_map.mpr fun _ _ => rfl⟩ }

theorem Whole.execContextCreate {h' : Hdr} {ctx n quota : Nat} {priv : Bool} {root : Nat} {vc0 : Option (BitVec 512)}
    (h : Whole s) : WholeNext (execContextCreate h' ctx n quota priv root vc0 s) := by
  unfold Machine.execContextCreate
  dsimp only
  refine Whole.mgmt h fun _ h => ?_
  refine .iteSnd2 h.refused ?_
  split
  · exact h.refused
  · exact h.newContext.modVc.done

theorem Whole.execContextDestroy {h' : Hdr} {ctx : Nat} (h : Whole s) : WholeNext (execContextDestroy h' ctx s) := by
  unfold Machine.execContextDestroy
  refine Whole.mgmt h fun _ h => ?_
  split
  · exact h.noObject
  · exact h.dropContext.done

theorem Whole.forgetQueue {q : Nat} (h : Whole s) : Whole (s.forgetQueue q) := h

theorem Whole.execQueueUnbind {h' : Hdr} {queue : Nat} (h : Whole s) : WholeNext (execQueueUnbind h' queue s) := by
  unfold Machine.execQueueUnbind
  refine Whole.mgmt h fun _ h => ?_
  split
  · exact h.noObject
  · exact .iteSnd2 h.refused (.done (.forgetQueue (q := queue) h))

theorem Whole.execWindowOpenClose {h' : Hdr} {opn : Bool} {window sess ctx base size : Nat} {rd wr : Bool}
    (h : Whole s) : WholeNext (execWindowOpenClose h' opn window sess ctx base size rd wr s) := by
  unfold Machine.execWindowOpenClose
  dsimp only
  refine Whole.mgmt h fun _ h => ?_
  refine .iteSnd2 ?_ (.iteSnd2 h.noObject (.done h))
  split
  · exact .iteSnd2 h.refused (.done h)
  · exact h.noObject

theorem Whole.closeSession {n c : Nat} (h : Whole s) : Whole (s.closeSession n c) := by
  unfold State.closeSession
  dsimp only
  split
  · split
    · exact .ite h.jobCode h
    · exact h
  · exact h

theorem Whole.execSessionOpenClose {h' : Hdr} {opn : Bool} {sess ctx : Nat} {key : BitVec 256}
    (h : Whole s) : WholeNext (execSessionOpenClose h' opn sess ctx key s) := by
  unfold Machine.execSessionOpenClose
  refine Whole.mgmt h fun _ h => ?_
  refine .iteSnd2 h.refused ?_
  refine .iteSnd2 ?_ ?_
  · split
    · exact h.noObject
    · exact h.refused
    · exact .done h
  · split
    · exact h.noObject
    · exact h.closeSession.done

theorem Whole.execPortStatus {h' : Hdr} {port : Nat} {set : Option (List Nat × List Nat)}
    (h : Whole s) : WholeNext (execPortStatus h' port set s) := by
  unfold Machine.execPortStatus
  refine Whole.mgmt h fun _ h => ?_
  split
  · exact .iteSnd2 h.refused (.done h)
  · exact .iteSnd2 h.noObject h

theorem Whole.execDelayThrashSet {h' : Hdr} {cls delay : Nat} {thrash : Option (Nat × Nat × Nat)}
    (h : Whole s) : WholeNext (execDelayThrashSet h' cls delay thrash s) := by
  unfold Machine.execDelayThrashSet
  refine Whole.mgmt h fun _ h => ?_
  split
  · exact .iteSnd2 h.refused (.done h)
  · exact .iteSnd2 h.refused (.done h)

theorem Whole.zeroAdded {d ob os b z : Nat} (h : Whole s) : Whole (s.zeroAdded d ob os b z) :=
  .modDie (.withBadChip h) fun _ h => wf_filter _ h

theorem Whole.execMarketAllotmentSet {h' : Hdr} {ctx die base size : Nat}
    (h : Whole s) : WholeNext (execMarketAllotmentSet h' ctx die base size s) := by
  unfold Machine.execMarketAllotmentSet
  dsimp only
  refine Whole.iteNext h.post ?_
  refine Whole.mgmt h fun _ h => ?_
  split
  · exact h.noObject
  · exact .iteSnd2 h.refused h.zeroAdded.modCtx.done

/-! ### Promotion -/

theorem Whole.execGangPromotion {ctx vc : Nat} (h : Whole s) : WholeNext (execGangPromotion ctx vc s) := by
  unfold Machine.execGangPromotion
  dsimp only
  split
  · exact h
  · exact h.modCore

theorem Whole.startScan {c n op p : Nat} (h : Whole s) : Whole (s.startScan c n op p) := by
  unfold State.startScan
  split
  · split
    · exact h.post
    · exact h
  · exact h.post
  · split
    · exact h.placeCore.wakeHeld.wakeUnits.post
    · exact h.post

theorem Whole.execScan {sw : Bool} {d a b : Fld} (h : Whole s) : WholeNext (s.execScan sw d a b) := by
  unfold State.execScan
  dsimp only
  split
  · next heq => exact h.prepare.halt heq
  · next heq =>
      have h1 := h.prepare.go heq
      refine Whole.iteNext h1.deliver.finish ?_
      refine Whole.iteNext h1.deliver.finish ?_
      split
      · exact h1.takeTrap
      · split
        · exact h.stall
        · exact h1.addJob.deliver.finish.startScan

theorem Whole.execWpset {sw : Bool} {d a b : Fld} (h : Whole s) : WholeNext (execWpset sw d a b s) := by
  unfold Machine.execWpset
  dsimp only
  split
  · next heq => exact h.prepare.halt heq
  · next heq =>
      have h1 := h.prepare.go heq
      refine Whole.iteNext h1.deliver.finish ?_
      split
      · exact h1.deliver.finish
      · exact h1.modSquare.deliver.finish

theorem Whole.execWpclr {sw : Bool} {b : Fld} (h : Whole s) : WholeNext (execWpclr sw b s) := by
  unfold Machine.execWpclr
  split
  · next heq => exact h.prepare.halt heq
  · next heq => exact (h.prepare.go heq).clearWatch.finish

theorem Whole.execStep {sw : Bool} {d a : Fld} (h : Whole s) : WholeNext (execStep sw d a s) := by
  unfold Machine.execStep
  dsimp only
  refine Whole.iteNext h.stall ?_
  split
  · next heq => exact h.prepare.halt heq
  · next heq =>
      have h1 := h.prepare.go heq
      refine Whole.iteNext h1.deliver.finish ?_
      refine Whole.iteNext h1.deliver.finish ?_
      refine Whole.iteNext h1.deliver.finish ?_
      split
      · exact h1.deliver.finish
      · exact h1.countIssue.replyTo.modCore.stall

/-! ### Launches -/

theorem Whole.modLaunch {uid : Nat} {f : Launch → Launch} (h : Whole s) : Whole (s.modLaunch uid f) := by
  unfold State.modLaunch
  split
  · exact h
  · exact h

theorem Whole.offerNext {uid queue : Nat} (h : Whole s) : Whole (s.offerNext uid queue) :=
  .post (.foldl h fun _ _ h => .ite h (.foldl h fun _ _ h => .ite h.post h))

theorem Whole.completeLaunch {uid code : Nat} (h : Whole s) : Whole (s.completeLaunch uid code) := by
  unfold State.completeLaunch
  dsimp only
  split
  · exact h
  · refine .offerNext ?_
    refine .sendSess ?_
    split
    · exact h.modLaunch
    · exact h.modLaunch

theorem Whole.bufferActions {p : Launch} {buf vcs : Nat} (h : Whole s) : Whole (s.bufferActions p buf vcs).2 :=
  .pair <| .ite (.foldl (.ite (.foldl h.settleHalves fun _ _ h => h.writeBackAll) h.settleHalves) fun _ _ h => .foldl h fun _ _ h => h.writeBack)
    (.ite (.foldl h.settleHalves fun _ _ h => h.writeBackAll) h.settleHalves)

theorem Whole.execEdgeSatisfied {uid edge : Nat} (h : Whole s) : WholeNext (execEdgeSatisfied uid edge s) := by
  unfold Machine.execEdgeSatisfied
  dsimp only
  split
  · exact h
  · refine Whole.iteNext h ?_
    split
    · exact Whole.ite h.modLaunch.post h.modLaunch
    · refine Whole.iteNext h ?_
      refine Whole.iteNext h.completeLaunch ?_
      split
      · next heq =>
          have h1 := Whole.snd heq h.bufferActions
          exact Whole.ite h1.modLaunch.post h1.modLaunch
      · next heq => exact (Whole.snd heq h.bufferActions).post

theorem Whole.execLaunch {h' : Hdr} {queue : Nat} {recd : BitVec 2048} (h : Whole s) : WholeNext (execLaunch h' queue recd s) := by
  unfold Machine.execLaunch
  dsimp only
  split
  · next heq => exact Whole.snd heq h.takeFrame
  · next heq =>
      have h1 := h.framed heq
      split
      · exact h1.sendSess.tookEffect
      · refine Whole.iteNext (h1.sendSess.tookEffect) ?_
        refine Whole.iteNext (h1.sendSess.tookEffect) ?_
        refine .tookEffect ?_
        refine .ite (.completeLaunch (.sendSess h1)) ?_
        refine .ite (.post (.sendSess h1)) ?_
        refine .foldl (.sendSess h1) fun _ _ h => ?_
        split
        · exact h.post
        · exact .ite h.post h

theorem Whole.sweepEntry {uid : Nat} (h : Whole s) : Whole (s.sweepEntry uid) := by
  unfold State.sweepEntry
  split
  · exact h
  · exact .foldl h fun _ _ h => h.preSweep

theorem Whole.enterCore {uid v : Nat} (h : Whole s) : Whole (s.enterCore uid v) := by
  unfold State.enterCore
  split
  · exact h
  · exact .ite h h.acquire.modLaunch

theorem Whole.freshSlice {c v n slice : Nat} (h : Whole s) : Whole (s.freshSlice c v n slice) :=
  .modCore (.modLine (.foldl h fun _ _ h => h.clearBad))

theorem length_lrGinit (r : BitVec 2048) : (lrGinit r).length = 8 := rfl

theorem Whole.placeUnit {uid k u : Nat} (h : Whole s) : WholeOpt (s.placeUnit uid k u) := by
  unfold State.placeUnit
  dsimp only
  split
  · exact trivial
  · split
    · exact trivial
    · next ln hspot =>
      have hline : LineOk ln := by
        split at hspot
        · next hlast =>
          cases hspot
          split at hlast
          · next hmine =>
            split at hlast
            · cases hlast
              exact h.lines _ (List.mem_of_mem_filter (List.mem_of_getLast? hmine))
            · cases hlast
          · cases hlast
        · obtain ⟨_, -, hnew⟩ := Option.map_eq_some_iff.mp hspot
          cases hnew
          exact ⟨length_lrGinit _, rfl⟩
      refine Whole.iteOpt trivial (Whole.inSome (.modLaunch (.foldl (.freshSlice (h.enterCore.putLine ?_)) fun _ _ h => h.putThread ⟨rfl, rfl⟩)))
      exact hline

theorem Whole.placeRun {uid : Nat} {run : List Nat} (h : Whole s) : WholeOpt (s.placeRun uid run) := by
  unfold State.placeRun
  dsimp only
  split
  · exact trivial
  · split
    · exact h
    · exact Whole.iteOpt trivial h.makeGroup.modLaunch.inSome

theorem Whole.placeBatch {uid : Nat} {r : BitVec 2048} {b : List (Nat × Nat)} (h : Whole s) : WholeOpt (s.placeBatch uid r b) := by
  unfold State.placeBatch
  split
  · exact h
  · split
    · exact trivial
    · next heq => exact Whole.foldlOpt (WholeOpt.get heq (Whole.foldlOpt h fun _ _ h => h.placeUnit)) fun _ _ h => h.placeRun

theorem Whole.placeUnits {uid : Nat} {r : BitVec 2048} {fuel : Nat} {stuck : List Nat} {us : List (Nat × Nat)}
    (h : Whole s) : Whole (placeUnits uid r fuel stuck s us).1 := by
  induction fuel generalizing s stuck us with
  | zero => exact h
  | succ fuel ih =>
    unfold Machine.placeUnits
    split
    · exact h
    · dsimp only
      split
      · exact ih h
      · next heq => exact ih (h.placeBatch.get heq)

theorem Whole.placeLaunch {uid : Nat} (h : Whole s) : Whole (s.placeLaunch uid) := by
  unfold State.placeLaunch
  split
  · exact h
  · exact .ite h.placeUnits.modLaunch.raiseApexes.post h.placeUnits.modLaunch.raiseApexes

theorem Whole.execUnitPlace {uid : Nat} (h : Whole s) : WholeNext (execUnitPlace uid s) := by
  unfold Machine.execUnitPlace
  split
  · exact h
  · exact Whole.iteNext h h.sweepEntry.placeLaunch.checkLaunch

theorem Whole.copyData {c : Nat} {r : BitVec 2048} {k : Kernel} (h : Whole s) : WholeOk (s.copyData c r k) := by
  unfold State.copyData
  refine Whole.iteOk h ?_
  split
  · exact trivial
  · exact .map fun _ he => (h.openPages.get he).writeIa

theorem Whole.readyCores {c : Nat} {cores : List Nat} (h : Whole s) : WholeOpt (s.readyCores c cores) :=
  Whole.iteOpt h (Whole.iteOpt trivial (WholeOpt.map fun _ => .foldl h fun _ _ h => h.placeCore))

theorem Whole.startLaunch {uid : Nat} {cores : List Nat} (h : Whole s) : WholeOpt (s.startLaunch uid cores) := by
  unfold State.startLaunch
  dsimp only
  split
  · exact trivial
  · split
    · next heq _ =>
        have h1 := h.readyCores.get heq
        refine Whole.iteOpt h1.completeLaunch.inSome ?_
        refine Whole.iteOpt h1.completeLaunch.inSome ?_
        refine Whole.iteOpt trivial ?_
        refine Whole.iteOpt h1.completeLaunch.inSome ?_
        split
        · exact Whole.iteOpt trivial h1.completeLaunch.inSome
        · next heq => exact (h1.copyData.get heq).modLaunch.placeLaunch.checkLaunch.inSome
    · trivial

theorem Whole.execLaunchStart {queue : Nat} {cores : List Nat} (h : Whole s) : WholeNext (execLaunchStart queue cores s) := by
  unfold Machine.execLaunchStart
  dsimp only
  split
  · exact h
  · refine Whole.iteNext ?_ (Whole.iteNext (Whole.post (.ite h.sweepEntry h.sweepEntry.post)) h.sweepEntry)
    split
    · next heq =>
        have h1 := h.sweepEntry.startLaunch.get heq
        exact Whole.ite (Whole.post h1) h1
    · exact h.sweepEntry

theorem Whole.execLaunchComplete {uid : Nat} (h : Whole s) : WholeNext (execLaunchComplete uid s) := by
  unfold Machine.execLaunchComplete
  split
  · exact h
  · refine Whole.iteNext h ?_
    split
    · next heq => exact (Whole.snd heq h.bufferActions).completeLaunch
    · next heq => exact (Whole.snd heq h.bufferActions).post

theorem Whole.execPreemptDelayExpiry {queue : Nat} (h : Whole s) : WholeNext (execPreemptDelayExpiry queue s) := by
  unfold Machine.execPreemptDelayExpiry
  split
  · exact h
  · split
    · exact h
    · exact Whole.iteNext h (Whole.foldl h fun _ _ h => h.setPreq)

/-! ### Images of kernels -/

theorem Whole.execImageSubmit {h' : Hdr} {ctx va len : Nat} (h : Whole s) : WholeNext (execImageSubmit h' ctx va len s) := by
  unfold Machine.execImageSubmit
  refine Whole.mgmt h fun _ h => ?_
  split
  · exact h.noObject
  · split
    · exact h.refused
    · split
      · exact h.refused
      · next heq =>
          have h1 := h.openPages.get heq
          refine .iteSnd2 h1.refused ?_
          split
          · exact h1
          · exact .pair h1

end Sys2Proof.Proofs
end

section
/-!
PROOF. O50: the rest of the memory instructions, power, and every action keep the invariant.
-/
namespace Sys2Proof.Proofs
open Sys2Proof Sys2Proof.Machine Sys2Proof.Claim Sys2Proof.Laws
set_option Elab.async false

variable {s s0 : State}

theorem Whole.execImageRelease {h' : Hdr} {ctx khnd : Nat} (h : Whole s) : WholeNext (execImageRelease h' ctx khnd s) := by
  unfold Machine.execImageRelease
  refine Whole.mgmt h fun _ h => ?_
  split
  · exact h.noObject
  · exact .iteSnd2 h.noObject (.done h)

theorem Whole.execLoad {sw : Bool} {lvl : Lvl} {nt : Bool} {d a b : Fld} {t : BitVec 3} (h : Whole s) : WholeNext (s.execLoad sw lvl nt d a b t) := by
  unfold State.execLoad
  dsimp only
  split
  · next heq => exact h.prepare.halt heq
  · next heq => exact (h.prepare.go heq).memIssue h

theorem Whole.execStore {sw : Bool} {lvl : Lvl} {nt : Bool} {d a b : Fld} {t : BitVec 3}
    (h : Whole s) : WholeNext (s.execStore sw lvl nt d a b t) := by
  unfold State.execStore
  dsimp only
  split
  · next heq => exact h.prepare.halt heq
  · next heq => exact (h.prepare.go heq).memIssue h

theorem Whole.prefetch1 {addr : Nat} (h : Whole s) : Whole (s.prefetch1 addr) := by
  unfold State.prefetch1
  split
  · exact h
  · split
    · next heq => exact h.loadL1.get heq
    · exact h

theorem Whole.prefetch2 {addr : Nat} (h : Whole s) : Whole (s.prefetch2 addr) := by
  unfold State.prefetch2
  split
  · exact h
  · split
    · next heq => exact h.openPage.get heq
    · exact h

theorem Whole.execPrf {sw : Bool} {a b : Fld} {f : State → Nat → State} (h : Whole s)
    (hf : ∀ t n, Whole t → Whole (f t n)) : WholeNext (s.execPrf sw a b f) := by
  unfold State.execPrf
  split
  · next heq => exact h.prepare.halt heq
  · next heq => exact Whole.finish (.foldl (h.prepare.go heq) fun _ _ h => hf _ _ h)

theorem Whole.execAtom {sw : Bool} {op : AtomOp} {d a : Fld} {w : BitVec 3} {c : BitVec 4} (h : Whole s) : WholeNext (s.execAtom sw op d a w c) := by
  unfold State.execAtom
  dsimp only
  split
  · next heq => exact h.prepare.halt heq
  · next heq => exact (h.prepare.go heq).memIssue h

theorem Whole.execRed {sw : Bool} {op : AtomOp} {d a : Fld} {w : BitVec 3} {c : BitVec 4} (h : Whole s) : WholeNext (s.execRed sw op d a w c) := by
  unfold State.execRed
  split
  · next heq => exact h.prepare.halt heq
  · next heq => exact (h.prepare.go heq).memIssue h

theorem Whole.execFence {sw : Bool} {k : FenceKind} {c : BitVec 4} (h : Whole s) : WholeNext (s.execFence sw k c) := 
  .parkHeld (h.memIssue h)

theorem Whole.execScset {sw : Bool} {a : Fld} {c : BitVec 4} (h : Whole s) : WholeNext (execScset sw a c s) := by
  unfold Machine.execScset
  split
  · next heq => exact h.prepare.halt heq
  · next heq => exact ((h.prepare.go heq).gangIssue h).parkHeld

theorem Whole.execScqry {sw : Bool} {d : Fld} {c : BitVec 4} (h : Whole s) : WholeNext (execScqry sw d c s) := by
  unfold Machine.execScqry
  split
  · next heq => exact h.prepare.halt heq
  · next heq => exact (h.prepare.go heq).deliver.finish

theorem Whole.execScmem {sw : Bool} {d : Fld} {c : BitVec 4} (h : Whole s) : WholeNext (execScmem sw d c s) := by
  unfold Machine.execScmem
  split
  · next heq => exact h.prepare.halt heq
  · next heq => exact (h.prepare.go heq).deliver.finish

theorem Whole.cutOff (h : Whole s) : Whole s.cutOff := .foldl h fun _ _ h => .foldl h fun _ _ h => .ite h.jobCode h

theorem Whole.setBank {g : BankGroup} {b : BankSt} (h : Whole s) : Whole (s.setBank g b) := h

theorem Whole.modRas {f : Ras → Ras} (h : Whole s) : Whole (s.modRas f) := h

theorem Whole.stopContextsOn {p : Nat} (h : Whole s) : Whole (s.stopContextsOn p) := by
  unfold State.stopContextsOn
  dsimp only
  refine .foldl h fun _ _ h => ?_
  refine .ite h ?_
  refine .foldl h.modCtx fun _ _ h => ?_
  split
  · exact h.post
  · exact h.post
  · exact h

theorem Whole.loseGroup {g : BankGroup} (h : Whole s) : Whole (s.loseGroup g) := by
  unfold State.loseGroup
  split
  · exact h.logError.modRas.retakeChanges
  · exact h.logError.modRas.modDie
  · exact h.logError.modRas.stopContextsOn

theorem Whole.markBank {g : BankGroup} {bank : Nat} (h : Whole s) : Whole (s.markBank g bank) :=
  .ite h (.ite h.logError.count.setBank.loseGroup (.ite h.logError.count.setBank.post h.logError.count.setBank))

theorem Whole.execBankRebuildRow {g : BankGroup} (h : Whole s) : WholeNext (execBankRebuildRow g s) := by
  unfold Machine.execBankRebuildRow
  dsimp only
  split
  · exact h
  · exact Whole.iteNext h.setBank.post h.setBank.logError.count

theorem Whole.setClock {die tenths : Nat} (h : Whole s) : Whole (s.setClock die tenths) := .ite h h.modDie

theorem Whole.execCorePowerRemove (h : Whole s) : WholeNext (execCorePowerRemove s) :=
  have h1 : Whole (s.ctxs.foldl (fun s e => s.dropContext e.1) s) := .foldl h fun _ _ h => h.dropContext
  Whole.iteNext h <| show Whole _ from { h1 with mem := rfl, squares := by simp, dies := by simp, images := by simp }

theorem whole_execPowerUp {straps : Straps} : WholeNext (execPowerUp straps s) :=
  have h0 : Whole State.reset := sound_iff_whole.mp reset_sound.1
  .modRas (.foldl { h0 with dies := List.forall_mem_map.mpr fun _ _ => rfl } fun _ _ h => h.markBank)

theorem Whole.execShli {sw : Bool} {d a : Fld} {w : Bool} {c : BitVec 6} (h : Whole s) : WholeNext (execShli sw d a w c s) :=
  Whole.iteNext h.compute h.compute

theorem Whole.execShri {sw : Bool} {d a : Fld} {w : Bool} {c : BitVec 6} (h : Whole s) : WholeNext (execShri sw d a w c s) :=
  Whole.iteNext h.compute h.compute

theorem Whole.execSari {sw : Bool} {d a : Fld} {w : Bool} {c : BitVec 6} (h : Whole s) : WholeNext (execSari sw d a w c s) :=
  Whole.iteNext h.compute h.compute

theorem Whole.execRotri {sw : Bool} {d a : Fld} {w : Bool} {c : BitVec 6} (h : Whole s) : WholeNext (execRotri sw d a w c s) :=
  Whole.iteNext h.compute h.compute

theorem Whole.execLeave {sw : Bool} (h : Whole s) : WholeNext (execLeave sw s) :=
  Whole.finish (.foldl h fun _ _ h => h.leaveGroup)

theorem Whole.execPanHoldExpiry {pan : PanId} {p : Partial} (h : Whole s) : WholeNext (execPanHoldExpiry pan p s) :=
  Whole.iteNext h.post (Whole.ite (Whole.ite h.setPan.failPan h.setPan.forward) h)

theorem Whole.execWin {sw : Bool} {b : Fld} (h : Whole s) : WholeNext (execWin sw b s) :=
  h.trapIssue.modLanes.finish

theorem Whole.execDpair {t u : Bool} {e f : BitVec 10} (h : Whole s) : WholeNext (execDpair t u e f s) :=
  Whole.iteNext h.trapAll h.modLanes

theorem Whole.execChFree {sw : Bool} {k : BitVec 3} (h : Whole s) : WholeNext (execChFree sw k s) :=
  Whole.iteNext h.stall (.finish (h.modIssLine fun _ h => h.setChan))

theorem Whole.execStorePerform {ctx vc ia : Nat} (h : Whole s) : WholeNext (execStorePerform ctx vc ia s) :=
  h.settleHalves.writeBack

theorem Whole.execOprRel {sw : Bool} {n : BitVec 4} (h : Whole s) : WholeNext (execOprRel sw n s) :=
  Whole.iteNext h.stall <| .finishRest <| h.eachQuarter fun _ _ _ h => by
    split
    · exact h
    · exact Whole.iteOk h.modIssCore trivial

theorem Whole.execVcCommit {ctx vcn : Nat} (h : Whole s) : WholeNext (execVcCommit ctx vcn s) :=
  Whole.iteNext h (Whole.iteNext h.post h.modVc.retakeChanges.rehome)

theorem Whole.execCoreRelease {ctx vc : Nat} (h : Whole s) : WholeNext (execCoreRelease ctx vc s) :=
  Whole.iteNext h h.drainL1.unplace

theorem Whole.execWatchpointHit {hit : Hit} (h : Whole s) : WholeNext (execWatchpointHit hit s) :=
  Whole.iteNext h <| Whole.iteNext (.modSquare (.ite h.debugRecord (.foldl h fun _ _ h => h.debugRecord.debugRecord))) <|
    Whole.iteNext (.ite h.debugRecord (.foldl h fun _ _ h => h.debugRecord.debugRecord))
      (.startStop (.ite h.debugRecord (.foldl h fun _ _ h => h.debugRecord.debugRecord)))

theorem Whole.execArpRequest {a : Ask} (h : Whole s) : WholeNext (execArpRequest a s) :=
  Whole.ite h.send h

theorem Whole.execIcmpEcho {a : Ask} (h : Whole s) : WholeNext (execIcmpEcho a s) :=
  Whole.ite h.send h

theorem Whole.execPriorityFlowControlFrame {classes paused : BitVec 8} (h : Whole s) : WholeNext (execPriorityFlowControlFrame classes paused s) :=
  Whole.iteNext h (Whole.releasePort h)

theorem Whole.execQueueBind {h' : Hdr} {queue ctx cls : Nat} (h : Whole s) : WholeNext (execQueueBind h' queue ctx cls s) :=
  Whole.mgmt h fun _ h => .iteSnd2 h.noObject (.iteSnd2 h.refused (.done (.forgetQueue (q := queue) h)))

theorem Whole.execFabricRecordWrite {h' : Hdr} {recd : BitVec 512} {routes : List (Nat × Nat)}
    (h : Whole s) : WholeNext (execFabricRecordWrite h' recd routes s) :=
  Whole.mgmt h fun _ h => .iteSnd2 h.refused (.done h)

theorem Whole.execFabricGroupOp {h' : Hdr} {create : Bool} {gid ctx dev : Nat}
    (h : Whole s) : WholeNext (execFabricGroupOp h' create gid ctx dev s) :=
  Whole.mgmt h fun _ h => .iteSnd2 (.iteSnd2 h.refused (.done h)) (.iteSnd2 h.noObject (.iteSnd2 h.refused (.done h)))

theorem Whole.execLongLatencyReturn {r : Result} (h : Whole s) : WholeNext (execLongLatencyReturn r s) :=
  h.catchFlits.applyResult

theorem Whole.execBrk {sw : Bool} (h : Whole s) : WholeNext (execBrk sw s) :=
  Whole.iteNext h.trapAll h.finish.post

theorem Whole.execScinv {sw : Bool} {c : BitVec 4} (h : Whole s) : WholeNext (execScinv sw c s) :=
  h.modIssCtx.finish

theorem Whole.execFlitRetransmit {port : Nat} (h : Whole s) : WholeNext (execFlitRetransmit port s) :=
  h

theorem Whole.execPortStateChange {port : Nat} {state : PortState} (h : Whole s) : WholeNext (execPortStateChange port state s) :=
  Whole.iteNext h (Whole.cutOff h)

theorem Whole.execClockDroop {die tenths : Nat} (h : Whole s) : WholeNext (execClockDroop die tenths s) :=
  Whole.iteNext h h.setClock.count

theorem Whole.execClockStepUp {die : Nat} (h : Whole s) : WholeNext (execClockStepUp die s) :=
  Whole.iteNext h h.setClock

theorem Whole.execGovernorRound {demand : List Nat} (h : Whole s) : WholeNext (execGovernorRound demand s) :=
  Whole.ite (Whole.count (.foldl h fun _ _ h => h.modDie)) (Whole.foldl h fun _ _ h => h.modDie)

theorem Whole.execThermalLimit {die : Nat} (h : Whole s) : WholeNext (execThermalLimit die s) :=
  Whole.logError h

theorem Whole.execThermalTrip (h : Whole s) : WholeNext (execThermalTrip s) :=
  Whole.post h

/-! ## Every action keeps the invariant -/

theorem Whole.exec {i : Instr} (h : Whole s) : WholeNext (exec i s) := by
  unfold Machine.exec
  cases i with
  | longLatencyReturn => exact h.execLongLatencyReturn
  | gangPromotion => exact h.execGangPromotion
  | channelPushArrive => exact h.execChannelPushArrive
  | storePerform => exact h.execStorePerform
  | gatewayPageFault | writebackFault => exact h.recordFault
  | trapRecordEnqueue => exact h.execTrapRecordEnqueue
  | partialArrive => exact h.execPartialArrive
  | panHoldExpiry => exact h.execPanHoldExpiry
  | ctbmLeafArrive => exact h.execCtbmLeafArrive
  | closeMarkerArrive => exact h.execCloseMarkerArrive
  | slotResolve => exact h.execSlotResolve
  | slotFinal => exact h.execSlotFinal
  | mmaPassStart => exact h.execMmaPassStart
  | fusionWindowExpiry => exact h.closeWindow
  | drainSeqWrite => exact h.execDrainSeqWrite
  | jobElement => exact h.execJobElement
  | jobRetire => exact h.execJobRetire
  | collectiveWindowGrant => exact h.execCollectiveWindowGrant
  | collectiveRootReturn => exact h.execCollectiveRootReturn
  | ckptGranuleCopy => exact h.execCkptGranuleCopy
  | ckptCowCopy => exact h.execCkptCowCopy
  | vcAccept => exact h.execVcAccept
  | vcMoveStep => exact h.execVcMoveStep
  | vcCommit => exact h.execVcCommit
  | pageMigrate => exact h.execPageMigrate
  | thrashThrottleExpiry => exact h.modCtx
  | launch => exact h.execLaunch
  | launchStart => exact h.execLaunchStart
  | unitPlace => exact h.execUnitPlace
  | edgeSatisfied => exact h.execEdgeSatisfied
  | launchComplete => exact h.execLaunchComplete
  | preemptDelayExpiry => exact h.execPreemptDelayExpiry
  | preemptDeadline => exact h.execPreemptDeadline
  | coreRelease => exact h.execCoreRelease
  | forcedStop => exact h.execForcedStop
  | scanComplete => exact h.execScanComplete
  | imageRestore => exact h.execImageRestore
  | contextResume => exact h.execContextResume
  | contextMigrate => exact h.execContextMigrate
  | watchpointHit => exact h.execWatchpointHit
  | hostWrite => exact h.execHostWrite
  | hostRead => exact h.execHostRead
  | lctAck => exact h.execLctAck
  | lctRetransmitTimeout => exact h.execLctRetransmitTimeout
  | contextCreate => exact h.execContextCreate
  | contextDestroy => exact h.execContextDestroy
  | queueBind => exact h.execQueueBind
  | queueUnbind => exact h.execQueueUnbind
  | rangeRegisterWrite => exact h.execRangeRegisterWrite
  | pageMap => exact h.execPageMap
  | pageUnmap => exact h.execPageUnmap
  | pageChange => exact h.execPageChange
  | windowOpenClose => exact h.execWindowOpenClose
  | sessionOpenClose => exact h.execSessionOpenClose
  | faultResolve => exact h.execFaultResolve
  | faultFail => exact h.execFaultFail
  | trapResume => exact h.execTrapResume
  | trapRetry => exact h.execTrapRetry
  | trapAbandon => exact h.execTrapAbandon
  | fabricRecordWrite => exact h.execFabricRecordWrite
  | fabricGroupOp => exact h.execFabricGroupOp
  | portStatus => exact h.execPortStatus
  | cutMapRead => exact h.execCutMapRead
  | delayThrashSet => exact h.execDelayThrashSet
  | imageSubmit => exact h.execImageSubmit
  | imageRelease => exact h.execImageRelease
  | quotaSet => exact h.execQuotaSet
  | marketAllotmentSet => exact h.execMarketAllotmentSet
  | arpRequest => exact h.execArpRequest
  | icmpEcho => exact h.execIcmpEcho
  | flitRetransmit => exact h.execFlitRetransmit
  | portStateChange => exact h.execPortStateChange
  | bankMarkFailed => exact h.markBank
  | bankRebuildRow => exact h.execBankRebuildRow
  | clockDroop => exact h.execClockDroop
  | clockStepUp => exact h.execClockStepUp
  | governorRound => exact h.execGovernorRound
  | thermalLimit => exact h.execThermalLimit
  | thermalTrip => exact h.execThermalTrip
  | corePowerRemove => exact h.execCorePowerRemove
  | powerUp => exact whole_execPowerUp
  | unassignedWordIssue | trap => exact h.trapAll
  | priorityFlowControlFrame => exact h.execPriorityFlowControlFrame
  | addI32 | subI32 | addSatI32 | subSatI32 | addSatN32 | subSatN32 | mulloI32 | mulhiI32 | mulhiN32 | minI32 | maxI32 | minN32 | maxN32 | absI32 |
    negI32 | addI64 | subI64 | mulloI64 | mulhiI64 | mulhiN64 | minI64 | maxI64 | minN64 | maxN64 | negI64 | absI64 | andB32 | orB32 | xorB32 |
    andnB32 | ornB32 | xnorB32 | notB32 | shlB32 | shrB32 | sarB32 | rotlB32 | rotrB32 | movB32 | movB64 | popcB32 | clzB32 | ctzB32 | brevB32 |
    bfeI32 | bfeN32 | bfiB32 | bselB32 | shlB64 | shrB64 | sarB64 | popcB64 | clzB64 | setEqB32 | setNeB32 | setLtI32 | setLeI32 | setLtN32 |
    setLeN32 | setEqB64 | setNeB64 | setLtI64 | setLeI64 | setLtN64 | setLeN64 | selB32 | selB64 | addiI32 | andiB32 | oriB32 | xoriB32 | andB64 |
    orB64 | xorB64 | notB64 | rotlB64 | rotrB64 | movi | movhi | movlo | addaI | addaN | madaN32 | extI32 | extN32 | truncB64 | faddF32 | fsubF32 |
    fmulF32 | ffmaF32 | faddF64 | fsubF64 | fmulF64 | ffmaF64 | faddBf16x2 | fsubBf16x2 | fmulBf16x2 | ffmaBf16x2 | faddF16x2 | fsubF16x2 |
    fmulF16x2 | ffmaF16x2 | fminF32 | fmaxF32 | fabsF32 | fnegF32 | fcpsgnF32 | fdivF32 | fsqrtF32 | fsetEqF32 | fsetNeF32 | fsetLtF32 | fsetLeF32 |
    fsetUnF32 | fclassF32 | fminF64 | fmaxF64 | fabsF64 | fnegF64 | fcpsgnF64 | fdivF64 | fsqrtF64 | fsetEqF64 | fsetNeF64 | fsetLtF64 | fsetLeF64 |
    fsetUnF64 | fclassF64 | fminBf16x2 | fmaxBf16x2 | fabsBf16x2 | fnegBf16x2 | fminF16x2 | fmaxF16x2 | fabsF16x2 | fnegF16x2 | frcpF32 | frsqrtF32
    | fexp2F32 | flog2F32 | fsinpiF32 | fcospiF32 | ftanhF32 | frcpF64 | frsqrtF64 | fexp2F64 | flog2F64 | cvt | cvtpBf16x2F32 | cvtpF16x2F32 |
    insE8 | insE4 | extE8 | extE4 | cvtS8E8m0 | cvtE8m0S8 | sclF32 | sclF64 | dp4I8 | dp4N8 | dp4F8e4m3 | dp4F8e5m2 | dp8I4 | dp8N4 | dp8F4e2m1 =>
    exact h.compute
  | shli => exact h.execShli
  | shri => exact h.execShri
  | sari => exact h.execSari
  | rotri => exact h.execRotri
  | srd | srdPos => exact h.readSpecial
  | swr | swrFst | swrPreq | swrFltcc => exact h.writeSpecial
  | ldP | ldC | ldQ | ldM | ldG | ldGNt => exact h.execLoad
  | stP | stC | stQ | stM | stG | stGNt => exact h.execStore
  | prfL1 => exact h.execPrf fun _ _ h => h.prefetch1
  | prfL2 => exact h.execPrf fun _ _ h => h.prefetch2
  | atomAdd | atomAnd | atomOr | atomXor | atomMinI | atomMaxI | atomMinN | atomMaxN | atomExch | atomCas => exact h.execAtom
  | redAdd | redAnd | redOr | redXor | redMinI | redMaxI | redMinN | redMaxN => exact h.execRed
  | fenceAcq | fenceRel | fenceAr | fenceSc => exact h.execFence
  | scset => exact h.execScset
  | scinv => exact h.execScinv
  | scqry => exact h.execScqry
  | scmem => exact h.execScmem
  | ctb => exact h.execCtb
  | ctbn => exact h.execCtbn
  | ctbm => exact h.execCtbm
  | slotOpen => exact h.execSlotOpen
  | slotClose => exact h.execSlotClose
  | slotWait => exact h.execSlotWait
  | slotStat => exact h.execSlotStat
  | oprDef => exact h.execOprDef
  | oprRel => exact h.execOprRel
  | oprQry => exact h.execOprQry
  | stp | stpSc => exact h.execPlaneStore
  | ldp | ldpSc => exact h.execPlaneLoad
  | mma => exact h.execMma
  | accClr => exact h.execAccClr
  | accRd => exact h.execAccRd
  | drain | drainMx => exact h.execDrains
  | cpy | chain => exact h.jobMould fun _ _ h => h.post
  | cpyc => exact h.jobMould fun _ _ h => h.startColl
  | cpyw => exact h.execCpyw
  | chBind => exact h.execChBind
  | chFree => exact h.execChFree
  | chCnt => exact h.execChCnt
  | rng => exact h.execRng
  | rngReg | rngUnreg => exact h.execStream
  | vcdef => exact h.execVcdef
  | vcqry => exact h.execVcqry
  | ckcut => exact h.execCkcut
  | bnz | bz => exact h.execBranch
  | call => exact h.execCall
  | jmpi | calli | ret => exact h.execIndirect
  | exit => exact h.execExit
  | ychk => exact h.execYchk
  | yield => exact h.execYield
  | win => exact h.execWin
  | gnew => exact h.execGnew
  | join => exact h.execJoin
  | leave => exact h.execLeave
  | bar => exact h.execBar
  | brk => exact h.execBrk
  | nop => exact h.finish
  | fltReplay => exact h.execFltReplay
  | scanStop | scanRestore | scanRestart => exact h.execScan
  | wpset => exact h.execWpset
  | wpclr => exact h.execWpclr
  | step => exact h.execStep
  | dpair => exact h.execDpair

theorem Whole.step (h : Whole s) : WholeNext (step s) := by
  unfold Machine.step
  split
  · exact h.tick
  · next heq => exact (h.choose.event heq).exec
  · next heq =>
    have h1 := h.choose.issue heq
    split
    · exact h1.exec
    · exact h1.exec

/-- Settles O50: every operation of the model keeps the invariant of the tables, so each action does, and so does the step that takes one. -/
theorem stepKeepsSound : Obligations.StepKeepsSound := fun _ _ hs ht => sound_iff_whole.mpr ((sound_iff_whole.mp hs).step.get ht)

end Sys2Proof.Proofs
end

section
/-!
PROOF. A management frame is refused, or taken with the reply to it and its acknowledgement (R371 to R373, for O35).
-/
namespace Sys2Proof.Proofs
open Sys2Proof Sys2Proof.Machine Sys2Proof.Claim Sys2Proof.Laws

section Frames
variable {s : State} {h : Hdr} {code st : Nat} {pay : List Nat}

/-- A frame that the port drops, on a session that is not open, or while the device is not up, is dropped without effect. -/
theorem arrived_dropped {ty : Nat} (hd : s.hub.power ≠ .up ∨ s.lctOk h = false ∨ look s.hub.sessions h.sess = none) :
    s.arrived h ty = (none, s) := by
  unfold State.arrived
  rcases hd with hd | hd | hd
  · simp [State.poweredUp, hd]
  · simp [hd]
  · rw [hd]; split_ifs <;> rfl

section Open
variable {x : Session} (hup : s.hub.power = .up) (hok : s.lctOk h = true) (hx : look s.hub.sessions h.sess = some x)
include hup hok hx

theorem arrived_open {ty : Nat} : s.arrived h ty =
    if !x.tagHolds h ty then (none, { s with hub := { s.hub with portErrors := s.hub.portErrors + 1 } })
    else if ty == 0x30 && h.sess != 0 then (none, s) else (some x, s) := by
  simp [State.arrived, State.poweredUp, hup, hok, hx]

end Open

theorem mgmt_of_dropped {t : State} {f : MgOp} (hd : s.arrived h 0x30 = (none, t)) : s.mgmt h code f = .next t := by
  simp [State.mgmt, State.takeFrame, hd]

theorem mgmt_of_early {x : Session} {f : MgOp} (hd : s.arrived h 0x30 = (some x, s)) (hseq : h.seq ≠ x.expect) : s.mgmt h code f = .next s := by
  simp [State.mgmt, State.takeFrame, hd, hseq]

theorem tagHolds_iff {x : Session} {ty : Nat} :
    x.tagHolds h ty = true ↔ h.tag.toNat = lctTag x.key (lctHead ty h.sess h.seq h.ack 0 h.bytes.length) h.bytes := by
  simp [Session.tagHolds]

/-- Every operation of `mgmtHdr` is one of the mould of R376. -/
theorem exec_of_mgmtHdr {i : Instr} (hi : mgmtHdr i = some h) : ∃ code f, ∀ s, exec i s = s.mgmt h code f := by
  unfold mgmtHdr at hi
  split at hi
  case h_24 => cases hi
  all_goals
    cases hi
    exact ⟨_, _, fun s => by unfold exec; rfl⟩

theorem framesRefused : Claim.FramesRefused := by
  intro i s h hi
  obtain ⟨code, f, hexec⟩ := exec_of_mgmtHdr hi
  simp only [hexec]
  refine ⟨fun hd => mgmt_of_dropped (arrived_dropped hd), fun x hup hok hx => ⟨fun htag => mgmt_of_dropped ?_, fun htag hbad => ?_⟩⟩
  · rw [arrived_open hup hok hx, if_pos]
    simpa [Session.tagHolds] using htag
  · have harr := arrived_open (ty := 0x30) hup hok hx
    rw [if_neg (by simpa [tagHolds_iff] using htag)] at harr
    by_cases hsess : h.sess = 0
    · rw [if_neg (by simp [hsess])] at harr
      exact mgmt_of_early harr (hbad.resolve_left (not_not_intro hsess))
    · rw [if_pos (by simp [hsess])] at harr
      exact mgmt_of_dropped harr

/-! ## A frame that is taken, and the reply (R373, R376) -/

/-- The state with an entry of the table of sessions replaced. -/
def setSess (t : State) (n : Nat) (y : Session) : State := { t with hub := { t.hub with sessions := put t.hub.sessions n y } }

/-- The state in which frames have left. -/
def sent (t : State) (fs : List Sent) : State := { t with out := t.out ++ fs }

/-- The state once the frame of session 0, whose entry is x, has been taken: the next frame is due. -/
def expecting (s : State) (x : Session) : State := setSess s 0 { x with expect := seqNext x.expect }

/-- The entry of a session once frame f of the device has its next number. -/
def numbered (y : Session) (f : Frame) : Session := { y with next := seqNext y.next, unacked := y.unacked ++ [(y.next, f)] }

section Reply
variable {t : State} {n k : Nat} {y : Session} {f : Frame}

theorem modSess_open {g : Session → Session} (hy : look t.hub.sessions n = some y) : t.modSess n g = setSess t n (g y) := by
  rw [State.modSess, hy]; rfl

theorem toPort_open (hp : t.hub.paused = 0#8) (hy : look t.hub.sessions n = some y) :
    t.toPort n k f = sent t [{ frame := f, hdr := some (lctHeader y n k f) }] := by
  rw [State.toPort, hp, if_neg (by simp), State.emit, hy]; rfl

theorem look_setSess : look (setSess t n y).hub.sessions n = some y := look_put_self

/-- A frame of the device leaves at once on a session with room. -/
theorem sendSess_open (hp : t.hub.paused = 0#8) (hy : look t.hub.sessions n = some y) (hroom : y.unacked.length < 256) :
    t.sendSess n f = sent (setSess t n (numbered y f))
      [{ frame := f, hdr := some (lctHeader y n y.next f) }] := by
  rw [State.sendSess, hy]
  dsimp only
  rw [if_pos (show _ < Config.outstandingFrames from hroom), modSess_open hy]
  have hport := toPort_open (t := setSess t n (numbered y f)) (k := y.next) (f := f) hp look_setSess
  exact hport

/-- A frame of the host is acknowledged at once when no frame of the device waits for room. -/
theorem tookEffect_open (hp : t.hub.paused = 0#8) (hy : look t.hub.sessions h.sess = some y) (hroom : y.unacked.length ≤ 256) (hnone : y.owed = []) :
    t.tookEffect h = sent (setSess t h.sess { y with acked := h.seq })
      [{ frame := .ack h.sess h.seq, hdr := some (lctHeader { y with acked := h.seq } h.sess 0 (.ack h.sess h.seq)) }] := by
  have hleft : y.hasLeft 0 = true := by
    simp [Session.hasLeft, List.drop_eq_nil_of_le (show y.unacked.length ≤ Config.outstandingFrames from hroom)]
  rw [State.tookEffect, hy]
  dsimp only
  rw [if_pos ⟨hnone, hleft⟩, State.acknowledge, modSess_open hy]
  exact toPort_open (t := setSess t h.sess _) hp look_setSess

/-- The entry of a session once frame f of the device and the acknowledgement of frame m of the host have left. -/
def replied (y : Session) (f : Frame) (m : Nat) : Session := { numbered y f with acked := m }

/-- The frames of a reply on session 0. -/
def replyFrames (y : Session) (f : Frame) (m : Nat) : List Sent :=
  [{ frame := f, hdr := some (lctHeader y 0 y.next f) }, { frame := .ack 0 m, hdr := some (lctHeader { y with acked := m } 0 0 (.ack 0 m)) }]

/-- The reply and the acknowledgement of a frame leave at once on a session with room. -/
theorem reply_open (hsess : h.sess = 0) (hp : t.hub.paused = 0#8) (hy : look t.hub.sessions 0 = some y) (hroom : y.unacked.length < 256)
    (hnone : y.owed = []) :
    (t.sendSess 0 f).tookEffect h =
      sent (setSess (setSess t 0 (numbered y f)) 0 (replied y f h.seq))
        (replyFrames y f h.seq) := by
  have htook := tookEffect_open (h := h) (y := numbered y f)
    (t := sent (setSess t 0 (numbered y f)) [{ frame := f, hdr := some (lctHeader y 0 y.next f) }]) hp (by rw [hsess]; exact look_setSess)
    (by simpa [numbered] using hroom) hnone
  rw [sendSess_open hp hy hroom, htook, hsess]
  simp [sent, setSess, replied, replyFrames, lctHeader, numbered]

end Reply

theorem takeFrame_taken {x : Session} (ht : Taken s h) (hx : look s.hub.sessions 0 = some x) :
    ∃ u, s.takeFrame h 0x30 = (some (expecting s x), u) := by
  obtain ⟨hsess, -, x', hup, hok, hx', htag, hseq, -, -, hack⟩ := ht
  rw [hsess, hx, Option.some.injEq] at hx'
  subst hx'
  have harr : s.arrived h 0x30 = (some x, s) := by
    rw [arrived_open hup hok (by rwa [hsess])]
    simp [htag, hsess]
  have hmod : s.modSess h.sess (fun x => { x with expect := seqNext x.expect }) = expecting s x := by rw [hsess]; exact modSess_open hx
  refine ⟨expecting s x, ?_⟩
  simp only [State.takeFrame, harr, hseq, ne_eq, not_true_eq_false, if_false, hmod]
  split_ifs with h0
  · rfl
  · have hnone := hack.resolve_left h0
    simp [State.ackUpTo, expecting, setSess, hsess, hnone]

theorem mgmt_taken {x : Session} {f : MgOp} (ht : Taken s h) (hx : look s.hub.sessions 0 = some x) :
    s.mgmt h code f = .next (((f (expecting s x)).2.2.sendSess 0 (.mgmt code (f (expecting s x)).1 (f (expecting s x)).2.1)).tookEffect h) := by
  obtain ⟨u, hu⟩ := takeFrame_taken ht hx
  simp only [State.mgmt, hu]

/-- An operation that does the same before and after its frame is taken, and leaves session 0 and the port alone, answers as `Manages` says. -/
theorem manages_of_mgmt {i : Instr} {u : State} {f : MgOp} (ht : Taken s h) (hexec : exec i s = s.mgmt h code f)
    (hf : ∀ x, look s.hub.sessions 0 = some x → ∃ u', f (expecting s x) = (st, pay, u') ∧
      u' = { u with hub := { u.hub with sessions := u'.hub.sessions } } ∧
      look u'.hub.sessions 0 = some { x with expect := seqNext x.expect } ∧ ∀ n, n ≠ 0 → look u'.hub.sessions n = look u.hub.sessions n)
    (hout : u.out = s.out) (hp : u.hub.paused = s.hub.paused) : Manages i s h code st pay u := by
  have ht' := ht
  obtain ⟨hsess, hpaused, x, -, -, hx, -, hseq, hroom, hnone, -⟩ := ht
  rw [hsess] at hx
  obtain ⟨u', hf', hu', hx', hn⟩ := hf x hx
  have hpu : u'.hub.paused = 0#8 := by rw [hu']; exact hp.trans hpaused
  have hout' : u'.out = s.out := by rw [hu']; exact hout
  rw [mgmt_taken ht' hx, hf', reply_open hsess hpu hx' hroom hnone] at hexec
  refine ⟨_, hexec, ⟨fun y hy => ?_, fun n hne => ?_⟩, ?_, fun y hy => ?_⟩
  · rw [hsess, hx, Option.some.injEq] at hy
    subst hy
    simp [sent, setSess, replied, numbered, hsess, hseq]
  · rw [hsess] at hne
    simp [sent, setSess, look_put_other (Ne.symm hne), hn n hne]
  · rw [hu']; rfl
  · rw [hx, Option.some.injEq] at hy
    subst hy
    simp [sent, setSess, hout', replyFrames, lctHeader]

/-- The same, of an operation whose state is u with session 0 as the frame left it. -/
theorem manages_of_eq {i : Instr} {u : State} {f : MgOp} (ht : Taken s h) (hexec : exec i s = s.mgmt h code f)
    (hf : ∀ x, f (expecting s x) = (st, pay, setSess u 0 { x with expect := seqNext x.expect })) (hout : u.out = s.out)
    (hp : u.hub.paused = s.hub.paused) : Manages i s h code st pay u :=
  manages_of_mgmt ht hexec (fun x _ => ⟨_, hf x, rfl, look_setSess, fun _ hn => look_put_other (Ne.symm hn)⟩) hout hp

/-- An operation that answers no more than a status. -/
theorem manages_status {i : Instr} {f : MgOp} (ht : Taken s h) (hexec : exec i s = s.mgmt h code f)
    (hf : ∀ x, f (expecting s x) = (st, [], expecting s x)) : Manages i s h code st [] s := manages_of_eq ht hexec hf rfl rfl

end Frames

end Sys2Proof.Proofs
end

section
/-!
PROOF. Windows and sessions open and close (R373, R374, for O35).
-/
namespace Sys2Proof.Proofs
open Sys2Proof Sys2Proof.Machine Sys2Proof.Claim Sys2Proof.Laws

/-! ## Windows and sessions (R373, R374) -/

section Windows
variable {s : State} {h : Hdr} {w k c base size : Nat} {rd wr : Bool}

/-- Session 0 takes the frames of management, so that a session that is not open is another. -/
theorem ne_zero_of_look_none (ht : Taken s h) (hk : look s.hub.sessions k = none) : k ≠ 0 := by
  rintro rfl
  obtain ⟨hsess, -, x, -, -, hx, -⟩ := ht
  rw [hsess, hk] at hx
  cases hx

theorem look_expecting {x : Session} (hk : k ≠ 0) : look (expecting s x).hub.sessions k = look s.hub.sessions k := look_put_other (Ne.symm hk)

theorem windowOpens (ht : Taken s h) :
    let i : Instr := .windowOpenClose h true w k c base size rd wr
    ((s.ctx? c = none ∨ look s.hub.sessions k = none) → Manages i s h 8 2 [] s) ∧
    (∀ x, (s.ctx? c).isSome → look s.hub.sessions k = some x →
      ((k ≠ 0 ∧ x.ctx ≠ c) ∨ (look s.hub.windows w).isSome ∨ size = 0 ∨ 2 ^ 57 < base + size → Manages i s h 8 1 [] s) ∧
      ((k = 0 ∨ x.ctx = c) → look s.hub.windows w = none → 0 < size → base + size ≤ 2 ^ 57 →
        Manages i s h 8 0 [] { s with hub := { s.hub with windows := put s.hub.windows w ⟨k, c, base, size, rd, wr⟩ } })) := by
  intro i
  have hexec : exec i s = s.mgmt h 8 _ := show execWindowOpenClose h true w k c base size rd wr s = _ from rfl
  have hlook {x y : Session} (hy : look s.hub.sessions k = some y) :
      ∃ z, look (expecting s x).hub.sessions k = some z ∧ (k ≠ 0 → z.ctx = y.ctx) := by
    simp only [expecting, setSess, look_put]
    split_ifs with h0
    · exact ⟨_, rfl, fun hk => absurd h0.symm hk⟩
    · exact ⟨y, hy, fun _ => rfl⟩
  refine ⟨fun hnone => ?_, fun y hc hy => ⟨fun hbad => ?_, fun hown hw hsize hend => ?_⟩⟩
  · refine manages_status ht hexec fun x => ?_
    rcases hnone with hc | hk
    · simp [show (expecting s x).ctx? c = none from hc, noObject, mgNone]
    · have hk' : look (expecting s x).hub.sessions k = none := by
        rw [look_expecting (ne_zero_of_look_none ht hk), hk]
      simp [hk', noObject, mgNone]
  · refine manages_status ht hexec fun x => ?_
    obtain ⟨z, hz, hctx⟩ := hlook (x := x) hy
    obtain ⟨r, hr⟩ := Option.isSome_iff_exists.mp hc
    have hr' : (expecting s x).ctx? c = some r := hr
    have hbad' : (k ≠ 0 ∧ z.ctx ≠ c) ∨ (look (expecting s x).hub.windows w).isSome ∨ size = 0 ∨ 2 ^ 57 < base + size :=
      hbad.imp_left fun ⟨h0, hne⟩ => ⟨h0, hctx h0 ▸ hne⟩
    simp only [if_true, hr', hz]
    rw [if_pos (by simpa [or_assoc] using hbad')]
    rfl
  · refine manages_of_eq ht hexec (fun x => ?_) rfl rfl
    obtain ⟨z, hz, hctx⟩ := hlook (x := x) hy
    obtain ⟨r, hr⟩ := Option.isSome_iff_exists.mp hc
    have hr' : (expecting s x).ctx? c = some r := hr
    have hgood : ¬ ((k ≠ 0 ∧ z.ctx ≠ c) ∨ (look (expecting s x).hub.windows w).isSome ∨ size = 0 ∨ 2 ^ 57 < base + size) := by
      rintro (⟨h0, hne⟩ | hw' | hz | hlt)
      · exact hne (hctx h0 ▸ hown.resolve_left h0)
      · simp [show look (expecting s x).hub.windows w = none from hw] at hw'
      · omega
      · omega
    simp only [if_true, hr', hz]
    rw [if_neg (by simpa [or_assoc] using hgood)]
    rfl

theorem windowCloses (ht : Taken s h) :
    let i : Instr := .windowOpenClose h false w k c base size rd wr
    (look s.hub.windows w = none → Manages i s h 8 2 [] s) ∧
    ((look s.hub.windows w).isSome → Manages i s h 8 0 [] { s with hub := { s.hub with windows := del s.hub.windows w } }) := by
  intro i
  have hexec : exec i s = s.mgmt h 8 _ := show execWindowOpenClose h false w k c base size rd wr s = _ from rfl
  refine ⟨fun hw => manages_status ht hexec fun x => ?_, fun hw => manages_of_eq ht hexec (fun x => ?_) rfl rfl⟩
  · have hw' : look (expecting s x).hub.windows w = none := hw
    simp [hw', noObject, mgNone]
  · have hw' : (look (expecting s x).hub.windows w).isNone = false := by simpa [expecting, setSess] using hw
    simp only [Bool.false_eq_true, if_false, hw']
    rfl

theorem sessionRefused {o : Bool} {key : BitVec 256} (ht : Taken s h) (hk : k = 0 ∨ 256 ≤ k) :
    Manages (.sessionOpenClose h o k c key) s h 9 1 [] s := by
  have hexec : exec (.sessionOpenClose h o k c key) s = s.mgmt h 9 _ := show execSessionOpenClose h o k c key s = _ from rfl
  refine manages_status ht hexec fun x => ?_
  rw [if_pos (show k = 0 ∨ Config.sessions ≤ k from hk)]
  rfl

section InRange
variable {key : BitVec 256} (ht : Taken s h) (h0 : k ≠ 0) (h256 : k < 256)
include ht h0 h256

theorem sessionOpens :
    let i : Instr := .sessionOpenClose h true k c key
    (s.ctx? c = none → Manages i s h 9 2 [] s) ∧
    ((s.ctx? c).isSome → (look s.hub.sessions k).isSome → Manages i s h 9 1 [] s) ∧
    ((s.ctx? c).isSome → look s.hub.sessions k = none →
      Manages i s h 9 0 [] { s with hub := { s.hub with sessions := put s.hub.sessions k { ctx := c, key := key } } }) := by
  intro i
  have hexec : exec i s = s.mgmt h 9 _ := show execSessionOpenClose h true k c key s = _ from rfl
  have hin : ¬ (k = 0 ∨ Config.sessions ≤ k) := not_or.mpr ⟨h0, Nat.not_le.mpr h256⟩
  refine ⟨fun hc => manages_status ht hexec fun x => ?_, fun hc hk => manages_status ht hexec fun x => ?_, fun hc hk => ?_⟩
  · have hc' : (expecting s x).ctx? c = none := hc
    simp only [if_neg hin, if_true, hc']
    rfl
  · obtain ⟨r, hr⟩ := Option.isSome_iff_exists.mp hc
    obtain ⟨y, hy⟩ := Option.isSome_iff_exists.mp hk
    have hr' : (expecting s x).ctx? c = some r := hr
    have hy' := (look_expecting (x := x) h0).trans hy
    simp only [if_neg hin, if_true, hr', hy']
    rfl
  · obtain ⟨r, hr⟩ := Option.isSome_iff_exists.mp hc
    refine manages_of_mgmt ht hexec (fun x hx => ?_) rfl rfl
    have hr' : (expecting s x).ctx? c = some r := hr
    have hk' := (look_expecting (x := x) h0).trans hk
    refine ⟨setSess (expecting s x) k { ctx := c, key := key }, ?_, rfl, ?_, fun n hn => ?_⟩
    · simp only [if_neg hin, if_true, hr', hk']
      rfl
    · exact (look_put_other h0).trans look_setSess
    · simp only [expecting, setSess, look_put, if_neg (Ne.symm hn)]

theorem sessionCloses :
    let i : Instr := .sessionOpenClose h false k c key
    (look s.hub.sessions k = none → Manages i s h 9 2 [] s) ∧
    (∀ x, look s.hub.sessions k = some x → s.activeCut x.ctx = none → Manages i s h 9 0 [] { s with hub := { s.hub with
      sessions := del s.hub.sessions k, windows := s.hub.windows.filter (fun w => w.2.sess != k) } }) := by
  intro i
  have hexec : exec i s = s.mgmt h 9 _ := show execSessionOpenClose h false k c key s = _ from rfl
  have hin : ¬ (k = 0 ∨ Config.sessions ≤ k) := not_or.mpr ⟨h0, Nat.not_le.mpr h256⟩
  refine ⟨fun hk => manages_status ht hexec fun x => ?_, fun y hy hcut => manages_of_mgmt ht hexec (fun x hx => ?_) rfl rfl⟩
  · have hk' := (look_expecting (x := x) h0).trans hk
    simp only [if_neg hin, Bool.false_eq_true, if_false, hk']
    rfl
  · have hy' := (look_expecting (x := x) h0).trans hy
    have hcut' : (expecting s x).activeCut y.ctx = none := hcut
    refine ⟨{ expecting s x with hub := { (expecting s x).hub with
      sessions := del (expecting s x).hub.sessions k, windows := s.hub.windows.filter (fun w => w.2.sess != k) } }, ?_, rfl, ?_, fun n hn => ?_⟩
    · simp only [if_neg hin, Bool.false_eq_true, if_false, hy', State.closeSession, hcut']
      rfl
    · simp [look_del, h0, expecting, setSess]
    · simp [look_del, look_put, expecting, setSess, Ne.symm hn]

end InRange

theorem windowsAndSessions : Claim.WindowsAndSessions :=
  ⟨fun _ _ _ _ _ _ _ _ _ ht => windowOpens ht, fun _ _ _ _ _ _ _ _ _ ht => windowCloses ht, fun _ _ _ _ _ _ ht =>
    ⟨sessionRefused ht, fun h0 h256 ho => by subst ho; exact sessionOpens ht h0 h256,
     fun h0 h256 ho => by subst ho; exact sessionCloses ht h0 h256⟩⟩

end Windows

end Sys2Proof.Proofs
end

section
/-!
PROOF. Contexts are created, and queues are bound and unbound (R14, R222, R279, for O35).
-/
namespace Sys2Proof.Proofs
open Sys2Proof Sys2Proof.Machine Sys2Proof.Claim Sys2Proof.Laws

/-! ## Contexts and queues (R14, R222, R279) -/

section Contexts
variable {s : State} {h : Hdr} {c q cls : Nat}

/-- A queue is busy while a launch of it is not done (R222). -/
theorem queueBusy_iff : s.queueBusy q = true ↔ ∃ e ∈ s.launches, e.2.queue = q ∧ e.2.state ≠ .done := by
  simp [State.queueBusy]

theorem queueBusy_expecting {x : Session} : (expecting s x).queueBusy q = s.queueBusy q := rfl

theorem not_queueBusy (hdone : ∀ e ∈ s.launches, e.2.queue = q → e.2.state = .done) : s.queueBusy q = false := by
  rw [Bool.eq_false_iff, Ne, queueBusy_iff]
  rintro ⟨e, he, hq, hs⟩
  exact hs (hdone e he hq)

theorem queueBinds (ht : Taken s h) :
    (8192 ≤ q ∨ s.ctx? c = none → Manages (.queueBind h q c cls) s h 3 2 [] s) ∧
    (q < 8192 → (s.ctx? c).isSome → 3 < cls ∨ (∃ e ∈ s.launches, e.2.queue = q ∧ e.2.state ≠ .done) →
      Manages (.queueBind h q c cls) s h 3 1 [] s) ∧
    (q < 8192 → (s.ctx? c).isSome → cls ≤ 3 → (∀ e ∈ s.launches, e.2.queue = q → e.2.state = .done) →
      Manages (.queueBind h q c cls) s h 3 0 [] { s with
        launches := s.launches.map (fun e => if e.2.queue = q then (e.1, { e.2 with queue := 8192 }) else e)
        queues := put s.queues q { ctx := c, cls := cls, next := 1, items := [] } }) := by
  have hexec : exec (.queueBind h q c cls) s = s.mgmt h 3 _ := show execQueueBind h q c cls s = _ from rfl
  have hhere (hq : q < 8192) (hc : (s.ctx? c).isSome) : ¬ (Config.queues ≤ q ∨ (s.ctx? c).isNone) := by
    obtain ⟨r, hr⟩ := Option.isSome_iff_exists.mp hc
    rw [hr]
    simpa [Config.queues] using hq
  refine ⟨fun hbad => manages_status ht hexec fun x => ?_, fun hq hc hbad => manages_status ht hexec fun x => ?_,
    fun hq hc hcls hdone => manages_of_eq ht hexec (fun x => ?_) rfl rfl⟩
  · have hbad' : Config.queues ≤ q ∨ (s.ctx? c).isNone := hbad.imp_right Option.isNone_iff_eq_none.mpr
    exact (if_pos hbad').trans rfl
  · have hbad' : 3 < cls ∨ s.queueBusy q = true := hbad.imp_right queueBusy_iff.mpr
    exact (if_neg (hhere hq hc)).trans ((if_pos hbad').trans rfl)
  · have hgood : ¬ (3 < cls ∨ s.queueBusy q = true) := by
      rw [not_queueBusy hdone]
      simpa using hcls
    exact (if_neg (hhere hq hc)).trans ((if_neg hgood).trans rfl)

theorem queueUnbinds (ht : Taken s h) :
    (look s.queues q = none → Manages (.queueUnbind h q) s h 3 2 [] s) ∧
    ((look s.queues q).isSome → (∃ e ∈ s.launches, e.2.queue = q ∧ e.2.state ≠ .done) → Manages (.queueUnbind h q) s h 3 1 [] s) ∧
    ((look s.queues q).isSome → (∀ e ∈ s.launches, e.2.queue = q → e.2.state = .done) →
      Manages (.queueUnbind h q) s h 3 0 [] { s with
        launches := s.launches.map (fun e => if e.2.queue = q then (e.1, { e.2 with queue := 8192 }) else e), queues := del s.queues q }) := by
  have hexec : exec (.queueUnbind h q) s = s.mgmt h 3 _ := show execQueueUnbind h q s = _ from rfl
  refine ⟨fun hq => manages_status ht hexec fun x => ?_, fun hq hbusy => manages_status ht hexec fun x => ?_,
    fun hq hdone => manages_of_eq ht hexec (fun x => ?_) rfl rfl⟩
  · have hq' : look (expecting s x).queues q = none := hq
    simp only [hq']
    rfl
  · obtain ⟨y, hy⟩ := Option.isSome_iff_exists.mp hq
    have hy' : look (expecting s x).queues q = some y := hy
    simp only [hy', queueBusy_expecting, queueBusy_iff.mpr hbusy]
    rfl
  · obtain ⟨y, hy⟩ := Option.isSome_iff_exists.mp hq
    have hy' : look (expecting s x).queues q = some y := hy
    simp only [hy', queueBusy_expecting, not_queueBusy hdone]
    rfl

theorem put_put {κ α : Type} [DecidableEq κ] {t : List (κ × α)} {k : κ} {v w : α} : put (put t k v) k w = put t k w := by
  induction t with
  | nil => simp [put]
  | cons e r ih =>
    obtain ⟨a, b⟩ := e
    by_cases ha : a = k
    · simp [put, ha]
    · simp [put, ha, ih]

/-- A change of the context that a creation makes is a change of what it makes. -/
theorem modCtx_newContext {n quota root : Nat} {priv : Bool} {f : Ctx → Ctx} : (s.newContext c n quota priv root).modCtx c f =
    { s.newContext c n quota priv root with
      ctxs := put s.ctxs c (f { n := n, quota := quota, backing := n * 2 ^ 20, set := { priv := priv, tsel := c }, trans := { root := root } }) } := by
  simp [State.modCtx, State.newContext, put_put]

theorem contextCreates {n quota root : Nat} {priv : Bool} {v : Option (BitVec 512)} (ht : Taken s h) :
    let r := v.getD s.defaultVc0
    let bad := (s.ctx? c).isSome ∨ 1024 ≤ c ∨ n = 0 ∨ s.coresPresent < n ∨ s.vcRefused r .undefined = true
    (bad → Manages (.contextCreate h c n quota priv root v) s h 1 1 [] s) ∧
    (¬ bad → (s.newContext c n quota priv root).grantShares c r 0 (vcShares r) = none → Manages (.contextCreate h c n quota priv root v) s h 1 1 [] s) ∧
    (∀ sh, ¬ bad → (s.newContext c n quota priv root).grantShares c r 0 (vcShares r) = some sh →
      Manages (.contextCreate h c n quota priv root v) s h 1 0 [] { s with
        ctxs := put s.ctxs c { n := n, quota := quota, backing := n * 2 ^ 20, set := { priv := priv, tsel := c }, trans := { root := root }
                               vcs := [(0, { state := .stable, recd := r, shares := sh })] }
        cores := s.cores ++ (List.range n).map (fun k => (⟨c, k⟩, { run := .unplaced })) }) := by
  intro r bad
  have hexec : exec (.contextCreate h c n quota priv root v) s = s.mgmt h 1 _ := show execContextCreate h c n quota priv root v s = _ from rfl
  have hbad : ((s.ctx? c).isSome || decide (Config.maxContexts ≤ c) || n == 0 || decide (s.coresPresent < n) || s.vcRefused r .undefined) = true ↔
      bad := by
    simp only [Bool.or_eq_true, decide_eq_true_eq, beq_iff_eq, or_assoc]
    rfl
  have hgrant (x : Session) : ((expecting s x).newContext c n quota priv root).grantShares c (v.getD (expecting s x).defaultVc0) 0
      (vcShares (v.getD (expecting s x).defaultVc0)) = (s.newContext c n quota priv root).grantShares c r 0 (vcShares r) := rfl
  refine ⟨fun hb => manages_status ht hexec fun x => ?_, fun hb hg => manages_status ht hexec fun x => ?_,
    fun sh hb hg => manages_of_eq ht hexec (fun x => ?_) rfl rfl⟩
  · exact (if_pos (hbad.mpr hb)).trans rfl
  · refine (if_neg (hbad.not.mpr hb)).trans ?_
    dsimp only
    rw [hgrant x, hg]
    rfl
  · refine (if_neg (hbad.not.mpr hb)).trans ?_
    dsimp only
    rw [hgrant x, hg]
    simp only [done, mgDone, State.modVc, modCtx_newContext]
    rfl

end Contexts

end Sys2Proof.Proofs
end

section
/-!
PROOF. A context leaves the device, and the management of contexts, queues, windows and sessions is as stated (O35).
-/
namespace Sys2Proof.Proofs
open Sys2Proof Sys2Proof.Machine Sys2Proof.Claim Sys2Proof.Laws

/-! ## Tables -/

section Tables
variable {κ α β : Type} [DecidableEq κ] {t : List (κ × α)} {k : κ}

theorem look_filter_key {p : κ → Bool} : look (t.filter (fun e => p e.1)) k = if p k then look t k else none := by
  induction t with
  | nil => simp [look]
  | cons e r ih =>
    obtain ⟨a, v⟩ := e
    by_cases hp : p a <;> by_cases ha : a = k
    · subst ha; simp [look, hp]
    · simp [look, hp, ha, ih]
    · subst ha; simp [hp, ih]
    · simp [look, hp, ha, ih]

/-- A filter that lets every entry of a key pass. -/
theorem look_filter_pass {p : κ × α → Bool} (h : ∀ v, p (k, v) = true) : look (t.filter p) k = look t k := by
  induction t with
  | nil => rfl
  | cons e r ih =>
    obtain ⟨a, v⟩ := e
    by_cases ha : a = k
    · subst ha; simp [look, h v]
    · by_cases hp : p (a, v) <;> simp [look, hp, ha, ih]

/-- A map that keeps every key. -/
theorem look_map_keep {g : κ × α → κ × β} (hg : ∀ e, (g e).1 = e.1) : look (t.map g) k = (look t k).map (fun v => (g (k, v)).2) := by
  induction t with
  | nil => rfl
  | cons e r ih =>
    obtain ⟨a, v⟩ := e
    by_cases ha : a = k
    · subst ha; simp [look, hg]
    · simp [look, hg, ha, ih]

end Tables

/-! ## What frames change -/

section Sending
variable {s t u : State}

/-- Beside the sessions, and the frames that have left or wait at the port, nothing has changed. -/
def OnlyFrames (s t : State) : Prop :=
  ∃ o ss pq, t = { s with out := o, hub := { s.hub with sessions := ss, portQueue := pq } }

theorem OnlyFrames.refl : OnlyFrames s s := ⟨_, _, _, rfl⟩
theorem OnlyFrames.trans (h : OnlyFrames s t) (k : OnlyFrames t u) : OnlyFrames s u := by
  obtain ⟨o, ss, pq, rfl⟩ := h
  obtain ⟨o', ss', pq', rfl⟩ := k
  exact ⟨o', ss', pq', rfl⟩

theorem onlyFrames_modSess {n : Nat} {f : Session → Session} : OnlyFrames s (s.modSess n f) := by
  unfold State.modSess
  split
  · exact .refl
  · exact ⟨_, _, _, rfl⟩

theorem onlyFrames_toPort {n k : Nat} {f : Frame} : OnlyFrames s (s.toPort n k f) := by
  unfold State.toPort State.emit
  split
  · exact ⟨_, _, _, rfl⟩
  · split
    · exact .refl
    · exact ⟨_, _, _, rfl⟩

theorem onlyFrames_sendSess {n : Nat} {f : Frame} : OnlyFrames s (s.sendSess n f) := by
  unfold State.sendSess
  split
  · exact .refl
  · dsimp only
    split
    · exact onlyFrames_modSess.trans onlyFrames_toPort
    · exact onlyFrames_modSess

theorem onlyFrames_tookEffect {h : Hdr} {n : Nat} : OnlyFrames s (s.tookEffect h n) := by
  unfold State.tookEffect
  split
  · exact .refl
  · split
    · exact onlyFrames_modSess.trans onlyFrames_toPort
    · exact onlyFrames_modSess

/-- The reply to a frame leaves the rest of the state alone. -/
theorem onlyFrames_reply {h : Hdr} {f : Frame} : OnlyFrames s ((s.sendSess 0 f).tookEffect h) := onlyFrames_sendSess.trans onlyFrames_tookEffect

end Sending

/-! ## Changes of virtual caches that have nothing to do (R284) -/

section Retake
variable {s : State}

theorem foldl_eq_self {β : Type} {l : List β} {f : State → β → State} (h : ∀ b ∈ l, f s b = s) : l.foldl f s = s :=
  List.foldlRecOn (motive := fun t => t = s) l f rfl fun t ht b hb => by rw [ht]; exact h b hb

theorem foldl_add_le {β : Type} {l : List β} {f g : β → Nat} (h : ∀ b, f b ≤ g b) {k : Nat} :
    l.foldl (fun t b => t + f b) k ≤ k + (l.map g).sum := by
  induction l generalizing k with
  | nil => simp
  | cons b r ih =>
    have := ih (k := k + f b)
    have := h b
    simp only [List.foldl_cons, List.map_cons, List.sum_cons]
    omega

/-- Within its quota a context keeps its shares. -/
theorem cutShares_within {c : Nat} (h : (s.ctx c).heldShares ≤ (s.ctx c).quota) : s.cutShares c = s := by
  refine foldl_eq_self fun n _ => ?_
  dsimp only
  refine if_pos (.inr ((foldl_add_le (g := fun v => v.2.held) fun v => ?_).trans (by simpa [Ctx.heldShares] using h)))
  simp only [VCache.held]
  split <;> omega

theorem retakeChanges_of_noRetake (h : NoRetake s) : s.retakeChanges = s := by
  refine foldl_eq_self fun e _ => ?_
  rw [foldl_eq_self fun v _ => ?_]
  · exact cutShares_within (h e.1).2
  · obtain ⟨hnone, hkept⟩ := (h e.1).1 v.1
    dsimp only
    rw [hnone]
    split
    · rfl
    · have hany : (s.vcOf e.1 v.1).shares.any s.shareLost = false := by simpa using hkept
      simp [hany]

end Retake

/-! ## The launches of a context that leaves (R376) -/

section Ending
variable {s t : State} {c u : Nat} {e : Nat × Launch}

/-- A launch of a context that leaves, completed with code 0x09. -/
def ended (l : Launch) : Launch := { l with state := .done, code := 9, live := 0, units := [], edges := [], groups := [] }

/-- What `endLaunches` does with one entry of the table of launches. -/
def endLaunch (c : Nat) (s : State) (e : Nat × Launch) : State :=
  if e.2.ctx ≠ c ∨ e.2.state = .done then s else
  let t : State := { s with launches := put s.launches e.1 (ended e.2) }
  t.sendSess e.2.sess (.compl e.2.sess e.2.queue e.2.seq 9 (t.freeDepth e.2.queue))

theorem endLaunches_eq : s.endLaunches c = s.launches.foldl (endLaunch c) s := rfl

theorem endLaunch_kept (h : e.2.ctx ≠ c ∨ e.2.state = .done) : endLaunch c s e = s := if_pos h

theorem mem_endLaunch : (endLaunch c s e).mem = s.mem := by
  unfold endLaunch
  split_ifs
  · rfl
  · obtain ⟨o, ss, pq, hsent⟩ := onlyFrames_sendSess (s := { s with launches := put s.launches e.1 (ended e.2) })
      (n := e.2.sess) (f := .compl e.2.sess e.2.queue e.2.seq 9 (State.freeDepth { s with launches := put s.launches e.1 (ended e.2) } e.2.queue))
    dsimp only
    rw [hsent]

theorem launches_endLaunch (h : ¬ (e.2.ctx ≠ c ∨ e.2.state = .done)) : (endLaunch c s e).launches = put s.launches e.1 (ended e.2) := by
  obtain ⟨o, ss, pq, hsent⟩ := onlyFrames_sendSess (s := { s with launches := put s.launches e.1 (ended e.2) })
    (n := e.2.sess) (f := .compl e.2.sess e.2.queue e.2.seq 9 (State.freeDepth { s with launches := put s.launches e.1 (ended e.2) } e.2.queue))
  rw [endLaunch, if_neg h]
  dsimp only
  rw [hsent]

theorem mem_endLaunches : (s.endLaunches c).mem = s.mem :=
  List.foldlRecOn (motive := fun t : State => t.mem = s.mem) _ (endLaunch c) rfl fun _ ht _ _ => mem_endLaunch.trans ht

/-- Where every launch of the context is done, none ends. -/
theorem endLaunches_done (h : ∀ e ∈ s.launches, e.2.ctx = c → e.2.state = .done) : s.endLaunches c = s :=
  foldl_eq_self (f := endLaunch c) fun e he => endLaunch_kept (by by_cases hc : e.2.ctx = c <;> simp [hc, h e he])

theorem look_endLaunch_other (h : e.1 ≠ u) : look (endLaunch c s e).launches u = look s.launches u := by
  by_cases hk : e.2.ctx ≠ c ∨ e.2.state = .done
  · rw [endLaunch_kept hk]
  · rw [launches_endLaunch hk, look_put_other h]

/-- Entries of other launches leave a launch as it is. -/
theorem look_endLaunch_foldl_other {l : List (Nat × Launch)} (h : ∀ e ∈ l, e.1 ≠ u) :
    look (l.foldl (endLaunch c) s).launches u = look s.launches u :=
  List.foldlRecOn (motive := fun t : State => look t.launches u = look s.launches u) _ _ rfl
    fun _ ht e he => (look_endLaunch_other (h e he)).trans ht

/-- With one entry for each launch, the entry of launch u alone says what becomes of it. -/
theorem look_endLaunch_foldl {l : List (Nat × Launch)} (hnd : (l.map (·.1)).Nodup) {x : Launch} (hx : look l u = some x)
    (hs : look s.launches u = some x) :
    look (l.foldl (endLaunch c) s).launches u = some (if x.ctx = c ∧ x.state ≠ .done then ended x else x) := by
  induction l generalizing s with
  | nil => cases hx
  | cons e r ih =>
    obtain ⟨k, v⟩ := e
    obtain ⟨hk, hr⟩ := List.nodup_cons.mp hnd
    by_cases hu : k = u
    · subst hu
      obtain rfl : v = x := by simpa [look] using hx
      have hother : ∀ e ∈ r, e.1 ≠ k := fun e he hek => hk (List.mem_map.mpr ⟨e, he, hek⟩)
      rw [List.foldl_cons, look_endLaunch_foldl_other hother]
      by_cases hend : v.ctx = c ∧ v.state ≠ .done
      · rw [launches_endLaunch (by simpa using hend), look_put_self, if_pos hend]
      · rw [endLaunch_kept (by simpa [imp_iff_not_or] using hend), if_neg hend, hs]
    · have hx' : look r u = some x := by simpa [look, hu] using hx
      exact ih hr hx' ((look_endLaunch_other hu).trans hs)

end Ending

/-! ## A context leaves (R376) -/

/-- What remains of state s without context c, of the parts that outlive it. -/
structure Without (s t : State) (c : Nat) : Prop where
  ctxs : t.ctxs = del s.ctxs c
  threads : t.threads = s.threads.filter (fun e => e.1.ctx != c)
  square : ∀ q, (t.square q).sqm = (s.square q).sqm
  mem : t.mem = s.mem
  launches : t.launches = s.launches
  out : t.out = s.out
  paused : t.hub.paused = s.hub.paused
  ras : t.hub.ras = s.hub.ras
  session : look t.hub.sessions 0 = look s.hub.sessions 0

section Leaving
variable {s t : State} {c : Nat}

/-- Units that wait for room post actions and change nothing else. -/
theorem wakeUnits_eq : ∃ a, s.wakeUnits = { s with agenda := a } :=
  List.foldlRecOn (motive := fun t : State => ∃ a, t = { s with agenda := a }) _ _ ⟨_, rfl⟩ fun t ht e _ => by
    obtain ⟨a, rfl⟩ := ht
    dsimp only
    split_ifs
    · exact ⟨_, rfl⟩
    · exact ⟨_, rfl⟩

/-- Squares whose other parts change keep their memory. -/
theorem sqm_look_map {l : Tbl Nat Square} {g : Nat × Square → Nat × Square} {q : Nat} (hg : ∀ e, (g e).1 = e.1) (hsqm : ∀ e, (g e).2.sqm = e.2.sqm) :
    ((look (l.map g) q).getD {}).sqm = ((look l q).getD {}).sqm := by
  rw [look_map_keep hg]
  cases look l q with
  | none => rfl
  | some x => exact hsqm (q, x)

theorem Without.wakeUnits (w : Without s t c) : Without s t.wakeUnits c := by
  obtain ⟨a, ha⟩ := wakeUnits_eq (s := t)
  rw [ha]
  exact { w with }

theorem dropContext_without : ∃ t, Without (s.endLaunches c) t c ∧ s.dropContext c = t.retakeChanges := by
  refine ⟨_, Without.wakeUnits ?_, rfl⟩
  refine ⟨rfl, rfl, fun q => ?_, rfl, rfl, rfl, rfl, rfl, look_filter_pass fun v => rfl⟩
  exact sqm_look_map (fun _ => by rfl) (fun _ => by rfl)

theorem Without.ctx?_self (w : Without s t c) : t.ctx? c = none := by simp [State.ctx?, w.ctxs, look_del]
theorem Without.ctx?_other (w : Without s t c) {d : Nat} (hd : d ≠ c) : t.ctx? d = s.ctx? d := by
  simp [State.ctx?, w.ctxs, look_del, hd.symm]

theorem Without.look_threads (w : Without s t c) (p : Place) : look t.threads p = if p.ctx = c then none else look s.threads p := by
  rw [w.threads, look_filter_key (p := fun q : Place => q.ctx != c)]
  by_cases hp : p.ctx = c <;> simp [hp]

/-- A context that leaves gives the others nothing to take up. -/
theorem Without.noRetake (w : Without s t c) (h : NoRetake s) : NoRetake t := fun d => by
  by_cases hd : d = c
  · subst hd
    have hctx : t.ctx d = {} := by rw [State.ctx, ← State.ctx?, w.ctx?_self]; rfl
    refine ⟨fun n => ?_, ?_⟩
    · have hvc : t.vcOf d n = {} := by rw [State.vcOf, hctx]; rfl
      rw [hvc]
      exact ⟨rfl, fun _ hn => absurd hn List.not_mem_nil⟩
    · rw [hctx]
      exact Nat.zero_le _
  · have hctx : t.ctx d = s.ctx d := by rw [State.ctx, ← State.ctx?, w.ctx?_other hd]; rfl
    have hlost : t.shareLost = s.shareLost := by funext n; rw [State.shareLost, w.ras]; rfl
    simpa only [State.vcOf, hctx, hlost] using h d

/-- Changes of virtual caches leave memory and the launches alone. -/
theorem retakeChanges_mem_launches : s.retakeChanges.mem = s.mem ∧ s.retakeChanges.launches = s.launches :=
  KeptByChanges.retakeChanges (P := fun t => t.mem = s.mem ∧ t.launches = s.launches)
    ⟨fun t c f ht => by unfold State.modCtx; split <;> exact ht, fun _ _ ht => ht⟩ ⟨rfl, rfl⟩

variable {h : Hdr}

theorem exec_contextDestroy {x : Session} (ht : Taken s h) (hx : look s.hub.sessions 0 = some x) (hc : (s.ctx? c).isSome) :
    exec (.contextDestroy h c) s = .next ((((expecting s x).dropContext c).sendSess 0 (.mgmt 2 0 [])).tookEffect h) := by
  have hexec : exec (.contextDestroy h c) s = s.mgmt h 2 _ := show execContextDestroy h c s = _ from rfl
  obtain ⟨r, hr⟩ := Option.isSome_iff_exists.mp hc
  have hr' : (expecting s x).ctx? c = some r := hr
  rw [hexec, mgmt_taken ht hx]
  simp only [hr']
  rfl

theorem destroy_absent (ht : Taken s h) (hc : s.ctx? c = none) : Manages (.contextDestroy h c) s h 2 2 [] s :=
  manages_status ht (show execContextDestroy h c s = _ from rfl) fun x => by
    have hc' : (expecting s x).ctx? c = none := hc
    simp only [hc']
    rfl

/-- A context none of whose launches is under way leaves without a trace. -/
theorem destroy_quiet (ht : Taken s h) (hc : (s.ctx? c).isSome) (hdone : ∀ e ∈ s.launches, e.2.ctx = c → e.2.state = .done) (hno : NoRetake s) :
    ∃ t : State, exec (.contextDestroy h c) s = .next t ∧ t.ctx? c = none ∧
      (∀ c', c' ≠ c → t.ctx? c' = s.ctx? c') ∧ (∀ p, look t.threads p = if p.ctx = c then none else look s.threads p) ∧ t.mem = s.mem ∧
      t.launches = s.launches ∧ (∀ q, (t.square q).sqm = (s.square q).sqm) ∧ Sends s t [.mgmt 2 0 [], .ack 0 h.seq] := by
  have ht' := ht
  obtain ⟨hsess, hpaused, x, -, -, hx, -, -, hroom, hnone, -⟩ := ht
  rw [hsess] at hx
  obtain ⟨u, w, hdrop⟩ := dropContext_without (s := expecting s x) (c := c)
  rw [endLaunches_done (s := expecting s x) hdone] at w
  rw [retakeChanges_of_noRetake (w.noRetake hno)] at hdrop
  have hy := w.session.trans look_setSess
  refine ⟨_, exec_contextDestroy ht' hx hc, ?_⟩
  rw [hdrop, reply_open hsess (w.paused.trans hpaused) hy hroom hnone]
  exact ⟨w.ctx?_self, fun c' hne => w.ctx?_other hne, w.look_threads, w.mem, w.launches, w.square,
    _, congrArg (· ++ _) w.out, rfl⟩

/-- The launches of a context that leaves complete with code 0x09, the others stay. -/
theorem destroy_launches (ht : Taken s h) (hc : (s.ctx? c).isSome) (hnd : (s.launches.map (·.1)).Nodup) :
    ∃ t : State, exec (.contextDestroy h c) s = .next t ∧ t.ctx? c = none ∧ t.mem = s.mem ∧ ∀ u l,
      look s.launches u = some l → look t.launches u = some (if l.ctx = c ∧ l.state ≠ .done then ended l else l) := by
  have ht' := ht
  obtain ⟨hsess, -, x, -, -, hx, -⟩ := ht
  rw [hsess] at hx
  obtain ⟨u, w, hdrop⟩ := dropContext_without (s := expecting s x) (c := c)
  obtain ⟨hmem, hlaunches⟩ := retakeChanges_mem_launches (s := u)
  obtain ⟨o, ss, pq, hreply⟩ := onlyFrames_reply (s := (expecting s x).dropContext c) (h := h) (f := .mgmt 2 0 [])
  refine ⟨_, exec_contextDestroy ht' hx hc, ?_⟩
  rw [hreply]
  refine ⟨look_ctxs_dropContext _ c c (.inl rfl), ?_, fun n l hl => ?_⟩
  · show ((expecting s x).dropContext c).mem = s.mem
    rw [hdrop, hmem, w.mem, mem_endLaunches]
    rfl
  · show look ((expecting s x).dropContext c).launches n = _
    rw [hdrop, hlaunches, w.launches, endLaunches_eq]
    exact look_endLaunch_foldl hnd hl hl

end Leaving

theorem contextsAndQueues : Claim.ContextsAndQueues :=
  ⟨fun _ _ _ _ _ _ _ _ ht => contextCreates ht,
   fun _ _ _ ht => ⟨destroy_absent ht, destroy_quiet ht, destroy_launches ht⟩,
   fun _ _ _ _ _ ht => queueBinds ht, fun _ _ _ ht => queueUnbinds ht⟩

/-- Settles O35: a frame is refused before its effect, or taken on session 0 with its effect, its reply and its acknowledgement. -/
theorem contextManagement : Obligations.ContextManagement := ⟨framesRefused, contextsAndQueues, windowsAndSessions⟩

end Sys2Proof.Proofs
end

section
/-!
PROOF. O5 and O6 fail for the reason for which O4, O12 and O17 do: no instruction writes a g register that the line's record `gLast` has as
written by a later step (R23), and the statements allow `stampedAhead`, where that record is ahead of the count of steps.
-/
namespace Sys2Proof.Proofs
open Sys2Proof Sys2Proof.Machine Sys2Proof.Claim

/-- A compare and a conversion that write g1 from g0, the register that reads as 0: `fset.eq.f32 g1, g0, g0` and `cvt.s8.e8m0 g1, g0`. -/
noncomputable def equalToG1 : Instr := .fsetEqF32 false 105#7 104#7 104#7
noncomputable def scaleToG1 : Instr := .cvtS8E8m0 false 105#7 104#7

/-- Neither writes g1, which the line has as written later. -/
theorem greg_after_equalToG1 : val (answerTo equalToG1 stampedAhead) 0 105#7 1 = 0 := by decide +kernel
theorem greg_after_scaleToG1 : val (answerTo scaleToG1 stampedAhead) 0 105#7 1 = 0 := by decide +kernel

/-- Where an instruction of a table that names g1 as its destination leaves it 0 in `stampedAhead`, and the table gives another number, the
table is not what its instructions compute. -/
theorem not_computesFlags_of_stampedAhead {table : Instr → Option ((Nat → Nat) → Nat × Flags)} {i : Instr} {f : (Nat → Nat) → Nat × Flags}
    (hf : table i = some f) (hwf : i.wf = true) (hclean : Clean stampedAhead i.ops) (hdst : dstOf i.ops = some ⟨.dst, 105#7, 1⟩)
    (hval : val (answerTo i stampedAhead) 0 105#7 1 = 0) (hne : (f (src stampedAhead 0 i.ops)).1 % 2 ^ 32 ≠ 0) : ¬ ComputesFlags table := by
  intro h
  obtain ⟨t, o, ho, ht, hholds, -⟩ := h i f stampedAhead hf hwf (by decide +kernel) (by decide +kernel) hclean (by decide)
  obtain rfl : ⟨.dst, 105#7, 1⟩ = o := by simpa [hdst] using ho
  have hg1 := hholds (by decide) 0 [] rfl
  rw [eq_answerTo ht, hval] at hg1
  exact hne hg1.symm

/-- Refutes O5: a compare of 0 with 0 does not write its 1 to a g register whose last write the line has as made by step 1, while the count of
steps is 0; `Sound` says nothing of that record. -/
theorem not_floatingPoint : ¬ Obligations.FloatingPoint := by
  unfold Obligations.FloatingPoint Claim.FloatArithmetic
  rintro ⟨⟨-, ordered, -⟩, -⟩
  exact not_computesFlags_of_stampedAhead (i := equalToG1) rfl (by decide) (by decide +kernel) rfl greg_after_equalToG1 (by decide +kernel) ordered

/-- Refutes O6: the conversion of the scale code 0 does not write its 129 to such a register. -/
theorem not_conversionsAndDots : ¬ Obligations.ConversionsAndDots := by
  unfold Obligations.ConversionsAndDots Claim.ConversionsAndDots
  rintro ⟨⟨converted, -⟩, -⟩
  exact not_computesFlags_of_stampedAhead (i := scaleToG1) rfl (by decide) (by decide +kernel) rfl greg_after_scaleToG1 (by decide +kernel) converted

end Sys2Proof.Proofs
end

section
/-!
PROOF. Summation trees and the decomposition of ranges (O22). A level of the tree works on the two halves of the leaves apart from each other, so
the tree does (R61, R63). A range is cut into nodes that first grow and then shrink, at most one of each size on either side (R66).
-/
namespace Sys2Proof.Proofs
open Sys2Proof Sys2Proof.Machine Sys2Proof.Claim

/-! ## Trees (R61, R63) -/

/-- A level of an even number of nodes has half as many, and its two halves are the levels of the halves. -/
theorem level_even (op : TreeOp) (acc : Acc) (n m : Nat) : ∀ ls : List Node, ls.length = 2 * (n + m) →
    (level op acc ls).length = n + m ∧ (level op acc ls).take n = level op acc (ls.take (2 * n)) ∧
      (level op acc ls).drop n = level op acc (ls.drop (2 * n)) := by
  induction n with
  | zero =>
    induction m with
    | zero => intro ls h; obtain rfl := List.length_eq_zero_iff.mp h; simp [level]
    | succ m ih =>
      rintro (_ | ⟨x, _ | ⟨y, ls⟩⟩) h
      · simp at h
      · simp at h; omega
      · simpa [level] using (ih ls (by simp at h; omega)).1
  | succ n ih =>
    rintro (_ | ⟨x, _ | ⟨y, ls⟩⟩) h
    · simp at h
    · simp at h; omega
    · obtain ⟨hlen, htake, hdrop⟩ := ih ls (by simp at h; omega)
      rw [show 2 * (n + 1) = 2 * n + 1 + 1 by ring]
      simp [level, hlen, htake, hdrop]
      omega

theorem treeRoot_halves (op : TreeOp) (acc : Acc) (k : Nat) : ∀ ls : List Node, ls.length = 2 ^ (k + 1) →
    treeRoot op acc (k + 1) ls = join2 op acc (treeRoot op acc k (ls.take (2 ^ k))) (treeRoot op acc k (ls.drop (2 ^ k))) := by
  induction k with
  | zero =>
    rintro (_ | ⟨x, _ | ⟨y, _ | ⟨z, ls⟩⟩⟩) h <;> simp at h
    rfl
  | succ k ih =>
    intro ls h
    obtain ⟨hlen, htake, hdrop⟩ := level_even op acc (2 ^ k) (2 ^ k) ls (by rw [h]; ring)
    rw [treeRoot, ih _ (by rw [hlen]; ring), htake, hdrop, ← pow_succ']
    rfl

/-- A leaf of an integer sum, with no flag raised. -/
def intLeaf (x : Option Nat) : Node := x.map (fun v => (v, 0#5))

/-- The root of an integer sum of these leaves (R63). -/
def intRoot (w : Nat) (xs : List (Option Nat)) : Node :=
  if xs.all Option.isNone then none else some ((xs.map (·.getD 0)).sum % 2 ^ w, 0#5)

theorem sum_getD_of_all_isNone : ∀ {xs : List (Option Nat)}, xs.all Option.isNone = true → (xs.map (·.getD 0)).sum = 0
  | [], _ => rfl
  | none :: xs, h => by simpa using sum_getD_of_all_isNone (xs := xs) (by simpa using h)

/-- Sums of two runs of leaves meet in the sum of both. -/
theorem join2_intRoot (sgn : Bool) (w : Nat) (xs ys : List (Option Nat)) :
    join2 .add (.int sgn w) (intRoot w xs) (intRoot w ys) = intRoot w (xs ++ ys) := by
  unfold intRoot
  rw [List.all_append, List.map_append, List.sum_append]
  by_cases hx : xs.all Option.isNone <;> by_cases hy : ys.all Option.isNone
  · simp [hx, hy, join2]
  · simp [hx, hy, join2, sum_getD_of_all_isNone hx]
  · simp [hx, hy, join2, sum_getD_of_all_isNone hy]
  · simp [hx, hy, join2, combine]

theorem treeRoot_intSum (sgn : Bool) (w k : Nat) : ∀ xs : List (Option Nat), xs.length = 2 ^ k → (∀ x ∈ xs, ∀ v, x = some v → v < 2 ^ w) →
    treeRoot .add (.int sgn w) k (xs.map intLeaf) = intRoot w xs := by
  induction k with
  | zero =>
    rintro (_ | ⟨_ | v, _ | ⟨y, xs⟩⟩) h hlt <;> simp at h
    · rfl
    · have hv : v < 2 ^ w := hlt (some v) (by simp) v rfl
      simp [treeRoot, intLeaf, intRoot, Nat.mod_eq_of_lt hv]
  | succ k ih =>
    intro xs h hlt
    rw [treeRoot_halves _ _ _ _ (by simpa using h), ← List.map_take, ← List.map_drop,
      ih (xs.take (2 ^ k)) (by simp [h, pow_succ]) (fun x hx => hlt x (List.mem_of_mem_take hx)),
      ih (xs.drop (2 ^ k)) (by simp [h, pow_succ, mul_two]) (fun x hx => hlt x (List.mem_of_mem_drop hx)),
      join2_intRoot, List.take_append_drop]

theorem reductionTrees : Claim.ReductionTrees :=
  ⟨treeRoot_halves, treeRoot_intSum⟩

/-! ## Ranges (R66) -/

/-- The level of a piece is the greatest, up to a bound, at which the range's start is aligned and the piece lies in the range. -/
theorem pieceLevel_spec {a b : Nat} (h : a < b) : ∀ n, pieceLevel a b n ≤ n ∧ 2 ^ pieceLevel a b n ∣ a ∧ a + 2 ^ pieceLevel a b n ≤ b ∧
    ∀ K, pieceLevel a b n < K → K ≤ n → 2 ^ K ∣ a → b < a + 2 ^ K
  | 0 => ⟨le_rfl, one_dvd a, h, fun K hK hK' => by omega⟩
  | n + 1 => by
    unfold pieceLevel
    split
    case isTrue hc =>
      simp only [Bool.and_eq_true, decide_eq_true_eq] at hc
      exact ⟨le_rfl, Nat.dvd_of_mod_eq_zero hc.1, hc.2, fun K hK hK' => by omega⟩
    case isFalse hc =>
      simp only [Bool.and_eq_true, decide_eq_true_eq, not_and, not_le] at hc
      obtain ⟨hle, hdvd, hin, hmax⟩ := pieceLevel_spec h n
      refine ⟨hle.trans n.le_succ, hdvd, hin, fun K hK hK' hKa => ?_⟩
      obtain hlt | rfl := Nat.lt_or_eq_of_le hK'
      · exact hmax K hK (Nat.lt_succ_iff.mp hlt) hKa
      · exact hc (Nat.mod_eq_zero_of_dvd hKa)

/-- The leaves of a list of nodes, in order. -/
def leavesOf (ps : List (Nat × Nat)) : List Nat := ps.flatMap (fun p => (List.range (2 ^ p.1)).map (fun j => p.2 * 2 ^ p.1 + j))

/-- With so much fuel, the pieces of a range are its leaves. -/
def Covered (fuel a b : Nat) : Prop := leavesOf (decompose fuel a b) = List.range' a (b - a)

theorem covered_empty (fuel a : Nat) : Covered fuel a a := by
  cases fuel <;> simp [Covered, decompose, leavesOf]

/-- A range is covered if the rest behind its first piece is. -/
theorem covered_of_rest {fuel a b : Nat} (h : a < b) (hrest : Covered fuel (a + 2 ^ pieceLevel a b 48) b) : Covered (fuel + 1) a b := by
  obtain ⟨-, hdvd, hin, -⟩ := pieceLevel_spec h 48
  unfold Covered leavesOf at hrest
  simp only [Covered, leavesOf, decompose, h, if_true, List.flatMap_cons, hrest, Nat.div_mul_cancel hdvd]
  rw [← List.range'_eq_map_range, List.range'_append_1]
  congr 1
  omega

/-- Where the whole range is smaller than a node at its start, pieces shrink. -/
theorem covered_shrinking : ∀ {j fuel a b : Nat}, j ≤ fuel → j ≤ 49 → 2 ^ j ∣ a → a ≤ b → b < a + 2 ^ j → Covered fuel a b
  | j, 0, a, b, hj, _, _, hab, hb => by
    obtain rfl : j = 0 := by omega
    obtain rfl : a = b := by simp at hb; omega
    exact covered_empty 0 a
  | j, fuel + 1, a, b, hj, hj', hdvd, hab, hb => by
    obtain rfl | hlt := hab.eq_or_lt
    · exact covered_empty _ a
    obtain ⟨hle, hLa, hin, hmax⟩ := pieceLevel_spec hlt 48
    generalize hL : pieceLevel a b 48 = L at *
    have hLj : L < j := (Nat.pow_lt_pow_iff_right (by norm_num : 1 < 2)).mp (by omega)
    have hend : b < a + 2 ^ (L + 1) := by
      rcases Nat.lt_or_ge L 48 with h | h
      · exact hmax _ L.lt_succ_self h ((pow_dvd_pow 2 hLj).trans hdvd)
      · rwa [show L + 1 = j by omega]
    refine covered_of_rest hlt ?_
    rw [hL]
    exact covered_shrinking (by omega) (by omega) (Nat.dvd_add hLa dvd_rfl) hin (by rw [pow_succ] at hend; omega)

/-- Until then they grow with the alignment of the start. -/
theorem covered_growing : ∀ {i fuel a b : Nat}, i ≤ 48 → i + 50 ≤ fuel → 2 ^ (48 - i) ∣ a → a ≤ b → b ≤ 2 ^ 48 → Covered fuel a b
  | i, 0, a, b, _, hf, _, _, _ => by omega
  | i, fuel + 1, a, b, hi, hf, hdvd, hab, hb => by
    obtain rfl | hlt := hab.eq_or_lt
    · exact covered_empty _ a
    rcases Nat.lt_or_ge b (a + 2 ^ (48 - i)) with hsmall | hbig
    · exact covered_shrinking (by omega) (by omega) hdvd hab hsmall
    obtain ⟨hle, hLa, hin, hmax⟩ := pieceLevel_spec hlt 48
    refine covered_of_rest hlt ?_
    generalize pieceLevel a b 48 = L at *
    have hrise : 48 - i ≤ L := by
      by_contra hlow
      exact absurd (hmax _ (by omega) (by omega) hdvd) (by omega)
    by_cases hend : b < a + 2 ^ (L + 1)
    · exact covered_shrinking (j := L) (by omega) (by omega) (Nat.dvd_add hLa dvd_rfl) hin (by rw [pow_succ] at hend; omega)
    · have hL : L < 48 := by
        by_contra hL
        have := Nat.pow_le_pow_right (n := 2) (by norm_num) (show 49 ≤ L + 1 by omega)
        omega
      have hodd : ¬ 2 ^ (L + 1) ∣ a := fun h => hend (hmax _ L.lt_succ_self hL h)
      have hnext : 2 ^ (48 - (48 - (L + 1))) ∣ a + 2 ^ L := by
        obtain ⟨q, rfl⟩ := hLa
        rw [show 48 - (48 - (L + 1)) = L + 1 by omega, pow_succ, ← Nat.mul_succ]
        refine Nat.mul_dvd_mul_left _ ?_
        have : ¬ 2 ∣ q := fun h => hodd (by rw [pow_succ]; exact Nat.mul_dvd_mul_left _ h)
        omega
      exact covered_growing (by omega) (by omega) hnext hin hb

theorem decomposition : Claim.Decomposition := by
  intro a b fuel hab hb hf
  have := covered_growing (i := 48) (fuel := fuel) le_rfl (by omega) (one_dvd a) hab hb
  rwa [Covered, List.range'_eq_map_range] at this

/-- Settles O22: trees by induction on the level, ranges by that of their pieces. -/
theorem summationTrees : Obligations.SummationTrees := ⟨reductionTrees, decomposition⟩

end Sys2Proof.Proofs
end

section
/-!
PROOF. Rounding is correct (O9). The magnitudes of a format's codes, counted on past the greatest one, are an increasing sequence `magVal`. A
number lies between two neighbours of it, rounding takes one of the two by the mode, and overflow, tininess and the flags are facts about
that choice. `pack` computes the choice from the bits that it cuts off.
-/
namespace Sys2Proof.Proofs
open Sys2Proof Sys2Proof.Machine Sys2Proof.Claim

/-! ## Formats -/

/-- What the formats of R47 have in common: a fraction of at most 52 bits, a sign bit, and a greatest finite code that is normal and no power of
two. -/
structure Regular (F : Fmt) : Prop where
  m_pos : 1 ≤ F.m
  m_le : F.m ≤ 52
  m_lt : F.m + 1 < F.width
  maxCode_lt : F.maxCode < 2 ^ (F.width - 1)
  normal_max : 2 ^ F.m ≤ F.maxCode
  max_frac : F.maxCode % 2 ^ F.m ≠ 0

theorem regular_of_mem {F : Fmt} (h : F ∈ formats) : Regular F := by
  have hall : ∀ F ∈ formats, 1 ≤ F.m ∧ F.m ≤ 52 ∧ F.m + 1 < F.width ∧ F.maxCode < 2 ^ (F.width - 1) ∧ 2 ^ F.m ≤ F.maxCode ∧
      F.maxCode % 2 ^ F.m ≠ 0 := by decide +kernel
  obtain ⟨hpos, hle, hlt, hmax, hnormal, hfrac⟩ := hall F h
  exact ⟨hpos, hle, hlt, hmax, hnormal, hfrac⟩

/-- The exponent of the least bit of subnormal numbers. -/
def minExp (F : Fmt) : Int := 1 - (F.bias : Int) - F.m

/-- The exponent of the last place of the numbers with a code's exponent field (R47). -/
def placeOf (F : Fmt) (c : Nat) : Int := (max (c / 2 ^ F.m) 1 : Nat) - (F.bias : Int) - F.m

/-- The number of a code without its sign; codes past the greatest one go on with further exponents. -/
noncomputable def magVal (F : Fmt) (c : Nat) : ℝ := ((if c < 2 ^ F.m then c else 2 ^ F.m + c % 2 ^ F.m : Nat) : ℝ) * (2 : ℝ) ^ placeOf F c

theorem two_zpow_pos (e : Int) : (0 : ℝ) < 2 ^ e := by positivity

section Magnitudes
variable (F : Fmt)

/-- The code of a significand at a place has the value of the significand at that place, and the significand's parity. -/
theorem magVal_encodeMag {q : Nat} {e : Int} (hq : q < 2 ^ (F.m + 1)) (he : minExp F ≤ e) (hn : 2 ^ F.m ≤ q ∨ e = minExp F) :
    magVal F (encodeMag F q e) = q * (2 : ℝ) ^ e ∧ placeOf F (encodeMag F q e) = e ∧ (1 ≤ F.m → encodeMag F q e % 2 = q % 2) := by
  unfold minExp at he hn
  unfold encodeMag magVal placeOf
  split
  case isTrue h =>
    obtain rfl : e = 1 - (F.bias : Int) - F.m := by omega
    simp [Nat.div_eq_of_lt h]
  case isFalse h =>
    obtain ⟨E, hE⟩ : ∃ E : Nat, e + F.m + F.bias = (E + 1 : Nat) := ⟨(e + F.m + F.bias - 1).toNat, by omega⟩
    rw [hE, Int.toNat_natCast]
    have hlt : q - 2 ^ F.m < 2 ^ F.m := by rw [pow_succ] at hq; omega
    have hdiv : ((E + 1) * 2 ^ F.m + (q - 2 ^ F.m)) / 2 ^ F.m = E + 1 := by
      rw [mul_comm, Nat.mul_add_div (by positivity), Nat.div_eq_of_lt hlt, add_zero]
    have hmod : ((E + 1) * 2 ^ F.m + (q - 2 ^ F.m)) % 2 ^ F.m = q - 2 ^ F.m := by
      rw [mul_comm, Nat.mul_add_mod, Nat.mod_eq_of_lt hlt]
    have hge : ¬ (E + 1) * 2 ^ F.m + (q - 2 ^ F.m) < 2 ^ F.m := by nlinarith [Nat.two_pow_pos F.m]
    have hplace : ((max (E + 1) 1 : Nat) : Int) - F.bias - F.m = e := by omega
    rw [hdiv, if_neg hge, hmod, hplace]
    refine ⟨by rw [Nat.add_sub_cancel' (by omega)], rfl, fun hm => ?_⟩
    obtain ⟨k, hk⟩ : 2 ∣ 2 ^ F.m := dvd_pow_self 2 (by omega)
    rw [hk, show (E + 1) * (2 * k) = 2 * ((E + 1) * k) by ring]
    omega

/-- The next code is that of the next significand, carried into the exponent if it has grown too long. -/
theorem encodeMag_succ {q : Nat} {e : Int} (hq : q < 2 ^ (F.m + 1)) (he : minExp F ≤ e) (hn : 2 ^ F.m ≤ q ∨ e = minExp F) :
    encodeMag F (if q + 1 = 2 ^ (F.m + 1) then 2 ^ F.m else q + 1) (if q + 1 = 2 ^ (F.m + 1) then e + 1 else e) = encodeMag F q e + 1 := by
  unfold minExp at he hn
  have hpow : 2 ^ (F.m + 1) = 2 * 2 ^ F.m := pow_succ' 2 F.m
  obtain ⟨E, hE⟩ : ∃ E : Nat, e + F.m + F.bias = (E + 1 : Nat) := ⟨(e + F.m + F.bias - 1).toNat, by omega⟩
  have hE' : e + 1 + F.m + F.bias = (E + 2 : Nat) := by omega
  unfold encodeMag
  by_cases hc : q + 1 = 2 ^ (F.m + 1)
  · rw [if_pos hc, if_pos hc, hE, hE', Int.toNat_natCast, Int.toNat_natCast, if_neg (lt_irrefl _), if_neg (by omega)]
    rw [show (E + 2) * 2 ^ F.m = (E + 1) * 2 ^ F.m + 2 ^ F.m by ring]
    omega
  · rw [if_neg hc, if_neg hc, hE, Int.toNat_natCast]
    by_cases hq' : q < 2 ^ F.m
    · have hE0 : E = 0 := by omega
      subst hE0
      split_ifs <;> omega
    · rw [if_neg hq', if_neg (by omega)]
      omega

/-- Every code is that of a significand at a place. -/
theorem exists_encodeMag (c : Nat) : ∃ q e, q < 2 ^ (F.m + 1) ∧ minExp F ≤ e ∧ (2 ^ F.m ≤ q ∨ e = minExp F) ∧ encodeMag F q e = c := by
  have hpow : 2 ^ (F.m + 1) = 2 * 2 ^ F.m := pow_succ' 2 F.m
  unfold minExp encodeMag
  by_cases h : c < 2 ^ F.m
  · exact ⟨c, _, by omega, le_rfl, .inr rfl, if_pos h⟩
  · have hlt := Nat.mod_lt c (Nat.two_pow_pos F.m)
    have hdiv : 1 ≤ c / 2 ^ F.m := (Nat.one_le_div_iff (Nat.two_pow_pos F.m)).mpr (by omega)
    refine ⟨2 ^ F.m + c % 2 ^ F.m, (c / 2 ^ F.m : Nat) - F.bias - F.m, by omega, by omega, .inl (by omega), ?_⟩
    rw [if_neg (by omega), show ((c / 2 ^ F.m : Nat) - (F.bias : Int) - F.m + F.m + F.bias).toNat = c / 2 ^ F.m by omega,
      Nat.add_sub_cancel_left, mul_comm, Nat.div_add_mod]

/-- Neighbours differ by the last place of the lower one. -/
theorem magVal_succ (c : Nat) : magVal F (c + 1) = magVal F c + 2 ^ placeOf F c := by
  obtain ⟨q, e, hq, he, hn, rfl⟩ := exists_encodeMag F c
  obtain ⟨hval, hplace, -⟩ := magVal_encodeMag F hq he hn
  have hpow : 2 ^ (F.m + 1) = 2 * 2 ^ F.m := pow_succ' 2 F.m
  rw [hval, hplace, ← encodeMag_succ F hq he hn]
  by_cases hc : q + 1 = 2 ^ (F.m + 1)
  · rw [if_pos hc, if_pos hc, (magVal_encodeMag F (by omega) (by omega) (.inl le_rfl)).1, zpow_add_one₀ two_ne_zero]
    have : (q : ℝ) + 1 = 2 * (2 ^ F.m : Nat) := by exact_mod_cast hc.trans hpow
    rw [eq_sub_of_add_eq this]
    ring
  · rw [if_neg hc, if_neg hc, (magVal_encodeMag F (by omega) he (by omega)).1]
    push_cast
    ring

theorem magVal_strictMono : StrictMono (magVal F) :=
  strictMono_nat_of_lt_succ fun c => by rw [magVal_succ]; linarith [two_zpow_pos (placeOf F c)]

@[simp] theorem magVal_zero : magVal F 0 = 0 := by simp [magVal]

theorem magVal_nonneg (c : Nat) : 0 ≤ magVal F c := (magVal_zero F).symm.trans_le ((magVal_strictMono F).monotone c.zero_le)

/-- The least normal number has the first code with an exponent. -/
theorem magVal_normal : magVal F (2 ^ F.m) = minNormal F := by
  have h := (magVal_encodeMag F (q := 2 ^ F.m) (e := minExp F) (by rw [pow_succ']; have := Nat.two_pow_pos F.m; omega) le_rfl (.inl le_rfl)).1
  have hc : encodeMag F (2 ^ F.m) (minExp F) = 2 ^ F.m := by
    rw [encodeMag, if_neg (lt_irrefl _), show (minExp F + F.m + F.bias).toNat = 1 by unfold minExp; omega, Nat.sub_self]
    simp
  rw [hc] at h
  rw [h, minNormal, minExp]
  push_cast
  rw [← zpow_natCast, ← zpow_add₀ two_ne_zero]
  congr 1
  omega

end Magnitudes

/-! ## The number of a code -/

/-- The sign of a number that is negative or not. -/
noncomputable def signOf (neg : Bool) : ℝ := if neg then -1 else 1

@[simp] theorem signOf_mul_self (n : Bool) : signOf n * signOf n = 1 := by cases n <;> simp [signOf]
@[simp] theorem abs_signOf (n : Bool) : |signOf n| = 1 := by cases n <;> simp [signOf]

theorem realOf_fin (neg : Bool) (man : Nat) (exp : Int) : realOf (.fin neg man exp false) = some (signOf neg * (man * (2 : ℝ) ^ exp)) := by
  simp [realOf, signOf]

/-- What a code up to the greatest is taken apart into (R47). -/
theorem unpack_of_le {F : Fmt} (hF : Regular F) {x : Nat} (h : magOf F x ≤ F.maxCode) :
    ∃ man < 2 ^ (F.m + 1), unpack F x = (.fin (negOf F x) man (placeOf F (magOf F x)) false, false) ∧
      man * (2 : ℝ) ^ placeOf F (magOf F x) = magVal F (magOf F x) := by
  have hmag : x % 2 ^ F.width % 2 ^ (F.width - 1) = magOf F x := Nat.mod_mod_of_dvd _ (pow_dvd_pow 2 (by omega))
  have hneg : (x % 2 ^ F.width).testBit (F.width - 1) = negOf F x := by
    rw [Nat.testBit_mod_two_pow, negOf]
    simp [show F.width - 1 < F.width by have := hF.m_lt; omega]
  have hexp : bits (x % 2 ^ F.width) F.m (F.width - 1 - F.m) = magOf F x / 2 ^ F.m := by
    rw [bits, Nat.shiftRight_eq_div_pow, ← Nat.mod_mul_right_div_self, ← pow_add, Nat.add_sub_cancel' (by have := hF.m_lt; omega), hmag]
  have hfrac : bits (x % 2 ^ F.width) 0 F.m = magOf F x % 2 ^ F.m := by
    have hm := hF.m_lt
    rw [bits, Nat.shiftRight_zero, magOf, Nat.mod_mod_of_dvd _ (pow_dvd_pow 2 (by omega)), Nat.mod_mod_of_dvd _ (pow_dvd_pow 2 (by omega))]
  simp only [unpack, hmag, hneg, hexp, hfrac]
  generalize magOf F x = c at h ⊢
  rw [if_neg (by omega)]
  by_cases hc : c < 2 ^ F.m
  · refine ⟨c, by rw [pow_succ]; omega, ?_, by simp [magVal, hc]⟩
    simp [Nat.div_eq_of_lt hc, Nat.mod_eq_of_lt hc, placeOf]
  · have hdiv : 1 ≤ c / 2 ^ F.m := (Nat.one_le_div_iff (Nat.two_pow_pos F.m)).mpr (by omega)
    have hlt := Nat.mod_lt c (Nat.two_pow_pos F.m)
    refine ⟨c % 2 ^ F.m + 2 ^ F.m, by rw [pow_succ]; omega, ?_, by simp [magVal, hc, add_comm]⟩
    rw [if_neg (by omega), placeOf, Nat.max_eq_left hdiv]

theorem unpack_of_gt {F : Fmt} {x : Nat} (h : F.maxCode < magOf F x) : realOf (unpack F x).1 = none := by
  have hmag : x % 2 ^ F.width % 2 ^ (F.width - 1) = magOf F x := Nat.mod_mod_of_dvd _ (pow_dvd_pow 2 (by omega))
  simp only [unpack, hmag, if_pos h]
  cases F.top <;> simp only
  · split <;> rfl
  · rfl
  · rfl

/-- The codes that stand for numbers, and which (R47). -/
theorem codeVal_eq_some_iff {F : Fmt} (hF : Regular F) {x : Nat} {v : ℝ} :
    codeVal F x = some v ↔ magOf F x ≤ F.maxCode ∧ v = signOf (negOf F x) * magVal F (magOf F x) := by
  unfold codeVal
  by_cases h : magOf F x ≤ F.maxCode
  · obtain ⟨man, -, hu, hv⟩ := unpack_of_le hF h
    rw [hu, realOf_fin, hv]
    simp [h, eq_comm]
  · simp [unpack_of_gt (not_le.mp h), h]

/-- The number of a code made of a sign and a magnitude. -/
theorem codeVal_signBit_add {F : Fmt} (hF : Regular F) (n : Bool) {c : Nat} (h : c ≤ F.maxCode) :
    codeVal F (signBit F n + c) = some (signOf n * magVal F c) := by
  have hlt := h.trans_lt hF.maxCode_lt
  have hmag : magOf F (signBit F n + c) = c := by
    cases n <;> simp [magOf, signBit, Nat.mod_eq_of_lt hlt]
  have hneg : negOf F (signBit F n + c) = n := by
    cases n
    · simp [negOf, signBit, Nat.testBit_lt_two_pow hlt]
    · simp [negOf, signBit, Nat.testBit_two_pow_add_eq, Nat.testBit_lt_two_pow hlt]
  rw [codeVal_eq_some_iff hF, hmag, hneg]
  exact ⟨h, rfl⟩

theorem codeVal_magnitude {F : Fmt} (hF : Regular F) {c : Nat} (h : c ≤ F.maxCode) : codeVal F c = some (magVal F c) := by
  simpa [signBit, signOf] using codeVal_signBit_add hF false h

theorem maxNum_eq {F : Fmt} (hF : Regular F) : maxNum F = magVal F F.maxCode := by
  simp [maxNum, codeVal_magnitude hF le_rfl]

/-- Past the greatest number the gap is that below it, for its significand is not the least. -/
theorem magVal_maxCode_succ {F : Fmt} (hF : Regular F) : magVal F (F.maxCode + 1) = maxNum F + topGap F := by
  have hpos : 0 < F.maxCode := (Nat.two_pow_pos F.m).trans_le hF.normal_max
  have hdiv : (F.maxCode - 1) / 2 ^ F.m = F.maxCode / 2 ^ F.m := by
    obtain ⟨c, hc⟩ : ∃ c, F.maxCode = c + 1 := ⟨F.maxCode - 1, by omega⟩
    rw [hc, Nat.add_sub_cancel, Nat.succ_div_of_not_dvd fun hd => hF.max_frac (hc ▸ Nat.mod_eq_zero_of_dvd hd)]
  have hstep := magVal_succ F (F.maxCode - 1)
  rw [Nat.sub_add_cancel hpos, placeOf, hdiv, ← placeOf] at hstep
  rw [topGap, maxNum_eq hF, codeVal_magnitude hF (Nat.sub_le _ _), magVal_succ, Option.getD_some]
  linarith

theorem topGap_pos {F : Fmt} (hF : Regular F) : 0 < topGap F := by
  have h := magVal_strictMono F F.maxCode.lt_succ_self
  rw [magVal_maxCode_succ hF, ← maxNum_eq hF] at h
  linarith

theorem minNormal_le_maxNum {F : Fmt} (hF : Regular F) : minNormal F ≤ maxNum F := by
  rw [maxNum_eq hF, ← magVal_normal]
  exact (magVal_strictMono F).monotone hF.normal_max

/-! ## The gap below the least normal number -/

theorem minNormal_eq (F : Fmt) : minNormal F = 2 ^ (F.m + 1) * (2 : ℝ) ^ (minExp F - 1) := by
  rw [minNormal, ← zpow_natCast, ← zpow_add₀ two_ne_zero, minExp]
  congr 1
  push_cast
  omega

theorem lowGap_eq (F : Fmt) : lowGap F = (2 : ℝ) ^ (minExp F - 1) := by
  rw [lowGap, minNormal, ← zpow_add₀ two_ne_zero, minExp]
  congr 1
  omega

theorem lowGap_pos (F : Fmt) : 0 < lowGap F := mul_pos (two_zpow_pos _) (two_zpow_pos _)

theorem two_mul_lowGap_le (F : Fmt) : 2 * lowGap F ≤ minNormal F := by
  rw [minNormal_eq, lowGap_eq, pow_succ]
  have : (1 : ℝ) ≤ 2 ^ F.m := one_le_pow₀ one_le_two
  nlinarith [two_zpow_pos (minExp F - 1)]

end Sys2Proof.Proofs
end

section
/-!
PROOF. Rounding is correct (O9), continued: the choice between two neighbours, the bits that decide it, and `pack`.
-/
namespace Sys2Proof.Proofs
open Sys2Proof Sys2Proof.Machine Sys2Proof.Claim

/-! ## Rounding up or down -/

/-- Of the neighbours a and b of a magnitude y, a ≤ y < b, a mode takes b (R51). -/
def RoundsUp (md : RMode) (neg : Bool) (odd : Prop) (a b y : ℝ) : Prop :=
  match md with
  | .rn => a + b < 2 * y ∨ (2 * y = a + b ∧ odd)
  | .rz => False
  | .ru => neg = false ∧ y ≠ a
  | .rd => neg = true ∧ y ≠ a

theorem not_roundsUp_self {md : RMode} {neg : Bool} {odd : Prop} {a b : ℝ} (h : a < b) : ¬ RoundsUp md neg odd a b a := by
  cases md <;> simp [RoundsUp]
  · constructor
    · linarith
    · intro h'; linarith

/-- The magnitude that a significand, its exponent and the sticky bit stand for. -/
def Magnitude (man : Nat) (exp : Int) (sticky : Bool) (y : ℝ) : Prop :=
  if sticky then man * (2 : ℝ) ^ exp < y ∧ y < (man + 1) * 2 ^ exp else y = man * 2 ^ exp

theorem Magnitude.le {man : Nat} {exp : Int} {sticky : Bool} {y : ℝ} (h : Magnitude man exp sticky y) : man * (2 : ℝ) ^ exp ≤ y := by
  cases sticky
  · exact h.ge
  · exact h.1.le

theorem Magnitude.lt {man : Nat} {exp : Int} {sticky : Bool} {y : ℝ} (h : Magnitude man exp sticky y) : y < (man + 1) * (2 : ℝ) ^ exp := by
  cases sticky
  · have : y = man * (2 : ℝ) ^ exp := h
    linarith [two_zpow_pos exp]
  · exact h.2

/-- A choice between two neighbours: whether it is inexact, and which it is. -/
structure Chosen (md : RMode) (neg : Bool) (val : Nat → ℝ) (y : ℝ) (q r : Nat) : Prop where
  le : val q ≤ y
  lt : y < val (q + 1)
  choice : (r = q + 1 ∧ RoundsUp md neg (q % 2 = 1) (val q) (val (q + 1)) y) ∨ (r = q ∧ ¬ RoundsUp md neg (q % 2 = 1) (val q) (val (q + 1)) y)

/-- The multiples of 2^e. -/
noncomputable def multiple (e : Int) (q : Nat) : ℝ := q * (2 : ℝ) ^ e

/-- What is cut off is compared with a whole number by its own whole part and the sticky bit. -/
theorem cut_compare {sticky : Bool} {r : Nat} {s : ℝ} (h : Magnitude r 0 sticky s) (K : Nat) :
    ((K : ℝ) < s ↔ K < r ∨ (r = K ∧ sticky = true)) ∧ (s = K ↔ r = K ∧ sticky = false) := by
  cases sticky
  · obtain rfl : s = r := by simpa [Magnitude] using h
    simp
  · obtain ⟨hlo, hhi⟩ : (r : ℝ) < s ∧ s < r + 1 := by simpa [Magnitude] using h
    refine ⟨⟨fun hK => ?_, fun hK => lt_of_le_of_lt ?_ hlo⟩, ⟨fun hK => ?_, by simp⟩⟩
    · have : K < r + 1 := by exact_mod_cast hK.trans hhi
      simp; omega
    · have : K ≤ r := by omega
      exact_mod_cast this
    · subst hK
      have h1 : r < K := by exact_mod_cast hlo
      have h2 : K < r + 1 := by exact_mod_cast hhi
      omega

/-- How `roundShift` decides: from the last bit kept, the bits cut off and half a place. -/
def bitsUp (md : RMode) (neg : Bool) (q r half : Nat) (sticky : Bool) : Bool :=
  match md with
  | .rn => decide (half < r) || (r == half && (sticky || q % 2 == 1))
  | .rz => false
  | .ru => !neg && (r ≠ 0 || sticky)
  | .rd => neg && (r ≠ 0 || sticky)

theorem roundShift_of_pos (md : RMode) (neg : Bool) (man : Nat) (sticky : Bool) {drop : Int} {k : Nat} (h : drop = (k + 1 : Nat)) :
    roundShift md neg man sticky drop =
      (if bitsUp md neg (man / 2 ^ (k + 1)) (man % 2 ^ (k + 1)) (2 ^ k) sticky then man / 2 ^ (k + 1) + 1 else man / 2 ^ (k + 1),
        man % 2 ^ (k + 1) ≠ 0 || sticky) := by
  subst h
  rw [roundShift, if_neg (by omega)]
  cases md <;> rfl

/-- The bits below a place decide the rounding there (R52, R53). -/
theorem roundShift_chosen (md : RMode) (neg : Bool) {man : Nat} {exp : Int} {sticky : Bool} {y : ℝ} (hy : Magnitude man exp sticky y) {e : Int}
    (hs : sticky = true → exp < e) :
    ∃ q, Chosen md neg (multiple e) y q (roundShift md neg man sticky (e - exp)).1 ∧
      ((roundShift md neg man sticky (e - exp)).2 = true ↔ y ≠ multiple e q) := by
  rcases le_or_gt e exp with hle | hlt
  · obtain rfl : sticky = false := Bool.eq_false_iff.mpr fun h => absurd (hs h) (by omega)
    have hexact : y = multiple e (man * 2 ^ (exp - e).toNat) := by
      rw [multiple, show y = man * (2 : ℝ) ^ exp from hy]
      push_cast
      rw [mul_assoc, ← zpow_natCast, ← zpow_add₀ two_ne_zero, Int.toNat_of_nonneg (by omega), sub_add_cancel]
    have hstep : multiple e (man * 2 ^ (exp - e).toNat) < multiple e (man * 2 ^ (exp - e).toNat + 1) := by
      simp only [multiple]; push_cast; linarith [two_zpow_pos e]
    refine ⟨man * 2 ^ (exp - e).toNat, ?_, ?_⟩
    · rw [roundShift, if_pos (by omega), neg_sub, hexact]
      exact ⟨le_rfl, hstep, .inr ⟨rfl, not_roundsUp_self hstep⟩⟩
    · simp [roundShift, show e - exp ≤ 0 by omega, ← hexact]
  · obtain ⟨k, hk⟩ : ∃ k : Nat, e - exp = (k + 1 : Nat) := ⟨(e - exp - 1).toNat, by omega⟩
    have hpos := two_zpow_pos exp
    have hman : (man : ℝ) = 2 * 2 ^ k * (man / 2 ^ (k + 1) : Nat) + (man % 2 ^ (k + 1) : Nat) := by
      rw [← pow_succ']; exact_mod_cast (Nat.div_add_mod man (2 ^ (k + 1))).symm
    have hr : man % 2 ^ (k + 1) + 1 ≤ 2 * 2 ^ k := (Nat.mod_lt _ (Nat.two_pow_pos _)).trans_eq (pow_succ' 2 k)
    rw [roundShift_of_pos md neg man sticky hk]
    generalize man / 2 ^ (k + 1) = q at hman ⊢
    generalize man % 2 ^ (k + 1) = r at hman hr ⊢
    have hval : ∀ n : Nat, multiple e n = 2 * 2 ^ k * n * 2 ^ exp := fun n => by
      rw [multiple, show e = (k + 1 : Nat) + exp by omega, zpow_add₀ two_ne_zero, zpow_natCast, pow_succ']; ring
    obtain ⟨s, rfl⟩ : ∃ s, y = (2 * 2 ^ k * q + s) * (2 : ℝ) ^ exp := ⟨y / 2 ^ exp - 2 * 2 ^ k * q, by rw [add_sub_cancel, div_mul_cancel₀ _ hpos.ne']⟩
    have hcut : Magnitude r 0 sticky s := by
      unfold Magnitude at hy ⊢
      rw [hman] at hy
      cases sticky
      · simpa [hpos.ne'] using hy
      · simpa [mul_lt_mul_iff_left₀ hpos, add_assoc] using hy
    have hr' : (r : ℝ) + 1 ≤ 2 * 2 ^ k := by exact_mod_cast hr
    have hne : (2 * 2 ^ k * q + s) * (2 : ℝ) ^ exp ≠ multiple e q ↔ (r ≠ 0 || sticky) = true := by
      have h0 := (cut_compare hcut 0).2
      rw [hval, ne_eq, mul_left_inj' hpos.ne', add_eq_left]
      simp only [Nat.cast_zero] at h0
      rw [h0]
      cases sticky <;> simp
    obtain ⟨hhalf, htie⟩ := cut_compare hcut (2 ^ k)
    push_cast at hhalf htie
    have hup : RoundsUp md neg (q % 2 = 1) (multiple e q) (multiple e (q + 1)) ((2 * 2 ^ k * q + s) * 2 ^ exp) ↔ bitsUp md neg q r (2 ^ k) sticky = true := by
      cases md <;> simp only [RoundsUp, bitsUp]
      case rn =>
        have hsum : multiple e q + multiple e (q + 1) = 2 * ((2 * 2 ^ k * q + 2 ^ k) * 2 ^ exp) := by rw [hval, hval]; push_cast; ring
        rw [hsum, mul_lt_mul_iff_right₀ two_pos, mul_lt_mul_iff_left₀ hpos, add_lt_add_iff_left, mul_right_inj' two_ne_zero, mul_left_inj' hpos.ne',
          add_right_inj, hhalf, htie]
        cases sticky <;> simp
      case rz => simp
      case ru => simp [hne]
      case rd => simp [hne]
    refine ⟨q, ⟨?_, ?_, ?_⟩, hne.symm⟩
    · rw [hval]
      exact mul_le_mul_of_nonneg_right (le_add_of_nonneg_right (r.cast_nonneg.trans (by simpa using hcut.le))) hpos.le
    · rw [hval, mul_lt_mul_iff_left₀ hpos]
      push_cast
      linarith [show s < r + 1 by simpa using hcut.lt]
    · rw [hup]
      cases bitsUp md neg q r (2 ^ k) sticky <;> simp

end Sys2Proof.Proofs
end

section
/-!
PROOF. Rounding is correct (O9), concluded: overflow, tininess and the best number are facts about the choice between neighbours.
-/
namespace Sys2Proof.Proofs
open Sys2Proof Sys2Proof.Machine Sys2Proof.Claim

section Signed
variable {neg : Bool} {y : ℝ}

theorem abs_signOf_mul (h : 0 ≤ y) : |signOf neg * y| = y := by rw [abs_mul, abs_signOf, one_mul, abs_of_nonneg h]
theorem signOf_mul_pos (h : 0 ≤ y) : 0 < signOf neg * y ↔ neg = false ∧ 0 < y := by
  cases neg <;> simp [signOf, h]
theorem signOf_mul_neg (h : 0 ≤ y) : signOf neg * y < 0 ↔ neg = true ∧ 0 < y := by
  cases neg <;> simp [signOf, h]

end Signed

section Choice
variable {F : Fmt} {md : RMode} {neg : Bool} {y : ℝ} {c d : Nat}

theorem Chosen.nonneg (h : Chosen md neg (magVal F) y c d) : 0 ≤ y := (magVal_nonneg F c).trans h.le

theorem Chosen.eq_or (h : Chosen md neg (magVal F) y c d) : d = c ∨ d = c + 1 := by
  rcases h.choice with ⟨h, -⟩ | ⟨h, -⟩ <;> simp [h]

/-- Overflow is the choice of a code past the greatest (R52 step 4). -/
theorem overflows_iff (hF : Regular F) (h : Chosen md neg (magVal F) y c d) : Overflows F md (signOf neg * y) ↔ F.maxCode < d := by
  have hy := h.nonneg
  have hpos : 0 < maxNum F := (two_zpow_pos _).trans_le (minNormal_le_maxNum hF)
  have hgap := topGap_pos hF
  rcases lt_trichotomy c F.maxCode with hc | rfl | hc
  · have hlt : y < maxNum F := h.lt.trans_le (maxNum_eq hF ▸ (magVal_strictMono F).monotone hc)
    have hd : ¬ F.maxCode < d := by rcases h.eq_or with h | h <;> omega
    simp only [hd, iff_false]
    cases md <;> simp only [Overflows, signOf_mul_pos hy, signOf_mul_neg hy, abs_signOf_mul hy]
    · intro h'; rcases h' with h' | ⟨h', -⟩ <;> linarith
    · linarith
    · split_ifs with hs
      · obtain ⟨rfl, -⟩ := hs; simp [signOf]; linarith
      · linarith
    · split_ifs <;> linarith
  · have hle := h.le
    have hlt := h.lt
    have hchoice := h.choice
    rw [magVal_maxCode_succ hF] at hlt hchoice
    rw [← maxNum_eq hF] at hle hchoice
    have hup : F.maxCode < d ↔ RoundsUp md neg (F.maxCode % 2 = 1) (maxNum F) (maxNum F + topGap F) y := by
      rcases hchoice with ⟨rfl, hu⟩ | ⟨rfl, hu⟩ <;> simp [hu]
    rw [hup]
    have hyp : 0 < y := hpos.trans_le hle
    cases md <;> simp only [Overflows, RoundsUp, signOf_mul_pos hy, signOf_mul_neg hy, abs_signOf_mul hy, hyp, and_true]
    · exact or_congr (by constructor <;> intro <;> linarith) (and_congr_left' (by constructor <;> intro <;> linarith))
    · simp [hlt]
    · cases neg <;> simp [signOf, hle.lt_iff_ne', hlt]
    · cases neg <;> simp [hle.lt_iff_ne', hlt]
  · have hge : maxNum F + topGap F ≤ y := by
      rw [← magVal_maxCode_succ hF]
      exact ((magVal_strictMono F).monotone hc).trans h.le
    have hd : F.maxCode < d := by rcases h.eq_or with h | h <;> omega
    simp only [hd, iff_true]
    cases md <;> simp only [Overflows, signOf_mul_pos hy, signOf_mul_neg hy, abs_signOf_mul hy]
    · left; linarith
    · exact hge
    · split_ifs with hs
      · obtain ⟨rfl, -⟩ := hs; simp [signOf]; linarith
      · exact hge
    · split_ifs
      · linarith
      · exact hge

/-- No number of the format lies strictly between the two neighbours, whatever its sign. -/
theorem number_le_or_ge (hF : Regular F) (neg : Bool) (c : Nat) {r : Nat} {w : ℝ} (hw : codeVal F r = some w) :
    signOf neg * w ≤ magVal F c ∨ magVal F (c + 1) ≤ signOf neg * w := by
  obtain ⟨-, rfl⟩ := (codeVal_eq_some_iff hF).mp hw
  have hmono := (magVal_strictMono F).monotone
  have hnonneg := magVal_nonneg F (magOf F r)
  by_cases hs : negOf F r = neg
  · rw [hs, ← mul_assoc, signOf_mul_self, one_mul]
    exact (le_or_gt (magOf F r) c).imp (hmono ·) (hmono ·)
  · left
    have : signOf neg * (signOf (negOf F r) * magVal F (magOf F r)) = - magVal F (magOf F r) := by
      cases neg <;> cases hn : negOf F r <;> simp_all [signOf]
    rw [this]
    linarith [magVal_nonneg F c]

/-- Inexact: the chosen number is not the exact one. -/
theorem Chosen.exact_iff (h : Chosen md neg (magVal F) y c d) : magVal F d = y ↔ y = magVal F c := by
  rcases h.choice with ⟨rfl, hu⟩ | ⟨rfl, -⟩
  · refine ⟨fun hd => absurd hd h.lt.ne', ?_⟩
    rintro rfl
    exact absurd hu (not_roundsUp_self h.lt)
  · exact eq_comm

/-- The chosen number is the best one of the format (R51), by the magnitude of every other number under the sign of x. -/
theorem Chosen.best (h : Chosen md neg (magVal F) y c d) {w : ℝ} (hw : w ≤ magVal F c ∨ magVal F (c + 1) ≤ w) :
    match md with
    | .rn => |magVal F d - y| ≤ |w - y| ∧ (|magVal F d - y| = |w - y| → w ≠ magVal F d → d % 2 = 0)
    | .rz => magVal F d ≤ y ∧ (w ≤ y → w ≤ magVal F d)
    | .ru => if neg then magVal F d ≤ y ∧ (w ≤ y → w ≤ magVal F d) else y ≤ magVal F d ∧ (y ≤ w → magVal F d ≤ w)
    | .rd => if neg then y ≤ magVal F d ∧ (y ≤ w → magVal F d ≤ w) else magVal F d ≤ y ∧ (w ≤ y → w ≤ magVal F d) := by
  obtain ⟨hle, hlt, hchoice⟩ := h
  have hdown : magVal F c ≤ y ∧ (w ≤ y → w ≤ magVal F c) := ⟨hle, fun h => hw.elim id fun h' => by linarith⟩
  have hup : y ≠ magVal F c → y ≤ magVal F (c + 1) ∧ (y ≤ w → magVal F (c + 1) ≤ w) := fun hne =>
    ⟨hlt.le, fun h => hw.elim (fun h' => absurd (le_antisymm (h.trans h') hle) hne) id⟩
  have hsame : y = magVal F c → y ≤ magVal F c ∧ (y ≤ w → magVal F c ≤ w) := by rintro rfl; simp
  cases md <;> simp only [RoundsUp] at hchoice ⊢
  case rn =>
    rcases hchoice with ⟨rfl, hu⟩ | ⟨rfl, hu⟩
    · rw [abs_of_pos (sub_pos.mpr hlt)]
      have hmid : magVal F c + magVal F (c + 1) ≤ 2 * y := by rcases hu with h | ⟨h, -⟩ <;> linarith
      rcases hw with hw | hw
      · rw [abs_of_nonpos (by linarith)]
        refine ⟨by linarith, fun heq _ => ?_⟩
        rcases hu with h | ⟨-, hodd⟩
        · linarith
        · omega
      · rw [abs_of_nonneg (by linarith)]
        exact ⟨by linarith, fun heq hne => absurd (by linarith) hne⟩
    · rw [not_or, not_lt, not_and] at hu
      rw [abs_of_nonpos (sub_nonpos.mpr hle)]
      rcases hw with hw | hw
      · rw [abs_of_nonpos (by linarith)]
        exact ⟨by linarith, fun heq hne => absurd (by linarith) hne⟩
      · rw [abs_of_nonneg (by linarith)]
        refine ⟨by linarith, fun heq _ => ?_⟩
        have := hu.2 (by linarith)
        omega
  case rz =>
    obtain rfl : d = c := by simpa using hchoice
    exact hdown
  case ru =>
    cases neg
    · rcases hchoice with ⟨rfl, -, hne⟩ | ⟨rfl, hu⟩
      · exact hup hne
      · exact hsame (by simpa using hu)
    · obtain rfl : d = c := by simpa using hchoice
      exact hdown
  case rd =>
    cases neg
    · obtain rfl : d = c := by simpa using hchoice
      exact hdown
    · rcases hchoice with ⟨rfl, -, hne⟩ | ⟨rfl, hu⟩
      · exact hup hne
      · exact hsame (by simpa using hu)

/-- A choice within the format, with its flags, is the number rounded once. -/
theorem rounded_of_chosen (hF : Regular F) (h : Chosen md neg (magVal F) y c d) (hd : d ≤ F.maxCode) {inexact tiny : Bool}
    (hinexact : inexact = true ↔ y ≠ magVal F c) (htiny : inexact = true → (tiny = true ↔ Tiny F md (signOf neg * y))) :
    Rounded F md (signOf neg * y) (signBit F neg + d) (flagIf inexact flInexact ||| flagIf (inexact && tiny) flUnderflow) := by
  have hy := h.nonneg
  have hover : ¬ Overflows F md (signOf neg * y) := by rw [overflows_iff hF h]; omega
  have hwidth : signBit F neg + d < 2 ^ F.width := by
    have hlt := hd.trans_lt hF.maxCode_lt
    have hpow : 2 ^ F.width = 2 * 2 ^ (F.width - 1) := by rw [← pow_succ']; congr 1; have := hF.m_lt; omega
    cases neg <;> simp [signBit] <;> omega
  have hpar : (signBit F neg + d) % 2 = d % 2 := by
    have hdvd : 2 ∣ 2 ^ (F.width - 1) := dvd_pow_self 2 (by have := hF.m_lt; omega)
    cases neg <;> simp [signBit]
    omega
  have hbits : ∀ i t : Bool, let fl := flagIf i flInexact ||| flagIf (i && t) flUnderflow
      fl.getLsbD 0 = i ∧ fl.getLsbD 1 = (i && t) ∧ fl.getLsbD 2 = false ∧ fl.getLsbD 3 = false ∧ fl.getLsbD 4 = false := by decide
  obtain ⟨h0, h1, h2, h3, h4⟩ := hbits inexact tiny
  have hval := codeVal_signBit_add hF neg hd
  have hdiff : ∀ v : ℝ, |signOf neg * v - signOf neg * y| = |v - y| := fun v => by rw [← mul_sub, abs_mul, abs_signOf, one_mul]
  unfold Rounded
  rw [h0, h1, h2, h3, h4]
  refine ⟨hwidth, by simp [hover], ?_, rfl, rfl, ?_⟩
  · cases inexact
    · simp
    · simpa using htiny rfl
  rw [if_neg Bool.false_ne_true]
  refine ⟨_, hval, ?_, fun r w hw => ?_⟩
  · rw [hinexact, ne_eq, ne_eq, ← h.exact_iff, mul_right_inj' (by cases neg <;> simp [signOf])]
  · obtain ⟨w', rfl⟩ : ∃ w', w = signOf neg * w' := ⟨signOf neg * w, by rw [← mul_assoc, signOf_mul_self, one_mul]⟩
    have hbest := h.best (w := w') (by simpa [← mul_assoc] using number_le_or_ge hF neg c hw)
    have hdn := magVal_nonneg F d
    cases md
    case rn =>
      simp only [hdiff, hpar] at hbest ⊢
      exact ⟨hbest.1, fun heq hne => hbest.2 heq fun he => hne (by rw [he])⟩
    case rz =>
      simp only [abs_signOf_mul hdn, abs_signOf_mul hy, mul_mul_mul_comm _ _ (signOf neg) y, signOf_mul_self, one_mul]
      refine ⟨hbest.1, mul_nonneg hdn hy, fun hw1 hw2 => ?_⟩
      rw [abs_mul, abs_signOf, one_mul] at hw1 ⊢
      rcases hy.eq_or_lt with rfl | hpos
      · exact hw1.trans hdn
      · have := nonneg_of_mul_nonneg_left hw2 hpos
        rw [abs_of_nonneg this] at hw1 ⊢
        exact hbest.2 hw1
    case ru => cases neg <;> simpa [signOf] using hbest
    case rd => cases neg <;> simpa [signOf] using hbest

/-- A normal number is not tiny. -/
theorem not_tiny (h : minNormal F ≤ y) : ¬ Tiny F md (signOf neg * y) := by
  have hy : 0 ≤ y := (two_zpow_pos _).le.trans h
  have hgap := lowGap_pos F
  rintro ⟨-, ht⟩
  cases md <;> simp only [signOf_mul_pos hy, signOf_mul_neg hy, abs_signOf_mul hy] at ht
  · linarith
  · linarith
  · split_ifs at ht with hs
    · obtain ⟨rfl, -⟩ := hs
      have : signOf false * y = y := one_mul y
      linarith
    · linarith
  · split_ifs at ht <;> linarith

/-- A number more than the gap below the least normal one is tiny. -/
theorem tiny_of_lt (hpos : 0 < y) (h : y < minNormal F - lowGap F) : Tiny F md (signOf neg * y) := by
  have hgap := lowGap_pos F
  refine ⟨mul_ne_zero (by cases neg <;> simp [signOf]) hpos.ne', ?_⟩
  cases md <;> simp only [signOf_mul_pos hpos.le, signOf_mul_neg hpos.le, abs_signOf_mul hpos.le]
  · linarith
  · linarith
  · split_ifs with hs
    · obtain ⟨rfl, -⟩ := hs
      have : signOf false * y = y := one_mul y
      linarith
    · linarith
  · split_ifs <;> linarith

/-- Within the gap below the least normal number, a number is tiny if it is not rounded up. -/
theorem tiny_iff_not_roundsUp {odd : Prop} (hodd : odd) (hle : minNormal F - lowGap F ≤ y) (hlt : y < minNormal F) (hpos : 0 < y) :
    Tiny F md (signOf neg * y) ↔ ¬ RoundsUp md neg odd (minNormal F - lowGap F) (minNormal F) y := by
  have hne : signOf neg * y ≠ 0 := mul_ne_zero (by cases neg <;> simp [signOf]) hpos.ne'
  unfold Tiny RoundsUp
  rw [and_iff_right hne]
  cases md <;> simp only [signOf_mul_pos hpos.le, signOf_mul_neg hpos.le, abs_signOf_mul hpos.le, hpos, and_true]
  · rw [and_iff_left hodd, ← le_iff_lt_or_eq', not_le]
    constructor <;> intro <;> linarith
  · simp [hlt]
  · cases neg
    · simpa [signOf] using ⟨fun h => le_antisymm h hle, le_of_eq⟩
    · simp [hlt]
  · cases neg
    · simp [hlt]
    · simpa using ⟨fun h => le_antisymm h hle, le_of_eq⟩

/-- What is beyond the greatest number rounds to infinity, where the format has one (R53). -/
def toInf (md : RMode) (neg : Bool) : Bool :=
  match md with
  | .rn => true
  | .rz => false
  | .ru => !neg
  | .rd => neg

/-- A choice past the greatest number gives the infinity or the greatest number (R53, R54), with overflow and inexact (R56). -/
theorem rounded_overflow (hF : Regular F) (h : Chosen md neg (magVal F) y c d) (hd : F.maxCode < d) :
    Rounded F md (signOf neg * y) (if F.sat || !toInf md neg then maxCodeOf F neg else infCode F neg) flOverflowInexact := by
  have hy := h.nonneg
  have hover : Overflows F md (signOf neg * y) := (overflows_iff hF h).mpr hd
  have hc : F.maxCode ≤ c := by rcases h.eq_or with h | h <;> omega
  have hnormal : minNormal F ≤ y := by
    rw [← magVal_normal]
    exact ((magVal_strictMono F).monotone (hF.normal_max.trans hc)).trans h.le
  have hpos : 0 < y := (two_zpow_pos _).trans_le hnormal
  have htiny := not_tiny (md := md) (neg := neg) hnormal
  have hpow : 2 ^ F.width = 2 * 2 ^ (F.width - 1) := by rw [← pow_succ']; congr 1; have := hF.m_lt; omega
  have hmax := hF.maxCode_lt
  have hsign : ∀ n, (n = true ↔ signOf neg * y < 0) → n = neg := fun n hn =>
    Bool.eq_iff_iff.mpr (by simpa [signOf_mul_neg hy, hpos] using hn)
  refine ⟨?_, iff_of_true rfl hover, iff_of_false (by decide) fun h => htiny h.1, rfl, rfl, ?_⟩
  · have hm := Nat.two_pow_pos F.m
    have hw := Nat.two_pow_pos (F.width - 1)
    split
    · cases neg <;> simp [maxCodeOf, signBit] <;> omega
    · cases neg <;> simp [infCode, signBit] <;> omega
  · rw [if_pos (by decide)]
    have hto : (F.sat = true ∨ md = .rz ∨ (md = .ru ∧ signOf neg * y < 0) ∨ (md = .rd ∧ 0 < signOf neg * y)) ↔
        (F.sat || !toInf md neg) = true := by
      rw [signOf_mul_neg hy, signOf_mul_pos hy]
      cases md <;> cases neg <;> simp [toInf, hpos]
    refine ⟨by decide, fun hcond n hn => ?_, fun hcond n hn => ?_⟩
    · rw [hsign n hn, if_pos (hto.mp hcond)]
    · rw [hsign n hn, if_neg (fun h => hcond (hto.mpr h))]

end Choice

/-! ## `pack` -/

/-- A significand one longer than the format's takes the next exponent. -/
def carry (F : Fmt) (r : Nat) (e : Int) : Nat × Int := (if r = 2 ^ (F.m + 1) then 2 ^ F.m else r, if r = 2 ^ (F.m + 1) then e + 1 else e)

/-- The code of a rounded significand at a place. -/
def codeAt (F : Fmt) (r : Nat) (e : Int) : Nat := encodeMag F (carry F r e).1 (carry F r e).2

/-- The exponent of the least bit of a significand that keeps the format's length. -/
def leadPlace (F : Fmt) (man : Nat) (exp : Int) : Int := exp + bitLen man - (F.m + 1 : Nat)

/-- The least place that the format has for such a number. -/
def finalPlace (F : Fmt) (man : Nat) (exp : Int) : Int := if leadPlace F man exp < minExp F then minExp F else leadPlace F man exp

/-- Rounded with no bound on the exponent, the number lies below the least normal one. -/
def tinyBits (F : Fmt) (md : RMode) (neg : Bool) (man : Nat) (exp : Int) (sticky : Bool) : Bool :=
  decide ((carry F (roundShift md neg man sticky (leadPlace F man exp - exp)).1 (leadPlace F man exp)).2 + F.m + F.bias < 1)

/-- `pack` of a number in these words. -/
theorem pack_fin {F : Fmt} {md : RMode} {neg : Bool} {man : Nat} {exp : Int} {sticky : Bool} (h : ¬ (man = 0 ∧ sticky = false)) :
    let u := roundShift md neg man sticky (leadPlace F man exp - exp)
    let r := roundShift md neg man sticky (finalPlace F man exp - exp)
    let tiny := tinyBits F md neg man exp sticky
    pack F md (.fin neg man exp sticky) =
      if !tiny && decide (F.maxCode < codeAt F u.1 (leadPlace F man exp)) then
        (if F.sat || !toInf md neg then maxCodeOf F neg else infCode F neg, flOverflowInexact)
      else (signBit F neg + codeAt F r.1 (finalPlace F man exp), flagIf r.2 flInexact ||| flagIf (r.2 && tiny) flUnderflow) := by
  have h' : ¬ (decide (man = 0) && !sticky) = true := by simpa using h
  simp only [pack]
  rw [if_neg h']
  cases md <;> rfl

/-- A number of n bits lies in [2^(n - 1), 2^n). -/
theorem bitLen_spec {n : Nat} (h : n ≠ 0) : 2 ^ (bitLen n - 1) ≤ n ∧ n < 2 ^ bitLen n ∧ 1 ≤ bitLen n := by
  rw [bitLen, if_neg h, Nat.add_sub_cancel]
  exact ⟨Nat.log2_self_le h, Nat.lt_log2_self, by omega⟩

section Pack
variable {F : Fmt} {md : RMode} {neg : Bool} {man : Nat} {exp : Int} {sticky : Bool} {y : ℝ}

/-- The leading bit of a magnitude stands at the top of the significand at its leading place. -/
theorem leadPlace_spec (hman : man ≠ 0) (hy : Magnitude man exp sticky y) :
    2 ^ F.m * (2 : ℝ) ^ leadPlace F man exp ≤ y ∧ y < 2 ^ (F.m + 1) * (2 : ℝ) ^ leadPlace F man exp := by
  obtain ⟨hlo, hhi, hpos⟩ := bitLen_spec hman
  have hexp := two_zpow_pos exp
  rw [← zpow_natCast, ← zpow_natCast, ← zpow_add₀ two_ne_zero, ← zpow_add₀ two_ne_zero]
  constructor
  · calc (2 : ℝ) ^ ((F.m : Int) + leadPlace F man exp) = (2 ^ (bitLen man - 1) : Nat) * 2 ^ exp := by
          push_cast; rw [← zpow_natCast, ← zpow_add₀ two_ne_zero, leadPlace]; congr 1; omega
      _ ≤ man * 2 ^ exp := by gcongr
      _ ≤ y := hy.le
  · calc y < (man + 1 : Nat) * 2 ^ exp := by exact_mod_cast hy.lt
      _ ≤ (2 ^ bitLen man : Nat) * 2 ^ exp := by gcongr; omega
      _ = 2 ^ (((F.m + 1 : Nat) : Int) + leadPlace F man exp) := by
          push_cast; rw [← zpow_natCast, ← zpow_add₀ two_ne_zero, leadPlace]; congr 1; omega

/-- A whole number of places between bounds. -/
theorem multiple_lt_iff {e : Int} {q n : Nat} : multiple e q < multiple e n ↔ q < n := by
  rw [multiple, multiple, mul_lt_mul_iff_left₀ (two_zpow_pos e), Nat.cast_lt]
theorem multiple_le_iff {e : Int} {q n : Nat} : multiple e q ≤ multiple e n ↔ q ≤ n := by
  rw [multiple, multiple, mul_le_mul_iff_left₀ (two_zpow_pos e), Nat.cast_le]

/-- A choice at a place that the format has is a choice between codes. -/
theorem chosen_encodeMag (hF : Regular F) {e : Int} {q r : Nat} (h : Chosen md neg (multiple e) y q r) (hq : q < 2 ^ (F.m + 1)) (he : minExp F ≤ e)
    (hn : 2 ^ F.m ≤ q ∨ e = minExp F) :
    Chosen md neg (magVal F) y (encodeMag F q e) (codeAt F r e) ∧ magVal F (encodeMag F q e) = multiple e q := by
  obtain ⟨hval, hplace, hpar⟩ := magVal_encodeMag F hq he hn
  have hnext : magVal F (encodeMag F q e + 1) = multiple e (q + 1) := by
    rw [magVal_succ, hval, hplace, multiple]; push_cast; ring
  have hcode : (r = q + 1 → codeAt F r e = encodeMag F q e + 1) ∧
      (r = q → codeAt F r e = encodeMag F q e) := by
    refine ⟨?_, ?_⟩ <;> rintro rfl
    · exact encodeMag_succ F hq he hn
    · simp [codeAt, carry, hq.ne]
  obtain ⟨hle, hlt, hchoice⟩ := h
  refine ⟨⟨hval.trans_le hle, hlt.trans_eq hnext.symm, ?_⟩, hval⟩
  rw [hpar hF.m_pos, hnext, show magVal F (encodeMag F q e) = multiple e q from hval]
  exact hchoice.imp (fun h => ⟨hcode.1 h.1, h.2⟩) (fun h => ⟨hcode.2 h.1, h.2⟩)

theorem lt_leadPlace (hs : sticky = true → 2 ^ (F.m + 1) ≤ man) (h : sticky = true) : exp < leadPlace F man exp := by
  have hm := hs h
  have hman : man ≠ 0 := by have := Nat.two_pow_pos (F.m + 1); omega
  have := (Nat.pow_lt_pow_iff_right (by norm_num : 1 < 2)).mp (hm.trans_lt (bitLen_spec hman).2.1)
  unfold leadPlace
  omega

/-- What is kept at the leading place has the length of the format's significands. -/
theorem chosen_leadPlace_length (hman : man ≠ 0) (hy : Magnitude man exp sticky y) {q r : Nat}
    (h : Chosen md neg (multiple (leadPlace F man exp)) y q r) :
    2 ^ F.m ≤ q ∧ q < 2 ^ (F.m + 1) := by
  obtain ⟨hlo, hhi⟩ := leadPlace_spec (F := F) hman hy
  constructor
  · refine Nat.lt_succ_iff.mp (multiple_lt_iff.mp (lt_of_le_of_lt ?_ h.lt))
    simpa [multiple] using hlo
  · refine multiple_lt_iff.mp (h.le.trans_lt ?_)
    simpa [multiple] using hhi

/-- Tininess before the exponent is bounded (R56). -/
theorem tinyBits_iff (hman : man ≠ 0) (hy : Magnitude man exp sticky y) (hs : sticky = true → 2 ^ (F.m + 1) ≤ man) :
    tinyBits F md neg man exp sticky = true ↔ Tiny F md (signOf neg * y) := by
  obtain ⟨q, hch, -⟩ := roundShift_chosen md neg hy (lt_leadPlace (F := F) (exp := exp) hs)
  obtain ⟨hq, hq'⟩ := chosen_leadPlace_length hman hy hch
  obtain ⟨hlo, hhi⟩ := leadPlace_spec (F := F) hman hy
  have hpos : 0 < y := (mul_pos (by positivity) (two_zpow_pos _)).trans_le hlo
  unfold tinyBits carry
  generalize (roundShift md neg man sticky (leadPlace F man exp - exp)).1 = r at hch
  generalize leadPlace F man exp = e at *
  have hmin : minExp F = 1 - (F.bias : Int) - F.m := rfl
  rcases lt_trichotomy (e + 1) (minExp F) with he | he | he
  · have hhalf : y < minNormal F - lowGap F := calc
      y < 2 ^ (F.m + 1) * 2 ^ e := hhi
      _ ≤ 2 ^ (F.m + 1) * 2 ^ (minExp F - 1 - 1) := by gcongr <;> [norm_num; omega]
      _ = minNormal F / 2 := by rw [minNormal_eq, zpow_sub_one₀ two_ne_zero]; ring
      _ ≤ minNormal F - lowGap F := by linarith [two_mul_lowGap_le F]
    exact iff_of_true (decide_eq_true (by split_ifs <;> omega)) (tiny_of_lt hpos hhalf)
  · obtain rfl : e = minExp F - 1 := by omega
    by_cases hqtop : q + 1 = 2 ^ (F.m + 1)
    · have hb : multiple (minExp F - 1) (q + 1) = minNormal F := by rw [minNormal_eq, multiple, hqtop]; push_cast; rfl
      have ha : multiple (minExp F - 1) q = minNormal F - lowGap F := by rw [← hb, lowGap_eq, multiple, multiple]; push_cast; ring
      have hodd : q % 2 = 1 := by rw [pow_succ] at hqtop; omega
      obtain ⟨hle, hlt, hchoice⟩ := hch
      rw [ha, hb] at hchoice
      rw [tiny_iff_not_roundsUp hodd (ha ▸ hle) (hb ▸ hlt) hpos, decide_eq_true_iff]
      rcases hchoice with ⟨rfl, hu⟩ | ⟨rfl, hu⟩
      · simp only [hqtop, if_true, hu, not_true, iff_false]
        omega
      · simp only [hq'.ne, if_false, hu, not_false_iff, iff_true]
        omega
    · have hr : r ≠ 2 ^ (F.m + 1) := by rcases hch.choice with ⟨rfl, -⟩ | ⟨rfl, -⟩ <;> omega
      have hlt : y < minNormal F - lowGap F := calc
        y < multiple (minExp F - 1) (q + 1) := hch.lt
        _ ≤ multiple (minExp F - 1) (2 ^ (F.m + 1) - 1) := multiple_le_iff.mpr (by omega)
        _ = minNormal F - lowGap F := by
          rw [minNormal_eq, lowGap_eq, multiple, Nat.cast_sub Nat.one_le_two_pow]; push_cast; ring
      refine iff_of_true (decide_eq_true ?_) (tiny_of_lt hpos hlt)
      rw [if_neg hr]
      omega
  · have hnormal : minNormal F ≤ y := calc
      minNormal F = 2 ^ F.m * 2 ^ minExp F := by rw [minNormal_eq, zpow_sub_one₀ two_ne_zero]; ring
      _ ≤ 2 ^ F.m * 2 ^ e := by gcongr <;> [norm_num; omega]
      _ ≤ y := hlo
    exact iff_of_false (by rw [decide_eq_true_iff]; split_ifs <;> omega) (not_tiny hnormal)

/-- A magnitude that is not zero is rounded once (R52). With a sticky bit its significand has to be longer than the format's. -/
theorem rounded_pack_of_pos (hF : Regular F) (hman : man ≠ 0) (hy : Magnitude man exp sticky y) (hs : sticky = true → 2 ^ (F.m + 1) ≤ man) :
    Rounded F md (signOf neg * y) (pack F md (.fin neg man exp sticky)).1 (pack F md (.fin neg man exp sticky)).2 := by
  have hlead := lt_leadPlace (F := F) (exp := exp) hs
  have hfinal : leadPlace F man exp ≤ finalPlace F man exp := by unfold finalPlace; split <;> omega
  have hmin : minExp F ≤ finalPlace F man exp := by unfold finalPlace; split <;> omega
  have htiny := tinyBits_iff (md := md) (neg := neg) hman hy hs
  obtain ⟨q, hch, hinexact⟩ := roundShift_chosen md neg hy fun h => (hlead h).trans_le hfinal
  obtain ⟨hlo, hhi⟩ := leadPlace_spec (F := F) hman hy
  have hq : q < 2 ^ (F.m + 1) := multiple_lt_iff.mp <| calc
    multiple (finalPlace F man exp) q ≤ y := hch.le
    _ < 2 ^ (F.m + 1) * 2 ^ leadPlace F man exp := hhi
    _ ≤ 2 ^ (F.m + 1) * 2 ^ finalPlace F man exp := by gcongr; norm_num
    _ = multiple (finalPlace F man exp) (2 ^ (F.m + 1)) := by simp [multiple]
  have hn : 2 ^ F.m ≤ q ∨ finalPlace F man exp = minExp F := by
    by_cases he : leadPlace F man exp < minExp F
    · exact .inr (if_pos he)
    · have heq : finalPlace F man exp = leadPlace F man exp := if_neg he
      rw [heq] at hch
      exact .inl (chosen_leadPlace_length hman hy hch).1
  obtain ⟨hcode, hval⟩ := chosen_encodeMag hF hch hq hmin hn
  rw [← hval] at hinexact
  rw [pack_fin (by simp [hman])]
  by_cases he : leadPlace F man exp < minExp F
  · -- below the least normal place nothing overflows
    have heq : finalPlace F man exp = minExp F := if_pos he
    have hsmall : q < 2 ^ F.m := multiple_lt_iff.mp <| calc
      multiple (finalPlace F man exp) q ≤ y := hch.le
      _ < 2 ^ (F.m + 1) * 2 ^ leadPlace F man exp := hhi
      _ ≤ 2 ^ (F.m + 1) * 2 ^ (minExp F - 1) := by gcongr <;> [norm_num; omega]
      _ = multiple (finalPlace F man exp) (2 ^ F.m) := by rw [heq, multiple, zpow_sub_one₀ two_ne_zero]; push_cast; ring
    have hd : codeAt F (roundShift md neg man sticky (finalPlace F man exp - exp)).1 (finalPlace F man exp) ≤ F.maxCode := by
      have hc : encodeMag F q (finalPlace F man exp) = q := if_pos hsmall
      have := hF.normal_max
      rcases hcode.eq_or with h | h <;> omega
    have hnot : (!tinyBits F md neg man exp sticky &&
        decide (F.maxCode < codeAt F (roundShift md neg man sticky (leadPlace F man exp - exp)).1 (leadPlace F man exp))) = false := by
      have := hF.normal_max
      have hm : minExp F = 1 - (F.bias : Int) - F.m := rfl
      unfold tinyBits codeAt carry
      split_ifs with hr
      · by_cases ht : leadPlace F man exp + 1 + F.m + F.bias < 1
        · simp [ht]
        · have : (leadPlace F man exp + 1 + F.m + F.bias).toNat = 1 := by omega
          simp [encodeMag, this, hF.normal_max]
      · simp; omega
    rw [hnot]
    exact rounded_of_chosen hF hcode hd hinexact fun _ => htiny
  · have heq : finalPlace F man exp = leadPlace F man exp := if_neg he
    have hnt : tinyBits F md neg man exp sticky = false := by
      have hm : minExp F = 1 - (F.bias : Int) - F.m := rfl
      unfold tinyBits carry
      rw [decide_eq_false_iff_not]
      split_ifs <;> omega
    rw [heq] at hcode hinexact ⊢
    rw [hnt] at htiny ⊢
    by_cases hd : F.maxCode < codeAt F (roundShift md neg man sticky (leadPlace F man exp - exp)).1 (leadPlace F man exp)
    · rw [if_pos (by simpa using hd)]
      exact rounded_overflow hF hcode hd
    · rw [if_neg (by simpa using hd)]
      exact rounded_of_chosen hF hcode (not_lt.mp hd) hinexact fun _ => htiny

/-- A zero is kept, with its sign and without a flag. -/
theorem rounded_zero (hF : Regular F) (neg : Bool) : Rounded F md 0 (signBit F neg) 0#5 := by
  have hch : Chosen md neg (magVal F) 0 0 0 := by
    have hlt : magVal F 0 < magVal F 1 := magVal_strictMono F Nat.zero_lt_one
    exact ⟨(magVal_zero F).le, magVal_zero F ▸ hlt, .inr ⟨rfl, by simpa using not_roundsUp_self hlt⟩⟩
  simpa [flagIf] using rounded_of_chosen hF hch (Nat.zero_le _) (inexact := false) (tiny := false) (by simp) (by simp)

end Pack

/-- Rounding an exact number, or one known to lie above a significand longer than the format's (R52). -/
theorem rounded_pack {F : Fmt} (hF : Regular F) {md : RMode} {neg : Bool} {man : Nat} {exp : Int} {sticky : Bool} {y : ℝ}
    (hy : Magnitude man exp sticky y) (hs : sticky = true → 2 ^ (F.m + 1) ≤ man) :
    Rounded F md (signOf neg * y) (pack F md (.fin neg man exp sticky)).1 (pack F md (.fin neg man exp sticky)).2 := by
  by_cases hman : man = 0
  · obtain rfl : sticky = false := Bool.eq_false_iff.mpr fun h => by have := hs h; have := Nat.two_pow_pos (F.m + 1); omega
    obtain rfl : y = 0 := by simpa [Magnitude, hman] using hy
    simpa [pack, hman] using rounded_zero hF neg
  · exact rounded_pack_of_pos hF hman hy hs

/-- Settles O9: the bits that `pack` cuts off decide between the two numbers next to the exact one as the mode asks. -/
theorem roundingIsCorrect : Obligations.RoundingIsCorrect := by
  intro F hF md neg man exp x hx
  rw [realOf_fin] at hx
  obtain rfl := Option.some.inj hx
  exact rounded_pack (regular_of_mem hF) (y := man * (2 : ℝ) ^ exp) rfl (by simp)

end Sys2Proof.Proofs
end

section
/-!
PROOF. Arithmetic rounds once (O10): the exact operations give the real sum, product, quotient and root, the last two up to a sticky bit that
stands below a significand longer than any format's.
-/
namespace Sys2Proof.Proofs
open Sys2Proof Sys2Proof.Machine Sys2Proof.Claim

/-! ## Exact values as reals -/

/-- A code that stands for a number, taken apart. -/
theorem unpack_of_codeVal {F : Fmt} (hF : Regular F) {x : Nat} {a : ℝ} (h : codeVal F x = some a) :
    ∃ neg man exp, unpack F x = (.fin neg man exp false, false) ∧ a = signOf neg * (man * (2 : ℝ) ^ exp) := by
  obtain ⟨hle, rfl⟩ := (codeVal_eq_some_iff hF).mp h
  obtain ⟨man, -, hu, hv⟩ := unpack_of_le hF hle
  exact ⟨_, man, _, hu, by rw [hv]⟩

theorem signOf_ne (a b : Bool) : signOf (a != b) = signOf a * signOf b := by cases a <;> cases b <;> simp [signOf]

theorem signOf_not (a : Bool) : signOf (!a) = -signOf a := by cases a <;> simp [signOf]

theorem signed_cast (n : Bool) (m : Nat) : ((signed n m : Int) : ℝ) = signOf n * m := by cases n <;> simp [signed, signOf]

theorem intCast_eq_signOf_mul (x : Int) : (x : ℝ) = signOf (decide (x < 0)) * x.natAbs := by
  rcases lt_or_ge x 0 with h | h
  · simp [signOf, h, abs_of_neg]
  · simp [signOf, h, not_lt.mpr h, abs_of_nonneg]

/-- An integer times a power of two is rounded once. -/
theorem rounded_ofInt {F : Fmt} (hF : Regular F) {md : RMode} (x exp : Int) (zeroNeg : Bool) :
    Rounded F md (x * (2 : ℝ) ^ exp) (pack F md (ofInt x exp zeroNeg)).1 (pack F md (ofInt x exp zeroNeg)).2 := by
  unfold ofInt
  split_ifs with hx
  · subst hx
    simpa using rounded_pack hF (md := md) (neg := zeroNeg) (man := 0) (exp := 0) (sticky := false) (y := 0) (by simp [Magnitude]) (by simp)
  · rw [intCast_eq_signOf_mul, mul_assoc]
    exact rounded_pack hF rfl (by simp)

theorem mul_zpow_toNat {e e' : Int} (m : Nat) (h : e' ≤ e) : ((m * 2 ^ (e - e').toNat : Nat) : ℝ) * 2 ^ e' = m * 2 ^ e := by
  push_cast
  rw [mul_assoc, ← zpow_natCast, ← zpow_add₀ two_ne_zero, Int.toNat_of_nonneg (by omega), sub_add_cancel]

/-- The exact sum of two numbers. -/
theorem exactAdd_fin (md : RMode) (na nb : Bool) (ma mb : Nat) (ea eb : Int) : ∃ x e z,
    exactAdd md (.fin na ma ea false) (.fin nb mb eb false) = (ofInt x e z, 0#5) ∧
      (x : ℝ) * 2 ^ e = signOf na * (ma * (2 : ℝ) ^ ea) + signOf nb * (mb * (2 : ℝ) ^ eb) := by
  refine ⟨_, _, _, rfl, ?_⟩
  push_cast
  rw [signed_cast, signed_cast, add_mul, mul_assoc, mul_assoc, mul_zpow_toNat, mul_zpow_toNat] <;> split_ifs <;> omega

/-- The exact product of two numbers. -/
theorem exactMul_fin (na nb : Bool) (ma mb : Nat) (ea eb : Int) :
    exactMul (.fin na ma ea false) (.fin nb mb eb false) = (.fin (na != nb) (ma * mb) (ea + eb) false, 0#5) ∧
      signOf (na != nb) * (((ma * mb : Nat) : ℝ) * (2 : ℝ) ^ (ea + eb)) = signOf na * (ma * (2 : ℝ) ^ ea) * (signOf nb * (mb * (2 : ℝ) ^ eb)) := by
  refine ⟨rfl, ?_⟩
  rw [signOf_ne, zpow_add₀ two_ne_zero]
  push_cast
  ring

/-- A whole quotient, with a sticky bit for its remainder. -/
theorem magnitude_div (n : Nat) {d : Nat} (hd : d ≠ 0) (exp : Int) : Magnitude (n / d) exp (decide (n % d ≠ 0)) (n / d * (2 : ℝ) ^ exp) := by
  have hpos := two_zpow_pos exp
  have hd' : (0 : ℝ) < d := by exact_mod_cast Nat.pos_of_ne_zero hd
  have hn : (n : ℝ) = d * (n / d : Nat) + (n % d : Nat) := by exact_mod_cast (Nat.div_add_mod n d).symm
  have hlt : ((n % d : Nat) : ℝ) < d := by exact_mod_cast Nat.mod_lt n (Nat.pos_of_ne_zero hd)
  unfold Magnitude
  by_cases hr : n % d = 0
  · rw [hr, Nat.cast_zero, add_zero] at hn
    rw [if_neg (by simpa using hr), hn, mul_div_cancel_left₀ _ hd'.ne']
  · have hr' : (0 : ℝ) < (n % d : Nat) := by exact_mod_cast Nat.pos_of_ne_zero hr
    rw [if_pos (by simpa using hr), mul_lt_mul_iff_left₀ hpos, mul_lt_mul_iff_left₀ hpos, lt_div_iff₀ hd', div_lt_iff₀ hd']
    constructor <;> nlinarith

/-- The integer root: the bits tried so far keep it between two neighbours of their place. -/
theorem isqrtFrom_spec (n : Nat) : ∀ i r, r * r ≤ n → n < (r + 2 ^ i) * (r + 2 ^ i) →
    isqrtFrom n i r * isqrtFrom n i r ≤ n ∧ n < (isqrtFrom n i r + 1) * (isqrtFrom n i r + 1)
  | 0, r, hlo, hhi => ⟨hlo, hhi⟩
  | i + 1, r, hlo, hhi => by
    unfold isqrtFrom
    split_ifs with h
    · exact isqrtFrom_spec n i _ h (by rwa [show r + 2 ^ i + 2 ^ i = r + 2 ^ (i + 1) by ring])
    · exact isqrtFrom_spec n i r hlo (not_le.mp h)

theorem isqrt_eq (n : Nat) : isqrt n = Nat.sqrt n := by
  have hn : n < 2 ^ (bitLen n / 2 + 1) * 2 ^ (bitLen n / 2 + 1) := by
    rw [← pow_add]
    by_cases h : n = 0
    · simp [h]
    · exact (bitLen_spec h).2.1.trans_le (Nat.pow_le_pow_right two_pos (by omega))
  obtain ⟨hlo, hhi⟩ := isqrtFrom_spec n (bitLen n / 2 + 1) 0 (Nat.zero_le _) (by simpa using hn)
  exact le_antisymm (Nat.le_sqrt.mpr hlo) (Nat.lt_succ_iff.mp (Nat.sqrt_lt.mpr hhi))

/-- A whole root, with a sticky bit for what is left. -/
theorem magnitude_sqrt (n : Nat) (exp : Int) : Magnitude (isqrt n) exp (decide (isqrt n * isqrt n ≠ n)) (Real.sqrt n * (2 : ℝ) ^ exp) := by
  have hpos := two_zpow_pos exp
  rw [isqrt_eq]
  unfold Magnitude
  by_cases h : Nat.sqrt n * Nat.sqrt n = n
  · rw [if_neg (by simpa using h)]
    congr 1
    rw [Real.sqrt_eq_iff_mul_self_eq (by positivity) (by positivity)]
    exact_mod_cast h.symm
  · have hlo : Nat.sqrt n * Nat.sqrt n < n := lt_of_le_of_ne (Nat.sqrt_le n) h
    rw [if_pos (by simpa using h), mul_lt_mul_iff_left₀ hpos, mul_lt_mul_iff_left₀ hpos, Real.lt_sqrt (by positivity), Real.sqrt_lt' (by positivity), sq, sq]
    exact ⟨by exact_mod_cast hlo, by exact_mod_cast Nat.lt_succ_sqrt n⟩

/-! ## Operations on codes -/

section Operations
variable {F : Fmt} (hF : Regular F) {md : RMode} {x y z : Nat} {a b c : ℝ}
include hF

theorem rounded_fAdd (hx : codeVal F x = some a) (hy : codeVal F y = some b) : Rounded F md (a + b) (fAdd F md x y).1 (fAdd F md x y).2 := by
  obtain ⟨na, ma, ea, hua, rfl⟩ := unpack_of_codeVal hF hx
  obtain ⟨nb, mb, eb, hub, rfl⟩ := unpack_of_codeVal hF hy
  obtain ⟨s, e, w, hadd, hs⟩ := exactAdd_fin md na nb ma mb ea eb
  simpa [fAdd, hua, hub, hadd, snan, flagIf, ← hs] using rounded_ofInt hF s e w

theorem rounded_fSub (hx : codeVal F x = some a) (hy : codeVal F y = some b) : Rounded F md (a - b) (fSub F md x y).1 (fSub F md x y).2 := by
  obtain ⟨na, ma, ea, hua, rfl⟩ := unpack_of_codeVal hF hx
  obtain ⟨nb, mb, eb, hub, rfl⟩ := unpack_of_codeVal hF hy
  obtain ⟨s, e, w, hadd, hs⟩ := exactAdd_fin md na (!nb) ma mb ea eb
  rw [signOf_not, neg_mul, ← sub_eq_add_neg] at hs
  simpa [fSub, hua, hub, negate, hadd, snan, flagIf, ← hs] using rounded_ofInt hF s e w

theorem rounded_fMul (hx : codeVal F x = some a) (hy : codeVal F y = some b) : Rounded F md (a * b) (fMul F md x y).1 (fMul F md x y).2 := by
  obtain ⟨na, ma, ea, hua, rfl⟩ := unpack_of_codeVal hF hx
  obtain ⟨nb, mb, eb, hub, rfl⟩ := unpack_of_codeVal hF hy
  obtain ⟨hmul, hp⟩ := exactMul_fin na nb ma mb ea eb
  rw [← hp]
  simpa [fMul, hua, hub, hmul, snan, flagIf] using
    rounded_pack hF (md := md) (neg := na != nb) (man := ma * mb) (exp := ea + eb) (sticky := false) rfl (by simp)

theorem rounded_fFma (hx : codeVal F x = some a) (hy : codeVal F y = some b) (hz : codeVal F z = some c) :
    Rounded F md (a * b + c) (fFma F md x y z).1 (fFma F md x y z).2 := by
  obtain ⟨na, ma, ea, hua, rfl⟩ := unpack_of_codeVal hF hx
  obtain ⟨nb, mb, eb, hub, rfl⟩ := unpack_of_codeVal hF hy
  obtain ⟨nc, mc, ec, huc, rfl⟩ := unpack_of_codeVal hF hz
  obtain ⟨hmul, hp⟩ := exactMul_fin na nb ma mb ea eb
  obtain ⟨s, e, w, hadd, hs⟩ := exactAdd_fin md (na != nb) nc (ma * mb) mc (ea + eb) ec
  rw [← hp, ← hs]
  simpa [fFma, hua, hub, huc, hmul, hadd, snan, flagIf] using rounded_ofInt hF s e w

/-- A quotient has more bits than any format keeps (R123). -/
theorem rounded_fDiv (hx : codeVal F x = some a) (hy : codeVal F y = some b) (hb : b ≠ 0) :
    Rounded F .rn (a / b) (fDiv F x y).1 (fDiv F x y).2 := by
  obtain ⟨na, ma, ea, hua, rfl⟩ := unpack_of_codeVal hF hx
  obtain ⟨nb, mb, eb, hub, rfl⟩ := unpack_of_codeVal hF hy
  have hmb : mb ≠ 0 := by rintro rfl; simp at hb
  by_cases hma : ma = 0
  · subst hma
    simpa [fDiv, hua, hub, exactDiv, hmb, rne, pack, snan, flagIf] using rounded_zero hF (md := .rn) (na != nb)
  · have hdiv : exactDiv (.fin na ma ea false) (.fin nb mb eb false) =
        (.fin (na != nb) (ma * 2 ^ (60 + bitLen mb) / mb) (ea - eb - (60 + bitLen mb : Nat))
          (decide (ma * 2 ^ (60 + bitLen mb) % mb ≠ 0)), 0#5) := by
      simp [exactDiv, hma, hmb]
    have hlong : 2 ^ (F.m + 1) ≤ ma * 2 ^ (60 + bitLen mb) / mb := by
      rw [Nat.le_div_iff_mul_le (Nat.pos_of_ne_zero hmb)]
      calc 2 ^ (F.m + 1) * mb ≤ 2 ^ 60 * 2 ^ bitLen mb := by
            gcongr
            · norm_num
            · have := hF.m_le; omega
            · exact (bitLen_spec hmb).2.1.le
        _ ≤ ma * 2 ^ (60 + bitLen mb) := by rw [pow_add]; exact Nat.le_mul_of_pos_left _ (Nat.pos_of_ne_zero hma)
    have hval : signOf na * (ma * (2 : ℝ) ^ ea) / (signOf nb * (mb * 2 ^ eb)) =
        signOf (na != nb) * ((ma * 2 ^ (60 + bitLen mb) : Nat) / mb * (2 : ℝ) ^ (ea - eb - (60 + bitLen mb : Nat))) := by
      have hsign : signOf nb ≠ 0 := by cases nb <;> simp [signOf]
      have hmb' : (mb : ℝ) ≠ 0 := by exact_mod_cast hmb
      rw [signOf_ne, zpow_sub₀ two_ne_zero, zpow_sub₀ two_ne_zero, zpow_natCast, div_eq_iff (by positivity)]
      push_cast
      field_simp
      rw [sq, signOf_mul_self, mul_one]
    rw [hval]
    simpa [fDiv, hua, hub, hdiv, rne, snan, flagIf] using
      rounded_pack hF (md := .rn) (neg := na != nb) (magnitude_div (ma * 2 ^ (60 + bitLen mb)) hmb _) (fun _ => hlong)

/-- So has a root. -/
theorem rounded_fSqrt (hx : codeVal F x = some a) (ha : 0 ≤ a) : Rounded F .rn (Real.sqrt a) (fSqrt F x).1 (fSqrt F x).2 := by
  obtain ⟨na, ma, ea, hua, rfl⟩ := unpack_of_codeVal hF hx
  by_cases hma : ma = 0
  · subst hma
    simpa [fSqrt, hua, exactSqrt, rne, pack, snan, flagIf] using rounded_zero hF (md := .rn) na
  · obtain rfl : na = false := by
      have : 0 < (ma : ℝ) * 2 ^ ea := mul_pos (by exact_mod_cast Nat.pos_of_ne_zero hma) (two_zpow_pos ea)
      cases na
      · rfl
      · simp [signOf] at ha; linarith
    obtain ⟨k, hk, hk128, heven⟩ : ∃ k : Nat, (if ea % 2 = 0 then 128 else 129) = k ∧ 128 ≤ k ∧ (ea - k) % 2 = 0 :=
      ⟨_, rfl, by split_ifs <;> omega, by split_ifs <;> omega⟩
    have hsqrt : exactSqrt (.fin false ma ea false) =
        (.fin false (isqrt (ma * 2 ^ k)) ((ea - k) / 2) (decide (isqrt (ma * 2 ^ k) * isqrt (ma * 2 ^ k) ≠ ma * 2 ^ k)), 0#5) := by
      rw [← hk]
      simp only [exactSqrt, if_neg hma, Bool.false_eq_true, if_false]
    have hlong : 2 ^ (F.m + 1) ≤ isqrt (ma * 2 ^ k) := by
      rw [isqrt_eq, Nat.le_sqrt, ← pow_add]
      calc 2 ^ (F.m + 1 + (F.m + 1)) ≤ 2 ^ k := Nat.pow_le_pow_right two_pos (by have := hF.m_le; omega)
        _ ≤ ma * 2 ^ k := Nat.le_mul_of_pos_left _ (Nat.pos_of_ne_zero hma)
    have hval : Real.sqrt (signOf false * (ma * (2 : ℝ) ^ ea)) = signOf false * (Real.sqrt (ma * 2 ^ k : Nat) * (2 : ℝ) ^ ((ea - k) / 2)) := by
      have hpow : (2 : ℝ) ^ ea = 2 ^ k * ((2 : ℝ) ^ ((ea - k) / 2)) ^ 2 := by
        rw [← zpow_natCast, ← zpow_natCast, ← zpow_mul, ← zpow_add₀ two_ne_zero]
        congr 1
        push_cast
        omega
      simp only [signOf, Bool.false_eq_true, if_false, one_mul]
      rw [hpow, ← mul_assoc, Real.sqrt_mul (by positivity), Real.sqrt_sq (by positivity)]
      push_cast
      rfl
    rw [hval]
    simpa [fSqrt, hua, hsqrt, rne, snan, flagIf] using
      rounded_pack hF (md := .rn) (neg := false) (magnitude_sqrt (ma * 2 ^ k) ((ea - k) / 2)) (fun _ => hlong)

end Operations

/-- Settles O10: each operation rounds its exact result. -/
theorem arithmeticRoundsOnce : Obligations.ArithmeticRoundsOnce := fun _ hF _ _ _ _ _ _ _ hx hy hz =>
  have hR := regular_of_mem hF
  ⟨rounded_fAdd hR hx hy, rounded_fSub hR hx hy, rounded_fMul hR hx hy, rounded_fFma hR hx hy hz, rounded_fDiv hR hx hy, rounded_fSqrt hR hx⟩

end Sys2Proof.Proofs
end

section
/-!
PROOF. Rounding a number known only by an interval (O60): if both ends round alike, and the number between them is none of the format, the
ends' common result is the number rounded once.
-/
namespace Sys2Proof.Proofs
open Sys2Proof Sys2Proof.Machine Sys2Proof.Claim

section Nearest
variable {F : Fmt} {x y lo hi : ℝ} {r : Nat} {fl : Flags}

/-- Rounding to nearest overflows further out as well. -/
theorem overflows_rn_mono (h : Overflows F .rn x) (hxy : |x| < |y|) : Overflows F .rn y :=
  .inl (h.elim (fun h => h.trans hxy) fun h => h.1.trans_lt hxy)

/-- What overflows is normal. -/
theorem minNormal_le_of_overflows (hF : Regular F) (h : Overflows F .rn x) : minNormal F ≤ |x| := by
  have hmax := minNormal_le_maxNum hF
  have hgap := topGap_pos hF
  rcases h with h | ⟨h, -⟩ <;> linarith

theorem not_tiny_of_overflows (hF : Regular F) (h : Overflows F .rn x) : ¬ Tiny F .rn x := fun ht => by
  have hgap := lowGap_pos F
  have hlt : |x| < minNormal F - lowGap F / 2 := ht.2
  linarith [minNormal_le_of_overflows hF h]

/-- Zero and the least normal number are numbers of every format. -/
theorem codeVal_zero (hF : Regular F) : codeVal F 0 = some 0 := by
  rw [codeVal_magnitude hF (Nat.zero_le _), magVal_zero]

theorem codeVal_normal (hF : Regular F) : codeVal F (2 ^ F.m) = some (minNormal F) := by
  rw [codeVal_magnitude hF hF.normal_max, magVal_normal]

/-- Where two numbers overflow on one side, one result serves both. -/
theorem rounded_of_overflows (hF : Regular F) (h : Rounded F .rn x r fl) (hx : Overflows F .rn x) (hy : Overflows F .rn y) (hsign : x < 0 ↔ y < 0) :
    Rounded F .rn y r fl := by
  obtain ⟨hr, hover, htiny, h3, h4, hres⟩ := h
  have h2 : fl.getLsbD 2 = true := hover.mpr hx
  have h1 : fl.getLsbD 1 = false := Bool.eq_false_iff.mpr fun h => not_tiny_of_overflows hF hx (htiny.mp h).1
  rw [if_pos h2] at hres
  refine ⟨hr, iff_of_true h2 hy, ?_, h3, h4, ?_⟩
  · rw [h1]; simp [not_tiny_of_overflows hF hy]
  · rw [if_pos h2]
    simpa [hsign] using hres

/-- Numbers nearer to zero than to any other round to zero, all with one result. -/
theorem rounded_of_vanishing (hF : Regular F) (h : Rounded F .rn x r fl) (hx : 0 < x) (hx' : 2 * x < magVal F 1) (hy : 0 < y)
    (hy' : 2 * y < magVal F 1) : Rounded F .rn y r fl := by
  have hsmall : ∀ z : ℝ, 0 < z → 2 * z < magVal F 1 → ¬ Overflows F .rn z ∧ Tiny F .rn z := fun z hz hz' => by
    have hle : magVal F 1 ≤ minNormal F := by
      rw [← magVal_normal]
      exact (magVal_strictMono F).monotone Nat.one_le_two_pow
    have hgap := two_mul_lowGap_le F
    have habs : |z| = z := abs_of_pos hz
    refine ⟨fun ho => ?_, hz.ne', ?_⟩
    · linarith [minNormal_le_of_overflows hF ho]
    · show |z| < minNormal F - lowGap F / 2
      linarith
  obtain ⟨hr, hover, htiny, h3, h4, hres⟩ := h
  have h2 : fl.getLsbD 2 = false := Bool.eq_false_iff.mpr fun h => (hsmall x hx hx').1 (hover.mp h)
  rw [h2, if_neg Bool.false_ne_true] at hres
  obtain ⟨v, hv, hinexact, hbest⟩ := hres
  have hnum : ∀ c w, codeVal F c = some w → w ≤ 0 ∨ magVal F 1 ≤ w := fun c w hw => by
    simpa [signOf] using number_le_or_ge hF false 0 hw
  have hnear : |v - x| ≤ x := by simpa [abs_of_pos hx] using (hbest 0 0 (codeVal_zero hF)).1
  obtain ⟨hlo, hhi⟩ := abs_le.mp hnear
  obtain rfl : v = 0 := by
    have := (hnum r v hv).resolve_right (by linarith)
    linarith
  have h0 : fl.getLsbD 0 = true := hinexact.mpr hx.ne
  refine ⟨hr, by rw [h2]; simp [(hsmall y hy hy').1], ?_, h3, h4, ?_⟩
  · rw [htiny]
    simp [(hsmall x hx hx').2, (hsmall y hy hy').2]
  rw [h2, if_neg Bool.false_ne_true]
  refine ⟨0, hv, by rw [h0]; simp [hy.ne], fun c w hw => ?_⟩
  rw [zero_sub, abs_neg, abs_of_pos hy]
  rcases hnum c w hw with h | h
  · rw [abs_of_nonpos (by linarith)]
    exact ⟨by linarith, fun heq hne => absurd (by linarith) hne⟩
  · rw [abs_of_pos (by linarith)]
    exact ⟨by linarith, fun heq => by linarith⟩

/-- A number that is nearest to both ends of an interval is nearest to what lies between; a tie there is a tie at both ends. -/
theorem nearest_between {v w : ℝ} (hlo : |v - lo| ≤ |w - lo|) (hhi : |v - hi| ≤ |w - hi|) (hx : lo < x) (hx' : x < hi) :
    |v - x| ≤ |w - x| ∧ (|v - x| = |w - x| → |v - lo| = |w - lo|) := by
  have hsq : ∀ z : ℝ, |v - z| ≤ |w - z| ↔ 0 ≤ (w - v) * (w + v - 2 * z) := fun z => by
    rw [← sq_le_sq]
    constructor <;> intro h <;> nlinarith
  have hsq' : ∀ z : ℝ, |v - z| = |w - z| ↔ (w - v) * (w + v - 2 * z) = 0 := fun z => by
    rw [← sq_eq_sq_iff_abs_eq_abs]
    constructor <;> intro h <;> linarith
  rw [hsq] at hlo hhi
  rw [hsq, hsq', hsq']
  refine ⟨?_, fun h => ?_⟩
  · rcases le_total 0 (w - v) with hs | hs <;> nlinarith
  · rcases mul_eq_zero.mp h with h0 | h0
    · simp [h0]
    · rcases le_total 0 (w - v) with hs | hs <;> nlinarith

/-- With one result at both ends, the ends lie on one side of zero where they overflow. -/
theorem same_sign_of_overflows (hlo : Rounded F .rn lo r fl) (hhi : Rounded F .rn hi r fl) (h : Overflows F .rn lo) : lo < 0 ↔ hi < 0 := by
  obtain ⟨-, hover, -, -, -, hres⟩ := hlo
  obtain ⟨-, -, -, -, -, hres'⟩ := hhi
  rw [if_pos (hover.mpr h)] at hres hres'
  have hw := Nat.two_pow_pos (F.width - 1)
  have hcode : ∀ n n', (maxCodeOf F n = maxCodeOf F n' → n = n') ∧ (infCode F n = infCode F n' → n = n') := by
    intro n n'
    cases n <;> cases n' <;> simp [maxCodeOf, infCode, signBit]
  suffices decide (lo < 0) = decide (hi < 0) by simpa using this
  by_cases hsat : F.sat = true
  · exact (hcode _ _).1 ((hres.2.1 (.inl hsat) _ decide_eq_true_iff).symm.trans (hres'.2.1 (.inl hsat) _ decide_eq_true_iff))
  · exact (hcode _ _).2 ((hres.2.2 (by simp [hsat]) _ decide_eq_true_iff).symm.trans (hres'.2.2 (by simp [hsat]) _ decide_eq_true_iff))

/-- The magnitude of what lies between two numbers is at most that of one of them. -/
theorem abs_lt_or_abs_lt (hx : lo < x) (hx' : x < hi) : |x| < |lo| ∨ |x| < |hi| := by
  rcases le_total 0 x with h | h
  · right; rw [abs_of_nonneg h, abs_of_nonneg (by linarith)]; exact hx'
  · left; rw [abs_of_nonpos h, abs_of_nonpos (by linarith)]; linarith

/-- A normal number does not round to zero or to a number of the other sign. -/
theorem nearest_pos_of_normal {v : ℝ} (hF : Regular F) (hbest : ∀ c w, codeVal F c = some w → |v - x| ≤ |w - x|)
    (hx : minNormal F - lowGap F / 2 ≤ |x|) : 0 < signOf (decide (x < 0)) * v := by
  have hgap := two_mul_lowGap_le F
  have hpos := lowGap_pos F
  have hnormal : ∀ n, codeVal F (signBit F n + 2 ^ F.m) = some (signOf n * minNormal F) := fun n => by
    rw [codeVal_signBit_add hF n hF.normal_max, magVal_normal]
  rcases lt_or_ge x 0 with h | h
  · rw [abs_of_neg h] at hx
    have hb := hbest _ _ (hnormal true)
    simp only [signOf, h, decide_true, if_true, neg_one_mul] at hb ⊢
    have : |-minNormal F - x| < -x := abs_lt.mpr ⟨by linarith, by linarith⟩
    linarith [(abs_lt.mp (hb.trans_lt this)).2]
  · rw [abs_of_nonneg h] at hx
    have hb := hbest _ _ (hnormal false)
    simp only [signOf, not_lt.mpr h, decide_false, Bool.false_eq_true, if_false, one_mul] at hb ⊢
    have : |minNormal F - x| < x := abs_lt.mpr ⟨by linarith, by linarith⟩
    linarith [(abs_lt.mp (hb.trans_lt this)).1]

/-- Where two numbers overflow to one result, so does what lies between them. -/
theorem rounded_between_of_overflows (hF : Regular F) (hlo : Rounded F .rn lo r fl) (hhi : Rounded F .rn hi r fl) (hx : lo < x) (hx' : x < hi)
    (h : Overflows F .rn lo) : Rounded F .rn x r fl := by
  have hsign := same_sign_of_overflows hlo hhi h
  have h' : Overflows F .rn hi := hhi.2.1.mp (hlo.2.1.mpr h)
  rcases lt_or_ge lo 0 with hneg | hpos
  · have hneg' := hsign.mp hneg
    exact rounded_of_overflows hF hhi h' (overflows_rn_mono h' (by rw [abs_of_neg hneg', abs_of_neg (by linarith)]; linarith))
      (iff_of_true hneg' (by linarith))
  · exact rounded_of_overflows hF hlo h (overflows_rn_mono h (by rw [abs_of_nonneg hpos, abs_of_nonneg (by linarith)]; exact hx))
      (iff_of_false (not_lt.mpr hpos) (by linarith))

/-- What is not tiny and has another number as its nearest is as good as normal. -/
theorem normal_of_not_tiny {v : ℝ} (hF : Regular F) (hv : v ≠ x) (hbest : ∀ c w, codeVal F c = some w → |v - x| ≤ |w - x|) (h : ¬ Tiny F .rn x) :
    minNormal F - lowGap F / 2 ≤ |x| := by
  by_contra hlt
  refine h ⟨?_, not_le.mp hlt⟩
  rintro rfl
  have hzero := hbest 0 0 (codeVal_zero hF)
  simp only [sub_zero, abs_zero, abs_nonpos_iff] at hzero
  exact hv hzero

/-- Between two numbers with one nearest number, of which both are tiny or neither is, there is none of the other kind. -/
theorem tiny_between {v : ℝ} (hF : Regular F) (hlo : v ≠ lo) (hhi : v ≠ hi) (hblo : ∀ c w, codeVal F c = some w → |v - lo| ≤ |w - lo|)
    (hbhi : ∀ c w, codeVal F c = some w → |v - hi| ≤ |w - hi|) (hboth : Tiny F .rn lo ↔ Tiny F .rn hi) (hx : lo < x) (hx' : x < hi) (hx0 : x ≠ 0) :
    Tiny F .rn lo ↔ Tiny F .rn x := by
  constructor
  · exact fun ht => ⟨hx0, (abs_lt_or_abs_lt hx hx').elim (fun h => h.trans ht.2) (fun h => h.trans (hboth.mp ht).2)⟩
  · intro ht
    by_contra hn
    have hnlo := normal_of_not_tiny hF hlo hblo hn
    have hnhi := normal_of_not_tiny hF hhi hbhi (mt hboth.mpr hn)
    have hplo := nearest_pos_of_normal hF hblo hnlo
    have hphi := nearest_pos_of_normal hF hbhi hnhi
    have hxt : |x| < minNormal F - lowGap F / 2 := ht.2
    rcases lt_or_ge lo 0 with hl | hl <;> rcases lt_or_ge hi 0 with hh | hh
    · rw [abs_of_neg hh] at hnhi
      rw [abs_of_neg (by linarith)] at hxt
      linarith
    · simp only [signOf, hl, not_lt.mpr hh, decide_true, decide_false, if_true, Bool.false_eq_true, if_false] at hplo hphi
      linarith
    · linarith
    · rw [abs_of_nonneg hl] at hnlo
      rw [abs_of_nonneg (by linarith)] at hxt
      linarith

/-- What lies between two numbers that round alike rounds as they do, if it is no number of the format. -/
theorem rounded_between (hF : Regular F) (hlo : Rounded F .rn lo r fl) (hhi : Rounded F .rn hi r fl) (hx : lo < x) (hx' : x < hi)
    (hnot : ∀ c, codeVal F c ≠ some x) : Rounded F .rn x r (fl ||| flInexact) := by
  have hkeep : ∀ f : Flags, f.getLsbD 0 = true → f ||| flInexact = f := by decide
  by_cases hover : Overflows F .rn lo
  · have h0 : fl.getLsbD 0 = true := by
      obtain ⟨-, hover2, -, -, -, hres⟩ := hlo
      rw [if_pos (hover2.mpr hover)] at hres
      exact hres.1
    rw [hkeep fl h0]
    exact rounded_between_of_overflows hF hlo hhi hx hx' hover
  · obtain ⟨hr, hover2, htiny, h3, h4, hres⟩ := hlo
    obtain ⟨-, hover2', htiny', -, -, hres'⟩ := hhi
    have h2 : fl.getLsbD 2 = false := Bool.eq_false_iff.mpr fun h => hover (hover2.mp h)
    rw [h2, if_neg Bool.false_ne_true] at hres hres'
    obtain ⟨v, hv, hinexact, hbest⟩ := hres
    obtain ⟨v', hv', hinexact', hbest'⟩ := hres'
    obtain rfl : v = v' := Option.some.inj (hv.symm.trans hv')
    -- one number cannot be both ends
    have h0 : fl.getLsbD 0 = true := by
      by_contra h
      have hvlo := not_not.mp (mt hinexact.mpr h)
      have hvhi := not_not.mp (mt hinexact'.mpr h)
      linarith
    rw [hkeep fl h0]
    rw [h0, and_iff_left rfl] at htiny htiny'
    have hnover : ¬ Overflows F .rn x := fun h =>
      (abs_lt_or_abs_lt hx hx').elim (fun hlt => hover (overflows_rn_mono h hlt))
        (fun hlt => Bool.false_ne_true (h2 ▸ hover2'.mpr (overflows_rn_mono h hlt)))
    have htx := tiny_between hF (hinexact.mp h0) (hinexact'.mp h0) (fun c w hw => (hbest c w hw).1) (fun c w hw => (hbest' c w hw).1)
      (htiny.symm.trans htiny') hx hx' (fun h => hnot 0 (h ▸ codeVal_zero hF))
    refine ⟨hr, iff_of_false (by rw [h2]; exact Bool.false_ne_true) hnover, by rw [h0, and_iff_left rfl, htiny, htx], h3, h4, ?_⟩
    rw [h2, if_neg Bool.false_ne_true]
    refine ⟨v, hv, iff_of_true h0 fun h => hnot r (h ▸ hv), fun c w hw => ?_⟩
    obtain ⟨hle, htie⟩ := nearest_between (hbest c w hw).1 (hbest' c w hw).1 hx hx'
    exact ⟨hle, fun heq hne => (hbest c w hw).2 (htie heq) hne⟩

end Nearest

/-! ## Growing precision -/

/-- The number of a fixed-point value. -/
theorem rounded_ofFix {F : Fmt} (hF : Regular F) (N : Nat) (v shift : Int) :
    Rounded F .rn (v * (2 : ℝ) ^ (shift - N)) (rne F (ofFix N v shift)).1 (rne F (ofFix N v shift)).2 := by
  rw [intCast_eq_signOf_mul, mul_assoc]
  exact rounded_pack hF rfl (by simp)

/-- A fixed-point function gives a number to within its bound at every precision from n on. -/
def Approximates (f : Nat → Int × Int) (x : ℝ) (n : Nat) : Prop :=
  ∀ N, n ≤ N → |x * (2 : ℝ) ^ (N - (f N).2) - (f N).1| < fixErr N

/-- Where the intervals of a function settle, the number that it approximates is rounded once. -/
theorem rounded_ziv {F : Fmt} (hF : Regular F) {f : Nat → Int × Int} {x : ℝ} (hnot : ∀ c, codeVal F c ≠ some x) : ∀ {fuel n : Nat},
    Approximates f x n → Settles F f fuel n → Rounded F .rn x (ziv F f fuel n).1 (ziv F f fuel n).2
  | 0, n, _, ⟨k, hk, _⟩ => absurd hk k.not_lt_zero
  | fuel + 1, n, happ, ⟨k, hk, hs⟩ => by
    simp only [ziv]
    split_ifs with heq
    case pos =>
      have hlo := rounded_ofFix hF n ((f n).1 - fixErr n) (f n).2
      have hhi := rounded_ofFix hF n ((f n).1 + fixErr n) (f n).2
      rw [← heq] at hhi
      have hpos := two_zpow_pos ((f n).2 - n)
      have hx : x = x * 2 ^ ((n : Int) - (f n).2) * 2 ^ ((f n).2 - n) := by
        rw [mul_assoc, ← zpow_add₀ two_ne_zero, sub_add_sub_cancel, sub_self, zpow_zero, mul_one]
      obtain ⟨h1, h2⟩ := abs_lt.mp (happ n le_rfl)
      refine rounded_between hF hlo hhi ?_ ?_ hnot
      · rw [hx]
        push_cast
        exact mul_lt_mul_of_pos_right (by linarith) hpos
      · rw [hx]
        push_cast
        exact mul_lt_mul_of_pos_right (by linarith) hpos
    case neg =>
      refine rounded_ziv hF hnot (fun N hN => happ N (by omega)) ?_
      cases k with
      | zero => simp only [pow_zero, mul_one] at hs; exact absurd hs heq
      | succ k =>
        refine ⟨k, by omega, ?_⟩
        rwa [show 2 * n * 2 ^ k = n * 2 ^ (k + 1) by ring]

end Sys2Proof.Proofs
end

section
/-!
PROOF. Numbers that no format has (O60): every code stands for a dyadic number, and 2^x, sin πx, cos πx and tanh x of a dyadic x are dyadic only
where the special functions treat x as exact.
-/
namespace Sys2Proof.Proofs
open Sys2Proof Sys2Proof.Machine Sys2Proof.Claim

/-- An integer times a power of two. -/
def Dyadic (x : ℝ) : Prop := ∃ n e : Int, x = n * (2 : ℝ) ^ e

theorem dyadic_signOf_mul (neg : Bool) (man : Nat) (exp : Int) : Dyadic (signOf neg * (man * (2 : ℝ) ^ exp)) :=
  ⟨signed neg man, exp, by rw [signed_cast]; ring⟩

theorem dyadic_of_codeVal {F : Fmt} (hF : Regular F) {c : Nat} {x : ℝ} (h : codeVal F c = some x) : Dyadic x := by
  obtain ⟨neg, man, exp, -, rfl⟩ := unpack_of_codeVal hF h
  exact dyadic_signOf_mul neg man exp

theorem Dyadic.add {x y : ℝ} (hx : Dyadic x) (hy : Dyadic y) : Dyadic (x + y) := by
  obtain ⟨n, e, rfl⟩ := hx
  obtain ⟨m, f, rfl⟩ := hy
  refine ⟨n * 2 ^ (e - min e f).toNat + m * 2 ^ (f - min e f).toNat, min e f, ?_⟩
  push_cast
  rw [add_mul, mul_assoc, mul_assoc, ← zpow_natCast, ← zpow_natCast, ← zpow_add₀ two_ne_zero, ← zpow_add₀ two_ne_zero, Int.toNat_of_nonneg (by omega),
    Int.toNat_of_nonneg (by omega), sub_add_cancel, sub_add_cancel]

/-- A dyadic number is a fraction over a power of two. -/
theorem Dyadic.exists_div {x : ℝ} (h : Dyadic x) : ∃ (n : Int) (k : Nat), x = n / 2 ^ k := by
  obtain ⟨n, e, rfl⟩ := h
  rcases le_total 0 e with he | he
  · refine ⟨n * 2 ^ e.toNat, 0, ?_⟩
    push_cast
    rw [pow_zero, div_one, ← zpow_natCast, Int.toNat_of_nonneg he]
  · refine ⟨n, (-e).toNat, ?_⟩
    rw [← zpow_natCast, Int.toNat_of_nonneg (by omega), zpow_neg, div_inv_eq_mul]

theorem Dyadic.not_irrational {x : ℝ} (h : Dyadic x) : ¬ Irrational x := by
  obtain ⟨n, k, rfl⟩ := h.exists_div
  exact fun hi => hi ⟨n / 2 ^ k, by push_cast; rfl⟩

/-- 2 to a dyadic power is dyadic for whole powers alone. -/
theorem Dyadic.exists_int_of_rpow {w : ℝ} (hw : Dyadic w) (h : Dyadic ((2 : ℝ) ^ w)) : ∃ n : Int, w = n := by
  obtain ⟨s, k, hs⟩ := hw.exists_div
  obtain ⟨n, j, hn⟩ := h.exists_div
  have hpos : (0 : ℝ) < n := by
    have := Real.rpow_pos_of_pos (two_pos : (0 : ℝ) < 2) w
    rw [hn] at this
    exact (div_pos_iff_of_pos_right (by positivity)).mp this
  obtain ⟨a, rfl⟩ : ∃ a : Nat, n = a := ⟨n.toNat, (Int.toNat_of_nonneg (by exact_mod_cast hpos.le)).symm⟩
  have hpow : ((a ^ 2 ^ k : Nat) : ℝ) = (2 : ℝ) ^ (s + j * 2 ^ k : Int) := by
    have hraise : ((2 : ℝ) ^ w) ^ 2 ^ k = (2 : ℝ) ^ s := by
      rw [← Real.rpow_natCast, ← Real.rpow_mul two_pos.le, hs]
      push_cast
      rw [div_mul_cancel₀ _ (by positivity), Real.rpow_intCast]
    rw [hn, div_pow, div_eq_iff (by positivity)] at hraise
    push_cast at hraise ⊢
    rw [hraise, zpow_add₀ two_ne_zero, ← pow_mul]
    congr 1
  have hone : (1 : ℝ) ≤ (a ^ 2 ^ k : Nat) := by
    have : 0 < a := by exact_mod_cast hpos
    exact_mod_cast Nat.one_le_pow _ _ this
  obtain ⟨t, ht⟩ : ∃ t : Nat, s + j * 2 ^ k = t := by
    refine ⟨(s + j * 2 ^ k).toNat, (Int.toNat_of_nonneg ?_).symm⟩
    by_contra hneg
    rw [hpow] at hone
    exact absurd (zpow_lt_one_of_neg₀ one_lt_two (not_le.mp hneg)) (not_lt.mpr hone)
  rw [ht, zpow_natCast] at hpow
  have hnat : a ^ 2 ^ k = 2 ^ t := by exact_mod_cast hpow
  obtain ⟨b, -, rfl⟩ := (Nat.dvd_prime_pow Nat.prime_two).mp (hnat ▸ dvd_pow_self a (by positivity))
  rw [← pow_mul] at hnat
  have htb : b * 2 ^ k = t := Nat.pow_right_injective le_rfl hnat
  refine ⟨b - j, ?_⟩
  rw [hs, div_eq_iff (by positivity), eq_sub_of_add_eq ht, ← htb]
  push_cast
  ring

/-- The cosine of a dyadic multiple of π is irrational but at multiples of π/2 (Niven). -/
theorem Dyadic.irrational_cos {a : ℝ} (ha : Dyadic a) (h : ∀ n : Int, 2 * a ≠ n) : Irrational (Real.cos (Real.pi * a)) := by
  obtain ⟨n, k, rfl⟩ := ha.exists_div
  have hcast : ((n : ℝ) / 2 ^ k) = ((n / 2 ^ k : ℚ) : ℝ) := by push_cast; rfl
  rw [mul_comm, hcast]
  apply irrational_cos_rat_mul_pi
  by_contra hden
  generalize hq : (n / 2 ^ k : ℚ) = q at *
  obtain ⟨b, -, hb⟩ : ∃ b ≤ k, q.den = 2 ^ b := by
    refine (Nat.dvd_prime_pow Nat.prime_two).mp (Int.natCast_dvd_natCast.mp ?_)
    rw [← hq]
    exact_mod_cast Rat.divInt_eq_div n (2 ^ k) ▸ Rat.den_dvd n (2 ^ k)
  have hb1 : b < 2 := (Nat.pow_lt_pow_iff_right (by norm_num : 1 < 2)).mp (by omega)
  have hval : (q : ℝ) * 2 ^ b = q.num := by
    have : q * q.den = q.num := Rat.mul_den_eq_num q
    rw [hb] at this
    exact_mod_cast this
  interval_cases b
  · exact h (2 * q.num) (by push_cast; rw [← hval, hcast]; ring)
  · exact h q.num (by rw [← hval, hcast]; ring)

/-- So is the sine. -/
theorem Dyadic.irrational_sin {a : ℝ} (ha : Dyadic a) (h : ∀ n : Int, 2 * a ≠ n) : Irrational (Real.sin (Real.pi * a)) := by
  have hhalf : Dyadic (a + -(1 / 2)) := ha.add ⟨-1, -1, by norm_num⟩
  have := hhalf.irrational_cos fun n hn => h (n + 1) (by push_cast; linarith)
  rwa [show Real.pi * (a + -(1 / 2)) = Real.pi * a - Real.pi / 2 by ring, Real.cos_sub_pi_div_two] at this

/-! ## The exponential of a rational number -/

/-- An integer combination of e^(n/d) and a value of a polynomial at n/d, as in the first step of the theorem of Lindemann and Weierstrass, would be a
whole number below 1 if e^(n/d) were rational. -/
theorem irrational_exp_div {n d : Int} (hn : n ≠ 0) (hd : 0 < d) : Irrational (Real.exp (n / d)) := by
  rintro ⟨q, hq⟩
  have hq0 : q ≠ 0 := by
    rintro rfl
    exact (Real.exp_pos _).ne (by simpa using hq)
  have hdC : (d : ℂ) ≠ 0 := by exact_mod_cast hd.ne'
  obtain ⟨c, hc⟩ := LindemannWeierstrass.exp_polynomial_approx (Polynomial.C d * Polynomial.X - Polynomial.C n) (by simpa using hn)
  have hlim : Filter.Tendsto (fun m : ℕ => (q.den * |c| : ℝ) * ((|c| * d) ^ m / m.factorial)) Filter.atTop (nhds 0) := by
    simpa using (FloorSemiring.tendsto_pow_div_factorial_atTop (|c| * d : ℝ)).const_mul (q.den * |c| : ℝ)
  obtain ⟨M, hM⟩ := (hlim.eventually (gt_mem_nhds one_pos)).exists_forall_of_atTop
  obtain ⟨p, hpM, hp⟩ := Nat.exists_infinite_primes (M + n.natAbs + d.natAbs + q.num.natAbs + 1)
  obtain ⟨k, hk, g, hg, happrox⟩ := hc p (by simp; omega) hp
  have hroot : (n / d : ℂ) ∈ (Polynomial.C d * Polynomial.X - Polynomial.C n).aroots ℂ := by
    rw [Polynomial.mem_aroots]
    refine ⟨fun h => hn (by simpa using congrArg (Polynomial.eval 0) h), ?_⟩
    simp [mul_div_cancel₀ _ hdC]
  have hdeg : g.natDegree ≤ p - 1 := by
    refine hg.trans (Nat.sub_le_sub_right ((Nat.mul_le_mul_left p ?_).trans_eq (mul_one p)) 1)
    rw [Polynomial.natDegree_sub_C]
    exact (Polynomial.natDegree_C_mul_le d _).trans Polynomial.natDegree_X_le
  obtain ⟨D, bi, hbi, hD⟩ := denomsClearable_of_natDegree_le (p - 1) n (b := d) (bi := (d : ℂ)⁻¹) (i := Int.castRingHom ℂ) (inv_mul_cancel₀ hdC) g hdeg
  obtain ⟨m, rfl⟩ : ∃ m, p = m + 1 := ⟨p - 1, by have := hp.pos; omega⟩
  rw [Nat.add_sub_cancel] at hD happrox
  have hexp : Complex.exp (n / d) = q := by
    rw [← Complex.ofReal_intCast, ← Complex.ofReal_intCast, ← Complex.ofReal_div, ← Complex.ofReal_exp, ← hq, Complex.ofReal_ratCast]
  have hG : (D : ℂ) = d ^ m * Polynomial.aeval (n / d : ℂ) g := by
    rw [Polynomial.aeval_def, Polynomial.eval₂_eq_eval_map, div_eq_mul_inv]
    rw [eq_inv_of_mul_eq_one_left hbi] at hD
    simpa using hD
  have hqden : (q : ℂ) * q.den = q.num := by exact_mod_cast Rat.mul_den_eq_num q
  have hwhole : ((k * q.num * d ^ m - (m + 1 : Nat) * q.den * D : Int) : ℂ) =
      (q.den * d ^ m) * (k • Complex.exp (n / d) - (m + 1) • Polynomial.aeval (n / d : ℂ) g) := by
    rw [hexp]
    push_cast [zsmul_eq_mul, nsmul_eq_mul]
    rw [hG, ← hqden]
    ring
  have hsmall : |k * q.num * d ^ m - (m + 1 : Nat) * q.den * D| < 1 := by
    have hd' : (0 : ℝ) < d := by exact_mod_cast hd
    have hnorm := congrArg norm hwhole
    rw [Complex.norm_intCast, norm_mul, norm_mul, norm_pow, Complex.norm_intCast, Complex.norm_natCast, abs_of_pos hd'] at hnorm
    have : ((|k * q.num * d ^ m - (m + 1 : Nat) * q.den * D| : Int) : ℝ) < 1 := calc
      _ = q.den * d ^ m * ‖k • Complex.exp (n / d) - (m + 1) • Polynomial.aeval (n / d : ℂ) g‖ := by rw [← hnorm, Int.cast_abs]
      _ ≤ q.den * d ^ m * (|c| ^ (m + 1) / m.factorial) := by
        gcongr
        exact (happrox hroot).trans (div_le_div_of_nonneg_right ((le_abs_self _).trans_eq (abs_pow c _)) (by positivity))
      _ = q.den * |c| * ((|c| * d) ^ m / m.factorial) := by rw [pow_succ, mul_pow]; ring
      _ < 1 := hM m (by omega)
    exact_mod_cast this
  have hdvd : ((m + 1 : Nat) : Int) ∣ k * q.num * d ^ m :=
    ⟨q.den * D, by rw [← mul_assoc]; exact sub_eq_zero.mp (Int.abs_lt_one_iff.mp hsmall)⟩
  have hprime := Nat.prime_iff_prime_int.mp hp
  have hlt : ∀ z : Int, z ≠ 0 → z.natAbs < m + 1 → ¬ ((m + 1 : Nat) : Int) ∣ z := fun z hz hzm hdz =>
    absurd (Nat.le_of_dvd (Int.natAbs_pos.mpr hz) (Int.natCast_dvd.mp hdz)) (by omega)
  rcases hprime.dvd_mul.mp hdvd with h | h
  · exact (hprime.dvd_mul.mp h).elim hk (hlt _ (Rat.num_ne_zero.mpr hq0) (by omega))
  · exact hlt d hd.ne' (by omega) (hprime.dvd_of_dvd_pow h)

/-- The hyperbolic tangent of a dyadic number other than 0 is irrational. -/
theorem Dyadic.irrational_tanh {a : ℝ} (ha : Dyadic a) (h : a ≠ 0) : Irrational (Real.tanh a) := by
  obtain ⟨n, k, rfl⟩ := ha.exists_div
  have hn : 2 * n ≠ 0 := by rintro h0; exact h (by simp [show n = 0 by omega])
  have hexp := irrational_exp_div hn (d := 2 ^ k) (by positivity)
  rintro ⟨q, hq⟩
  refine hexp ⟨(1 + q) / (1 - q), ?_⟩
  have hpos := Real.exp_pos (n / 2 ^ k)
  have hsq : Real.exp ((2 * n : Int) / (2 ^ k : Int)) = Real.exp (n / 2 ^ k) ^ 2 := by
    rw [← Real.exp_nat_mul]; congr 1; push_cast; ring
  rw [Real.tanh_eq_sinh_div_cosh, Real.sinh_eq, Real.cosh_eq, Real.exp_neg] at hq
  rw [hsq]
  push_cast
  rw [hq]
  field_simp
  ring

end Sys2Proof.Proofs
end

section
/-!
PROOF. The errors of the fixed-point series of R126 (O60). Each series is a recursion that cuts every term downward; `sum_error` bounds what the
cuts add up to, `tail_error` what the terms left out would add, and Mathlib's series give the functions.
-/
namespace Sys2Proof.Proofs
open Sys2Proof Sys2Proof.Machine Sys2Proof.Claim

/-! ## Cuts, sums, tails -/

/-- A division of integers cuts less than one downward. -/
theorem ediv_cut (a : Int) {d : Int} (hd : 0 < d) : ((a / d : Int) : ℝ) ≤ a / d ∧ (a : ℝ) / d < (a / d : Int) + 1 := by
  have hd' : (0 : ℝ) < d := by exact_mod_cast hd
  rw [le_div_iff₀ hd', div_lt_iff₀ hd']
  exact ⟨by exact_mod_cast Int.ediv_mul_le a hd.ne', by exact_mod_cast Int.lt_ediv_add_one_mul_self a hd⟩

theorem ediv_error (a : Int) {d : Int} (hd : 0 < d) : |((a / d : Int) : ℝ) - a / d| ≤ 1 := by
  obtain ⟨hlo, hhi⟩ := ediv_cut a hd
  exact abs_le.mpr ⟨by linarith, by linarith⟩

theorem natDiv_error (a : Nat) {d : Nat} (hd : 0 < d) : |((a / d : Nat) : ℝ) - a / d| ≤ 1 := by
  have := ediv_error a (d := d) (by exact_mod_cast hd)
  rw [← Int.natCast_div] at this
  simpa only [Int.cast_natCast] using this

/-- Errors of both sides of a difference add up. -/
theorem abs_sub_le_add {x y z a b : ℝ} (h : |x - y| ≤ a) (h' : |y - z| ≤ b) : |x - z| ≤ a + b :=
  (abs_sub_le x y z).trans (add_le_add h h')

/-- A recursion that adds one term after another, each within E of its ideal. -/
theorem sum_error {α : Type} {S : Nat → Nat → α → Int} {out : Nat → α → Int} {next : Nat → α → α} {stride : Nat}
    {Close : Nat → α → Prop} {g : Nat → ℝ} {E : ℝ} (hzero : ∀ i t, S 0 i t = 0) (hsucc : ∀ n i t, S (n + 1) i t = out i t + S n (i + stride) (next i t))
    (hnext : ∀ i t, Close i t → Close (i + stride) (next i t)) (hout : ∀ i t, Close i t → |(out i t : ℝ) - g i| ≤ E) :
    ∀ n i t, Close i t → |(S n i t : ℝ) - ∑ j ∈ Finset.range n, g (i + stride * j)| ≤ E * n
  | 0, i, t, _ => by simp [hzero]
  | n + 1, i, t, h => by
    have hrest := sum_error hzero hsucc hnext hout n (i + stride) (next i t) (hnext i t h)
    have hindex : ∀ j, i + stride * (j + 1) = i + stride + stride * j := fun j => by ring
    rw [hsucc, Finset.sum_range_succ']
    simp only [hindex, mul_zero, add_zero]
    push_cast
    calc |(out i t : ℝ) + S n (i + stride) (next i t) - (∑ j ∈ Finset.range n, g (i + stride + stride * j) + g i)|
        = |((out i t : ℝ) - g i) + (S n (i + stride) (next i t) - ∑ j ∈ Finset.range n, g (i + stride + stride * j))| := by congr 1; ring
      _ ≤ E + E * n := (abs_add_le _ _).trans (add_le_add (hout i t h) hrest)
      _ = E * (n + 1) := by ring

/-- The rest of a series whose terms shrink by half at least each time. -/
theorem tail_error {f : Nat → ℝ} {s C r : ℝ} (hs : HasSum f s) (hr : 0 ≤ r) (hr' : r ≤ 1 / 2) (hf : ∀ j, |f j| ≤ C * r ^ j)
    {n : Nat} (hn : 2 * C * r ^ n ≤ 1) :
    |∑ j ∈ Finset.range n, f j - s| ≤ 1 := by
  have hC : 0 ≤ C := by simpa using (abs_nonneg _).trans (hf 0)
  refine (norm_sub_le_of_geometric_bound_of_hasSum (by linarith) hf hs n).trans (le_trans ?_ hn)
  rw [div_le_iff₀ (by linarith)]
  have : 0 ≤ C * r ^ n := by positivity
  nlinarith

/-- Powers of two outweigh what a tail is multiplied by. -/
theorem two_pow_tail {N a b n : Nat} (ha : N + a + 1 ≤ b * n) : 2 * ((2 : ℝ) ^ N * 2 ^ a) * (1 / 2 ^ b) ^ n ≤ 1 := by
  rw [one_div, inv_pow, ← pow_mul, ← div_eq_mul_inv, div_le_one (by positivity), ← pow_add, ← pow_succ']
  exact pow_le_pow_right₀ one_le_two ha

/-! ## Exponential -/

/-- The terms of the exponential series shrink as those of a geometric one do, up to a factor. -/
theorem inv_factorial_le (x : ℝ) (hx : 0 < x) (j : Nat) : 1 / (j.factorial : ℝ) ≤ Real.exp x * (1 / x) ^ j := by
  rw [one_div_pow, mul_one_div, div_le_div_iff₀ (by positivity) (by positivity), one_mul, ← div_le_iff₀ (by positivity)]
  exact Real.pow_div_factorial_le_exp x hx.le j

theorem exp_nat_le {n a : Nat} (h : (2.8 : ℝ) ^ n ≤ 2 ^ a) : Real.exp n ≤ 2 ^ a := by
  rw [← mul_one (n : ℝ), Real.exp_nat_mul]
  exact (pow_le_pow_left₀ (Real.exp_pos _).le (by linarith [Real.exp_one_lt_d9]) n).trans h

theorem expFix_error {N : Nat} {r : Int} (hr : 4 * |(r : ℝ)| ≤ 3 * 2 ^ N) : |(expFix N r : ℝ) - 2 ^ N * Real.exp (r / 2 ^ N)| ≤ N + 81 := by
  have hU : (0 : ℝ) < 2 ^ N := by positivity
  set ρ : ℝ := r / 2 ^ N with hρ
  have hρ' : |ρ| ≤ 3 / 4 := by
    rw [hρ, abs_div, abs_of_pos hU, div_le_iff₀ hU]
    linarith
  have hsum := sum_error (S := expSum N r) (out := fun _ t => t) (next := fun i t => t * r / 2 ^ N / ((i : Int) + 1)) (stride := 1)
    (Close := fun i t => |(t : ℝ) - 2 ^ N * ρ ^ i / i.factorial| ≤ 4) (g := fun i => 2 ^ N * ρ ^ i / i.factorial) (E := 4)
    (fun _ _ => rfl) (fun _ _ _ => rfl) (fun i t h => ?_) (fun _ _ h => h) (N / 4 + 20) 0 (2 ^ N) (by simp)
  case refine_1 =>
    have hi : (0 : ℝ) < (i : ℝ) + 1 := by positivity
    rw [Int.ediv_ediv_of_nonneg (by positivity)]
    refine (abs_sub_le_add (ediv_error _ (by positivity)) (b := 3) ?_).trans (by norm_num)
    have hideal : ((t * r : Int) : ℝ) / ((2 ^ N * ((i : Int) + 1) : Int) : ℝ) - 2 ^ N * ρ ^ (i + 1) / (i + 1).factorial =
        ρ / (i + 1) * (t - 2 ^ N * ρ ^ i / i.factorial) := by
      rw [Nat.factorial_succ]
      push_cast
      rw [show (r : ℝ) = ρ * 2 ^ N by rw [hρ, div_mul_cancel₀ _ hU.ne']]
      field_simp
      ring
    rw [hideal, abs_mul, abs_div, abs_of_pos hi]
    calc |ρ| / (i + 1) * |(t : ℝ) - 2 ^ N * ρ ^ i / i.factorial| ≤ 3 / 4 / 1 * 4 := by gcongr; linarith [(Nat.cast_nonneg i : (0 : ℝ) ≤ i)]
      _ = 3 := by norm_num
  have htail := tail_error (f := fun j => 2 ^ N * ρ ^ j / j.factorial) (s := 2 ^ N * Real.exp ρ) (C := 2 ^ N * 2 ^ 24) (r := 1 / 2 ^ 4)
    (n := N / 4 + 20) ?_ (by norm_num) (by norm_num) (fun j => ?_) (two_pow_tail (by omega))
  · simp only [zero_add, one_mul] at hsum
    have hN : ((N / 4 + 20 : Nat) : ℝ) * 4 ≤ N + 80 := by exact_mod_cast (by omega : (N / 4 + 20) * 4 ≤ N + 80)
    exact (abs_sub_le_add hsum htail).trans (by linarith)
  · have hs : HasSum (fun n => ρ ^ n / (n.factorial : ℝ)) (Real.exp ρ) := Real.exp_eq_exp_ℝ ▸ NormedSpace.expSeries_div_hasSum_exp ρ
    simpa [mul_div_assoc] using hs.mul_left (2 ^ N)
  · have hfac := inv_factorial_le 16 (by norm_num) j
    have hexp : Real.exp 16 ≤ 2 ^ 24 := by exact_mod_cast exp_nat_le (n := 16) (a := 24) (by norm_num)
    rw [abs_div, abs_mul, abs_of_pos hU, abs_pow, Nat.abs_cast, div_eq_mul_one_div, mul_assoc, mul_assoc]
    have hpow : |ρ| ^ j ≤ 1 := pow_le_one₀ (abs_nonneg _) (by linarith)
    have h16 : (1 / 16 : ℝ) = 1 / 2 ^ 4 := by norm_num
    refine mul_le_mul_of_nonneg_left ?_ hU.le
    calc |ρ| ^ j * (1 / (j.factorial : ℝ)) ≤ 1 * (Real.exp 16 * (1 / 16) ^ j) := by gcongr
      _ ≤ 2 ^ 24 * (1 / 2 ^ 4) ^ j := by rw [one_mul, h16]; gcongr

/-! ## Sine and cosine -/

/-- The terms of the two series, by the power of r. -/
noncomputable def trigTerm (N : Nat) (ρ : ℝ) (i : Nat) : ℝ := 2 ^ N * ((-1) ^ (i / 2) * ρ ^ i / i.factorial)

theorem abs_trigTerm_le {N : Nat} {ρ : ℝ} (h : |ρ| ≤ 1) (i : Nat) : |trigTerm N ρ i| ≤ 2 ^ N * (1 / i.factorial) := by
  rw [trigTerm, abs_mul, abs_of_pos (by positivity : (0 : ℝ) < 2 ^ N), abs_div, abs_mul, abs_pow, abs_pow, abs_neg, abs_one, one_pow, one_mul, Nat.abs_cast]
  gcongr
  exact pow_le_one₀ (abs_nonneg _) h

theorem trigTerm_add_two (N : Nat) (ρ : ℝ) (i : Nat) : trigTerm N ρ (i + 2) = -(trigTerm N ρ i * ρ ^ 2 / ((i + 1) * (i + 2))) := by
  rw [trigTerm, trigTerm, Nat.add_div_right _ two_pos, Nat.factorial_succ, Nat.factorial_succ]
  push_cast
  field_simp
  ring

theorem trigSum_error {N : Nat} {r : Int} (hr : |(r : ℝ)| ≤ 2 ^ N) {i : Nat} {t : Int} (ht : |(t : ℝ) - trigTerm N (r / 2 ^ N) i| ≤ 3) (n : Nat) :
    |(trigSum N (r * r / 2 ^ N) n i t : ℝ) - ∑ j ∈ Finset.range n, trigTerm N (r / 2 ^ N) (i + 2 * j)| ≤ 3 * n := by
  have hU : (0 : ℝ) < 2 ^ N := by positivity
  set ρ : ℝ := r / 2 ^ N with hρ
  have hrρ : (r : ℝ) = ρ * 2 ^ N := by rw [hρ, div_mul_cancel₀ _ hU.ne']
  have hρ1 : |ρ| ≤ 1 := by rwa [hρ, abs_div, abs_of_pos hU, div_le_one hU]
  have hsq : ρ ^ 2 ≤ 1 := by rwa [sq_le_one_iff_abs_le_one]
  obtain ⟨hlo, hhi⟩ := ediv_cut (r * r) (d := 2 ^ N) (by positivity)
  have hsquare : ((r * r : Int) : ℝ) / (2 ^ N : Int) = 2 ^ N * ρ ^ 2 := by
    push_cast
    rw [hrρ]
    field_simp
  have hnonneg : (0 : ℝ) ≤ (r * r / 2 ^ N : Int) := by exact_mod_cast Int.ediv_nonneg (mul_self_nonneg r) (by positivity)
  rw [hsquare] at hlo hhi
  generalize r * r / 2 ^ N = r2 at hlo hhi hnonneg ⊢
  refine sum_error (S := trigSum N r2) (out := fun _ t => t) (stride := 2)
    (next := fun i t => -(t * r2 / 2 ^ N / (((i : Int) + 1) * ((i : Int) + 2))))
    (Close := fun i t => |(t : ℝ) - trigTerm N ρ i| ≤ 3) (fun _ _ => rfl) (fun _ _ _ => rfl) (fun i t h => ?_) (fun _ _ h => h) n i t ht
  have hi : (0 : ℝ) ≤ i := i.cast_nonneg
  have hden : (2 : ℝ) ≤ (i + 1) * (i + 2) := by nlinarith
  have hterm : |trigTerm N ρ i| ≤ 2 ^ N := (abs_trigTerm_le hρ1 i).trans
    (mul_le_of_le_one_right hU.le ((div_le_one (by positivity)).mpr (by exact_mod_cast i.factorial_pos)))
  rw [Int.ediv_ediv_of_nonneg (by positivity), trigTerm_add_two]
  push_cast
  rw [← neg_sub', abs_neg]
  refine (abs_sub_le_add (ediv_error _ (by positivity)) (b := 2) ?_).trans (by norm_num)
  have hprod : |(t : ℝ) * r2 / 2 ^ N - trigTerm N ρ i * ρ ^ 2| ≤ 4 := by
    refine (abs_sub_le_add (y := trigTerm N ρ i * (r2 / 2 ^ N)) (a := 3) (b := 1) ?_ ?_).trans (by norm_num)
    · rw [mul_div_assoc, ← sub_mul, abs_mul, abs_of_nonneg (by positivity : (0 : ℝ) ≤ r2 / 2 ^ N)]
      have : (r2 : ℝ) / 2 ^ N ≤ 1 := (div_le_one hU).mpr (by nlinarith)
      calc |(t : ℝ) - trigTerm N ρ i| * (r2 / 2 ^ N) ≤ 3 * 1 := by gcongr
        _ = 3 := mul_one 3
    · have : |(r2 : ℝ) / 2 ^ N - ρ ^ 2| ≤ 1 / 2 ^ N := by
        rw [abs_le, ← neg_div, div_sub' hU.ne', div_le_div_iff_of_pos_right hU, div_le_div_iff_of_pos_right hU]
        exact ⟨by linarith, by linarith⟩
      rw [← mul_sub, abs_mul]
      calc |trigTerm N ρ i| * |(r2 : ℝ) / 2 ^ N - ρ ^ 2| ≤ 2 ^ N * (1 / 2 ^ N) := by gcongr
        _ = 1 := mul_one_div_cancel hU.ne'
  have hideal : ((t * r2 : Int) : ℝ) / ((2 ^ N * (((i : Int) + 1) * ((i : Int) + 2)) : Int) : ℝ) - trigTerm N ρ i * ρ ^ 2 / ((i + 1) * (i + 2)) =
      (t * r2 / 2 ^ N - trigTerm N ρ i * ρ ^ 2) / ((i + 1) * (i + 2)) := by
    push_cast
    field_simp
  rw [hideal, abs_div, abs_of_pos (by positivity : (0 : ℝ) < (i + 1) * (i + 2)), div_le_iff₀ (by positivity)]
  linarith

theorem trig_tail {N : Nat} {ρ s : ℝ} (h : |ρ| ≤ 1) (i : Nat) (hs : HasSum (fun j => trigTerm N ρ (i + 2 * j)) s) :
    |∑ j ∈ Finset.range (N / 6 + 12), trigTerm N ρ (i + 2 * j) - s| ≤ 1 := by
  refine tail_error (C := 2 ^ N * 2 ^ 12) (r := 1 / 2 ^ 6) hs (by norm_num) (by norm_num) (fun j => ?_) (two_pow_tail (by omega))
  have hexp : Real.exp 8 ≤ 2 ^ 12 := by exact_mod_cast exp_nat_le (n := 8) (a := 12) (by norm_num)
  refine (abs_trigTerm_le h _).trans ?_
  rw [mul_assoc]
  refine mul_le_mul_of_nonneg_left ?_ (by positivity)
  calc (1 : ℝ) / (i + 2 * j).factorial ≤ Real.exp 8 * (1 / 8) ^ (i + 2 * j) := inv_factorial_le 8 (by norm_num) _
    _ ≤ 2 ^ 12 * (1 / 8) ^ (2 * j) := by
      gcongr ?_ * ?_
      exact pow_le_pow_of_le_one (by norm_num) (by norm_num) (by omega)
    _ = 2 ^ 12 * (1 / 2 ^ 6) ^ j := by rw [pow_mul]; norm_num

theorem sinFix_error {N : Nat} {r : Int} (hr : |(r : ℝ)| ≤ 2 ^ N) : |(sinFix N r : ℝ) - 2 ^ N * Real.sin (r / 2 ^ N)| ≤ N + 37 := by
  have hU : (0 : ℝ) < 2 ^ N := by positivity
  have hρ1 : |(r : ℝ) / 2 ^ N| ≤ 1 := by rwa [abs_div, abs_of_pos hU, div_le_one hU]
  have hsum := trigSum_error hr (i := 1) (t := r) (by simp [trigTerm, mul_div_cancel₀ _ hU.ne']) (N / 6 + 12)
  have htail := trig_tail hρ1 1 (N := N) (s := 2 ^ N * Real.sin (r / 2 ^ N)) ?_
  · have hN : ((N / 6 + 12 : Nat) : ℝ) * 3 ≤ N + 36 := by exact_mod_cast (by omega : (N / 6 + 12) * 3 ≤ N + 36)
    exact (abs_sub_le_add hsum htail).trans (by linarith)
  · have hterm : ∀ j, trigTerm N (r / 2 ^ N) (1 + 2 * j) = 2 ^ N * ((-1) ^ j * (r / 2 ^ N) ^ (2 * j + 1) / (2 * j + 1).factorial) := fun j => by
      rw [trigTerm, show (1 + 2 * j) / 2 = j by omega, add_comm 1]
    simpa only [hterm] using (Real.hasSum_sin (r / 2 ^ N)).mul_left (2 ^ N)

theorem cosFix_error {N : Nat} {r : Int} (hr : |(r : ℝ)| ≤ 2 ^ N) : |(cosFix N r : ℝ) - 2 ^ N * Real.cos (r / 2 ^ N)| ≤ N + 37 := by
  have hU : (0 : ℝ) < 2 ^ N := by positivity
  have hρ1 : |(r : ℝ) / 2 ^ N| ≤ 1 := by rwa [abs_div, abs_of_pos hU, div_le_one hU]
  have hsum := trigSum_error hr (i := 0) (t := 2 ^ N) (by simp [trigTerm]) (N / 6 + 12)
  have htail := trig_tail hρ1 0 (N := N) (s := 2 ^ N * Real.cos (r / 2 ^ N)) ?_
  · have hN : ((N / 6 + 12 : Nat) : ℝ) * 3 ≤ N + 36 := by exact_mod_cast (by omega : (N / 6 + 12) * 3 ≤ N + 36)
    exact (abs_sub_le_add hsum htail).trans (by linarith)
  · have hterm : ∀ j, trigTerm N (r / 2 ^ N) (0 + 2 * j) = 2 ^ N * ((-1) ^ j * (r / 2 ^ N) ^ (2 * j) / (2 * j).factorial) := fun j => by
      rw [trigTerm, zero_add, Nat.mul_div_cancel_left j two_pos]
    simpa only [hterm] using (Real.hasSum_cos (r / 2 ^ N)).mul_left (2 ^ N)

/-! ## ln 2 and π -/

/-- The terms of atanh and atan of a fraction 1/c, the second with alternating signs. -/
noncomputable def atanTerm (alt : Bool) (N c i : Nat) : ℝ := (if alt then -1 else 1) ^ i * (2 ^ N * ((1 / c) ^ (2 * i + 1) / (2 * i + 1)))

theorem atanSum_error (alt : Bool) (N : Nat) {c : Nat} (hc : 2 ≤ c) (n : Nat) :
    |(atanSum alt (c * c) n 0 (2 ^ N / c) : ℝ) - ∑ j ∈ Finset.range n, atanTerm alt N c j| ≤ 3 * n := by
  have hc' : (2 : ℝ) ≤ c := by exact_mod_cast hc
  have hc0 : (0 : ℝ) < c := by linarith
  have hsum := sum_error (S := atanSum alt (c * c)) (next := fun _ t => t / (c * c)) (stride := 1) (g := atanTerm alt N c) (E := 3)
    (out := fun i t => if alt && i % 2 == 1 then -((t / (2 * i + 1) : Nat) : Int) else ((t / (2 * i + 1) : Nat) : Int))
    (Close := fun i t => |(t : ℝ) - 2 ^ N * (1 / c) ^ (2 * i + 1)| ≤ 2)
    (fun _ _ => rfl) (fun _ _ _ => rfl) (fun i t h => ?_) (fun i t h => ?_) n 0 (2 ^ N / c) ?_
  · simpa using hsum
  · refine (abs_sub_le_add (natDiv_error t (by positivity)) (b := 1) ?_).trans (by norm_num)
    have hideal : (t : ℝ) / (c * c : Nat) - 2 ^ N * (1 / c) ^ (2 * (i + 1) + 1) = (t - 2 ^ N * (1 / c) ^ (2 * i + 1)) / (c * c) := by
      rw [show 2 * (i + 1) + 1 = 2 * i + 1 + 2 by ring, pow_add]
      push_cast
      field_simp
    rw [hideal, abs_div, abs_of_pos (by positivity : (0 : ℝ) < c * c), div_le_one (by positivity)]
    nlinarith
  · have hterm : |((t / (2 * i + 1) : Nat) : ℝ) - 2 ^ N * ((1 / c) ^ (2 * i + 1) / (2 * i + 1))| ≤ 3 := by
      refine (abs_sub_le_add (natDiv_error t (by positivity)) (b := 2) ?_).trans (by norm_num)
      have hi : (0 : ℝ) ≤ i := i.cast_nonneg
      push_cast
      rw [← mul_div_assoc, ← sub_div, abs_div, abs_of_pos (by positivity : (0 : ℝ) < 2 * i + 1)]
      exact div_le_of_le_mul₀ (by positivity) (by norm_num) (by nlinarith)
    rw [← Int.cast_natCast] at hterm
    show |((if alt && i % 2 == 1 then -((t / (2 * i + 1) : Nat) : Int) else ((t / (2 * i + 1) : Nat) : Int) : Int) : ℝ) - atanTerm alt N c i| ≤ 3
    generalize ((t / (2 * i + 1) : Nat) : Int) = u at hterm ⊢
    unfold atanTerm
    cases alt
    · simpa using hterm
    · rcases Nat.mod_two_eq_zero_or_one i with hpar | hpar
      · simpa [hpar, Even.neg_one_pow (Nat.even_iff.mpr hpar)] using hterm
      · rw [abs_sub_comm] at hterm
        simpa [hpar, Odd.neg_one_pow (Nat.odd_iff.mpr hpar), neg_add_eq_sub] using hterm
  · simpa [div_eq_mul_inv] using (natDiv_error (2 ^ N) (by omega : 0 < c)).trans one_le_two

/-- Where the series of 1/c adds up to s, and its terms outpace 2^b. -/
theorem atan_tail {alt : Bool} {N c b n : Nat} {s : ℝ} (hc : 2 ^ b ≤ c * c) (hb : 1 ≤ b) (hn : N + 1 ≤ b * n)
    (hs : HasSum (atanTerm alt N c) (2 ^ N * s)) :
    |∑ j ∈ Finset.range n, atanTerm alt N c j - 2 ^ N * s| ≤ 1 := by
  have hcc : (2 : ℝ) ^ b ≤ c * c := by exact_mod_cast hc
  have hc0 : (0 : ℝ) < c := by
    by_contra h
    have : (c : ℝ) = 0 := le_antisymm (not_lt.mp h) c.cast_nonneg
    simp only [this, mul_zero] at hcc
    linarith [pow_pos (two_pos : (0 : ℝ) < 2) b]
  have hc1 : (1 : ℝ) ≤ c := by exact_mod_cast hc0
  refine tail_error (C := 2 ^ N * 2 ^ 0) (r := 1 / 2 ^ b) hs (by positivity) ?_ (fun j => ?_) (two_pow_tail (by omega))
  · exact one_div_le_one_div_of_le two_pos (by simpa using pow_le_pow_right₀ (one_le_two : (1 : ℝ) ≤ 2) hb)
  · have hj : (0 : ℝ) ≤ j := j.cast_nonneg
    have hsign : |(if alt then (-1 : ℝ) else 1) ^ j| = 1 := by cases alt <;> simp
    rw [atanTerm, abs_mul, hsign, one_mul, abs_of_nonneg (by positivity), pow_zero, mul_one]
    refine mul_le_mul_of_nonneg_left ?_ (by positivity)
    calc (1 / (c : ℝ)) ^ (2 * j + 1) / (2 * j + 1) ≤ (1 / c) ^ (2 * j + 1) := div_le_self (by positivity) (by linarith)
      _ ≤ (1 / c) ^ (2 * j) := pow_le_pow_of_le_one (by positivity) ((div_le_one hc0).mpr hc1) (Nat.le_succ _)
      _ = (1 / (c * c)) ^ j := by rw [pow_mul]; congr 1; field_simp
      _ ≤ (1 / 2 ^ b) ^ j := by gcongr

theorem hasSum_atanTerm_three (N : Nat) : HasSum (atanTerm false N 3) (2 ^ N * (Real.log 2 / 2)) := by
  have h := (Real.hasSum_log_sub_log_of_abs_lt_one (x := 1 / 3) (by norm_num [abs_of_pos])).mul_left (2 ^ N / 2)
  rw [← Real.log_div (by norm_num) (by norm_num), show (1 + 1 / 3) / (1 - 1 / 3) = (2 : ℝ) by norm_num] at h
  have hterm : atanTerm false N 3 = fun i : Nat => 2 ^ N / 2 * ((2 : ℝ) * (1 / (2 * i + 1)) * (1 / 3) ^ (2 * i + 1)) := funext fun i => by
    simp only [atanTerm, Bool.false_eq_true, if_false, one_pow, one_mul, Nat.cast_ofNat]
    ring
  rw [hterm, mul_div_assoc', ← div_mul_eq_mul_div]
  exact h

theorem hasSum_atanTerm_true (N : Nat) {c : Nat} (hc : 2 ≤ c) : HasSum (atanTerm true N c) (2 ^ N * Real.arctan (c : ℝ)⁻¹) := by
  have hc' : (2 : ℝ) ≤ c := by exact_mod_cast hc
  have hnorm : ‖(c : ℝ)⁻¹‖ < 1 := by
    rw [Real.norm_eq_abs, abs_of_pos (by positivity)]
    exact inv_lt_one_of_one_lt₀ (by linarith)
  have hterm : atanTerm true N c = fun i : Nat => 2 ^ N * ((-1) ^ i * (c : ℝ)⁻¹ ^ (2 * i + 1) / ↑(2 * i + 1)) := funext fun i => by
    simp only [atanTerm, if_true, one_div]
    push_cast
    ring
  rw [hterm]
  exact (Real.hasSum_arctan hnorm).mul_left (2 ^ N)

theorem ln2Fix_error (N : Nat) : |(ln2Fix N : ℝ) - 2 ^ N * Real.log 2| ≤ 2 * N + 26 := by
  have herr := abs_sub_le_add (atanSum_error false N (c := 3) (by norm_num) (N / 3 + 4))
    (atan_tail (b := 3) (by norm_num) (by norm_num) (by omega) (hasSum_atanTerm_three N))
  have hN : ((N / 3 + 4 : Nat) : ℝ) * 3 ≤ N + 12 := by exact_mod_cast (by omega : (N / 3 + 4) * 3 ≤ N + 12)
  have hdouble : (ln2Fix N : ℝ) - 2 ^ N * Real.log 2 = 2 * (atanSum false (3 * 3) (N / 3 + 4) 0 (2 ^ N / 3) - 2 ^ N * (Real.log 2 / 2)) := by
    rw [ln2Fix]
    push_cast
    ring
  rw [hdouble, abs_mul, abs_two]
  linarith

theorem piFix_error (N : Nat) : |(piFix N : ℝ) - 2 ^ N * Real.pi| ≤ 13 * N + 260 := by
  obtain ⟨h5, h5'⟩ := abs_le.mp (abs_sub_le_add (atanSum_error true N (c := 5) (by norm_num) (N / 4 + 4))
    (atan_tail (b := 4) (by norm_num) (by norm_num) (by omega) (hasSum_atanTerm_true N (by norm_num))))
  obtain ⟨h239, h239'⟩ := abs_le.mp (abs_sub_le_add (atanSum_error true N (c := 239) (by norm_num) (N / 15 + 4))
    (atan_tail (b := 15) (by norm_num) (by norm_num) (by omega) (hasSum_atanTerm_true N (by norm_num))))
  have hN5 : ((N / 4 + 4 : Nat) : ℝ) * 4 ≤ N + 16 := by exact_mod_cast (by omega : (N / 4 + 4) * 4 ≤ N + 16)
  have hN239 : ((N / 15 + 4 : Nat) : ℝ) * 15 ≤ N + 60 := by exact_mod_cast (by omega : (N / 15 + 4) * 15 ≤ N + 60)
  have hmachin : Real.pi = 16 * Real.arctan ((5 : Nat) : ℝ)⁻¹ - 4 * Real.arctan ((239 : Nat) : ℝ)⁻¹ := by
    have := Real.four_mul_arctan_inv_5_sub_arctan_inv_239
    push_cast
    linarith
  have hpi : (piFix N : ℝ) =
      16 * (atanSum true (5 * 5) (N / 4 + 4) 0 (2 ^ N / 5) : ℝ) - 4 * (atanSum true (239 * 239) (N / 15 + 4) 0 (2 ^ N / 239) : ℝ) := by
    rw [piFix]
    push_cast
    rfl
  rw [hpi, hmachin, mul_sub, mul_left_comm, mul_left_comm _ (4 : ℝ), abs_le]
  constructor <;> linarith

/-! ## Logarithm -/

/-- The terms of the logarithm's series, of a quotient ζ (R126). -/
noncomputable def lnTerm (N : Nat) (ζ : ℝ) (i : Nat) : ℝ := 2 ^ N * (ζ ^ (2 * i + 1) / (2 * i + 1))

section Logarithm
variable {N : Nat} {ζ : ℝ}

theorem lnSum_error (h0 : 0 ≤ ζ) (h1 : ζ ≤ 1 / 3) {z : Int} (hz0 : 0 ≤ z) (hz : (z : ℝ) ≤ 2 ^ N * ζ) (hz' : 2 ^ N * ζ ≤ z + 1) (n : Nat) :
    |(lnSum N (z * z / 2 ^ N) n 0 z : ℝ) - ∑ j ∈ Finset.range n, lnTerm N ζ j| ≤ 3 * n := by
  have hU : (0 : ℝ) < 2 ^ N := by positivity
  have hz0' : (0 : ℝ) ≤ z := by exact_mod_cast hz0
  obtain ⟨hlo, hhi⟩ := ediv_cut (z * z) (d := 2 ^ N) (by positivity)
  have hnonneg : (0 : ℝ) ≤ (z * z / 2 ^ N : Int) := by exact_mod_cast Int.ediv_nonneg (mul_self_nonneg z) (by positivity)
  push_cast at hlo hhi
  have hsq : (z : ℝ) * z / 2 ^ N ≤ 2 ^ N * ζ ^ 2 := by rw [div_le_iff₀ hU]; nlinarith
  have hsq' : 2 ^ N * ζ ^ 2 - 1 ≤ (z : ℝ) * z / 2 ^ N := by
    rw [le_div_iff₀ hU]
    nlinarith
  generalize z * z / 2 ^ N = z2 at hlo hhi hnonneg ⊢
  have hsum := sum_error (S := lnSum N z2) (out := fun i t => t / (2 * (i : Int) + 1)) (next := fun _ t => t * z2 / 2 ^ N) (stride := 1)
    (g := lnTerm N ζ) (E := 3) (Close := fun i t => |(t : ℝ) - 2 ^ N * ζ ^ (2 * i + 1)| ≤ 2) (fun _ _ => rfl) (fun _ _ _ => rfl) (fun i t h => ?_) (fun i t h => ?_) n 0 z ?_
  · simpa using hsum
  · refine (abs_sub_le_add (ediv_error _ (by positivity)) (b := 1) ?_).trans (by norm_num)
    push_cast
    have hpow : ζ ^ (2 * i + 1) ≤ 1 / 3 := (pow_le_of_le_one h0 (by linarith) (by omega)).trans h1
    have hpow0 : 0 ≤ ζ ^ (2 * i + 1) := by positivity
    have hratio : (z2 : ℝ) / 2 ^ N ≤ 1 / 9 := by rw [div_le_iff₀ hU]; nlinarith
    have hgap : |(z2 : ℝ) - 2 ^ N * ζ ^ 2| ≤ 2 := abs_le.mpr ⟨by linarith, by linarith⟩
    have hsplit : (t : ℝ) * z2 / 2 ^ N - 2 ^ N * ζ ^ (2 * (i + 1) + 1) =
        (t - 2 ^ N * ζ ^ (2 * i + 1)) * (z2 / 2 ^ N) + ζ ^ (2 * i + 1) * (z2 - 2 ^ N * ζ ^ 2) := by
      rw [show 2 * (i + 1) + 1 = 2 * i + 1 + 2 by ring, pow_add]
      field_simp
      ring
    rw [hsplit]
    refine (abs_add_le _ _).trans ?_
    rw [abs_mul, abs_mul, abs_of_nonneg hpow0, abs_of_nonneg (by positivity : (0 : ℝ) ≤ z2 / 2 ^ N)]
    calc |(t : ℝ) - 2 ^ N * ζ ^ (2 * i + 1)| * (z2 / 2 ^ N) + ζ ^ (2 * i + 1) * |(z2 : ℝ) - 2 ^ N * ζ ^ 2|
        ≤ 2 * (1 / 9) + 1 / 3 * 2 := by gcongr
      _ ≤ 1 := by norm_num
  · refine (abs_sub_le_add (ediv_error _ (by positivity)) (b := 2) ?_).trans (by norm_num)
    have hi : (0 : ℝ) ≤ i := i.cast_nonneg
    push_cast
    rw [lnTerm, ← mul_div_assoc, ← sub_div, abs_div, abs_of_pos (by positivity : (0 : ℝ) < 2 * i + 1)]
    exact div_le_of_le_mul₀ (by positivity) (by norm_num) (by nlinarith)
  · simp only [mul_zero, zero_add, pow_one]
    exact abs_le.mpr ⟨by linarith, by linarith⟩

theorem ln_tail (h0 : 0 ≤ ζ) (h1 : ζ ≤ 1 / 3) :
    |∑ j ∈ Finset.range (N / 3 + 4), lnTerm N ζ j - 2 ^ N * (Real.log ((1 + ζ) / (1 - ζ)) / 2)| ≤ 1 := by
  have hs : HasSum (lnTerm N ζ) (2 ^ N * (Real.log ((1 + ζ) / (1 - ζ)) / 2)) := by
    have h := (Real.hasSum_log_sub_log_of_abs_lt_one (x := ζ) (by rw [abs_of_nonneg h0]; linarith)).mul_left (2 ^ N / 2)
    rw [← Real.log_div (by linarith) (by linarith)] at h
    have hterm : lnTerm N ζ = fun i : Nat => 2 ^ N / 2 * ((2 : ℝ) * (1 / (2 * i + 1)) * ζ ^ (2 * i + 1)) := funext fun i => by
      rw [lnTerm]; ring
    rw [hterm, mul_div_assoc', ← div_mul_eq_mul_div]
    exact h
  refine tail_error (C := 2 ^ N * 2 ^ 0) (r := 1 / 2 ^ 3) hs (by positivity) (by norm_num) (fun j => ?_) (two_pow_tail (by omega))
  have hj : (0 : ℝ) ≤ j := j.cast_nonneg
  rw [lnTerm, abs_of_nonneg (by positivity), pow_zero, mul_one]
  refine mul_le_mul_of_nonneg_left ?_ (by positivity)
  calc ζ ^ (2 * j + 1) / (2 * j + 1) ≤ ζ ^ (2 * j + 1) := div_le_self (by positivity) (by linarith)
    _ ≤ ζ ^ (2 * j) := pow_le_pow_of_le_one h0 (by linarith) (Nat.le_succ _)
    _ = (ζ ^ 2) ^ j := by rw [pow_mul]
    _ ≤ (1 / 2 ^ 3) ^ j := by gcongr; nlinarith

end Logarithm

theorem lnFix_error {N : Nat} {x : Int} (hx : 2 ^ N ≤ x) (hx' : x ≤ 2 * 2 ^ N) :
    |(lnFix N x : ℝ) - 2 ^ N * Real.log (x / 2 ^ N)| ≤ 2 * N + 26 := by
  have hU : (0 : ℝ) < 2 ^ N := by positivity
  have hxr : (2 : ℝ) ^ N ≤ x := by exact_mod_cast hx
  have hxr' : (x : ℝ) ≤ 2 * 2 ^ N := by exact_mod_cast hx'
  have hpos : (0 : ℝ) < x + 2 ^ N := by linarith
  have hposI : 0 < x + 2 ^ N := by exact_mod_cast hpos
  set ζ : ℝ := (x - 2 ^ N) / (x + 2 ^ N) with hζ
  have h0 : 0 ≤ ζ := div_nonneg (by linarith) hpos.le
  have h1 : ζ ≤ 1 / 3 := by rw [hζ, div_le_iff₀ hpos]; linarith
  obtain ⟨hlo, hhi⟩ := ediv_cut ((x - 2 ^ N) * 2 ^ N) hposI
  have hquot : (((x - 2 ^ N) * 2 ^ N : Int) : ℝ) / ((x + 2 ^ N : Int) : ℝ) = 2 ^ N * ζ := by
    push_cast
    rw [hζ, mul_comm, mul_div_assoc]
  rw [hquot] at hlo hhi
  have hlog : Real.log ((1 + ζ) / (1 - ζ)) = Real.log (x / 2 ^ N) := by
    congr 1
    rw [hζ]
    field_simp
    ring
  have hz0 : 0 ≤ (x - 2 ^ N) * 2 ^ N / (x + 2 ^ N) := Int.ediv_nonneg (mul_nonneg (by linarith) (by positivity)) hposI.le
  have hfix : lnFix N x = 2 * lnSum N (((x - 2 ^ N) * 2 ^ N / (x + 2 ^ N)) * ((x - 2 ^ N) * 2 ^ N / (x + 2 ^ N)) / 2 ^ N) (N / 3 + 4) 0
      ((x - 2 ^ N) * 2 ^ N / (x + 2 ^ N)) := rfl
  generalize (x - 2 ^ N) * 2 ^ N / (x + 2 ^ N) = z at hlo hhi hz0 hfix
  have herr := abs_sub_le_add (lnSum_error h0 h1 hz0 hlo hhi.le (N / 3 + 4)) (ln_tail h0 h1)
  have hN : ((N / 3 + 4 : Nat) : ℝ) * 3 ≤ N + 12 := by exact_mod_cast (by omega : (N / 3 + 4) * 3 ≤ N + 12)
  have hdouble : (lnFix N x : ℝ) - 2 ^ N * Real.log (x / 2 ^ N) =
      2 * ((lnSum N (z * z / 2 ^ N) (N / 3 + 4) 0 z : ℝ) - 2 ^ N * (Real.log ((1 + ζ) / (1 - ζ)) / 2)) := by
    rw [hfix, hlog]
    push_cast
    ring
  rw [hdouble, abs_mul, abs_two]
  linarith

end Sys2Proof.Proofs
end

section
/-!
PROOF. The fixed-point functions of R126 come within their bound of the exact values (O60).
-/
namespace Sys2Proof.Proofs
open Sys2Proof Sys2Proof.Machine Sys2Proof.Claim

/-! ## Precision -/

/-- At the precisions of R126 a unit outweighs every bound. -/
theorem bound_lt_unit {N : Nat} (h : 256 ≤ N) : 2 ^ 16 * ((N : ℝ) + 100) ≤ 2 ^ N := by
  suffices 2 ^ 16 * (N + 100) ≤ 2 ^ N by exact_mod_cast this
  induction N, h using Nat.le_induction with
  | base => norm_num
  | succ n hn ih => rw [pow_succ]; omega

theorem fixErr_cast (N : Nat) : ((fixErr N : Int) : ℝ) = 64 * (N + 100) := by simp [fixErr]

/-- The fixed-point form of a number whose bits all stand above the last place is exact. -/
theorem toFix_exact {N man : Nat} {exp : Int} (h : 0 ≤ exp + N) : (toFix N man exp : ℝ) = man * 2 ^ exp * 2 ^ N := by
  rw [toFix, if_pos h]
  push_cast
  rw [mul_assoc, ← zpow_natCast, ← zpow_natCast, ← zpow_add₀ two_ne_zero, Int.toNat_of_nonneg h]

/-- ln 2 as a fixed-point number. -/
theorem ln2Fix_bounds {N : Nat} (h : 256 ≤ N) : 0.69 * 2 ^ N ≤ (ln2Fix N : ℝ) ∧ (ln2Fix N : ℝ) ≤ 0.7 * 2 ^ N := by
  have hbig := bound_lt_unit h
  obtain ⟨hlo, hhi⟩ := abs_le.mp (ln2Fix_error N)
  have hU : (0 : ℝ) < 2 ^ N := by positivity
  have h1 := Real.log_two_gt_d9
  have h2 := Real.log_two_lt_d9
  constructor <;> nlinarith

/-- Below 1 the exponential magnifies a difference less than three times. -/
theorem abs_exp_sub_exp_le {x y : ℝ} (hx : x ≤ 1) (hy : y ≤ 1) : |Real.exp x - Real.exp y| ≤ 3 * |x - y| := by
  wlog h : y ≤ x generalizing x y
  · rw [abs_sub_comm, abs_sub_comm x]
    exact this hy hx (le_of_not_ge h)
  · rw [abs_of_nonneg (by linarith [Real.exp_le_exp.mpr h]), abs_of_nonneg (by linarith)]
    have hstep : Real.exp y = Real.exp x * Real.exp (y - x) := by rw [← Real.exp_add, add_sub_cancel]
    have h1 := Real.add_one_le_exp (y - x)
    have h3 : Real.exp x ≤ 3 := (Real.exp_le_exp.mpr hx).trans (by linarith [Real.exp_one_lt_d9])
    have hpos := Real.exp_pos x
    rw [hstep]
    nlinarith

/-! ## 2^x -/

/-- ln 2 times a fraction, as a fixed-point number. -/
theorem ln2Fix_mul_error {N : Nat} (hN : 256 ≤ N) {f : Int} (h0 : 0 ≤ f) (h1 : f < 2 ^ N) :
    4 * |((f * ln2Fix N / 2 ^ N : Int) : ℝ)| ≤ 3 * 2 ^ N ∧
      2 ^ N * |(f : ℝ) / 2 ^ N * Real.log 2 - ((f * ln2Fix N / 2 ^ N : Int) : ℝ) / 2 ^ N| ≤ 2 * N + 27 := by
  have hU : (0 : ℝ) < 2 ^ N := by positivity
  have hN0 : (0 : ℝ) ≤ N := N.cast_nonneg
  have h0' : (0 : ℝ) ≤ f := by exact_mod_cast h0
  have h1' : (f : ℝ) < 2 ^ N := by exact_mod_cast h1
  obtain ⟨hl, hl'⟩ := ln2Fix_bounds hN
  have hl0 : 0 ≤ ln2Fix N := by
    have : (0 : ℝ) ≤ ln2Fix N := by linarith
    exact_mod_cast this
  obtain ⟨hlnlo, hlnhi⟩ := abs_le.mp (ln2Fix_error N)
  obtain ⟨hlo, hhi⟩ := ediv_cut (f * ln2Fix N) (d := 2 ^ N) (by positivity)
  have hr0 : 0 ≤ f * ln2Fix N / 2 ^ N := Int.ediv_nonneg (mul_nonneg h0 hl0) (by positivity)
  generalize f * ln2Fix N / 2 ^ N = r at hlo hhi hr0 ⊢
  push_cast at hlo hhi
  rw [le_div_iff₀ hU] at hlo
  rw [div_lt_iff₀ hU] at hhi
  constructor
  · rw [abs_of_nonneg (by exact_mod_cast hr0)]
    nlinarith
  · rw [div_mul_eq_mul_div, ← sub_div, abs_div, abs_of_pos hU, mul_div_cancel₀ _ hU.ne', abs_le]
    constructor <;> refine le_of_mul_le_mul_right ?_ hU <;> nlinarith

theorem exp2At_approximates (neg : Bool) (man : Nat) {exp : Int} (hexp : -256 ≤ exp) :
    Approximates (exp2At neg man exp) ((2 : ℝ) ^ (signOf neg * (man * (2 : ℝ) ^ exp))) 256 := by
  intro N hN
  have hU : (0 : ℝ) < 2 ^ N := by positivity
  obtain ⟨x, hxdef⟩ : ∃ x : Int, (if neg then -(toFix N man exp : Int) else toFix N man exp) = x := ⟨_, rfl⟩
  have hx : signOf neg * (man * (2 : ℝ) ^ exp) = x / 2 ^ N := by
    rw [eq_div_iff hU.ne', ← hxdef, mul_assoc, ← toFix_exact (by omega)]
    cases neg <;> simp [signOf]
  simp only [exp2At, hxdef]
  rw [hx]
  -- the whole part k of x and the fraction f
  generalize hk : x / 2 ^ N = k
  have hf0 : 0 ≤ x - k * 2 ^ N := by rw [← hk]; linarith [Int.ediv_mul_le x (by positivity : (2 : Int) ^ N ≠ 0)]
  have hf1 : x - k * 2 ^ N < 2 ^ N := by
    have := Int.lt_ediv_add_one_mul_self x (by positivity : (0 : Int) < 2 ^ N)
    rw [hk] at this
    linarith
  have hfx : (x : ℝ) / 2 ^ N = k + (x - k * 2 ^ N : Int) / 2 ^ N := by push_cast; field_simp; ring
  generalize x - k * 2 ^ N = f at hf0 hf1 hfx ⊢
  obtain ⟨hr, harg⟩ := ln2Fix_mul_error hN hf0 hf1
  generalize f * ln2Fix N / 2 ^ N = r at hr harg ⊢
  have hexact : (2 : ℝ) ^ (x / 2 ^ N : ℝ) * 2 ^ ((N : Int) - k) = 2 ^ N * Real.exp (f / 2 ^ N * Real.log 2) := by
    rw [hfx, Real.rpow_add two_pos, Real.rpow_intCast, zpow_sub₀ two_ne_zero, zpow_natCast, Real.rpow_def_of_pos two_pos (f / 2 ^ N),
      mul_comm (Real.log 2)]
    field_simp
  have hφ : (f : ℝ) / 2 ^ N * Real.log 2 ≤ 1 := by
    have hf0' : (0 : ℝ) ≤ f := by exact_mod_cast hf0
    have hfrac : (f : ℝ) / 2 ^ N ≤ 1 := (div_le_one hU).mpr (by exact_mod_cast hf1.le)
    nlinarith [div_nonneg hf0' hU.le, Real.log_two_lt_d9, Real.log_two_gt_d9]
  have hρ : (r : ℝ) / 2 ^ N ≤ 1 := (div_le_one hU).mpr (by linarith [le_abs_self (r : ℝ)])
  rw [hexact, fixErr_cast]
  calc |2 ^ N * Real.exp (f / 2 ^ N * Real.log 2) - expFix N r| ≤ 3 * (2 * N + 27) + (N + 81) := by
        refine abs_sub_le_add (y := 2 ^ N * Real.exp (r / 2 ^ N)) ?_ (by rw [abs_sub_comm]; exact expFix_error hr)
        rw [← mul_sub, abs_mul, abs_of_pos hU]
        calc 2 ^ N * |Real.exp (f / 2 ^ N * Real.log 2) - Real.exp (r / 2 ^ N)|
            ≤ 2 ^ N * (3 * |(f : ℝ) / 2 ^ N * Real.log 2 - r / 2 ^ N|) := by gcongr; exact abs_exp_sub_exp_le hφ hρ
          _ ≤ 3 * (2 * N + 27) := by linarith
    _ < 64 * (N + 100) := by linarith [(N.cast_nonneg : (0 : ℝ) ≤ N)]

/-! ## log₂ x -/

/-- A magnitude lies between two powers of two, by its leading bit. -/
theorem leadExp_spec {man : Nat} (h : man ≠ 0) (exp : Int) :
    (2 : ℝ) ^ leadExp man exp ≤ man * 2 ^ exp ∧ man * (2 : ℝ) ^ exp < 2 ^ (leadExp man exp + 1) := by
  obtain ⟨hlo, hhi, hpos⟩ := bitLen_spec h
  have hlo' : (2 : ℝ) ^ (bitLen man - 1) ≤ man := by exact_mod_cast hlo
  have hhi' : (man : ℝ) < 2 ^ bitLen man := by exact_mod_cast hhi
  have hexp := two_zpow_pos exp
  constructor
  · calc (2 : ℝ) ^ leadExp man exp = 2 ^ (bitLen man - 1) * 2 ^ exp := by
          rw [← zpow_natCast, ← zpow_add₀ two_ne_zero, leadExp]; congr 1; omega
      _ ≤ man * 2 ^ exp := by gcongr
  · calc (man : ℝ) * 2 ^ exp < 2 ^ bitLen man * 2 ^ exp := by gcongr
      _ = 2 ^ (leadExp man exp + 1) := by rw [← zpow_natCast, ← zpow_add₀ two_ne_zero, leadExp]; congr 1; omega

/-- A quotient of two fixed-point numbers of at most 1 in value, the divisor at least 2/3 of a unit. -/
theorem quotient_error {U X c L l e : ℝ} (hU : 0 < U) (hc : 0 < c) (hX0 : 0 ≤ X) (hX1 : X ≤ c) (hl : 2 * U ≤ 3 * l)
    (hLerr : |L - U * X| ≤ e) (hlerr : |l - U * c| ≤ e) : |U * (X / c) - L * U / l| ≤ 3 * e := by
  have hl0 : 0 < l := by linarith
  have he : 0 ≤ e := (abs_nonneg _).trans hlerr
  have hcross : |X * l - L * c| ≤ 2 * c * e := by
    have hsplit : X * l - L * c = X * (l - U * c) + c * (U * X - L) := by ring
    rw [hsplit]
    refine (abs_add_le _ _).trans ?_
    rw [abs_mul, abs_mul, abs_of_nonneg hX0, abs_of_pos hc, abs_sub_comm (U * X)]
    calc X * |l - U * c| + c * |L - U * X| ≤ c * e + c * e := by gcongr
      _ = 2 * c * e := by ring
  have hdiff : U * (X / c) - L * U / l = U * (X * l - L * c) / (c * l) := by field_simp
  rw [hdiff, abs_div, abs_mul, abs_of_pos hU, abs_of_pos (by positivity : 0 < c * l), div_le_iff₀ (by positivity)]
  calc U * |X * l - L * c| ≤ U * (2 * c * e) := by gcongr
    _ = 2 * U * (c * e) := by ring
    _ ≤ 3 * l * (c * e) := mul_le_mul_of_nonneg_right hl (by positivity)
    _ = 3 * e * (c * l) := by ring

theorem log2At_approximates {man : Nat} (hman : man ≠ 0) (hlen : bitLen man ≤ 256) (exp : Int) :
    Approximates (log2At man exp) (Real.logb 2 (man * (2 : ℝ) ^ exp)) 256 := by
  intro N hN
  have hU : (0 : ℝ) < 2 ^ N := by positivity
  have hN0 : (0 : ℝ) ≤ N := N.cast_nonneg
  have hbig := bound_lt_unit hN
  obtain ⟨hlo, hhi⟩ := leadExp_spec hman exp
  simp only [log2At]
  generalize hk : leadExp man exp = k at hlo hhi ⊢
  have hpow := two_zpow_pos k
  have hξ : (man : ℝ) * 2 ^ exp = 2 ^ k * (man * 2 ^ (exp - k)) := by rw [zpow_sub₀ two_ne_zero]; field_simp
  have hfrac : ((toFix N man (exp - k) : Int) : ℝ) = man * 2 ^ (exp - k) * 2 ^ N := by
    rw [Int.cast_natCast, toFix_exact (by unfold leadExp at hk; omega)]
  rw [hξ] at hlo hhi ⊢
  rw [zpow_add_one₀ two_ne_zero, mul_lt_mul_iff_right₀ hpow] at hhi
  rw [le_mul_iff_one_le_right hpow] at hlo
  generalize (man : ℝ) * 2 ^ (exp - k) = ξ at hlo hhi hfrac ⊢
  generalize (toFix N man (exp - k) : Int) = x at hfrac ⊢
  have hx : (2 : Int) ^ N ≤ x := by
    have : (2 : ℝ) ^ N ≤ x := by rw [hfrac]; nlinarith
    exact_mod_cast this
  have hx' : x ≤ 2 * 2 ^ N := by
    have : (x : ℝ) ≤ 2 * 2 ^ N := by rw [hfrac]; nlinarith
    exact_mod_cast this
  have hL := lnFix_error hx hx'
  rw [hfrac, mul_div_cancel_right₀ _ hU.ne'] at hL
  have hl := ln2Fix_error N
  obtain ⟨hlpos, -⟩ := ln2Fix_bounds hN
  have hl0 : (0 : ℝ) < ln2Fix N := by linarith
  have hX0 : 0 ≤ Real.log ξ := Real.log_nonneg hlo
  have hX1 : Real.log ξ ≤ Real.log 2 := Real.log_le_log (by linarith) hhi.le
  have hc : 0 < Real.log 2 := Real.log_pos one_lt_two
  have hquot := quotient_error hU hc hX0 hX1 (by linarith) hL hl
  have hdiv := ediv_error (lnFix N x * 2 ^ N) (d := ln2Fix N) (by exact_mod_cast hl0)
  have hlog : Real.logb 2 (2 ^ k * ξ) * 2 ^ ((N : Int) - 0) = 2 ^ N * (Real.log ξ / Real.log 2) + k * 2 ^ N := by
    rw [Real.logb, Real.log_mul hpow.ne' (by linarith), Real.log_zpow, sub_zero, zpow_natCast]
    field_simp
    ring
  rw [hlog, fixErr_cast]
  push_cast at hdiv ⊢
  rw [add_sub_add_right_eq_sub]
  rw [abs_sub_comm] at hdiv
  exact (abs_sub_le_add hquot hdiv).trans_lt (by linarith)

/-! ## sin πx and cos πx -/

/-- π times at most a quarter, as a fixed-point number. -/
theorem piFix_mul_error {N : Nat} (hN : 256 ≤ N) {w : Int} (h0 : 0 ≤ w) (h1 : 4 * w ≤ 2 ^ N) :
    |((piFix N * w / 2 ^ N : Int) : ℝ)| ≤ 2 ^ N ∧ 2 ^ N * |((piFix N * w / 2 ^ N : Int) : ℝ) / 2 ^ N - Real.pi * (w / 2 ^ N)| ≤ 4 * N + 66 := by
  have hU : (0 : ℝ) < 2 ^ N := by positivity
  have hbig := bound_lt_unit hN
  have h0' : (0 : ℝ) ≤ w := by exact_mod_cast h0
  have h1' : 4 * (w : ℝ) ≤ 2 ^ N := by exact_mod_cast h1
  obtain ⟨hplo, hphi⟩ := abs_le.mp (piFix_error N)
  obtain ⟨hlo, hhi⟩ := ediv_cut (piFix N * w) (d := 2 ^ N) (by positivity)
  generalize piFix N * w / 2 ^ N = r at hlo hhi ⊢
  push_cast at hlo hhi
  have hpi := Real.pi_gt_three
  have hpi' := Real.pi_lt_d2
  have hprod : |(piFix N : ℝ) * w / 2 ^ N - Real.pi * w| ≤ 4 * N + 65 := by
    have hsplit : (piFix N : ℝ) * w / 2 ^ N - Real.pi * w = (piFix N - 2 ^ N * Real.pi) * (w / 2 ^ N) := by field_simp
    have hw : (w : ℝ) / 2 ^ N ≤ 1 / 4 := by rw [div_le_iff₀ hU]; linarith
    rw [hsplit, abs_mul, abs_of_nonneg (div_nonneg h0' hU.le)]
    calc |(piFix N : ℝ) - 2 ^ N * Real.pi| * (w / 2 ^ N) ≤ (13 * N + 260) * (1 / 4) := by gcongr; exact piFix_error N
      _ ≤ 4 * N + 65 := by linarith [(N.cast_nonneg : (0 : ℝ) ≤ N)]
  have hr : |(r : ℝ) - Real.pi * w| ≤ 4 * N + 66 := by
    rw [abs_le] at hprod ⊢
    constructor <;> linarith
  refine ⟨?_, ?_⟩
  · have hw : Real.pi * w ≤ 3.15 * (2 ^ N / 4) := by nlinarith
    have hw0 : 0 ≤ Real.pi * w := by positivity
    rw [abs_le] at hr ⊢
    constructor <;> linarith
  · rwa [← mul_div_assoc, ← sub_div, abs_div, abs_of_pos hU, mul_div_cancel₀ _ hU.ne']

/-- A fixed-point sine of π times a part of one half turn. -/
theorem sinpiFix_error {N : Nat} (hN : 256 ≤ N) {t : Nat} (ht : t < 2 ^ N) :
    |(sinpiFix N t : ℝ) - 2 ^ N * Real.sin (Real.pi * (t / 2 ^ N))| ≤ 6 * N + 180 := by
  have hU : (0 : ℝ) < 2 ^ N := by positivity
  have hN0 : (0 : ℝ) ≤ N := N.cast_nonneg
  obtain ⟨u, hu⟩ : ∃ u, (if 2 ^ N < 2 * t then 2 ^ N - t else t) = u := ⟨_, rfl⟩
  have hhalf : 2 * u ≤ 2 ^ N := by rw [← hu]; split_ifs <;> omega
  have hsin : Real.sin (Real.pi * (t / 2 ^ N)) = Real.sin (Real.pi * (u / 2 ^ N)) := by
    rw [← hu]
    split_ifs
    · rw [Nat.cast_sub ht.le, ← Real.sin_pi_sub]
      congr 1
      push_cast
      field_simp
    · rfl
  rw [hsin]
  simp only [sinpiFix, hu]
  split_ifs with hq
  · have hq' : 4 * (u : Int) ≤ 2 ^ N := by exact_mod_cast hq
    obtain ⟨hr, harg⟩ := piFix_mul_error hN (Int.natCast_nonneg u) hq'
    generalize piFix N * (u : Int) / 2 ^ N = r at hr harg ⊢
    rw [Int.cast_natCast] at harg
    refine (abs_sub_le_add (sinFix_error hr) (b := 4 * N + 66) ?_).trans (by linarith)
    rw [← mul_sub, abs_mul, abs_of_pos hU]
    exact (mul_le_mul_of_nonneg_left (Real.abs_sin_sub_sin_le _ _) hU.le).trans harg
  · have hpow : 2 ^ N = 2 * 2 ^ (N - 1) := by rw [← pow_succ']; congr 1; omega
    have hw : (0 : Int) ≤ ((2 ^ (N - 1) : Nat) : Int) - u := by omega
    have hw' : 4 * (((2 ^ (N - 1) : Nat) : Int) - u) ≤ 2 ^ N := by
      have : ((2 ^ N : Nat) : Int) = 2 ^ N := by push_cast; rfl
      omega
    obtain ⟨hr, harg⟩ := piFix_mul_error hN hw hw'
    have hcos : Real.sin (Real.pi * (u / 2 ^ N)) = Real.cos (Real.pi * ((((2 ^ (N - 1) : Nat) : Int) - u : Int) / 2 ^ N)) := by
      rw [← Real.cos_pi_div_two_sub]
      congr 1
      have hpow' : (2 : ℝ) ^ N = 2 * 2 ^ (N - 1) := by exact_mod_cast hpow
      push_cast
      rw [hpow']
      field_simp
    rw [hcos]
    generalize piFix N * (((2 ^ (N - 1) : Nat) : Int) - u) / 2 ^ N = r at hr harg ⊢
    refine (abs_sub_le_add (cosFix_error hr) (b := 4 * N + 66) ?_).trans (by linarith)
    rw [← mul_sub, abs_mul, abs_of_pos hU]
    exact (mul_le_mul_of_nonneg_left (Real.abs_cos_sub_cos_le _ _) hU.le).trans harg

/-- Over a whole turn: the second half turn has the sine of the first with the other sign. -/
theorem sinpi_turn_error {N : Nat} (hN : 256 ≤ N) {t : Nat} (ht : t < 2 ^ (N + 1)) :
    |((if t < 2 ^ N then sinpiFix N t else -sinpiFix N (t - 2 ^ N) : Int) : ℝ) - 2 ^ N * Real.sin (Real.pi * (t / 2 ^ N))| ≤ 6 * N + 180 := by
  split_ifs with h
  · exact sinpiFix_error hN h
  · have hsin : Real.sin (Real.pi * (t / 2 ^ N)) = -Real.sin (Real.pi * ((t - 2 ^ N : Nat) / 2 ^ N)) := by
      rw [← Real.sin_add_pi, Nat.cast_sub (not_lt.mp h)]
      congr 1
      push_cast
      field_simp
      ring
    have herr := sinpiFix_error hN (t := t - 2 ^ N) (by rw [pow_succ] at ht; omega)
    rw [hsin]
    push_cast
    rwa [mul_neg, ← neg_sub', abs_neg]

/-- The sine of π times a number is that of its part of a whole turn. -/
theorem sin_mod_turn (N T : Nat) : Real.sin (Real.pi * ((T % 2 ^ (N + 1) : Nat) / 2 ^ N)) = Real.sin (Real.pi * (T / 2 ^ N)) := by
  have hT : (T : ℝ) = 2 ^ (N + 1) * (T / 2 ^ (N + 1) : Nat) + (T % 2 ^ (N + 1) : Nat) := by exact_mod_cast (Nat.div_add_mod T (2 ^ (N + 1))).symm
  rw [hT, ← Real.sin_add_nat_mul_two_pi _ (T / 2 ^ (N + 1))]
  congr 1
  rw [pow_succ]
  field_simp
  ring

theorem sinpiAt_approximates (neg : Bool) (man : Nat) {exp : Int} (hexp : -256 ≤ exp) :
    Approximates (sinpiAt neg man exp) (Real.sin (Real.pi * (signOf neg * (man * (2 : ℝ) ^ exp)))) 256 := by
  intro N hN
  have hU : (0 : ℝ) < 2 ^ N := by positivity
  have hx : (man : ℝ) * 2 ^ exp = toFix N man exp / 2 ^ N := by rw [toFix_exact (by omega), mul_div_cancel_right₀ _ hU.ne']
  have herr := sinpi_turn_error hN (Nat.mod_lt (toFix N man exp) (Nat.two_pow_pos (N + 1)))
  rw [sin_mod_turn, ← hx] at herr
  have hbound : 6 * (N : ℝ) + 180 < fixErr N := by rw [fixErr_cast]; linarith [(N.cast_nonneg : (0 : ℝ) ≤ N)]
  simp only [sinpiAt, sub_zero, zpow_natCast]
  rw [abs_sub_comm, mul_comm _ ((2 : ℝ) ^ N)]
  cases neg
  · simpa [signOf] using herr.trans_lt hbound
  · have hodd : Real.sin (Real.pi * (signOf true * (man * (2 : ℝ) ^ exp))) = -Real.sin (Real.pi * (man * (2 : ℝ) ^ exp)) := by
      rw [← Real.sin_neg]
      congr 1
      simp [signOf]
    rw [hodd, if_pos rfl, Int.cast_neg, mul_neg, ← neg_sub', abs_neg]
    exact herr.trans_lt hbound

theorem cospiAt_approximates (neg : Bool) (man : Nat) {exp : Int} (hexp : -256 ≤ exp) :
    Approximates (cospiAt man exp) (Real.cos (Real.pi * (signOf neg * (man * (2 : ℝ) ^ exp)))) 256 := by
  intro N hN
  have hU : (0 : ℝ) < 2 ^ N := by positivity
  have hpow : (2 : ℝ) ^ N = 2 * 2 ^ (N - 1) := by rw [← pow_succ']; congr 1; omega
  have hcos : Real.cos (Real.pi * (signOf neg * (man * (2 : ℝ) ^ exp))) = Real.sin (Real.pi * ((toFix N man exp + 2 ^ (N - 1) : Nat) / 2 ^ N)) := by
    have hquarter : Real.pi * ((toFix N man exp + 2 ^ (N - 1) : Nat) / 2 ^ N) = Real.pi * (man * (2 : ℝ) ^ exp) + Real.pi / 2 := by
      push_cast
      rw [toFix_exact (by omega), hpow]
      field_simp
    rw [hquarter, Real.sin_add_pi_div_two]
    cases neg <;> simp [signOf]
  have herr := sinpi_turn_error hN (Nat.mod_lt (toFix N man exp + 2 ^ (N - 1)) (Nat.two_pow_pos (N + 1)))
  rw [sin_mod_turn, ← hcos] at herr
  simp only [cospiAt, sub_zero, zpow_natCast]
  rw [abs_sub_comm, mul_comm _ ((2 : ℝ) ^ N), fixErr_cast]
  exact herr.trans_lt (by linarith [(N.cast_nonneg : (0 : ℝ) ≤ N)])

/-! ## tanh x -/

/-- The quotient that turns e^(-2x) into tanh x. -/
theorem tanh_eq_exp (x : ℝ) : Real.tanh x = (1 - Real.exp (-2 * x)) / (1 + Real.exp (-2 * x)) := by
  have hsq : Real.exp (-2 * x) = Real.exp (-x) ^ 2 := by rw [← Real.exp_nat_mul]; congr 1; push_cast; ring
  have hpos := Real.exp_pos x
  rw [Real.tanh_eq_sinh_div_cosh, Real.sinh_eq, Real.cosh_eq, hsq, Real.exp_neg]
  field_simp

/-- The quotient magnifies an error at most four times. -/
theorem tanh_quotient_error {U w W e : ℝ} (hU : 0 < U) (hW : 0 ≤ W) (hw : -(U / 2) ≤ w) (h : |w - W| ≤ e) :
    |(U - w) * U / (U + w) - U * ((1 - W / U) / (1 + W / U))| ≤ 4 * e := by
  have h1 : 0 < U + w := by linarith
  have h2 : 0 < U + W := by linarith
  have hdiff : (U - w) * U / (U + w) - U * ((1 - W / U) / (1 + W / U)) = 2 * U ^ 2 * (W - w) / ((U + w) * (U + W)) := by
    field_simp
    ring
  have he : 0 ≤ e := (abs_nonneg _).trans h
  rw [hdiff, abs_div, abs_mul, abs_of_pos (by positivity : 0 < 2 * U ^ 2), abs_of_pos (by positivity : 0 < (U + w) * (U + W)),
    div_le_iff₀ (by positivity), abs_sub_comm]
  have hden : U ^ 2 ≤ 2 * ((U + w) * (U + W)) := by nlinarith
  calc 2 * U ^ 2 * |w - W| ≤ 2 * U ^ 2 * e := by gcongr
    _ ≤ 2 * (2 * ((U + w) * (U + W))) * e := by gcongr
    _ = 4 * e * ((U + w) * (U + W)) := by ring

/-- e^(-y) as `tanhAt` computes it: y is k ln 2 and a rest, and k halvings follow the exponential of the rest. -/
def expNegFix (N : Nat) (y : Int) : Int := expFix N (-(y - y / ln2Fix N * ln2Fix N)) / 2 ^ (y / ln2Fix N).toNat

theorem tanhAt_eq (neg : Bool) (man : Nat) (exp : Int) (N : Nat) :
    let w := expNegFix N (2 * (toFix N man exp : Int))
    tanhAt neg man exp N = (if neg then -((2 ^ N - w) * 2 ^ N / (2 ^ N + w)) else (2 ^ N - w) * 2 ^ N / (2 ^ N + w), 0) := rfl

/-- The halvings of an operand below 64, and the rest. -/
theorem ln2_reduce {N : Nat} (hN : 256 ≤ N) {y : Int} (h0 : 0 ≤ y) (h1 : y ≤ 64 * 2 ^ N) :
    ∃ k : Nat, y / ln2Fix N = k ∧ (k : ℝ) ≤ 128 ∧ 0 ≤ (y : ℝ) - k * ln2Fix N ∧ (y : ℝ) - k * ln2Fix N ≤ ln2Fix N := by
  have hU : (0 : ℝ) < 2 ^ N := by positivity
  obtain ⟨hl, -⟩ := ln2Fix_bounds hN
  have hl0 : 0 < ln2Fix N := by
    have : (0 : ℝ) < ln2Fix N := by linarith
    exact_mod_cast this
  obtain ⟨k, hk⟩ : ∃ k : Nat, y / ln2Fix N = k := ⟨(y / ln2Fix N).toNat, (Int.toNat_of_nonneg (Int.ediv_nonneg h0 hl0.le)).symm⟩
  obtain ⟨hlo, hhi⟩ := ediv_cut y hl0
  have hl0' : (0 : ℝ) < ln2Fix N := by exact_mod_cast hl0
  have h1' : (y : ℝ) ≤ 64 * 2 ^ N := by exact_mod_cast h1
  rw [hk, Int.cast_natCast, le_div_iff₀ hl0'] at hlo
  rw [hk, Int.cast_natCast, div_lt_iff₀ hl0'] at hhi
  refine ⟨k, hk, ?_, by linarith, by linarith⟩
  by_contra h
  nlinarith

/-- The exponential of the rest, before the halvings. -/
theorem expFix_reduced_error {N k : Nat} (hN : 256 ≤ N) {y : Int} (hk : (k : ℝ) ≤ 128) (h0 : 0 ≤ (y : ℝ) - k * ln2Fix N)
    (h1 : (y : ℝ) - k * ln2Fix N ≤ ln2Fix N) :
    |(expFix N (-(y - k * ln2Fix N)) : ℝ) - 2 ^ N * (Real.exp (-(y / 2 ^ N)) * 2 ^ k)| ≤ N + 81 + 3 * (k * (2 * N + 26)) := by
  have hU : (0 : ℝ) < 2 ^ N := by positivity
  have hN0 : (0 : ℝ) ≤ N := N.cast_nonneg
  have hbig := bound_lt_unit hN
  obtain ⟨-, hl⟩ := ln2Fix_bounds hN
  have hrest : ((-(y - k * ln2Fix N) : Int) : ℝ) = -((y : ℝ) - k * ln2Fix N) := by push_cast; ring
  have hfix := expFix_error (N := N) (r := -(y - k * ln2Fix N)) (by rw [hrest, abs_neg, abs_of_nonneg h0]; linarith)
  rw [hrest] at hfix
  have hshift : |-((y : ℝ) - k * ln2Fix N) / 2 ^ N - (-(y / 2 ^ N) + k * Real.log 2)| ≤ k * (2 * N + 26) / 2 ^ N := by
    have hsplit : -((y : ℝ) - k * ln2Fix N) / 2 ^ N - (-(y / 2 ^ N) + k * Real.log 2) = k * (ln2Fix N - 2 ^ N * Real.log 2) / 2 ^ N := by
      field_simp
      ring
    rw [hsplit, abs_div, abs_of_pos hU, abs_mul, Nat.abs_cast]
    gcongr
    exact ln2Fix_error N
  have hx : -((y : ℝ) - k * ln2Fix N) / 2 ^ N ≤ 0 := div_nonpos_of_nonpos_of_nonneg (by linarith) hU.le
  have hsmall : (k : ℝ) * (2 * N + 26) / 2 ^ N ≤ 1 := by rw [div_le_one hU]; nlinarith
  have hy : -((y : ℝ) / 2 ^ N) + k * Real.log 2 ≤ 1 := by linarith [(abs_le.mp hshift).1]
  have hscale : Real.exp (-((y : ℝ) / 2 ^ N) + k * Real.log 2) = Real.exp (-(y / 2 ^ N)) * 2 ^ k := by
    rw [Real.exp_add, Real.exp_nat_mul, Real.exp_log two_pos]
  refine abs_sub_le_add hfix ?_
  rw [← hscale, ← mul_sub, abs_mul, abs_of_pos hU]
  calc 2 ^ N * |Real.exp (-((y : ℝ) - k * ln2Fix N) / 2 ^ N) - Real.exp (-((y : ℝ) / 2 ^ N) + k * Real.log 2)|
      ≤ 2 ^ N * (3 * (k * (2 * N + 26) / 2 ^ N)) := by
        gcongr
        exact (abs_exp_sub_exp_le (by linarith) hy).trans (by gcongr)
    _ = 3 * (k * (2 * N + 26)) := by field_simp

/-- Each halving halves the error as well, and k halvings more than undo a factor of k. -/
theorem expNegFix_error {N : Nat} (hN : 256 ≤ N) {y : Int} (h0 : 0 ≤ y) (h1 : y ≤ 64 * 2 ^ N) :
    |(expNegFix N y : ℝ) - 2 ^ N * Real.exp (-(y / 2 ^ N))| ≤ 7 * N + 160 := by
  obtain ⟨k, hk, hk128, hr0, hr1⟩ := ln2_reduce hN h0 h1
  have hN0 : (0 : ℝ) ≤ N := N.cast_nonneg
  have hkpow : (k : ℝ) ≤ 2 ^ k := by exact_mod_cast Nat.lt_two_pow_self.le
  have hpowk : (1 : ℝ) ≤ 2 ^ k := one_le_pow₀ one_le_two
  have hnum := expFix_reduced_error hN hk128 hr0 hr1
  rw [expNegFix, hk, Int.toNat_natCast]
  generalize expFix N (-(y - k * ln2Fix N)) = v at hnum ⊢
  have hcut : |(v : ℝ) / (2 ^ k : Int) - 2 ^ N * Real.exp (-(y / 2 ^ N))| ≤ N + 81 + 3 * (2 * N + 26) := by
    have hsplit : (v : ℝ) / (2 ^ k : Int) - 2 ^ N * Real.exp (-(y / 2 ^ N)) = (v - 2 ^ N * (Real.exp (-(y / 2 ^ N)) * 2 ^ k)) / 2 ^ k := by
      push_cast
      field_simp
    rw [hsplit, abs_div, abs_of_pos (by positivity : (0 : ℝ) < 2 ^ k), div_le_iff₀ (by positivity)]
    refine hnum.trans ?_
    nlinarith
  exact (abs_sub_le_add (ediv_error v (d := 2 ^ k) (by positivity)) hcut).trans (by linarith)

theorem tanhAt_approximates (neg : Bool) {man : Nat} {exp : Int} (hexp : -256 ≤ exp) (hlt : (man : ℝ) * 2 ^ exp ≤ 32) :
    Approximates (tanhAt neg man exp) (Real.tanh (signOf neg * (man * (2 : ℝ) ^ exp))) 256 := by
  intro N hN
  have hU : (0 : ℝ) < 2 ^ N := by positivity
  have hN0 : (0 : ℝ) ≤ N := N.cast_nonneg
  have hbig := bound_lt_unit hN
  have hx : (man : ℝ) * 2 ^ exp = toFix N man exp / 2 ^ N := by rw [toFix_exact (by omega), mul_div_cancel_right₀ _ hU.ne']
  have hT : (toFix N man exp : ℝ) ≤ 32 * 2 ^ N := by rw [toFix_exact (by omega)]; gcongr
  have hy : 2 * (toFix N man exp : Int) ≤ 64 * 2 ^ N := by exact_mod_cast (by linarith : 2 * (toFix N man exp : ℝ) ≤ 64 * 2 ^ N)
  have hw := expNegFix_error hN (y := 2 * (toFix N man exp : Int)) (by positivity) hy
  have harg : -(((2 * (toFix N man exp : Int) : Int) : ℝ) / 2 ^ N) = -2 * (man * 2 ^ exp) := by
    push_cast
    rw [hx]
    ring
  rw [harg] at hw
  simp only [tanhAt_eq, sub_zero, zpow_natCast]
  generalize expNegFix N (2 * (toFix N man exp : Int)) = w at hw ⊢
  have hE := Real.exp_pos (-2 * (man * (2 : ℝ) ^ exp))
  have hwlow : -(2 ^ N / 2 : ℝ) ≤ w := by
    have : (0 : ℝ) ≤ 2 ^ N * Real.exp (-2 * (man * 2 ^ exp)) := by positivity
    linarith [(abs_le.mp hw).1]
  have hden : 0 < 2 ^ N + w := by
    have : (0 : ℝ) < 2 ^ N + w := by linarith
    exact_mod_cast this
  have hquot := tanh_quotient_error hU (by positivity) hwlow hw
  rw [mul_div_cancel_left₀ _ hU.ne', ← tanh_eq_exp] at hquot
  have hdiv := ediv_error ((2 ^ N - w) * 2 ^ N) hden
  generalize (2 ^ N - w) * 2 ^ N / (2 ^ N + w) = v at hdiv ⊢
  push_cast at hdiv
  have herr := (abs_sub_le_add hdiv hquot).trans_lt (by rw [fixErr_cast]; linarith : 1 + 4 * (7 * (N : ℝ) + 160) < fixErr N)
  rw [abs_sub_comm, mul_comm _ ((2 : ℝ) ^ N)]
  cases neg
  · simpa [signOf] using herr
  · have hodd : Real.tanh (signOf true * (man * (2 : ℝ) ^ exp)) = -Real.tanh (man * (2 : ℝ) ^ exp) := by
      rw [← Real.tanh_neg]
      congr 1
      simp [signOf]
    rw [hodd, if_pos rfl, Int.cast_neg, mul_neg, ← neg_sub', abs_neg]
    exact herr

end Sys2Proof.Proofs
end

section
/-!
PROOF. Transcendental functions round the exact value once (O60): where a function treats an operand as exact, or as so near to one that any number
between rounds alike, and otherwise where its intervals settle.
-/
namespace Sys2Proof.Proofs
open Sys2Proof Sys2Proof.Machine Sys2Proof.Claim

/-! ## Operands -/

section Operands
variable {F : Fmt} {x : Nat} {a : ℝ} {neg : Bool} {man : Nat} {exp : Int} {sg : Bool}

/-- What `unpack` gives for a code that stands for a number. -/
theorem operand_spec (hF : Regular F) (hx : codeVal F x = some a) (hu : unpack F x = (.fin neg man exp false, sg)) :
    a = signOf neg * (man * (2 : ℝ) ^ exp) ∧ bitLen man ≤ F.m + 1 ∧ minExp F ≤ exp := by
  obtain ⟨hle, -⟩ := (codeVal_eq_some_iff hF).mp hx
  obtain ⟨man', hlt, hu', -⟩ := unpack_of_le hF hle
  rw [hu'] at hu
  obtain ⟨rfl, rfl, rfl⟩ : negOf F x = neg ∧ man' = man ∧ placeOf F (magOf F x) = exp := by simpa using congrArg Prod.fst hu
  refine ⟨?_, ?_, by unfold placeOf minExp; omega⟩
  · rw [codeVal, hu', realOf_fin] at hx
    exact (Option.some.inj hx).symm
  · by_cases h : man' = 0
    · simp [h, bitLen]
    · have hlo := (bitLen_spec h).1
      have := (Nat.pow_lt_pow_iff_right (by norm_num : 1 < 2)).mp (hlo.trans_lt hlt)
      omega

/-- A multiple of a power of two, by its bits. -/
theorem multipleOf_iff {k : Int} : multipleOf man exp k = true ↔ ∃ j : Nat, (man : ℝ) * 2 ^ exp = j * 2 ^ k := by
  unfold multipleOf
  split_ifs with h
  · simp only [true_iff]
    exact ⟨man * 2 ^ (exp - k).toNat, (mul_zpow_toNat man h).symm⟩
  · have hexp : (2 : ℝ) ^ k = 2 ^ (k - exp).toNat * 2 ^ exp := by
      rw [← zpow_natCast, ← zpow_add₀ two_ne_zero, Int.toNat_of_nonneg (by omega), sub_add_cancel]
    rw [decide_eq_true_iff, ← Nat.dvd_iff_mod_eq_zero]
    refine exists_congr fun j => ?_
    rw [hexp, ← mul_assoc, mul_left_inj' (two_zpow_pos exp).ne', mul_comm]
    exact_mod_cast Iff.rfl

/-- The integer part of a magnitude. -/
theorem intPart_spec : (intPart man exp : ℝ) ≤ man * 2 ^ exp ∧ (man : ℝ) * 2 ^ exp < intPart man exp + 1 := by
  unfold intPart
  split_ifs with h
  · have := mul_zpow_toNat (e := exp) (e' := 0) man h
    rw [sub_zero, zpow_zero, mul_one] at this
    rw [this]
    exact ⟨le_rfl, lt_add_one _⟩
  · have hexp : (man : ℝ) * 2 ^ exp = man / (2 ^ (-exp).toNat : Nat) := by
      push_cast
      rw [← zpow_natCast, Int.toNat_of_nonneg (by omega), zpow_neg, div_inv_eq_mul]
    have hd : (0 : ℝ) < (2 ^ (-exp).toNat : Nat) := by positivity
    rw [hexp, le_div_iff₀ hd, div_lt_iff₀ hd]
    exact ⟨by exact_mod_cast Nat.div_mul_le_self man _, by rw [mul_comm]; exact_mod_cast Nat.lt_mul_div_succ man (Nat.two_pow_pos _)⟩

end Operands

/-! ## Results known beforehand -/

section Known
variable {F : Fmt} {x : ℝ}

/-- A power of two, with a sign, is rounded once. -/
theorem rounded_power (hF : Regular F) (neg : Bool) (e : Int) :
    Rounded F .rn (signOf neg * 2 ^ e) (rne F (.fin neg 1 e false)).1 (rne F (.fin neg 1 e false)).2 :=
  rounded_pack hF (by simp [Magnitude]) (by simp)

/-- So is a number within 2^-100 of 1. -/
theorem rounded_nearOne_below (hF : Regular F) (h : 1 - (2 : ℝ) ^ (-100 : Int) < x) (h' : x < 1) :
    Rounded F .rn x (rne F (nearOne true)).1 (rne F (nearOne true)).2 := by
  have hmag : Magnitude (2 ^ 100 - 1) (-100) true x := by
    constructor
    · norm_num at h ⊢; linarith
    · norm_num at h' ⊢; linarith
  have hlong : 2 ^ (F.m + 1) ≤ 2 ^ 100 - 1 := (Nat.pow_le_pow_right two_pos (by have := hF.m_le; omega : F.m + 1 ≤ 53)).trans (by norm_num)
  simpa [nearOne, rne, signOf] using rounded_pack hF (md := .rn) (neg := false) hmag (fun _ => hlong)

theorem rounded_nearOne_above (hF : Regular F) (h : 1 < x) (h' : x < 1 + (2 : ℝ) ^ (-100 : Int)) :
    Rounded F .rn x (rne F (nearOne false)).1 (rne F (nearOne false)).2 := by
  have hmag : Magnitude (2 ^ 100) (-100) true x := by
    constructor
    · norm_num at h ⊢; linarith
    · norm_num at h' ⊢; linarith
  have hlong : 2 ^ (F.m + 1) ≤ 2 ^ 100 := Nat.pow_le_pow_right two_pos (by have := hF.m_le; omega)
  simpa [nearOne, rne, signOf] using rounded_pack hF (md := .rn) (neg := false) hmag (fun _ => hlong)

/-- The formats of the special functions reach to 2^1024 at most, and no lower than 2^-1074. -/
theorem special_range (hF : F ∈ [fmtF32, fmtF64]) : magVal F (F.maxCode + 1) ≤ 2 ^ (1024 : Int) ∧ (2 : ℝ) ^ (-1074 : Int) ≤ magVal F 1 := by
  simp only [List.mem_cons, List.not_mem_nil, or_false] at hF
  rcases hF with rfl | rfl
  · have hmax : magVal fmtF32 (fmtF32.maxCode + 1) = 2 ^ (128 : Int) := by norm_num [magVal, placeOf, fmtF32]
    have hmin : magVal fmtF32 1 = 2 ^ (-149 : Int) := by norm_num [magVal, placeOf, fmtF32]
    rw [hmax, hmin]
    exact ⟨zpow_le_zpow_right₀ one_le_two (by norm_num), zpow_le_zpow_right₀ one_le_two (by norm_num)⟩
  · have hmax : magVal fmtF64 (fmtF64.maxCode + 1) = 2 ^ 52 * 2 ^ (972 : Int) := by norm_num [magVal, placeOf, fmtF64]
    have hmin : magVal fmtF64 1 = 2 ^ (-1074 : Int) := by norm_num [magVal, placeOf, fmtF64]
    rw [hmax, hmin, ← zpow_natCast, ← zpow_add₀ two_ne_zero]
    exact ⟨zpow_le_zpow_right₀ one_le_two (by norm_num), le_rfl⟩

end Known

theorem regular_of_special {F : Fmt} (hF : F ∈ [fmtF32, fmtF64]) : Regular F := by
  simp only [List.mem_cons, List.not_mem_nil, or_false] at hF
  rcases hF with rfl | rfl <;> exact regular_of_mem (by decide)

/-! ## The functions -/

section Functions
variable {F : Fmt} {x : Nat} {a : ℝ} {neg : Bool} {man : Nat} {exp : Int} {sg : Bool}

theorem abs_operand (hx : a = signOf neg * (man * (2 : ℝ) ^ exp)) : |a| = man * (2 : ℝ) ^ exp := by
  rw [hx, abs_signOf_mul (by positivity)]

theorem operand_dyadic (hx : a = signOf neg * (man * (2 : ℝ) ^ exp)) : Dyadic a := hx ▸ dyadic_signOf_mul neg man exp

/-- The bits of an operand show what power of two it is a multiple of. -/
theorem multipleOf_of_eq (hx : a = signOf neg * (man * (2 : ℝ) ^ exp)) {n k : Int} (h : a = n * (2 : ℝ) ^ k) : multipleOf man exp k = true := by
  refine multipleOf_iff.mpr ⟨n.natAbs, ?_⟩
  rw [← abs_operand hx, h, abs_mul, abs_of_pos (two_zpow_pos k), Nat.cast_natAbs, Int.cast_abs]

/-- A magnitude that is whole is its integer part. -/
theorem intPart_of_multiple (h : multipleOf man exp 0 = true) : (man : ℝ) * 2 ^ exp = intPart man exp := by
  obtain ⟨j, hj⟩ := multipleOf_iff.mp h
  obtain ⟨hlo, hhi⟩ := intPart_spec (man := man) (exp := exp)
  rw [zpow_zero, mul_one] at hj
  rw [hj] at hlo hhi ⊢
  have h1 : intPart man exp ≤ j := by exact_mod_cast hlo
  have h2 : j < intPart man exp + 1 := by exact_mod_cast hhi
  exact_mod_cast (by omega : j = intPart man exp)

/-- One that is a multiple of a half, but not whole, lies a half above it. -/
theorem intPart_of_half (h : ¬ multipleOf man exp 0 = true) (h' : multipleOf man exp (-1) = true) : (man : ℝ) * 2 ^ exp = intPart man exp + 1 / 2 := by
  obtain ⟨j, hj⟩ := multipleOf_iff.mp h'
  obtain ⟨hlo, hhi⟩ := intPart_spec (man := man) (exp := exp)
  have hhalf : (man : ℝ) * 2 ^ exp = j / 2 := by rw [hj]; norm_num; ring
  have hodd : j % 2 = 1 := by
    by_contra heven
    obtain ⟨i, rfl⟩ : ∃ i, j = 2 * i := ⟨j / 2, by omega⟩
    exact h (multipleOf_iff.mpr ⟨i, by rw [hhalf]; push_cast; simp⟩)
  obtain ⟨i, rfl⟩ : ∃ i, j = 2 * i + 1 := ⟨j / 2, by omega⟩
  have hval : (man : ℝ) * 2 ^ exp = i + 1 / 2 := by rw [hhalf]; push_cast; ring
  rw [hval] at hlo hhi ⊢
  have h1 : intPart man exp < i + 1 := by
    have : (intPart man exp : ℝ) < i + 1 := by linarith
    exact_mod_cast this
  have h2 : i < intPart man exp + 1 := by
    have : (i : ℝ) < intPart man exp + 1 := by linarith
    exact_mod_cast this
  rw [show intPart man exp = i by omega]

/-! ### 2^x -/

/-- So small an operand leaves 2^x next to 1. -/
theorem rounded_exp2_small (hF : Regular F) (ha : a = signOf neg * (man * (2 : ℝ) ^ exp)) (hm : man ≠ 0) (hsmall : leadExp man exp < -101) :
    Rounded F .rn ((2 : ℝ) ^ a) (rne F (nearOne neg)).1 (rne F (nearOne neg)).2 := by
  have ha1 : |a| < 2 ^ (-101 : Int) := by
    rw [abs_operand ha]
    exact (leadExp_spec hm exp).2.trans_le (zpow_le_zpow_right₀ one_le_two (by omega))
  have hm0 : (0 : ℝ) < man * 2 ^ exp := mul_pos (by exact_mod_cast Nat.pos_of_ne_zero hm) (two_zpow_pos exp)
  norm_num at ha1
  cases neg
  · have ha0 : 0 < a := by simpa [ha, signOf] using hm0
    rw [abs_of_pos ha0] at ha1
    have hle : (2 : ℝ) ^ a ≤ 1 + a := by
      have := rpow_one_add_le_one_add_mul_self (s := 1) (by norm_num) ha0.le (by linarith)
      norm_num at this
      exact this
    exact rounded_nearOne_above hF (Real.one_lt_rpow one_lt_two ha0) (by norm_num; linarith)
  · have ha0 : a < 0 := by simpa [ha, signOf] using hm0
    rw [abs_of_neg ha0] at ha1
    have hge : a * Real.log 2 + 1 ≤ (2 : ℝ) ^ a := by
      rw [Real.rpow_def_of_pos two_pos, mul_comm (Real.log 2)]
      exact Real.add_one_le_exp _
    have hln := Real.log_two_lt_d9
    have hln' := Real.log_two_gt_d9
    exact rounded_nearOne_below hF (by norm_num; nlinarith) (Real.rpow_lt_one_of_one_lt_of_neg one_lt_two ha0)

/-- So great an operand takes 2^x out of the format's range, as it does 2^(±2^20). -/
theorem rounded_exp2_large (hF : F ∈ [fmtF32, fmtF64]) (ha : a = signOf neg * (man * (2 : ℝ) ^ exp)) (hm : man ≠ 0)
    (hlarge : 20 < leadExp man exp) :
    Rounded F .rn ((2 : ℝ) ^ a) (rne F (.fin false 1 (if neg then -(2 ^ 20) else 2 ^ 20) false)).1
      (rne F (.fin false 1 (if neg then -(2 ^ 20) else 2 ^ 20) false)).2 := by
  have hR := regular_of_special hF
  have hpos : (0 : ℝ) < 2 ^ a := Real.rpow_pos_of_pos two_pos a
  have ha1 : (2 : ℝ) ^ (21 : Int) ≤ |a| := by
    rw [abs_operand ha]
    exact (zpow_le_zpow_right₀ one_le_two (by omega)).trans (leadExp_spec hm exp).1
  norm_num at ha1
  obtain ⟨hmax, hmin⟩ := special_range hF
  have hpow : ∀ e : Int, Rounded F .rn (2 ^ e) (rne F (.fin false 1 e false)).1 (rne F (.fin false 1 e false)).2 := fun e => by
    simpa [signOf] using rounded_power hR false e
  cases neg
  · have ha0 : 0 ≤ a := by rw [ha]; simp [signOf]; positivity
    rw [abs_of_nonneg ha0] at ha1
    have hover : ∀ y : ℝ, 2 ^ (1024 : Int) < y → Overflows F .rn y := fun y hy => by
      have hgap := topGap_pos hR
      have hy0 : 0 < y := (two_zpow_pos 1024).trans hy
      rw [magVal_maxCode_succ hR] at hmax
      exact .inl (by rw [abs_of_pos hy0]; linarith)
    have hbig : (2 : ℝ) ^ (1024 : Int) < 2 ^ a := by
      rw [← Real.rpow_intCast]
      exact Real.rpow_lt_rpow_of_exponent_lt one_lt_two (by push_cast; linarith)
    have hbig' : (2 : ℝ) ^ (1024 : Int) < 2 ^ (2 ^ 20 : Int) := zpow_lt_zpow_right₀ one_lt_two (by norm_num)
    exact rounded_of_overflows hR (hpow _) (hover _ hbig') (hover _ hbig) (iff_of_false (not_lt.mpr (two_zpow_pos _).le) (not_lt.mpr hpos.le))
  · have ha0 : a ≤ 0 := by rw [ha]; simp [signOf]; positivity
    rw [abs_of_nonpos ha0] at ha1
    have hhalf : ∀ y : ℝ, y < 2 ^ (-1075 : Int) → 2 * y < magVal F 1 := fun y hy => by
      have : (2 : ℝ) ^ (-1074 : Int) = 2 * 2 ^ (-1075 : Int) := by rw [← zpow_one_add₀ two_ne_zero]; norm_num
      linarith
    have hlow : (2 : ℝ) ^ a < 2 ^ (-1075 : Int) := by
      rw [← Real.rpow_intCast]
      exact Real.rpow_lt_rpow_of_exponent_lt one_lt_two (by push_cast; linarith)
    have hlow' : (2 : ℝ) ^ (-(2 ^ 20) : Int) < 2 ^ (-1075 : Int) := zpow_lt_zpow_right₀ one_lt_two (by norm_num)
    exact rounded_of_vanishing hR (hpow _) (two_zpow_pos _) (hhalf _ hlow') hpos (hhalf _ hlow)

theorem rounded_fExp2 (hF : F ∈ [fmtF32, fmtF64]) (hx : codeVal F x = some a) (hu : unpack F x = (.fin neg man exp false, sg))
    (hs : Settles F (exp2At neg man exp) 6 256) : Rounded F .rn ((2 : ℝ) ^ a) (fExp2 F x).1 (fExp2 F x).2 := by
  have hR := regular_of_special hF
  obtain ⟨ha, hlen, -⟩ := operand_spec hR hx hu
  simp only [fExp2, hu]
  by_cases hm : man = 0
  · rw [if_pos hm]
    obtain rfl : a = 0 := by simpa [hm] using ha
    simpa [signOf] using rounded_power hR false 0
  rw [if_neg hm]
  by_cases hsmall : leadExp man exp < -101
  · rw [if_pos hsmall]
    exact rounded_exp2_small hR ha hm hsmall
  rw [if_neg hsmall]
  by_cases hlarge : 20 < leadExp man exp
  · rw [if_pos hlarge]
    exact rounded_exp2_large hF ha hm hlarge
  rw [if_neg hlarge]
  by_cases hwhole : multipleOf man exp 0 = true
  · rw [if_pos hwhole]
    have hint : a = (signed neg (intPart man exp) : Int) := by rw [ha, intPart_of_multiple hwhole, signed_cast]
    rw [hint, Real.rpow_intCast]
    simpa [signOf] using rounded_power hR false (signed neg (intPart man exp))
  · rw [if_neg hwhole]
    have hnot : ∀ c, codeVal F c ≠ some ((2 : ℝ) ^ a) := fun c hc => by
      obtain ⟨n, hn⟩ := (operand_dyadic ha).exists_int_of_rpow (dyadic_of_codeVal hR hc)
      exact hwhole (multipleOf_of_eq ha (n := n) (k := 0) (by rw [hn, zpow_zero, mul_one]))
    have hexp : -256 ≤ exp := by
      have := hR.m_le
      unfold leadExp at hsmall
      omega
    exact rounded_ziv hR hnot (ha ▸ exp2At_approximates neg man hexp) hs

/-! ### log₂ x -/

theorem rounded_fLog2 (hF : Regular F) (hx : codeVal F x = some a) (hu : unpack F x = (.fin neg man exp false, sg)) (h0 : 0 < a)
    (hs : Settles F (log2At man exp) 6 256) : Rounded F .rn (Real.logb 2 a) (fLog2 F x).1 (fLog2 F x).2 := by
  obtain ⟨ha, hlen, -⟩ := operand_spec hF hx hu
  have hm : man ≠ 0 := by rintro rfl; simp [ha] at h0
  obtain rfl : neg = false := by
    have hm0 : (0 : ℝ) < man * 2 ^ exp := mul_pos (by exact_mod_cast Nat.pos_of_ne_zero hm) (two_zpow_pos exp)
    cases neg
    · rfl
    · simp [ha, signOf] at h0
      linarith
  have ha' : a = man * (2 : ℝ) ^ exp := by simpa [signOf] using ha
  simp only [fLog2, hu, if_neg hm, Bool.false_eq_true, if_false]
  split_ifs with hpow
  · have hlog : Real.logb 2 a = leadExp man exp := by
      have hlead : a = (2 : ℝ) ^ leadExp man exp := by
        have hone := (bitLen_spec hm).2.2
        have hman : (man : ℝ) = 2 ^ (bitLen man - 1) := by exact_mod_cast hpow
        rw [ha', hman, ← zpow_natCast, ← zpow_add₀ two_ne_zero, leadExp]
        congr 1
        omega
      rw [hlead, ← Real.rpow_intCast, Real.logb_rpow two_pos (by norm_num)]
    rw [hlog]
    simpa [rne] using rounded_ofInt hF (md := .rn) (leadExp man exp) 0 false
  · have hnot : ∀ c, codeVal F c ≠ some (Real.logb 2 a) := fun c hc => by
      have hback : (2 : ℝ) ^ Real.logb 2 a = a := Real.rpow_logb two_pos (by norm_num) h0
      obtain ⟨n, hn⟩ := (dyadic_of_codeVal hF hc).exists_int_of_rpow (hback.symm ▸ operand_dyadic ha)
      rw [hn, Real.rpow_intCast, ha'] at hback
      -- a significand that is a power of two is that of its own length
      obtain ⟨hlo, hhi⟩ := leadExp_spec hm exp
      rw [← hback] at hlo hhi
      have h1 := (zpow_le_zpow_iff_right₀ (one_lt_two : (1 : ℝ) < 2)).mp hlo
      have h2 := (zpow_lt_zpow_iff_right₀ (one_lt_two : (1 : ℝ) < 2)).mp hhi
      obtain rfl : n = leadExp man exp := by omega
      have hone := (bitLen_spec hm).2.2
      have hman : (man : ℝ) = (2 ^ (bitLen man - 1) : Nat) := by
        rw [← mul_left_inj' (two_zpow_pos exp).ne', ← hback]
        push_cast
        rw [← zpow_natCast, ← zpow_add₀ two_ne_zero, leadExp]
        congr 1
        omega
      exact hpow (by exact_mod_cast hman)
    exact rounded_ziv hF hnot (ha' ▸ log2At_approximates hm (by have := hF.m_le; omega) exp) hs

/-! ### sin πx and cos πx -/

theorem signOf_odd (i : Nat) : signOf (decide (i % 2 = 1)) = (-1) ^ i := by
  rcases Nat.mod_two_eq_zero_or_one i with h | h
  · simp [signOf, h, Even.neg_one_pow (Nat.even_iff.mpr h)]
  · simp [signOf, h, Odd.neg_one_pow (Nat.odd_iff.mpr h)]

theorem sin_pi_mul_signOf (n : Bool) (y : ℝ) : Real.sin (Real.pi * (signOf n * y)) = signOf n * Real.sin (Real.pi * y) := by
  cases n <;> simp [signOf]

theorem cos_pi_mul_signOf (n : Bool) (y : ℝ) : Real.cos (Real.pi * (signOf n * y)) = Real.cos (Real.pi * y) := by
  cases n <;> simp [signOf]

/-- No f32 operand has bits below the last place at the precisions of R126. -/
theorem exp_of_fmtF32 (hx : codeVal fmtF32 x = some a) (hu : unpack fmtF32 x = (.fin neg man exp false, sg)) : -256 ≤ exp :=
  le_trans (by decide) (operand_spec (regular_of_mem (by decide)) hx hu).2.2

/-- An operand whose bits show no multiple of a half has no multiple of a half turn. -/
theorem two_mul_ne_int (ha : a = signOf neg * (man * (2 : ℝ) ^ exp)) (h : ¬ multipleOf man exp (-1) = true) (n : Int) : 2 * a ≠ n := fun hn =>
  h (multipleOf_of_eq ha (n := n) (k := -1) (by rw [← hn, zpow_neg_one]; ring))

/-- A multiple of one is a multiple of a half. -/
theorem multipleOf_half (h : multipleOf man exp 0 = true) : multipleOf man exp (-1) = true := by
  obtain ⟨j, hj⟩ := multipleOf_iff.mp h
  exact multipleOf_iff.mpr ⟨2 * j, by rw [hj]; push_cast; norm_num; ring⟩

theorem multipleOf_zero {k : Int} : multipleOf 0 exp k = true := multipleOf_iff.mpr ⟨0, by simp⟩

theorem rounded_fSinpi (hx : codeVal fmtF32 x = some a) (hu : unpack fmtF32 x = (.fin neg man exp false, sg))
    (hs : Settles fmtF32 (sinpiAt neg man exp) 4 320) : Rounded fmtF32 .rn (Real.sin (Real.pi * a)) (fSinpi fmtF32 x).1 (fSinpi fmtF32 x).2 := by
  have hR : Regular fmtF32 := regular_of_mem (by decide)
  obtain ⟨ha, -, -⟩ := operand_spec hR hx hu
  have hexp := exp_of_fmtF32 hx hu
  simp only [fSinpi, hu]
  by_cases hwhole : multipleOf man exp 0 = true
  · rw [if_pos (by simp [hwhole])]
    have hzero : Real.sin (Real.pi * a) = 0 := by
      rw [ha, sin_pi_mul_signOf, intPart_of_multiple hwhole, mul_comm Real.pi, Real.sin_nat_mul_pi, mul_zero]
    rw [hzero]
    exact rounded_zero hR neg
  have hm : man ≠ 0 := by rintro rfl; exact hwhole multipleOf_zero
  rw [if_neg (by simp [hwhole, hm])]
  by_cases hhalf : multipleOf man exp (-1) = true
  · rw [if_pos hhalf]
    have hone : Real.sin (Real.pi * a) = signOf (neg != decide (intPart man exp % 2 = 1)) * 2 ^ (0 : Int) := by
      have hturn : Real.pi * ((intPart man exp : ℝ) + 1 / 2) = Real.pi / 2 + intPart man exp * Real.pi := by ring
      rw [ha, sin_pi_mul_signOf, intPart_of_half hwhole hhalf, hturn, Real.sin_add_nat_mul_pi, Real.sin_pi_div_two, signOf_ne, signOf_odd, zpow_zero]
      ring
    rw [hone]
    exact rounded_power hR _ 0
  · rw [if_neg hhalf]
    have hnot : ∀ c, codeVal fmtF32 c ≠ some (Real.sin (Real.pi * a)) := fun c hc =>
      (dyadic_of_codeVal hR hc).not_irrational ((operand_dyadic ha).irrational_sin (two_mul_ne_int ha hhalf))
    have happ := sinpiAt_approximates neg man hexp
    rw [← ha] at happ
    exact rounded_ziv hR hnot (fun N hN => happ N (by omega)) hs

/-- So small an operand leaves cos πx next to 1. -/
theorem rounded_cospi_small (hF : Regular F) (ha : a = signOf neg * (man * (2 : ℝ) ^ exp)) (hm : man ≠ 0) (hsmall : leadExp man exp < -60) :
    Rounded F .rn (Real.cos (Real.pi * a)) (rne F (nearOne true)).1 (rne F (nearOne true)).2 := by
  have hm0 : (0 : ℝ) < man * 2 ^ exp := mul_pos (by exact_mod_cast Nat.pos_of_ne_zero hm) (two_zpow_pos exp)
  have hlt : (man : ℝ) * 2 ^ exp < 2 ^ (-60 : Int) := (leadExp_spec hm exp).2.trans_le (zpow_le_zpow_right₀ one_le_two (by omega))
  rw [ha, cos_pi_mul_signOf]
  generalize (man : ℝ) * 2 ^ exp = y at hm0 hlt
  have hpi := Real.pi_pos
  have hpi' := Real.pi_lt_four
  have hone : Real.cos (Real.pi * y) ≠ 1 := fun h => by
    have hy1 : y < 1 := hlt.trans (by norm_num)
    rw [Real.cos_eq_one_iff_of_lt_of_lt (by nlinarith) (by nlinarith)] at h
    exact (mul_pos hpi hm0).ne' h
  refine rounded_nearOne_below hF (lt_of_lt_of_le ?_ Real.one_sub_sq_div_two_le_cos) (lt_of_le_of_ne (Real.cos_le_one _) hone)
  have hsq : (Real.pi * y) ^ 2 < (4 * 2 ^ (-60 : Int)) ^ 2 := by gcongr
  norm_num at hsq ⊢
  linarith

theorem rounded_fCospi (hx : codeVal fmtF32 x = some a) (hu : unpack fmtF32 x = (.fin neg man exp false, sg))
    (hs : Settles fmtF32 (cospiAt man exp) 4 320) : Rounded fmtF32 .rn (Real.cos (Real.pi * a)) (fCospi fmtF32 x).1 (fCospi fmtF32 x).2 := by
  have hR : Regular fmtF32 := regular_of_mem (by decide)
  obtain ⟨ha, -, -⟩ := operand_spec hR hx hu
  have hexp := exp_of_fmtF32 hx hu
  simp only [fCospi, hu]
  by_cases hwhole : multipleOf man exp 0 = true
  · rw [if_pos (by simp [hwhole])]
    have hone : Real.cos (Real.pi * a) = signOf (decide (intPart man exp % 2 = 1)) * 2 ^ (0 : Int) := by
      rw [ha, cos_pi_mul_signOf, intPart_of_multiple hwhole, mul_comm Real.pi, Real.cos_nat_mul_pi, signOf_odd, zpow_zero, mul_one]
    rw [hone]
    exact rounded_power hR _ 0
  have hm : man ≠ 0 := by rintro rfl; exact hwhole multipleOf_zero
  rw [if_neg (by simp [hwhole, hm])]
  by_cases hhalf : multipleOf man exp (-1) = true
  · rw [if_pos hhalf]
    have hzero : Real.cos (Real.pi * a) = 0 := by
      have hturn : Real.pi * ((intPart man exp : ℝ) + 1 / 2) = Real.pi / 2 + intPart man exp * Real.pi := by ring
      rw [ha, cos_pi_mul_signOf, intPart_of_half hwhole hhalf, hturn, Real.cos_add_nat_mul_pi, Real.cos_pi_div_two, mul_zero]
    rw [hzero]
    exact rounded_zero hR false
  rw [if_neg hhalf]
  by_cases hsmall : leadExp man exp < -60
  · rw [if_pos hsmall]
    exact rounded_cospi_small hR ha hm hsmall
  · rw [if_neg hsmall]
    have hnot : ∀ c, codeVal fmtF32 c ≠ some (Real.cos (Real.pi * a)) := fun c hc =>
      (dyadic_of_codeVal hR hc).not_irrational ((operand_dyadic ha).irrational_cos (two_mul_ne_int ha hhalf))
    have happ := cospiAt_approximates neg man hexp
    rw [← ha] at happ
    exact rounded_ziv hR hnot (fun N hN => happ N (by omega)) hs

/-! ### tanh x -/

theorem tanh_signOf_mul (n : Bool) (y : ℝ) : Real.tanh (signOf n * y) = signOf n * Real.tanh y := by
  cases n <;> simp [signOf]

/-- tanh x lies below x, by the mean value of cosh. -/
theorem tanh_lt_self {y : ℝ} (hy : 0 < y) : Real.tanh y < y := by
  obtain ⟨c, ⟨hc0, hcy⟩, hc⟩ := exists_deriv_eq_slope Real.sinh hy Real.continuous_sinh.continuousOn Real.differentiable_sinh.differentiableOn
  rw [Real.deriv_sinh, Real.sinh_zero, sub_zero, sub_zero, eq_div_iff hy.ne'] at hc
  rw [Real.tanh_eq_sinh_div_cosh, div_lt_iff₀ (Real.cosh_pos y), ← hc, mul_comm]
  exact mul_lt_mul_of_pos_left (Real.cosh_lt_cosh.mpr (by rwa [abs_of_pos hc0, abs_of_pos hy])) hy

/-- It lies above x by less than x³ / 2. -/
theorem tanh_ge {y : ℝ} (hy : 0 ≤ y) : y * (1 - y ^ 2 / 2) ≤ Real.tanh y := by
  have hcosh := Real.cosh_le_exp_half_sq y
  have hpos := Real.cosh_pos y
  have hexp := Real.add_one_le_exp (-(y ^ 2 / 2))
  rw [Real.exp_neg] at hexp
  have hinv : (Real.exp (y ^ 2 / 2))⁻¹ ≤ (Real.cosh y)⁻¹ := inv_anti₀ hpos hcosh
  rw [Real.tanh_eq_sinh_div_cosh, div_eq_mul_inv]
  calc y * (1 - y ^ 2 / 2) ≤ y * (Real.cosh y)⁻¹ := mul_le_mul_of_nonneg_left (by linarith) hy
    _ ≤ Real.sinh y * (Real.cosh y)⁻¹ := mul_le_mul_of_nonneg_right (Real.self_le_sinh_iff.mpr hy) (inv_pos.mpr hpos).le

/-- For small operands tanh x lies just below x. -/
theorem rounded_tanh_small (hF : Regular F) (ha : a = signOf neg * (man * (2 : ℝ) ^ exp)) (hm : man ≠ 0) (hlen : bitLen man ≤ 24)
    (hmF : F.m ≤ 23) (hsmall : leadExp man exp < -30) :
    Rounded F .rn (Real.tanh a) (rne F (.fin neg (man * 2 ^ 30 - 1) (exp - 30) true)).1 (rne F (.fin neg (man * 2 ^ 30 - 1) (exp - 30) true)).2 := by
  have hman1 : 1 ≤ man := Nat.one_le_iff_ne_zero.mpr hm
  have hman1' : (1 : ℝ) ≤ man := by exact_mod_cast hman1
  have hman24 : (man : ℝ) ≤ 2 ^ 24 := by
    exact_mod_cast (bitLen_spec hm).2.1.le.trans (Nat.pow_le_pow_right two_pos hlen)
  have hpos := two_zpow_pos exp
  have hy0 : (0 : ℝ) < man * 2 ^ exp := by positivity
  have hlt : (man : ℝ) * 2 ^ exp < 2 ^ (-30 : Int) := (leadExp_spec hm exp).2.trans_le (zpow_le_zpow_right₀ one_le_two (by omega))
  have hunit : (2 : ℝ) ^ (exp - 30) = 2 ^ exp / 2 ^ 30 := by rw [zpow_sub₀ two_ne_zero]; norm_num
  have hcast : ((man * 2 ^ 30 - 1 : Nat) : ℝ) = man * 2 ^ 30 - 1 := by
    rw [Nat.cast_sub (by omega)]
    norm_num
  have hmag : Magnitude (man * 2 ^ 30 - 1) (exp - 30) true (Real.tanh (man * 2 ^ exp)) := by
    have hsq : (man * (2 : ℝ) ^ exp) ^ 2 < (2 ^ (-30 : Int)) ^ 2 := by gcongr
    have hcube : (man : ℝ) * ((man * (2 : ℝ) ^ exp) ^ 2 / 2) < 1 / 2 ^ 30 := by
      norm_num at hsq ⊢
      nlinarith
    constructor
    · refine lt_of_lt_of_le ?_ (tanh_ge hy0.le)
      rw [hcast, hunit]
      have hsplit : (man * 2 ^ 30 - 1 : ℝ) * (2 ^ exp / 2 ^ 30) = 2 ^ exp * (man - 1 / 2 ^ 30) := by field_simp
      rw [hsplit]
      nlinarith
    · refine (tanh_lt_self hy0).trans_eq ?_
      rw [hcast, hunit]
      field_simp
      ring
  have hlong : 2 ^ (F.m + 1) ≤ man * 2 ^ 30 - 1 := by
    have := Nat.pow_le_pow_right two_pos (by omega : F.m + 1 ≤ 24)
    omega
  rw [ha, tanh_signOf_mul]
  exact rounded_pack hF hmag (fun _ => hlong)

/-- For large ones just below 1. -/
theorem rounded_tanh_large (hF : Regular F) (ha : a = signOf neg * (man * (2 : ℝ) ^ exp)) (hm : man ≠ 0) (hmF : F.m ≤ 23)
    (hlarge : 4 < leadExp man exp) :
    Rounded F .rn (Real.tanh a) (rne F (.fin neg (2 ^ 40 - 1) (-40) true)).1 (rne F (.fin neg (2 ^ 40 - 1) (-40) true)).2 := by
  have hge : (2 : ℝ) ^ (5 : Int) ≤ man * 2 ^ exp := (zpow_le_zpow_right₀ one_le_two (by omega)).trans (leadExp_spec hm exp).1
  norm_num at hge
  rw [ha, tanh_signOf_mul]
  generalize (man : ℝ) * 2 ^ exp = y at hge
  have hmag : Magnitude (2 ^ 40 - 1) (-40) true (Real.tanh y) := by
    have hE : Real.exp (-2 * y) ≤ 1 / 2 ^ 64 := by
      have hexp : Real.exp (-2 * y) ≤ Real.exp (-(64 : Nat)) := Real.exp_le_exp.mpr (by push_cast; linarith)
      have h2 : (2 : ℝ) ^ 64 ≤ Real.exp (64 : Nat) := by
        rw [← mul_one ((64 : Nat) : ℝ), Real.exp_nat_mul]
        exact pow_le_pow_left₀ two_pos.le (by linarith [Real.exp_one_gt_d9]) 64
      rw [Real.exp_neg] at hexp
      exact hexp.trans (by rw [one_div]; exact inv_anti₀ (by positivity) h2)
    have hE0 := Real.exp_pos (-2 * y)
    constructor
    · rw [tanh_eq_exp, lt_div_iff₀ (by linarith)]
      norm_num at hE ⊢
      nlinarith
    · refine (Real.tanh_lt_one y).trans_eq ?_
      norm_num
  have hlong : 2 ^ (F.m + 1) ≤ 2 ^ 40 - 1 := by
    have := Nat.pow_le_pow_right two_pos (by omega : F.m + 1 ≤ 24)
    omega
  exact rounded_pack hF hmag (fun _ => hlong)

theorem rounded_fTanh (hx : codeVal fmtF32 x = some a) (hu : unpack fmtF32 x = (.fin neg man exp false, sg))
    (hs : Settles fmtF32 (tanhAt neg man exp) 5 256) : Rounded fmtF32 .rn (Real.tanh a) (fTanh fmtF32 x).1 (fTanh fmtF32 x).2 := by
  have hR : Regular fmtF32 := regular_of_mem (by decide)
  obtain ⟨ha, hlen, -⟩ := operand_spec hR hx hu
  have hexp := exp_of_fmtF32 hx hu
  simp only [fTanh, hu]
  by_cases hm : man = 0
  · rw [if_pos hm]
    obtain rfl : a = 0 := by simpa [hm] using ha
    rw [Real.tanh_zero]
    exact rounded_zero hR neg
  rw [if_neg hm]
  by_cases hsmall : leadExp man exp < -30
  · rw [if_pos hsmall]
    exact rounded_tanh_small hR ha hm hlen (by decide) hsmall
  rw [if_neg hsmall]
  by_cases hlarge : 4 < leadExp man exp
  · rw [if_pos hlarge]
    exact rounded_tanh_large hR ha hm (by decide) hlarge
  · rw [if_neg hlarge]
    have ha0 : a ≠ 0 := fun h => by
      have habs := abs_operand ha
      rw [h, abs_zero] at habs
      exact (mul_pos (by exact_mod_cast Nat.pos_of_ne_zero hm) (two_zpow_pos exp) : (0 : ℝ) < man * 2 ^ exp).ne habs
    have hnot : ∀ c, codeVal fmtF32 c ≠ some (Real.tanh a) := fun c hc =>
      (dyadic_of_codeVal hR hc).not_irrational ((operand_dyadic ha).irrational_tanh ha0)
    have h32 : (man : ℝ) * 2 ^ exp ≤ 32 := by
      refine (leadExp_spec hm exp).2.le.trans ((zpow_le_zpow_right₀ one_le_two (by omega : leadExp man exp + 1 ≤ 5)).trans_eq (by norm_num))
    have happ := tanhAt_approximates neg hexp h32
    rw [← ha] at happ
    exact rounded_ziv hR hnot happ hs

end Functions

/-- Settles O60: a function's intervals hold the exact value, which is no number of the format, so what both ends round to is that value rounded once;
operands that a function treats apart are exact, or next to a number that rounds as they do. -/
theorem transcendentalValues : Obligations.TranscendentalValues :=
  ⟨fun _ hF _ _ _ _ _ _ hx hu => ⟨rounded_fExp2 hF hx hu, rounded_fLog2 (regular_of_special hF) hx hu⟩,
    fun _ _ _ _ _ _ hx hu => ⟨rounded_fSinpi hx hu, rounded_fCospi hx hu, rounded_fTanh hx hu⟩⟩

end Sys2Proof.Proofs
end

section
/-!
PROOF. O7, O18 and O21 fail for the reason for which O4, O5, O6, O12 and O17 do: no instruction writes a g register that the line's record `gLast`
has as written by a later step (R23), and the statements allow `stampedAhead`, where that record is ahead of the count of steps.
-/
namespace Sys2Proof.Proofs
open Sys2Proof Sys2Proof.Machine Sys2Proof.Claim
set_option Elab.async false -- in order: the declarations that would wait for one another hold no threads

/-- `frcp.f32 g1, g0`: the reciprocal of 0, which is infinite (R126). -/
noncomputable def reciprocalToG1 : Instr := .frcpF32 false 105#7 104#7

/-- What the reciprocal has in flight. -/
def reciprocalReturn : Result :=
  { ctx := 0, vc := 0, line := 0, lanes := [0], regs := [], gs := [(1, 0x7F800000#32)], flags := [(0, 8#5)], pushes := [], stamp := 0 }

/-- Its only action in flight is its return. -/
theorem agenda_reciprocalToG1 : (answerTo reciprocalToG1 stampedAhead).agenda = [.longLatencyReturn reciprocalReturn] := by decide +kernel

/-- The return leaves g1 as it was. -/
theorem greg_after_reciprocalReturn :
    val (answerTo (.longLatencyReturn reciprocalReturn) (answerTo reciprocalToG1 stampedAhead)) 0 105#7 1 = 0 := by decide +kernel

/-- Refutes O7: the return of a reciprocal of 0 does not write the infinity to a g register whose last write the line has as made by step 1,
while the count of steps is 0; `Sound` says nothing of that record. -/
theorem not_specialFunctions : ¬ Obligations.SpecialFunctions := by
  unfold Obligations.SpecialFunctions Claim.SpecialFunctions
  rintro ⟨⟨-, returns⟩, -⟩
  obtain ⟨t, o, r, ho, ht, hagenda, -, -, -, u, hu, hholds, -⟩ :=
    returns reciprocalToG1 _ stampedAhead rfl (by decide) (by decide +kernel) (by decide +kernel) (by decide +kernel) (by decide)
  obtain rfl : ⟨.dst, 105#7, 1⟩ = o := by simpa [reciprocalToG1, Instr.ops, dstOf, opIsDst] using ho
  have hr : r = reciprocalReturn := by
    rw [Adds, eq_answerTo ht, agenda_reciprocalToG1] at hagenda
    have := congrArg List.getLast? hagenda
    simpa [eq_comm] using this
  have hg1 := hholds (by decide) 0 [] rfl
  rw [eq_answerTo hu, hr, eq_answerTo ht, greg_after_reciprocalReturn] at hg1
  exact absurd hg1 (by decide +kernel)

/-- `call g1` to its own word. -/
noncomputable def callLinkG1 : Instr := .call false 105#7 0#18

/-- The call leaves g1 as it was. -/
theorem greg_after_callLinkG1 : val (answerTo callLinkG1 stampedAhead) 0 105#7 1 = 0 := by decide +kernel

/-- Refutes O18: `call` does not write its link to a g register whose last write the line has as made by step 1, while the count of steps
is 0; `Sound` says nothing of that record. -/
theorem not_controlFlow : ¬ Obligations.ControlFlow := by
  unfold Obligations.ControlFlow Claim.CallsAndIndirect
  rintro ⟨-, ⟨calls, -⟩, -⟩
  obtain ⟨t, ht, -, -, hholds, -⟩ :=
    calls stampedAhead false 105#7 0#18 (by decide) (by decide +kernel) (by decide +kernel) (by decide +kernel)
  have hlink := hholds (by decide) 0 [] rfl
  rw [eq_answerTo ht] at hlink
  exact absurd (greg_after_callLinkG1.symm.trans hlink) (by decide)

/-- The line of `stampedAhead` with one entry in the queue of its channel 0. -/
def stampedQueue : State :=
  { stampedAhead with lines := [(⟨0, 0, 0⟩, { gLast := [(1, 1)], chans := { bound := true, queue := [.data 5#32] } :: List.replicate 7 {} })] }

/-- `ch.cnt g1, ch0`. -/
noncomputable def countToG1 : Instr := .chCnt false 105#7 0#3

/-- The count leaves g1 as it was. -/
theorem greg_after_countToG1 : val (answerTo countToG1 stampedQueue) 0 105#7 1 = 0 := by decide +kernel

/-- Refutes O21: `ch.cnt` does not write that one entry is present to a g register whose last write the line has as made by step 1, while the
count of steps is 0; `Sound` says nothing of that record. -/
theorem not_channels : ¬ Obligations.Channels := by
  unfold Obligations.Channels Claim.ChannelBindings
  rintro ⟨⟨-, -, counts⟩, -⟩
  obtain ⟨t, ht, -, -, -, hholds⟩ :=
    counts stampedQueue false 105#7 0#3 (by decide) (by decide +kernel) (by decide +kernel) (by decide +kernel)
  have hcount := hholds (by decide) 0 [] rfl
  rw [eq_answerTo ht] at hcount
  exact absurd (greg_after_countToG1.symm.trans hcount) (by decide +kernel)

end Sys2Proof.Proofs
end

section
/-!
PROOF. O43 fails: an instruction other than `exit` and `scan` changes a tile. The last member of a group that leaves it dissolves the group and
releases its reservations after the passes that name them (R143, R173), and these passes run within the instruction.
-/
namespace Sys2Proof.Proofs
open Sys2Proof Sys2Proof.Machine Sys2Proof.Claim
set_option Elab.async false

/-- One lane, alone in group 0 of its core, which owns reservation 3. Quarter 0's engine has a clear of tile 0 queued, and behind it a pass that
names the reservation; the tile is not clear. -/
def tileQueued : State :=
  { State.reset with
    issue := { lanes := [0] }
    threads := [(⟨0, 0, 0, 0⟩, { group := 0#32 })]
    lines := [(⟨0, 0, 0⟩, { tiles := [(0, { cls := 1, k := 1 })] })]
    cores := [(⟨0, 0⟩, {
      groups := [(0, { gen := 0, square := false, base := 0, alloc := 0, cap := 32, launch := none, members := [⟨0, 0, 0⟩], arrived := [] })]
      oprs := [(3, { recd := 0#256, group := 0#32 })]
      engines := [(0, [.clear 0 0, .mma 0 1 3 3 0#256 0#256 0#32 0 false 0 [] ⟨0, false⟩])] })] }

/-- Its `leave` clears the tile. -/
theorem tile_after_leave : look ((answerTo (.leave false) tileQueued).line 0 0 0).tiles 0 = none := by decide +kernel

/-- Refutes O43: `leave` by the last member of a group runs the queued passes that name its reservations, and those before them. -/
theorem not_privilegeGuards : ¬ Obligations.PrivilegeGuards := by
  unfold Obligations.PrivilegeGuards Claim.SettingsAndTilesGuarded
  rintro ⟨-, -, -, tilesKept⟩
  obtain ⟨t, ht⟩ : ∃ t, exec (.leave false) tileQueued = .next t := ⟨_, rfl⟩
  have h := tilesKept (.leave false) tileQueued t rfl (by simp) rfl ht 0 0 0
  rw [eq_answerTo ht] at h
  have := tile_after_leave
  rw [h] at this
  exact absurd this (by decide)

end Sys2Proof.Proofs
end

section
/-!
PROOF. Instruction words (R67): a word is made of its fields and its fields are read back from it.
-/
namespace Sys2Proof.Proofs
open Sys2Proof
set_option Elab.async false

theorem ofBool_getLsbD {n : Nat} (x : BitVec n) (k : Nat) : BitVec.ofBool (x.getLsbD k) = x.extractLsb' k 1 := by
  ext i hi
  obtain rfl : i = 0 := by omega
  simp

section
variable (s : Bool) (maj : BitVec 6) (d a b : Fld) (fn : BitVec 4)

@[simp] theorem wordFn_mkWord : wordFn (mkWord s maj d a b fn) = fn :=
  BitVec.extractLsb'_append_eq_right

@[simp] theorem wordB_mkWord : wordB (mkWord s maj d a b fn) = b :=
  (BitVec.extractLsb'_append_eq_of_le (by decide)).trans BitVec.extractLsb'_append_eq_right

@[simp] theorem wordA_mkWord : wordA (mkWord s maj d a b fn) = a :=
  (BitVec.extractLsb'_append_eq_of_le (by decide)).trans <|
    (BitVec.extractLsb'_append_eq_of_le (by decide)).trans BitVec.extractLsb'_append_eq_right

@[simp] theorem wordD_mkWord : wordD (mkWord s maj d a b fn) = d :=
  (BitVec.extractLsb'_append_eq_of_le (by decide)).trans <|
    (BitVec.extractLsb'_append_eq_of_le (by decide)).trans <|
    (BitVec.extractLsb'_append_eq_of_le (by decide)).trans BitVec.extractLsb'_append_eq_right

@[simp] theorem wordMajor_mkWord : wordMajor (mkWord s maj d a b fn) = maj :=
  (BitVec.extractLsb'_append_eq_of_le (by decide)).trans <|
    (BitVec.extractLsb'_append_eq_of_le (by decide)).trans <|
    (BitVec.extractLsb'_append_eq_of_le (by decide)).trans <|
    (BitVec.extractLsb'_append_eq_of_le (by decide)).trans BitVec.extractLsb'_append_eq_right

@[simp] theorem wordS_mkWord : wordS (mkWord s maj d a b fn) = s := by
  show (BitVec.ofBool s ++ maj ++ d ++ a ++ b ++ fn).getLsbD 31 = s
  simp only [BitVec.getLsbD_append, BitVec.getLsbD_ofBool]
  simp

end

/-- A word is its fields put together (R67). -/
theorem mkWord_fields (w : Word) : mkWord (wordS w) (wordMajor w) (wordD w) (wordA w) (wordB w) (wordFn w) = w := by
  show BitVec.ofBool (w.getLsbD 31) ++ w.extractLsb' 25 6 ++ w.extractLsb' 18 7 ++ w.extractLsb' 11 7 ++ w.extractLsb' 4 7 ++
    w.extractLsb' 0 4 = w
  simp (disch := decide) only [ofBool_getLsbD, BitVec.extractLsb'_append_extractLsb'_eq_extractLsb']
  exact BitVec.extractLsb'_eq_self

end Sys2Proof.Proofs
end

section
/-!
PROOF. The two readings of the opcode map (R84 to R94), the decoder's and the loader's, row by row: a row that the decoder reads
gives back its word, and the loader assigns it exactly when the decoder does, with the same operands.
-/
namespace Sys2Proof.Proofs
open Sys2Proof Sys2Proof.Machine
set_option Elab.async false

/-! ## Fields that hold several codes -/

@[simp] theorem high22 (x y : BitVec 2) : (x ++ y : BitVec 4).extractLsb' 2 2 = x := BitVec.extractLsb'_append_eq_left
@[simp] theorem low22 (x y : BitVec 2) : (x ++ y : BitVec 4).extractLsb' 0 2 = y := BitVec.extractLsb'_append_eq_right
@[simp] theorem high13 (x : BitVec 1) (y : BitVec 3) : (x ++ y : BitVec 4).extractLsb' 3 1 = x :=
    BitVec.extractLsb'_append_eq_left
@[simp] theorem low13 (x : BitVec 1) (y : BitVec 3) : (x ++ y : BitVec 4).extractLsb' 0 3 = y :=
    BitVec.extractLsb'_append_eq_right
@[simp] theorem high34 (x : BitVec 3) (y : BitVec 4) : (x ++ y : BitVec 7).extractLsb' 4 3 = x :=
    BitVec.extractLsb'_append_eq_left
@[simp] theorem low34 (x : BitVec 3) (y : BitVec 4) : (x ++ y : BitVec 7).extractLsb' 0 4 = y :=
    BitVec.extractLsb'_append_eq_right
@[simp] theorem high43 (x : BitVec 4) (y : BitVec 3) : (x ++ y : BitVec 7).extractLsb' 3 4 = x :=
    BitVec.extractLsb'_append_eq_left
@[simp] theorem low43 (x : BitVec 4) (y : BitVec 3) : (x ++ y : BitVec 7).extractLsb' 0 3 = y :=
    BitVec.extractLsb'_append_eq_right
@[simp] theorem high25 (x : BitVec 2) (y : BitVec 5) : (x ++ y : BitVec 7).extractLsb' 5 2 = x :=
    BitVec.extractLsb'_append_eq_left
@[simp] theorem low25 (x : BitVec 2) (y : BitVec 5) : (x ++ y : BitVec 7).extractLsb' 0 5 = y :=
    BitVec.extractLsb'_append_eq_right
@[simp] theorem high61 (x : BitVec 6) (m : Bool) : (x ++ BitVec.ofBool m : BitVec 7).extractLsb' 1 6 = x :=
    BitVec.extractLsb'_append_eq_left
@[simp] theorem low61 (x : BitVec 6) (m : Bool) : (x ++ BitVec.ofBool m : BitVec 7).getLsbD 0 = m := by revert x m; decide
@[simp] theorem high16 (u : Bool) (x : BitVec 6) : (BitVec.ofBool u ++ x : BitVec 7).getLsbD 6 = u := by revert u x; decide
@[simp] theorem low16 (u : Bool) (x : BitVec 6) : (BitVec.ofBool u ++ x : BitVec 7).extractLsb' 0 6 = x :=
    BitVec.extractLsb'_append_eq_right
@[simp] theorem high44 (x y : BitVec 4) : (x ++ y : BitVec 8).extractLsb' 4 4 = x := BitVec.extractLsb'_append_eq_left
@[simp] theorem low44 (x y : BitVec 4) : (x ++ y : BitVec 8).extractLsb' 0 4 = y := BitVec.extractLsb'_append_eq_right
@[simp] theorem high24 (x : BitVec 2) (y : BitVec 4) : (x ++ y : BitVec 6).extractLsb' 4 2 = x :=
    BitVec.extractLsb'_append_eq_left
@[simp] theorem low24 (x : BitVec 2) (y : BitVec 4) : (x ++ y : BitVec 6).extractLsb' 0 4 = y :=
    BitVec.extractLsb'_append_eq_right
@[simp] theorem high64 (x : BitVec 6) (y : BitVec 4) : (x ++ y : BitVec 10).extractLsb' 4 6 = x :=
    BitVec.extractLsb'_append_eq_left
@[simp] theorem low64 (x : BitVec 6) (y : BitVec 4) : (x ++ y : BitVec 10).extractLsb' 0 4 = y :=
    BitVec.extractLsb'_append_eq_right
@[simp] theorem high37 (x : BitVec 3) (y : BitVec 7) : (x ++ y : BitVec 10).extractLsb' 7 3 = x :=
    BitVec.extractLsb'_append_eq_left
@[simp] theorem low37 (x : BitVec 3) (y : BitVec 7) : (x ++ y : BitVec 10).extractLsb' 0 7 = y :=
    BitVec.extractLsb'_append_eq_right
@[simp] theorem high74 (x : BitVec 7) (y : BitVec 4) : (x ++ y : BitVec 11).extractLsb' 4 7 = x :=
    BitVec.extractLsb'_append_eq_left
@[simp] theorem low74 (x : BitVec 7) (y : BitVec 4) : (x ++ y : BitVec 11).extractLsb' 0 4 = y :=
    BitVec.extractLsb'_append_eq_right

/-- A shift's b: its kind, its width, two zeros, and the top of its count (R85). -/
@[simp] theorem shift_field (k z c : BitVec 2) (w : Bool) : (k ++ BitVec.ofBool w ++ z ++ c : BitVec 7).extractLsb' 5 2 = k ∧
    (k ++ BitVec.ofBool w ++ z ++ c : BitVec 7).getLsbD 4 = w ∧
        (k ++ BitVec.ofBool w ++ z ++ c : BitVec 7).extractLsb' 2 2 = z ∧
    (k ++ BitVec.ofBool w ++ z ++ c : BitVec 7).extractLsb' 0 2 = c := by revert k z c w; decide

/-- A conversion's b: the source format, the rounding mode, a zero (R87). -/
@[simp] theorem cvt_field (c : BitVec 4) (r : BitVec 2) (z : BitVec 1) : (c ++ r ++ z : BitVec 7).extractLsb' 3 4 = c ∧
    (c ++ r ++ z : BitVec 7).extractLsb' 1 2 = r ∧ (c ++ r ++ z : BitVec 7).extractLsb' 0 1 = z := by revert c r z; decide

@[simp] theorem join22 (x : BitVec 4) : (x.extractLsb' 2 2 ++ x.extractLsb' 0 2 : BitVec 4) = x := by revert x; decide
@[simp] theorem join13 (x : BitVec 4) : (x.extractLsb' 3 1 ++ x.extractLsb' 0 3 : BitVec 4) = x := by revert x; decide
@[simp] theorem join24 (x : BitVec 6) : (x.extractLsb' 4 2 ++ x.extractLsb' 0 4 : BitVec 6) = x := by revert x; decide
@[simp] theorem join34 (x : BitVec 7) : (x.extractLsb' 4 3 ++ x.extractLsb' 0 4 : BitVec 7) = x := by revert x; decide
@[simp] theorem join43 (x : BitVec 7) : (x.extractLsb' 3 4 ++ x.extractLsb' 0 3 : BitVec 7) = x := by revert x; decide
@[simp] theorem join25 (x : BitVec 7) : (x.extractLsb' 5 2 ++ x.extractLsb' 0 5 : BitVec 7) = x := by revert x; decide
@[simp] theorem join61 (x : BitVec 7) : (x.extractLsb' 1 6 ++ BitVec.ofBool (x.getLsbD 0) : BitVec 7) = x := by revert x; decide
@[simp] theorem join16 (x : BitVec 7) : (BitVec.ofBool (x.getLsbD 6) ++ x.extractLsb' 0 6 : BitVec 7) = x := by revert x; decide
@[simp] theorem join44 (x : BitVec 8) : (x.extractLsb' 4 4 ++ x.extractLsb' 0 4 : BitVec 8) = x :=
  (BitVec.extractLsb'_append_extractLsb'_eq_extractLsb' rfl).trans BitVec.extractLsb'_eq_self
@[simp] theorem join64 (x : BitVec 10) : (x.extractLsb' 4 6 ++ x.extractLsb' 0 4 : BitVec 10) = x :=
  (BitVec.extractLsb'_append_extractLsb'_eq_extractLsb' rfl).trans BitVec.extractLsb'_eq_self
@[simp] theorem join37 (x : BitVec 10) : (x.extractLsb' 7 3 ++ x.extractLsb' 0 7 : BitVec 10) = x :=
  (BitVec.extractLsb'_append_extractLsb'_eq_extractLsb' rfl).trans BitVec.extractLsb'_eq_self
@[simp] theorem join74 (x : BitVec 11) : (x.extractLsb' 4 7 ++ x.extractLsb' 0 4 : BitVec 11) = x :=
  (BitVec.extractLsb'_append_extractLsb'_eq_extractLsb' rfl).trans BitVec.extractLsb'_eq_self
@[simp] theorem join774 (x : BitVec 18) : (x.extractLsb' 11 7 ++ x.extractLsb' 4 7 ++ x.extractLsb' 0 4 : BitVec 18) = x :=
  (congrArg (· ++ x.extractLsb' 0 4) (BitVec.extractLsb'_append_extractLsb'_eq_extractLsb' rfl)).trans <|
    (BitVec.extractLsb'_append_extractLsb'_eq_extractLsb' rfl).trans BitVec.extractLsb'_eq_self
@[simp] theorem join574 (x : BitVec 16) : (x.extractLsb' 11 5 ++ x.extractLsb' 4 7 ++ x.extractLsb' 0 4 : BitVec 16) = x :=
  (congrArg (· ++ x.extractLsb' 0 4) (BitVec.extractLsb'_append_extractLsb'_eq_extractLsb' rfl)).trans <|
    (BitVec.extractLsb'_append_extractLsb'_eq_extractLsb' rfl).trans BitVec.extractLsb'_eq_self
@[simp] theorem join_shift (x : BitVec 7) :
    (x.extractLsb' 5 2 ++ BitVec.ofBool (x.getLsbD 4) ++ x.extractLsb' 2 2 ++ x.extractLsb' 0 2 : BitVec 7) = x := by
  revert x; decide
@[simp] theorem join_cvt (x : BitVec 7) : (x.extractLsb' 3 4 ++ x.extractLsb' 1 2 ++ x.extractLsb' 0 1 : BitVec 7) = x := by
  revert x; decide
@[simp] theorem parts774 (x y : BitVec 7) (z : BitVec 4) : (x ++ y ++ z : BitVec 18).extractLsb' 11 7 = x ∧
    (x ++ y ++ z : BitVec 18).extractLsb' 4 7 = y ∧ (x ++ y ++ z : BitVec 18).extractLsb' 0 4 = z :=
  ⟨(BitVec.extractLsb'_append_eq_of_le (by decide)).trans BitVec.extractLsb'_append_eq_left,
    (BitVec.extractLsb'_append_eq_of_le
        (by decide)).trans BitVec.extractLsb'_append_eq_right, BitVec.extractLsb'_append_eq_right⟩
@[simp] theorem parts574 (x : BitVec 5) (y : BitVec 7) (z : BitVec 4) : (x ++ y ++ z : BitVec 16).extractLsb' 11 5 = x ∧
    (x ++ y ++ z : BitVec 16).extractLsb' 4 7 = y ∧ (x ++ y ++ z : BitVec 16).extractLsb' 0 4 = z :=
  ⟨(BitVec.extractLsb'_append_eq_of_le (by decide)).trans BitVec.extractLsb'_append_eq_left,
    (BitVec.extractLsb'_append_eq_of_le
        (by decide)).trans BitVec.extractLsb'_append_eq_right, BitVec.extractLsb'_append_eq_right⟩

end Sys2Proof.Proofs
end

section
/-!
PROOF. The decoder reads back every well-formed instruction from its word (R67, R84).
-/
namespace Sys2Proof.Proofs
open Sys2Proof Sys2Proof.Machine Sys2Proof.Claim
set_option Elab.async false

/-- What the decoder reads, if the opcode map reads an instruction off the fields. -/
theorem decodeWord_mkWord {s : Bool} {maj : BitVec 6} {d a b : Fld} {fn : BitVec 4} {i : Instr}
    (hd : decodeFields s maj d a b fn = some i) (hwf : i.wf = true) :
        (decodeWord (mkWord s maj d a b fn)).toOption = some i := by
  simp only [decodeWord, wordS_mkWord, wordMajor_mkWord, wordD_mkWord, wordA_mkWord, wordB_mkWord, wordFn_mkWord, hd, hwf,
      if_true]
  rfl

section
variable {s : Bool} {maj : BitVec 6} {d a b : Fld} {fn : BitVec 4} {i : Instr} {w : Word}

/-- An instruction is read back, if the opcode map reads it off the fields of its word. -/
theorem read_of_fields (hw : encode i = some (mkWord s maj d a b fn)) (hd : decodeFields s maj d a b fn = some i)
    (hwf : i.wf = true) (he : encode i = some w) : (decodeWord w).toOption = some i := by
  obtain rfl : mkWord s maj d a b fn = w := Option.some.inj (hw.symm.trans he)
  exact decodeWord_mkWord hd hwf

/-- An instruction is read back, if the map of its major reads it off the fields of its word. -/
theorem read_of_row {row : Bool → Fld → Fld → Fld → BitVec 4 → Option Instr} (hw : encode i = some (mkWord s maj d a b fn))
    (hrow : decodeFields s maj d a b fn = row s d a b fn) (hd : row s d a b fn = some i) (hwf : i.wf = true)
    (he : encode i = some w) : (decodeWord w).toOption = some i :=
  read_of_fields hw (hrow.trans hd) hwf he

end

theorem decode09_shift (s : Bool) (d a : Fld) (w : Bool) (c : BitVec 6) (k : BitVec 2) :
    decode09 s d a (k ++ BitVec.ofBool w ++ 0#2 ++ c.extractLsb' 4 2) (c.extractLsb' 0 4) =
      if k = 0#2 then some (.shli s d a w c) else if k = 1#2 then some (.shri s d a w c)
      else if k = 2#2 then some (.sari s d a w c) else if k = 3#2 then some (.rotri s d a w c) else none := by
  obtain ⟨hk, hw, hz, hc⟩ := shift_field k 0#2 (c.extractLsb' 4 2) w
  simp only [decode09, hk, hw, hz, hc, join24, beq_self_eq_true, Bool.true_and, beq_iff_eq]

/-- A read of a special register whose number is below 0x80 is not the read of the position. -/
theorem decode0F_srd (s : Bool) (d : Fld) (n : BitVec 8) :
    decode0F s d 0#7 (0#3 ++ n.extractLsb' 4 4) (n.extractLsb' 0 4) = some (.srd s d n) := by
  have low : ∀ x : BitVec 4, (0#3 ++ x : BitVec 7) ≠ 16#7 ∧ (0#3 ++ x : BitVec 7) ≠ 64#7 ∧ (0#3 ++ x : BitVec 7) ≠ 68#7 := by
      decide
  obtain ⟨h1, h2, h3⟩ := low (n.extractLsb' 4 4)
  simp [decode0F, h1, h2, h3]

/-- A write of a special register that has no row of its own. -/
theorem decode0F_swr (s : Bool) (a : Fld) (n : BitVec 8) (h : ownRowSreg n = false) :
    decode0F s 0#7 a (4#3 ++ n.extractLsb' 4 4) (n.extractLsb' 0 4) = some (.swr s a n) := by
  have high : ∀ x : BitVec 4, (4#3 ++ x : BitVec 7) ≠ 16#7 ∧ ((4#3 ++ x : BitVec 7) = 64#7 ↔ x = 0#4) ∧
      ((4#3 ++ x : BitVec 7) = 68#7 ↔ x = 4#4) := by decide
  obtain ⟨h1, h2, h3⟩ := high (n.extractLsb' 4 4)
  have whole : ∀ x y : BitVec 4, n.extractLsb' 4 4 = x → n.extractLsb' 0 4 ≠ y ∨ n = x ++ y := fun x y hx => by
    by_cases hy : n.extractLsb' 0 4 = y
    · exact .inr (by rw [← hx, ← hy, join44])
    · exact .inl hy
  simp only [ownRowSreg, Bool.or_eq_false_iff, beq_eq_false_iff_ne] at h
  obtain ⟨⟨n1, n2⟩, n3⟩ := h
  have k1 : ¬ (n.extractLsb' 4 4 = 0#4 ∧ n.extractLsb' 0 4 = 8#4) := fun ⟨e, f⟩ => (whole _ _ e).elim (· f) n1
  have k2 : ¬ (n.extractLsb' 4 4 = 4#4 ∧ n.extractLsb' 0 4 = 1#4) := fun ⟨e, f⟩ => (whole _ _ e).elim (· f) n2
  have k3 : ¬ (n.extractLsb' 4 4 = 4#4 ∧ n.extractLsb' 0 4 = 5#4) := fun ⟨e, f⟩ => (whole _ _ e).elim (· f) n3
  simp [decode0F, h1, h2, h3, k1, k2, k3]

/-- Settles O45, by the instruction: its fields are whole fields of the word, or parts of one that the opcode map takes
    apart. -/
theorem decodeEncode : Obligations.DecodeEncode := by
  unfold Obligations.DecodeEncode
  intro i w hwf he hscan
  cases i
  case longLatencyReturn | gangPromotion | channelPushArrive | storePerform | gatewayPageFault | writebackFault |
      trapRecordEnqueue | partialArrive | panHoldExpiry | ctbmLeafArrive | closeMarkerArrive | slotResolve | slotFinal |
      mmaPassStart | fusionWindowExpiry | drainSeqWrite | jobElement | jobRetire | collectiveWindowGrant |
      collectiveRootReturn | ckptGranuleCopy | ckptCowCopy | vcAccept | vcMoveStep | vcCommit | pageMigrate |
      thrashThrottleExpiry | launch | launchStart | unitPlace | edgeSatisfied | launchComplete | preemptDelayExpiry |
      preemptDeadline | coreRelease | forcedStop | scanComplete | imageRestore | contextResume | contextMigrate |
      watchpointHit | hostWrite | hostRead | lctAck | lctRetransmitTimeout | contextCreate | contextDestroy | queueBind |
      queueUnbind | rangeRegisterWrite | pageMap | pageUnmap | pageChange | windowOpenClose | sessionOpenClose | faultResolve |
      faultFail | trapResume | trapRetry | trapAbandon | fabricRecordWrite | fabricGroupOp | portStatus | cutMapRead |
      delayThrashSet | imageSubmit | imageRelease | quotaSet | marketAllotmentSet | arpRequest | icmpEcho | flitRetransmit |
      portStateChange | bankMarkFailed | bankRebuildRow | clockDroop | clockStepUp | governorRound | thermalLimit |
      thermalTrip | corePowerRemove | powerUp | unassignedWordIssue | priorityFlowControlFrame => cases he
  case scanRestore | scanRestart => cases hscan
  case addiI32 => exact read_of_row (row := decode05) rfl rfl (by simp [decode05]) hwf he
  case andiB32 => exact read_of_row (row := decode06) rfl rfl (by simp [decode06]) hwf he
  case oriB32 => exact read_of_row (row := decode07) rfl rfl (by simp [decode07]) hwf he
  case xoriB32 => exact read_of_row (row := decode08) rfl rfl (by simp [decode08]) hwf he
  case shli | shri | sari | rotri => exact read_of_row rfl rfl (decode09_shift ..) hwf he
  case movi => exact read_of_row (row := decode0B) rfl rfl (by simp [decode0B]) hwf he
  case movhi => exact read_of_row (row := decode0C) rfl rfl (by simp [decode0C]) hwf he
  case movlo => exact read_of_row (row := decode0D) rfl rfl (by simp [decode0D]) hwf he
  case swrFst | swrPreq | swrFltcc => exact read_of_row (row := decode0F) rfl rfl (by simp [decode0F]) hwf he
  case srd => exact read_of_row rfl rfl (decode0F_srd ..) hwf he
  case swr s a n =>
    have hown : ownRowSreg n = false := by
      simp only [Instr.wf, Instr.fieldsOk, Bool.and_eq_true, Bool.not_eq_true'] at hwf
      exact hwf.1.2
    exact read_of_row rfl rfl (decode0F_swr _ _ _ hown) hwf he
  case faddF32 | fsubF32 | fmulF32 | ffmaF32 => exact read_of_row (row := decode10) rfl rfl (by simp [decode10]) hwf he
  case faddF64 | fsubF64 | fmulF64 | ffmaF64 => exact read_of_row (row := decode11) rfl rfl (by simp [decode11]) hwf he
  case faddBf16x2 | fsubBf16x2 | fmulBf16x2 | ffmaBf16x2 =>
    exact read_of_row (row := decode12) rfl rfl (by simp [decode12]) hwf he
  case faddF16x2 | fsubF16x2 | fmulF16x2 | ffmaF16x2 => exact read_of_row (row := decode13) rfl rfl (by simp [decode13]) hwf he
  case cvt => exact read_of_row (row := decode1C) rfl rfl (by simp [decode1C]) hwf he
  case ldP | ldC => exact read_of_row (row := decode20) rfl rfl (by simp [decode20]) hwf he
  case stP | stC => exact read_of_row (row := decode21) rfl rfl (by simp [decode21]) hwf he
  case ldQ | ldM => exact read_of_row (row := decode22) rfl rfl (by simp [decode22]) hwf he
  case stQ | stM => exact read_of_row (row := decode23) rfl rfl (by simp [decode23]) hwf he
  case ldG | ldGNt => exact read_of_row (row := decode24) rfl rfl (by simp [decode24]) hwf he
  case stG | stGNt => exact read_of_row (row := decode25) rfl rfl (by simp [decode25]) hwf he
  case atomAdd | atomAnd | atomOr | atomXor | atomMinI | atomMaxI | atomMinN | atomMaxN | atomExch | atomCas =>
    exact read_of_row (row := decode28) rfl rfl (by simp [decode28]) hwf he
  case redAdd | redAnd | redOr | redXor | redMinI | redMaxI | redMinN | redMaxN =>
    exact read_of_row (row := decode29) rfl rfl (by simp [decode29]) hwf he
  case fenceAcq | fenceRel | fenceAr | fenceSc => exact read_of_row (row := decode2A) rfl rfl (by simp [decode2A]) hwf he
  case scset | scinv | scqry | scmem => exact read_of_row (row := decode2B) rfl rfl (by simp [decode2B]) hwf he
  case oprDef | oprRel | oprQry => exact read_of_row (row := decode30) rfl rfl (by simp [decode30]) hwf he
  case stp | stpSc | ldp | ldpSc => exact read_of_row (row := decode31) rfl rfl (by simp [decode31]) hwf he
  case mma => exact read_of_row (row := decode32) rfl rfl (by simp [decode32]) hwf he
  case accClr | accRd => exact read_of_row (row := decode33) rfl rfl (by simp [decode33]) hwf he
  case drain => exact read_of_row (row := decode34) rfl rfl (by simp [decode34]) hwf he
  case drainMx s d a m t f =>
    have hm : m ≠ 0#3 := by rintro rfl; cases hwf
    exact read_of_row (row := decode34) rfl rfl (by simp [decode34, hm]) hwf he
  case chBind | chFree | chCnt => exact read_of_row (row := decode37) rfl rfl (by simp [decode37]) hwf he
  case vcdef | vcqry => exact read_of_row (row := decode39) rfl rfl (by simp [decode39]) hwf he
  case bnz => exact read_of_row (row := decode3A) rfl rfl (by simp [decode3A]) hwf he
  case bz => exact read_of_row (row := decode3B) rfl rfl (by simp [decode3B]) hwf he
  case call => exact read_of_row (row := decode3C) rfl rfl (by simp [decode3C]) hwf he
  case gnew => exact read_of_row (row := decode3D) rfl rfl (by simp [decode3D, -BitVec.getLsbD_eq_getElem]) hwf he
  case dpair => exact read_of_row (row := decode3F) rfl rfl (by simp [decode3F, -BitVec.getLsbD_eq_getElem]) hwf he
  all_goals exact read_of_fields rfl rfl hwf he

end Sys2Proof.Proofs
end

section
/-!
PROOF. Worked encodings of the spec, and what a step runs.
-/
namespace Sys2Proof.Proofs
open Sys2Proof Sys2Proof.Machine
set_option Elab.async false

/-- Settles O44: the decoder, run on each word. -/
theorem decodesSpecWords : Obligations.DecodesSpecWords :=
  ⟨rfl, rfl, rfl, rfl, rfl, rfl, rfl, rfl, rfl, rfl, rfl, rfl, rfl, rfl, rfl, rfl, rfl, rfl, rfl, rfl⟩

theorem decodeWord_eq_ok {w : Word} {i : Instr} (h : (decodeWord w).toOption = some i) : decodeWord w = .ok i := by
  cases hd : decodeWord w with
  | ok j => rw [hd] at h; exact congrArg _ (Option.some.inj h)
  | error e => rw [hd] at h; cases h

theorem decodeWord_eq_error {w : Word} (h : (decodeWord w).toOption = none) : ∃ e, decodeWord w = .error e := by
  cases hd : decodeWord w with
  | ok j => rw [hd] at h; cases h
  | error e => exact ⟨e, rfl⟩

/-- Settles O51: the step's own cases. -/
theorem stepRunsDecoded : Obligations.StepRunsDecoded := by
  unfold Obligations.StepRunsDecoded
  refine ⟨fun s s1 w i hc hd => ?_, fun s s1 w hc hd => ?_, fun s s1 i hc => ?_, fun s hc => ?_⟩
  · simp only [step, hc, decodeWord_eq_ok hd]
  · obtain ⟨e, he⟩ := decodeWord_eq_error hd
    simp only [step, hc, he]
  · simp only [step, hc]
  · simp only [step, hc]

end Sys2Proof.Proofs
end

section
/-!
PROOF. The two readings of the opcode map (R84 to R94), row by row: an instruction that the decoder reads off a word's fields is
put back into them by the encoder, and the loader assigns a row exactly where the decoder does, with the same operands.
-/
namespace Sys2Proof.Proofs
open Sys2Proof Sys2Proof.Machine
set_option Elab.async false

/-! ## Fields taken apart and put together -/

@[simp] theorem append22_eq (x : BitVec 2) (f : BitVec 4) : (f.extractLsb' 2 2 ++ x : BitVec 4) = f ↔ f.extractLsb' 0 2 = x :=
  ⟨fun h => by rw [← h]; simp, fun h => by rw [← h, join22]⟩
@[simp] theorem append13_eq (x : BitVec 1) (f : BitVec 4) : (x ++ f.extractLsb' 0 3 : BitVec 4) = f ↔ f.extractLsb' 3 1 = x :=
  ⟨fun h => by rw [← h]; simp, fun h => by rw [← h, join13]⟩
@[simp] theorem append34_eq (x : BitVec 3) (f : BitVec 7) : (x ++ f.extractLsb' 0 4 : BitVec 7) = f ↔ f.extractLsb' 4 3 = x :=
  ⟨fun h => by rw [← h]; simp, fun h => by rw [← h, join34]⟩
@[simp] theorem append43_eq (x : BitVec 4) (f : BitVec 7) : (x ++ f.extractLsb' 0 3 : BitVec 7) = f ↔ f.extractLsb' 3 4 = x :=
  ⟨fun h => by rw [← h]; simp, fun h => by rw [← h, join43]⟩
@[simp] theorem append25_eq (x : BitVec 2) (f : BitVec 7) : (x ++ f.extractLsb' 0 5 : BitVec 7) = f ↔ f.extractLsb' 5 2 = x :=
  ⟨fun h => by rw [← h]; simp, fun h => by rw [← h, join25]⟩
@[simp] theorem append61_eq (x : BitVec 6) (f : BitVec 7) : (x ++ BitVec.ofBool (f.getLsbD 0) :
    BitVec 7) = f ↔ f.extractLsb' 1 6 = x :=
  ⟨fun h => by rw [← h]; simp, fun h => by rw [← h, join61]⟩
@[simp] theorem append421_eq (x : BitVec 1) (f : BitVec 7) :
    (f.extractLsb' 3 4 ++ f.extractLsb' 1 2 ++ x : BitVec 7) = f ↔ f.extractLsb' 0 1 = x :=
  ⟨fun h => by rw [← h]; simp, fun h => by rw [← h, join_cvt]⟩

theorem bit0_eq (f : Fld) : (f.extractLsb' 0 1 == 0#1) = !f.getLsbD 0 := by revert f; decide

theorem toNat_mod_of_high34 {f : Fld} (h : f.extractLsb' 4 3 = 0#3) : f.toNat % 16 = f.toNat := by revert f; decide

theorem high61_eq_zero (f : Fld) : f.extractLsb' 1 6 = 0#6 ↔ f.toNat < 2 := by revert f; decide

theorem shift_join {f : Fld} {k z : BitVec 2} (hk : f.extractLsb' 5 2 = k) (hz : f.extractLsb' 2 2 = z) :
    (k ++ BitVec.ofBool (f.getLsbD 4) ++ z ++ f.extractLsb' 0 2 : BitVec 7) = f := by
  subst hk hz
  exact join_shift f

/-- A count of six bits is below 32 if the higher of b's two is clear. -/
theorem count_lt (f : Fld) (fn : BitVec 4) : decide ((f.extractLsb' 0 2 ++ fn : BitVec 6).toNat < 32) = !f.getLsbD 1 := by
  have hx : ∀ (x : BitVec 2) (y : BitVec 4), decide ((x ++ y : BitVec 6).toNat < 32) = !x.getLsbD 1 := by decide
  rw [hx, BitVec.getLsbD_extractLsb']
  rfl

theorem ofNat_field (y fn : BitVec 4) : BitVec.ofNat 8 (16 * y.toNat + fn.toNat) = (y ++ fn : BitVec 8) := by
  revert y fn; decide

/-! ## One row of the map -/

/-- What the decoder's reading o and the loader's reading m of a word with these fields have to do with each other. -/
def Row (s : Bool) (maj : BitVec 6) (d a b : Fld) (fn : BitVec 4) (o : Option Instr) (m : Option (List OpSpec)) : Prop :=
  (∀ i, o = some i → encode i = some (mkWord s maj d a b fn)) ∧
    m.filter (fun l => l.all OpSpec.ok) = (o.filter Instr.wf).map Instr.ops

section
variable {s : Bool} {maj : BitVec 6} {d a b d' a' b' : Fld} {fn fn' : BitVec 4} {i : Instr} {m : Option (List OpSpec)}

@[simp] theorem opsIf_false (l : List OpSpec) : opsIf false l = none := rfl

@[simp] theorem ite_opsIf {p : Prop} [Decidable p] (c : Bool) (l : List OpSpec) :
    (if p then opsIf c l else none) = opsIf (decide p && c) l := by by_cases h : p <;> simp [h]

theorem opsIf_congr {c c' : Bool} (l : List OpSpec) (h : c = true ↔ c' = true) : opsIf c l = opsIf c' l := by
  rw [Bool.eq_iff_iff.mpr h]

theorem filter_opsIf (i : Instr) :
    (opsIf i.fieldsOk i.ops).filter (fun l => l.all OpSpec.ok) = ((some i).filter Instr.wf).map Instr.ops := by
  unfold opsIf
  cases hf : i.fieldsOk <;> cases ho : i.ops.all OpSpec.ok <;> simp [Option.filter, Instr.wf, hf, ho]

theorem Row.unassigned (hm : m = none) : Row s maj d a b fn none m := ⟨fun _ h => (nomatch h), by simp [hm]⟩

theorem Row.refused {c : Bool} {l : List OpSpec} (hc : c = false) : Row s maj d a b fn none (opsIf c l) := .unassigned
    (by simp [opsIf, hc])

/-- A row that takes whole fields. -/
theorem Row.whole (he : encode i = some (mkWord s maj d a b fn)) (hm : m = opsIf i.fieldsOk i.ops) :
    Row s maj d a b fn (some i) m :=
  ⟨fun _ h => Option.some.inj h ▸ he, hm ▸ filter_opsIf i⟩

/-- A row that takes fields apart. -/
theorem Row.of (he : encode i = some (mkWord s maj d' a' b' fn')) (hf : d' = d ∧ a' = a ∧ b' = b ∧ fn' = fn)
    (hm : m = opsIf i.fieldsOk i.ops) : Row s maj d a b fn (some i) m := by
  obtain ⟨rfl, rfl, rfl, rfl⟩ := hf
  exact .whole he hm

/-- A row with a condition on a code. -/
theorem Row.coded {c : Bool} {l : List OpSpec} (he : encode i = some (mkWord s maj d' a' b' fn'))
    (hf : d' = d ∧ a' = a ∧ b' = b ∧
        fn' = fn) (hc : c = i.fieldsOk) (hl : l = i.ops) : Row s maj d a b fn (some i) (opsIf c l) :=
  .of he hf (by rw [hc, hl])

/-- A row with a condition on its fields. -/
theorem Row.when {c : Bool} (he : encode i = some (mkWord s maj d' a' b' fn')) (hf : c = true → d' = d ∧ a' = a ∧ b' = b ∧
    fn' = fn)
    (hm : m = opsIf (c && i.fieldsOk) i.ops) : Row s maj d a b fn (if c then some i else none) m := by
  cases c with
  | false => exact .unassigned hm
  | true => exact .of he (hf rfl) hm

/-- A row with a condition on its fields that the loader writes as one test. -/
theorem Row.guard {c c' : Bool} {l : List OpSpec} (he : encode i = some (mkWord s maj d' a' b' fn'))
    (hf : c = true → d' = d ∧ a' = a ∧ b' = b ∧ fn' = fn) (hc : c' = (c && i.fieldsOk)) (hl : l = i.ops) :
    Row s maj d a b fn (if c then some i else none) (opsIf c' l) :=
  .when he hf (by rw [hc, hl])

end

theorem fn_cases {P : BitVec 4 → Prop} (f0 : P 0#4) (f1 : P 1#4) (f2 : P 2#4) (f3 : P 3#4) (f4 : P 4#4) (f5 : P 5#4) (f6 :
    P 6#4)
    (f7 : P 7#4) (f8 : P 8#4) (f9 : P 9#4) (fA : P 10#4) (fB : P 11#4) (fC : P 12#4) (fD : P 13#4) (fE : P 14#4) (fF : P 15#4)
    (fn : BitVec 4) : P fn := by
  obtain ⟨⟨k, hk⟩⟩ := fn
  interval_cases k <;> assumption

section
variable (s : Bool) (d a b : Fld) (fn : BitVec 4)

theorem row00 : Row s 0#6 d a b fn (decode00 s d a b fn) (mapInt 0 fn.toNat d a b) := by
  cases fn using fn_cases
  case f0 => exact .unassigned rfl
  case f1 | f2 | f3 | f4 | f5 | f6 | f7 | f8 | f9 | fA | fB | fC | fD => exact .whole rfl rfl
  case fE | fF => exact .guard rfl (by simp +contextual) (by simp [Instr.fieldsOk]) rfl

theorem row01 : Row s 1#6 d a b fn (decode01 s d a b fn) (mapInt 1 fn.toNat d a b) := by
  cases fn using fn_cases
  case f0 | f1 | f2 | f3 | f4 | f5 | f6 | f7 | f8 => exact .whole rfl rfl
  case f9 | fA => exact .guard rfl (by simp +contextual) (by simp [Instr.fieldsOk]) rfl
  case fB | fC | fD | fE | fF => exact .refused (by simp)

theorem row02 : Row s 2#6 d a b fn (decode02 s d a b fn) (mapInt 2 fn.toNat d a b) := by
  cases fn using fn_cases
  case f0 | f1 | f2 | f3 | f4 | f5 | f7 | f8 | f9 | fA | fB => exact .whole rfl rfl
  case f6 | fC | fD => exact .guard rfl (by simp +contextual) (by simp [Instr.fieldsOk]) rfl
  case fE | fF => exact .refused (by simp)

theorem row03 : Row s 3#6 d a b fn (decode03 s d a b fn) (mapInt 3 fn.toNat d a b) := by
  cases fn using fn_cases
  case f0 | f1 | f2 | f3 | fB | fC => exact .guard rfl (by simp +contextual) (by simp [Instr.fieldsOk]) rfl
  case f4 | f5 | f6 | f7 | f8 | f9 | fA => exact .whole rfl rfl
  case fD | fE | fF => exact .refused (by simp)

theorem row04 : Row s 4#6 d a b fn (decode04 s d a b fn) (mapInt 4 fn.toNat d a b) := by
  cases fn using fn_cases
  case f0 | f1 | f2 | f3 | f4 | f5 | f6 | f7 | f8 | f9 | fA | fB | fC | fD => exact .whole rfl rfl
  case fE | fF => exact .unassigned rfl

theorem row05 : Row s 5#6 d a b fn (decode05 s d a b fn) (mapInt 5 fn.toNat d a b) := by
  exact .of rfl (by simp) rfl

theorem row06 : Row s 6#6 d a b fn (decode06 s d a b fn) (mapInt 6 fn.toNat d a b) := by
  exact .of rfl (by simp) rfl

theorem row07 : Row s 7#6 d a b fn (decode07 s d a b fn) (mapInt 7 fn.toNat d a b) := by
  exact .of rfl (by simp) rfl

theorem row08 : Row s 8#6 d a b fn (decode08 s d a b fn) (mapInt 8 fn.toNat d a b) := by
  exact .of rfl (by simp) rfl

theorem row09 : Row s 9#6 d a b fn (decode09 s d a b fn) (mapInt 9 fn.toNat d a b) := by
  have hm : mapInt 9 fn.toNat d a b = opsIf (b.extractLsb' 2 2 == 0#2 && (b.getLsbD 4 || decide ((b.extractLsb' 0 2 ++ fn :
      BitVec 6).toNat < 32)))
      [⟨.src, a, if b.getLsbD 4 then 2 else 1⟩, ⟨.dst, d, if b.getLsbD 4 then 2 else 1⟩] := by
    rw [count_lt]
    rfl
  have hk : b.extractLsb' 5 2 = 0#2 ∨ b.extractLsb' 5 2 = 1#2 ∨ b.extractLsb' 5 2 = 2#2 ∨ b.extractLsb' 5 2 = 3#2 := by
    generalize b.extractLsb' 5 2 = k
    revert k
    decide
  rw [hm]
  by_cases hz : b.extractLsb' 2 2 = 0#2
  · obtain hk | hk | hk | hk := hk <;> simp only [decode09, hz, hk] <;>
      exact .of rfl ⟨rfl, rfl, by rw [high24]; exact shift_join hk hz, low24 ..⟩ rfl
  · simp only [decode09, beq_eq_false_iff_ne.mpr hz, Bool.false_and]
    exact .unassigned rfl

theorem row0A : Row s 10#6 d a b fn (decode0A s d a b fn) (mapInt 10 fn.toNat d a b) := by
  cases fn using fn_cases
  case f0 | f1 | f2 | f4 | f5 => exact .whole rfl rfl
  case f3 => exact .guard rfl (by simp +contextual) (by simp [Instr.fieldsOk]) rfl
  case f6 | f7 | f8 | f9 | fA | fB | fC | fD | fE | fF => exact .unassigned rfl

theorem row0B : Row s 11#6 d a b fn (decode0B s d a b fn) (mapInt 11 fn.toNat d a b) := by
  exact .of rfl (by simp) rfl

theorem row0C : Row s 12#6 d a b fn (decode0C s d a b fn) (mapInt 12 fn.toNat d a b) := by
  exact .guard rfl (by simp +contextual) (by simp [Instr.fieldsOk]) rfl

theorem row0D : Row s 13#6 d a b fn (decode0D s d a b fn) (mapInt 13 fn.toNat d a b) := by
  exact .guard rfl (by simp +contextual) (by simp [Instr.fieldsOk]) rfl

theorem row0E : Row s 14#6 d a b fn (decode0E s d a b fn) (mapInt 14 fn.toNat d a b) := by
  cases fn using fn_cases
  case f0 | f1 | f2 => exact .whole rfl rfl
  case f3 | f4 | f5 => exact .guard rfl (by simp +contextual) (by simp [Instr.fieldsOk]) rfl
  case f6 | f7 | f8 | f9 | fA | fB | fC | fD | fE | fF => exact .refused (by simp)

/-- The number of a special register as the loader reads it, off b's low bits and fn. -/
theorem mapInt_sreg (x : BitVec 3) (y : BitVec 4) : mapInt 15 fn.toNat d a (x ++ y : BitVec 7) =
    if x.getLsbD 2 then opsIf (x.extractLsb' 0 2 == 0#2 && d == 0#7 && writableSreg (y ++ fn)) [⟨.src, a, 1⟩]
    else opsIf (a == 0#7 && ((x.extractLsb' 0 2 == 0#2 && readableSreg (y ++ fn)) ||
        (x.extractLsb' 0 2 == 1#2 && y ++ fn == 6#8)))
      [⟨.dst, d, 1⟩] := by
  have hx : ∀ (x : BitVec 3) (y : BitVec 4), (x ++ y : BitVec 7).getLsbD 6 = x.getLsbD 2 ∧
      (x ++ y : BitVec 7).extractLsb' 4 2 = x.extractLsb' 0 2 := by decide
  have hn : (16 * y.toNat + fn.toNat == 6) = (y ++ fn == 6#8) := by
    generalize fn = f
    revert y f
    decide
  obtain ⟨h6, h4⟩ := hx x y
  simp only [mapInt, h6, h4, low34, ofNat_field, hn]

/-- The decoder's row of moves of special registers, by the two parts of b. -/
theorem decode0F_append (x : BitVec 3) (y : BitVec 4) : decode0F s d a (x ++ y : BitVec 7) fn =
    if a == 0#7 && (x == 1#3 && y == 0#4) && fn == 6#4 then some (.srdPos s d)
    else if d == 0#7 && (x == 4#3 && y == 0#4) && fn == 8#4 then some (.swrFst s a)
    else if d == 0#7 && (x == 4#3 && y == 4#4) && fn == 1#4 then some (.swrPreq s a)
    else if d == 0#7 && (x == 4#3 && y == 4#4) && fn == 5#4 then some (.swrFltcc s a)
    else if a == 0#7 && x == 0#3 then some (.srd s d (y ++ fn))
    else if d == 0#7 && x == 4#3 then some (.swr s a (y ++ fn)) else none := by
  have hxy : ∀ (x : BitVec 3) (y : BitVec 4), ((x ++ y : BitVec 7) == 16#7) = (x == 1#3 && y == 0#4) ∧
      ((x ++ y : BitVec 7) == 64#7) = (x == 4#3 && y == 0#4) ∧ ((x ++ y : BitVec 7) == 68#7) = (x == 4#3 && y == 4#4) := by
          decide
  obtain ⟨h16, h64, h68⟩ := hxy x y
  simp only [decode0F, h16, h64, h68, high34, low34]

theorem sreg_eq (y fn : BitVec 4) : (y ++ fn == 6#8) = (y == 0#4 && fn == 6#4) ∧
    ownRowSreg (y ++ fn) = (y == 0#4 && fn == 8#4 || y == 4#4 && fn == 1#4 || y == 4#4 && fn == 5#4) := by
  revert y fn; decide

/-- A row whose two readings have been worked out. -/
theorem Row.congr {s : Bool} {maj : BitVec 6} {d a b : Fld} {fn : BitVec 4} {o o' : Option Instr} {m m' : Option (List OpSpec)}
    (h : Row s maj d a b fn o' m') (ho : o = o') (hm : m = m') : Row s maj d a b fn o m := by rwa [ho, hm]

/-- Writes of special registers: those with rows of their own come first. -/
theorem row_swr (y : BitVec 4) :
    Row s 15#6 d a (4#3 ++ y) fn (decode0F s d a (4#3 ++ y) fn) (mapInt 15 fn.toNat d a (4#3 ++ y)) := by
  rw [mapInt_sreg, decode0F_append]
  by_cases hd : d = 0#7
  · subst hd
    by_cases h8 : y = 0#4 ∧ fn = 8#4
    · obtain ⟨rfl, rfl⟩ := h8
      exact .congr (.whole (i := .swrFst s a) rfl rfl) (by simp) (by simp [writableSreg, Instr.fieldsOk, Instr.ops])
    by_cases h1 : y = 4#4 ∧ fn = 1#4
    · obtain ⟨rfl, rfl⟩ := h1
      exact .congr (.whole (i := .swrPreq s a) rfl rfl) (by simp) (by simp [writableSreg, Instr.fieldsOk, Instr.ops])
    by_cases h5 : y = 4#4 ∧ fn = 5#4
    · obtain ⟨rfl, rfl⟩ := h5
      exact .congr (.whole (i := .swrFltcc s a) rfl rfl) (by simp) (by simp [writableSreg, Instr.fieldsOk, Instr.ops])
    have hown : ownRowSreg (y ++ fn) = false := by
      rw [(sreg_eq y fn).2]
      simpa using ⟨⟨not_and.mp h8, not_and.mp h1⟩, not_and.mp h5⟩
    exact .congr (.of (i := .swr s a (y ++ fn)) rfl (by simp) rfl) (by simp [h8, h1, h5])
        (by simp [Instr.fieldsOk, hown, Instr.ops])
  · exact .congr (.unassigned rfl) (by simp [hd]) (by simp [beq_eq_false_iff_ne.mpr hd])

theorem row0F : Row s 15#6 d a b fn (decode0F s d a b fn) (mapInt 15 fn.toNat d a b) := by
  obtain ⟨x, y, rfl⟩ : ∃ (x : BitVec 3) (y : BitVec 4), b = (x ++ y : BitVec 7) := ⟨_, _, (join34 b).symm⟩
  have hx : ∀ x : BitVec 3, x = 0#3 ∨ x = 1#3 ∨ x = 4#3 ∨ x = 2#3 ∨ x = 3#3 ∨ x = 5#3 ∨ x = 6#3 ∨ x = 7#3 := by decide
  have hpos := (sreg_eq y fn).1
  obtain rfl | rfl | rfl | hx := hx x
  · rw [mapInt_sreg, decode0F_append]
    exact .congr (.when (c := a == 0#7) (i := .srd s d (y ++ fn)) rfl (by simp +contextual) rfl) (by simp)
      (by simp [Instr.fieldsOk, Instr.ops])
  · rw [mapInt_sreg, decode0F_append]
    exact .congr (.when (c := a == 0#7 && (y == 0#4 && fn == 6#4)) (i := .srdPos s d) rfl (by simp +contextual) rfl)
        (by simp [and_assoc])
      (by simp [Instr.fieldsOk, Instr.ops, hpos])
  · exact row_swr ..
  · rw [mapInt_sreg, decode0F_append]
    refine .congr (.unassigned rfl) ?_ ?_ <;> obtain rfl | rfl | rfl | rfl | rfl := hx <;> simp

theorem row10 : Row s 16#6 d a b fn (decode10 s d a b fn) (mapFloat 16 fn.toNat d a b) := by
  cases fn using fn_cases <;> exact .whole rfl rfl

theorem row11 : Row s 17#6 d a b fn (decode11 s d a b fn) (mapFloat 17 fn.toNat d a b) := by
  cases fn using fn_cases <;> exact .whole rfl rfl

theorem row12 : Row s 18#6 d a b fn (decode12 s d a b fn) (mapFloat 18 fn.toNat d a b) := by
  cases fn using fn_cases <;> exact .whole rfl rfl

theorem row13 : Row s 19#6 d a b fn (decode13 s d a b fn) (mapFloat 19 fn.toNat d a b) := by
  cases fn using fn_cases <;> exact .whole rfl rfl

theorem row14 : Row s 20#6 d a b fn (decode14 s d a b fn) (mapFloat 20 fn.toNat d a b) := by
  cases fn using fn_cases
  case f0 | f1 | f4 | f5 | f7 | f8 | f9 | fA | fB => exact .whole rfl rfl
  case f2 | f3 | f6 | fC => exact .guard rfl (by simp +contextual) (by simp [Instr.fieldsOk]) rfl
  case fD | fE | fF => exact .unassigned rfl

theorem row15 : Row s 21#6 d a b fn (decode15 s d a b fn) (mapFloat 21 fn.toNat d a b) := by
  cases fn using fn_cases
  case f0 | f1 | f4 | f5 | f7 | f8 | f9 | fA | fB => exact .whole rfl rfl
  case f2 | f3 | f6 | fC => exact .guard rfl (by simp +contextual) (by simp [Instr.fieldsOk]) rfl
  case fD | fE | fF => exact .refused (by simp)

theorem row16 : Row s 22#6 d a b fn (decode16 s d a b fn) (mapFloat 22 fn.toNat d a b) := by
  cases fn using fn_cases
  case f0 | f1 | f4 | f5 => exact .whole rfl rfl
  case f2 | f3 | f6 | f7 => exact .guard rfl (by simp +contextual) (by simp [Instr.fieldsOk]) rfl
  case f8 | f9 | fA | fB | fC | fD | fE | fF => exact .unassigned (by simp [mapFloat, opsIf])

theorem row17 : Row s 23#6 d a b fn (decode17 s d a b fn) (mapFloat 23 fn.toNat d a b) := by
  cases fn using fn_cases
  case f0 | f1 | f2 | f3 | f4 | f5 | f6 => exact .guard rfl (by simp +contextual) (by simp [Instr.fieldsOk]) rfl
  case f7 | f8 | f9 | fA | fB | fC | fD | fE | fF => exact .refused (by simp)

theorem row18 : Row s 24#6 d a b fn (decode18 s d a b fn) (mapFloat 24 fn.toNat d a b) := by
  cases fn using fn_cases
  case f0 | f1 | f2 | f3 => exact .guard rfl (by simp +contextual) (by simp [Instr.fieldsOk]) rfl
  case f4 | f5 | f6 | f7 | f8 | f9 | fA | fB | fC | fD | fE | fF => exact .refused (by simp)

theorem row1C : Row s 28#6 d a b fn (decode1C s d a b fn) (mapFloat 28 fn.toNat d a b) := by
  exact .guard rfl (by simp +contextual) (by simp [Instr.fieldsOk, bit0_eq]) (by simp [Instr.ops, ops2])

theorem row1D : Row s 29#6 d a b fn (decode1D s d a b fn) (mapFloat 29 fn.toNat d a b) := by
  cases fn using fn_cases
  case f0 | f1 | f2 | f3 | f4 | f5 => exact .whole rfl rfl
  case f6 | f7 | f8 | f9 | fA | fB | fC | fD | fE | fF => exact .unassigned rfl

theorem row1E : Row s 30#6 d a b fn (decode1E s d a b fn) (mapFloat 30 fn.toNat d a b) := by
  cases fn using fn_cases
  case f0 | f1 => exact .guard rfl (by simp +contextual) (by simp [Instr.fieldsOk]) rfl
  case f2 | f3 => exact .whole rfl rfl
  case f4 | f5 | f6 | f7 | f8 | f9 | fA | fB | fC | fD | fE | fF => exact .unassigned rfl

theorem row1F : Row s 31#6 d a b fn (decode1F s d a b fn) (mapFloat 31 fn.toNat d a b) := by
  cases fn using fn_cases
  case f0 | f1 | f2 | f3 | f4 | f5 | f6 => exact .whole rfl rfl
  case f7 | f8 | f9 | fA | fB | fC | fD | fE | fF => exact .unassigned rfl

theorem row20 : Row s 32#6 d a b fn (decode20 s d a b fn) (mapMem 32 fn.toNat d a b) := by
  cases fn using fn_cases <;> exact .whole rfl rfl

theorem row21 : Row s 33#6 d a b fn (decode21 s d a b fn) (mapMem 33 fn.toNat d a b) := by
  cases fn using fn_cases <;> exact .whole rfl rfl

theorem row22 : Row s 34#6 d a b fn (decode22 s d a b fn) (mapMem 34 fn.toNat d a b) := by
  cases fn using fn_cases <;> exact .whole rfl rfl

theorem row23 : Row s 35#6 d a b fn (decode23 s d a b fn) (mapMem 35 fn.toNat d a b) := by
  cases fn using fn_cases <;> exact .whole rfl rfl

theorem row24 : Row s 36#6 d a b fn (decode24 s d a b fn) (mapMem 36 fn.toNat d a b) := by
  cases fn using fn_cases <;> exact .whole rfl rfl

theorem row25 : Row s 37#6 d a b fn (decode25 s d a b fn) (mapMem 37 fn.toNat d a b) := by
  cases fn using fn_cases <;> exact .whole rfl rfl

theorem row26 : Row s 38#6 d a b fn (decode26 s d a b fn) (mapMem 38 fn.toNat d a b) := by
  cases fn using fn_cases
  case f0 | f1 => exact .guard rfl (by simp +contextual) (by simp [Instr.fieldsOk]) rfl
  case f2 | f3 | f4 | f5 | f6 | f7 | f8 | f9 | fA | fB | fC | fD | fE | fF => exact .refused (by simp)

theorem row28 : Row s 40#6 d a b fn (decode28 s d a b fn) (mapMem 40 fn.toNat d a b) := by
  cases fn using fn_cases
  case f0 | f1 | f2 | f3 | f4 | f5 | f6 | f7 | f8 | f9 =>
    exact .coded rfl (by simp) (by simp [Instr.fieldsOk]) (by simp [ops2, Instr.ops])
  case fA | fB | fC | fD | fE | fF => exact .unassigned rfl

theorem row29 : Row s 41#6 d a b fn (decode29 s d a b fn) (mapMem 41 fn.toNat d a b) := by
  cases fn using fn_cases
  case f0 | f1 | f2 | f3 | f4 | f5 | f6 | f7 =>
    exact .coded rfl (by simp) (by simp [Instr.fieldsOk]) (by simp [ops2, Instr.ops])
  case f8 | f9 | fA | fB | fC | fD | fE | fF => exact .unassigned rfl

theorem row2A : Row s 42#6 d a b fn (decode2A s d a b fn) (mapMem 42 fn.toNat d a b) := by
  cases fn using fn_cases
  case f0 | f1 | f2 | f3 => exact .guard rfl (by simp +contextual) (by simp [Instr.fieldsOk]) rfl
  case f4 | f5 | f6 | f7 | f8 | f9 | fA | fB | fC | fD | fE | fF => exact .unassigned rfl

theorem row2B : Row s 43#6 d a b fn (decode2B s d a b fn) (mapMem 43 fn.toNat d a b) := by
  cases fn using fn_cases
  case f0 | f1 =>
    have hb := toNat_mod_of_high34 (f := b)
    exact .when rfl (by simp +contextual)
      (by simpa [mapMem, Instr.fieldsOk, Instr.ops] using opsIf_congr _ (by simp; grind))
  case f2 | f3 =>
    exact .when rfl (by simp +contextual) (by simpa [mapMem, Instr.fieldsOk, Instr.ops] using opsIf_congr _ (by simp; tauto))
  case f4 | f5 | f6 | f7 | f8 | f9 | fA | fB | fC | fD | fE | fF => exact .unassigned (by simp [mapMem, opsIf])

theorem row2C : Row s 44#6 d a b fn (decode2C s d a b fn) (mapMem 44 fn.toNat d a b) := by
  exact .whole rfl (by simp [mapMem, Instr.fieldsOk, Instr.ops, ops3])

theorem row2D : Row s 45#6 d a b fn (decode2D s d a b fn) (mapMem 45 fn.toNat d a b) := by
  exact .when rfl (by simp +contextual) (by simp [mapMem, Instr.fieldsOk, Instr.ops, ops2, Bool.and_comm])

theorem row2E : Row s 46#6 d a b fn (decode2E s d a b fn) (mapMem 46 fn.toNat d a b) := by
  exact .whole rfl (by simp [mapMem, Instr.fieldsOk, Instr.ops, ops3])

theorem row2F : Row s 47#6 d a b fn (decode2F s d a b fn) (mapMem 47 fn.toNat d a b) := by
  cases fn using fn_cases
  case f0 => exact .whole rfl rfl
  case f1 | f2 | f3 => exact .guard rfl (by simp +contextual) (by simp [Instr.fieldsOk]) rfl
  case f4 | f5 | f6 | f7 | f8 | f9 | fA | fB | fC | fD | fE | fF => exact .unassigned rfl

theorem row30 : Row s 48#6 d a b fn (decode30 s d a b fn) (mapRest 48 fn.toNat d a b) := by
  cases fn using fn_cases
  case f0 =>
    exact .when rfl (by simp +contextual) (by simpa [mapRest, Instr.fieldsOk, Instr.ops] using opsIf_congr _ (by simp; tauto))
  case f1 =>
    exact .when rfl (by simp +contextual) (by simpa [mapRest, Instr.fieldsOk, Instr.ops] using opsIf_congr _ (by simp; tauto))
  case f2 =>
    exact .when rfl (by simp +contextual) (by simpa [mapRest, Instr.fieldsOk, Instr.ops] using opsIf_congr _ (by simp; tauto))
  case f3 | f4 | f5 | f6 | f7 | f8 | f9 | fA | fB | fC | fD | fE | fF => exact .unassigned (by simp [mapRest])

theorem row31 : Row s 49#6 d a b fn (decode31 s d a b fn) (mapRest 49 fn.toNat d a b) := by
  cases fn using fn_cases
  case f0 | f1 | f2 | f3 => exact .guard rfl (by simp +contextual) (by simp [Instr.fieldsOk]) rfl
  case f4 | f5 | f6 | f7 | f8 | f9 | fA | fB | fC | fD | fE | fF => exact .unassigned rfl

theorem row32 : Row s 50#6 d a b fn (decode32 s d a b fn) (mapRest 50 fn.toNat d a b) := by
  exact .when rfl (by simp +contextual) (by simpa [mapRest, Instr.fieldsOk, Instr.ops] using opsIf_congr _ (by simp; tauto))

theorem row33 : Row s 51#6 d a b fn (decode33 s d a b fn) (mapRest 51 fn.toNat d a b) := by
  cases fn using fn_cases
  case f0 => exact .guard rfl (by simp +contextual) (by simp [Instr.fieldsOk]) rfl
  case f1 => exact .guard rfl (by simp +contextual) (by simp [Instr.fieldsOk]) rfl
  case f2 | f3 | f4 | f5 | f6 | f7 | f8 | f9 | fA | fB | fC | fD | fE | fF => exact .unassigned rfl

theorem row34 : Row s 52#6 d a b fn (decode34 s d a b fn) (mapRest 52 fn.toNat d a b) := by
  by_cases h : d = 0#7 ∧ b.extractLsb' 4 3 = 0#3
  · obtain ⟨hd, hb⟩ := h
    simp only [decode34, hd, hb, beq_self_eq_true, Bool.and_self, if_true]
    exact .of rfl (by simp [hb]) (by simp [mapRest, hb, Instr.fieldsOk, Instr.ops])
  · simp only [decode34, beq_iff_eq, Bool.and_eq_true, h, if_false]
    refine .of rfl (by simp) ?_
    simp only [mapRest, Instr.fieldsOk, Instr.ops]
    generalize b.extractLsb' 4 3 = x at h
    by_cases hx : x = 0#3
    · have hd : (d == 0#7) = false := beq_eq_false_iff_ne.mpr fun hd => h ⟨hd, hx⟩
      simp [hx, hd]
    · have hpos : 1 ≤ x.toNat := Nat.pos_of_ne_zero fun h0 => hx (BitVec.eq_of_toNat_eq h0)
      simp [hx, hpos, Bool.and_assoc]

theorem row36 : Row s 54#6 d a b fn (decode36 s d a b fn) (mapRest 54 fn.toNat d a b) := by
  cases fn using fn_cases
  case f0 | f1 | f2 | f3 => exact .guard rfl (by simp +contextual) (by simp [Instr.fieldsOk]) rfl
  case f4 | f5 | f6 | f7 | f8 | f9 | fA | fB | fC | fD | fE | fF => exact .unassigned rfl

theorem row37 : Row s 55#6 d a b fn (decode37 s d a b fn) (mapRest 55 fn.toNat d a b) := by
  cases fn using fn_cases
  case f0 =>
    exact .when rfl (by simp +contextual) (by simpa [mapRest, Instr.fieldsOk, Instr.ops] using opsIf_congr _ (by simp; tauto))
  case f1 =>
    exact .when rfl (by simp +contextual) (by simpa [mapRest, Instr.fieldsOk, Instr.ops] using opsIf_congr _ (by simp; tauto))
  case f2 =>
    exact .when rfl (by simp +contextual) (by simpa [mapRest, Instr.fieldsOk, Instr.ops] using opsIf_congr _ (by simp; tauto))
  case f3 | f4 | f5 | f6 | f7 | f8 | f9 | fA | fB | fC | fD | fE | fF => exact .unassigned (by simp [mapRest])

theorem row38 : Row s 56#6 d a b fn (decode38 s d a b fn) (mapRest 56 fn.toNat d a b) := by
  cases fn using fn_cases
  case f0 => exact .whole rfl rfl
  case f1 | f2 => exact .guard rfl (by simp +contextual) (by simp [Instr.fieldsOk]) rfl
  case f3 | f4 | f5 | f6 | f7 | f8 | f9 | fA | fB | fC | fD | fE | fF => exact .unassigned rfl

theorem row39 : Row s 57#6 d a b fn (decode39 s d a b fn) (mapRest 57 fn.toNat d a b) := by
  cases fn using fn_cases
  case f0 => exact .guard rfl (by simp +contextual) (by simp [Instr.fieldsOk]) rfl
  case f1 => exact .guard rfl (by simp +contextual) (by simp [Instr.fieldsOk]) rfl
  case f2 => exact .guard rfl (by simp +contextual) (by simp [Instr.fieldsOk]) rfl
  case f3 | f4 | f5 | f6 | f7 | f8 | f9 | fA | fB | fC | fD | fE | fF => exact .unassigned rfl

theorem row3A : Row s 58#6 d a b fn (decode3A s d a b fn) (mapRest 58 fn.toNat d a b) := by
  exact .of rfl (by simp) rfl

theorem row3B : Row s 59#6 d a b fn (decode3B s d a b fn) (mapRest 59 fn.toNat d a b) := by
  exact .of rfl (by simp) rfl

theorem row3C : Row s 60#6 d a b fn (decode3C s d a b fn) (mapRest 60 fn.toNat d a b) := by
  exact .of rfl (by simp) rfl

theorem row3D : Row s 61#6 d a b fn (decode3D s d a b fn) (mapRest 61 fn.toNat d a b) := by
  cases fn using fn_cases
  case f0 | f2 | f8 => exact .guard rfl (by simp +contextual) (by simp [Instr.fieldsOk]) rfl
  case f1 => exact .guard rfl (by simp +contextual) (by simp [Instr.fieldsOk]) rfl
  case f3 | f4 | f5 | f9 | fA => exact .guard rfl (by simp +contextual) (by simp [Instr.fieldsOk]) rfl
  case f6 => exact .guard rfl (by simp +contextual) (by simp [Instr.fieldsOk]) rfl
  case f7 =>
    exact .guard rfl (by simp +contextual [-BitVec.getLsbD_eq_getElem])
        (by rw [Bool.eq_iff_iff]; simp [Instr.fieldsOk, high61_eq_zero]) rfl
  case fB | fC | fD | fE | fF => exact .unassigned rfl

theorem row3E : Row s 62#6 d a b fn (decode3E s d a b fn) (mapRest 62 fn.toNat d a b) := by
  cases fn using fn_cases
  case f0 | f6 => exact .guard rfl (by simp +contextual) (by simp [Instr.fieldsOk]) rfl
  case f1 | f2 => exact .guard rfl (by simp +contextual) (by simp [Instr.fieldsOk]) rfl
  case f3 => exact .guard rfl (by simp +contextual) (by simp [Instr.fieldsOk]) rfl
  case f4 | f5 => exact .whole rfl rfl
  case f7 => exact .guard rfl (by simp +contextual) (by simp [Instr.fieldsOk]) rfl
  case f8 | f9 | fA | fB | fC | fD | fE | fF => exact .unassigned rfl

theorem row3F : Row s 63#6 d a b fn (decode3F s d a b fn) (mapRest 63 fn.toNat d a b) := by
  cases fn using fn_cases
  case f0 => exact .of rfl (by simp [-BitVec.getLsbD_eq_getElem]) rfl
  case f1 | f2 | f3 | f4 | f5 | f6 | f7 | f8 | f9 | fA | fB | fC | fD | fE | fF => exact .unassigned rfl

end

end Sys2Proof.Proofs
end

section
/-!
PROOF. The opcode map as a whole (R84): the encoder takes a decoded instruction back to its word, and the loader's map is the
decoder's.
-/
namespace Sys2Proof.Proofs
open Sys2Proof Sys2Proof.Machine Sys2Proof.Claim Sys2Proof.Laws
set_option Elab.async false

/-- The loader's map before the operand checks. -/
def mapFields (maj fn : Nat) : Fld → Fld → Fld → Option (List OpSpec) :=
  (if maj < 16 then mapInt else if maj < 32 then mapFloat else if maj < 48 then mapMem else mapRest) maj fn

theorem mapOps_eq (w : Word) : mapOps w =
    (mapFields (wordMajor w).toNat (wordFn w).toNat (wordD w) (wordA w) (wordB w)).filter (fun l => l.all OpSpec.ok) := rfl

/-- Every word is a row of the map, or no row's. -/
theorem row_of_major (s : Bool) (maj : BitVec 6) (d a b : Fld) (fn : BitVec 4) :
    Row s maj d a b fn (decodeFields s maj d a b fn) (mapFields maj.toNat fn.toNat d a b) := by
  obtain ⟨⟨k, hk⟩⟩ := maj
  interval_cases k
  exacts [row00 .., row01 .., row02 .., row03 .., row04 .., row05 .., row06 .., row07 .., row08 .., row09 .., row0A ..,
    row0B .., row0C .., row0D .., row0E .., row0F .., row10 .., row11 .., row12 .., row13 .., row14 .., row15 .., row16 ..,
    row17 .., row18 .., .unassigned rfl, .unassigned rfl, .unassigned rfl, row1C .., row1D .., row1E .., row1F .., row20 ..,
    row21 .., row22 .., row23 .., row24 .., row25 .., row26 .., .unassigned rfl, row28 .., row29 .., row2A .., row2B ..,
    row2C .., row2D .., row2E .., row2F .., row30 .., row31 .., row32 .., row33 .., row34 .., .unassigned rfl, row36 ..,
    row37 .., row38 .., row39 .., row3A .., row3B .., row3C .., row3D .., row3E .., row3F ..]

/-- The decoder's reading of a word before the operand checks. -/
noncomputable def readFields (w : Word) : Option Instr :=
  decodeFields (wordS w) (wordMajor w) (wordD w) (wordA w) (wordB w) (wordFn w)

theorem toOption_decodeWord (w : Word) : (decodeWord w).toOption = (readFields w).filter Instr.wf := by
  unfold decodeWord
  cases hr : readFields w with
  | none => simp [readFields] at hr; simp [hr]; rfl
  | some i => simp [readFields] at hr; cases hw : i.wf <;> simp [hr, hw, Option.filter] <;> rfl

theorem encode_of_readFields {w : Word} {i : Instr} (h : readFields w = some i) : encode i = some w := by
  rw [(row_of_major ..).1 i h, mkWord_fields]

theorem readFields_of_decode {w : Word} {i : Instr} (h : (decodeWord w).toOption = some i) : readFields w = some i ∧
    i.wf = true := by
  rw [toOption_decodeWord, Option.filter_eq_some_iff] at h
  exact h

end Sys2Proof.Proofs
end

section
/-!
PROOF. A decoded word is the word of its instruction (R67, R84), and the loader reads the opcode map as the decoder does (R102).
-/
namespace Sys2Proof.Proofs
open Sys2Proof Sys2Proof.Machine Sys2Proof.Claim Sys2Proof.Laws
set_option Elab.async false

/-- The encoder gives a word to the instructions of the instruction set and to no event. -/
theorem isSome_encode (i : Instr) : (encode i).isSome = i.isWord := by cases i <;> rfl

theorem isWord_of_encode {i : Instr} {w : Word} (h : encode i = some w) : i.isWord = true := by
  rw [← isSome_encode, h]
  rfl

theorem readFields_of_unassignedMajor {w : Word} (h : (wordMajor w).toNat ∈ unassignedMajors) : readFields w = none := by
  have hm : ∀ s d a b fn, ∀ n ∈ unassignedMajors, ∀ maj : BitVec 6, maj.toNat = n → decodeFields s maj d a b fn = none := by
    intro s d a b fn n hn maj hmaj
    simp only [unassignedMajors, List.mem_cons, List.not_mem_nil, or_false] at hn
    obtain rfl | rfl | rfl | rfl | rfl := hn <;> simp only [decodeFields, hmaj]
  exact hm _ _ _ _ _ _ h _ rfl

theorem decode3F_reserved (s : Bool) (d a b : Fld) {fn : BitVec 4} (h : fn ≠ 0#4) : decode3F s d a b fn = none := by
  cases fn using fn_cases
  case f0 => exact absurd rfl h
  all_goals rfl

/-- Settles O46, by the rows of the opcode map. -/
theorem encodeDecode : Obligations.EncodeDecode := by
  unfold Obligations.EncodeDecode
  refine ⟨fun w i h => ?_, fun w h => ?_, fun w hmaj hfn => ?_⟩
  · obtain ⟨hr, hwf⟩ := readFields_of_decode h
    have he := encode_of_readFields hr
    exact ⟨he, hwf, isWord_of_encode he⟩
  · rw [toOption_decodeWord, readFields_of_unassignedMajor h]
    rfl
  · have hr : readFields w = none := by
      simp only [readFields, decodeFields, hmaj]
      exact decode3F_reserved _ _ _ _ hfn
    rw [toOption_decodeWord, hr]
    rfl

theorem loaderTableAgrees : LoaderTableAgrees := fun w => by
  rw [mapOps_eq, toOption_decodeWord]
  exact (row_of_major ..).2

end Sys2Proof.Proofs
end

section
/-!
PROOF. What the checks of the loader leave of a kernel that it accepts (R77, R80, R84, R100 to R102).
-/
namespace Sys2Proof.Proofs
open Sys2Proof Sys2Proof.Machine Sys2Proof.Claim Sys2Proof.Laws
set_option Elab.async false

/-! ## Parts of a word that the loader reads across fields -/

theorem extractLsb'_extractLsb' {n : Nat} (x : BitVec n) {k l k' l' : Nat} (h : k' + l' ≤ l) :
    (x.extractLsb' k l).extractLsb' k' l' = x.extractLsb' (k + k') l' := by
  ext i hi
  have hlt : k' + i < l := by omega
  simp [hlt, Nat.add_assoc]

section
variable (w : Word)

theorem word_offset : w.extractLsb' 0 18 = wordA w ++ wordB w ++ wordFn w := by
  symm
  simp (disch := decide) only [wordA, wordB, wordFn, BitVec.extractLsb'_append_extractLsb'_eq_extractLsb']

theorem word_sreg : w.extractLsb' 0 8 = (wordB w).extractLsb' 0 4 ++ wordFn w := by
  symm
  simp (disch := decide) only [wordB, wordFn, extractLsb'_extractLsb', BitVec.extractLsb'_append_extractLsb'_eq_extractLsb']

theorem word_index0 : w.extractLsb' 14 10 = (wordD w).extractLsb' 0 6 ++ (wordA w).extractLsb' 3 4 := by
  symm
  simp (disch := decide) only [wordD, wordA, extractLsb'_extractLsb', BitVec.extractLsb'_append_extractLsb'_eq_extractLsb']

theorem word_index1 : w.extractLsb' 4 10 = (wordA w).extractLsb' 0 3 ++ wordB w := by
  symm
  simp (disch := decide) only [wordA, wordB, extractLsb'_extractLsb', BitVec.extractLsb'_append_extractLsb'_eq_extractLsb']

end

/-! ## What the loader's tests of a word say of its instruction -/

theorem decode_of_assigned {w : Word} (h : assigned w = true) : ∃ i, (decodeWord w).toOption = some i := by
  rw [assigned, loaderTableAgrees w, Option.isSome_map] at h
  exact Option.isSome_iff_exists.mp h

theorem encode_of_decode {w : Word} {i : Instr} (h : (decodeWord w).toOption = some i) : encode i = some w :=
  encode_of_readFields (readFields_of_decode h).1

/-- A pair's word has format P and the pair's indices (R68). -/
theorem pair_of_decode {w : Word} {t u : Bool} {e f : BitVec 10} (h : (decodeWord w).toOption = some (.dpair t u e f)) :
    isPairWord w = true ∧ pairIndex w = (e.toNat, f.toNat) := by
  have hw := Option.some.inj (encode_of_decode h)
  subst hw
  constructor
  · simp [isPairWord]
  · simp only [pairIndex, word_index0, word_index1, wordD_mkWord, wordA_mkWord, wordB_mkWord, low16, high43, low43, join64,
      join37]

/-- A privileged instruction's word is one that the loader takes for privileged (R95). -/
theorem isPrivWord_of_decode {w : Word} {i : Instr} (h : (decodeWord w).toOption = some i) (hp : privileged i = true) :
    isPrivWord w = true := by
  have he := encode_of_decode h
  cases i
  case fltReplay | scanStop | wpset | wpclr | step =>
    obtain rfl := Option.some.inj he
    simp [isPrivWord]
  case swrPreq | swrFltcc =>
    obtain rfl := Option.some.inj he
    simp [isPrivWord, word_sreg]
  case srd | swr =>
    obtain rfl := Option.some.inj he
    simpa [isPrivWord, word_sreg, privileged] using hp
  all_goals cases hp

/-- A direct branch or call goes where the loader reads its target (R72). -/
theorem flow_of_offset {w : Word} {i : Instr} {o : Int} (h : (decodeWord w).toOption = some i) (ho :
    offsetOf i = some o) (n : Nat) :
    (flowOf w = .branch ∨ flowOf w = .call) ∧ targetOf w n = n + o := by
  have hint : ∀ x : BitVec 18, toSigned 18 x.toNat = int 18 x.toNat := fun x => by
    have hx := x.isLt
    simp only [toSigned, int, Nat.mod_eq_of_lt hx]
    split_ifs <;> omega
  have he := encode_of_decode h
  cases i
  case bnz | bz | call =>
    obtain rfl := Option.some.inj he
    obtain rfl := Option.some.inj ho
    simp [flowOf, targetOf, word_offset, hint]
  all_goals cases ho

theorem lastStops_fields {w : Word} (h : lastStops w = true) : ((wordMajor w).toNat = 0x3B ∧ wordD w = 104#7) ∨
    ((wordMajor w).toNat = 0x3D ∧ ((wordFn w).toNat = 0 ∨ (wordFn w).toNat = 2 ∨ (wordFn w).toNat = 3)) := by
  unfold lastStops flowOf at h
  split at h
  case h_1 hf | h_2 hf | h_3 hf => split at hf <;> simp_all
  case h_4 =>
    simp only [Bool.and_eq_true, beq_iff_eq] at h
    exact .inl ⟨by rw [h.1]; rfl, h.2⟩
  case h_5 => cases h

/-- A word past which control cannot fall is an instruction past which it cannot (R102). -/
theorem stops_of_lastStops {w : Word} {i : Instr} (h : (decodeWord w).toOption = some i) (hl : lastStops w = true) :
    stops i = true := by
  have hr := (readFields_of_decode h).1
  obtain ⟨hm, hd⟩ | ⟨hm, hf⟩ := lastStops_fields hl
  · simp only [readFields, decodeFields, hm, hd, decode3B] at hr
    obtain rfl := Option.some.inj hr
    rfl
  · simp only [readFields, decodeFields, hm] at hr
    obtain hf | hf | hf := hf <;> simp only [decode3D, hf, Option.ite_none_right_eq_some, Option.some.injEq] at hr <;>
        obtain ⟨-, rfl⟩ := hr <;> rfl

/-! ## The image and the checks -/

theorem length_entriesOf (size n : Nat) : ∀ bs : List Byte, (entriesOf size n bs).length = n := by
  induction n with
  | zero => exact fun _ => rfl
  | succ n ih => exact fun bs => by rw [entriesOf, List.length_cons, ih]

theorem headerOf_bounds {img : List Byte} {h : ImgHeader} (hh : headerOf img = some h) :
    0 < h.code ∧ h.dict ≤ 1024 ∧ 0 < h.blk ∧ 0 < h.role ∧ h.role ≤ 4 := by
  unfold headerOf at hh
  extract_lets x k at hh
  split_ifs at hh with h1 h2 h3 h4
  obtain rfl := Option.some.inj hh
  simp only [Bool.or_eq_true, beq_iff_eq, decide_eq_true_eq] at h2
  refine ⟨?_, ?_, ?_, ?_, ?_⟩ <;> omega

theorem checkKernel_ok {ctx : Nat} {priv : Bool} {ylim : Nat} {img : List Byte} {k : Kernel} (hk :
    checkKernel ctx priv ylim img = .ok k) :
    ∃ h, headerOf img = some h ∧ k = kernelFrom ctx img h ∧ rolesRefused img h = false ∧ blocksRefused img h = false ∧
      codeRefused k = false ∧ dictRefused k = false ∧ k.code.any badSregMove = false ∧
      ((k.priv && !priv) || (!k.priv && (k.code ++ k.dict).any isPrivWord)) = false ∧ flowRefused k = false := by
  unfold checkKernel at hk
  cases hh : headerOf img with
  | none => rw [hh] at hk; cases hk
  | some h =>
    simp only [hh] at hk
    split_ifs at hk with h1 h2 h3 h4 h5 h6 h7 h8 h9
    obtain rfl := Except.ok.inj hk
    simp only [Bool.not_eq_true] at h1 h2 h3 h4 h5 h6 h7
    exact ⟨h, rfl, rfl, h1, h2, h3, h4, h5, h6, h7⟩

theorem pairwise_of_rising : ∀ {l : List Nat}, rising l = true → l.Pairwise (· < ·) := by
  intro l h
  refine List.isChain_iff_pairwise.mp ?_
  induction l with
  | nil => exact .nil
  | cons a l ih =>
    cases l with
    | nil => exact .singleton a
    | cons b r =>
      simp only [rising, Bool.and_eq_true, decide_eq_true_eq] at h
      exact .cons_cons h.1 (ih h.2)

theorem blockStart_of_isBlockStart {k : Kernel} {n : Nat} (h : isBlockStart k n = true) : BlockStart k n := by
  simp only [isBlockStart, Bool.and_eq_true, List.any_eq_true, beq_iff_eq] at h
  obtain ⟨⟨e, he, hn⟩, -⟩ := h
  exact ⟨e, he, by rw [hn]⟩

/-- The words of an accepted kernel are assigned (R84). -/
theorem codeRefused_false {k : Kernel} (h : codeRefused k = false) (hs : k.code.any badSregMove = false) {w : Word} (hw :
    w ∈ k.code) :
    assigned w = true ∧ (isPairWord w = true → (pairIndex w).1 < k.dict.length ∧ (pairIndex w).2 < k.dict.length) := by
  have hc := List.any_eq_false.mp h w hw
  have hb := List.any_eq_false.mp hs w hw
  simp only [hb, Bool.not_false, Bool.and_true, Bool.or_eq_true, Bool.not_eq_true', Bool.and_eq_true, decide_eq_true_eq] at hc
  push Not at hc
  obtain ⟨ha, hp⟩ := hc
  exact ⟨by simpa using ha, fun hpair => ⟨(hp hpair).1, (hp hpair).2⟩⟩

theorem dictRefused_false {k : Kernel} (h : dictRefused k = false) {w : Word} (hw : w ∈ k.dict) :
    wordS w = false ∧ assigned w = true ∧ isPairWord w = false ∧ isTransfer w = false := by
  have hd := List.any_eq_false.mp h w hw
  simp only [Bool.or_eq_true, not_or, Bool.not_eq_true', Bool.not_eq_true, Bool.not_eq_false] at hd
  obtain ⟨⟨⟨hs, ha⟩, hp⟩, ht⟩ := hd
  exact ⟨hs, ha, hp, ht⟩

/-- No instruction of an accepted kernel without privilege is privileged (R95, R102). -/
theorem privileged_false {k : Kernel} {priv : Bool} (h :
    ((k.priv && !priv) || (!k.priv && (k.code ++ k.dict).any isPrivWord)) = false)
    (hk : k.priv = false) {w : Word} {i : Instr} (hw : w ∈ k.code ++ k.dict) (hi : (decodeWord w).toOption = some i) :
    privileged i = false := by
  simp only [hk, Bool.not_false, Bool.true_and, Bool.or_eq_false_iff] at h
  by_contra hp
  exact List.any_eq_false.mp h.2 w hw (isPrivWord_of_decode hi (by simpa using hp))

theorem flowRefused_false {k : Kernel} (h : flowRefused k = false) :
    (∀ n w, k.code[n]? = some w → flowOf w = .branch ∨ flowOf w = .call → BlockStart k (targetOf w n)) ∧
      (∀ r ∈ k.roles, BlockStart k r.1) ∧ lastStops (k.code.getLastD 0#32) = true := by
  simp only [flowRefused, Bool.or_eq_false_iff, Bool.not_eq_false'] at h
  obtain ⟨⟨hflow, hroles⟩, hlast⟩ := h
  refine ⟨fun n w hw hf => ?_, fun r hr => blockStart_of_isBlockStart (by simpa using List.any_eq_false.mp hroles r hr), hlast⟩
  have hn := List.any_eq_false.mp hflow (w, n) (List.mem_zipIdx_iff_getElem?.mpr hw)
  simp only [Bool.and_eq_true, Bool.or_eq_true, beq_iff_eq, hf, true_and, decide_eq_true_eq, not_or, Bool.not_eq_true', not_lt,
    Bool.not_eq_false] at hn
  obtain ⟨hpos, hstart⟩ := hn
  simpa [Int.toNat_of_nonneg hpos] using blockStart_of_isBlockStart hstart

theorem blocksRefused_false {img : List Byte} {h : ImgHeader} {ctx : Nat} (hb : blocksRefused img h = false) (hpos :
    0 < h.blk) :
    ((kernelFrom ctx img h).blocks.map (·.1)).head? = some 0 ∧ ((kernelFrom ctx img h).blocks.map (·.1)).Pairwise (· < ·) ∧
      ∀ e ∈ (kernelFrom ctx img h).blocks, e.1 < h.code := by
  have hlen := length_entriesOf 8 h.blk (piece img h.blkOff (8 * h.blk))
  simp only [blocksRefused, Bool.or_eq_false_iff, Bool.not_eq_false', bne_eq_false_iff_eq] at hb
  obtain ⟨⟨⟨hrise, hhead⟩, hin⟩, -⟩ := hb
  have hstarts : (kernelFrom ctx img h).blocks.map (·.1) =
      (entriesOf 8 h.blk (piece img h.blkOff (8 * h.blk))).map (fun e => bits e 0 32) := by simp [kernelFrom, Function.comp_def]
  rw [hstarts]
  refine ⟨?_, pairwise_of_rising hrise, fun e he => ?_⟩
  · cases hl : entriesOf 8 h.blk (piece img h.blkOff (8 * h.blk)) with
    | nil => rw [hl] at hlen; exact absurd hlen hpos.ne
    | cons e r => rw [hl] at hhead; exact congrArg some hhead
  · have hmem : e.1 ∈ (kernelFrom ctx img h).blocks.map (·.1) := List.mem_map_of_mem he
    rw [hstarts] at hmem
    simpa using List.any_eq_false.mp hin e.1 hmem

theorem rolesRefused_false {img : List Byte} {h : ImgHeader} {ctx : Nat} (hr : rolesRefused img h = false) :
    ∀ r ∈ (kernelFrom ctx img h).roles, 104 ≤ r.2 ∧ r.2 ≤ 512 ∧ r.2 % 8 = 0 := by
  intro r hmem
  obtain ⟨e, he, rfl⟩ := List.mem_map.mp hmem
  have hn := List.any_eq_false.mp hr e he
  simp only [Bool.or_eq_true, not_or, decide_eq_true_eq, not_lt, bne_iff_ne, ne_eq, not_not] at hn
  obtain ⟨⟨⟨-, hlo⟩, hhi⟩, hmod⟩ := hn
  exact ⟨hlo, hhi, hmod⟩

theorem acceptedKernels : AcceptedKernels := by
  intro ctx priv ylim img k hk
  obtain ⟨h, hh, rfl, hroles, hblocks, hcode, hdict, hsreg, hpriv, hflow⟩ := checkKernel_ok hk
  obtain ⟨hcpos, hdlen, hbpos, hrpos, hrlen⟩ := headerOf_bounds hh
  obtain ⟨hbranch, hstart, hlast⟩ := flowRefused_false hflow
  obtain ⟨hhead, hrise, hin⟩ := blocksRefused_false (ctx := ctx) hblocks hbpos
  have hclen : (kernelFrom ctx img h).code.length = h.code := by simp [kernelFrom, length_entriesOf]
  have hrl : (kernelFrom ctx img h).roles.length = h.role := by simp [kernelFrom, length_entriesOf]
  have hdl : (kernelFrom ctx img h).dict.length = h.dict := by simp [kernelFrom, length_entriesOf]
  refine ⟨rfl, fun hp => ?_, hdl.trans_le hdlen, hclen ▸ hcpos, fun w hw => ?_, fun w hw => ?_,
    ⟨hhead, hrise, fun e he => hclen ▸ hin e he⟩, ⟨hrl ▸ hrpos, hrl ▸ hrlen, fun r hr => ⟨hstart r hr, rolesRefused_false
        hroles r hr⟩⟩,
    fun n w i o hw hi ho => ?_, ?_⟩
  · by_contra hn
    simp [hp, hn] at hpriv
  · obtain ⟨ha, hpair⟩ := codeRefused_false hcode hsreg hw
    obtain ⟨i, hi⟩ := decode_of_assigned ha
    refine ⟨i, hi, fun hn => privileged_false hpriv hn (List.mem_append_left _ hw) hi, fun t u e f he => ?_⟩
    obtain ⟨hp, hidx⟩ := pair_of_decode (he ▸ hi)
    simpa [hidx] using hpair hp
  · obtain ⟨hs, ha, hp, ht⟩ := dictRefused_false hdict hw
    obtain ⟨i, hi⟩ := decode_of_assigned ha
    refine ⟨i, hi, fun hn => privileged_false hpriv hn (List.mem_append_right _ hw) hi, hs, ht, fun t u e f he => ?_⟩
    exact Bool.false_ne_true (hp.symm.trans (pair_of_decode (he ▸ hi)).1)
  · obtain ⟨hf, ht⟩ := flow_of_offset hi ho n
    exact ht ▸ hbranch n w hw hf
  · have hne : (kernelFrom ctx img h).code ≠ [] := List.ne_nil_of_length_pos (hclen ▸ hcpos)
    have hlw : (kernelFrom ctx img h).code.getLast? = some ((kernelFrom ctx img h).code.getLast hne) :=
        List.getLast?_eq_some_getLast hne
    obtain ⟨i, hi⟩ := decode_of_assigned (codeRefused_false hcode hsreg (List.getLast_mem hne)).1
    refine ⟨_, i, hlw, hi, stops_of_lastStops hi ?_⟩
    rwa [List.getLastD_eq_getLast?, hlw] at hlast

/-- Settles O47: the loader's map is the decoder's, and each check of the loader leaves its part. -/
theorem loadedKernels : Obligations.LoadedKernels := ⟨loaderTableAgrees, acceptedKernels⟩

end Sys2Proof.Proofs
end

section
/-!
PROOF. Taking a trap, and the instructions that take one (R79, R84, R213, R339, R341, R342, R386).
-/
namespace Sys2Proof.Proofs
open Sys2Proof Sys2Proof.Machine Sys2Proof.Claim Sys2Proof.Laws
set_option Elab.async false

/-! ## What changes of threads leave of each of them -/

section
variable {β : Type} (g : Thread → β) (s : State)

theorem thread_modThread_inv (p : Place) {f : Thread → Thread} (hf : ∀ t, g (f t) = g t) (q : Place) :
    g ((s.modThread p f).thread q) = g (s.thread q) := by
  by_cases hs : (look s.threads p).isSome
  · rw [thread_modThread s p f q hs]
    split
    next h => rw [hf, h]
    · rfl
  · have hn : s.modThread p f = s := by simp [State.modThread, Option.not_isSome_iff_eq_none.mp hs]
    rw [hn]

theorem thread_modLanes_inv (ls : List Nat) {f : Thread → Thread} (hf : ∀ t, g (f t) = g t) (q : Place) :
    g ((s.modLanes ls f).thread q) = g (s.thread q) := by
  unfold State.modLanes
  induction ls generalizing s with
  | nil => rfl
  | cons l r ih => rw [List.foldl_cons, ih, State.modLane, thread_modThread_inv g s _ hf]

theorem thread_foldl_modLane_inv (ls : List Nat) (f : State → Nat → Thread → Thread) (hf : ∀ s l t, g (f s l t) = g t) (q :
    Place) :
    g ((ls.foldl (fun s l => s.modLane l (f s l)) s).thread q) = g (s.thread q) := by
  induction ls generalizing s with
  | nil => rfl
  | cons l r ih => rw [List.foldl_cons, ih, State.modLane, thread_modThread_inv g s _ (hf s l)]

/-- Going on to the next position changes of a thread only where and in what state it stands. -/
theorem thread_finish_inv (sb : Bool) (ls : List Nat)
    (hg : ∀ t (a : Pos) b c d e st, g { t with pos := a, opened := b, last := c, chanWait := d, stalled := e, stat :=
        st } = g t) (q : Place) :
    g ((s.finish sb ls).thread q) = g (s.thread q) := by
  unfold State.finish State.finishTo State.moveTo
  refine (thread_foldl_modLane_inv g _ ls (fun x l t => { t with
      pos := (nextPos t, nextOpened t).1
      opened := (nextPos t, nextOpened t).2
      last := x.aux.time
      chanWait := false
      stalled := none
      stat := _ }) (fun s l t => hg t ..) q).trans ?_
  split
  · rfl
  · rw [thread_countIssue, thread_popFor]

end

theorem thread_finish_other (s : State) (sb : Bool) (ls : List Nat) (q : Place) (h : ∀ l ∈ ls, q ≠ at' s l) :
    (s.finish sb ls).thread q = s.thread q := by
  unfold State.finish State.finishTo State.moveTo
  have hp : ∀ l, at' (if ls.isEmpty then s else (s.popFor ls).countIssue) l = at' s l := fun l => by
    split
    · rfl
    · exact (countIssue_place _ l).trans (popFor_place s ls l)
  refine (thread_foldl_modLane_other _ ls _ q (fun l hl => (hp l).trans_ne (h l hl).symm)).trans ?_
  split
  · rfl
  · rw [thread_countIssue, thread_popFor]

/-! ## What the count of an issue and going on leave of the memories -/

theorem core_modCore_inv {β : Type} (g : Core → β) (s : State) (c v : Nat) {f : Core → Core} (hf : ∀ x, g (f x) = g x) (a b :
    Nat) :
    g ((s.modCore c v f).core a b) = g (s.core a b) := by
  rw [core_modCore]
  split
  next h => obtain ⟨rfl, rfl⟩ := h; exact hf _
  · rfl

theorem core_congr {s t : State} (h : t.cores = s.cores) (c v : Nat) : t.core c v = s.core c v := by simp only [State.core, h]

theorem core_countIssue_inv {β : Type} (g : Core → β) (hg : ∀ x a b, g { x with issued := a, step :=
    b } = g x) (s : State) (c v : Nat) :
    g (s.countIssue.core c v) = g (s.core c v) := by
  unfold State.countIssue
  split
  · rfl
  · refine core_modCore_inv g s s.issue.ctx s.issue.vc (f := fun x => { x with issued := _, step := _ }) ?_ c v
    exact fun x => hg ..

theorem core_finish_inv {β : Type} (g : Core → β) (hg : ∀ x a b, g { x with issued := a, step :=
    b } = g x) (s : State) (sb : Bool)
    (ls : List Nat) (c v : Nat) : g ((s.finish sb ls).core c v) = g (s.core c v) := by
  rw [State.finish, State.finishTo, core_congr (moveTo_cores ..)]
  split
  · rfl
  · rw [core_countIssue_inv g hg, core_congr (popFor_cores s ls)]

theorem memKept_finish (s : State) (sb : Bool) (ls : List Nat) : MemKept s (s.finish sb ls) := by
  refine ⟨fun a => by rw [finish_mem], fun d a => by simp only [State.die, finish_dies], fun q a => by simp only
      [State.square, finish_squares],
    fun c v => ⟨fun a => by rw [core_finish_inv (·.scratch) (fun _ _ _ => rfl)], core_finish_inv (·.l1)
        (fun _ _ _ => rfl) ..⟩, fun p a => ?_, finish_wbHeld ..⟩
  rw [thread_finish_inv (·.priv) s sb ls (fun _ _ _ _ _ _ _ => rfl) p]

theorem at'_congr {s t : State} (h : t.issKey = s.issKey) (l : Nat) : at' t l = at' s l :=
  congrArg (fun k : LineKey => (⟨k.ctx, k.vc, k.line, l⟩ : Place)) h

theorem countIssue_issKey (s : State) : s.countIssue.issKey = s.issKey := by
  unfold State.countIssue
  split <;> rfl

theorem popFor_issKey (s : State) (ls : List Nat) : (s.popFor ls).issKey = s.issKey :=
  congrArg (fun p : Place => (⟨p.ctx, p.vc, p.line⟩ : LineKey)) (popFor_place s ls 0)

theorem finish_issKey (s : State) (sb : Bool) (ls : List Nat) : (s.finish sb ls).issKey = s.issKey := by
  have hm : (s.finish sb ls).issKey = (if ls.isEmpty then s else (s.popFor ls).countIssue).issKey := by
    simp only [State.finish, State.finishTo, State.issKey, moveTo_issue]
  rw [hm]
  split
  · rfl
  · rw [countIssue_issKey, popFor_issKey]

/-- An instruction that only goes on. -/
theorem finish_goes_on {s : State} (hg : Gang s) (sb : Bool) :
    Advanced s (s.finish sb s.issue.lanes) sb ∧ ThreadsKept s (s.finish sb s.issue.lanes) := by
  obtain ⟨-, hn, hs, hp⟩ := hg
  have hlane : ∀ l, (s.finish sb s.issue.lanes).lane l = (s.finish sb s.issue.lanes).thread (at' s l) := fun l =>
    congrArg _ (at'_congr (finish_issKey s sb _) l)
  have hinv : ∀ {β : Type} (g : Thread → β), _ → ∀ l, g ((s.finish sb s.issue.lanes).lane l) = g (s.lane l) := fun g hgt l => by
    rw [hlane]
    exact thread_finish_inv g s sb _ hgt _
  refine ⟨fun l hl => ?_, fun l _ => ⟨hinv (·.regs) (fun _ _ _ _ _ _ _ => rfl) l, hinv (·.fst) (fun _ _ _ _ _ _ _ => rfl) l,
    hinv (·.wb) (fun _ _ _ _ _ _ _ => rfl) l, hinv (·.group) (fun _ _ _ _ _ _ _ => rfl) l, hinv (·.held)
        (fun _ _ _ _ _ _ _ => rfl) l⟩, ?_,
    fun p h => thread_finish_other s sb _ p h⟩
  · obtain ⟨hpos, hopen, -, -, -, -, hstat⟩ := thread_finish s sb s.issue.lanes l hn hl hs
    rw [hlane]
    exact ⟨hpos, hopen, hstat⟩
  · have hk := finish_issKey s sb s.issue.lanes
    show ((s.finish sb s.issue.lanes).line (s.finish sb s.issue.lanes).issKey.ctx (s.finish sb s.issue.lanes).issKey.vc
      (s.finish sb s.issue.lanes).issKey.line).g = s.issLine.g
    rw [hk, State.line, finish_lines s hp]
    rfl

/-! ## Taking a trap -/

/-- The state after the error that a trap brings with it has been logged. -/
def trapLogged (s : State) (c : Nat) (t : Trap) : State :=
  match t.log with
  | some (kind, loc, addr) => s.reportError kind 1 c loc addr
  | none => s

/-- The state in which the lanes of a trap stop: its error is logged, and an issue that ends in it has been counted. -/
def trapBase (s : State) (p : LineKey) (lanes : List Nat) (pos : Pos) (t : Trap) : State :=
  let s := trapLogged s p.ctx t
  if s.issue.ctx = p.ctx ∧ s.issue.vc = p.vc ∧ s.issue.line = p.line ∧ s.issue.pos = pos ∧
      lanes.all (fun l => s.issue.lanes.contains l) then
    s.countIssue else s

theorem trapBase_inv {β : Type} (g : State → β) (hhub : ∀ (s : State) h, g { s with hub :=
    h } = g s) (hc : ∀ s : State, g s.countIssue = g s)
    (s : State) (p : LineKey) (lanes : List Nat) (pos : Pos) (t : Trap) : g (trapBase s p lanes pos t) = g s := by
  have hlog : g (trapLogged s p.ctx t) = g s := by
    unfold trapLogged
    split
    · exact (hhub ..).trans (hhub ..)
    · rfl
  unfold trapBase
  dsimp only
  split
  · rw [hc, hlog]
  · exact hlog

theorem trapBase_issKey (s : State) (p : LineKey) (lanes : List Nat) (pos : Pos) (t : Trap) :
    (trapBase s p lanes pos t).issKey = s.issKey :=
  trapBase_inv State.issKey (fun _ _ => rfl) countIssue_issKey s p lanes pos t

theorem modLanes_issKey (s : State) (ls : List Nat) (f : Thread → Thread) : (s.modLanes ls f).issKey = s.issKey := by
  simp only [State.issKey, modLanes_issue]

/-- Changes of the threads of a line are changes of lanes, where the line is the one that issues. -/
theorem foldl_modThread_eq_modLanes {s t : State} (h : t.issKey = s.issKey) (ls : List Nat) (f : Thread → Thread) :
    ls.foldl (fun x l => x.modThread (at' s l) f) t = t.modLanes ls f := by
  induction ls generalizing t with
  | nil => rfl
  | cons l r ih =>
    rw [List.foldl_cons, ← at'_congr h]
    exact ih ((modLanes_issKey t [l] f).trans h)

/-- A trap of the issuing line: the lanes stop, then their record joins the queue. -/
theorem takeTrap_eq (s : State) {lanes : List Nat} (pos : Pos) (t : Trap) (h : lanes ≠ []) :
    s.takeTrap s.issKey lanes pos t = ((trapBase s s.issKey lanes pos t).modLanes lanes
      (fun x => { x with stat := .trapped (s.issCtx).traps.tseq t.code.isMachine })).queueRecord s.issue.ctx
      (trapRecord t pos s.issue.ctx s.issue.vc (s.issCtx).traps.tseq s.issue.line lanes) := by
  have he : lanes.isEmpty = false := by simpa using h
  have hctx : (trapBase s s.issKey lanes pos t).ctx s.issue.ctx = s.issCtx := by
    unfold State.ctx State.issCtx State.ctx
    rw [trapBase_inv (·.ctxs) (fun _ _ => rfl) countIssue_ctxs]
  rw [← foldl_modThread_eq_modLanes (trapBase_issKey s s.issKey lanes pos t), ← hctx]
  simp only [State.takeTrap, he]
  rfl

section
variable (s : State) {lanes : List Nat} (pos : Pos) (t : Trap) (h : lanes ≠ [])
include h

/-- A trap changes of a thread only the state in which it stands. -/
theorem thread_takeTrap_inv {β : Type} (g : Thread → β) (hg : ∀ t st, g { t with stat := st } = g t) (q : Place) :
    g ((s.takeTrap s.issKey lanes pos t).thread q) = g (s.thread q) := by
  rw [takeTrap_eq s pos t h]
  simp only [State.thread, queueRecord_threads]
  exact (thread_modLanes_inv g _ lanes (fun t => hg t _) q).trans
    (congrArg g (trapBase_inv (·.thread q) (fun _ _ => rfl) (fun s => thread_countIssue s q) ..))

theorem core_takeTrap_inv {β : Type} (g : Core → β) (hg : ∀ x a b, g { x with issued := a, step := b } = g x) (c v : Nat) :
    g ((s.takeTrap s.issKey lanes pos t).core c v) = g (s.core c v) := by
  rw [takeTrap_eq s pos t h, core_congr (t := State.queueRecord ..) (s := (trapBase s s.issKey lanes pos t))]
  · exact trapBase_inv (fun s => g (s.core c v)) (fun _ _ => rfl) (fun s => core_countIssue_inv g hg s c v) ..
  · simp [State.queueRecord]

theorem memKept_takeTrap : MemKept s (s.takeTrap s.issKey lanes pos t) := by
  obtain ⟨hm, hq, hd, -⟩ := takeTrap_frame s s.issKey lanes pos t
  refine ⟨fun a => by rw [hm], fun d a => by simp only [State.die, hd], fun q a => by simp only [State.square, hq],
    fun c v => ⟨fun a => by rw [core_takeTrap_inv s pos t h (·.scratch) (fun _ _ _ => rfl)], core_takeTrap_inv s pos t h
        (·.l1) (fun _ _ _ => rfl) c v⟩,
    fun p a => by rw [thread_takeTrap_inv s pos t h (·.priv) (fun _ _ => rfl)], ?_⟩
  rw [takeTrap_eq s pos t h]
  simpa [State.queueRecord] using trapBase_inv (·.wbHeld) (fun _ _ => rfl) countIssue_wbHeld ..

theorem takeTrap_issKey : (s.takeTrap s.issKey lanes pos t).issKey = s.issKey := by
  rw [takeTrap_eq s pos t h]
  have hq : ∀ (x : State) c r, (x.queueRecord c r).issKey = x.issKey := fun x c r => by simp [State.queueRecord, State.issKey]
  rw [hq, modLanes_issKey, trapBase_issKey]

theorem thread_takeTrap_other (q : Place) (hq : ∀ l ∈ lanes, q ≠ at' s l) :
    (s.takeTrap s.issKey lanes pos t).thread q = s.thread q := by
  rw [takeTrap_eq s pos t h]
  simp only [State.thread, queueRecord_threads]
  refine (thread_modLanes_other _ lanes _ q fun l hl => ?_).trans (trapBase_inv (·.thread q) (fun _ _ => rfl)
      (fun s => thread_countIssue s q) ..)
  exact (at'_congr (trapBase_issKey s s.issKey lanes pos t) l).trans_ne (hq l hl).symm

/-- A lane that takes a trap stands trapped. -/
theorem stat_takeTrap (hn : lanes.Nodup) (hs : ∀ l ∈ lanes, (look s.threads (at' s l)).isSome) {l : Nat} (hl : l ∈ lanes) :
    ((s.takeTrap s.issKey lanes pos t).thread (at' s l)).stat = .trapped (s.issCtx).traps.tseq t.code.isMachine := by
  have hat := fun m => at'_congr (trapBase_issKey s s.issKey lanes pos t) m
  have hthr : (trapBase s s.issKey lanes pos t).threads = s.threads :=
      trapBase_inv (·.threads) (fun _ _ => rfl) countIssue_threads ..
  rw [takeTrap_eq s pos t h, ← hat]
  simp only [State.thread, queueRecord_threads]
  refine congrArg Thread.stat (thread_modLanes (trapBase s s.issKey lanes pos t) lanes _ l hn hl fun m hm => ?_)
  rw [hthr]
  exact (congrArg (fun q => (look s.threads q).isSome) (hat m)).trans (hs m hm)

theorem agenda_takeTrap : (s.takeTrap s.issKey lanes pos t).agenda = s.agenda ++ [.trapRecordEnqueue s.issue.ctx] := by
  rw [takeTrap_eq s pos t h, queueRecord_agenda, modLanes_agenda, trapBase_inv (·.agenda) (fun _ _ => rfl) countIssue_agenda]

theorem traps_takeTrap (hc : (s.ctx? s.issue.ctx).isSome) :
    (s.takeTrap s.issKey lanes pos t).issCtx.traps = { (s.issCtx).traps with
    waiting := (s.issCtx).traps.waiting ++ [trapRecord t pos s.issue.ctx s.issue.vc (s.issCtx).traps.tseq s.issue.line lanes]
    tseq := ((s.issCtx).traps.tseq + 1) % 2 ^ 16 } := by
  have hb : ∀ f, ((trapBase s s.issKey lanes pos t).modLanes lanes f).ctxs = s.ctxs := fun f =>
    (modLanes_ctxs ..).trans (trapBase_inv (·.ctxs) (fun _ _ => rfl) countIssue_ctxs ..)
  have hk : (s.takeTrap s.issKey lanes pos t).issue.ctx = s.issue.ctx := congrArg LineKey.ctx (takeTrap_issKey s pos t h)
  rw [State.issCtx, hk, takeTrap_eq s pos t h]
  show ((State.modCtx _ _ _).ctx _).traps = _
  rw [ctx_modCtx _ _ _ _ (by rw [hb]; exact hc), if_pos rfl]
  simp only [State.ctx, hb, State.issCtx]

/-- Taking a trap, as the claims say it. -/
theorem trapped_takeTrap (hn : lanes.Nodup) (hs : ∀ l ∈ lanes, (look s.threads (at' s l)).isSome) :
    Trapped s (s.takeTrap s.issKey lanes pos t) lanes pos t := by
  have hlane : ∀ l, (s.takeTrap s.issKey lanes pos t).lane l = (s.takeTrap s.issKey lanes pos t).thread (at' s l) := fun l =>
    congrArg _ (at'_congr (takeTrap_issKey s pos t h) l)
  refine ⟨fun l hl => ?_, agenda_takeTrap s pos t h, traps_takeTrap s pos t h⟩
  rw [hlane]
  exact ⟨stat_takeTrap s pos t h hn hs hl, thread_takeTrap_inv s pos t h (·.pos) (fun _ _ => rfl) _,
    thread_takeTrap_inv s pos t h (·.regs) (fun _ _ => rfl) _, thread_takeTrap_inv s pos t h (·.fst) (fun _ _ => rfl) _,
    thread_takeTrap_inv s pos t h (·.held) (fun _ _ => rfl) _⟩

end

theorem trapTaken : TrapTaken := by
  intro s lanes pos t hne hn hs
  obtain ⟨hm, hq, hd, hl⟩ := takeTrap_frame s s.issKey lanes pos t
  exact ⟨trapped_takeTrap s pos t hne hn hs, thread_takeTrap_other s pos t hne, hm, hl, hq, hd⟩

/-! ## The instructions that take a trap -/

/-- A gang that takes one trap in all its lanes. -/
theorem trapAll_traps {s : State} (hg : Gang s) (t : Trap) :
    MemKept s (s.trapAll t) ∧ Trapped s (s.trapAll t) s.issue.lanes s.issue.pos t := by
  obtain ⟨hne, hn, hs, -⟩ := hg
  exact ⟨memKept_takeTrap s _ t hne, trapped_takeTrap s _ t hne hn hs⟩

/-- Changes of lanes that touch no register, memory or access of theirs. -/
theorem modLanes_keeps (s : State) (ls : List Nat) (f : Thread → Thread) (hf : ∀ t, (f t).priv = t.priv) :
    MemKept s (s.modLanes ls f) := by
  refine ⟨fun a => by rw [modLanes_mem], fun d a => by simp only [State.die, modLanes_dies], fun q a => by simp only
      [State.square, modLanes_squares],
    fun c v => ?_, fun p a => by rw [thread_modLanes_inv (·.priv) s ls hf], modLanes_wbHeld ..⟩
  rw [core_congr (modLanes_cores s ls f)]
  exact ⟨fun _ => rfl, rfl⟩

theorem lane_modLanes (s : State) (ls : List Nat) (f : Thread → Thread) (l : Nat) :
    (s.modLanes ls f).lane l = (s.modLanes ls f).thread (at' s l) :=
  congrArg _ (at'_congr (modLanes_issKey s ls f) l)

/-- A pair opens if both indices are below the dictionary's end (R79). -/
theorem dpair_opens {s : State} {k : Kernel} (hg : Gang s) (hk : OneKernel s k) (t' u : Bool) (e f : BitVec 10) :
    (k.dict.length ≤ e.toNat ∨ k.dict.length ≤ f.toNat → ∃ t : State, exec (.dpair t' u e f) s = .next t ∧ MemKept s t ∧
      Trapped s t s.issue.lanes s.issue.pos { code := .illegal, info := s.issue.info }) ∧
    (e.toNat < k.dict.length → f.toNat < k.dict.length → ∃ t : State, exec (.dpair t' u e f) s = .next t ∧ MemKept s t ∧
        ThreadsKept s t ∧
      ∀ l ∈ s.issue.lanes, (t.lane l).opened = true ∧ (t.lane l).pos = (s.lane l).pos ∧ (t.lane l).stat = (s.lane l).stat) := by
  have hhead : s.kernelOf (s.lane (s.issue.lanes.headD 0)) = some k := by
    obtain ⟨hne, -⟩ := hg
    refine hk _ ?_
    cases hl : s.issue.lanes with
    | nil => exact absurd hl hne
    | cons a r => exact List.mem_cons_self
  have hexec : exec (.dpair t' u e f) s = if k.dict.length ≤ e.toNat ∨ k.dict.length ≤ f.toNat
      then .next (s.trapAll { code := .illegal, info := s.issue.info })
      else .next (s.modLanes s.issue.lanes (fun t => { t with opened := true })) := by
    show execDpair t' u e f s = _
    simp only [execDpair, hhead]
  have hinv : ∀ {β : Type} (g : Thread → β), (∀ t, g { t with opened := true } = g t) → ∀ l,
      g ((s.modLanes s.issue.lanes (fun t => { t with opened := true })).thread (at' s l)) = g (s.lane l) :=
    fun g hgt l => thread_modLanes_inv g s _ hgt _
  refine ⟨fun hr => ⟨_, hexec.trans (if_pos hr), trapAll_traps hg _⟩, fun he hf => ⟨_, hexec.trans (if_neg
      (by omega)), ?_, ?_, fun l hl => ?_⟩⟩
  · exact modLanes_keeps s _ _ fun _ => rfl
  · refine ⟨fun l _ => ?_, ?_, fun p hp => thread_modLanes_other s _ _ p fun l hl => (hp l hl).symm⟩
    · rw [lane_modLanes]
      exact ⟨hinv (·.regs) (fun _ => rfl) l, hinv (·.fst) (fun _ => rfl) l, hinv (·.wb) (fun _ => rfl) l, hinv (·.group)
          (fun _ => rfl) l,
        hinv (·.held) (fun _ => rfl) l⟩
    · simp only [State.issLine, modLanes_issue, State.line, modLanes_lines]
  · obtain ⟨-, hn, hs, -⟩ := hg
    rw [lane_modLanes]
    exact ⟨congrArg Thread.opened (thread_modLanes s _ _ l hn hl hs), hinv (·.pos) (fun _ => rfl) l, hinv (·.stat)
        (fun _ => rfl) l⟩

theorem trapsByInstruction : TrapsByInstruction := by
  refine ⟨fun s sw hg => ?_, fun s sw n hg => ?_, fun s w hg => ?_, fun s sw hg hw => ?_, fun s sw hg hw => ?_, fun s t' u e
      f k hg hk => ?_⟩
  · obtain ⟨hadv, hthr⟩ := finish_goes_on hg sw
    exact ⟨_, rfl, hadv, hthr, memKept_finish ..⟩
  · exact ⟨_, rfl, trapAll_traps hg _⟩
  · exact ⟨_, rfl, trapAll_traps hg _⟩
  · refine ⟨_, if_pos ?_, trapAll_traps hg _⟩
    simpa [State.armed, squareOf] using hw
  · obtain ⟨hadv, hthr⟩ := finish_goes_on hg sw
    refine ⟨_, _, if_neg ?_, hadv, hthr, memKept_finish s sw s.issue.lanes, congrArg (· ++ [_])
        (finish_agenda s sw s.issue.lanes),
      rfl, rfl, rfl, rfl, rfl, rfl, rfl⟩
    simpa [State.armed, squareOf] using hw
  · exact dpair_opens hg hk t' u e f

/-- Settles O11: the lanes of a trap stop where they stand, and the instructions that take one do so in all lanes. -/
theorem trapsAreTaken : Obligations.TrapsAreTaken := ⟨trapTaken, trapsByInstruction⟩

end Sys2Proof.Proofs
end

section
/-!
PROOF. Management of translation (R306 to R312, R272, R284), for O36.
-/
namespace Sys2Proof.Proofs
open Sys2Proof Sys2Proof.Machine Sys2Proof.Claim Sys2Proof.Laws
set_option Elab.async false

section Ranges
variable {s : State} {h : Hdr} {c : Nat}

/-- A change of a context does not meddle with the sessions. -/
theorem modCtx_setSess {n : Nat} {y : Session} {f : Ctx → Ctx} : (setSess s n y).modCtx c f = setSess (s.modCtx c f) n y := by
  unfold State.modCtx setSess
  dsimp only
  split <;> rfl

theorem modCtx_of_ctx? {x : Ctx} {f : Ctx → Ctx} (hx : s.ctx? c = some x) : s.modCtx c f =
    { s with ctxs := put s.ctxs c (f x) } := by
  rw [State.modCtx, show look s.ctxs c = some x from hx]

theorem rangeRegisterWrites {k : Nat} {r : BitVec 256} (ht : Taken s h) :
    (s.ctx? c = none → Manages (.rangeRegisterWrite h c k r) s h 4 2 [] s) ∧
    (∀ x, s.ctx? c = some x → (16 ≤ k ∨ rrRefused x.trans.ranges k r = true) → Manages
        (.rangeRegisterWrite h c k r) s h 4 1 [] s) ∧
    (∀ x, s.ctx? c = some x → k < 16 → rrRefused x.trans.ranges k r = false → Manages
        (.rangeRegisterWrite h c k r) s h 4 0 [] { s with
      ctxs := put s.ctxs c { x with trans := { x.trans with ranges := put x.trans.ranges k r } } }) := by
  have hexec : exec (.rangeRegisterWrite h c k r) s = s.mgmt h 4 _ := show execRangeRegisterWrite h c k r s = _ from rfl
  refine ⟨fun hc => manages_status ht hexec fun y => ?_, fun x hx hbad => manages_status ht hexec fun y => ?_,
    fun x hx hk hok => manages_of_eq ht hexec (fun y => ?_) rfl rfl⟩
  · simp only [show (expecting s y).ctx? c = none from hc]; rfl
  · simp only [show (expecting s y).ctx? c = some x from hx]
    rw [if_pos (by simpa using hbad)]; rfl
  · simp only [show (expecting s y).ctx? c = some x from hx]
    rw [if_neg (by simp [hk, hok]), modCtx_of_ctx? (s := expecting s y) hx]; rfl

theorem quotaSets {q : Nat} (ht : Taken s h) :
    (s.ctx? c = none → Manages (.quotaSet h c q) s h 0x13 2 [] s) ∧
    (∀ x, s.ctx? c = some x → NoRetake { s with ctxs := put s.ctxs c { x with quota := q } } →
      Manages (.quotaSet h c q) s h 0x13 0 [] { s with ctxs := put s.ctxs c { x with quota := q } }) := by
  have hexec : exec (.quotaSet h c q) s = s.mgmt h 0x13 _ := show execQuotaSet h c q s = _ from rfl
  refine ⟨fun hc => manages_status ht hexec fun y => ?_, fun x hx hno => manages_of_eq ht hexec (fun y => ?_) rfl rfl⟩
  · simp only [show (expecting s y).ctx? c = none from hc]; rfl
  · have hret : ({ expecting s y with ctxs := put s.ctxs c { x with quota := q } } : State).retakeChanges =
        { expecting s y with ctxs := put s.ctxs c { x with quota := q } } := retakeChanges_of_noRetake hno
    simp only [show (expecting s y).ctx? c = some x from hx, modCtx_of_ctx? (s := expecting s y) hx]
    exact congrArg done hret

end Ranges

/-! ## Entries of the page tables (R309 to R312) -/

section Pages
variable {pages : Tbl Nat DWord} {a : Nat} {e : DWord}

theorem mem_put_of_new {κ α : Type} [DecidableEq κ] {t : List (κ × α)} {k : κ} {v : α} (hk : look t k = none) {x :
    κ × α} (hx : x ∈ t) :
    x ∈ put t k v := by
  induction t with
  | nil => cases hx
  | cons y r ih =>
    obtain ⟨b, w⟩ := y
    have hb : b ≠ k := fun hb => by simp [look, hb] at hk
    have hr : look r k = none := by simpa [look, hb] using hk
    rcases List.mem_cons.mp hx with rfl | hx
    · simp [put, hb]
    · simp [put, hb, ih hr hx]

/-- A new entry of a table takes no leaf away. -/
theorem leavesFrom_put (ha : look pages a = none) {L base pre : Nat} {y : Nat × Nat × DWord} (hy :
    y ∈ leavesFrom pages L base pre) :
    y ∈ leavesFrom (put pages a e) L base pre := by
  induction L generalizing base pre with
  | zero => cases hy
  | succ L ih =>
    obtain ⟨x, hx, hy⟩ := List.mem_flatMap.mp hy
    refine List.mem_flatMap.mpr ⟨x, mem_put_of_new ha hx, ?_⟩
    split at hy
    · next hin =>
      rw [if_pos hin]
      dsimp only at hy ⊢
      split at hy
      · next hk => rw [if_pos hk]; exact ih hy
      · next hk => rwa [if_neg hk]
    · cases hy

end Pages

section Writing
variable {s t u : State} {c L ia a : Nat} {e : DWord} {x : Ctx}

/-- The frames of leaves leave L2. -/
def dropFrames (c : Nat) (fs : List (Nat × Nat × DWord)) (s : State) : State :=
  fs.foldl (fun s f => s.dropFrame c (pePa f.2.2) (pageSize f.1)) s

/-- The leaves that a walk reached and, in state t, reaches no more. -/
def lostLeaves (s t : State) (c : Nat) : List (Nat × Nat × DWord) :=
  (s.ctx c).trans.leaves.filter (fun l => !(t.ctx c).trans.leaves.contains l)

/-- The entries of a context once the entry at an address is e, or has gone if e is 0. -/
def entrySet (s : State) (c a : Nat) (e : DWord) : State :=
  withPages s c (if e = 0 then del (s.ctx c).trans.pages a else put (s.ctx c).trans.pages a e)

theorem ctx_of_ctx? (hx : s.ctx? c = some x) : s.ctx c = x := by
  rw [State.ctx, show look s.ctxs c = some x from hx]; rfl

/-- With no write of an atomic to come, an entry's writing is the change of the context's entries, and the lines of the
    frames that no
walk reaches any more leave. -/
theorem setPage_of_quiet (hq : s.halves = []) (hx : s.ctx? c = some x) (ha : x.trans.entryAt L ia = some a) :
    s.setPage c L ia e = dropFrames c (lostLeaves s (entrySet s c a e) c) (entrySet s c a e) := by
  have hset : s.settleHalves (fun h => h.ctx == c) = s := by simp [State.settleHalves, hq]
  have hmod : s.modCtx c (fun x => { x with trans := x.trans.setEntry L ia e }) = entrySet s c a e := by
    rw [modCtx_of_ctx? hx, Trans.setEntry, ha, entrySet, withPages, ctx_of_ctx? hx]
  unfold State.setPage
  simp only [hset, hmod]
  rfl

theorem dropFrames_setSess {n : Nat} {y : Session} {fs : List (Nat × Nat × DWord)} :
    dropFrames c fs (setSess s n y) = setSess (dropFrames c fs s) n y :=
  List.foldl_hom (setSess · n y) fun _ _ => modCtx_setSess

/-- The writing of an entry does not meddle with the sessions. -/
theorem setPage_setSess {n : Nat} {y : Session} (hq : s.halves = []) (hx : s.ctx? c = some x) (ha :
    x.trans.entryAt L ia = some a) :
    (setSess s n y).setPage c L ia e = setSess (s.setPage c L ia e) n y := by
  rw [setPage_of_quiet hq hx ha, setPage_of_quiet (s := setSess s n y) hq hx ha]
  exact dropFrames_setSess (s := entrySet s c a e)

/-- Lines have left virtual caches of a context, those of some frames among them, and nothing else has changed. -/
structure FramesLeft (s t : State) (c : Nat) (fs : List (Nat × Nat × DWord)) : Prop where
  rest : t = { s with ctxs := t.ctxs }
  trans : (t.ctx c).trans = (s.ctx c).trans
  other : ∀ c', c' ≠ c → t.ctx c' = s.ctx c'
  kept : ∀ n, ∀ l ∈ (t.vcOf c n).lines, l ∈ (s.vcOf c n).lines
  gone : ∀ f ∈ fs, ∀ n, ∀ l ∈ (t.vcOf c n).lines, l.pa + l.bytes ≤ pePa f.2.2 ∨ pePa f.2.2 + pageSize f.1 ≤ l.pa

theorem FramesLeft.refl : FramesLeft s s c [] := ⟨rfl, rfl, fun _ _ => rfl, fun _ _ hl => hl, fun _ hf => nomatch hf⟩

theorem FramesLeft.trans' {fs gs : List (Nat × Nat × DWord)} (h : FramesLeft s t c fs) (k : FramesLeft t u c gs) :
    FramesLeft s u c (fs ++ gs) where
  rest := by rw [k.rest, h.rest]
  trans := k.trans.trans h.trans
  other c' hc := (k.other c' hc).trans (h.other c' hc)
  kept n l hl := h.kept n l (k.kept n l hl)
  gone f hf n l hl := (List.mem_append.mp hf).elim (fun hf => h.gone f hf n l (k.kept n l hl)) (fun hf => k.gone f hf n l hl)

theorem framesLeft_dropFrame (hx : s.ctx? c = some x) (f : Nat × Nat × DWord) :
    FramesLeft s (s.dropFrame c (pePa f.2.2) (pageSize f.1)) c [f] := by
  have hsome : (look s.ctxs c).isSome := by rw [show look s.ctxs c = some x from hx]; rfl
  have hlines : ∀ n, ((s.dropFrame c (pePa f.2.2) (pageSize f.1)).vcOf c n).lines = (s.vcOf c n).lines.filter (fun l =>
      !(decide (pePa f.2.2 < l.pa + l.bytes) && decide (l.pa < pePa f.2.2 + pageSize f.1))) := fun n => by
    rw [State.vcOf, State.dropFrame, ctx_modCtx _ _ _ _ hsome, if_pos rfl]
    dsimp only
    rw [look_map_keep (by intro e; rfl), State.vcOf]
    cases look (s.ctx c).vcs n <;> rfl
  refine ⟨?_, ?_, fun c' hc => ?_, fun n l hl => ?_, fun g hg n l hl => ?_⟩
  · rw [State.dropFrame, modCtx_of_ctx? hx]
  · rw [State.dropFrame, ctx_modCtx _ _ _ _ hsome, if_pos rfl]
  · rw [State.dropFrame, ctx_modCtx _ _ _ _ hsome, if_neg (Ne.symm hc)]
  · rw [hlines] at hl
    exact List.mem_of_mem_filter hl
  · obtain rfl := List.mem_singleton.mp hg
    rw [hlines] at hl
    have := (List.mem_filter.mp hl).2
    simp only [Bool.not_eq_true', Bool.and_eq_false_iff, decide_eq_false_iff_not] at this
    omega

theorem framesLeft_dropFrames {fs : List (Nat × Nat × DWord)} (hc : (s.ctx? c).isSome) :
    FramesLeft s (dropFrames c fs s) c fs := by
  induction fs generalizing s with
  | nil => exact .refl
  | cons f fs ih =>
    obtain ⟨x, hx⟩ := Option.isSome_iff_exists.mp hc
    exact (framesLeft_dropFrame hx f).trans' (ih (s := s.dropFrame c (pePa f.2.2) (pageSize f.1)) (by
      rw [State.dropFrame, State.ctx?, isSome_look_modCtx]; exact hc))

theorem ctx?_entrySet : (entrySet s c a e).ctx? c =
    some { s.ctx c with trans := { (s.ctx c).trans with
      pages := if e = 0 then del (s.ctx c).trans.pages a else put (s.ctx c).trans.pages a e } } :=
  look_put_self

theorem entryWritten_setPage (hq : s.halves = []) (hx : s.ctx? c = some x) (ha : x.trans.entryAt L ia = some a) :
    EntryWritten s (s.setPage c L ia e) c a e := by
  have hctx := ctx_of_ctx? (ctx?_entrySet (s := s) (c := c) (a := a) (e := e))
  have hother : ∀ c', c' ≠ c → (entrySet s c a e).ctx c' = s.ctx c' := fun c' hc => by
    rw [entrySet, withPages, State.ctx, look_put_other (Ne.symm hc)]; rfl
  obtain ⟨hrest, htrans, hoth, hkept, hgone⟩ := framesLeft_dropFrames (s := entrySet s c a e) (c := c)
    (fs := lostLeaves s (entrySet s c a e) c) (by rw [ctx?_entrySet]; rfl)
  rw [setPage_of_quiet hq hx ha]
  refine ⟨fun k => ?_, fun c' hc => (hoth c' hc).trans
      (hother c' hc), by rw [hrest]; rfl, by rw [hrest]; rfl, by rw [hrest]; rfl,
    fun n l hl => ?_, fun M p y hin hout n l hl => ?_⟩
  · rw [htrans, hctx]
    dsimp only
    split_ifs with he hk hk
    · rw [look_del, if_pos hk.symm]
    · rw [look_del, if_neg (Ne.symm hk)]
    · rw [look_put, if_pos hk.symm]
    · rw [look_put, if_neg (Ne.symm hk)]
  · have := hkept n l hl
    rwa [State.vcOf, hctx] at this
  · refine hgone (M, p, y) (List.mem_filter.mpr ⟨hin, ?_⟩) n l hl
    rw [htrans] at hout
    simpa using hout

/-- A new entry sends no line away. -/
theorem setPage_of_new (hq : s.halves = []) (hx : s.ctx? c = some x) (ha : x.trans.entryAt L ia = some a) (hnew :
    look x.trans.pages a = none)
    (he : e ≠ 0) : s.setPage c L ia e = withPages s c (put x.trans.pages a e) := by
  have hctx := ctx_of_ctx? (ctx?_entrySet (s := s) (c := c) (a := a) (e := e))
  have hlost : lostLeaves s (entrySet s c a e) c = [] := by
    refine List.filter_eq_nil_iff.mpr fun l hl => ?_
    rw [hctx, if_neg he, ctx_of_ctx? hx]
    rw [ctx_of_ctx? hx] at hl
    have hin : l ∈ ({ x.trans with pages := put x.trans.pages a e } : Trans).leaves := leavesFrom_put hnew hl
    simpa using hin
  rw [setPage_of_quiet hq hx ha, hlost, dropFrames, List.foldl_nil, entrySet, if_neg he, ctx_of_ctx? hx]

end Writing

section Commands
variable {s : State} {h : Hdr} {c L ia a : Nat} {e old : DWord} {x : Ctx}

theorem withMarks_zero : withMarks e 0#64 = e &&& ~~~(3#64 <<< 53) := by simp [withMarks]
theorem withMarks_eq : withMarks e old = (e &&& ~~~(3#64 <<< 53)) ||| (old &&& (3#64 <<< 53)) := rfl

theorem pageRefused_expecting {y : Session} : (expecting s y).pageRefused c L ia e = s.pageRefused c L ia e := by
  simp only [State.pageRefused, expecting, modCtx_setSess]
  rfl

theorem manages_setPage {i : Instr} {code : Nat} {f : MgOp} (ht : Taken s h) (hexec : exec i s = s.mgmt h code f) (hq :
    s.halves = [])
    (hx : s.ctx? c = some x) (ha : x.trans.entryAt L ia = some a) (hf :
        ∀ y, f (expecting s y) = done ((expecting s y).setPage c L ia e)) :
    Manages i s h code 0 [] (s.setPage c L ia e) := by
  obtain ⟨hrest, -⟩ := framesLeft_dropFrames (s := entrySet s c a e) (c := c) (fs := lostLeaves s (entrySet s c a e) c)
    (by rw [ctx?_entrySet]; rfl)
  rw [← setPage_of_quiet hq hx ha] at hrest
  refine manages_of_eq ht hexec (fun y => ?_) (by rw [hrest]; rfl) (by rw [hrest]; rfl)
  rw [hf, expecting, setPage_setSess hq hx ha]
  rfl


theorem pageMap_refused (ht : Taken s h) (hx : s.ctx? c = some x) (hr : s.pageRefused c L ia e = true) :
    Manages (.pageMap h c L ia e) s h 5 1 [] s := by
  have hexec : exec (.pageMap h c L ia e) s = s.mgmt h 5 _ := show execPageMap h c L ia e s = _ from rfl
  refine manages_status ht hexec fun y => ?_
  simp only [show (expecting s y).ctx? c = some x from hx, pageRefused_expecting, hr]
  rfl

theorem pageMap_noTable (ht : Taken s h) (hx : s.ctx? c = some x) (hr : s.pageRefused c L ia e = false) (ha :
    x.trans.entryAt L ia = none) :
    Manages (.pageMap h c L ia e) s h 5 2 [] s := by
  have hexec : exec (.pageMap h c L ia e) s = s.mgmt h 5 _ := show execPageMap h c L ia e s = _ from rfl
  refine manages_status ht hexec fun y => ?_
  simp only [show (expecting s y).ctx? c = some x from hx, pageRefused_expecting, hr, parentsOk, ha]
  rfl

theorem pageMap_written (ht : Taken s h) (hq : s.halves = []) (hx : s.ctx? c = some x) (hr : s.pageRefused c L ia e = false)
    (ha : x.trans.entryAt L ia = some a) : Manages (.pageMap h c L ia e) s h 5 0 [] (s.setPage c L ia (withMarks e 0#64)) := by
  have hexec : exec (.pageMap h c L ia e) s = s.mgmt h 5 _ := show execPageMap h c L ia e s = _ from rfl
  refine manages_setPage ht hexec hq hx ha fun y => ?_
  simp only [show (expecting s y).ctx? c = some x from hx, pageRefused_expecting, hr, parentsOk, ha]
  rfl

theorem pageUnmap_noEntry (ht : Taken s h) (hx : s.ctx? c = some x) (hn : x.trans.entry L ia = none) :
    Manages (.pageUnmap h c L ia) s h 6 2 [] s := by
  have hexec : exec (.pageUnmap h c L ia) s = s.mgmt h 6 _ := show execPageUnmap h c L ia s = _ from rfl
  refine manages_status ht hexec fun y => ?_
  simp only [show (expecting s y).ctx? c = some x from hx, hn]
  rfl

theorem pageUnmap_written (ht : Taken s h) (hq : s.halves = []) (hx : s.ctx? c = some x) (ha : x.trans.entryAt L ia = some a)
    (ho : look x.trans.pages a = some old) : Manages (.pageUnmap h c L ia) s h 6 0 [] (s.setPage c L ia 0#64) := by
  have hexec : exec (.pageUnmap h c L ia) s = s.mgmt h 6 _ := show execPageUnmap h c L ia s = _ from rfl
  refine manages_setPage ht hexec hq hx ha fun y => ?_
  simp only [show (expecting s y).ctx? c = some x from hx, show x.trans.entry L ia = some old by simp [Trans.entry, ha, ho]]

theorem pageChange_noEntry (ht : Taken s h) (hx : s.ctx? c = some x) (hn : x.trans.entry L ia = none) :
    Manages (.pageChange h c L ia e) s h 7 2 [] s := by
  have hexec : exec (.pageChange h c L ia e) s = s.mgmt h 7 _ := show execPageChange h c L ia e s = _ from rfl
  refine manages_status ht hexec fun y => ?_
  simp only [show (expecting s y).ctx? c = some x from hx, hn]
  rfl

theorem pageChange_refused (ht : Taken s h) (hx : s.ctx? c = some x) (ha : x.trans.entryAt L ia = some a)
    (ho : look x.trans.pages a = some old) (hr : s.pageRefused c L ia e = true) :
        Manages (.pageChange h c L ia e) s h 7 1 [] s := by
  have hexec : exec (.pageChange h c L ia e) s = s.mgmt h 7 _ := show execPageChange h c L ia e s = _ from rfl
  refine manages_status ht hexec fun y => ?_
  simp only [show (expecting s y).ctx? c = some x from hx, show x.trans.entry L ia = some old by simp [Trans.entry, ha, ho],
    pageRefused_expecting, hr]
  rfl

theorem pageChange_written (ht : Taken s h) (hq : s.halves = []) (hx : s.ctx? c = some x) (ha : x.trans.entryAt L ia = some a)
    (ho : look x.trans.pages a = some old) (hr : s.pageRefused c L ia e = false) :
    Manages (.pageChange h c L ia e) s h 7 0 [] (s.setPage c L ia (withMarks e old)) := by
  have hexec : exec (.pageChange h c L ia e) s = s.mgmt h 7 _ := show execPageChange h c L ia e s = _ from rfl
  refine manages_setPage ht hexec hq hx ha fun y => ?_
  simp only [show (expecting s y).ctx? c = some x from hx, show x.trans.entry L ia = some old by simp [Trans.entry, ha, ho],
    pageRefused_expecting, hr]
  rfl

theorem pageCommands (ht : Taken s h) :
    (s.ctx? c = none → Manages (.pageMap h c L ia e) s h 5 2 [] s ∧ Manages (.pageUnmap h c L ia) s h 6 2 [] s ∧
        Manages (.pageChange h c L ia e) s h 7 2 [] s) ∧
    (∀ x, s.ctx? c = some x →
      let e' := e &&& ~~~(3#64 <<< 53)
      (s.pageRefused c L ia e = true → Manages (.pageMap h c L ia e) s h 5 1 [] s) ∧
      (x.trans.entryAt L ia = none → Manages (.pageUnmap h c L ia) s h 6 2 [] s ∧
          Manages (.pageChange h c L ia e) s h 7 2 [] s ∧
        (s.pageRefused c L ia e = false → Manages (.pageMap h c L ia e) s h 5 2 [] s)) ∧
      (∀ a, x.trans.entryAt L ia = some a → s.halves = [] →
        (look x.trans.pages a = none → Manages (.pageUnmap h c L ia) s h 6 2 [] s ∧
            Manages (.pageChange h c L ia e) s h 7 2 [] s ∧
          (s.pageRefused c L ia e = false → e' ≠ 0 → Manages (.pageMap h c L ia e) s h 5 0 [] (withPages s c
              (put x.trans.pages a e')))) ∧
        (∀ old, look x.trans.pages a = some old →
          (∃ u, Manages (.pageUnmap h c L ia) s h 6 0 [] u ∧ EntryWritten s u c a 0) ∧
          (s.pageRefused c L ia e = true → Manages (.pageChange h c L ia e) s h 7 1 [] s) ∧
          (s.pageRefused c L ia e = false → (∃ u, Manages (.pageMap h c L ia e) s h 5 0 [] u ∧ EntryWritten s u c a e') ∧
            ∃ u, Manages (.pageChange h c L ia e) s h 7 0 [] u ∧ EntryWritten s u c a (e' ||| (old &&& (3#64 <<< 53))))))) := by
  have hmap : exec (.pageMap h c L ia e) s = s.mgmt h 5 _ := show execPageMap h c L ia e s = _ from rfl
  have hchange : exec (.pageChange h c L ia e) s = s.mgmt h 7 _ := show execPageChange h c L ia e s = _ from rfl
  have hunmap : exec (.pageUnmap h c L ia) s = s.mgmt h 6 _ := show execPageUnmap h c L ia s = _ from rfl
  refine ⟨fun hc => ⟨manages_status ht hmap fun y => ?_, manages_status ht hunmap fun y => ?_, manages_status ht hchange fun
      y => ?_⟩, fun x hx => ⟨pageMap_refused ht hx, fun ha => ?_, fun a ha hq => ⟨fun hn => ?_, fun old ho => ?_⟩⟩⟩
  iterate 3 simp only [show (expecting s y).ctx? c = none from hc]; rfl
  · have hn : x.trans.entry L ia = none := by simp [Trans.entry, ha]
    exact ⟨pageUnmap_noEntry ht hx hn, pageChange_noEntry ht hx hn, fun hr => pageMap_noTable ht hx hr ha⟩
  · have hn' : x.trans.entry L ia = none := by simp [Trans.entry, ha, hn]
    refine ⟨pageUnmap_noEntry ht hx hn', pageChange_noEntry ht hx hn', fun hr he => ?_⟩
    rw [← withMarks_zero] at he ⊢
    rw [← setPage_of_new hq hx ha hn he]
    exact pageMap_written ht hq hx hr ha
  · refine ⟨⟨_, pageUnmap_written ht hq hx ha ho, entryWritten_setPage hq hx ha⟩, pageChange_refused ht hx ha ho,
      fun hr => ⟨⟨_, pageMap_written ht hq hx hr ha, ?_⟩, ⟨_, pageChange_written ht hq hx ha ho hr, entryWritten_setPage hq
          hx ha⟩⟩⟩
    rw [← withMarks_zero]
    exact entryWritten_setPage hq hx ha

end Commands

end Sys2Proof.Proofs
end

section
/-!
PROOF. Market allotments (R272), for O36.
-/
namespace Sys2Proof.Proofs
open Sys2Proof Sys2Proof.Machine Sys2Proof.Claim Sys2Proof.Laws
set_option Elab.async false

section Reply
variable {s u : State} {h : Hdr} {code : Nat} {i : Instr} {f : MgOp} {y : Session}

/-- An operation that is done and leaves the port and session 0 alone answers status 0 and acknowledges its frame. -/
theorem answers_done (ht : Taken s h) (hy : look s.hub.sessions 0 = some y) (hexec : exec i s = s.mgmt h code f) (hf :
    f (expecting s y) = done u)
    (hout : u.out = s.out) (hhub : u.hub = (expecting s y).hub) : ∃ t : State, exec i s = .next t ∧
        Sends s t [.mgmt code 0 [], .ack 0 h.seq] ∧
      t.mem = u.mem ∧ t.threads = u.threads ∧ t.ctxs = u.ctxs ∧ t.dies = u.dies := by
  obtain ⟨hsess, hpaused, z, -, -, hz, -, -, hroom, hnone, -⟩ := id ht
  obtain rfl : z = y := by simpa [hsess, hy] using hz.symm
  have hlook : look u.hub.sessions 0 = some { z with expect := seqNext z.expect } := by rw [hhub]; exact look_setSess
  rw [mgmt_taken ht hy, hf, done, reply_open (t := u) hsess (by rw [hhub]; exact hpaused) hlook hroom hnone] at hexec
  exact ⟨_, hexec, ⟨_, congrArg (· ++ _) hout, rfl⟩, rfl, rfl, rfl, rfl⟩

end Reply

section Market
variable {s : State} {h : Hdr} {c d b z : Nat} {x : Ctx}

theorem byte_zeroAdded {ob os a : Nat} :
    ((s.zeroAdded d ob os b z).die d).market.byte a =
      if b ≤ a ∧ a < b + z ∧ ¬ (ob ≤ a ∧ a < ob + os) then 0#8 else (s.die d).market.byte a := by
  rw [State.zeroAdded, die_modDie, if_pos rfl]
  split_ifs with h
  · exact sget_filter_not _ fun w => by simp; omega
  · exact sget_filter_kept _ fun w => by simp; omega

/-- The allotment of a context on a die, given up if its size is 0. -/
def allotted (x : Ctx) (d b z : Nat) : Ctx :=
  { x with trans := { x.trans with market := if z = 0 then del x.trans.market d else put x.trans.market d (b, z) } }

theorem look_allotted : look (allotted x d b z).trans.market d = if z = 0 then none else some (b, z) := by
  rw [allotted]
  dsimp only
  split_ifs
  · rw [look_del, if_pos rfl]
  · rw [look_put_self]

/-- Why an allotment is refused (R272). -/
def BadAllotment (s : State) (c d b z : Nat) : Prop :=
  s.diePresent d = false ∨ b % 65536 ≠ 0 ∨ z % 65536 ≠ 0 ∨ 2 ^ 25 < b + z ∨
    z ≠ 0 ∧ ∃ c' y b' z', (c', y) ∈ s.ctxs ∧ c' ≠ c ∧ look y.trans.market d = some (b', z') ∧ b' < b + z ∧ b < b' + z'

theorem badAllotment_iff : (!s.diePresent d || b % 65536 != 0 || z % 65536 != 0 || decide (2 ^ 25 < b + z) ||
    z != 0 && s.ctxs.any (fun e => e.1 != c && (match look e.2.trans.market d with
      | some (b', z') => decide (b' < b + z) && decide (b < b' + z')
      | none => false))) = true ↔ BadAllotment s c d b z := by
  have hany : (s.ctxs.any (fun e => e.1 != c && (match look e.2.trans.market d with
      | some (b', z') => decide (b' < b + z) && decide (b < b' + z')
      | none => false))) = true ↔
      ∃ c' y b' z', (c', y) ∈ s.ctxs ∧ c' ≠ c ∧ look y.trans.market d = some (b', z') ∧ b' < b + z ∧ b < b' + z' := by
    rw [List.any_eq_true]
    constructor
    · rintro ⟨⟨c', y⟩, hm, hy⟩
      rw [Bool.and_eq_true, bne_iff_ne] at hy
      obtain ⟨hc, hy⟩ := hy
      cases hl : look y.trans.market d with
      | none => simp [hl] at hy
      | some p =>
        simp only [hl, Bool.and_eq_true, decide_eq_true_eq] at hy
        exact ⟨c', y, p.1, p.2, hm, hc, hl, hy⟩
    · rintro ⟨c', y, b', z', hm, hc, hl, hlt⟩
      exact ⟨(c', y), hm, by simp [hc, hl, hlt]⟩
  rw [Bool.or_eq_true, Bool.and_eq_true, hany]
  simp [BadAllotment, or_assoc]

theorem exec_allotment (hbusy : ((look (s.ctx c).trans.market d).getD (0, 0)).2 = 0 ∨
      s.allotBusy c d ((look (s.ctx c).trans.market d).getD (0, 0)).1 ((look (s.ctx c).trans.market d).getD
          (0, 0)).2 b z = false) :
    ∃ f : MgOp, exec (.marketAllotmentSet h c d b z) s = s.mgmt h 0x14 f ∧ ∀ y, s.ctx? c = some x →
      (BadAllotment s c d b z → f (expecting s y) = refused (expecting s y)) ∧
      (¬ BadAllotment s c d b z → f (expecting s y) = done (((expecting s y).zeroAdded d ((look
          (s.ctx c).trans.market d).getD (0, 0)).1
        ((look (s.ctx c).trans.market d).getD (0, 0)).2 b z).modCtx c (fun x => allotted x d b z))) := by
  have hexec : exec (.marketAllotmentSet h c d b z) s = execMarketAllotmentSet h c d b z s := rfl
  unfold execMarketAllotmentSet at hexec
  dsimp only at hexec
  rw [if_neg (by rcases hbusy with h0 | h0 <;> simp [h0])] at hexec
  refine ⟨_, hexec, fun y hx => ⟨fun hbad => ?_, fun hgood => ?_⟩⟩
  · simp only [show (expecting s y).ctx? c = some x from hx]
    exact if_pos ((badAllotment_iff (s := expecting s y)).mpr hbad)
  · simp only [show (expecting s y).ctx? c = some x from hx]
    exact if_neg (mt (badAllotment_iff (s := expecting s y)).mp hgood)

theorem marketAllotments (ht : Taken s h) (hx : s.ctx? c = some x) :
    let old := (look x.trans.market d).getD (0, 0)
    let bad := s.diePresent d = false ∨ b % 65536 ≠ 0 ∨ z % 65536 ≠ 0 ∨ 2 ^ 25 < b + z ∨
      z ≠ 0 ∧ ∃ c' y b' z', (c', y) ∈ s.ctxs ∧ c' ≠ c ∧ look y.trans.market d = some (b', z') ∧ b' < b + z ∧ b < b' + z'
    (old.2 ≠ 0 → s.allotBusy c d old.1 old.2 b z = true →
      exec (.marketAllotmentSet h c d b z) s = .next (s.post (.marketAllotmentSet h c d b z))) ∧
    ((old.2 = 0 ∨ s.allotBusy c d old.1 old.2 b z = false) →
      (bad → Manages (.marketAllotmentSet h c d b z) s h 0x14 1 [] s) ∧
      (¬ bad → ∃ t : State, exec (.marketAllotmentSet h c d b z) s = .next t ∧ t.mem = s.mem ∧ t.threads = s.threads ∧
        Sends s t [.mgmt 0x14 0 [], .ack 0 h.seq] ∧ look (t.ctx c).trans.market d = (if z = 0 then none else some (b, z)) ∧
        ∀ a, (s.die d).market.wf = true → (t.die d).market.byte a =
          if b ≤ a ∧ a < b + z ∧ ¬ (old.1 ≤ a ∧ a < old.1 + old.2) then 0#8 else (s.die d).market.byte a)) := by
  have hctx := ctx_of_ctx? hx
  refine ⟨fun hold hbusy => ?_, fun hidle => ?_⟩
  · obtain ⟨-, -, y, hup, -⟩ := ht
    have hexec : exec (.marketAllotmentSet h c d b z) s = execMarketAllotmentSet h c d b z s := rfl
    rw [hexec, execMarketAllotmentSet, hctx]
    dsimp only
    rw [if_pos (by simp [State.poweredUp, hup, hold, hbusy])]
  · obtain ⟨f, hexec, hf⟩ := exec_allotment (s := s) (h := h) (x := x) (by rwa [hctx])
    refine ⟨fun hbad => manages_status ht hexec fun y => (hf y hx).1 hbad, fun hgood => ?_⟩
    obtain ⟨hsess, -, y, -, -, hy, -⟩ := id ht
    rw [hsess] at hy
    have hxa : ((expecting s y).zeroAdded d ((look (s.ctx c).trans.market d).getD (0, 0)).1
        ((look (s.ctx c).trans.market d).getD (0, 0)).2 b z).ctx? c = some x := hx
    have hdone := (hf y hx).2 hgood
    rw [modCtx_of_ctx? hxa] at hdone
    obtain ⟨t, ht', hsends, hmem, hthreads, hctxs, hdies⟩ := answers_done ht hy hexec hdone rfl rfl
    refine ⟨t, ht', hmem, hthreads, hsends, ?_, fun a _ => ?_⟩
    · rw [State.ctx, hctxs, look_put_self]
      exact look_allotted
    · rw [State.die, hdies, ← hctx]
      exact byte_zeroAdded (s := expecting s y)

end Market

theorem translationManagement : Claim.TranslationManagement :=
  ⟨fun _ _ _ _ _ ht => rangeRegisterWrites ht, fun _ _ _ _ _ _ ht => pageCommands ht, fun _ _ _ _ ht => quotaSets ht,
    fun _ _ _ _ _ _ _ ht hx => marketAllotments ht hx⟩

end Sys2Proof.Proofs
end

section
/-!
PROOF. Settings that management gives (R102, R223, R319, R364, R365, R367, R376, R378), for O36.
-/
namespace Sys2Proof.Proofs
open Sys2Proof Sys2Proof.Machine Sys2Proof.Claim Sys2Proof.Laws
set_option Elab.async false

section Settings
variable {s : State} {h : Hdr}

theorem fabricRecordWrites {r : BitVec 512} {routes : List (Nat × Nat)} (ht : Taken s h) :
    let bad := fabricRefused r = true ∨ (fabMode r ≠ 1 ∧ routes ≠ []) ∨ ∃ e ∈ routes, 32 ≤ e.2
    (bad → Manages (.fabricRecordWrite h r routes) s h 0x0C 1 [] s) ∧
    (¬ bad → Manages (.fabricRecordWrite h r routes) s h 0x0C 0 [] { s with hub := { s.hub with
      fabric := { s.hub.fabric with recd := r, routes := routes } } }) := by
  have hexec : exec (.fabricRecordWrite h r routes) s = s.mgmt h 0x0C _ := show execFabricRecordWrite h r routes s = _ from rfl
  have hbad : (fabricRefused r || (fabMode r != 1 && !routes.isEmpty) || routes.any (fun e => decide (32 ≤ e.2))) = true ↔
      (fabricRefused r = true ∨ (fabMode r ≠ 1 ∧ routes ≠ []) ∨ ∃ e ∈ routes, 32 ≤ e.2) := by
    simp [or_assoc]
  exact ⟨fun hb => manages_status ht hexec fun y => if_pos (hbad.mpr hb),
    fun hg => manages_of_eq ht hexec (fun y => if_neg (mt hbad.mp hg)) rfl rfl⟩

theorem fabricGroupOps {g c d : Nat} (ht : Taken s h) :
    let f := s.hub.fabric
    (g ∈ f.groupIds ∨ 2 ^ 32 ≤ g → Manages (.fabricGroupOp h true g c d) s h 0x0D 1 [] s) ∧
    (g ∉ f.groupIds → g < 2 ^ 32 → Manages (.fabricGroupOp h true g c d) s h 0x0D 0 [] { s with hub := { s.hub with
      fabric := { f with groupIds := f.groupIds ++ [g] } } }) ∧
    (g ∉ f.groupIds ∨ (d = s.ownDevice ∧ s.ctx? c = none) → Manages (.fabricGroupOp h false g c d) s h 0x0D 2 [] s) ∧
    (g ∈ f.groupIds → (d ≠ s.ownDevice ∨ (s.ctx? c).isSome) →
      ((∃ y ∈ f.groups, y.1 = g ∧ y.2.1 = d) → Manages (.fabricGroupOp h false g c d) s h 0x0D 1 [] s) ∧
      ((∀ y ∈ f.groups, ¬ (y.1 = g ∧ y.2.1 = d)) →
        Manages (.fabricGroupOp h false g c d) s h 0x0D 0 [] { s with hub := { s.hub with
          fabric := { f with groups := f.groups ++ [(g, d, c)] } } })) := by
  have hcreate : exec (.fabricGroupOp h true g c d) s = s.mgmt h 0x0D _ := show execFabricGroupOp h true g c d s = _ from rfl
  have hjoin : exec (.fabricGroupOp h false g c d) s = s.mgmt h 0x0D _ := show execFabricGroupOp h false g c d s = _ from rfl
  have hbad : (s.hub.fabric.groupIds.contains g || decide (2 ^ 32 ≤ g)) = true ↔ (g ∈ s.hub.fabric.groupIds ∨ 2 ^ 32 ≤ g) := by
    rw [Bool.or_eq_true, List.contains_iff_mem, decide_eq_true_eq]
  have hnone : (!s.hub.fabric.groupIds.contains g || (d == s.ownDevice && (s.ctx? c).isNone)) = true ↔
      (g ∉ s.hub.fabric.groupIds ∨ (d = s.ownDevice ∧ s.ctx? c = none)) := by simp
  have hthere : (s.hub.fabric.groups.any fun y => y.1 == g && y.2.1 == d) = true ↔ ∃ y ∈ s.hub.fabric.groups, y.1 = g ∧
      y.2.1 = d := by simp
  refine ⟨fun hb => manages_status ht hcreate fun y => if_pos (hbad.mpr hb),
    fun hg hlt => manages_of_eq ht hcreate (fun y => if_neg (mt hbad.mp
        (by rintro (hm | hle) <;> [exact hg hm; omega]))) rfl rfl,
    fun hn => manages_status ht hjoin fun y => if_pos (hnone.mpr hn), fun hg hd => ?_⟩
  have hsome : ¬ (!s.hub.fabric.groupIds.contains g || (d == s.ownDevice && (s.ctx? c).isNone)) = true := by
    rw [hnone]
    rintro (hg' | ⟨rfl, hc⟩)
    · exact hg' hg
    · simp [hc] at hd
  exact ⟨fun hb => manages_status ht hjoin fun y => (if_neg hsome).trans (if_pos (hthere.mpr hb)),
    fun hf => manages_of_eq ht hjoin (fun y => (if_neg hsome).trans (if_neg
        (mt hthere.mp fun ⟨y, hy, hgd⟩ => hf y hy hgd))) rfl rfl⟩

theorem portStatuses {p : Nat} {l : List Nat × List Nat} (ht : Taken s h) :
    (l.2.length ≤ 8 → Manages (.portStatus h p (some l)) s h 0x0E 0 [] { s with hub := { s.hub with addrs := l.1, vlans :=
        l.2 } }) ∧
    (8 < l.2.length → Manages (.portStatus h p (some l)) s h 0x0E 1 [] s) ∧
    (32 ≤ p ∨ p ∈ s.hub.ras.absentPorts → Manages (.portStatus h p none) s h 0x0E 2 [] s) ∧
    (p < 32 → p ∉ s.hub.ras.absentPorts → Manages (.portStatus h p none) s h 0x0E 0
      [portStateCode ((look s.hub.fabric.ports p).getD .down), (look s.hub.fabric.retransmits p).getD 0, s.hub.portErrors,
        4, 224, 800, 64, 56, 4, 4, 8, 2, 600] s) := by
  have hset : exec (.portStatus h p (some l)) s = s.mgmt h 0x0E _ := show execPortStatus h p (some l) s = _ from rfl
  have hask : exec (.portStatus h p none) s = s.mgmt h 0x0E _ := show execPortStatus h p none s = _ from rfl
  have hnone : (decide (32 ≤ p) || s.hub.ras.absentPorts.contains p) = true ↔ (32 ≤ p ∨ p ∈ s.hub.ras.absentPorts) := by simp
  exact ⟨fun hl => manages_of_eq ht hset (fun y => if_neg
      (by omega)) rfl rfl, fun hl => manages_status ht hset fun y => if_pos hl,
    fun hn => manages_status ht hask fun y => if_pos (hnone.mpr hn),
    fun hp hm => manages_of_eq ht hask (fun y => if_neg (mt hnone.mp (by rintro (h | h) <;> [omega; exact hm h]))) rfl rfl⟩

theorem delayThrashSets {k d : Nat} (ht : Taken s h) :
    (3 < k → Manages (.delayThrashSet h k d none) s h 0x10 1 [] s) ∧
    (k ≤ 3 → Manages (.delayThrashSet h k d none) s h 0x10 0 []
      { s with hub := { s.hub with delays := setNth s.hub.delays k d } }) ∧
    ∀ n w t, (1 ≤ n ∧ n ≤ 255 ∧ 10000 ≤ w ∧ w ≤ 100000000 ∧ t ≤ 1000000000 →
        Manages (.delayThrashSet h k d (some (n, w, t))) s h 0x10 0 [] { s with hub := { s.hub with thrash := (n, w, t) } }) ∧
      (¬ (1 ≤ n ∧ n ≤ 255 ∧ 10000 ≤ w ∧ w ≤ 100000000 ∧ t ≤ 1000000000) →
        Manages (.delayThrashSet h k d (some (n, w, t))) s h 0x10 1 [] s) := by
  have hdelay : exec (.delayThrashSet h k d none) s = s.mgmt h 0x10 _ := show execDelayThrashSet h k d none s = _ from rfl
  refine ⟨fun hk => manages_status ht hdelay fun y => if_pos hk, fun hk => manages_of_eq ht hdelay (fun y => if_neg
      (by omega)) rfl rfl,
    fun n w t => ?_⟩
  have hthrash : exec (.delayThrashSet h k d (some (n, w, t))) s = s.mgmt h 0x10 _ :=
    show execDelayThrashSet h k d (some (n, w, t)) s = _ from rfl
  exact ⟨fun hin => manages_of_eq ht hthrash (fun y => if_neg (by omega)) rfl rfl,
    fun hout => manages_status ht hthrash fun y => if_pos (by omega)⟩

theorem cutMapReads {c : Nat} (ht : Taken s h) : (s.ctx? c = none → Manages (.cutMapRead h c) s h 0x0F 2 [] s) ∧
    ∀ x, s.ctx? c = some x → Manages (.cutMapRead h c) s h 0x0F 0 x.ckpt.map s := by
  have hexec : exec (.cutMapRead h c) s = s.mgmt h 0x0F _ := show execCutMapRead h c s = _ from rfl
  refine ⟨fun hc => manages_status ht hexec fun y => ?_, fun x hx => manages_of_eq ht hexec (fun y => ?_) rfl rfl⟩
  · simp only [show (expecting s y).ctx? c = none from hc]
    rfl
  · simp only [show (expecting s y).ctx? c = some x from hx]
    rfl

theorem imageReleases {c n : Nat} (ht : Taken s h) :
    ((∀ k, look s.kernels n = some k → k.ctx = c → k.released = true) → Manages (.imageRelease h c n) s h 0x12 2 [] s) ∧
    (∀ k, look s.kernels n = some k → k.ctx = c → k.released = false →
      Manages (.imageRelease h c n) s h 0x12 0 [] { s with kernels := put s.kernels n { k with released := true } }) := by
  have hexec : exec (.imageRelease h c n) s = s.mgmt h 0x12 _ := show execImageRelease h c n s = _ from rfl
  refine ⟨fun hgone => manages_status ht hexec fun y => ?_, fun k hk hc hr => manages_of_eq ht hexec (fun y => ?_) rfl rfl⟩
  · cases hk : look s.kernels n with
    | none =>
      simp only [show look (expecting s y).kernels n = none from hk]
      rfl
    | some k =>
      simp only [show look (expecting s y).kernels n = some k from hk]
      exact if_pos (Classical.or_iff_not_imp_left.mpr fun hc => hgone k hk (not_not.mp hc))
  · simp only [show look (expecting s y).kernels n = some k from hk]
    exact if_neg (by simp [hc, hr])

end Settings

/-! ## Kernel images (R102) -/

section Images
variable {s t u : State} {h : Hdr} {c ia pa n vc : Nat} {y : Session} {nt : Bool}

/-- Sessions stand beside what a read of memory changes. -/
theorem correctDram_setSess : (setSess s n y).correctDram c pa = setSess (s.correctDram c pa) n y :=
  List.foldl_hom (setSess · n y) fun _ _ => rfl

theorem touchL2_setSess {wr : List Nat} :
    (setSess s n y).touchL2 c vc pa wr nt = (s.touchL2 c vc pa wr nt).map (setSess · n y) := by
  unfold State.touchL2
  rw [Option.map_map]
  exact congrArg (Option.map · _) (funext fun x => modCtx_setSess)

theorem markLeaf_setSess {wr : Bool} : (setSess s n y).markLeaf c ia wr = setSess (s.markLeaf c ia wr) n y := by
  unfold State.markLeaf
  rw [show (setSess s n y).walk c ia = s.walk c ia from rfl]
  split
  · rfl
  · rw [show (setSess s n y).ctx c = s.ctx c from rfl]
    split
    · rfl
    · exact modCtx_setSess

theorem openPage_setSess :
    (setSess s n y).openPage c ia true false nt = (s.openPage c ia true false nt).map (setSess · n y) := by
  unfold State.openPage
  rw [show (setSess s n y).checkPage c ia true false = s.checkPage c ia true false from rfl]
  split
  · rfl
  · next L e _ =>
    by_cases hcfg : cfgIa ≤ ia
    · rw [if_pos hcfg, if_pos hcfg]
      rfl
    · simp only [if_neg hcfg, if_true, Bool.false_eq_true, if_false, touchL2_setSess]
      cases s.touchL2 c (peVc e) (leafPa L e ia) [] nt with
      | none => rfl
      | some t =>
        simp only [Option.map_some, correctDram_setSess, markLeaf_setSess]
        rfl

theorem openPages_setSess {ias : List Nat} :
    (setSess s n y).openPages c ias true false nt = (s.openPages c ias true false nt).map (setSess · n y) := by
  unfold State.openPages
  generalize dedup (ias.map fun a => a / 128 * 128) = l
  induction l generalizing s with
  | nil => rfl
  | cons a l ih =>
    simp only [List.foldlM_cons, openPage_setSess]
    cases s.openPage c ((ias.find? fun b => b / 128 * 128 == a).getD a) true false nt with
    | error e => rfl
    | ok t => exact ih

/-- What a read of pages leaves alone: the kernels, what has left the device, and the hub but for its error log and counters. -/
structure ReadKeeps (s t : State) : Prop where
  kernels : t.kernels = s.kernels
  out : t.out = s.out
  hub : t.hub = { s.hub with ras := t.hub.ras }

theorem ReadKeeps.refl : ReadKeeps s s := ⟨rfl, rfl, rfl⟩
theorem ReadKeeps.trans (h : ReadKeeps s t) (k : ReadKeeps t u) : ReadKeeps s u :=
  ⟨k.kernels.trans h.kernels, k.out.trans h.out, by rw [k.hub, h.hub]⟩

theorem readKeeps_modCtx {f : Ctx → Ctx} : ReadKeeps s (s.modCtx c f) := ⟨by simp, by simp, by simp⟩

theorem readKeeps_correctDram : ReadKeeps s (s.correctDram c pa) :=
  List.foldlRecOn (motive := ReadKeeps s) _ _ .refl fun _ ht _ _ => ht.trans ⟨rfl, rfl, rfl⟩

theorem readKeeps_markLeaf {wr : Bool} : ReadKeeps s (s.markLeaf c ia wr) := by
  unfold State.markLeaf
  split
  · exact .refl
  · split
    · exact .refl
    · exact readKeeps_modCtx

theorem readKeeps_openPage (ho : s.openPage c ia true false nt = .ok t) : ReadKeeps s t := by
  unfold State.openPage at ho
  split at ho
  · cases ho
  · by_cases hcfg : cfgIa ≤ ia
    · rw [if_pos hcfg] at ho
      cases ho
      exact .refl
    · simp only [if_neg hcfg, if_true, Bool.false_eq_true, if_false] at ho
      split at ho
      · cases ho
      · next t' htouch =>
        cases ho
        obtain ⟨x, -, rfl⟩ := Option.map_eq_some_iff.mp htouch
        exact (readKeeps_modCtx.trans readKeeps_correctDram).trans readKeeps_markLeaf

theorem readKeeps_openPages {ias : List Nat} (ho : s.openPages c ias true false nt = .ok t) : ReadKeeps s t := by
  unfold State.openPages at ho
  generalize dedup (ias.map fun a => a / 128 * 128) = l at ho
  induction l generalizing s with
  | nil =>
    cases ho
    exact .refl
  | cons a l ih =>
    rw [List.foldlM_cons] at ho
    cases hp : s.openPage c ((ias.find? fun b => b / 128 * 128 == a).getD a) true false nt with
    | error e => rw [hp] at ho; cases ho
    | ok v =>
      rw [hp] at ho
      exact (readKeeps_openPage hp).trans (ih ho)

theorem imageSubmits {va : Nat} {x : Ctx} {ss : List Span} (ht : Taken s h) (hx : s.ctx? c = some x) (hss :
    s.mapVa c va n true false = some ss)
    (ho : s.openPages c (spanIas ss) true false = .ok u) (hb : u.badByte c (spanIas ss) = none) :
    (∀ e, checkKernel c x.set.priv x.set.ylim ((spanIas ss).map (u.homeByte c)) = .error e → Manages
        (.imageSubmit h c va n) s h 0x11 1 [e, 0] u) ∧
    (∀ k, checkKernel c x.set.priv x.set.ylim ((spanIas ss).map (u.homeByte c)) = .ok k → Manages
        (.imageSubmit h c va n) s h 0x11 0 [0, s.hub.nextKhnd]
      { u with kernels := s.kernels ++ [(s.hub.nextKhnd, k)], hub := { u.hub with nextKhnd := s.hub.nextKhnd + 1 } }) := by
  have hexec : exec (.imageSubmit h c va n) s = s.mgmt h 0x11 _ := show execImageSubmit h c va n s = _ from rfl
  obtain ⟨hkernels, hout, hhub⟩ := readKeeps_openPages ho
  have hnext : u.hub.nextKhnd = s.hub.nextKhnd := by rw [hhub]
  have hpaused : u.hub.paused = s.hub.paused := by rw [hhub]
  have hopen : ∀ y, (expecting s y).openPages c (spanIas ss) true false =
      .ok (setSess u 0 { y with expect := seqNext y.expect }) := fun y => by
    rw [expecting, openPages_setSess, ho]
    rfl
  refine ⟨fun e he => manages_of_eq ht hexec (fun y => ?_) hout hpaused, fun k hk => manages_of_eq ht hexec
      (fun y => ?_) hout hpaused⟩
  · simp only [show (expecting s y).ctx? c = some x from hx, show
      (expecting s y).mapVa c va n true false = some ss from hss, hopen]
    rw [if_neg (by rw [show (setSess u 0 _).badByte c _ = u.badByte c _ from rfl, hb]; decide),
      show (setSess u 0 _).homeByte c = u.homeByte c from rfl, he]
    rfl
  · simp only [show (expecting s y).ctx? c = some x from hx, show
      (expecting s y).mapVa c va n true false = some ss from hss, hopen]
    rw [if_neg (by rw [show (setSess u 0 _).badByte c _ = u.badByte c _ from rfl, hb]; decide),
      show (setSess u 0 _).homeByte c = u.homeByte c from rfl, hk]
    simp only [← hnext, ← hkernels]
    rfl

end Images

theorem settingsManagement : Claim.SettingsManagement :=
  ⟨fun _ _ _ _ ht => fabricRecordWrites ht, fun _ _ _ _ _ ht => fabricGroupOps ht, fun _ _ _ _ ht => portStatuses ht,
    fun _ _ _ _ ht => delayThrashSets ht, fun _ _ _ ht => cutMapReads ht, fun _ _ _ _ _ _ _ _ ht hx hss ho hb => imageSubmits
        ht hx hss ho hb,
    fun _ _ _ _ ht => imageReleases ht⟩

/-- Settles O36: each operation is read as the reply of `manages_of_eq`; a page command's lines leave with the leaves that
    its entry hides. -/
theorem translationAndSettings : Obligations.TranslationAndSettings := ⟨translationManagement, settingsManagement⟩

end Sys2Proof.Proofs
end

section
/-!
PROOF. What operations of the model leave alone of the loader's books: the kernels, the next handle, and the places that hold threads (O48,
O52). `Filed Φ` says that a statement Φ about these three holds; one lemma per operation says that the operation keeps any such statement.
-/
namespace Sys2Proof.Proofs
open Sys2Proof Sys2Proof.Machine Sys2Proof.Claim Sys2Proof.Laws
set_option Elab.async false -- many short lemmas, each of which waits for those before it: in order they need no threads

/-! ## The statement, of a state -/

/-- A statement about the kernels of the device, the next handle, and the places of threads. -/
abbrev Books := Tbl Nat Kernel → Nat → List Place → Prop

/-- It holds of a state. It reads three fields, so an update of any other keeps it by definition. -/
def Filed (Φ : Books) (s : State) : Prop := Φ s.kernels s.hub.nextKhnd (s.threads.map (·.1))

/-! The statement of what an operation answers beside a state, or in place of one. -/

/-- Of the state that an optional answer holds. -/
def FiledOpt (Φ : Books) : Option State → Prop
  | some t => Filed Φ t
  | none => True

/-- Of the state of an answer that is no error. -/
def FiledOk (Φ : Books) {ε : Type} : Except ε State → Prop
  | .ok t => Filed Φ t
  | .error _ => True

/-- Of the state beside the value of an answer that is no error. -/
def FiledVal (Φ : Books) {ε α : Type} : Except ε (α × State) → Prop
  | .ok r => Filed Φ r.2
  | .error _ => True

/-- Of the state beside the value of an answer, or of the state in which an error leaves it. -/
def FiledEither (Φ : Books) {α : Type} : Except State (α × State) → Prop
  | .ok r => Filed Φ r.2
  | .error t => Filed Φ t

/-- Of the state beside the value of an optional answer. -/
def FiledOptSnd (Φ : Books) {α : Type} : Option (α × State) → Prop
  | some r => Filed Φ r.2
  | none => True

def FiledOptFst (Φ : Books) {α : Type} : Option (State × α) → Prop
  | some r => Filed Φ r.1
  | none => True

/-- Of the state in which the operands of an issue have been read, or its lanes have trapped or wait. -/
def FiledPrep (Φ : Books) : Prep → Prop
  | .halt s => Filed Φ s
  | .go _ _ s => Filed Φ s

/-- Of the state in which an access has been performed, or waits. -/
def FiledServed (Φ : Books) : Served → Prop
  | .done s _ => Filed Φ s
  | .wait s => Filed Φ s
  | _ => True

/-- Of the state in which a contribution has been made. -/
def FiledContrib (Φ : Books) : Contrib → Prop
  | .done s => Filed Φ s
  | _ => True

/-- Of the state in which a tile has its rows. -/
def FiledRoom (Φ : Books) : Room → Prop
  | .ok s => Filed Φ s
  | _ => True

/-- Of the state in which a record has been read, or the lanes stopped. -/
def FiledRecRead (Φ : Books) : RecRead → Prop
  | .ok _ s => Filed Φ s
  | .stop s => Filed Φ s

/-- Of the state in which a drain sequencer has written, or waits. -/
def FiledDrained (Φ : Books) : Drained → Prop
  | .done s => Filed Φ s
  | .wait s => Filed Φ s
  | _ => True

/-- Of the state in which the chosen action is to be taken. -/
def FiledChoice (Φ : Books) : Choice → Prop
  | .event _ s => Filed Φ s
  | .issue _ s => Filed Φ s
  | .idle => True

/-- Of the state of an outcome. -/
def FiledNext (Φ : Books) : Host.Outcome State Fault Refusal → Prop
  | .next t => Filed Φ t
  | _ => True

section Elim
variable {Φ : Books} {s t : State} {ε α : Type}

theorem FiledOpt.get {o : Option State} (e : o = some t) (h : FiledOpt Φ o) : Filed Φ t := by subst e; exact h
theorem FiledOpt.getD {o : Option State} (h : FiledOpt Φ o) (hs : Filed Φ s) : Filed Φ (o.getD s) := by
  cases o
  · exact hs
  · exact h
theorem FiledOpt.map {o : Option α} {f : α → State} (h : ∀ a, Filed Φ (f a)) : FiledOpt Φ (o.map f) := by
  cases o
  · trivial
  · exact h _
theorem FiledOk.map {o : Except ε α} {f : α → State} (h : ∀ a, o = .ok a → Filed Φ (f a)) : FiledOk Φ (o.map f) := by
  cases o with
  | error => trivial
  | ok a => exact h a rfl
theorem FiledOk.get {r : Except ε State} (e : r = .ok t) (h : FiledOk Φ r) : Filed Φ t := by subst e; exact h
theorem FiledVal.get {r : Except ε (α × State)} {a : α} (e : r = .ok (a, t)) (h : FiledVal Φ r) : Filed Φ t := by subst e; exact h
theorem FiledVal.map {β : Type} {r : Except ε (α × State)} {f : α × State → β × State} (h : FiledVal Φ r)
    (hf : ∀ x, (f x).2 = x.2 := by exact fun _ => rfl) :
    FiledVal Φ (r.map f) := by
  cases r with
  | error => trivial
  | ok x => exact (congrArg (Filed Φ) (hf x)).mpr h
theorem FiledEither.ok {r : Except State (α × State)} {a : α} (e : r = .ok (a, t)) (h : FiledEither Φ r) : Filed Φ t := by subst e; exact h
theorem FiledEither.error {r : Except State (α × State)} (e : r = .error t) (h : FiledEither Φ r) : Filed Φ t := by subst e; exact h
theorem FiledNext.get {r : Host.Outcome State Fault Refusal} (e : r = .next t) (h : FiledNext Φ r) : Filed Φ t := by subst e; exact h
theorem FiledOptSnd.get {o : Option (α × State)} {a : α} (e : o = some (a, t)) (h : FiledOptSnd Φ o) : Filed Φ t := by subst e; exact h
theorem FiledOptFst.get {o : Option (State × α)} {a : α} (e : o = some (t, a)) (h : FiledOptFst Φ o) : Filed Φ t := by subst e; exact h
theorem FiledOptFst.getFst {o : Option (State × α)} {r : State × α} (e : o = some r) (h : FiledOptFst Φ o) : Filed Φ r.1 := by subst e; exact h
theorem FiledPrep.halt {p : Prep} (e : p = .halt t) (h : FiledPrep Φ p) : Filed Φ t := by subst e; exact h
theorem FiledPrep.go {p : Prep} {ls : List Nat} {vs : List (Nat × List (List Word))} (e : p = .go ls vs t) (h : FiledPrep Φ p) : Filed Φ t := by
  subst e; exact h
theorem FiledServed.done {r : Served} {o : Option (ReplyTo × List Word)} (e : r = .done t o) (h : FiledServed Φ r) : Filed Φ t := by subst e; exact h
theorem FiledServed.wait {r : Served} (e : r = .wait t) (h : FiledServed Φ r) : Filed Φ t := by subst e; exact h
theorem FiledContrib.done {r : Contrib} (e : r = .done t) (h : FiledContrib Φ r) : Filed Φ t := by subst e; exact h
theorem FiledRoom.ok {r : Room} (e : r = .ok t) (h : FiledRoom Φ r) : Filed Φ t := by subst e; exact h
theorem FiledRecRead.ok {r : RecRead} {bs : List Byte} (e : r = .ok bs t) (h : FiledRecRead Φ r) : Filed Φ t := by subst e; exact h
theorem FiledRecRead.stop {r : RecRead} (e : r = .stop t) (h : FiledRecRead Φ r) : Filed Φ t := by subst e; exact h
theorem FiledDrained.done {r : Drained} (e : r = .done t) (h : FiledDrained Φ r) : Filed Φ t := by subst e; exact h
theorem FiledDrained.wait {r : Drained} (e : r = .wait t) (h : FiledDrained Φ r) : Filed Φ t := by subst e; exact h
theorem FiledChoice.event {r : Choice} {i : Instr} (e : r = .event i t) (h : FiledChoice Φ r) : Filed Φ t := by subst e; exact h
theorem FiledChoice.issue {r : Choice} {w : Word} (e : r = .issue w t) (h : FiledChoice Φ r) : Filed Φ t := by subst e; exact h
theorem Filed.inSome (h : Filed Φ s) : FiledOpt Φ (some s) := h
theorem Filed.inOk (h : Filed Φ s) : FiledOk Φ (ε := ε) (.ok s) := h
theorem Filed.pair {a : α} (h : Filed Φ s) : Filed Φ (a, s).2 := h
theorem Filed.pairFst {a : α} (h : Filed Φ s) : Filed Φ (s, a).1 := h
theorem Filed.snd {r : α × State} {a : α} (e : r = (a, t)) (h : Filed Φ r.2) : Filed Φ t := by subst e; exact h
/-! Either way. -/

variable {u : State} {c : Prop} [Decidable c]

theorem Filed.ite (h : Filed Φ t) (h' : Filed Φ u) : Filed Φ (if c then t else u) := by split <;> assumption
theorem Filed.iteThen (h : Filed Φ u) (f : Filed Φ u → Filed Φ t) : Filed Φ (if c then t else u) := .ite (f h) h
theorem Filed.iteOpt {a b : Option State} (h : FiledOpt Φ a) (h' : FiledOpt Φ b) : FiledOpt Φ (if c then a else b) := by split <;> assumption
theorem Filed.iteOk {a b : Except ε State} (h : FiledOk Φ a) (h' : FiledOk Φ b) : FiledOk Φ (if c then a else b) := by split <;> assumption
theorem Filed.iteVal {a b : Except ε (α × State)} (h : FiledVal Φ a) (h' : FiledVal Φ b) : FiledVal Φ (if c then a else b) := by split <;> assumption
theorem Filed.iteEither {a b : Except State (α × State)} (h : FiledEither Φ a) (h' : FiledEither Φ b) : FiledEither Φ (if c then a else b) := by
  split <;> assumption
theorem Filed.iteNext {a b : Host.Outcome State Fault Refusal} (h : FiledNext Φ a) (h' : FiledNext Φ b) : FiledNext Φ (if c then a else b) := by
  split <;> assumption
theorem Filed.iteRec {a b : RecRead} (h : FiledRecRead Φ a) (h' : FiledRecRead Φ b) : FiledRecRead Φ (if c then a else b) := by split <;> assumption
theorem Filed.iteSnd {a b : α × State} (h : Filed Φ a.2) (h' : Filed Φ b.2) : Filed Φ (if c then a else b).2 := by split <;> assumption
theorem Filed.iteFst {a b : State × α} (h : Filed Φ a.1) (h' : Filed Φ b.1) : Filed Φ (if c then a else b).1 := by split <;> assumption
theorem Filed.iteSnd2 {β : Type} {a b : α × β × State} (h : Filed Φ a.2.2) (h' : Filed Φ b.2.2) : Filed Φ (if c then a else b).2.2 := by split <;> assumption

end Elim

/-! ## Tables and loops -/

section Tables
variable {Φ : Books} {α β ε : Type} {s : State}

/-- A loop keeps what each round keeps. -/
theorem Filed.foldl {l : List β} {f : State → β → State} (h : Filed Φ s) (hf : ∀ t b, Filed Φ t → Filed Φ (f t b)) : Filed Φ (l.foldl f s) :=
  List.foldlRecOn l f h fun t ht b _ => hf t b ht

/-- A loop with an accumulator beside the state. -/
theorem Filed.foldlSnd {l : List β} {x : α × State} {f : α × State → β → α × State} (h : Filed Φ x.2) (hf : ∀ y b, Filed Φ y.2 → Filed Φ (f y b).2) :
    Filed Φ (l.foldl f x).2 :=
  List.foldlRecOn (motive := fun y => Filed Φ y.2) l f (b := x) h fun t ht b _ => hf t b ht

/-- A loop over values that hold a state. -/
theorem Filed.foldlAt (g : α → State) {l : List β} {x : α} {f : α → β → α} (h : Filed Φ (g x)) (hf : ∀ y b, Filed Φ (g y) → Filed Φ (g (f y b))) :
    Filed Φ (g (l.foldl f x)) :=
  List.foldlRecOn (motive := fun y => Filed Φ (g y)) l f (b := x) h fun t ht b _ => hf t b ht

/-- A loop that may stop. -/
theorem Filed.foldlOpt {l : List β} {f : State → β → Option State} (h : Filed Φ s) (hf : ∀ t b, Filed Φ t → FiledOpt Φ (f t b)) :
    FiledOpt Φ (l.foldlM f s) := by
  induction l generalizing s with
  | nil => exact h
  | cons b r ih =>
    rw [List.foldlM_cons]
    cases hb : f s b with
    | none => trivial
    | some t => exact ih ((hf s b h).get hb)

theorem Filed.foldlOk {l : List β} {f : State → β → Except ε State} (h : Filed Φ s) (hf : ∀ t b, Filed Φ t → FiledOk Φ (f t b)) :
    FiledOk Φ (l.foldlM f s) := by
  induction l generalizing s with
  | nil => exact h
  | cons b r ih =>
    rw [List.foldlM_cons]
    cases hb : f s b with
    | error => trivial
    | ok t => exact ih ((hf s b h).get hb)

theorem Filed.foldlOptFst {l : List β} {f : State × α → β → Option (State × α)} {x : State × α} (h : Filed Φ x.1)
    (hf : ∀ y b, Filed Φ y.1 → FiledOptFst Φ (f y b)) : FiledOptFst Φ (l.foldlM f x) := by
  induction l generalizing x with
  | nil => exact h
  | cons b r ih =>
    rw [List.foldlM_cons]
    cases hb : f x b with
    | none => trivial
    | some y => exact ih ((hf x b h).get hb)

theorem Filed.foldlVal {l : List β} {f : α × State → β → Except ε (α × State)} {x : α × State} (h : Filed Φ x.2)
    (hf : ∀ y b, Filed Φ y.2 → FiledVal Φ (f y b)) : FiledVal Φ (l.foldlM f x) := by
  induction l generalizing x with
  | nil => exact h
  | cons b r ih =>
    rw [List.foldlM_cons]
    cases hb : f x b with
    | error => trivial
    | ok y => exact ih ((hf x b h).get hb)

end Tables

/-! ## Updates of one entry -/

/-- A statement that does not speak of the places of threads. -/
def FreeOfPlaces (Φ : Books) : Prop := ∀ k n p q, Φ k n p → Φ k n q

/-- A statement that also the loader keeps: as it loads a kernel, as a kernel is released, and as a context's kernels go with it. -/
structure KeptByLoader (Φ : Books) : Prop where
  places : FreeOfPlaces Φ
  loads : ∀ k n p x, Φ k n p → Φ (k ++ [(n, x)]) (n + 1) p
  releases : ∀ k n p a x, Φ k n p → look k a = some x → Φ (put k a { x with released := true }) n p
  forgets : ∀ k n p c, Φ k n p → Φ (k.filter (fun e => e.2.ctx != c)) n p

section Entries
variable {Φ : Books} {s : State} (h : Filed Φ s)
include h

theorem Filed.modCtx {c : Nat} {f : Ctx → Ctx} : Filed Φ (s.modCtx c f) := by
  unfold State.modCtx
  split <;> exact h

theorem Filed.modIssCtx {f : Ctx → Ctx} : Filed Φ (s.modIssCtx f) := h.modCtx

/-- A change of threads leaves their places alone. -/
theorem Filed.modThread {p : Place} {f : Thread → Thread} : Filed Φ (s.modThread p f) := by
  unfold State.modThread
  split
  · exact h
  · next t ht => rwa [Filed, keys_put (by rw [ht]; rfl)]

theorem Filed.modLane {l : Nat} {f : Thread → Thread} : Filed Φ (s.modLane l f) := h.modThread

theorem Filed.modLanes {ls : List Nat} {f : Thread → Thread} : Filed Φ (s.modLanes ls f) := h.foldl fun _ _ h => h.modLane

theorem Filed.modCore {c v : Nat} {f : Core → Core} : Filed Φ (s.modCore c v f) := h

theorem Filed.modIssCore {f : Core → Core} : Filed Φ (s.modIssCore f) := h

theorem Filed.modLine {c v l : Nat} {f : Line → Line} : Filed Φ (s.modLine c v l f) := h

theorem Filed.modIssLine {f : Line → Line} : Filed Φ (s.modIssLine f) := h

theorem Filed.modSquare {q : Nat} {f : Square → Square} : Filed Φ (s.modSquare q f) := h

theorem Filed.modDie {d : Nat} {f : Die → Die} : Filed Φ (s.modDie d f) := h

theorem Filed.withThreads {l : Tbl Place Thread} (hΦ : FreeOfPlaces Φ) : Filed Φ { s with threads := l } := hΦ _ _ _ _ h

theorem Filed.dropLine {k : LineKey} : Filed Φ { s with lines := del s.lines k } := h

theorem Filed.withMem {m : Memory} {u d : List Nat} : Filed Φ { s with mem := m, uncorr := u, dramSyms := d } := h

theorem Filed.withSquares {q : Tbl Nat Square} : Filed Φ { s with squares := q } := h

theorem Filed.withBadChip {b : List ChipAt} : Filed Φ { s with badChip := b } := h

theorem Filed.withHeld {w : List WbHeld} : Filed Φ { s with wbHeld := w } := h

theorem Filed.withLaunches {l : Tbl Nat Launch} : Filed Φ { s with launches := l } := h

/-- The hub of a state for which the same statements hold takes the place of its own. -/
theorem Filed.withHubOf {t : State} (hu : ∀ Ψ : Books, Filed Ψ s → Filed Ψ t) : Filed Φ { s with aux := t.aux, hub := t.hub } := by
  have hn : t.hub.nextKhnd = s.hub.nextKhnd := hu (fun _ n _ => n = s.hub.nextKhnd) rfl
  show Φ s.kernels t.hub.nextKhnd _
  rw [hn]
  exact h

theorem Filed.withIssue {i : Issue} : Filed Φ { s with issue := i } := h

end Entries

end Sys2Proof.Proofs
end

section
/-!
PROOF. O48, O52: issues, their operands and their results leave what is on file alone.
-/
namespace Sys2Proof.Proofs
open Sys2Proof Sys2Proof.Machine Sys2Proof.Claim Sys2Proof.Laws
set_option Elab.async false

variable {Φ : Books} {s s0 : State}

/-! ### Frames of the state, traps and the finish of an issue -/

theorem Filed.bump (h : Filed Φ s) : Filed Φ s.bump := h

theorem Filed.post {i : Instr} (h : Filed Φ s) : Filed Φ (s.post i) := h

theorem Filed.send {f : Frame} (h : Filed Φ s) : Filed Φ (s.send f) := h

theorem Filed.catchFlits {c v n : Nat} (h : Filed Φ s) : Filed Φ (s.catchFlits c v n) := by
  unfold State.catchFlits
  split
  · exact h.modCore
  · exact h

theorem Filed.countIssue (h : Filed Φ s) : Filed Φ s.countIssue := .ite h (.withIssue h.modIssCore)

theorem Filed.moveTo {sb : Bool} {lanes : List Nat} {next : Nat → Thread → Pos × Bool} (h : Filed Φ s) : Filed Φ (s.moveTo sb lanes next) :=
  .bump (.foldl h fun _ _ h => h.modLane)

theorem Filed.popFor {lanes : List Nat} (h : Filed Φ s) : Filed Φ (s.popFor lanes) := by
  unfold State.popFor
  split
  · exact h
  · exact .foldl h fun _ _ h => h.modIssLine

theorem Filed.finishTo {sb : Bool} {lanes : List Nat} {next : Nat → Thread → Pos × Bool} (h : Filed Φ s) : Filed Φ (s.finishTo sb lanes next) :=
  .moveTo (.ite h h.popFor.countIssue)

theorem Filed.finish {sb : Bool} {lanes : List Nat} (h : Filed Φ s) : Filed Φ (s.finish sb lanes) := h.finishTo

theorem Filed.stall (h : Filed Φ s) : Filed Φ s.stall := h.modLanes

theorem Filed.parkHere {lanes : List Nat} (h : Filed Φ s) : Filed Φ (s.parkHere lanes) := h.modLanes.bump

theorem Filed.parkHeld {lanes : List Nat} (h : Filed Φ s) : Filed Φ (s.parkHeld lanes) :=
  .bump (h.modLanes)

theorem Filed.stallChan (h : Filed Φ s) : Filed Φ s.stallChan := h.modLanes

theorem Filed.queueRecord {c : Nat} {r : BitVec 256} (h : Filed Φ s) : Filed Φ (s.queueRecord c r) := h.modCtx.post

theorem Filed.logError {kind action ctx loc addr : Nat} (h : Filed Φ s) : Filed Φ (s.logError kind action ctx loc addr) := h

theorem Filed.count {k n : Nat} (h : Filed Φ s) : Filed Φ (s.count k n) := h

theorem Filed.reportError {kind action ctx loc addr : Nat} (h : Filed Φ s) : Filed Φ (s.reportError kind action ctx loc addr) := h.logError.count

theorem Filed.takeTrap {p : LineKey} {lanes : List Nat} {pos : Pos} {t : Trap} (h : Filed Φ s) : Filed Φ (s.takeTrap p lanes pos t) := by
  unfold State.takeTrap
  dsimp only
  refine .ite h ?_
  refine .queueRecord ?_
  refine .foldl ?_ fun _ _ h => h.modThread
  have hlog : Filed Φ (match t.log with
    | some (kind, loc, addr) => s.reportError kind 1 p.ctx loc addr
    | none => s) := by
    split
    · exact h.reportError
    · exact h
  exact .ite hlog.countIssue hlog

theorem Filed.takeTraps {p : LineKey} {pos : Pos} {ts : List (Nat × Trap)} (h : Filed Φ s) : Filed Φ (s.takeTraps p pos ts) :=
  .foldl h fun _ _ h => h.takeTrap

theorem Filed.trapIssue {ts : List (Nat × Trap)} (h : Filed Φ s) : Filed Φ (s.trapIssue ts) := h.takeTraps

theorem Filed.trapAll {t : Trap} (h : Filed Φ s) : Filed Φ (s.trapAll t) := h.takeTrap

theorem Filed.clearTrap {p : Place} {retry : Bool} (h : Filed Φ s) : Filed Φ (s.clearTrap p retry) :=
  h.modThread

theorem Filed.residueCheck {ctx die action : Nat} {lanes : List Nat} (h : Filed Φ s) : Filed Φ (s.residueCheck ctx die action lanes).2 :=
  .pair (.foldl (.ite h (.count h)) fun _ _ h => h.logError)

theorem Filed.readStore {x : StoreAt} (h : Filed Φ s) : Filed Φ (s.readStore x).2 := .iteSnd h (.pair (.ite (.count h) h))

/-! ### Page entries and marks -/

theorem Filed.modVc {c n : Nat} {f : VCache → VCache} (h : Filed Φ s) : Filed Φ (s.modVc c n f) := h.modCtx

theorem Filed.markLeaf {c ia : Nat} {wr : Bool} (h : Filed Φ s) : Filed Φ (s.markLeaf c ia wr) := by
  unfold State.markLeaf
  split
  · exact h
  · split
    · exact h
    · exact h.modCtx

/-! ### Operands: reading, delivering, residue checks -/

theorem Filed.unreserve {ps : List Push} (h : Filed Φ s) : Filed Φ (s.unreserve ps) :=
  .foldl h fun _ _ h => h.modLine

theorem Filed.reserve {c v line k m : Nat} (h : Filed Φ s) : Filed Φ (s.reserve c v line k m).1 := by
  unfold State.reserve
  split
  · exact h
  · exact .pairFst (.bump (h.modLine))

theorem Filed.markArea {c launch p : Nat} {wr : Bool} (h : Filed Φ s) : Filed Φ (s.markArea c launch p wr) := by
  unfold State.markArea
  split
  · exact h
  · refine .ite h ?_
    split
    · exact .ite h.markLeaf.modCtx h.markLeaf
    · exact h

theorem Filed.parkRetry {lanes : List Nat} (h : Filed Φ s) : Filed Φ (s.parkRetry lanes) := h.modLanes.bump

theorem Filed.noteBacking {hit : List (Nat × PFault × Nat × Bool)} (h : Filed Φ s) : Filed Φ (s.noteBacking hit) := by
  unfold State.noteBacking
  refine .foldl h fun _ _ h => ?_
  split
  · exact h.post
  · exact h

theorem Filed.parkCold {ops : List OpSpec} {lanes : List Nat} (h : Filed Φ s) : Filed Φ (s.parkCold ops lanes).1 :=
  .iteFst h <| .pairFst <| .ite (.modLanes (.foldl h.noteBacking fun _ _ h => .foldl h fun _ _ h => h.markArea))
    (.parkRetry (.modLanes (.foldl h.noteBacking fun _ _ h => .foldl h fun _ _ h => h.markArea)))

theorem Filed.spillReg {p : Place} {r place : Nat} (h : Filed Φ s) : Filed Φ (s.spillReg p r place) := by
  unfold State.spillReg
  split
  · exact h
  · split
    · exact h
    · exact .ite h h.modThread.markArea

theorem Filed.correctRegs {ops : List OpSpec} {lanes : List Nat} (h : Filed Φ s) : Filed Φ (s.correctRegs ops lanes) :=
  .foldl h fun _ _ h => .ite h h.modLane.count

theorem Filed.prepare {privileged : Bool} {ops : List OpSpec} (h : Filed Φ s) : FiledPrep Φ (s.prepare privileged ops) := by
  unfold State.prepare
  dsimp only
  split
  · exact h.trapIssue
  · split
    · exact h.trapIssue.takeTrap
    · split
      · exact h.trapIssue.correctRegs.parkCold
      · split
        · exact h.trapIssue.correctRegs.parkCold.takeTrap
        · exact h.trapIssue.correctRegs.parkCold.stallChan
        · exact h.trapIssue.correctRegs.parkCold.stall
        · split
          · exact h.trapIssue.correctRegs.parkCold.stall
          · split
            · exact h.trapIssue.correctRegs.parkCold
            · exact h.trapIssue.correctRegs.parkCold

theorem Filed.replyTo {lanes : List Nat} {o : OpSpec} (h : Filed Φ s) : Filed Φ (s.replyTo lanes o).1 := by
  unfold State.replyTo
  dsimp only
  split
  · exact h
  · exact h
  · exact h
  · exact h.reserve.pairFst

theorem Filed.applyResult {r : Result} (h : Filed Φ s) : Filed Φ (s.applyResult r) := by
  have hregs : Filed Φ (r.regs.foldl (fun s e => s.modThread ⟨r.ctx, r.vc, r.line, e.1⟩ (fun t => t.setReg e.2.1 e.2.2)) s) :=
    .foldl h fun _ _ h => h.modThread
  exact .foldl (.foldl (.ite hregs (hregs.modLine)) fun _ _ h => h.modThread) fun _ _ h => h.post

theorem Filed.deliver {long : Bool} {lanes : List Nat} {o : OpSpec} {vals : List (Nat × List Word × Flags)}
    (h : Filed Φ s) : Filed Φ (s.deliver long lanes o vals) :=
  .ite h (.ite h.replyTo.post h.replyTo.applyResult)

theorem Filed.compute {sb long checked : Bool} {ops : List OpSpec} {f : List (List Word) → List Word × Flags}
    (h : Filed Φ s) : FiledNext Φ (s.compute sb long checked ops f) := by
  unfold State.compute
  dsimp only
  split
  · next heq => exact h.prepare.halt heq
  · next heq =>
      have h1 := h.prepare.go heq
      split
      · exact Filed.finish (.deliver (.trapIssue (.iteSnd h1.residueCheck h1)))
      · exact Filed.finish (.trapIssue (.iteSnd h1.residueCheck h1))

end Sys2Proof.Proofs
end

section
/-!
PROOF. O48, O52: special registers, sessions, and accesses to the levels of memory leave what is on file alone.
-/
namespace Sys2Proof.Proofs
open Sys2Proof Sys2Proof.Machine Sys2Proof.Claim Sys2Proof.Laws
set_option Elab.async false

variable {Φ : Books} {s s0 : State}

/-! ### Special registers -/

theorem Filed.wakeYielded {c v : Nat} (h : Filed Φ s) : Filed Φ (s.wakeYielded c v) :=
  .foldl (.foldl h fun _ _ h => h.modLine) fun _ _ h => h.modThread

theorem Filed.setPreq {c : Nat} {on : Bool} (h : Filed Φ s) : Filed Φ (s.setPreq c on) :=
  .ite h.modCtx (.ite h.modCtx.modCtx.post (.ite (.post (.foldl h.modCtx fun _ _ h => h.wakeYielded)) (.foldl h.modCtx fun _ _ h => h.wakeYielded)))

theorem Filed.writeSreg {n l : Nat} {w : Word} (h : Filed Φ s) : Filed Φ (s.writeSreg n l w) := by
  unfold State.writeSreg
  dsimp only
  split
  · exact h.modLane
  · exact h.modIssCtx
  · split
    · exact h.setPreq
    · exact h
  · split
    · exact h.modCtx
    · exact h
  · split
    · exact h.modCtx
    · exact h
  · split
    · exact h.modCtx
    · exact h
  · refine .ite ?_ h
    split
    · exact h.modCtx
    · exact h
  · split
    · exact h.modCtx
    · exact h
  · exact h

theorem Filed.readSpecial {sw priv : Bool} {d : Fld} {f : State → Nat → Word} (h : Filed Φ s) : FiledNext Φ (s.readSpecial sw priv d f) := by
  unfold State.readSpecial
  split
  · next heq => exact h.prepare.halt heq
  · next heq => exact (h.prepare.go heq).deliver.finish

theorem Filed.writeSpecial {sw : Bool} {a : Fld} {n : Nat} (h : Filed Φ s) : FiledNext Φ (s.writeSpecial sw a n) := by
  unfold State.writeSpecial
  split
  · next heq => exact h.prepare.halt heq
  · next heq => exact Filed.finish (.foldl (h.prepare.go heq) fun _ _ h => h.writeSreg)

/-! ### Frames and sessions -/

theorem Filed.modSess {n : Nat} {f : Session → Session} (h : Filed Φ s) : Filed Φ (s.modSess n f) := by
  unfold State.modSess
  split
  · exact h
  · exact h

theorem Filed.emit {sess n : Nat} {f : Frame} (h : Filed Φ s) : Filed Φ (s.emit sess n f) := by
  unfold State.emit
  split
  · exact h
  · exact h

theorem Filed.toPort {sess n : Nat} {f : Frame} (h : Filed Φ s) : Filed Φ (s.toPort sess n f) := .ite h h.emit

theorem Filed.sendSess {n : Nat} {f : Frame} (h : Filed Φ s) : Filed Φ (s.sendSess n f) := by
  unfold State.sendSess
  split
  · exact h
  · exact .ite h.modSess.toPort h.modSess

theorem Filed.acknowledge {sess seq : Nat} (h : Filed Φ s) : Filed Φ (s.acknowledge sess seq) := h.modSess.toPort

theorem Filed.payOwed {sess : Nat} {owed : List (Nat × Nat)} (h : Filed Φ s) : Filed Φ (s.payOwed sess owed) := by
  induction owed generalizing s with
  | nil => exact h
  | cons e r ih =>
    unfold State.payOwed
    split
    · exact .ite (ih h.modSess.acknowledge) h
    · exact h

theorem Filed.ackUpTo {sess ack : Nat} (h : Filed Φ s) : Filed Φ (s.ackUpTo sess ack) := by
  unfold State.ackUpTo
  dsimp only
  split
  · exact h
  · refine .ite h ?_
    refine .payOwed ?_
    refine .foldl (.foldl h.modSess fun _ _ h => h.toPort) fun _ _ h => ?_
    split
    · exact h
    · exact h

theorem Filed.arrived {h' : Hdr} {ty : Nat} (h : Filed Φ s) : Filed Φ (s.arrived h' ty).2 := by
  unfold State.arrived
  refine .iteSnd h ?_
  split
  · exact h
  · exact .iteSnd (.pair h) (.iteSnd h h)

theorem Filed.frame {h' : Hdr} {ty : Nat} (h : Filed Φ s) : FiledOpt Φ (s.takeFrame h' ty).1 := by
  unfold State.takeFrame
  split
  · trivial
  · next heq =>
      have h := Filed.snd heq h.arrived
      split
      · trivial
      · show Filed Φ (if h'.ack = 0 then _ else _)
        split
        · exact h.modSess
        · exact h.modSess.ackUpTo

theorem Filed.takeFrame {h' : Hdr} {ty : Nat} (h : Filed Φ s) : Filed Φ (s.takeFrame h' ty).2 := by
  unfold State.takeFrame
  split
  · next heq => exact Filed.snd heq h.arrived
  · next heq =>
      have h := Filed.snd heq h.arrived
      split
      · exact h
      · exact h.modSess

theorem Filed.tookEffect {h' : Hdr} {need : Nat} (h : Filed Φ s) : Filed Φ (s.tookEffect h' need) := by
  unfold State.tookEffect
  split
  · exact h
  · exact .ite h.acknowledge h.modSess

theorem Filed.refused (h : Filed Φ s) : Filed Φ (refused s).2.2 := h

theorem Filed.noObject (h : Filed Φ s) : Filed Φ (noObject s).2.2 := h

theorem Filed.done (h : Filed Φ s) : Filed Φ (done s).2.2 := h

/-- A management operation keeps what its effect keeps. -/
theorem Filed.mgmt {h' : Hdr} {code : Nat} {f : MgOp} (h : Filed Φ s) (hf : ∀ t, Filed Φ t → Filed Φ (f t).2.2) : FiledNext Φ (s.mgmt h' code f) := by
  unfold State.mgmt
  split
  · next heq => exact Filed.snd heq h.takeFrame
  · next heq => exact (hf _ (h.frame.get (congrArg Prod.fst heq))).sendSess.tookEffect

theorem Filed.execLctAck {h' : Hdr} {ack : Nat} (h : Filed Φ s) : FiledNext Φ (execLctAck h' ack s) := by
  unfold Machine.execLctAck
  split
  · next heq => exact Filed.snd heq h.arrived
  · next heq => exact (Filed.snd heq h.arrived).ackUpTo

theorem Filed.execLctRetransmitTimeout {sess : Nat} (h : Filed Φ s) : FiledNext Φ (execLctRetransmitTimeout sess s) := by
  unfold Machine.execLctRetransmitTimeout
  split
  · exact h
  · exact Filed.ite (Filed.foldl h fun _ _ h => h.toPort) h

theorem Filed.execTrapRecordEnqueue {ctx : Nat} (h : Filed Φ s) : FiledNext Φ (execTrapRecordEnqueue ctx s) := by
  unfold Machine.execTrapRecordEnqueue
  split
  · exact h
  · split
    · exact h
    · exact Filed.iteNext h.post h.modCtx.sendSess

/-! ### Accesses to L1, L2 and the homes of bytes -/

theorem Filed.correctDram {c pa : Nat} (h : Filed Φ s) : Filed Φ (s.correctDram c pa) := .foldl h fun _ _ h => h.count.logError

theorem Filed.touchL2 {c vcn pa : Nat} {wr : List Nat} {nt : Bool} (h : Filed Φ s) : FiledOpt Φ (s.touchL2 c vcn pa wr nt) :=
  FiledOpt.map fun _ => h.modVc

theorem Filed.taint {c : Nat} {spans : List (Nat × Nat)} (h : Filed Φ s) : Filed Φ (s.taint c spans) := .ite h h.modCtx

theorem Filed.clearBad {x : ChipAt} {n : Nat} (h : Filed Φ s) : Filed Φ (s.clearBad x n) := .ite h h

theorem Filed.correctSym {y : SymAt} (h : Filed Φ s) : Filed Φ (s.correctSym y) := .ite (.post h) h

theorem Filed.noteRead {xs : List ChipAt} (h : Filed Φ s) : Filed Φ (s.noteRead xs) := .ite h (.foldl h fun _ _ h => .foldl h fun _ _ h => h.correctSym)

theorem Filed.noteReads {x : ChipAt} {n : Nat} (h : Filed Φ s) : Filed Φ (s.noteReads x n) := .ite h h.noteRead

theorem Filed.chipPut {c v : Nat} {lvl : Lvl} {a : Nat} {bs : List Byte} (h : Filed Φ s) : Filed Φ (s.chipPut c v lvl a bs) := by
  unfold State.chipPut
  dsimp only
  split
  · exact h.clearBad.modCore
  · exact h.clearBad.modSquare
  · exact h.clearBad.modDie
  · exact h.clearBad

theorem Filed.observe {t : State} {c v : Nat} {who : Who} {lvl : Lvl} {spans : List (Nat × Nat)} {rd wr : Bool} (h : Filed Φ t) :
    Filed Φ (t.observe s c v who lvl spans rd wr) :=
  .foldl h fun _ _ h => h.post

theorem Filed.reportBad {c ia : Nat} (h : Filed Φ s) : Filed Φ (s.reportBad c ia) := h.reportError

theorem Filed.writeTarget {c : Nat} {ranges : Tbl Nat (BitVec 256)} {tgt k : Nat} {cells : Memory}
    (h : Filed Φ s) : FiledOk Φ (s.writeTarget c ranges tgt k cells) := by
  unfold State.writeTarget
  refine Filed.foldlOk h fun _ _ h => ?_
  split
  · exact trivial
  · exact Filed.iteOk trivial (Filed.inOk (Filed.observe (.modCtx (.taint (.markLeaf (.withMem h))))))

theorem Filed.copyOut {c : Nat} {j : Job} {jn : Nat} {r : BitVec 512} {all : List (Nat × Nat)} {g : Nat} {cells : Memory}
    (h : Filed Φ s) : FiledOk Φ (s.copyOut c j jn r all g cells) :=
  Filed.iteOk (Filed.iteOk h.markLeaf.observe.inOk h.markLeaf.observe.writeTarget) h.markLeaf.observe.sendSess.sendSess.inOk

theorem Filed.modJob {c n : Nat} {f : Job → Job} (h : Filed Φ s) : Filed Φ (s.modJob c n f) := h.modCtx

theorem Filed.cowOne {c g : Nat} (h : Filed Φ s) : FiledOpt Φ (s.cowOne c g) := by
  unfold State.cowOne
  split
  · exact h
  · split
    · refine Filed.iteOpt h ?_
      split
      · exact h
      · refine Filed.iteOpt h.reportBad.modJob.inSome ?_
        split
        · next heq => exact (h.copyOut.get heq).modJob.inSome
        · exact trivial
    · exact h

theorem Filed.cowStep {c g : Nat} (h : Filed Φ s) : FiledOpt Φ (s.cowStep c g) := by
  unfold State.cowStep
  split
  · exact Filed.foldlOpt h fun _ _ h => h.cowOne
  · exact h

theorem Filed.cowCopy {c g : Nat} (h : Filed Φ s) : Filed Φ (s.cowCopy c g) := (FiledOpt.getD h.cowStep h)

theorem Filed.putBytes {c : Nat} {l : List (Nat × Byte)} (h : Filed Φ s) : Filed Φ (s.putBytes c l) := by
  unfold State.putBytes
  dsimp only
  refine .modCtx ?_
  refine .foldl ?_ fun _ _ h => .withMem h
  refine .foldl (.foldl h fun _ _ h => h.cowCopy) fun _ _ h => ?_
  split
  · exact (FiledOpt.getD h.markLeaf.touchL2 h.markLeaf)
  · exact h

theorem Filed.performHalf {h' : HalfAtom} (h : Filed Φ s) : Filed Φ (s.performHalf h') := by
  unfold State.performHalf
  dsimp only
  split
  · exact h.putBytes.taint.observe
  · exact h.chipPut.observe

theorem Filed.settleHalves {pick : HalfAtom → Bool} (h : Filed Φ s) : Filed Φ (s.settleHalves pick) := .ite h (.foldl h fun _ _ h => h.performHalf)

theorem Filed.putIa {c : Nat} {l : List (Nat × Byte)} (h : Filed Φ s) : Filed Φ (s.putIa c l) := h.settleHalves.putBytes

theorem Filed.writeIa {c : Nat} {l : List (Nat × Byte)} (h : Filed Φ s) : Filed Φ (s.writeIa c l) := h.putIa.taint

theorem Filed.chipWrite {c v : Nat} {lvl : Lvl} {a : Nat} {bs : List Byte} (h : Filed Φ s) : Filed Φ (s.chipWrite c v lvl a bs) :=
  .chipPut (.ite h.settleHalves h)

theorem Filed.openPage {c ia : Nat} {rd wr nt : Bool} (h : Filed Φ s) : FiledOk Φ (s.openPage c ia rd wr nt) := by
  unfold State.openPage
  dsimp only
  split
  · exact trivial
  · refine Filed.iteOk h ?_
    split
    · exact trivial
    · next heq =>
        have h1 := h.touchL2.get heq
        split
        · exact trivial
        · next heq => exact FiledOpt.get heq (Filed.iteOpt (Filed.cowStep (.markLeaf (.ite h1.correctDram h)))
            (Filed.inSome (.markLeaf (.ite h1.correctDram h))))

theorem Filed.openPages {c : Nat} {ias : List Nat} {rd wr nt : Bool} (h : Filed Φ s) : FiledOk Φ (s.openPages c ias rd wr nt) :=
  Filed.foldlOk h fun _ _ h => h.openPage

theorem Filed.writeStored {c v la : Nat} {bytes : List (Nat × Byte)} {stores : Tbl Nat Machine.Writer}
    (h : Filed Φ s) : Filed Φ (s.writeStored c v la bytes stores) :=
  .foldl h.writeIa fun _ _ h => h.observe

theorem Filed.flushHeld {pick : WbHeld → Bool} (h : Filed Φ s) : Filed Φ (s.flushHeld pick) := by
  unfold State.flushHeld
  dsimp only
  refine .ite h ?_
  refine .foldl h fun _ _ h => ?_
  split
  · next heq => exact (h.openPage.get heq).writeStored
  · exact h

theorem Filed.flushOwn {c v : Nat} {las : List Nat} (h : Filed Φ s) : Filed Φ (s.flushOwn c v las) := h.flushHeld

theorem Filed.l1Remove {c v : Nat} {p : L1Line → Bool} (h : Filed Φ s) : Filed Φ (s.l1Remove c v p) := h.modCore

theorem Filed.l1Touch {c v la : Nat} (h : Filed Φ s) : Filed Φ (s.l1Touch c v la) := h.modCore

theorem Filed.writeBack {c v la : Nat} (h : Filed Φ s) : Filed Φ (s.writeBack c v la) := by
  unfold State.writeBack
  dsimp only
  split
  · exact h
  · split
    · exact .foldl h fun _ _ h => h.reportError
    · split
      · next heq => exact (FiledOk.get heq (Filed.openPage (.flushOwn (.foldl h fun _ _ h => h.reportError)))).writeStored.modCore
      · exact .ite (.withHeld (.l1Remove (.flushOwn (.foldl h fun _ _ h => h.reportError))))
          (.post (.withHeld (.l1Remove (.flushOwn (.foldl h fun _ _ h => h.reportError)))))

theorem Filed.writeBackAll {c v : Nat} {cls : Nat → Bool} (h : Filed Φ s) : Filed Φ (s.writeBackAll c v cls) := .foldl h fun _ _ h => h.writeBack

theorem Filed.l1Insert {c v : Nat} {x : L1Line} (h : Filed Φ s) : Filed Φ (s.l1Insert c v x) := by
  unfold State.l1Insert
  dsimp only
  refine .l1Touch ?_
  refine .modCore ?_
  split
  · exact h.writeBack.l1Remove
  · exact h

theorem Filed.l1Drop {c v la : Nat} (h : Filed Φ s) : Filed Φ (s.l1Drop c v la) := h.writeBack.l1Remove

theorem Filed.dropAliases {c v : Nat} {las : List Nat} (h : Filed Φ s) : Filed Φ (s.dropAliases c v las) := .foldl h fun _ _ h => h.l1Drop

theorem Filed.ownFirst {c v : Nat} {ias : List Nat} (h : Filed Φ s) : Filed Φ (s.ownFirst c v ias) := .dropAliases (.flushOwn (.ite h h.settleHalves))

theorem Filed.l1Fill {c v la cls : Nat} (h : Filed Φ s) : Filed Φ (s.l1Fill c v la cls) := h.l1Insert

theorem Filed.bumpEpoch {c v k : Nat} (h : Filed Φ s) : Filed Φ (s.bumpEpoch c v k) := .ite h.writeBackAll.l1Remove.modCore h.modCore

theorem Filed.acquire {c v cset point : Nat} (h : Filed Φ s) : Filed Φ (s.acquire c v cset point) :=
  .ite h (.ite (.modCore (.foldl h fun _ _ h => h.bumpEpoch)) (.foldl h fun _ _ h => h.bumpEpoch))

theorem Filed.release {c v cset point : Nat} (h : Filed Φ s) : Filed Φ (s.release c v cset point) :=
  .ite h.settleHalves (.ite (.foldl h.settleHalves.writeBackAll fun _ _ h => h.writeBack) h.settleHalves.writeBackAll)

theorem Filed.preSweep {c v cset point : Nat} (h : Filed Φ s) : Filed Φ (s.preSweep c v cset point) := .ite h h.writeBackAll

theorem Filed.loadL1 {c v : Nat} {ias : List Nat} {nt : Bool} (h : Filed Φ s) : FiledVal Φ (s.loadL1 c v ias nt) := by
  unfold State.loadL1
  dsimp only
  split
  · exact trivial
  · next heq =>
      have h1 := FiledOk.get heq <| by
          refine Filed.foldlOk h fun _ _ h => ?_
          split
          · exact trivial
          · refine Filed.iteOk h.l1Touch.inOk ?_
            split
            · exact trivial
            · split
              · exact trivial
              · next heq =>
                  have h1 := h.ownFirst.openPage.get heq
                  split
                  · exact trivial
                  · exact Filed.inOk (.ite h1 h1.l1Fill)
      exact h1

theorem Filed.loadHome {c v : Nat} {ias : List Nat} {nt : Bool} (h : Filed Φ s) : FiledVal Φ (s.loadHome c v ias nt) := by
  unfold State.loadHome
  dsimp only
  split
  · exact trivial
  · next heq =>
      have h1 := FiledOk.get heq (Filed.openPages (.foldl h.ownFirst fun _ _ h => h.l1Drop))
      split
      · exact trivial
      · exact h1

theorem Filed.storeHome {c v : Nat} {who : Who} {l : List (Nat × Byte)} (h : Filed Φ s) : FiledOk Φ (s.storeHome c v who l) := by
  unfold State.storeHome
  dsimp only
  split
  · exact trivial
  · next heq => exact (FiledOk.get heq (Filed.openPages (.foldl h.ownFirst fun _ _ h => h.l1Drop))).writeIa.observe.inOk

theorem Filed.storeL1 {c v : Nat} {who : Who} {l : List (Nat × Byte)} (h : Filed Φ s) : Filed Φ (s.storeL1 c v who l) :=
  .foldl (.dropAliases (.ite h h)) fun _ _ h => h.l1Insert

theorem Filed.flushSo {c v : Nat} (h : Filed Φ s) : Filed Φ (s.flushSo c v) := by
  unfold State.flushSo
  dsimp only
  refine .ite h ?_
  refine .foldlSnd (.pair h) fun _ _ h => ?_
  refine .iteSnd (.pair h) ?_
  refine .iteSnd (.pair h.release) ?_
  split
  · exact .pair h.release
  · next heq => exact (h.release.l1Drop.openPage.get heq).writeStored.acquire.pair

end Sys2Proof.Proofs
end

section
/-!
PROOF. O48, O52: the quarter engines, groups, and the saltern leave what is on file alone.
-/
namespace Sys2Proof.Proofs
open Sys2Proof Sys2Proof.Machine Sys2Proof.Claim Sys2Proof.Laws
set_option Elab.async false

variable {Φ : Books} {s s0 : State}

/-! ### Quarter engines and drain sequencers -/

theorem Filed.modDrain {c v line q : Nat} {f : DrainSeq → DrainSeq} (h : Filed Φ s) : Filed Φ (s.modDrain c v line q f) :=
  h.modLine

theorem Filed.dropDrain {c v line q : Nat} (h : Filed Φ s) : Filed Φ (s.dropDrain c v line q) := h.modLine

theorem Filed.holdDrain {c v line q : Nat} {d : DrainSeq} {fault : Option Nat} (h : Filed Φ s) : Filed Φ (s.holdDrain c v line q d fault) :=
  .foldl h.modDrain fun _ _ h => h.modThread

theorem Filed.setQueue {c v q : Nat} {l : List Pass} (h : Filed Φ s) : Filed Φ (s.setQueue c v q l) := h.modCore

theorem Filed.runPass {c v q : Nat} {p : Pass} (h : Filed Φ s) : Filed Φ (s.runPass c v q p) := by
  unfold State.runPass
  dsimp only
  refine .ite h.modCore.readStore.unreserve.takeTrap ?_
  split
  · split
    · exact .ite h.modCore.readStore.reportError h.modCore.readStore.takeTrap
    · exact h.modCore.readStore.observe.noteRead.modLine
  · exact h.modCore.readStore.modLine
  · exact h.modCore.readStore.post
  · exact .ite (.post (.modLine (.foldl h.modCore.readStore fun _ _ h => h.modThread)))
      (.holdDrain (.modLine (.foldl h.modCore.readStore fun _ _ h => h.modThread)))

theorem Filed.startPass {c v q : Nat} (h : Filed Φ s) : Filed Φ (s.startPass c v q) := by
  unfold State.startPass
  split
  · exact h
  · exact h.setQueue.runPass

theorem Filed.runNaming {c v q : Nat} {ns : List Nat} {fuel : Nat} (h : Filed Φ s) : Filed Φ (s.runNaming c v q ns fuel) := by
  induction fuel generalizing s with
  | zero => exact h
  | succ fuel ih => exact .ite (ih h.startPass) h

theorem Filed.releaseOprs {c : Nat} {owner : Nat × Nat} (h : Filed Φ s) : Filed Φ (s.releaseOprs c owner) :=
  .foldl h fun _ _ h => .ite h (.modCore (.foldl h fun _ _ h => h.runNaming))

/-! ### Groups and barriers -/

theorem Filed.modGroup {c v num : Nat} {f : Machine.Group → Machine.Group} (h : Filed Φ s) : Filed Φ (s.modGroup c v num f) :=
  h.modCore

theorem Filed.completePhase {c v num : Nat} (h : Filed Φ s) : Filed Φ (s.completePhase c v num) := by
  unfold State.completePhase
  split
  · exact h
  · refine .ite h (.ite (.foldl h fun _ _ h => h.preSweep) (.modGroup ?_))
    refine .foldl (.foldl (.foldl h fun _ _ h => h.preSweep) fun _ _ h => h.acquire) fun _ _ h => h.modThread

theorem Filed.completePhases {c : Nat} (h : Filed Φ s) : Filed Φ (s.completePhases c) := .foldl h fun _ _ h => h.completePhase

theorem Filed.arriveBar {c : Nat} {m : Member} (h : Filed Φ s) : Filed Φ (s.arriveBar c m) := by
  unfold State.arriveBar
  split
  · exact h
  · exact h.modThread.modGroup

theorem Filed.checkLaunch {uid : Nat} (h : Filed Φ s) : Filed Φ (s.checkLaunch uid) := by
  unfold State.checkLaunch
  split
  · exact h
  · exact .ite h.post h

theorem Filed.wakeUnits (h : Filed Φ s) : Filed Φ s.wakeUnits := .foldl h fun _ _ h => .ite h.post h

theorem Filed.dissolve {c v num : Nat} {g : Machine.Group} (h : Filed Φ s) : Filed Φ (s.dissolve c v num g) := by
  unfold State.dissolve
  dsimp only
  have h1 := h.settleHalves (pick := fun h => h.ctx == c && h.sq.isSome) |>.releaseOprs (c := c) (owner := (v, num))
  refine .wakeUnits ?_
  split
  · exact h1.modSquare.modCtx.modCore
  · refine .checkLaunch ?_
    split
    · exact h1.modSquare.modCtx.modCore
    · exact .withLaunches h1.modSquare.modCtx.modCore

theorem Filed.leaveGroup {c : Nat} {m : Member} (h : Filed Φ s) : Filed Φ (s.leaveGroup c m) := by
  unfold State.leaveGroup
  split
  · exact h
  · exact .ite h.modThread.modGroup.dissolve h.modThread.modGroup.completePhase

theorem Filed.makeGroup {c v : Nat} {sq : Bool} {alloc cap : Nat} {launch : Option Nat} {ms : List Member}
    (h : Filed Φ s) : Filed Φ (s.makeGroup c v sq alloc cap launch ms).2 := by
  unfold State.makeGroup
  split
  · exact h
  · split
    · exact h
    · exact .pair (.foldl (.iteThen (.modCore (.clearBad (.foldl h fun _ _ h => h.leaveGroup))) fun h => h.modSquare) fun _ _ h => h.modThread)

theorem Filed.endStep {c v code : Nat} (h : Filed Φ s) : Filed Φ (s.endStep c v code) := by
  unfold State.endStep
  split
  · exact h
  · exact .bump (.foldl h.modCore.modCtx.applyResult fun _ _ h => h.modThread)

theorem Filed.sendDrain {c v line : Nat} {d : DrainSeq} (h : Filed Φ s) : Filed Φ (s.sendDrain c v line d) := by
  unfold State.sendDrain
  dsimp only
  refine .foldl h fun _ _ h => ?_
  refine .ite h ?_
  refine .ite (.ite h.release h) ?_
  split
  · next heq =>
      have h1 := FiledOk.get heq (Filed.storeHome (.ite h.release h))
      exact .ite h1.acquire h1
  · exact .ite (.ite h.release h) (.post (.ite h.release h))
  · exact .ite h.release h

theorem Filed.releaseLine {c v line : Nat} (h : Filed Φ s) : Filed Φ (s.releaseLine c v line) :=
  .ite (.wakeUnits (.modCore (.dropLine (.foldl h fun _ _ h => h.sendDrain)))) h

theorem Filed.exitThread {p : Place} (h : Filed Φ s) (hΦ : FreeOfPlaces Φ) : Filed Φ (s.exitThread p) := by
  unfold State.exitThread
  dsimp only
  split
  · exact h
  · refine .checkLaunch ?_
    refine .releaseLine ?_
    split
    · exact h.leaveGroup.withThreads hΦ
    · exact h.leaveGroup.withThreads hΦ

theorem Filed.syncFirst {keep : Thread → Bool} (h : Filed Φ s) : FiledOpt Φ (s.syncFirst keep) := Filed.iteOpt h.moveTo.inSome trivial

theorem Filed.execGnew {sw : Bool} {d a : Fld} {m : Bool} (h : Filed Φ s) : FiledNext Φ (execGnew sw d a m s) := by
  unfold Machine.execGnew
  split
  · next heq => exact h.prepare.halt heq
  · next heq =>
      have h1 := h.prepare.go heq
      exact Filed.finish (.deliver (.iteSnd h1 h1.makeGroup))

theorem Filed.execJoin {sw : Bool} {a : Fld} (h : Filed Φ s) : FiledNext Φ (execJoin sw a s) := by
  unfold Machine.execJoin
  dsimp only
  split
  · next heq => exact h.prepare.halt heq
  · next heq =>
      have h1 := h.prepare.go heq
      split
      · exact h1.takeTrap
      · refine Filed.iteNext h1.takeTrap (Filed.iteNext h1.takeTrap (.finish ?_))
        exact .foldl (.modGroup (.foldl h1 fun _ _ h => h.leaveGroup)) fun _ _ h => h.modThread

theorem Filed.execBar {sw : Bool} (h : Filed Φ s) : FiledNext Φ (execBar sw s) := by
  unfold Machine.execBar
  split
  · next heq => exact h.syncFirst.get heq
  · refine Filed.iteNext (.stall (.ite h h.release)) (Filed.iteNext h.stall (Filed.iteNext h.stall (.ite (.endStep ?_) ?_))) <;>
      exact .foldl (.foldl (.finish (.finish (.modLanes (.ite h h.release)))) fun _ _ h => h.arriveBar) fun _ _ h => h.completePhase

/-! ### Partials, pans and slots -/

theorem Filed.modSlot {c n : Nat} {f : Slot → Slot} (h : Filed Φ s) : Filed Φ (s.modSlot c n f) := h.modCtx

theorem Filed.sendNews {c elem : Nat} {m : CollMsg} {fl : Flags} (h : Filed Φ s) : Filed Φ (s.sendNews c elem m fl) := by
  unfold State.sendNews
  split
  · exact h.send
  · exact h.post

theorem Filed.tellRanks {c group : Nat} {p : CollParms} {seq elem : Nat} {body : CollNews} {fl : Flags}
    (h : Filed Φ s) : Filed Φ (s.tellRanks c group p seq elem body fl) :=
  .foldl h fun _ _ h => .ite h h.sendNews

theorem Filed.saltCheck {ctx loc : Nat} {t : TreeParms} (h : Filed Φ s) : Filed Φ (s.saltCheck ctx loc t).2 := by
  unfold State.saltCheck
  refine .iteSnd ?_ h
  split
  · exact h
  · exact .pair (.ite (.logError (.ite h (.count h))) (.ite h (.count h)))

theorem Filed.meet {loc : Nat} {t : TreeParms} {p q : Partial} (h : Filed Φ s) : Filed Φ (s.meet loc t p q).2 := h.saltCheck.pair

theorem Filed.recordCode {c n code : Nat} (h : Filed Φ s) : Filed Φ (s.recordCode c n code) := h.modSlot

theorem Filed.failSlot {c n : Nat} {k : SlotCheck} (h : Filed Φ s) : Filed Φ (s.failSlot c n k) := .ite h h.modSlot.post

theorem Filed.failJobs {c : Nat} {pick : Job → Bool} {code : Nat} (h : Filed Φ s) : Filed Φ (s.failJobs c pick code) :=
  .foldl h fun _ _ h => h.modJob.post

theorem Filed.dropColl {c : Nat} {group : Option Nat} {cid : Nat} (h : Filed Φ s) : Filed Φ (s.dropColl c group cid) := h

theorem Filed.failColl {ctx : Nat} {key : CollKey} {code : Nat} (h : Filed Φ s) : Filed Φ (s.failColl ctx key code) := by
  unfold State.failColl
  dsimp only
  split
  · refine .tellRanks ?_
    refine .dropColl ?_
    split
    · exact h.failJobs
    · exact h
  · refine .dropColl ?_
    split
    · exact h.failJobs
    · exact h

theorem Filed.failAdd {p : Partial} (h : Filed Φ s) : Filed Φ (s.failAdd p) := by
  unfold State.failAdd
  split
  · exact h.failSlot
  · exact h.failColl

theorem Filed.failPan {i : PanId} {p : Partial} (h : Filed Φ s) : Filed Φ (s.failPan i p) := .failSlot (.reportError h)

theorem Filed.setPan {i : PanId} {l : List Partial} (h : Filed Φ s) : Filed Φ (s.setPan i l) := h

theorem Filed.raiseApex {c n phys : Nat} (h : Filed Φ s) : Filed Φ (s.raiseApex c n phys) :=
  .ite h (.foldl (.foldl h.setPan.modSlot fun _ _ h => .ite h.failPan h.post) fun _ _ h => .foldl h fun _ _ h => h.post)

theorem Filed.raiseApexes {c : Nat} (h : Filed Φ s) : Filed Φ (s.raiseApexes c) := .foldl h fun _ _ h => .foldl h fun _ _ h => h.raiseApex

theorem Filed.forward {at' : PanId} {p : Partial} (h : Filed Φ s) : Filed Φ (s.forward at' p) := by
  unfold State.forward
  split
  · exact h.post
  · exact h.send
  · exact h.setPan

theorem Filed.spill {site : PanId} {p : Partial} (h : Filed Φ s) : Filed Φ (s.spill site p) := by
  unfold State.spill
  dsimp only
  split
  · exact h.recordCode.modSlot
  · split
    · exact h.post
    · next heq => exact (h.openPages.get heq).putIa.observe.modSlot

theorem Filed.freeBrine {c n i : Nat} {spans : List (Nat × Nat)} (h : Filed Φ s) : FiledOpt Φ (s.freeBrine c n i spans) := by
  unfold State.freeBrine
  dsimp only
  split
  · exact trivial
  · next heq => exact (h.openPages.get heq).putIa.observe.modSlot.inSome

theorem Filed.collRoot {p : Partial} {key : CollKey} (h : Filed Φ s) : Filed Φ (s.collRoot p key) := by
  unfold State.collRoot
  dsimp only
  split
  · exact h
  · split
    · exact .tellRanks (.foldl h fun _ _ h => h.post)
    · exact .foldl h fun _ _ h => h.post

theorem Filed.passOn {i : PanId} {q : Partial} (h : Filed Φ s) : Filed Φ (s.passOn i q) := by
  unfold State.passOn
  split
  · exact h.spill
  · exact h.spill
  · exact h.forward

theorem Filed.evict {i : PanId} {q : Partial} (h : Filed Φ s) : Filed Φ (s.evict i q) := .ite h.setPan.failPan h.setPan.passOn

theorem Filed.hold {i : PanId} {p : Partial} (h : Filed Φ s) : Filed Φ (s.hold i p) := by
  unfold State.hold
  dsimp only
  refine .ite (.passOn (.foldl h fun _ _ h => h.evict)) ?_
  split
  · exact .setPan (.foldl h fun _ _ h => h.evict)
  · exact .setPan (.foldl h fun _ _ h => h.evict)
  · exact .post (.setPan (.foldl h fun _ _ h => h.evict))

theorem Filed.arrive {fuel : Nat} {i : PanId} {p : Partial} (h : Filed Φ s) : Filed Φ (s.arrive fuel i p) := by
  induction fuel generalizing s i p with
  | zero => exact h
  | succ fuel ih =>
    unfold State.arrive
    split
    · exact h
    · refine .ite h ?_
      split
      · exact h.failColl.failColl
      · split
        · exact .ite (.setPan h) (.recordCode (.setPan h))
        · dsimp only
          split
          · refine .ite h (.ite (.failPan (.setPan h)) ?_)
            split
            · next heq => exact ih (Filed.snd heq (.meet (.setPan h)))
            · next heq => exact (Filed.snd heq (.meet (.setPan h))).failAdd
          · refine .ite ?_ (.ite (ih h) (.ite h (.ite h.hold ?_)))
            · split
              · exact h.collRoot
              · exact h.forward
              · split
                · exact .recordCode (s := { s with roots := _ }) h
                · exact h
              · exact h.setPan
            · split
              · split
                · exact h.reportBad.failSlot
                · split
                  · exact h.post
                  · next heq =>
                    have h1 := h.freeBrine.get heq
                    split
                    · next heq => exact ih (Filed.snd heq h1.meet)
                    · next heq => exact (Filed.snd heq h1.meet).failAdd
              · exact h.observe.hold

theorem Filed.execPartialArrive {pan : PanId} {p : Partial} (h : Filed Φ s) : FiledNext Φ (execPartialArrive pan p s) := by
  unfold Machine.execPartialArrive
  dsimp only
  refine Filed.iteNext h.post ?_
  refine Filed.iteNext h ?_
  refine .arrive ?_
  split
  · exact h.raiseApex
  · exact h

theorem Filed.rehome {c : Nat} (h : Filed Φ s) : Filed Φ (s.rehome c) := by
  unfold State.rehome
  refine .foldl h fun _ _ h => ?_
  split
  · exact .ite h (.foldl (l := List.filter _ _) h fun _ _ h => h.hold)
  · exact h

theorem Filed.execCtbmLeafArrive {p : Partial} (h : Filed Φ s) : FiledNext Φ (execCtbmLeafArrive p s) := by
  unfold Machine.execCtbmLeafArrive
  dsimp only
  split
  · exact h.post
  · split
    · exact h.post
    · next heq => exact Filed.ite h.post (h.touchL2.get heq).rehome.arrive

theorem Filed.flushSite {c n : Nat} {i : PanId} (h : Filed Φ s) : Filed Φ (s.flushSite c n i) := .foldl h.setPan fun _ _ h => .ite h.failPan h.forward

theorem Filed.execCloseMarkerArrive {ctx slot : Nat} {site : PanId} (h : Filed Φ s) : FiledNext Φ (execCloseMarkerArrive ctx slot site s) := by
  unfold Machine.execCloseMarkerArrive
  dsimp only
  refine Filed.iteNext h ?_
  refine Filed.iteNext h.post ?_
  split
  · exact Filed.ite h.modSlot.post h.modSlot
  · exact Filed.ite h.modSlot.post h.modSlot
  · exact Filed.ite h.modSlot.post h.modSlot
  · exact h.flushSite.post

theorem Filed.flushAway {c n : Nat} (h : Filed Φ s) : Filed Φ (s.flushAway c n) := .foldl h fun _ _ h => .ite h.flushSite h

theorem Filed.resolveLevel {loc : Nat} {t : TreeParms} {value : Bool} {L fuel : Nat} {r : Resolved}
    (h : Filed Φ s) : Filed Φ (resolveLevel loc t value L fuel s r).2 := by
  induction fuel generalizing s r with
  | zero => exact h
  | succ fuel ih =>
    unfold Machine.resolveLevel
    split
    · exact h
    · dsimp only
      split
      · split
        · next heq => exact Filed.snd heq h.meet
        · next heq => exact ih (Filed.snd heq h.meet)
      · exact ih h

theorem Filed.resolveFrom {loc : Nat} {t : TreeParms} {value : Bool} {fuel L : Nat} {r : Resolved}
    (h : Filed Φ s) : Filed Φ (resolveFrom loc t value fuel L s r).2 := by
  induction fuel generalizing s L r with
  | zero => exact h
  | succ fuel ih => exact ih h.resolveLevel

theorem Filed.rootWrite {c loc : Nat} {t : TreeParms} {accm : Bool} {w : RootWrite} (h : Filed Φ s) :
    FiledEither Φ (s.rootWrite c loc t accm w) :=
  Filed.iteEither (Filed.iteEither h.settleHalves.saltCheck h.settleHalves.saltCheck.putIa.observe.pair) h.putIa.observe.pair

theorem Filed.rootWriteAll {c loc : Nat} {t : TreeParms} {accm : Bool} {ws : List RootWrite} {fl : Flags}
    (h : Filed Φ s) : FiledEither Φ (s.rootWriteAll c loc t accm ws fl) := by
  induction ws generalizing s fl with
  | nil => exact h
  | cons w r ih =>
    unfold State.rootWriteAll
    split
    · next heq => exact FiledEither.error heq h.rootWrite
    · next heq => exact ih (FiledEither.ok heq h.rootWrite)

theorem Filed.clearSlot {c n : Nat} (h : Filed Φ s) : Filed Φ (s.clearSlot c n) := h

theorem Filed.freeLive {c n : Nat} (h : Filed Φ s) : FiledOpt Φ (s.freeLive c n) := Filed.foldlOpt h fun _ _ h => h.freeBrine

theorem Filed.execSlotResolve {ctx slot : Nat} (h : Filed Φ s) : FiledNext Φ (execSlotResolve ctx slot s) := by
  unfold Machine.execSlotResolve
  dsimp only
  split
  · refine Filed.iteNext h ?_
    refine Filed.iteNext h.flushAway.post ?_
    refine Filed.iteNext h.post ?_
    split
    · exact h.reportBad.failSlot
    · split
      · exact h.failPan
      · refine Filed.iteNext h.resolveFrom.failSlot ?_
        split
        · exact h.post
        · exact h.post
        · next heq =>
            obtain ⟨s0, hfree, hopen⟩ := Option.map_eq_some_iff.mp heq
            have h1 := ((h.resolveFrom.freeLive).get hfree).openPages.get hopen
            split
            · next heq' =>
              exact Filed.failSlot (h.resolveFrom.withHubOf fun _ hr =>
                FiledEither.error heq' ((FiledOk.get hopen (FiledOpt.get hfree hr.freeLive).openPages).rootWriteAll))
            · next heq => exact (FiledEither.ok heq h1.rootWriteAll).clearSlot.modSlot.post
  · exact h

theorem Filed.freeSlot {c n : Nat} (h : Filed Φ s) : Filed Φ (s.freeSlot c n) := h.modSlot

theorem Filed.answerWait {c n : Nat} {r : ReplyTo} {pos : Pos} (h : Filed Φ s) : Filed Φ (s.answerWait c n r pos) := by
  unfold State.answerWait
  dsimp only
  split
  · split
    · exact h.freeSlot.takeTrap
    · exact h.freeSlot.takeTrap
    · exact .ite h.preSweep h.preSweep.freeSlot.acquire.post
  · exact h.post

theorem Filed.answerWaits {c n : Nat} (h : Filed Φ s) : Filed Φ (s.answerWaits c n) := .foldl h fun _ _ h => h.answerWait

theorem Filed.execSlotFinal {ctx slot : Nat} (h : Filed Φ s) : FiledNext Φ (execSlotFinal ctx slot s) := by
  unfold Machine.execSlotFinal
  dsimp only
  refine Filed.iteNext h.post ?_
  split
  · exact h.post
  · next heq => exact (h.freeLive.get heq).clearSlot.modSlot.answerWaits

theorem Filed.contribute {c v F : Nat} {a : DWord} {n : Nat} {val : DWord} (h : Filed Φ s) : FiledContrib Φ (s.contribute c v F a n val) := by
  unfold State.contribute
  dsimp only
  split
  · exact trivial
  · exact h
  · split
    · exact h.recordCode
    · exact h.post

theorem Filed.contributeNode {c v F : Nat} {lab val : DWord} (h : Filed Φ s) : FiledContrib Φ (s.contributeNode c v F lab val) := by
  unfold State.contributeNode
  dsimp only
  split
  · exact trivial
  · exact h
  · split
    · exact h.recordCode
    · exact h.post

theorem Filed.contributeMem {c F addr : Nat} {b : Word} {val : DWord} {map : Option (List Span)}
    (h : Filed Φ s) : FiledContrib Φ (s.contributeMem c F addr b val map) := by
  unfold State.contributeMem
  dsimp only
  split
  · exact trivial
  · exact h
  · split
    · exact trivial
    · split
      · exact trivial
      · split
        · exact trivial
        · next heq =>
            have h1 := h.openPages.get heq
            split
            · exact h1.recordCode
            · exact h1.post

end Sys2Proof.Proofs
end

section
/-!
PROOF. O48, O52: memory requests, control flow, and channels leave what is on file alone.
-/
namespace Sys2Proof.Proofs
open Sys2Proof Sys2Proof.Machine Sys2Proof.Claim Sys2Proof.Laws
set_option Elab.async false

variable {Φ : Books} {s s0 : State}

/-! ### Memory requests, held accesses and issues -/

theorem Filed.fenceFirst {c v : Nat} {r : MemReq} {map : Option (List Span)} (h : Filed Φ s) : Filed Φ (s.fenceFirst c v r map) := by
  unfold State.fenceFirst
  dsimp only
  split
  · refine .preSweep ?_
    split
    · exact h.release
    · exact h
  · split
    · exact h.release
    · exact h

theorem Filed.loadG {c v : Nat} {who : Who} {ss : List Span} {nt : Bool} (h : Filed Φ s) : FiledVal Φ (s.loadG c v who ss nt) := by
  unfold State.loadG
  dsimp only
  refine Filed.iteVal ?_ ?_
  · split
    · exact trivial
    · next heq => exact (h.loadHome.get heq).observe.pair
  · split
    · exact trivial
    · next heq =>
        have h1 := h.loadL1.get heq
        exact Filed.pair (.ite h1 h1.observe)

theorem Filed.served_ofFault {f : PFault} {va : Nat} (h : Filed Φ s) : FiledServed Φ (Served.ofFault s f va) := by
  unfold Served.ofFault
  split
  · exact h
  · exact trivial

theorem Filed.accOfErr {c : Nat} {ss : List Span} {a : AccErr} (h : Filed Φ s) : FiledServed Φ (s.accOfErr c ss a) := by
  unfold State.accOfErr
  split
  · exact h.served_ofFault
  · exact trivial
  · exact trivial
  · exact trivial

theorem Filed.drainOne {c v line q : Nat} (h : Filed Φ s) : FiledDrained Φ (s.drainOne c v line q) := by
  unfold State.drainOne
  dsimp only
  split
  · exact trivial
  · split
    · exact trivial
    · split
      · exact h
      · next w _ _ _ =>
        have hs1 : Filed Φ (if w.attr = 2 then s.release c v 255 2 else s) := .ite h.release h
        generalize (if w.attr = 2 then s.release c v 255 2 else s) = s1 at *
        split
        · exact hs1
        · split
          · split
            · exact hs1
            · exact trivial
          · exact hs1
          · exact hs1
          · exact hs1
          · next heq =>
            have h1 := hs1.storeHome.get heq
            exact .ite (.dropDrain (.ite h1.acquire h1)) (.modDrain (.ite h1.acquire h1))

theorem Filed.drainAll {c v line q fuel : Nat} (h : Filed Φ s) : FiledServed Φ (s.drainAll c v line q fuel) := by
  induction fuel generalizing s with
  | zero => exact h
  | succ fuel ih =>
    unfold State.drainAll
    split
    · exact h.dropDrain
    · next heq => exact ih (h.drainOne.done heq)
    · next heq => exact h.drainOne.wait heq
    · trivial

theorem Filed.atomMode (h : Filed Φ s) : Filed Φ s.atomMode.2 := .pair h

theorem Filed.atomG {c v line lane : Nat} {pos : Pos} {op : AtomOp} {n : Nat} {x cmp : DWord} {g : ScopeGen} {d : Option ReplyTo} {ss : List Span}
    (h : Filed Φ s) : FiledServed Φ (s.atomG c v line lane pos op n x cmp g d ss) := by
  unfold State.atomG
  dsimp only
  split
  · split
    · exact trivial
    · split
      · exact h.atomMode.accOfErr
      · next heq => exact (h.atomMode.loadL1.get heq).storeL1
  · split
    · exact Filed.served_ofFault (.ite (.foldl h.atomMode.ownFirst fun _ _ h => h.l1Drop)
        (.settleHalves (.foldl h.atomMode.ownFirst fun _ _ h => h.l1Drop)))
    · next heq =>
        have h1 := FiledOk.get heq (Filed.openPages (.ite (.foldl h.atomMode.ownFirst fun _ _ h => h.l1Drop)
          (.settleHalves (.foldl h.atomMode.ownFirst fun _ _ h => h.l1Drop))))
        split
        · exact trivial
        · split
          · exact Filed.post (.observe h1)
          · exact h1.putBytes.taint.observe

theorem Filed.atomQ {c v line lane : Nat} {pos : Pos} {l : Lvl} {op : AtomOp} {n a : Nat} {x cmp : DWord} {g : ScopeGen} {d : Option ReplyTo}
    (h : Filed Φ s) : FiledServed Φ (s.atomQ c v line lane pos l op n a x cmp g d) := by
  unfold State.atomQ
  dsimp only
  split
  · exact trivial
  · exact Filed.ite (Filed.post (.observe h.atomMode.settleHalves.noteReads)) h.atomMode.settleHalves.noteReads.chipPut.observe

theorem Filed.performBare {c v line lane : Nat} {pos : Pos} {r : MemReq} {map : Option (List Span)}
    (h : Filed Φ s) : FiledServed Φ (s.performBare c v line lane pos r map) := by
  unfold State.performBare
  dsimp only
  split
  · split
    · exact trivial
    · exact h.noteReads
  · exact h.clearBad.modThread
  · split
    · exact h.accOfErr
    · next heq => exact h.loadG.get heq
  · split
    · exact h.accOfErr
    · next heq => exact FiledOk.get heq (Filed.iteOk h.storeHome h.storeL1.inOk)
  · exact h.atomG
  · split
    · exact trivial
    · split
      · exact trivial
      · exact Filed.noteReads (.observe (.ite h.settleHalves h))
  · split
    · exact trivial
    · exact h.chipWrite.observe
  · split
    · exact trivial
    · exact h.atomQ
  · exact h
  · split
    · exact h
    · exact h
  · split
    · exact h
    · split
      · exact h
      · split
        · exact h.release
        · refine .ite ?_ ?_
          · refine .endStep ?_
            split
            · exact h.release.arriveBar.completePhase
            · exact h.release.arriveBar
          · split
            · exact h.release.arriveBar.completePhase
            · exact h.release.arriveBar
  · split
    · next heq => exact h.contribute.done heq
    · exact trivial
    · exact h.served_ofFault
  · split
    · next heq => exact h.contributeNode.done heq
    · exact trivial
    · exact h.served_ofFault
  · split
    · next heq => exact h.contributeMem.done heq
    · exact trivial
    · exact h.served_ofFault
  · split
    · exact h.accOfErr
    · next heq =>
        have h1 := h.loadG.get heq
        split
        · exact trivial
        · exact h1.modCtx
  · exact Filed.observe (.modCore (.foldl h fun _ _ h => h.clearBad))
  · split
    · exact trivial
    · exact h.observe.noteRead
  · exact h.drainAll

theorem Filed.perform {c v line lane : Nat} {pos : Pos} {r : MemReq} {map : Option (List Span)}
    (h : Filed Φ s) : FiledServed Φ (s.perform c v line lane pos r map) := by
  unfold State.perform
  split
  · exact trivial
  · split
    · next heq =>
        have h1 := h.performBare.done heq
        split
        · exact h1.acquire
        · exact h1
    · exact h.performBare

theorem Filed.noteFaults {c v line : Nat} {fs : List LaneFault} (h : Filed Φ s) : Filed Φ (s.noteFaults c v line fs) :=
  .foldl (.foldl h fun _ _ h => h.modThread) fun _ _ h => h.post

theorem Filed.issued_lane {x : Issued} {l : Nat} {r : MemReq} {map : Option (List Span)} (h : Filed Φ x.s) : Filed Φ (x.lane l r map).s := by
  unfold Issued.lane
  dsimp only
  split
  · exact h.modLane
  · split
    · next heq => exact h.perform.done heq
    · exact h.unreserve
    · exact h.modLane
    · next heq => exact (h.perform.wait heq).modLane

theorem Filed.laneReplies {dst : Option OpSpec} {reqs : List (Nat × MemReq)} {first : Bool}
    (h : Filed Φ s) : Filed Φ (s.laneReplies dst reqs first).2 := by
  induction reqs generalizing s first with
  | nil => exact h
  | cons e rest ih =>
    unfold State.laneReplies
    split
    · exact h
    · exact ih h.replyTo

theorem Filed.memIssueTo {sw : Bool} {dst : Option OpSpec} {reqs : List (Nat × MemReq)} {next : Nat → Thread → Pos × Bool}
    (h : Filed Φ s) (h0 : Filed Φ s0) : Filed Φ (s.memIssueTo s0 sw dst reqs next) := by
  unfold State.memIssueTo
  dsimp only
  refine .ite h.readStore.trapAll ?_
  refine .ite h0.stall ?_
  refine .ite (.stall (.foldl h0 fun _ _ h => h.fenceFirst)) ?_
  refine .ite h0.stall ?_
  refine .finishTo ?_
  refine .trapIssue ?_
  have hfirst {l : List (Nat × MemReq × Option (List Span))} {f : State → Nat × MemReq × Option (List Span) → State}
      (hf : ∀ t e, Filed Φ t → Filed Φ (f t e)) : Filed Φ (l.foldl f (s.readStore (.board s.issue.ctx s.issue.vc)).2) := .foldl h.readStore hf
  split
  · refine .post (.noteFaults (.foldlAt Issued.s (.laneReplies (.ite ?_ (.countIssue ?_))) fun _ _ h => h.issued_lane)) <;>
      exact hfirst fun _ _ h => h.fenceFirst
  · refine .noteFaults (.foldlAt Issued.s (.laneReplies (.ite ?_ (.countIssue ?_))) fun _ _ h => h.issued_lane) <;>
      exact hfirst fun _ _ h => h.fenceFirst

theorem Filed.memIssue {sw : Bool} {dst : Option OpSpec} {reqs : List (Nat × MemReq)} (h : Filed Φ s) (h0 : Filed Φ s0) :
    Filed Φ (s.memIssue s0 sw dst reqs) :=
  h.memIssueTo h0

theorem Filed.gangIssue {sw : Bool} {lanes : List Nat} {r : MemReq} (h : Filed Φ s) (h0 : Filed Φ s0) : Filed Φ (s.gangIssue s0 sw lanes r) := by
  unfold State.gangIssue
  dsimp only
  split
  · exact h.takeTrap
  · refine .ite h0.stall ?_
    refine .ite h0.fenceFirst.stall ?_
    refine .ite (.finish (.modLanes (.modLane (.ite h.fenceFirst h)))) ?_
    split
    · exact .takeTrap (.ite h.fenceFirst h)
    · next heq => exact (FiledServed.done heq (Filed.perform (.countIssue (.ite h.fenceFirst h)))).finish
    · exact .finish (.noteFaults (.modLanes (.modLane (.ite h.fenceFirst h))))
    · exact h0.fenceFirst.stall

theorem Filed.retried_lane {c v line lane fuel : Nat} {x : Retried} (h : Filed Φ x.s) : Filed Φ (Retried.lane c v line lane fuel x).s := by
  induction fuel generalizing x with
  | zero => exact h
  | succ fuel ih =>
    unfold Retried.lane
    dsimp only
    split
    · exact h
    · simp only [apply_ite Retried.s]
      refine .ite h (.ite h (.ite h.fenceFirst ?_))
      split
      · next heq =>
        have h1 := h.fenceFirst.perform.done heq
        refine ih ?_
        split
        · exact h1.modThread.post
        · exact h1.modThread
      · exact .foldl h.fenceFirst fun _ _ h => h.modThread
      · exact h.fenceFirst
      · next heq => exact h.fenceFirst.perform.wait heq

theorem Filed.retryLanes {c v line : Nat} {lanes : List Nat} (h : Filed Φ s) : Filed Φ (s.retryLanes c v line lanes) :=
  .foldl (.noteFaults (.foldlAt Retried.s h fun _ _ h => h.retried_lane)) fun _ _ h => h.takeTraps

theorem Filed.wakeHeld {c : Nat} (h : Filed Φ s) : Filed Φ (s.wakeHeld c) := .foldl h fun _ _ h => h.retryLanes

theorem Filed.answerTrap {p : Place} {retry : Bool} (h : Filed Φ s) : Filed Φ (s.answerTrap p retry) := by
  unfold State.answerTrap
  dsimp only
  refine .ite ?_ h.clearTrap
  refine .bump ?_
  refine .modThread ?_
  split
  · exact h.dropDrain
  · exact h.unreserve
  · exact h

/-! ### Control flow and channels -/

theorem Filed.execBranch {sw : Bool} {d : Fld} {o : BitVec 18} {taken : Word → Bool} (h : Filed Φ s) : FiledNext Φ (s.execBranch sw d o taken) := by
  unfold State.execBranch
  split
  · next heq => exact h.prepare.halt heq
  · next heq => exact (h.prepare.go heq).finishTo

theorem Filed.execCall {sw : Bool} {d : Fld} {o : BitVec 18} (h : Filed Φ s) : FiledNext Φ (execCall sw d o s) := by
  unfold Machine.execCall
  split
  · next heq => exact h.prepare.halt heq
  · next heq => exact (h.prepare.go heq).deliver.finishTo

theorem Filed.execIndirect {link : Option Fld} {a : Fld} (h : Filed Φ s) : FiledNext Φ (s.execIndirect link a) := by
  unfold State.execIndirect
  dsimp only
  split
  · next heq => exact h.prepare.halt heq
  · next heq =>
      have h1 := h.prepare.go heq
      refine .finishTo ?_
      split
      · exact .ite h1.trapIssue h1.trapIssue.deliver
      · exact h1.trapIssue

theorem Filed.execExit {sw : Bool} (h : Filed Φ s) (hΦ : FreeOfPlaces Φ) : FiledNext Φ (execExit sw s) := by
  unfold Machine.execExit
  split
  · next heq => exact h.syncFirst.get heq
  · exact Filed.iteNext h.stall (Filed.foldl h.countIssue fun _ _ h => h.exitThread hΦ)

theorem Filed.execYchk {sw : Bool} (h : Filed Φ s) : FiledNext Φ (execYchk sw s) := by
  unfold Machine.execYchk
  split
  · next heq => exact h.syncFirst.get heq
  · exact Filed.iteNext h.finish (Filed.iteNext h.finish (Filed.iteNext h.finish.takeTrap (.modLanes (h.finish.memIssueTo h))))

theorem Filed.execYield {sw : Bool} (h : Filed Φ s) : FiledNext Φ (execYield sw s) := by
  unfold Machine.execYield
  split
  · next heq => exact h.syncFirst.get heq
  · exact Filed.ite h.finish.modLanes.modLanes h.finish.modLanes

theorem Filed.execChBind {sw : Bool} {a : Fld} {k : BitVec 3} (h : Filed Φ s) : FiledNext Φ (execChBind sw a k s) := by
  unfold Machine.execChBind
  split
  · next heq => exact h.prepare.halt heq
  · next heq =>
      have h1 := h.prepare.go heq
      exact Filed.iteNext h1.takeTrap (.finish (h1.modIssLine))

theorem Filed.execChCnt {sw : Bool} {d : Fld} {k : BitVec 3} (h : Filed Φ s) : FiledNext Φ (execChCnt sw d k s) := by
  unfold Machine.execChCnt
  split
  · next heq => exact h.prepare.halt heq
  · next heq => exact (h.prepare.go heq).deliver.finish

theorem Filed.execChannelPushArrive {p : Push} (h : Filed Φ s) : FiledNext Φ (execChannelPushArrive p s) := by
  unfold Machine.execChannelPushArrive
  split
  · exact h
  · exact Filed.foldl (h.catchFlits.modLine) fun _ _ h => h.modThread

end Sys2Proof.Proofs
end

section
/-!
PROOF. O48, O52: translation, slots, and engine jobs leave what is on file alone.
-/
namespace Sys2Proof.Proofs
open Sys2Proof Sys2Proof.Machine Sys2Proof.Claim Sys2Proof.Laws
set_option Elab.async false

variable {Φ : Books} {s s0 : State}

/-! ### Translation, page moves and faults -/

theorem Filed.execRangeRegisterWrite {h' : Hdr} {ctx k : Nat} {recd : BitVec 256}
    (h : Filed Φ s) : FiledNext Φ (execRangeRegisterWrite h' ctx k recd s) := by
  unfold Machine.execRangeRegisterWrite
  refine Filed.mgmt h fun _ h => ?_
  split
  · exact h.noObject
  · exact .iteSnd2 h.refused h.modCtx.done

theorem Filed.dropFrame {c pa n : Nat} (h : Filed Φ s) : Filed Φ (s.dropFrame c pa n) := h.modCtx

theorem Filed.setPage {c L ia : Nat} {e : DWord} (h : Filed Φ s) : Filed Φ (s.setPage c L ia e) := .foldl h.settleHalves.modCtx fun _ _ h => h.dropFrame

theorem Filed.execPageMap {h' : Hdr} {ctx level ia : Nat} {entry : DWord} (h : Filed Φ s) : FiledNext Φ (execPageMap h' ctx level ia entry s) := by
  unfold Machine.execPageMap
  refine Filed.mgmt h fun _ h => ?_
  split
  · exact h.noObject
  · exact .iteSnd2 h.refused (.iteSnd2 h.noObject h.setPage.done)

theorem Filed.execPageUnmap {h' : Hdr} {ctx level ia : Nat} (h : Filed Φ s) : FiledNext Φ (execPageUnmap h' ctx level ia s) := by
  unfold Machine.execPageUnmap
  refine Filed.mgmt h fun _ h => ?_
  split
  · exact h.noObject
  · split
    · exact h.noObject
    · exact h.setPage.done

theorem Filed.execPageChange {h' : Hdr} {ctx level ia : Nat} {entry : DWord} (h : Filed Φ s) : FiledNext Φ (execPageChange h' ctx level ia entry s) := by
  unfold Machine.execPageChange
  refine Filed.mgmt h fun _ h => ?_
  split
  · exact h.noObject
  · split
    · exact h.noObject
    · exact .iteSnd2 h.refused h.setPage.done

theorem Filed.movePage {c ia pa : Nat} (h : Filed Φ s) : Filed Φ (s.movePage c ia pa) := by
  unfold State.movePage
  split
  · exact h
  · exact .setPage (h.settleHalves.withMem)

theorem Filed.noteMove {c ia : Nat} (h : Filed Φ s) : Filed Φ (s.noteMove c ia) := .ite h.modCtx.post h.modCtx

theorem Filed.execPageMigrate {ctx ia : Nat} {move : PageMove} (h : Filed Φ s) : FiledNext Φ (execPageMigrate ctx ia move s) := by
  unfold Machine.execPageMigrate
  split
  · exact h
  · exact Filed.iteNext h (Filed.iteNext h.post h.movePage.noteMove)

theorem Filed.recordFault {n : FaultNote} (h : Filed Φ s) : Filed Φ (s.recordFault n) := by
  unfold State.recordFault
  split
  · exact h
  · exact .ite h.modDie.sendSess h.modDie.modCtx

theorem Filed.execFltReplay {sw : Bool} {a : Fld} (h : Filed Φ s) : FiledNext Φ (execFltReplay sw a s) := by
  unfold Machine.execFltReplay
  split
  · next heq => exact h.prepare.halt heq
  · next heq =>
      have h1 := h.prepare.go heq
      exact Filed.iteNext h1.takeTrap (Filed.finish (.foldl h1 fun _ _ h => .foldl h.modDie fun _ _ h => h.recordFault))

theorem Filed.resolveLanes {n : FaultNote} (h : Filed Φ s) : Filed Φ (s.resolveLanes n) := .wakeHeld (.retryLanes (.foldl h fun _ _ h => h.modThread))

theorem Filed.resumeHeld {c : Nat} (h : Filed Φ s) : Filed Φ (s.resumeHeld c) :=
  .foldl (.completePhases (.wakeHeld (.foldl h.flushHeld fun _ _ h => .ite h.flushSo h))) fun _ _ h => h.answerWaits

theorem Filed.resolveWriteback {n : FaultNote} (h : Filed Φ s) : Filed Φ (s.resolveWriteback n) := by
  unfold State.resolveWriteback
  dsimp only
  refine .resumeHeld ?_
  refine .foldl h.flushHeld fun _ _ h => ?_
  split
  · exact h
  · exact .ite h h.post

theorem Filed.resolveJob {c j : Nat} (h : Filed Φ s) : Filed Φ (s.resolveJob c j) := by
  unfold State.resolveJob
  dsimp only
  split
  · split
    · exact h.modJob.post
    · exact h.modJob.post
  · exact h

theorem Filed.takeFault {die fid : Nat} (h : Filed Φ s) : FiledOptSnd Φ (s.takeFault die fid) := by
  unfold State.takeFault
  split
  · exact trivial
  · exact h.modDie.pair

theorem Filed.execFaultResolve {h' : Hdr} {die fid : Nat} (h : Filed Φ s) : FiledNext Φ (execFaultResolve h' die fid s) := by
  unfold Machine.execFaultResolve
  dsimp only
  refine Filed.mgmt h fun _ h => ?_
  split
  · exact h.noObject
  · next heq =>
      have h1 := h.takeFault.get heq
      split
      · exact .done (.ite h1 h1.resolveJob)
      · exact .iteSnd2 h1.resolveWriteback.done (.iteSnd2 h1.done h1.resolveLanes.done)

theorem Filed.failLanes {n : FaultNote} (h : Filed Φ s) : Filed Φ (s.failLanes n) := .foldl (.foldl h fun _ _ h => h.modThread) fun _ _ h => h.takeTrap

theorem Filed.execFaultFail {h' : Hdr} {die fid : Nat} (h : Filed Φ s) : FiledNext Φ (execFaultFail h' die fid s) := by
  unfold Machine.execFaultFail
  dsimp only
  refine Filed.mgmt h fun _ h => ?_
  split
  · exact h.noObject
  · next heq =>
      have h1 := h.takeFault.get heq
      split
      · exact .done (.ite h1 h1.modJob.post)
      · exact .iteSnd2 h.refused (.iteSnd2 h1.done h1.failLanes.done)

/-! ### Contributions and slots -/

theorem Filed.parkRecord {lanes : List Nat} {f : PFault} {kind va : Nat} (h : Filed Φ s) : Filed Φ (s.parkRecord lanes f kind va) := h.post.parkRetry

theorem Filed.fetchRecord {lanes : List Nat} {va n : Nat} (h : Filed Φ s) (h0 : Filed Φ s0) : FiledRecRead Φ (s.fetchRecord s0 lanes va n) := by
  unfold State.fetchRecord
  dsimp only
  refine Filed.iteRec h0.parkHere ?_
  split
  · exact h.takeTrap
  · refine Filed.iteRec h0.stall (Filed.iteRec (.stall (.ite h0.release.preSweep h0)) ?_)
    split
    · next heq =>
      have h2 := Filed.loadG (.ite h.release.preSweep h) |>.get heq
      exact .ite h2.acquire h2
    · exact .ite h0.stall (.parkRecord (.ite h.release.preSweep h))
    · exact .takeTrap (.ite h.release.preSweep h)
    · exact .takeTrap (.ite h.release.preSweep h)
    · exact .takeTrap (.ite h.release.preSweep h)

theorem Filed.execCtb {sw : Bool} {d a b : Fld} {f : BitVec 4} (h : Filed Φ s) : FiledNext Φ (execCtb sw d a b f s) := by
  unfold Machine.execCtb
  split
  · next heq => exact h.prepare.halt heq
  · next heq => exact (h.prepare.go heq).memIssue h

theorem Filed.execCtbn {sw : Bool} {d a : Fld} {f : BitVec 4} (h : Filed Φ s) : FiledNext Φ (execCtbn sw d a f s) := by
  unfold Machine.execCtbn
  split
  · next heq => exact h.prepare.halt heq
  · next heq => exact (h.prepare.go heq).memIssue h

theorem Filed.execCtbm {sw : Bool} {d a b : Fld} {f : BitVec 4} (h : Filed Φ s) : FiledNext Φ (execCtbm sw d a b f s) := by
  unfold Machine.execCtbm
  split
  · next heq => exact h.prepare.halt heq
  · next heq => exact (h.prepare.go heq).memIssue h

theorem Filed.zeroSpans {c : Nat} {ss : List Span} (h : Filed Φ s) : FiledOpt Φ (s.zeroSpans c ss) := by
  unfold State.zeroSpans
  dsimp only
  refine Filed.foldlOpt h fun _ _ h => ?_
  refine Filed.foldlOpt h fun _ _ h => ?_
  split
  · exact trivial
  · next heq =>
      have h1 := h.settleHalves.openPage.get heq
      exact .inSome (.markLeaf (.modCtx (h1.withMem)))

theorem Filed.slotReply {sw : Bool} {lanes : List Nat} {d : Fld} {w : Word} (h : Filed Φ s) : Filed Φ (s.slotReply sw lanes d w) := h.deliver.finish

theorem Filed.openSlot {t : State} {c n : Nat} {d : BitVec 512} (h : Filed Φ s) (e : s.openSlot c n d = .ok (some t)) : Filed Φ t := by
  unfold State.openSlot at e
  dsimp only at e
  split at e
  · cases e
  · cases e
  · next heq =>
    have h1 := FiledOk.get heq <| Filed.foldlOk h fun _ _ h => by
      split
      · trivial
      · refine Filed.iteOk h ?_
        split
        · exact h.movePage.noteMove.inOk
        · trivial
    obtain ⟨u, hu, rfl⟩ := Option.map_eq_some_iff.mp (Except.ok.inj e)
    exact (FiledOpt.get hu (Filed.iteOpt h1.zeroSpans h1.inSome)).modSlot

theorem Filed.execSlotOpen {sw : Bool} {d a b : Fld} (h : Filed Φ s) : FiledNext Φ (execSlotOpen sw d a b s) := by
  unfold Machine.execSlotOpen
  dsimp only
  split
  · next heq => exact h.prepare.halt heq
  · next heq =>
      have h1 := h.prepare.go heq
      refine Filed.iteNext h1.slotReply ?_
      refine Filed.iteNext h1.slotReply ?_
      split
      · next heq => exact (h1.fetchRecord h).stop heq
      · next heq =>
          have h2 := (h1.fetchRecord h).ok heq
          refine Filed.iteNext h2.slotReply ?_
          split
          · exact h2.parkRecord
          · exact h.stall
          · next heq => exact (h2.openSlot heq).slotReply

theorem Filed.sendMarkers {c n : Nat} (h : Filed Φ s) : Filed Φ (s.sendMarkers c n) := .ite h.modSlot.post (.foldl h.modSlot fun _ _ h => h.post)

theorem Filed.execSlotClose {sw : Bool} {d b : Fld} (h : Filed Φ s) : FiledNext Φ (execSlotClose sw d b s) := by
  unfold Machine.execSlotClose
  split
  · next heq => exact h.prepare.halt heq
  · next heq =>
      have h1 := h.prepare.go heq
      exact Filed.iteNext h1.slotReply h1.sendMarkers.slotReply

theorem Filed.execSlotWait {sw : Bool} {d b : Fld} (h : Filed Φ s) : FiledNext Φ (execSlotWait sw d b s) := by
  unfold Machine.execSlotWait
  dsimp only
  split
  · next heq => exact h.prepare.halt heq
  · next heq =>
      have h1 := h.prepare.go heq
      split
      · exact Filed.finish h1.replyTo
      · exact h1.replyTo.finish.answerWait
      · exact h1.slotReply

theorem Filed.execSlotStat {sw : Bool} {d b : Fld} (h : Filed Φ s) : FiledNext Φ (execSlotStat sw d b s) := by
  unfold Machine.execSlotStat
  split
  · next heq => exact h.prepare.halt heq
  · next heq => exact (h.prepare.go heq).slotReply

/-! ### Engine jobs -/

theorem Filed.freeJob {c n : Nat} (h : Filed Φ s) : Filed Φ (s.freeJob c n) := h.modCtx

theorem Filed.addJob {c v : Nat} {e : Eng} {n : Nat} {p : JobPlan} {ivs : List Machine.Interval} (h : Filed Φ s) : Filed Φ (s.addJob c v e n p ivs) := by
  unfold State.addJob
  dsimp only
  refine .modCore ?_
  refine .modCtx ?_
  refine .taint ?_
  split
  · exact h
  · exact h

theorem Filed.jobMould {sw : Bool} {d a : Fld} {e : Eng} {bytes : Nat} {plan : State → List Byte → Except Trap JobPlan} {start : State → Nat → State}
    (h : Filed Φ s) (hstart : ∀ t n, Filed Φ t → Filed Φ (start t n)) : FiledNext Φ (s.jobMould sw d a e bytes plan start) := by
  unfold State.jobMould
  dsimp only
  split
  · next heq => exact h.prepare.halt heq
  · next heq =>
      have h1 := h.prepare.go heq
      refine Filed.iteNext h1.takeTrap ?_
      refine Filed.iteNext h1.takeTrap ?_
      split
      · next heq => exact (h1.fetchRecord h).stop heq
      · next heq =>
          have h2 := (h1.fetchRecord h).ok heq
          split
          · exact h2.takeTrap
          · split
            · exact h2.takeTrap
            · split
              · exact h.stall
              · refine Filed.iteNext h.stall (Filed.iteNext (.stall (.foldl h.settleHalves fun _ _ h => h.writeBack)) ?_)
                refine .finish (hstart _ _ (.deliver (.addJob ?_)))
                exact .foldl h2.settleHalves fun _ _ h => h.writeBack

theorem Filed.jobCode {c n code : Nat} (h : Filed Φ s) : Filed Φ (s.jobCode c n code) := h.modJob.post

theorem Filed.sendLeaf {q : Partial} {p : CollParms} (h : Filed Φ s) : Filed Φ (s.sendLeaf q p) := .ite h.post h.forward

theorem Filed.failBoth {c group : Nat} {p : CollParms} {seq : Nat} {q : CollParms × Nat} (h : Filed Φ s) : Filed Φ (s.failBoth c group p seq q) :=
  h.failColl.failColl

theorem Filed.startColl {c n : Nat} (h : Filed Φ s) : Filed Φ (s.startColl c n) := by
  unfold State.startColl
  dsimp only
  split
  · split
    · exact .jobCode h.modCtx.modJob
    · exact h.modCtx.modJob.failBoth
    · refine .ite h.modCtx.modJob.failColl ?_
      refine .ite h.modCtx.modJob.jobCode ?_
      refine .ite ?_ ?_
      · refine .post ?_
        split
        · exact h.modCtx.modJob.tellRanks
        · exact h.modCtx.modJob
      · refine .post ?_
        split
        · exact h.modCtx.modJob.tellRanks
        · exact h.modCtx.modJob
  · exact h

theorem Filed.jobRead {c : Nat} {j : Job} {l : Lvl} {a n : Nat} (h : Filed Φ s) : FiledVal Φ (s.jobRead c j l a n) := by
  unfold State.jobRead
  dsimp only
  split
  · split
    · exact trivial
    · next heq =>
        have h1 := h.openPages.get heq
        split
        · exact trivial
        · exact h1.observe.pair
  · refine Filed.iteVal trivial ?_
    split
    · exact trivial
    · exact h.observe.noteReads.pair

theorem Filed.jobWrite {c : Nat} {j : Job} {l : Lvl} {a : Nat} {bs : List Byte} (h : Filed Φ s) : FiledOk Φ (s.jobWrite c j l a bs) := by
  unfold State.jobWrite
  dsimp only
  split
  · split
    · exact trivial
    · next heq => exact (h.openPages.get heq).writeIa.observe.inOk
  · exact .inOk (.observe (h.settleHalves.clearBad.modSquare))
  · exact Filed.iteOk trivial h.chipWrite.observe.inOk

theorem Filed.jobError {c n : Nat} {j : Job} {write : Bool} {e : AccErr} (h : Filed Φ s) : Filed Φ (s.jobError c n j write e) := by
  unfold State.jobError
  split
  · exact .ite h.post h.modJob.post
  · exact h.reportBad.modJob.post
  · exact h.modJob.post
  · exact h.reportError.modJob.post

theorem Filed.jobNext {c n : Nat} {j : Job} {fl : Flags} (h : Filed Φ s) : Filed Φ (s.jobNext c n j fl) := .ite h.modJob.post h.modJob.post

theorem Filed.remoteAccess {c n : Nat} {cs : List Nat} {a : Nat} {write : Bool} {len : Nat} {bs : List Byte} {next : State → State}
    (h : Filed Φ s) (hnext : ∀ t, Filed Φ t → Filed Φ (next t)) : Filed Φ (s.remoteAccess c n cs a write len bs next) := by
  unfold State.remoteAccess
  dsimp only
  split
  · split
    · exact hnext _ (.send h)
    · exact .jobCode (.send h)
    · exact .post (.send h)
  · exact h.jobCode

theorem Filed.copyElement {c n : Nat} {j : Job} {r : Shape} (h : Filed Φ s) : Filed Φ (s.copyElement c n j r) := by
  unfold State.copyElement
  dsimp only
  split
  · refine .ite (h.remoteAccess fun _ h => ?_) (.ite h.jobCode ?_)
    · split
      · exact h.jobError
      · next heq => exact (h.jobWrite.get heq).jobNext
    · split
      · exact h.jobError
      · next heq => exact (h.jobRead.get heq).remoteAccess fun _ h => h.jobNext
  · split
    · exact h.jobError
    · next heq =>
      have h1 := h.jobRead.get heq
      split
      · exact h1.jobError
      · next heq => exact (h1.jobWrite.get heq).jobNext

theorem Filed.chainElement {c n : Nat} {j : Job} {r : Chain} (h : Filed Φ s) : Filed Φ (s.chainElement c n j r) := by
  unfold State.chainElement
  dsimp only
  split
  · exact h.jobError
  · next heq =>
      have h1 := FiledVal.get heq (Filed.foldlVal h fun _ _ h => h.jobRead.map)
      refine .ite h1.residueCheck.jobCode ?_
      split
      · exact h.jobError
      · next heq => exact (h1.residueCheck.jobWrite.get heq).jobNext

theorem Filed.collElement {c n : Nat} {j : Job} {r : Shape} {p : CollParms} {rank ranks w : Nat} {formed : List Nat}
    (h : Filed Φ s) : Filed Φ (s.collElement c n j r p rank ranks w formed) := by
  unfold State.collElement
  dsimp only
  split
  · exact h.failBoth
  · refine .ite h ?_
    split
    · exact h.jobError
    · next heq =>
        have h1 := h.jobRead.get heq
        refine .ite h1.modJob.post.sendLeaf ?_
        refine .post ?_
        split
        · exact h1.modJob.post.tellRanks
        · exact h1.modJob.post

theorem Filed.execCollectiveWindowGrant {ctx job w : Nat} (h : Filed Φ s) : FiledNext Φ (execCollectiveWindowGrant ctx job w s) := by
  unfold Machine.execCollectiveWindowGrant
  dsimp only
  split
  · refine Filed.iteNext (Filed.ite h h.post) ?_
    refine .post ?_
    split
    · exact .tellRanks (.ite h.modJob h.modJob)
    · exact .ite h.modJob h.modJob
  · exact h

theorem Filed.hearIssued {c : Nat} {m : CollMsg} {rank : Nat} (h : Filed Φ s) : Filed Φ (s.hearIssued c m rank) := by
  unfold State.hearIssued
  dsimp only
  refine .ite h ?_
  split
  · exact .failBoth h
  · refine .foldl h fun _ _ h => ?_
    split
    · exact .ite h h.post
    · exact h

theorem Filed.hearFailed {c : Nat} {m : CollMsg} {code : Nat} (h : Filed Φ s) : Filed Φ (s.hearFailed c m code) := .ite h.failJobs.dropColl (.ite h h)

theorem Filed.rootHere {ctx job elem : Nat} {m : CollMsg} {val : QWord} {flags : Flags}
    (h : Filed Φ s) : Filed Φ (s.rootHere ctx job elem m val flags) := by
  unfold State.rootHere
  dsimp only
  split
  · split
    · refine .ite h ?_
      refine .ite h.post ?_
      split
      · refine .post ?_
        split
        · exact .ite h h.jobError
        · exact h.jobError
      · next heq => exact (FiledOk.get heq (Filed.iteOk h.jobWrite h)).modJob.post
    · exact h
  · exact h

theorem Filed.execCollectiveRootReturn {ctx job elem : Nat} {msg : CollMsg} {flags : Flags}
    (h : Filed Φ s) : FiledNext Φ (execCollectiveRootReturn ctx job elem msg flags s) := by
  unfold Machine.execCollectiveRootReturn
  refine Filed.iteNext h.sendNews ?_
  split
  · exact h.rootHere
  · exact Filed.foldl h fun _ _ h => h.post
  · exact h.hearIssued
  · exact h.hearFailed

theorem Filed.answerJob {j : Job} {r : ReplyTo} {pos : Pos} (h : Filed Φ s) : Filed Φ (s.answerJob j r pos) :=
  .ite (.takeTrap (.post (.ite h.acquire h))) (.post (.ite h.acquire h))

theorem Filed.answerJobs {c n : Nat} (h : Filed Φ s) : Filed Φ (s.answerJobs c n) := by
  unfold State.answerJobs
  dsimp only
  split
  · exact .ite (.post (.ite (.foldl h fun _ _ h => h.preSweep) h))
      (.freeJob (.foldl (.ite (.foldl h fun _ _ h => h.preSweep) h) fun _ _ h => h.answerJob))
  · exact h

theorem Filed.endFaults {c n : Nat} (h : Filed Φ s) : Filed Φ (s.endFaults c n) := h

theorem Filed.jobDone {c n : Nat} (h : Filed Φ s) : Filed Φ (s.jobDone c n) := h.endFaults.modCtx.answerJobs.wakeHeld.wakeUnits

theorem Filed.endColl {c n : Nat} {j : Job} (h : Filed Φ s) : Filed Φ (s.endColl c n j) := by
  unfold State.endColl
  dsimp only
  split
  · exact h
  · exact h

theorem Filed.execJobRetire {ctx job : Nat} (h : Filed Φ s) : FiledNext Φ (execJobRetire ctx job s) := by
  unfold Machine.execJobRetire
  split
  · exact h
  · exact Filed.iteNext h.answerJobs <| Filed.iteNext h.post <| Filed.iteNext (.post (.flushHeld (.foldl h fun _ _ h => h.l1Drop)))
      (.resumeHeld (.jobDone (.endColl (.modCore (.foldl h fun _ _ h => h.l1Drop)))))

theorem Filed.execCpyw {sw : Bool} {d a : Fld} (h : Filed Φ s) : FiledNext Φ (execCpyw sw d a s) := by
  unfold Machine.execCpyw
  split
  · next heq => exact h.prepare.halt heq
  · next heq =>
    have h1 := h.prepare.go heq
    dsimp only
    refine Filed.iteNext h.preSweep.stall (.finish (.trapIssue ?_))
    split
    on_goal 1 => apply Filed.post
    all_goals
      refine .foldl (.foldl (.foldl (.foldlAt (fun x : List (Nat × ReplyTo) × State × Bool => x.2.1) h1 fun _ _ h => h.replyTo) fun _ _ h => ?_)
        fun _ _ h => .ite h.acquire h) fun _ _ h => ?_
      · split <;> exact h
      · split
        · exact .ite h.freeJob h
        · exact h

end Sys2Proof.Proofs
end

section
/-!
PROOF. O48, O52: streams, cuts, and the matrix instructions leave what is on file alone.
-/
namespace Sys2Proof.Proofs
open Sys2Proof Sys2Proof.Machine Sys2Proof.Claim Sys2Proof.Laws
set_option Elab.async false

variable {Φ : Books} {s s0 : State}

/-! ### Streams and checkpoint cuts -/

theorem Filed.execRng {sw : Bool} {d a b : Fld} (h : Filed Φ s) : FiledNext Φ (execRng sw d a b s) := by
  unfold Machine.execRng
  split
  · next heq => exact h.prepare.halt heq
  · next heq => exact (h.prepare.go heq).deliver.finish

theorem Filed.execStream {sw : Bool} {d a : Fld} {f : Streams → Machine.Stream → Nat × Nat × Streams}
    (h : Filed Φ s) : FiledNext Φ (s.execStream sw d a f) := by
  unfold State.execStream
  split
  · next heq => exact h.prepare.halt heq
  · next heq =>
      have h1 := h.prepare.go heq
      split
      · next heq => exact (h1.fetchRecord h).stop heq
      · next heq => exact ((h1.fetchRecord h).ok heq).modIssCtx.deliver.finish

theorem Filed.startCut {c v n : Nat} {r : BitVec 512} (h : Filed Φ s) : Filed Φ (s.startCut c v n r) := h.settleHalves.addJob.taint.modCtx.post

theorem Filed.execCkcut {sw : Bool} {d a : Fld} (h : Filed Φ s) : FiledNext Φ (execCkcut sw d a s) := by
  unfold Machine.execCkcut
  dsimp only
  split
  · next heq => exact h.prepare.halt heq
  · next heq =>
      have h1 := h.prepare.go heq
      split
      · next heq => exact (h1.fetchRecord h).stop heq
      · next heq =>
          have h2 := (h1.fetchRecord h).ok heq
          refine Filed.iteNext h2.takeTrap ?_
          refine Filed.iteNext h2.deliver.finish ?_
          refine Filed.iteNext h2.deliver.finish ?_
          refine Filed.iteNext h2.deliver.finish ?_
          split
          · exact h.stall
          · exact Filed.iteNext h.stall (Filed.iteNext h.release.stall h2.release.startCut.deliver.finish)

theorem Filed.endCut {c n : Nat} {j : Job} {r : BitVec 512} {all : List (Nat × Nat)} (h : Filed Φ s) : Filed Φ (s.endCut c n j r all) :=
  .jobCode (.ite h.sendSess h)

theorem Filed.execCkptGranuleCopy {ctx : Nat} (h : Filed Φ s) : FiledNext Φ (execCkptGranuleCopy ctx s) := by
  unfold Machine.execCkptGranuleCopy
  split
  · exact h
  · refine Filed.iteNext h ?_
    split
    · refine Filed.iteNext h.jobCode.resumeHeld ?_
      split
      · exact h.endCut.resumeHeld
      · split
        · exact h.jobError
        · refine Filed.iteNext h.reportBad.modJob.post.resumeHeld ?_
          split
          · exact h.jobError
          · next heq => exact (h.copyOut.get heq).modJob.post.resumeHeld
    · exact h

theorem Filed.execCkptCowCopy {ctx granule : Nat} (h : Filed Φ s) : FiledNext Φ (execCkptCowCopy ctx granule s) := by
  unfold Machine.execCkptCowCopy
  split
  · next heq => exact (h.cowStep.get heq).resumeHeld
  · exact h

theorem Filed.execCutMapRead {h' : Hdr} {ctx : Nat} (h : Filed Φ s) : FiledNext Φ (execCutMapRead h' ctx s) := by
  unfold Machine.execCutMapRead
  refine Filed.mgmt h fun _ h => ?_
  split
  · exact h.noObject
  · exact h

/-! ### Operand reservations, tiles and passes -/

theorem Filed.defineOpr {ls : List Nat} {a n : Nat} (h : Filed Φ s) : FiledOk Φ (s.defineOpr ls a n) := by
  unfold State.defineOpr
  dsimp only
  refine Filed.iteOk trivial ?_
  refine Filed.iteOk trivial ?_
  refine Filed.iteOk trivial ?_
  split
  · exact trivial
  · exact Filed.iteOk trivial (Filed.iteOk trivial h.noteReads.modIssCore.inOk)

theorem Filed.eachQuarter {f : State → Nat → List Nat → Except Trap State} {lanes : List Nat} (h : Filed Φ s)
    (hf : ∀ t q ls, Filed Φ t → FiledOk Φ (f t q ls)) : Filed Φ (eachQuarter f s lanes).2 := by
  unfold Machine.eachQuarter
  refine .foldlSnd h fun _ _ h => ?_
  split
  · next heq => exact (hf _ _ _ h).get heq
  · exact h

theorem Filed.finishRest {sw : Bool} {lanes : List Nat} {ts : List (Nat × Trap)} (h : Filed Φ s) : Filed Φ (s.finishRest sw lanes ts) :=
  h.trapIssue.finish

theorem Filed.execOprDef {sw : Bool} {a : Fld} {n : BitVec 4} (h : Filed Φ s) : FiledNext Φ (execOprDef sw a n s) := by
  unfold Machine.execOprDef
  split
  · next heq => exact h.prepare.halt heq
  · next heq => exact Filed.iteNext h.stall (.finishRest ((h.prepare.go heq).eachQuarter fun _ _ _ h => h.defineOpr))

theorem Filed.execOprQry {sw : Bool} {d : Fld} {n : BitVec 4} (h : Filed Φ s) : FiledNext Φ (execOprQry sw d n s) := by
  unfold Machine.execOprQry
  split
  · next heq => exact h.prepare.halt heq
  · next heq => exact (h.prepare.go heq).deliver.finish

theorem Filed.execPlaneStore {sw scale : Bool} {d a : Fld} {n : BitVec 4} (h : Filed Φ s) : FiledNext Φ (s.execPlaneStore sw scale d a n) := by
  unfold State.execPlaneStore
  dsimp only
  split
  · next heq => exact h.prepare.halt heq
  · next heq => exact (h.prepare.go heq).trapIssue.memIssue h

theorem Filed.execPlaneLoad {sw scale : Bool} {d a : Fld} {n : BitVec 4} (h : Filed Φ s) : FiledNext Φ (s.execPlaneLoad sw scale d a n) := by
  unfold State.execPlaneLoad
  dsimp only
  split
  · next heq => exact h.prepare.halt heq
  · next heq => exact (h.prepare.go heq).trapIssue.memIssue h

theorem Filed.makeRoom {c v q line key need fuel : Nat} (h : Filed Φ s) : FiledRoom Φ (s.makeRoom c v q line key need fuel) := by
  induction fuel generalizing s with
  | zero => trivial
  | succ fuel ih =>
    unfold State.makeRoom
    dsimp only
    split
    · exact h
    · split
      · trivial
      · split
        · trivial
        · exact ih h.modLine.markArea

theorem Filed.tileRoom {q n more : Nat} (h : Filed Φ s) : FiledRoom Φ (s.tileRoom q n more) := by
  unfold State.tileRoom
  dsimp only
  split
  · exact trivial
  · refine Filed.makeRoom ?_
    split
    · exact h
    · exact h.modIssLine.markArea

theorem Filed.tileRooms {lanes : List Nat} {n more : Nat} (h : Filed Φ s) : FiledOptFst Φ (s.tileRooms lanes n more) := by
  unfold State.tileRooms
  refine Filed.foldlOptFst h fun _ _ h => ?_
  split
  · next heq => exact h.tileRoom.ok heq
  · exact trivial
  · exact h

theorem Filed.parkTiles {lanes : List Nat} {n more : Nat} (h : Filed Φ s) : FiledOptFst Φ (s.parkTiles lanes n more) := by
  unfold State.parkTiles
  cases hr : s.tileRooms lanes n more with
  | none => trivial
  | some r =>
    have h1 := h.tileRooms.getFst hr
    exact .ite h1 h1.noteBacking.parkRetry

theorem Filed.closeWindow {c v g : Nat} (h : Filed Φ s) : Filed Φ (s.closeWindow c v g) := .foldl h fun _ _ h => h.setQueue

theorem Filed.enqueueMmas {c v : Nat} {ps : List (Nat × (Nat → Pass))} (h : Filed Φ s) : Filed Φ (s.enqueueMmas c v ps) :=
  .ite h (.ite (.closeWindow (.bump (.foldl h fun _ _ h => h.setQueue.post))) (.post (.bump (.foldl h fun _ _ h => h.setQueue.post))))

theorem Filed.execMma {sw : Bool} {t : BitVec 4} {g : BitVec 3} {x y p : BitVec 4} (h : Filed Φ s) : FiledNext Φ (execMma sw t g x y p s) := by
  unfold Machine.execMma
  dsimp only
  split
  · next heq => exact h.prepare.halt heq
  · next heq =>
      have h1 := h.prepare.go heq
      refine Filed.iteNext h.stall ?_
      split
      · exact h.stall
      · next heq => exact Filed.iteNext h.stall (h1.parkTiles.getFst heq).residueCheck.enqueueMmas.finishRest

theorem Filed.execMmaPassStart {ctx vc q : Nat} (h : Filed Φ s) : FiledNext Φ (execMmaPassStart ctx vc q s) := by
  unfold Machine.execMmaPassStart
  dsimp only
  refine Filed.iteNext (Filed.ite h h.post) ?_
  split
  · exact h
  · split
    · exact Filed.ite h.post h.startPass
    · exact Filed.iteNext h.post (Filed.foldl h fun _ _ h => h.startPass)

theorem Filed.enqueueAll {passes : List (Nat × Pass)} (h : Filed Φ s) : FiledOpt Φ (s.enqueueAll passes) :=
  Filed.iteOpt trivial (Filed.inSome (.foldl h fun _ _ h => h.setQueue.post))

theorem Filed.execAccClr {sw : Bool} {t : BitVec 4} (h : Filed Φ s) : FiledNext Φ (execAccClr sw t s) := by
  unfold Machine.execAccClr
  split
  · exact h.stall
  · next heq =>
      have h1 := h.parkTiles.getFst heq
      split
      · exact h.stall
      · next heq => exact (h1.enqueueAll.get heq).finish

theorem Filed.execAccRd {sw : Bool} {d a : Fld} {t : BitVec 4} (h : Filed Φ s) : FiledNext Φ (execAccRd sw d a t s) := by
  unfold Machine.execAccRd
  dsimp only
  split
  · next heq => exact h.prepare.halt heq
  · next heq =>
      have h1 := h.prepare.go heq
      split
      · exact h.stall
      · next heq =>
          have h2 := h1.parkTiles.getFst heq
          split
          · exact h.stall
          · next heq =>
            exact (FiledOpt.get heq (Filed.enqueueAll
              (.foldlAt (fun x : List (Nat × Pass) × State × Bool => x.2.1) h2 fun _ _ h => h.replyTo))).finishRest

theorem Filed.enqueueDrain {q : Nat} {ls : List Nat} {p : Pass} (h : Filed Φ s) : Filed Φ (s.enqueueDrain q ls p) :=
  .ite h.setQueue.startPass (.bump (h.setQueue.post.modLanes))

theorem Filed.execDrains {sw : Bool} {ops : List OpSpec} {t f : BitVec 4} {L : Nat} (h : Filed Φ s) : FiledNext Φ (s.execDrains sw ops t f L) := by
  unfold State.execDrains
  dsimp only
  split
  · next heq => exact h.prepare.halt heq
  · next heq =>
      have h1 := h.prepare.go heq
      split
      · exact h.stall
      · next heq =>
          have h2 := h1.parkTiles.getFst heq
          refine Filed.iteNext h.stall ?_
          refine .foldl h2.finishRest fun _ _ h => ?_
          split
          · exact h
          · exact h.enqueueDrain

theorem Filed.execDrainSeqWrite {ctx vc line q : Nat} (h : Filed Φ s) : FiledNext Φ (execDrainSeqWrite ctx vc line q s) := by
  unfold Machine.execDrainSeqWrite
  split
  · exact h
  · refine Filed.iteNext h ?_
    refine Filed.iteNext h.post ?_
    refine Filed.iteNext (Filed.ite h.holdDrain h.post) ?_
    split
    · exact h.dropDrain
    · next heq =>
        have h1 := h.drainOne.done heq
        exact Filed.ite h1.post h1
    · next heq => exact (h.drainOne.wait heq).post
    · exact Filed.iteNext h.post h.holdDrain.post

end Sys2Proof.Proofs
end

section
/-!
PROOF. O48, O52: the choice of an action, virtual caches, and cores that leave and come back leave what is on file alone.
-/
namespace Sys2Proof.Proofs
open Sys2Proof Sys2Proof.Machine Sys2Proof.Claim Sys2Proof.Laws
set_option Elab.async false

variable {Φ : Books} {s s0 : State}

/-! ### The choice of an action -/

theorem Filed.tick (h : Filed Φ s) : Filed Φ s.tick := h

theorem Filed.takeGang {c : Cand} (h : Filed Φ s) : FiledChoice Φ (s.takeGang c) := h

theorem Filed.syncSets {k : CoreKey} (h : Filed Φ s) : Filed Φ (s.syncSets k) := .ite h.modCore h

theorem Filed.loseQueue {c v l : Nat} (h : Filed Φ s) : Filed Φ (s.loseQueue c v l) := .ite h.readStore (.foldl h.readStore fun _ _ h => h.takeTrap)

theorem Filed.settle (h : Filed Φ s) : Filed Φ s.settle := by
  unfold State.settle
  dsimp only
  refine .foldl ?_ fun _ _ h => h.syncSets
  refine .foldl ?_ fun _ _ h => ?_
  · refine .foldl ?_ fun _ _ h => h.rehome
    refine .foldl ?_ fun _ _ h => .ite h (.foldl h fun _ _ h => .ite h.post h)
    refine .foldl h fun _ _ h => ?_
    split
    · split
      · exact h.endStep
      · exact h
    · exact h
  · split
    · exact .ite h.loseQueue h
    · exact h

theorem Filed.takeEvent {n : Nat} (h : Filed Φ s) : FiledChoice Φ (s.takeEvent n) := by
  unfold State.takeEvent
  dsimp only
  split
  · exact h
  · exact trivial

theorem Filed.chooseDefault (h : Filed Φ s) : FiledChoice Φ s.chooseDefault := by
  unfold State.chooseDefault
  split
  · exact h.takeEvent
  · split
    · exact h.takeGang
    · exact h.takeEvent

theorem Filed.spillNth {n : Nat} (h : Filed Φ s) : Filed Φ (s.spillNth n) := by
  unfold State.spillNth
  split
  · exact h
  · exact h.spillReg

theorem Filed.choose (h : Filed Φ s) : FiledChoice Φ s.choose := by
  unfold State.choose
  dsimp only
  split
  · exact h.tick.settle.takeEvent
  · exact h.tick.settle
  · split
    · exact h.tick.settle.chooseDefault
    · split
      · exact Filed.takeEvent h.tick.settle
      · split
        · exact Filed.takeGang h.tick.settle
        · exact Filed.chooseDefault (.spillNth h.tick.settle)

/-! ### Virtual caches -/

theorem Filed.startChange {c n : Nat} {st : VState} {r : BitVec 512} {shares oldShares : List Nat}
    (h : Filed Φ s) : Filed Φ (s.startChange c n st r shares oldShares) :=
  .post (.foldl h.modVc fun _ _ h => h.post)

theorem Filed.startMigration {c n : Nat} {r : BitVec 512} (h : Filed Φ s) : FiledOpt Φ (s.startMigration c n r) := FiledOpt.map fun _ => h.startChange

theorem Filed.judgeVc {c n : Nat} {r : BitVec 512} {aligned : Bool} (h : Filed Φ s) : Filed Φ (s.judgeVc c n r aligned).2 := by
  unfold State.judgeVc
  dsimp only
  refine .iteSnd h ?_
  refine .iteSnd h ?_
  refine .iteSnd h ?_
  refine .iteSnd ?_ ?_
  · split
    · exact h
    · exact h.modVc.pair
  · refine .iteSnd (.iteSnd h h.startChange.pair) ?_
    refine .iteSnd h.modVc.pair ?_
    refine .iteSnd ?_ ?_
    · refine .iteSnd h.startChange.pair ?_
      split
      · exact h
      · exact h.startChange.pair
    · split
      · exact h
      · next heq => exact h.startMigration.get heq

theorem Filed.execVcAccept {r : VcReq} (h : Filed Φ s) : FiledNext Φ (execVcAccept r s) := by
  unfold Machine.execVcAccept
  dsimp only
  split
  · exact h
  · split
    · exact h.judgeVc
    · exact h.judgeVc.post

theorem Filed.execVcMoveStep {ctx vcn line : Nat} (h : Filed Φ s) : FiledNext Φ (execVcMoveStep ctx vcn line s) := by
  unfold Machine.execVcMoveStep
  dsimp only
  split
  · exact h
  · exact Filed.iteNext h.post (Filed.iteNext h.reportError h.modVc.rehome)

theorem Filed.followTo {c n smask : Nat} (h : Filed Φ s) : Filed Φ (s.followTo c n smask) := by
  unfold State.followTo
  split
  · next heq => exact (h.startMigration.get heq).modVc
  · exact h.modVc

theorem Filed.cutShares {c : Nat} (h : Filed Φ s) : Filed Φ (s.cutShares c) := .foldl h fun _ _ h => .ite h (.ite h h.startChange)

theorem Filed.retakeChanges (h : Filed Φ s) : Filed Φ s.retakeChanges := by
  unfold State.retakeChanges
  dsimp only
  refine .foldl h fun _ _ h => ?_
  refine .cutShares ?_
  refine .foldl h fun _ _ h => ?_
  refine .ite h ?_
  split
  · exact h.followTo
  · exact .ite ((FiledOpt.getD h.startMigration h)) h

theorem Filed.execVcdef {sw : Bool} {d a : Fld} {n : BitVec 3} (h : Filed Φ s) : FiledNext Φ (execVcdef sw d a n s) := by
  unfold Machine.execVcdef
  dsimp only
  split
  · next heq => exact h.prepare.halt heq
  · next heq =>
      have h1 := h.prepare.go heq
      refine Filed.iteNext h1.replyTo.post.finish ?_
      split
      · next heq => exact (h1.fetchRecord h).stop heq
      · next heq => exact ((h1.fetchRecord h).ok heq).replyTo.post.finish

theorem Filed.execVcqry {sw : Bool} {d : Fld} {n : BitVec 3} (h : Filed Φ s) : FiledNext Φ (execVcqry sw d n s) := by
  unfold Machine.execVcqry
  split
  · next heq => exact h.prepare.halt heq
  · next heq => exact (h.prepare.go heq).deliver.finish

theorem Filed.execQuotaSet {h' : Hdr} {ctx quota : Nat} (h : Filed Φ s) : FiledNext Φ (execQuotaSet h' ctx quota s) := by
  unfold Machine.execQuotaSet
  refine Filed.mgmt h fun _ h => ?_
  split
  · exact h.noObject
  · exact h.modCtx.retakeChanges.done

/-! ### Traps answered, scan, placement and images -/

theorem Filed.abandon {p : Place} (h : Filed Φ s) (hΦ : KeptByLoader Φ) : Filed Φ (s.abandon p) := by
  unfold State.abandon
  dsimp only
  refine Filed.exitThread (.unreserve ?_) hΦ.places
  split
  · exact h
  · exact h

theorem Filed.actOnTrap {c : Nat} {ps : List Place} {action : Nat} (h : Filed Φ s) (hΦ : KeptByLoader Φ) : Filed Φ (s.actOnTrap c ps action) :=
  .ite (.foldl h fun _ _ h => h.abandon hΦ) (.wakeHeld (.foldl h fun _ _ h => h.answerTrap))

theorem Filed.answer {c tseq action : Nat} (h : Filed Φ s) (hΦ : KeptByLoader Φ) : Filed Φ (State.answer c tseq action s).2.2 :=
  .iteSnd2 h.noObject (.iteSnd2 h.refused (.done (.actOnTrap (.ite h.modCtx h) hΦ)))

theorem Filed.execTrapResume {h' : Hdr} {ctx tseq : Nat} (h : Filed Φ s) (hΦ : KeptByLoader Φ) : FiledNext Φ (execTrapResume h' ctx tseq s) :=
  Filed.mgmt h fun _ h => h.answer hΦ

theorem Filed.execTrapRetry {h' : Hdr} {ctx tseq : Nat} (h : Filed Φ s) (hΦ : KeptByLoader Φ) : FiledNext Φ (execTrapRetry h' ctx tseq s) :=
  Filed.mgmt h fun _ h => h.answer hΦ

theorem Filed.execTrapAbandon {h' : Hdr} {ctx tseq : Nat} (h : Filed Φ s) (hΦ : KeptByLoader Φ) : FiledNext Φ (execTrapAbandon h' ctx tseq s) :=
  Filed.mgmt h fun _ h => h.answer hΦ

theorem Filed.takeSlices {c q : Nat} (h : Filed Φ s) : Filed Φ (s.takeSlices c q) := .ite h (.ite h.modCtx.modSquare h.modCtx.modSquare.wakeUnits)

theorem Filed.drainL1 {c v : Nat} (h : Filed Φ s) : Filed Φ (s.drainL1 c v) := h.settleHalves.writeBackAll.modCore

theorem Filed.unplace {c v : Nat} {r : CoreRun} (h : Filed Φ s) : Filed Φ (s.unplace c v r) := by
  unfold State.unplace
  split
  · exact h
  · exact .ite h.modCore.modCtx.takeSlices.post h.modCore.modCtx.takeSlices

theorem Filed.execPreemptDeadline {ctx : Nat} (h : Filed Φ s) : FiledNext Φ (execPreemptDeadline ctx s) := by
  unfold Machine.execPreemptDeadline
  refine Filed.iteNext h ?_
  refine .foldl h fun _ _ h => ?_
  split
  · exact h.post
  · exact h.post
  · exact h

theorem Filed.execForcedStop {ctx vc : Nat} {kind : StopKind} (h : Filed Φ s) : FiledNext Φ (execForcedStop ctx vc kind s) := by
  unfold Machine.execForcedStop
  dsimp only
  refine Filed.iteNext h ?_
  split
  · exact h.modCore.drainL1.post
  · exact h.modCore.drainL1.post
  · exact h

theorem Filed.endLaunches {c : Nat} (h : Filed Φ s) : Filed Φ (s.endLaunches c) := .foldl h fun _ _ h => .ite h (.sendSess h)

theorem Filed.dropContext {c : Nat} (h : Filed Φ s) (hΦ : KeptByLoader Φ) : Filed Φ (s.dropContext c) :=
  have h1 := h.endLaunches (c := c)
  .retakeChanges (.wakeUnits (hΦ.places _ _ _ _ (hΦ.forgets _ _ _ c h1)))

theorem Filed.addImage {i : Image} (h : Filed Φ s) : Filed Φ { s with images := s.images ++ [i] } := h

theorem Filed.execScanComplete {ctx vc : Nat} (h : Filed Φ s) (hΦ : KeptByLoader Φ) : FiledNext Φ (execScanComplete ctx vc s) := by
  unfold Machine.execScanComplete
  dsimp only
  split
  · refine Filed.iteNext h.post ?_
    refine Filed.iteNext ?_ ?_
    · split
      · exact h.modCore.jobCode
      · exact h.dropContext hΦ
    · split
      · exact .post (.unplace (.modCtx h.addImage))
      · exact .unplace (.modCtx h.addImage)
  · exact h

theorem Filed.writeImage {c n : Nat} {j : Job} {core buf : Nat} (h : Filed Φ s) : Filed Φ (s.writeImage c n j core buf) := by
  unfold State.writeImage
  split
  · exact h.jobCode
  · split
    · exact h.jobError
    · next heq => exact (FiledOk.get heq (Filed.foldlOk h fun _ _ h => h.jobWrite)).jobCode

theorem Filed.staleFaults {c v : Nat} (h : Filed Φ s) : Filed Φ (s.staleFaults c v) := h

theorem Filed.putSlices {c v q : Nat} (h : Filed Φ s) : Filed Φ (s.putSlices c v q) :=
  .foldl (.modCtx h.withSquares) fun _ _ h => h.clearBad.modSquare

theorem Filed.lateAnswers {c v : Nat} (h : Filed Φ s) (hΦ : KeptByLoader Φ) : Filed Φ (s.lateAnswers c v) := .foldl h fun _ _ h => .ite h (.ite (h.actOnTrap hΦ).modCtx (h.actOnTrap hΦ))

theorem Filed.placeCore {c v p : Nat} (h : Filed Φ s) (hΦ : KeptByLoader Φ) : Filed Φ (s.placeCore c v p) :=
  .raiseApexes (.lateAnswers (.wakeYielded (.foldl (.putSlices (.staleFaults h.modCtx.modCore)) fun _ _ h => h.modThread)) hΦ)

theorem Filed.followMoves {c : Nat} {old new : List (Nat × Nat)} (h : Filed Φ s) : Filed Φ (s.followMoves c old new) :=
  .foldl h fun _ _ h => .ite h (.ite h.followTo h.modVc)

theorem Filed.resume {c : Nat} {m : List (Nat × Nat)} (h : Filed Φ s) (hΦ : KeptByLoader Φ) : Filed Φ (s.resume c m) :=
  .wakeUnits (.resumeHeld (.followMoves (.modCtx (.setPreq (.foldl h fun _ _ h => h.placeCore hΦ)))))

theorem Filed.vacate {c : Nat} (h : Filed Φ s) : Filed Φ (s.vacate c) := .ite h (.foldl h fun _ _ h => .foldl h fun _ _ h => h.drainL1.unplace)

theorem Filed.execContextResume {ctx : Nat} {cores : List Nat} (h : Filed Φ s) (hΦ : KeptByLoader Φ) : FiledNext Φ (execContextResume ctx cores s) := by
  unfold Machine.execContextResume
  dsimp only
  split
  · exact h
  · refine Filed.iteNext h ?_
    refine Filed.iteNext h.post ?_
    refine Filed.iteNext (h.dropContext hΦ) ?_
    split
    · exact Filed.ite h.post (h.resume hΦ)
    · refine Filed.iteNext h ?_
      split
      · exact Filed.ite h.post (h.vacate.resume hΦ)
      · exact h.post

theorem Filed.execContextMigrate {ctx : Nat} {cores : List Nat} (h : Filed Φ s) (hΦ : KeptByLoader Φ) : FiledNext Φ (execContextMigrate ctx cores s) := by
  unfold Machine.execContextMigrate
  split
  · exact h
  · exact Filed.iteNext h (Filed.wakeUnits (.resumeHeld (.followMoves (.foldl (.foldl h fun _ _ h => h.drainL1.unplace) fun _ _ h => h.placeCore hΦ))))

theorem Filed.reinstall {ps : List (Push × Nat)} (h : Filed Φ s) : Filed Φ (s.reinstall ps) := by
  unfold State.reinstall
  refine .foldl h fun _ _ h => ?_
  split
  · exact h
  · exact h.modLine

theorem Filed.engineActs {c v : Nat} (h : Filed Φ s) : Filed Φ (s.engineActs c v) :=
  .foldl (.foldl (.foldl h fun _ _ h => .ite h h.post) fun _ _ h => h.post) fun _ _ h => .foldl h fun _ _ h => .ite h h.post

theorem Filed.loadImage {i : Image} (h : Filed Φ s) (hΦ : KeptByLoader Φ) : Filed Φ (s.loadImage i) := by
  unfold State.loadImage
  dsimp only
  have h1 : Filed Φ (if (s.phys? i.ctx i.vc).isSome then (s.drainL1 i.ctx i.vc).unplace i.ctx i.vc (.image i.seq) else s) := .ite h.drainL1.unplace h
  refine .ite h (.withLaunches (.engineActs (.foldl (.reinstall (.setPan ?_)) fun _ _ h => h.post)))
  exact hΦ.places _ _ _ _ h1

theorem Filed.restoreScan {c n : Nat} {j : Job} {core buf : Nat} (h : Filed Φ s) (hΦ : KeptByLoader Φ) : Filed Φ (s.restoreScan c n j core buf) := by
  unfold State.restoreScan
  dsimp only
  split
  · exact h.jobError
  · next heq =>
      have h1 := h.jobRead.get heq
      split
      · exact h1.jobError
      · next heq =>
          have h2 : Filed Φ _ := FiledVal.get heq (Filed.foldlVal h1 fun _ _ h => h.jobRead.map)
          split
          · exact h2.jobCode
          · exact .ite h2.post ((h2.loadImage hΦ).placeCore hΦ).resumeHeld.wakeUnits.jobCode

theorem Filed.execImageRestore {ctx vc core : Nat} (h : Filed Φ s) (hΦ : KeptByLoader Φ) : FiledNext Φ (execImageRestore ctx vc core s) := by
  unfold Machine.execImageRestore
  split
  · split
    · exact Filed.ite h (h.restoreScan hΦ)
    · exact h
  · split
    · exact h
    · exact Filed.iteNext (h.resume hΦ) h

theorem Filed.execJobElement {ctx job : Nat} (h : Filed Φ s) : FiledNext Φ (execJobElement ctx job s) := by
  unfold Machine.execJobElement
  split
  · exact h
  · refine Filed.iteNext h ?_
    refine Filed.iteNext h.post ?_
    split
    · exact Filed.ite h.post h.copyElement
    · exact Filed.ite h.post h.chainElement
    · exact h.collElement
    · exact h.post
    · exact h.writeImage
    · exact h.post
    · exact h.post

end Sys2Proof.Proofs
end

section
/-!
PROOF. O48, O52: the debug unit, the host port, management, and launches leave what is on file alone.
-/
namespace Sys2Proof.Proofs
open Sys2Proof Sys2Proof.Machine Sys2Proof.Claim Sys2Proof.Laws
set_option Elab.async false

variable {Φ : Books} {s s0 : State}

/-! ### Watchpoints and debug stops -/

theorem Filed.debugRecord {c : Nat} {r : Nat → BitVec 256} (h : Filed Φ s) : Filed Φ (s.debugRecord c r) := h.queueRecord

theorem Filed.skids {h' : Hit} {cores : List (Nat × Nat)} (h : Filed Φ s) : Filed Φ (s.skids h' cores) := by
  unfold State.skids
  dsimp only
  refine .foldl h fun _ _ h => ?_
  split
  · exact h
  · refine .foldl h fun _ _ h => ?_
    split
    · exact h
    · exact h.debugRecord

theorem Filed.startStop {h' : Hit} {hits : List Nat} (h : Filed Φ s) : Filed Φ (s.startStop h' hits) :=
  .skids (.modSquare (.foldl h fun _ _ h => h.modCore))

theorem Filed.endStop {q c : Nat} (h : Filed Φ s) : Filed Φ (s.endStop q c) := .foldl h.modSquare fun _ _ h => .ite h h.endStep.modCore

theorem Filed.clearWatch {q wp : Nat} (h : Filed Φ s) : Filed Φ (s.clearWatch q wp) := by
  unfold State.clearWatch
  split
  · exact h
  · exact .ite h.modSquare.endStop h.modSquare

/-! ### The host port -/

theorem Filed.hostOpen {c : Nat} {wr : Bool} {ia : Nat} (h : Filed Φ s) : FiledOpt Φ (s.hostOpen c wr ia) := by
  unfold State.hostOpen
  split
  · refine Filed.iteOpt trivial ?_
    split
    · exact trivial
    · next heq => exact Filed.iteOpt h.markLeaf.cowStep (h.touchL2.get heq).correctDram.markLeaf.inSome
  · exact h

theorem Filed.hostOpens {c : Nat} {wr : Bool} {ias : List Nat} (h : Filed Φ s) : FiledOpt Φ (s.hostOpens c wr ias) :=
  Filed.foldlOpt h fun _ _ h => h.hostOpen

/-- The state in which a frame that is next in sequence is taken. -/
theorem Filed.framed {t u : State} {h' : Hdr} {ty : Nat} (h : Filed Φ s) (e : s.takeFrame h' ty = (some t, u)) : Filed Φ t :=
  h.frame.get (congrArg Prod.fst e)

theorem Filed.execHostWrite {h' : Hdr} {window offset : Nat} {data : List Byte}
    (h : Filed Φ s) : FiledNext Φ (execHostWrite h' window offset data s) := by
  unfold Machine.execHostWrite
  refine Filed.iteNext h.post ?_
  split
  · next heq => exact Filed.snd heq h.takeFrame
  · next heq =>
      have h1 := h.framed heq
      split
      · exact (h1.hostOpens.getD h1).writeIa.observe.sendSess.tookEffect
      · exact h1.sendSess.tookEffect
      · exact h1

theorem Filed.execHostRead {h' : Hdr} {window offset len : Nat} (h : Filed Φ s) : FiledNext Φ (execHostRead h' window offset len s) := by
  unfold Machine.execHostRead
  dsimp only
  refine Filed.iteNext h.post ?_
  split
  · next heq => exact Filed.snd heq h.takeFrame
  · next heq =>
      have h1 := h.framed heq
      split
      · split
        · exact (h1.hostOpens.getD h1).reportBad.sendSess.tookEffect
        · exact (h1.hostOpens.getD h1).observe.sendSess.tookEffect
      · exact h1.sendSess.tookEffect
      · exact h1

theorem Filed.releasePort (h : Filed Φ s) : Filed Φ s.releasePort := .foldl h fun _ _ h => h.emit

/-! ### Management of contexts, queues and sessions -/

theorem Filed.newContext {c n quota : Nat} {priv : Bool} {root : Nat} (h : Filed Φ s) : Filed Φ (s.newContext c n quota priv root) := h

theorem Filed.execContextCreate {h' : Hdr} {ctx n quota : Nat} {priv : Bool} {root : Nat} {vc0 : Option (BitVec 512)}
    (h : Filed Φ s) : FiledNext Φ (execContextCreate h' ctx n quota priv root vc0 s) := by
  unfold Machine.execContextCreate
  dsimp only
  refine Filed.mgmt h fun _ h => ?_
  refine .iteSnd2 h.refused ?_
  split
  · exact h.refused
  · exact h.newContext.modVc.done

theorem Filed.execContextDestroy {h' : Hdr} {ctx : Nat} (h : Filed Φ s) (hΦ : KeptByLoader Φ) : FiledNext Φ (execContextDestroy h' ctx s) := by
  unfold Machine.execContextDestroy
  refine Filed.mgmt h fun _ h => ?_
  split
  · exact h.noObject
  · exact (h.dropContext hΦ).done

theorem Filed.forgetQueue {q : Nat} (h : Filed Φ s) : Filed Φ (s.forgetQueue q) := h

theorem Filed.execQueueUnbind {h' : Hdr} {queue : Nat} (h : Filed Φ s) : FiledNext Φ (execQueueUnbind h' queue s) := by
  unfold Machine.execQueueUnbind
  refine Filed.mgmt h fun _ h => ?_
  split
  · exact h.noObject
  · exact .iteSnd2 h.refused (.done (.forgetQueue (q := queue) h))

theorem Filed.execWindowOpenClose {h' : Hdr} {opn : Bool} {window sess ctx base size : Nat} {rd wr : Bool}
    (h : Filed Φ s) : FiledNext Φ (execWindowOpenClose h' opn window sess ctx base size rd wr s) := by
  unfold Machine.execWindowOpenClose
  dsimp only
  refine Filed.mgmt h fun _ h => ?_
  refine .iteSnd2 ?_ (.iteSnd2 h.noObject (.done h))
  split
  · exact .iteSnd2 h.refused (.done h)
  · exact h.noObject

theorem Filed.closeSession {n c : Nat} (h : Filed Φ s) : Filed Φ (s.closeSession n c) := by
  unfold State.closeSession
  dsimp only
  split
  · split
    · exact .ite h.jobCode h
    · exact h
  · exact h

theorem Filed.execSessionOpenClose {h' : Hdr} {opn : Bool} {sess ctx : Nat} {key : BitVec 256}
    (h : Filed Φ s) : FiledNext Φ (execSessionOpenClose h' opn sess ctx key s) := by
  unfold Machine.execSessionOpenClose
  refine Filed.mgmt h fun _ h => ?_
  refine .iteSnd2 h.refused ?_
  refine .iteSnd2 ?_ ?_
  · split
    · exact h.noObject
    · exact h.refused
    · exact .done h
  · split
    · exact h.noObject
    · exact h.closeSession.done

theorem Filed.execPortStatus {h' : Hdr} {port : Nat} {set : Option (List Nat × List Nat)}
    (h : Filed Φ s) : FiledNext Φ (execPortStatus h' port set s) := by
  unfold Machine.execPortStatus
  refine Filed.mgmt h fun _ h => ?_
  split
  · exact .iteSnd2 h.refused (.done h)
  · exact .iteSnd2 h.noObject h

theorem Filed.execDelayThrashSet {h' : Hdr} {cls delay : Nat} {thrash : Option (Nat × Nat × Nat)}
    (h : Filed Φ s) : FiledNext Φ (execDelayThrashSet h' cls delay thrash s) := by
  unfold Machine.execDelayThrashSet
  refine Filed.mgmt h fun _ h => ?_
  split
  · exact .iteSnd2 h.refused (.done h)
  · exact .iteSnd2 h.refused (.done h)

theorem Filed.zeroAdded {d ob os b z : Nat} (h : Filed Φ s) : Filed Φ (s.zeroAdded d ob os b z) :=
  .modDie (.withBadChip h)

theorem Filed.execMarketAllotmentSet {h' : Hdr} {ctx die base size : Nat}
    (h : Filed Φ s) : FiledNext Φ (execMarketAllotmentSet h' ctx die base size s) := by
  unfold Machine.execMarketAllotmentSet
  dsimp only
  refine Filed.iteNext h.post ?_
  refine Filed.mgmt h fun _ h => ?_
  split
  · exact h.noObject
  · exact .iteSnd2 h.refused h.zeroAdded.modCtx.done

/-! ### Promotion -/

theorem Filed.execGangPromotion {ctx vc : Nat} (h : Filed Φ s) : FiledNext Φ (execGangPromotion ctx vc s) := by
  unfold Machine.execGangPromotion
  dsimp only
  split
  · exact h
  · exact h.modCore

theorem Filed.startScan {c n op p : Nat} (h : Filed Φ s) (hΦ : KeptByLoader Φ) : Filed Φ (s.startScan c n op p) := by
  unfold State.startScan
  split
  · split
    · exact h.post
    · exact h
  · exact h.post
  · split
    · exact (h.placeCore hΦ).wakeHeld.wakeUnits.post
    · exact h.post

theorem Filed.execScan {sw : Bool} {d a b : Fld} (h : Filed Φ s) (hΦ : KeptByLoader Φ) : FiledNext Φ (s.execScan sw d a b) := by
  unfold State.execScan
  dsimp only
  split
  · next heq => exact h.prepare.halt heq
  · next heq =>
      have h1 := h.prepare.go heq
      refine Filed.iteNext h1.deliver.finish ?_
      refine Filed.iteNext h1.deliver.finish ?_
      split
      · exact h1.takeTrap
      · split
        · exact h.stall
        · exact h1.addJob.deliver.finish.startScan hΦ

theorem Filed.execWpset {sw : Bool} {d a b : Fld} (h : Filed Φ s) : FiledNext Φ (execWpset sw d a b s) := by
  unfold Machine.execWpset
  dsimp only
  split
  · next heq => exact h.prepare.halt heq
  · next heq =>
      have h1 := h.prepare.go heq
      refine Filed.iteNext h1.deliver.finish ?_
      split
      · exact h1.deliver.finish
      · exact h1.modSquare.deliver.finish

theorem Filed.execWpclr {sw : Bool} {b : Fld} (h : Filed Φ s) : FiledNext Φ (execWpclr sw b s) := by
  unfold Machine.execWpclr
  split
  · next heq => exact h.prepare.halt heq
  · next heq => exact (h.prepare.go heq).clearWatch.finish

theorem Filed.execStep {sw : Bool} {d a : Fld} (h : Filed Φ s) : FiledNext Φ (execStep sw d a s) := by
  unfold Machine.execStep
  dsimp only
  refine Filed.iteNext h.stall ?_
  split
  · next heq => exact h.prepare.halt heq
  · next heq =>
      have h1 := h.prepare.go heq
      refine Filed.iteNext h1.deliver.finish ?_
      refine Filed.iteNext h1.deliver.finish ?_
      refine Filed.iteNext h1.deliver.finish ?_
      split
      · exact h1.deliver.finish
      · exact h1.countIssue.replyTo.modCore.stall

/-! ### Launches -/

theorem Filed.modLaunch {uid : Nat} {f : Launch → Launch} (h : Filed Φ s) : Filed Φ (s.modLaunch uid f) := by
  unfold State.modLaunch
  split
  · exact h
  · exact h

theorem Filed.offerNext {uid queue : Nat} (h : Filed Φ s) : Filed Φ (s.offerNext uid queue) :=
  .post (.foldl h fun _ _ h => .ite h (.foldl h fun _ _ h => .ite h.post h))

theorem Filed.completeLaunch {uid code : Nat} (h : Filed Φ s) : Filed Φ (s.completeLaunch uid code) := by
  unfold State.completeLaunch
  dsimp only
  split
  · exact h
  · refine .offerNext ?_
    refine .sendSess ?_
    split
    · exact h.modLaunch
    · exact h.modLaunch

theorem Filed.bufferActions {p : Launch} {buf vcs : Nat} (h : Filed Φ s) : Filed Φ (s.bufferActions p buf vcs).2 :=
  .pair <| .ite (.foldl (.ite (.foldl h.settleHalves fun _ _ h => h.writeBackAll) h.settleHalves) fun _ _ h => .foldl h fun _ _ h => h.writeBack)
    (.ite (.foldl h.settleHalves fun _ _ h => h.writeBackAll) h.settleHalves)

theorem Filed.execEdgeSatisfied {uid edge : Nat} (h : Filed Φ s) : FiledNext Φ (execEdgeSatisfied uid edge s) := by
  unfold Machine.execEdgeSatisfied
  dsimp only
  split
  · exact h
  · refine Filed.iteNext h ?_
    split
    · exact Filed.ite h.modLaunch.post h.modLaunch
    · refine Filed.iteNext h ?_
      refine Filed.iteNext h.completeLaunch ?_
      split
      · next heq =>
          have h1 := Filed.snd heq h.bufferActions
          exact Filed.ite h1.modLaunch.post h1.modLaunch
      · next heq => exact (Filed.snd heq h.bufferActions).post

theorem Filed.execLaunch {h' : Hdr} {queue : Nat} {recd : BitVec 2048} (h : Filed Φ s) : FiledNext Φ (execLaunch h' queue recd s) := by
  unfold Machine.execLaunch
  dsimp only
  split
  · next heq => exact Filed.snd heq h.takeFrame
  · next heq =>
      have h1 := h.framed heq
      split
      · exact h1.sendSess.tookEffect
      · refine Filed.iteNext (h1.sendSess.tookEffect) ?_
        refine Filed.iteNext (h1.sendSess.tookEffect) ?_
        refine .tookEffect ?_
        refine .ite (.completeLaunch (.sendSess h1)) ?_
        refine .ite (.post (.sendSess h1)) ?_
        refine .foldl (.sendSess h1) fun _ _ h => ?_
        split
        · exact h.post
        · exact .ite h.post h

theorem Filed.sweepEntry {uid : Nat} (h : Filed Φ s) : Filed Φ (s.sweepEntry uid) := by
  unfold State.sweepEntry
  split
  · exact h
  · exact .foldl h fun _ _ h => h.preSweep

theorem Filed.enterCore {uid v : Nat} (h : Filed Φ s) : Filed Φ (s.enterCore uid v) := by
  unfold State.enterCore
  split
  · exact h
  · exact .ite h h.acquire.modLaunch

theorem Filed.freshSlice {c v n slice : Nat} (h : Filed Φ s) : Filed Φ (s.freshSlice c v n slice) :=
  .modCore (.modLine (.foldl h fun _ _ h => h.clearBad))

theorem Filed.placeUnit {uid k u : Nat} (h : Filed Φ s) (hΦ : KeptByLoader Φ) : FiledOpt Φ (s.placeUnit uid k u) := by
  unfold State.placeUnit
  dsimp only
  split
  · exact trivial
  · split
    · exact trivial
    · refine Filed.iteOpt trivial (Filed.inSome (.modLaunch (.foldl (.freshSlice ?_) fun _ _ h => h.withThreads hΦ.places)))
      exact h.enterCore

theorem Filed.placeRun {uid : Nat} {run : List Nat} (h : Filed Φ s) : FiledOpt Φ (s.placeRun uid run) := by
  unfold State.placeRun
  dsimp only
  split
  · exact trivial
  · split
    · exact h
    · exact Filed.iteOpt trivial h.makeGroup.modLaunch.inSome

theorem Filed.placeBatch {uid : Nat} {r : BitVec 2048} {b : List (Nat × Nat)} (h : Filed Φ s) (hΦ : KeptByLoader Φ) : FiledOpt Φ (s.placeBatch uid r b) := by
  unfold State.placeBatch
  split
  · exact h
  · split
    · exact trivial
    · next heq => exact Filed.foldlOpt (FiledOpt.get heq (Filed.foldlOpt h fun _ _ h => h.placeUnit hΦ)) fun _ _ h => h.placeRun

theorem Filed.placeUnits {uid : Nat} {r : BitVec 2048} {fuel : Nat} {stuck : List Nat} {us : List (Nat × Nat)}
    (h : Filed Φ s) (hΦ : KeptByLoader Φ) : Filed Φ (placeUnits uid r fuel stuck s us).1 := by
  induction fuel generalizing s stuck us with
  | zero => exact h
  | succ fuel ih =>
    unfold Machine.placeUnits
    split
    · exact h
    · dsimp only
      split
      · exact ih h
      · next heq => exact ih ((h.placeBatch hΦ).get heq)

theorem Filed.placeLaunch {uid : Nat} (h : Filed Φ s) (hΦ : KeptByLoader Φ) : Filed Φ (s.placeLaunch uid) := by
  unfold State.placeLaunch
  split
  · exact h
  · exact .ite (h.placeUnits hΦ).modLaunch.raiseApexes.post (h.placeUnits hΦ).modLaunch.raiseApexes

theorem Filed.execUnitPlace {uid : Nat} (h : Filed Φ s) (hΦ : KeptByLoader Φ) : FiledNext Φ (execUnitPlace uid s) := by
  unfold Machine.execUnitPlace
  split
  · exact h
  · exact Filed.iteNext h (h.sweepEntry.placeLaunch hΦ).checkLaunch

theorem Filed.copyData {c : Nat} {r : BitVec 2048} {k : Kernel} (h : Filed Φ s) : FiledOk Φ (s.copyData c r k) := by
  unfold State.copyData
  refine Filed.iteOk h ?_
  split
  · exact trivial
  · exact .map fun _ he => (h.openPages.get he).writeIa

theorem Filed.readyCores {c : Nat} {cores : List Nat} (h : Filed Φ s) (hΦ : KeptByLoader Φ) : FiledOpt Φ (s.readyCores c cores) :=
  Filed.iteOpt h (Filed.iteOpt trivial (FiledOpt.map fun _ => .foldl h fun _ _ h => h.placeCore hΦ))

theorem Filed.startLaunch {uid : Nat} {cores : List Nat} (h : Filed Φ s) (hΦ : KeptByLoader Φ) : FiledOpt Φ (s.startLaunch uid cores) := by
  unfold State.startLaunch
  dsimp only
  split
  · exact trivial
  · split
    · next heq _ =>
        have h1 := (h.readyCores hΦ).get heq
        refine Filed.iteOpt h1.completeLaunch.inSome ?_
        refine Filed.iteOpt h1.completeLaunch.inSome ?_
        refine Filed.iteOpt trivial ?_
        refine Filed.iteOpt h1.completeLaunch.inSome ?_
        split
        · exact Filed.iteOpt trivial h1.completeLaunch.inSome
        · next heq => exact ((h1.copyData.get heq).modLaunch.placeLaunch hΦ).checkLaunch.inSome
    · trivial

theorem Filed.execLaunchStart {queue : Nat} {cores : List Nat} (h : Filed Φ s) (hΦ : KeptByLoader Φ) : FiledNext Φ (execLaunchStart queue cores s) := by
  unfold Machine.execLaunchStart
  dsimp only
  split
  · exact h
  · refine Filed.iteNext ?_ (Filed.iteNext (Filed.post (.ite h.sweepEntry h.sweepEntry.post)) h.sweepEntry)
    split
    · next heq =>
        have h1 := (h.sweepEntry.startLaunch hΦ).get heq
        exact Filed.ite (Filed.post h1) h1
    · exact h.sweepEntry

theorem Filed.execLaunchComplete {uid : Nat} (h : Filed Φ s) : FiledNext Φ (execLaunchComplete uid s) := by
  unfold Machine.execLaunchComplete
  split
  · exact h
  · refine Filed.iteNext h ?_
    split
    · next heq => exact (Filed.snd heq h.bufferActions).completeLaunch
    · next heq => exact (Filed.snd heq h.bufferActions).post

theorem Filed.execPreemptDelayExpiry {queue : Nat} (h : Filed Φ s) : FiledNext Φ (execPreemptDelayExpiry queue s) := by
  unfold Machine.execPreemptDelayExpiry
  split
  · exact h
  · split
    · exact h
    · exact Filed.iteNext h (Filed.foldl h fun _ _ h => h.setPreq)

/-! ### Images of kernels -/

theorem Filed.execImageSubmit {h' : Hdr} {ctx va len : Nat} (h : Filed Φ s) (hΦ : KeptByLoader Φ) : FiledNext Φ (execImageSubmit h' ctx va len s) := by
  unfold Machine.execImageSubmit
  refine Filed.mgmt h fun _ h => ?_
  split
  · exact h.noObject
  · split
    · exact h.refused
    · split
      · exact h.refused
      · next heq =>
          have h1 := h.openPages.get heq
          refine .iteSnd2 h1.refused ?_
          split
          · exact h1
          · exact hΦ.loads _ _ _ _ h1

end Sys2Proof.Proofs
end

section
/-!
PROOF. O48, O52: the rest of the memory instructions, power, and every action leave what is on file alone.
-/
namespace Sys2Proof.Proofs
open Sys2Proof Sys2Proof.Machine Sys2Proof.Claim Sys2Proof.Laws
set_option Elab.async false

variable {Φ : Books} {s s0 : State}

theorem Filed.execImageRelease {h' : Hdr} {ctx khnd : Nat} (h : Filed Φ s) (hΦ : KeptByLoader Φ) : FiledNext Φ (execImageRelease h' ctx khnd s) := by
  unfold Machine.execImageRelease
  refine Filed.mgmt h fun _ h => ?_
  split
  · exact h.noObject
  · next k hk => exact .iteSnd2 h.noObject (hΦ.releases _ _ _ _ _ h hk)

theorem Filed.execLoad {sw : Bool} {lvl : Lvl} {nt : Bool} {d a b : Fld} {t : BitVec 3} (h : Filed Φ s) : FiledNext Φ (s.execLoad sw lvl nt d a b t) := by
  unfold State.execLoad
  dsimp only
  split
  · next heq => exact h.prepare.halt heq
  · next heq => exact (h.prepare.go heq).memIssue h

theorem Filed.execStore {sw : Bool} {lvl : Lvl} {nt : Bool} {d a b : Fld} {t : BitVec 3}
    (h : Filed Φ s) : FiledNext Φ (s.execStore sw lvl nt d a b t) := by
  unfold State.execStore
  dsimp only
  split
  · next heq => exact h.prepare.halt heq
  · next heq => exact (h.prepare.go heq).memIssue h

theorem Filed.prefetch1 {addr : Nat} (h : Filed Φ s) : Filed Φ (s.prefetch1 addr) := by
  unfold State.prefetch1
  split
  · exact h
  · split
    · next heq => exact h.loadL1.get heq
    · exact h

theorem Filed.prefetch2 {addr : Nat} (h : Filed Φ s) : Filed Φ (s.prefetch2 addr) := by
  unfold State.prefetch2
  split
  · exact h
  · split
    · next heq => exact h.openPage.get heq
    · exact h

theorem Filed.execPrf {sw : Bool} {a b : Fld} {f : State → Nat → State} (h : Filed Φ s)
    (hf : ∀ t n, Filed Φ t → Filed Φ (f t n)) : FiledNext Φ (s.execPrf sw a b f) := by
  unfold State.execPrf
  split
  · next heq => exact h.prepare.halt heq
  · next heq => exact Filed.finish (.foldl (h.prepare.go heq) fun _ _ h => hf _ _ h)

theorem Filed.execAtom {sw : Bool} {op : AtomOp} {d a : Fld} {w : BitVec 3} {c : BitVec 4} (h : Filed Φ s) : FiledNext Φ (s.execAtom sw op d a w c) := by
  unfold State.execAtom
  dsimp only
  split
  · next heq => exact h.prepare.halt heq
  · next heq => exact (h.prepare.go heq).memIssue h

theorem Filed.execRed {sw : Bool} {op : AtomOp} {d a : Fld} {w : BitVec 3} {c : BitVec 4} (h : Filed Φ s) : FiledNext Φ (s.execRed sw op d a w c) := by
  unfold State.execRed
  split
  · next heq => exact h.prepare.halt heq
  · next heq => exact (h.prepare.go heq).memIssue h

theorem Filed.execFence {sw : Bool} {k : FenceKind} {c : BitVec 4} (h : Filed Φ s) : FiledNext Φ (s.execFence sw k c) := 
  .parkHeld (h.memIssue h)

theorem Filed.execScset {sw : Bool} {a : Fld} {c : BitVec 4} (h : Filed Φ s) : FiledNext Φ (execScset sw a c s) := by
  unfold Machine.execScset
  split
  · next heq => exact h.prepare.halt heq
  · next heq => exact ((h.prepare.go heq).gangIssue h).parkHeld

theorem Filed.execScqry {sw : Bool} {d : Fld} {c : BitVec 4} (h : Filed Φ s) : FiledNext Φ (execScqry sw d c s) := by
  unfold Machine.execScqry
  split
  · next heq => exact h.prepare.halt heq
  · next heq => exact (h.prepare.go heq).deliver.finish

theorem Filed.execScmem {sw : Bool} {d : Fld} {c : BitVec 4} (h : Filed Φ s) : FiledNext Φ (execScmem sw d c s) := by
  unfold Machine.execScmem
  split
  · next heq => exact h.prepare.halt heq
  · next heq => exact (h.prepare.go heq).deliver.finish

theorem Filed.cutOff (h : Filed Φ s) : Filed Φ s.cutOff := .foldl h fun _ _ h => .foldl h fun _ _ h => .ite h.jobCode h

theorem Filed.setBank {g : BankGroup} {b : BankSt} (h : Filed Φ s) : Filed Φ (s.setBank g b) := h

theorem Filed.modRas {f : Ras → Ras} (h : Filed Φ s) : Filed Φ (s.modRas f) := h

theorem Filed.stopContextsOn {p : Nat} (h : Filed Φ s) : Filed Φ (s.stopContextsOn p) := by
  unfold State.stopContextsOn
  dsimp only
  refine .foldl h fun _ _ h => ?_
  refine .ite h ?_
  refine .foldl h.modCtx fun _ _ h => ?_
  split
  · exact h.post
  · exact h.post
  · exact h

theorem Filed.loseGroup {g : BankGroup} (h : Filed Φ s) : Filed Φ (s.loseGroup g) := by
  unfold State.loseGroup
  split
  · exact h.logError.modRas.retakeChanges
  · exact h.logError.modRas.modDie
  · exact h.logError.modRas.stopContextsOn

theorem Filed.markBank {g : BankGroup} {bank : Nat} (h : Filed Φ s) : Filed Φ (s.markBank g bank) :=
  .ite h (.ite h.logError.count.setBank.loseGroup (.ite h.logError.count.setBank.post h.logError.count.setBank))

theorem Filed.execBankRebuildRow {g : BankGroup} (h : Filed Φ s) : FiledNext Φ (execBankRebuildRow g s) := by
  unfold Machine.execBankRebuildRow
  dsimp only
  split
  · exact h
  · exact Filed.iteNext h.setBank.post h.setBank.logError.count

theorem Filed.setClock {die tenths : Nat} (h : Filed Φ s) : Filed Φ (s.setClock die tenths) := .ite h h.modDie

theorem Filed.execCorePowerRemove (h : Filed Φ s) (hΦ : KeptByLoader Φ) : FiledNext Φ (execCorePowerRemove s) :=
  have h1 : Filed Φ (s.ctxs.foldl (fun s e => s.dropContext e.1) s) := .foldl h fun _ _ h => h.dropContext hΦ
  Filed.iteNext h <| show Filed Φ _ from h1

/-- A device that powers up has on file what the reset state has. -/
theorem filed_execPowerUp {straps : Straps} (h : Filed Φ State.reset) : FiledNext Φ (execPowerUp straps s) :=
  .modRas (.foldl h fun _ _ h => h.markBank)

theorem Filed.execShli {sw : Bool} {d a : Fld} {w : Bool} {c : BitVec 6} (h : Filed Φ s) : FiledNext Φ (execShli sw d a w c s) :=
  Filed.iteNext h.compute h.compute

theorem Filed.execShri {sw : Bool} {d a : Fld} {w : Bool} {c : BitVec 6} (h : Filed Φ s) : FiledNext Φ (execShri sw d a w c s) :=
  Filed.iteNext h.compute h.compute

theorem Filed.execSari {sw : Bool} {d a : Fld} {w : Bool} {c : BitVec 6} (h : Filed Φ s) : FiledNext Φ (execSari sw d a w c s) :=
  Filed.iteNext h.compute h.compute

theorem Filed.execRotri {sw : Bool} {d a : Fld} {w : Bool} {c : BitVec 6} (h : Filed Φ s) : FiledNext Φ (execRotri sw d a w c s) :=
  Filed.iteNext h.compute h.compute

theorem Filed.execLeave {sw : Bool} (h : Filed Φ s) : FiledNext Φ (execLeave sw s) :=
  Filed.finish (.foldl h fun _ _ h => h.leaveGroup)

theorem Filed.execPanHoldExpiry {pan : PanId} {p : Partial} (h : Filed Φ s) : FiledNext Φ (execPanHoldExpiry pan p s) :=
  Filed.iteNext h.post (Filed.ite (Filed.ite h.setPan.failPan h.setPan.forward) h)

theorem Filed.execWin {sw : Bool} {b : Fld} (h : Filed Φ s) : FiledNext Φ (execWin sw b s) :=
  h.trapIssue.modLanes.finish

theorem Filed.execDpair {t u : Bool} {e f : BitVec 10} (h : Filed Φ s) : FiledNext Φ (execDpair t u e f s) :=
  Filed.iteNext h.trapAll h.modLanes

theorem Filed.execChFree {sw : Bool} {k : BitVec 3} (h : Filed Φ s) : FiledNext Φ (execChFree sw k s) :=
  Filed.iteNext h.stall (.finish (h.modIssLine))

theorem Filed.execStorePerform {ctx vc ia : Nat} (h : Filed Φ s) : FiledNext Φ (execStorePerform ctx vc ia s) :=
  h.settleHalves.writeBack

theorem Filed.execOprRel {sw : Bool} {n : BitVec 4} (h : Filed Φ s) : FiledNext Φ (execOprRel sw n s) :=
  Filed.iteNext h.stall <| .finishRest <| h.eachQuarter fun _ _ _ h => by
    split
    · exact h
    · exact Filed.iteOk h.modIssCore trivial

theorem Filed.execVcCommit {ctx vcn : Nat} (h : Filed Φ s) : FiledNext Φ (execVcCommit ctx vcn s) :=
  Filed.iteNext h (Filed.iteNext h.post h.modVc.retakeChanges.rehome)

theorem Filed.execCoreRelease {ctx vc : Nat} (h : Filed Φ s) : FiledNext Φ (execCoreRelease ctx vc s) :=
  Filed.iteNext h h.drainL1.unplace

theorem Filed.execWatchpointHit {hit : Hit} (h : Filed Φ s) : FiledNext Φ (execWatchpointHit hit s) :=
  Filed.iteNext h <| Filed.iteNext (.modSquare (.ite h.debugRecord (.foldl h fun _ _ h => h.debugRecord.debugRecord))) <|
    Filed.iteNext (.ite h.debugRecord (.foldl h fun _ _ h => h.debugRecord.debugRecord))
      (.startStop (.ite h.debugRecord (.foldl h fun _ _ h => h.debugRecord.debugRecord)))

theorem Filed.execArpRequest {a : Ask} (h : Filed Φ s) : FiledNext Φ (execArpRequest a s) :=
  Filed.ite h.send h

theorem Filed.execIcmpEcho {a : Ask} (h : Filed Φ s) : FiledNext Φ (execIcmpEcho a s) :=
  Filed.ite h.send h

theorem Filed.execPriorityFlowControlFrame {classes paused : BitVec 8} (h : Filed Φ s) : FiledNext Φ (execPriorityFlowControlFrame classes paused s) :=
  Filed.iteNext h (Filed.releasePort h)

theorem Filed.execQueueBind {h' : Hdr} {queue ctx cls : Nat} (h : Filed Φ s) : FiledNext Φ (execQueueBind h' queue ctx cls s) :=
  Filed.mgmt h fun _ h => .iteSnd2 h.noObject (.iteSnd2 h.refused (.done (.forgetQueue (q := queue) h)))

theorem Filed.execFabricRecordWrite {h' : Hdr} {recd : BitVec 512} {routes : List (Nat × Nat)}
    (h : Filed Φ s) : FiledNext Φ (execFabricRecordWrite h' recd routes s) :=
  Filed.mgmt h fun _ h => .iteSnd2 h.refused (.done h)

theorem Filed.execFabricGroupOp {h' : Hdr} {create : Bool} {gid ctx dev : Nat}
    (h : Filed Φ s) : FiledNext Φ (execFabricGroupOp h' create gid ctx dev s) :=
  Filed.mgmt h fun _ h => .iteSnd2 (.iteSnd2 h.refused (.done h)) (.iteSnd2 h.noObject (.iteSnd2 h.refused (.done h)))

theorem Filed.execLongLatencyReturn {r : Result} (h : Filed Φ s) : FiledNext Φ (execLongLatencyReturn r s) :=
  h.catchFlits.applyResult

theorem Filed.execBrk {sw : Bool} (h : Filed Φ s) : FiledNext Φ (execBrk sw s) :=
  Filed.iteNext h.trapAll h.finish.post

theorem Filed.execScinv {sw : Bool} {c : BitVec 4} (h : Filed Φ s) : FiledNext Φ (execScinv sw c s) :=
  h.modIssCtx.finish

theorem Filed.execFlitRetransmit {port : Nat} (h : Filed Φ s) : FiledNext Φ (execFlitRetransmit port s) :=
  h

theorem Filed.execPortStateChange {port : Nat} {state : PortState} (h : Filed Φ s) : FiledNext Φ (execPortStateChange port state s) :=
  Filed.iteNext h (Filed.cutOff h)

theorem Filed.execClockDroop {die tenths : Nat} (h : Filed Φ s) : FiledNext Φ (execClockDroop die tenths s) :=
  Filed.iteNext h h.setClock.count

theorem Filed.execClockStepUp {die : Nat} (h : Filed Φ s) : FiledNext Φ (execClockStepUp die s) :=
  Filed.iteNext h h.setClock

theorem Filed.execGovernorRound {demand : List Nat} (h : Filed Φ s) : FiledNext Φ (execGovernorRound demand s) :=
  Filed.ite (Filed.count (.foldl h fun _ _ h => h.modDie)) (Filed.foldl h fun _ _ h => h.modDie)

theorem Filed.execThermalLimit {die : Nat} (h : Filed Φ s) : FiledNext Φ (execThermalLimit die s) :=
  Filed.logError h

theorem Filed.execThermalTrip (h : Filed Φ s) : FiledNext Φ (execThermalTrip s) :=
  Filed.post h

/-! ## Every action leaves what is on file alone -/

theorem Filed.exec {i : Instr} (h : Filed Φ s) (hΦ : KeptByLoader Φ) (hup : ∀ x, i ≠ .powerUp x) : FiledNext Φ (exec i s) := by
  unfold Machine.exec
  cases i with
  | longLatencyReturn => exact h.execLongLatencyReturn
  | gangPromotion => exact h.execGangPromotion
  | channelPushArrive => exact h.execChannelPushArrive
  | storePerform => exact h.execStorePerform
  | gatewayPageFault | writebackFault => exact h.recordFault
  | trapRecordEnqueue => exact h.execTrapRecordEnqueue
  | partialArrive => exact h.execPartialArrive
  | panHoldExpiry => exact h.execPanHoldExpiry
  | ctbmLeafArrive => exact h.execCtbmLeafArrive
  | closeMarkerArrive => exact h.execCloseMarkerArrive
  | slotResolve => exact h.execSlotResolve
  | slotFinal => exact h.execSlotFinal
  | mmaPassStart => exact h.execMmaPassStart
  | fusionWindowExpiry => exact h.closeWindow
  | drainSeqWrite => exact h.execDrainSeqWrite
  | jobElement => exact h.execJobElement
  | jobRetire => exact h.execJobRetire
  | collectiveWindowGrant => exact h.execCollectiveWindowGrant
  | collectiveRootReturn => exact h.execCollectiveRootReturn
  | ckptGranuleCopy => exact h.execCkptGranuleCopy
  | ckptCowCopy => exact h.execCkptCowCopy
  | vcAccept => exact h.execVcAccept
  | vcMoveStep => exact h.execVcMoveStep
  | vcCommit => exact h.execVcCommit
  | pageMigrate => exact h.execPageMigrate
  | thrashThrottleExpiry => exact h.modCtx
  | launch => exact h.execLaunch
  | launchStart => exact h.execLaunchStart hΦ
  | unitPlace => exact h.execUnitPlace hΦ
  | edgeSatisfied => exact h.execEdgeSatisfied
  | launchComplete => exact h.execLaunchComplete
  | preemptDelayExpiry => exact h.execPreemptDelayExpiry
  | preemptDeadline => exact h.execPreemptDeadline
  | coreRelease => exact h.execCoreRelease
  | forcedStop => exact h.execForcedStop
  | scanComplete => exact h.execScanComplete hΦ
  | imageRestore => exact h.execImageRestore hΦ
  | contextResume => exact h.execContextResume hΦ
  | contextMigrate => exact h.execContextMigrate hΦ
  | watchpointHit => exact h.execWatchpointHit
  | hostWrite => exact h.execHostWrite
  | hostRead => exact h.execHostRead
  | lctAck => exact h.execLctAck
  | lctRetransmitTimeout => exact h.execLctRetransmitTimeout
  | contextCreate => exact h.execContextCreate
  | contextDestroy => exact h.execContextDestroy hΦ
  | queueBind => exact h.execQueueBind
  | queueUnbind => exact h.execQueueUnbind
  | rangeRegisterWrite => exact h.execRangeRegisterWrite
  | pageMap => exact h.execPageMap
  | pageUnmap => exact h.execPageUnmap
  | pageChange => exact h.execPageChange
  | windowOpenClose => exact h.execWindowOpenClose
  | sessionOpenClose => exact h.execSessionOpenClose
  | faultResolve => exact h.execFaultResolve
  | faultFail => exact h.execFaultFail
  | trapResume => exact h.execTrapResume hΦ
  | trapRetry => exact h.execTrapRetry hΦ
  | trapAbandon => exact h.execTrapAbandon hΦ
  | fabricRecordWrite => exact h.execFabricRecordWrite
  | fabricGroupOp => exact h.execFabricGroupOp
  | portStatus => exact h.execPortStatus
  | cutMapRead => exact h.execCutMapRead
  | delayThrashSet => exact h.execDelayThrashSet
  | imageSubmit => exact h.execImageSubmit hΦ
  | imageRelease => exact h.execImageRelease hΦ
  | quotaSet => exact h.execQuotaSet
  | marketAllotmentSet => exact h.execMarketAllotmentSet
  | arpRequest => exact h.execArpRequest
  | icmpEcho => exact h.execIcmpEcho
  | flitRetransmit => exact h.execFlitRetransmit
  | portStateChange => exact h.execPortStateChange
  | bankMarkFailed => exact h.markBank
  | bankRebuildRow => exact h.execBankRebuildRow
  | clockDroop => exact h.execClockDroop
  | clockStepUp => exact h.execClockStepUp
  | governorRound => exact h.execGovernorRound
  | thermalLimit => exact h.execThermalLimit
  | thermalTrip => exact h.execThermalTrip
  | corePowerRemove => exact h.execCorePowerRemove hΦ
  | powerUp x => exact absurd rfl (hup x)
  | unassignedWordIssue | trap => exact h.trapAll
  | priorityFlowControlFrame => exact h.execPriorityFlowControlFrame
  | addI32 | subI32 | addSatI32 | subSatI32 | addSatN32 | subSatN32 | mulloI32 | mulhiI32 | mulhiN32 | minI32 | maxI32 | minN32 | maxN32 | absI32 |
    negI32 | addI64 | subI64 | mulloI64 | mulhiI64 | mulhiN64 | minI64 | maxI64 | minN64 | maxN64 | negI64 | absI64 | andB32 | orB32 | xorB32 |
    andnB32 | ornB32 | xnorB32 | notB32 | shlB32 | shrB32 | sarB32 | rotlB32 | rotrB32 | movB32 | movB64 | popcB32 | clzB32 | ctzB32 | brevB32 |
    bfeI32 | bfeN32 | bfiB32 | bselB32 | shlB64 | shrB64 | sarB64 | popcB64 | clzB64 | setEqB32 | setNeB32 | setLtI32 | setLeI32 | setLtN32 |
    setLeN32 | setEqB64 | setNeB64 | setLtI64 | setLeI64 | setLtN64 | setLeN64 | selB32 | selB64 | addiI32 | andiB32 | oriB32 | xoriB32 | andB64 |
    orB64 | xorB64 | notB64 | rotlB64 | rotrB64 | movi | movhi | movlo | addaI | addaN | madaN32 | extI32 | extN32 | truncB64 | faddF32 | fsubF32 |
    fmulF32 | ffmaF32 | faddF64 | fsubF64 | fmulF64 | ffmaF64 | faddBf16x2 | fsubBf16x2 | fmulBf16x2 | ffmaBf16x2 | faddF16x2 | fsubF16x2 |
    fmulF16x2 | ffmaF16x2 | fminF32 | fmaxF32 | fabsF32 | fnegF32 | fcpsgnF32 | fdivF32 | fsqrtF32 | fsetEqF32 | fsetNeF32 | fsetLtF32 | fsetLeF32 |
    fsetUnF32 | fclassF32 | fminF64 | fmaxF64 | fabsF64 | fnegF64 | fcpsgnF64 | fdivF64 | fsqrtF64 | fsetEqF64 | fsetNeF64 | fsetLtF64 | fsetLeF64 |
    fsetUnF64 | fclassF64 | fminBf16x2 | fmaxBf16x2 | fabsBf16x2 | fnegBf16x2 | fminF16x2 | fmaxF16x2 | fabsF16x2 | fnegF16x2 | frcpF32 | frsqrtF32
    | fexp2F32 | flog2F32 | fsinpiF32 | fcospiF32 | ftanhF32 | frcpF64 | frsqrtF64 | fexp2F64 | flog2F64 | cvt | cvtpBf16x2F32 | cvtpF16x2F32 |
    insE8 | insE4 | extE8 | extE4 | cvtS8E8m0 | cvtE8m0S8 | sclF32 | sclF64 | dp4I8 | dp4N8 | dp4F8e4m3 | dp4F8e5m2 | dp8I4 | dp8N4 | dp8F4e2m1 =>
    exact h.compute
  | shli => exact h.execShli
  | shri => exact h.execShri
  | sari => exact h.execSari
  | rotri => exact h.execRotri
  | srd | srdPos => exact h.readSpecial
  | swr | swrFst | swrPreq | swrFltcc => exact h.writeSpecial
  | ldP | ldC | ldQ | ldM | ldG | ldGNt => exact h.execLoad
  | stP | stC | stQ | stM | stG | stGNt => exact h.execStore
  | prfL1 => exact h.execPrf fun _ _ h => h.prefetch1
  | prfL2 => exact h.execPrf fun _ _ h => h.prefetch2
  | atomAdd | atomAnd | atomOr | atomXor | atomMinI | atomMaxI | atomMinN | atomMaxN | atomExch | atomCas => exact h.execAtom
  | redAdd | redAnd | redOr | redXor | redMinI | redMaxI | redMinN | redMaxN => exact h.execRed
  | fenceAcq | fenceRel | fenceAr | fenceSc => exact h.execFence
  | scset => exact h.execScset
  | scinv => exact h.execScinv
  | scqry => exact h.execScqry
  | scmem => exact h.execScmem
  | ctb => exact h.execCtb
  | ctbn => exact h.execCtbn
  | ctbm => exact h.execCtbm
  | slotOpen => exact h.execSlotOpen
  | slotClose => exact h.execSlotClose
  | slotWait => exact h.execSlotWait
  | slotStat => exact h.execSlotStat
  | oprDef => exact h.execOprDef
  | oprRel => exact h.execOprRel
  | oprQry => exact h.execOprQry
  | stp | stpSc => exact h.execPlaneStore
  | ldp | ldpSc => exact h.execPlaneLoad
  | mma => exact h.execMma
  | accClr => exact h.execAccClr
  | accRd => exact h.execAccRd
  | drain | drainMx => exact h.execDrains
  | cpy | chain => exact h.jobMould fun _ _ h => h.post
  | cpyc => exact h.jobMould fun _ _ h => h.startColl
  | cpyw => exact h.execCpyw
  | chBind => exact h.execChBind
  | chFree => exact h.execChFree
  | chCnt => exact h.execChCnt
  | rng => exact h.execRng
  | rngReg | rngUnreg => exact h.execStream
  | vcdef => exact h.execVcdef
  | vcqry => exact h.execVcqry
  | ckcut => exact h.execCkcut
  | bnz | bz => exact h.execBranch
  | call => exact h.execCall
  | jmpi | calli | ret => exact h.execIndirect
  | exit => exact h.execExit hΦ.places
  | ychk => exact h.execYchk
  | yield => exact h.execYield
  | win => exact h.execWin
  | gnew => exact h.execGnew
  | join => exact h.execJoin
  | leave => exact h.execLeave
  | bar => exact h.execBar
  | brk => exact h.execBrk
  | nop => exact h.finish
  | fltReplay => exact h.execFltReplay
  | scanStop | scanRestore | scanRestart => exact h.execScan hΦ
  | wpset => exact h.execWpset
  | wpclr => exact h.execWpclr
  | step => exact h.execStep
  | dpair => exact h.execDpair

end Sys2Proof.Proofs
end

section
/-!
PROOF. Loaded code never changes (R103, for O48): the handles and the code of the kernels are a statement that the loader keeps too.
-/
namespace Sys2Proof.Proofs
open Sys2Proof Sys2Proof.Machine Sys2Proof.Claim Sys2Proof.Laws
set_option Elab.async false

/-! ## Handles name one kernel, and its code stays -/

section Tables
variable {κ α : Type} [DecidableEq κ] {t : List (κ × α)} {k : κ} {v : α}

theorem look_of_mem (hn : (t.map (·.1)).Nodup) (hm : (k, v) ∈ t) : look t k = some v := by
  induction t with
  | nil => cases hm
  | cons e r ih =>
    obtain ⟨a, w⟩ := e
    obtain ⟨ha, hr⟩ := List.nodup_cons.mp hn
    rcases List.mem_cons.mp hm with heq | hm
    · cases heq
      simp [look]
    · have hne : a ≠ k := fun hak => ha (List.mem_map.mpr ⟨_, hm, hak.symm⟩)
      simp [look, hne, ih hr hm]

end Tables

/-- Handles name one kernel and those to come are not in use, as `HandlesOnce` says, and the kernels that stood in table K, whose handles are
not given out again, are made of what they were. -/
def CodeKept (K : Tbl Nat Kernel) : Books := fun ks n _ =>
  (ks.map (·.1)).Nodup ∧ (∀ e ∈ ks, e.1 < n) ∧ ∀ a x, look K a = some x → a < n ∧ ∀ m, (a, m) ∈ ks → sameCode x m

theorem sameCode_refl (k : Kernel) : sameCode k k := ⟨rfl, rfl, rfl, rfl, rfl, rfl, rfl⟩

theorem filed_codeKept {s : State} (h : HandlesOnce s) : Filed (CodeKept s.kernels) s := by
  refine ⟨h.1, h.2, fun a x hx => ⟨h.2 _ (look_mem hx), fun m hm => ?_⟩⟩
  obtain rfl : x = m := Option.some.inj (hx.symm.trans (look_of_mem h.1 hm))
  exact sameCode_refl x

theorem keptByLoader_codeKept {K : Tbl Nat Kernel} : KeptByLoader (CodeKept K) where
  places _ _ _ _ h := h
  loads ks n _ x := by
    rintro ⟨hnd, hlt, hK⟩
    refine ⟨?_, fun e he => ?_, fun a y hy => ⟨(hK a y hy).1.trans (Nat.lt_succ_self n), fun m hm => ?_⟩⟩
    · rw [List.map_append]
      refine List.nodup_append.mpr ⟨hnd, List.nodup_singleton n, fun a ha b hb hab => ?_⟩
      obtain ⟨e, he, rfl⟩ := List.mem_map.mp ha
      obtain rfl := List.mem_singleton.mp hb
      exact absurd (hlt e he) (by omega)
    · rcases List.mem_append.mp he with he | he
      · exact (hlt e he).trans (Nat.lt_succ_self n)
      · rw [List.mem_singleton.mp he]
        exact Nat.lt_succ_self n
    · rcases List.mem_append.mp hm with hm | hm
      · exact (hK a y hy).2 m hm
      · have := (hK a y hy).1
        cases List.mem_singleton.mp hm
        omega
  releases ks n _ b x := by
    rintro ⟨hnd, hlt, hK⟩ hx
    refine ⟨nodup_keys_put hnd, fun e he => ?_, fun a y hy => ⟨(hK a y hy).1, fun m hm => ?_⟩⟩
    · rcases mem_put he with rfl | he
      · exact hlt (b, x) (look_mem hx)
      · exact hlt e he
    · rcases mem_put hm with heq | hm
      · obtain ⟨rfl, rfl⟩ := Prod.mk.inj heq
        exact (hK a y hy).2 x (look_mem hx)
      · exact (hK a y hy).2 m hm
  forgets ks n _ c := by
    rintro ⟨hnd, hlt, hK⟩
    exact ⟨nodup_keys_filter _ hnd, fun e he => hlt e (List.mem_of_mem_filter he),
      fun a y hy => ⟨(hK a y hy).1, fun m hm => (hK a y hy).2 m (List.mem_of_mem_filter hm)⟩⟩

/-- What O48 says of a state after another. -/
def CodeStaysIn (s t : State) : Prop :=
  HandlesOnce t ∧ ∀ a k m, look s.kernels a = some k → look t.kernels a = some m → sameCode k m

theorem codeStaysIn_of_filed {s t : State} (h : Filed (CodeKept s.kernels) t) : CodeStaysIn s t := by
  obtain ⟨hnd, hlt, hK⟩ := h
  exact ⟨⟨hnd, hlt⟩, fun a k m hk hm => (hK a k hk).2 m (look_mem hm)⟩

/-- With no kernel on file nothing is to be kept. -/
theorem codeStaysIn_of_empty {s t : State} (h : t.kernels = []) : CodeStaysIn s t := by
  simp [CodeStaysIn, HandlesOnce, h, look]

theorem codeStaysIn_exec {s u t : State} {i : Instr} (h : Filed (CodeKept s.kernels) u) (ht : exec i u = .next t) : CodeStaysIn s t := by
  by_cases hup : ∃ x, i = .powerUp x
  · obtain ⟨x, rfl⟩ := hup
    have hnone : FiledNext (fun ks _ _ => ks = []) (exec (.powerUp x) u) := filed_execPowerUp (straps := x) (s := u) rfl
    exact codeStaysIn_of_empty (hnone.get ht)
  · exact codeStaysIn_of_filed ((h.exec keptByLoader_codeKept (not_exists.mp hup)).get ht)

/-- Settles O48: each operation keeps the statement that handles name one kernel each, made of what it was; a device that powers up has no kernel. -/
theorem codeStays : Obligations.CodeStays := by
  intro s t hs ht
  have hfiled := filed_codeKept hs
  have hchoose := hfiled.choose
  unfold Machine.step at ht
  split at ht
  · cases ht
    exact codeStaysIn_of_filed hfiled.tick
  · next heq => exact codeStaysIn_exec (hchoose.event heq) ht
  · next heq =>
    split at ht
    · exact codeStaysIn_exec (hchoose.issue heq) ht
    · exact codeStaysIn_exec (hchoose.issue heq) ht

end Sys2Proof.Proofs
end

section
/-!
PROOF. The gangs of a core
    (R132, R239, R240), for O52: who stands in the entry that a slice offers, and in the gang that issues.
-/
namespace Sys2Proof.Proofs
open Sys2Proof Sys2Proof.Machine Sys2Proof.Claim Sys2Proof.Laws
set_option Elab.async false

/-! ## Lists without repetition, and sorted lists -/

section Lists
variable {α : Type}

theorem mem_dedup_iff [DecidableEq α] {l : List α} {x : α} : x ∈ dedup l ↔ x ∈ l := by
  have hacc : ∀ acc : List α, x ∈ l.foldl (fun acc x => if acc.contains x then acc else acc ++ [x]) acc ↔ x ∈ acc ∨ x ∈ l := by
    induction l with
    | nil => simp
    | cons y r ih =>
      intro acc
      rw [List.foldl_cons, ih]
      by_cases hy : y ∈ acc
      · have hx : x = y → x ∈ acc := fun h => h ▸ hy
        simp [hy]
        tauto
      · simp [hy, or_assoc]
  simpa [dedup] using hacc []

theorem insertOn_perm {f : α → Nat} {x : α} {l : List α} : (insertOn f x l).Perm (x :: l) := by
  induction l with
  | nil => exact .refl _
  | cons y r ih =>
    unfold insertOn
    split
    · exact .refl _
    · exact (ih.cons y).trans (.swap x y r)

theorem sortNat_perm {l : List Nat} : (sortNat l).Perm l := by
  induction l with
  | nil => exact .refl _
  | cons x r ih => exact insertOn_perm.trans (ih.cons x)

end Lists

/-! ## Threads of a line -/

section Lines
variable {s : State} {c v line l : Nat} {t : Thread}

/-- With one thread at a place at most, a line's thread is the one at its lane. -/
theorem look_of_lineThreads (hn : (s.threads.map (·.1)).Nodup) (hm : (l, t) ∈ s.lineThreads c v line) :
    look s.threads ⟨c, v, line, l⟩ = some t := by
  obtain ⟨⟨p, x⟩, hp, heq⟩ := List.mem_map.mp hm
  obtain ⟨hmem, hat⟩ := List.mem_filter.mp hp
  simp only [Bool.and_eq_true, beq_iff_eq] at hat
  obtain ⟨⟨rfl, rfl⟩, rfl⟩ := hat
  cases heq
  exact look_of_mem hn hmem

theorem nodup_lineThreads (hn : (s.threads.map (·.1)).Nodup) : ((s.lineThreads c v line).map (·.1)).Nodup := by
  rw [State.lineThreads, List.map_map]
  refine List.Nodup.map_on (fun e he e' he' hl => ?_) (hn.of_map _ |>.filter _)
  obtain ⟨hm, hat⟩ := List.mem_filter.mp he
  obtain ⟨hm', hat'⟩ := List.mem_filter.mp he'
  simp only [Bool.and_eq_true, beq_iff_eq] at hat hat'
  have hkey : e.1 = e'.1 := by
    obtain ⟨⟨hc, hv⟩, hl0⟩ := hat
    obtain ⟨⟨hc', hv'⟩, hl0'⟩ := hat'
    obtain ⟨⟨a, b, d, f⟩, x⟩ := e
    obtain ⟨⟨a', b', d', f'⟩, x'⟩ := e'
    simp_all
  exact Prod.ext hkey (Option.some.inj ((look_of_mem hn (k := e.1) (v := e.2) hm).symm.trans (hkey ▸ look_of_mem hn (k :=
      e'.1) (v := e'.2) hm')))

end Lines

/-! ## Offers and gangs -/

section Gangs
variable {s : State} {c v line : Nat} {ts : List (Nat × Thread)} {o : Offer} {g : GangNow}

/-- A lane stands in an entry at a position, and not at `bar`. -/
def standsAt (s : State) (c v line : Nat) (p : Pos) (e : Nat × Thread) : Bool :=
  s.unparked ⟨c, v, line, e.1⟩ e.2 && e.2.pos == p && e.2.stat != .bar

theorem filter_standsAt {p : Pos} : ((ts.filter fun e => s.unparked ⟨c, v, line, e.1⟩ e.2).filter fun x => x.2.pos == p).filter
    (fun x => x.2.stat != .bar) = ts.filter (standsAt s c v line p) := by
  rw [List.filter_filter, List.filter_filter]
  congr 1
  funext x
  unfold standsAt
  cases s.unparked ⟨c, v, line, x.1⟩ x.2 <;> simp [Bool.and_comm]

/-- A lane in an entry that is not at `bar`, and waits for no result past an S point, may issue. -/
theorem eligible_of_standsAt {p : Pos} {e : Nat × Thread} (he : standsAt s c v line p e = true) (hpast : pastOf e.2 = none) :
    s.eligible ⟨c, v, line, e.1⟩ e.2 = true := by
  simp only [standsAt, Bool.and_eq_true] at he
  obtain ⟨⟨hun, -⟩, hbar⟩ := he
  cases hs : e.2.stat with
  | run => simp [State.eligible, hs]
  | sync id => simp [pastOf, hs] at hpast
  | bar => simp [hs] at hbar
  | parked id => simpa [State.unparked, hs] using hun
  | parkedRetry id => simp [State.unparked, hs] at hun
  | trapped a b => simp [State.unparked, hs] at hun
  | yielded => simp [State.unparked, hs] at hun

/-- Who stands in an offered entry that is not at `bar`: the lanes at its position, which have all opened its pair if the
    entry has; with no
result outstanding past an S point each may issue. -/
theorem offer_stands (ho : s.offer c v line ts = some o) (hbar : o.atBar = false) :
    o.lanes = (ts.filter (standsAt s c v line o.pos)).map (·.1) ∧ ts.filter (standsAt s c v line o.pos) ≠ [] ∧
    o.opened = (ts.filter (standsAt s c v line o.pos)).all (·.2.opened) ∧
    (o.past = none → ∀ e ∈ ts.filter (standsAt s c v line o.pos), s.eligible ⟨c, v, line, e.1⟩ e.2 = true) := by
  unfold State.offer at ho
  dsimp only at ho
  split at ho
  · cases ho
  · next e es hus =>
    split at ho
    · cases ho
      cases hbar
    · next hel =>
      cases ho
      simp only [filter_standsAt] at hel ⊢
      refine ⟨trivial, hel, trivial, fun hpast e he => ?_⟩
      by_contra hinel
      have hnone := List.findSome?_eq_none_iff.mp hpast e he
      rw [if_neg hinel] at hnone
      exact hinel (eligible_of_standsAt (List.mem_filter.mp he).2 hnone)

/-- Threads of a line that make up a gang: at its lanes, each once, at its position, and each may issue; the gang has opened
    the pair there if
each of them has. -/
structure MadeOf (s : State) (c v : Nat) (g : GangNow) (es : List (Nat × Thread)) : Prop where
  lanes : g.lanes.Perm (es.map (·.1))
  some : es ≠ []
  distinct : (es.map (·.1)).Nodup
  there : ∀ e ∈ es, e ∈ s.lineThreads c v g.line
  stand : ∀ e ∈ es, e.2.pos = g.pos ∧ s.eligible ⟨c, v, g.line, e.1⟩ e.2 = true ∧ e.1 < 32
  opened : g.opened = es.all (·.2.opened)

/-- The entries that the slices of a line offer. -/
def offersOf (s : State) (c v line : Nat) : List (Nat × Offer) :=
  (List.range 8).filterMap (fun q => (s.offer c v line ((s.lineThreads c v line).filter (fun e => e.1 / 4 == q))).map
      (fun o => (q, o)))

theorem offersOf_distinct : (offersOf s c v line).Pairwise fun a b => a.1 ≠ b.1 := by
  refine List.Pairwise.filterMap _ (fun a a' hne b hb b' hb' => ?_) List.nodup_range
  obtain ⟨o, -, rfl⟩ := Option.map_eq_some_iff.mp hb
  obtain ⟨o', -, rfl⟩ := Option.map_eq_some_iff.mp hb'
  exact hne

/-- The lanes of a slice that stand at a position. -/
def sliceAt (s : State) (c v line : Nat) (p : Pos) (q : Nat) : List (Nat × Thread) :=
  ((s.lineThreads c v line).filter (fun e => e.1 / 4 == q)).filter (standsAt s c v line p)

theorem mem_sliceAt {p : Pos} {q : Nat} {e : Nat × Thread} (he : e ∈ sliceAt s c v line p q) :
    e ∈ s.lineThreads c v line ∧ e.1 / 4 = q ∧ e.2.pos = p := by
  obtain ⟨he, hst⟩ := List.mem_filter.mp he
  obtain ⟨hm, hq⟩ := List.mem_filter.mp he
  simp only [standsAt, Bool.and_eq_true, beq_iff_eq] at hst hq
  exact ⟨hm, hq, hst.1.2⟩

/-- A gang that is ready is made of the lanes of its slices that stand at its position. -/
theorem madeOf_of_ready (hn : (s.threads.map (·.1)).Nodup) (hg : g ∈ s.lineGangs c v line) (hr : g.ready = true) :
    ∃ es, MadeOf s c v g es := by
  obtain ⟨⟨p, past, bar⟩, hk, rfl⟩ := List.mem_map.mp hg
  rw [mem_dedup_iff] at hk
  change _ ∈ (offersOf s c v line).map _ at hk
  obtain ⟨qo, hqo, hkey⟩ := List.mem_map.mp hk
  simp only [Bool.and_eq_true, Bool.not_eq_true', Bool.or_eq_false_iff, Option.isSome_eq_false_iff,
      Option.isNone_iff_eq_none] at hr
  obtain ⟨⟨⟨hpast, hbar⟩, -⟩, -⟩ := hr
  obtain rfl : past = none := hpast
  obtain rfl : bar = false := hbar
  have hpart : ∀ x ∈ (offersOf s c v line).filter (fun o => (o.2.pos, o.2.past, o.2.atBar) == (p, none, false)),
      x.1 < 8 ∧ x.2.lanes = (sliceAt s c v line p x.1).map (·.1) ∧ sliceAt s c v line p x.1 ≠ [] ∧
      x.2.opened = (sliceAt s c v line p x.1).all (·.2.opened) ∧
      ∀ e ∈ sliceAt s c v line p x.1, s.eligible ⟨c, v, line, e.1⟩ e.2 = true := by
    intro x hx
    obtain ⟨hx, heq⟩ := List.mem_filter.mp hx
    simp only [beq_iff_eq, Prod.mk.injEq] at heq
    obtain ⟨hpos, hpast, hbar⟩ := heq
    obtain ⟨q, hq, hmap⟩ := List.mem_filterMap.mp hx
    obtain ⟨o, ho, rfl⟩ := Option.map_eq_some_iff.mp hmap
    obtain ⟨hlanes, hne, hopened, helig⟩ := offer_stands ho hbar
    dsimp only at hpos
    rw [hpos] at hlanes hne hopened helig
    exact ⟨List.mem_range.mp hq, hlanes, hne, hopened, helig hpast⟩
  have hin : qo ∈ (offersOf s c v line).filter (fun o => (o.2.pos, o.2.past, o.2.atBar) == (p, none, false)) :=
    List.mem_filter.mpr ⟨hqo, by simpa using hkey⟩
  have hdis : ((offersOf s c v line).filter (fun o => (o.2.pos, o.2.past, o.2.atBar) ==
      (p, none, false))).Pairwise fun a b => a.1 ≠ b.1 :=
    offersOf_distinct.filter _
  change ∃ es, MadeOf s c v { line := line, slices := _, lanes := sortNat (((offersOf s c v line).filter
    (fun o => (o.2.pos, o.2.past, o.2.atBar) == (p, none, false))).flatMap (fun o => o.2.lanes)), pos := p, opened :=
        ((offersOf s c v line).filter
    (fun o => (o.2.pos, o.2.past, o.2.atBar) == (p, none, false))).all (fun o => o.2.opened), .. } es
  generalize (offersOf s c v line).filter (fun o => (o.2.pos, o.2.past, o.2.atBar) ==
      (p, none, false)) = parts at hpart hin hdis ⊢
  have hlanes : parts.flatMap (fun o => o.2.lanes) = (parts.flatMap fun o => sliceAt s c v line p o.1).map (·.1) := by
    rw [List.map_flatMap]
    exact List.flatMap_congr fun x hx => (hpart x hx).2.1
  refine ⟨parts.flatMap fun o => sliceAt s c v line p o.1, sortNat_perm.trans
      (.of_eq hlanes), fun hnil => ?_, ?_, fun e he => ?_, fun e he => ?_, ?_⟩
  · exact (hpart qo hin).2.2.1 (List.flatMap_eq_nil_iff.mp hnil qo hin)
  · rw [List.map_flatMap, List.nodup_flatMap]
    refine ⟨fun x _ => (nodup_lineThreads hn).sublist
        ((List.filter_sublist.trans List.filter_sublist).map _), hdis.imp fun {a b} hab l hl hl' => ?_⟩
    obtain ⟨e, he, rfl⟩ := List.mem_map.mp hl
    obtain ⟨e', he', heq⟩ := List.mem_map.mp hl'
    exact hab ((mem_sliceAt he).2.1.symm.trans (heq ▸ (mem_sliceAt he').2.1))
  · obtain ⟨x, -, he⟩ := List.mem_flatMap.mp he
    exact (mem_sliceAt he).1
  · obtain ⟨x, hx, he⟩ := List.mem_flatMap.mp he
    obtain ⟨hlt, -, -, -, helig⟩ := hpart x hx
    obtain ⟨-, hq, hpos⟩ := mem_sliceAt he
    exact ⟨hpos, helig e he, by omega⟩
  · rw [Bool.eq_iff_iff]
    simp only [List.all_eq_true, List.mem_flatMap]
    constructor
    · rintro h e ⟨x, hx, he⟩
      have := h x hx
      rw [(hpart x hx).2.2.2.1] at this
      exact List.all_eq_true.mp this e he
    · intro h x hx
      rw [(hpart x hx).2.2.2.1]
      exact List.all_eq_true.mpr fun e he => h e ⟨x, hx, he⟩

end Gangs

end Sys2Proof.Proofs
end

section
/-!
PROOF. The gang that is chosen and the word that it fetches (R72, R73, R79, R132, R239), for O52.
-/
namespace Sys2Proof.Proofs
open Sys2Proof Sys2Proof.Machine Sys2Proof.Claim Sys2Proof.Laws
set_option Elab.async false

/-! ## Candidates -/

section Cands
variable {s : State} {g : GangNow} {k : Cand}

theorem foldl_pick {α : Type} {p : α → α → Prop} [∀ b x, Decidable (p b x)] (l : List α) (a : α) :
    l.foldl (fun b x => if p b x then x else b) a ∈ a :: l :=
  List.foldlRecOn (motive := (· ∈ a :: l)) l _ (List.mem_cons_self ..) fun b hb x hx => by
    split
    · exact List.mem_cons_of_mem _ hx
    · exact hb

theorem mem_of_leastRecent {gs : List GangNow} (h : leastRecent gs = some g) : g ∈ gs := by
  cases gs with
  | nil => cases h
  | cons a gs =>
    cases h
    exact foldl_pick gs a

theorem mem_of_oldest {cs : List Cand} (h : oldest cs = some k) : k ∈ cs := by
  cases cs with
  | nil => cases h
  | cons a cs =>
    cases h
    exact foldl_pick cs a

theorem mem_and_of_leastRecent {gs : List GangNow} {p q : GangNow → Bool} (h : leastRecent ((gs.filter p).filter q) = some g) :
    g ∈ gs ∧ p g = true := List.mem_filter.mp (List.mem_of_mem_filter (mem_of_leastRecent h))

theorem mem_coreGangs {c v : Nat} (h : g ∈ s.coreGangs c v) : g ∈ s.lineGangs c v g.line := by
  obtain ⟨l, -, h⟩ := List.mem_flatMap.mp h
  have hline : g.line = l := by
    obtain ⟨_, -, rfl⟩ := List.mem_map.mp h
    rfl
  rwa [hline]

/-- A candidate is a gang of a line of its core, and ready. -/
theorem cand_ready (h : k ∈ s.cands) : k.gang ∈ s.lineGangs k.key.ctx k.key.vc k.gang.line ∧ k.gang.ready = true := by
  obtain ⟨key, -, h⟩ := List.mem_flatMap.mp h
  unfold State.coreCands at h
  dsimp only at h
  split at h
  · cases h
  · obtain ⟨g, hg, rfl⟩ := List.mem_map.mp h
    obtain ⟨o, ho, rfl⟩ := List.mem_filterMap.mp hg
    have hin := List.mem_cons.mp ho
    rw [List.mem_singleton] at hin
    rcases hin with hin | hin
    all_goals
      obtain ⟨hmem, hready⟩ := mem_and_of_leastRecent hin.symm
      simp only [Bool.and_eq_true] at hready
      exact ⟨mem_coreGangs hmem, hready.1.1⟩

end Cands

/-! ## The choice -/

section Choice
variable {s u t : State} {w : Word} {k : Cand}

theorem threads_markArea {c launch p : Nat} {wr : Bool} : (s.markArea c launch p wr).threads = s.threads := by
  have hleaf : ∀ ia : Nat, (s.markLeaf c ia wr).threads = s.threads := fun ia => by
    unfold State.markLeaf
    split
    · rfl
    · split <;> simp
  unfold State.markArea
  split
  · rfl
  · split_ifs
    · rfl
    · split
      · simp [hleaf]
      · rfl
    · split
      · exact hleaf _
      · rfl

theorem threads_modThread_congr {p : Place} {f : Thread → Thread} (h : u.threads = s.threads) :
    (u.modThread p f).threads = (s.modThread p f).threads := by
  unfold State.modThread
  rw [h]
  split
  · exact h
  · rfl

theorem threads_spillReg_oracle {p : Place} {r n : Nat} {o : List Nat} :
    (State.spillReg { s with aux := { s.aux with oracle := o } } p r n).threads = (s.spillReg p r n).threads := by
  unfold State.spillReg
  dsimp only
  split
  · rfl
  · next x _ =>
    rw [show State.launchOf { s with aux := { s.aux with oracle := o } } x = s.launchOf x from rfl]
    split
    · rfl
    · rw [apply_ite State.threads, apply_ite State.threads]
      refine if_congr Iff.rfl rfl ?_
      rw [threads_markArea, threads_markArea]
      exact threads_modThread_congr rfl

/-- The threads after a spill are the same whatever the oracle. -/
theorem threads_spillNth_oracle {n : Nat} {o : List Nat} :
    (State.spillNth { s with aux := { s.aux with oracle := o } } n).threads = (s.spillNth n).threads := by
  unfold State.spillNth
  dsimp only
  split
  · rfl
  · exact threads_spillReg_oracle

theorem takeEvent_ne_issue {n : Nat} : s.takeEvent n ≠ .issue w t := by
  unfold State.takeEvent
  dsimp only
  split <;> simp

theorem chooseDefault_issue (h : s.chooseDefault = .issue w t) : ∃ k ∈ s.cands, s.takeGang k = .issue w t := by
  unfold State.chooseDefault at h
  split at h
  · exact absurd h takeEvent_ne_issue
  · split at h
    · next k hk => exact ⟨k, mem_of_oldest hk, h⟩
    · exact absurd h takeEvent_ne_issue

/-- A word issues from a state with the threads of the settled one, but for a register that may have been spilled: a
    candidate's. -/
theorem choose_issue (h : s.choose = .issue w t) : ∃ u k, k ∈ u.cands ∧ u.takeGang k = .issue w t ∧
    (u.threads = s.tick.settle.threads ∨ ∃ n, u.threads = (s.tick.settle.spillNth n).threads) ∧ ∀ Φ, Filed Φ s → Filed Φ u := by
  unfold State.choose at h
  dsimp only at h
  split at h
  · exact absurd h takeEvent_ne_issue
  · cases h
  · split at h
    · obtain ⟨k, hk, ht⟩ := chooseDefault_issue h
      exact ⟨_, k, hk, ht, .inl rfl, fun _ hs => hs.tick.settle⟩
    · split at h
      · exact absurd h takeEvent_ne_issue
      · split at h
        · next k hk => exact ⟨_, k, List.mem_of_getElem? hk, h, .inl rfl, fun _ hs => hs.tick.settle⟩
        · obtain ⟨k, hk, ht⟩ := chooseDefault_issue h
          exact ⟨_, k, hk, ht, .inr ⟨_, threads_spillNth_oracle⟩, fun _ hs => Filed.spillNth hs.tick.settle⟩

end Choice

/-! ## The word that issues -/

/-- A gang that is taken: its lanes may issue where they stand, at one position, and the word is the one that they stand at. -/
theorem takeGang_fetches {u t : State} {k : Cand} {w : Word} (hn : (u.threads.map (·.1)).Nodup) (hk : k ∈ u.cands) (ht :
    u.takeGang k = .issue w t) :
    t.threads = u.threads ∧ t.kernels = u.kernels ∧ Gang t ∧ ∃ l0 rest, t.issue.lanes = l0 :: rest ∧
      w = (match t.kernelOf (t.lane l0) with
        | some k => k.wordAt (t.lane l0).pos (decide (∀ l ∈ t.issue.lanes, (t.lane l).opened = true))
        | none => 0#32) ∧
      t.issue.pos = (t.lane l0).pos ∧ ∀ l ∈ t.issue.lanes, (t.lane l).pos = (t.lane l0).pos ∧
        t.eligible (at' t l) (t.lane l) = true ∧ l < 32 := by
  obtain ⟨hg, hr⟩ := cand_ready hk
  obtain ⟨es, hlanes, hne, hdis, hthere, hstand, hopened⟩ := madeOf_of_ready hn hg hr
  cases ht
  have hlane : ∀ l ∈ k.gang.lanes, ∃ x, (l, x) ∈ es ∧ look u.threads ⟨k.key.ctx, k.key.vc, k.gang.line, l⟩ = some x :=
      fun l hl => by
    obtain ⟨⟨l', x⟩, he, rfl⟩ := List.mem_map.mp (hlanes.mem_iff.mp hl)
    exact ⟨x, he, look_of_lineThreads hn (hthere _ he)⟩
  obtain ⟨l0, rest, hcons⟩ := List.exists_cons_of_ne_nil (show k.gang.lanes ≠ [] from fun hnil => hne
      (by simpa [hnil] using hlanes.symm))
  have hl0 : l0 ∈ k.gang.lanes := by simp [hcons]
  have hthread : ∀ l x, look u.threads ⟨k.key.ctx, k.key.vc, k.gang.line, l⟩ = some x →
      u.thread ⟨k.key.ctx, k.key.vc, k.gang.line, l⟩ = x := fun l x hx => by rw [State.thread, hx]; rfl
  have hpos : ∀ l ∈ k.gang.lanes, (u.thread ⟨k.key.ctx, k.key.vc, k.gang.line, l⟩).pos = k.gang.pos := fun l hl => by
    obtain ⟨x, he, hx⟩ := hlane l hl
    rw [hthread l x hx]
    exact (hstand _ he).1
  have hopen : k.gang.opened = decide (∀ l ∈ k.gang.lanes, (u.thread ⟨k.key.ctx, k.key.vc, k.gang.line, l⟩).opened = true) := by
    rw [hopened, Bool.eq_iff_iff, List.all_eq_true, decide_eq_true_iff]
    constructor
    · intro h l hl
      obtain ⟨x, he, hx⟩ := hlane l hl
      rw [hthread l x hx]
      exact h _ he
    · intro h e he
      rw [← hthread e.1 e.2 (look_of_lineThreads hn (hthere e he))]
      exact h e.1 (hlanes.mem_iff.mpr (List.mem_map.mpr ⟨e, he, rfl⟩))
  refine ⟨rfl, rfl, ⟨?_, hlanes.nodup_iff.mpr hdis, fun l hl => ?_, rfl⟩, l0, rest, hcons, ?_,
      (hpos l0 hl0).symm, fun l hl => ⟨?_, ?_, ?_⟩⟩
  · rw [hcons]
    exact List.cons_ne_nil _ _
  · obtain ⟨x, -, hx⟩ := hlane l hl
    exact Option.isSome_iff_exists.mpr ⟨x, hx⟩
  · have hhead : k.gang.lanes.headD 0 = l0 := by rw [hcons]; rfl
    rw [hhead, hopen, ← hpos l0 hl0]
    rfl
  · exact (hpos l hl).trans (hpos l0 hl0).symm
  · obtain ⟨x, he, hx⟩ := hlane l hl
    have := (hstand _ he).2.1
    rwa [← hthread l x hx] at this
  · obtain ⟨x, he, -⟩ := hlane l hl
    exact (hstand _ he).2.2

/-- Settles O52: the gang that is chosen is made of the lanes that stand at its position, and what is done before it is
    chosen leaves the kernels and
the places of threads as they were. -/
theorem fetchedWord : Obligations.FetchedWord := by
  intro s t w hn h
  obtain ⟨u, k, hk, ht, hthreads, hfiled⟩ := choose_issue h
  obtain ⟨hkernels, hnodup⟩ := hfiled (fun ks _ ps => ks = s.kernels ∧ ps.Nodup) ⟨rfl, hn⟩
  obtain ⟨htu, hku, hgang, hrest⟩ := takeGang_fetches hnodup hk ht
  exact ⟨hgang, by rwa [htu], hku.trans hkernels, hrest⟩

end Sys2Proof.Proofs
end

section
/-!
PROOF. O54 fails where a square's memory is not in canonical form: its claim of an atomic that has read does not ask that the state is `Sound`.
-/
namespace Sys2Proof.Proofs
open Sys2Proof Sys2Proof.Machine Sys2Proof.Claim Sys2Proof.Laws
set_option Elab.async false

/-- An atomic of square memory that has read, and will write a byte 0 at address 3. -/
def zeroToCome : HalfAtom := { ctx := 0, vc := 0, line := 0, lane := 0, pos := ⟨0, false⟩, vmask := 0, sq := some 0, reads := true, bytes := [(3, 0#8)] }

/-- Square memory whose cells are out of order: a write of 0 at 3 stops at the cell of 5 and leaves the cell of 3 behind it. -/
def outOfOrder : State := { halves := [zeroToCome], squares := [(0, { sqm := [(5, 1#8), (3, 7#8)] })] }

/-- The write leaves byte 3 as it was. -/
theorem byte_after_zeroToCome : ((answerTo (.storePerform 0 0 0) outOfOrder).square 0).sqm.byte 3 = 7#8 := by decide +kernel

/-- Refutes O54: the write of an atomic that has read does not reach a byte of a square's memory whose list of cells is out of order; the
statement asks no more of the memory. -/
theorem not_coreEventsComplete : ¬ Obligations.CoreEventsComplete := by
  unfold Obligations.CoreEventsComplete
  rintro ⟨-, -, -, -, atomics, -⟩
  obtain ⟨t, ht, -, -, -, hbytes⟩ :=
    atomics outOfOrder 0 0 0 zeroToCome 3 [0#8] rfl rfl rfl (by decide +kernel) rfl (by decide) (by decide +kernel)
  have hbyte : (t.square 0).sqm.byte 3 = 0#8 := hbytes 0 (by decide)
  rw [eq_answerTo ht, byte_after_zeroToCome] at hbyte
  exact absurd hbyte (by decide)

end Sys2Proof.Proofs
end

section
/-!
PROOF. Waiting at a point, and yielding without a save record (R76, R136, R138, R139).
-/
namespace Sys2Proof.Proofs
open Sys2Proof Sys2Proof.Machine Sys2Proof.Claim Sys2Proof.Laws
set_option Elab.async false

/-! ## What leaving for a position leaves of threads and memories -/

section
variable (s : State) (sb : Bool) (ls : List Nat) (nx : Nat → Thread → Pos × Bool)

/-- A change of position changes of a thread only where and in what state it stands. -/
theorem thread_moveTo_inv {β : Type} (g : Thread → β)
    (hg : ∀ t (a : Pos) b c d e st, g { t with pos := a, opened := b, last := c, chanWait := d, stalled := e, stat := st } = g t)
    (q : Place) : g ((s.moveTo sb ls nx).thread q) = g (s.thread q) :=
  thread_foldl_modLane_inv g s ls (fun x l t => { t with
      pos := (nx l t).1
      opened := (nx l t).2
      last := x.aux.time
      chanWait := false
      stalled := none
      stat := if sb then (if t.held.isEmpty then .sync s.aux.serial else .parked s.aux.serial) else .run }) (fun _ _ t => hg t ..) q

theorem thread_moveTo_other (q : Place) (h : ∀ l ∈ ls, q ≠ at' s l) : (s.moveTo sb ls nx).thread q = s.thread q :=
  thread_foldl_modLane_other s ls _ q fun l hl => (h l hl).symm

theorem moveTo_issKey : (s.moveTo sb ls nx).issKey = s.issKey := by simp only [State.issKey, moveTo_issue]

theorem lane_moveTo (l : Nat) : (s.moveTo sb ls nx).lane l = (s.moveTo sb ls nx).thread (at' s l) :=
  congrArg _ (at'_congr (moveTo_issKey s sb ls nx) l)

theorem memKept_moveTo : MemKept s (s.moveTo sb ls nx) := by
  refine ⟨fun a => by rw [moveTo_mem], fun d a => by simp only [State.die, moveTo_dies],
    fun q a => by simp only [State.square, moveTo_squares], fun c v => ?_, fun p a => ?_, moveTo_wbHeld ..⟩
  · rw [core_congr (moveTo_cores ..)]
    exact ⟨fun _ => rfl, rfl⟩
  · rw [thread_moveTo_inv s sb ls nx (·.priv) (fun _ _ _ _ _ _ _ => rfl)]

theorem threadsKept_moveTo : ThreadsKept s (s.moveTo sb s.issue.lanes nx) := by
  have hinv : ∀ {β : Type} (g : Thread → β), _ → ∀ l, g ((s.moveTo sb s.issue.lanes nx).lane l) = g (s.lane l) := fun g hg l => by
    rw [lane_moveTo]
    exact thread_moveTo_inv s sb s.issue.lanes nx g hg _
  refine ⟨fun l _ => ⟨hinv (·.regs) (fun _ _ _ _ _ _ _ => rfl) l, hinv (·.fst) (fun _ _ _ _ _ _ _ => rfl) l,
    hinv (·.wb) (fun _ _ _ _ _ _ _ => rfl) l, hinv (·.group) (fun _ _ _ _ _ _ _ => rfl) l,
    hinv (·.held) (fun _ _ _ _ _ _ _ => rfl) l⟩, ?_, fun p h => thread_moveTo_other s sb _ nx p h⟩
  simp only [State.issLine, moveTo_issue, State.line, moveTo_lines]

end

/-- The lanes stand where the move has sent them. -/
theorem moved_moveTo {s : State} (hg : Gang s) (sb : Bool) (nx : Nat → Thread → Pos × Bool) :
    Moved s (s.moveTo sb s.issue.lanes nx) sb s.issue.lanes (fun l => (nx l (s.lane l)).1) (fun l => (nx l (s.lane l)).2) := by
  obtain ⟨-, hn, hs, -⟩ := hg
  intro l hl
  obtain ⟨hpos, hopen, -, -, -, -, hstat⟩ := thread_moveTo s sb s.issue.lanes nx l hn hl hs
  rw [lane_moveTo]
  exact ⟨hpos, hopen, hstat⟩

/-! ## The S point -/

theorem syncFirst_of_settled {s : State} (h : Settled s) : s.syncFirst (fun _ => true) = none := by
  refine if_neg ?_
  simp only [List.any_eq_true, not_exists, not_and]
  intro l hl
  obtain ⟨ho, hh⟩ := h l hl
  rw [show s.outstanding ⟨s.issue.ctx, s.issue.vc, s.issue.line, l⟩ = false from ho, hh]
  decide

theorem syncFirst_of_not_settled {s : State} (h : ¬ Settled s) :
    s.syncFirst (fun _ => true) = some (s.moveTo true s.issue.lanes (fun _ t => (t.pos, t.opened))) := by
  refine if_pos (Classical.byContradiction fun hn => h fun l hl => ?_)
  rw [List.any_eq_true] at hn
  have hf := not_exists.mp hn l
  simp only [hl, true_and, Bool.true_and, Bool.or_eq_true, not_or] at hf
  obtain ⟨ho, hh⟩ := hf
  exact ⟨Bool.eq_false_iff.mpr ho, by simpa using hh⟩

theorem pointsWait : PointsWait := by
  intro i s sw hi hg hs
  have hsync := syncFirst_of_not_settled hs
  refine ⟨s.moveTo true s.issue.lanes (fun _ t => (t.pos, t.opened)), ?_, threadsKept_moveTo .., memKept_moveTo ..,
    moved_moveTo hg true _⟩
  rcases hi with rfl | rfl | rfl
  · show execExit sw s = _
    simp only [execExit, hsync]
  · show execYchk sw s = _
    simp only [execYchk, hsync]
  · show execYield sw s = _
    simp only [execYield, hsync]

/-! ## `yield` -/

/-- The state after a `yield` whose request flag is clear, but for where its lanes stand when it is set. -/
def undiverted (s : State) : State := (s.finish false s.issue.lanes).modLanes s.issue.lanes (fun t => { t with diverted := false })

theorem execYield_settled {s : State} (h : Settled s) (sw : Bool) : exec (.yield sw) s =
    .next (if s.issCtx.set.preq then (undiverted s).modLanes s.issue.lanes (fun t => { t with stat := .yielded }) else undiverted s) := by
  show execYield sw s = _
  simp only [execYield, syncFirst_of_settled h, undiverted]

theorem memKept_trans {s t u : State} (h : MemKept s t) (k : MemKept t u) : MemKept s u := by
  obtain ⟨hm, hd, hq, hc, hp, hw⟩ := h
  obtain ⟨km, kd, kq, kc, kp, kw⟩ := k
  exact ⟨fun a => (km a).trans (hm a), fun d a => (kd d a).trans (hd d a), fun q a => (kq q a).trans (hq q a),
    fun c v => ⟨fun a => ((kc c v).1 a).trans ((hc c v).1 a), (kc c v).2.trans (hc c v).2⟩, fun p a => (kp p a).trans (hp p a),
    kw.trans hw⟩

/-- Changes of the gang's lanes that touch no register, window, group or access keep what an instruction has kept. -/
theorem threadsKept_modLanes {s t : State} (hk : t.issKey = s.issKey) (f : Thread → Thread)
    (hf : ∀ t, (f t).regs = t.regs ∧ (f t).fst = t.fst ∧ (f t).wb = t.wb ∧ (f t).group = t.group ∧ (f t).held = t.held)
    (h : ThreadsKept s t) : ThreadsKept s (t.modLanes s.issue.lanes f) := by
  obtain ⟨hl, hgr, hother⟩ := h
  simp only [forall_and] at hf
  obtain ⟨hregs, hfst, hwb, hgroup, hheld⟩ := hf
  have hinv : ∀ {β : Type} (g : Thread → β), (∀ t, g (f t) = g t) → ∀ l, g ((t.modLanes s.issue.lanes f).lane l) = g (t.lane l) :=
    fun g hgf l => by
      rw [lane_modLanes]
      exact thread_modLanes_inv g t _ hgf _
  refine ⟨fun l hm => ?_, ?_, fun p hp => ?_⟩
  · obtain ⟨h1, h2, h3, h4, h5⟩ := hl l hm
    exact ⟨(hinv (·.regs) hregs l).trans h1, (hinv (·.fst) hfst l).trans h2, (hinv (·.wb) hwb l).trans h3,
      (hinv (·.group) hgroup l).trans h4, (hinv (·.held) hheld l).trans h5⟩
  · simpa only [State.issLine, modLanes_issue, State.line, modLanes_lines] using hgr
  · refine (thread_modLanes_other t _ _ p fun l hm => ?_).trans (hother p hp)
    exact (at'_congr hk l).trans_ne (hp l hm).symm

/-- What a change of the gang's lanes leaves in one of them. -/
theorem lane_modLanes_mem {s t : State} (hg : Gang s) (hk : t.issKey = s.issKey)
    (ht : ∀ p, (look t.threads p).isSome = (look s.threads p).isSome) (f : Thread → Thread) {l : Nat} (hl : l ∈ s.issue.lanes) :
    (t.modLanes s.issue.lanes f).lane l = f (t.lane l) := by
  obtain ⟨-, hn, hs, -⟩ := hg
  rw [lane_modLanes]
  refine thread_modLanes t _ f l hn hl fun m hm => ?_
  have hat : Laws.placeOf t m = at' s m := at'_congr hk m
  rw [hat, ht]
  exact hs m hm

theorem isSome_moveTo (s : State) (sb : Bool) (ls : List Nat) (nx : Nat → Thread → Pos × Bool) (p : Place) :
    (look (s.moveTo sb ls nx).threads p).isSome = (look s.threads p).isSome :=
  foldl_modLane_inv s (fun s => (look s.threads p).isSome) (fun s l f => by simp only [State.modLane, isSome_modThread]) ls _

theorem isSome_finish (s : State) (sb : Bool) (ls : List Nat) (p : Place) :
    (look (s.finish sb ls).threads p).isSome = (look s.threads p).isSome := by
  rw [State.finish, State.finishTo, isSome_moveTo]
  split
  · rfl
  · rw [countIssue_threads, popFor_threads]

theorem isSome_modLanes (s : State) (ls : List Nat) (f : Thread → Thread) (p : Place) :
    (look (s.modLanes ls f).threads p).isSome = (look s.threads p).isSome :=
  foldl_modLane_inv s (fun s => (look s.threads p).isSome) (fun s l f => by simp only [State.modLane, isSome_modThread]) ls _

section
variable {s : State} (hg : Gang s)
include hg

theorem lane_undiverted {l : Nat} (hl : l ∈ s.issue.lanes) :
    (undiverted s).lane l = { (s.finish false s.issue.lanes).lane l with diverted := false } :=
  lane_modLanes_mem hg (finish_issKey ..) (isSome_finish s false _) _ hl

theorem undiverted_keeps : ThreadsKept s (undiverted s) ∧ MemKept s (undiverted s) ∧ Advanced s (undiverted s) false := by
  obtain ⟨hadv, hthr⟩ := finish_goes_on hg false
  refine ⟨threadsKept_modLanes (finish_issKey ..) _ (fun _ => ⟨rfl, rfl, rfl, rfl, rfl⟩) hthr,
    memKept_trans (memKept_finish s false _) (modLanes_keeps _ _ _ fun _ => rfl), fun l hl => ?_⟩
  rw [lane_undiverted hg hl]
  exact hadv l hl

end

theorem undiverted_issKey (s : State) : (undiverted s).issKey = s.issKey := (modLanes_issKey ..).trans (finish_issKey ..)

theorem diverted_finish (s : State) (sb : Bool) (ls : List Nat) (p : Place) :
    ((s.finish sb ls).thread p).diverted = (s.thread p).diverted :=
  thread_finish_inv (·.diverted) s sb ls (fun _ _ _ _ _ _ _ => rfl) p

theorem diverted_lane_finish (s : State) (sb : Bool) (ls : List Nat) (l : Nat) :
    ((s.finish sb ls).lane l).diverted = (s.lane l).diverted := by
  rw [State.lane, show (⟨(s.finish sb ls).issue.ctx, (s.finish sb ls).issue.vc, (s.finish sb ls).issue.line, l⟩ : Place) = at' s l from
    at'_congr (finish_issKey s sb ls) l]
  exact diverted_finish s sb ls _

/-- `yield` with the request flag set: its threads stop at the next position. -/
theorem yield_stops {s : State} (sw : Bool) (hg : Gang s) (hs : Settled s) (hp : (s.issCtx).set.preq = true) :
    ∃ u : State, exec (.yield sw) s = .next u ∧ ThreadsKept s u ∧ MemKept s u ∧
      ∀ l ∈ s.issue.lanes, (u.lane l).stat = .yielded ∧ (u.lane l).pos = nextPos (s.lane l) ∧ (u.lane l).diverted = false := by
  obtain ⟨hthr, hmem, hadv⟩ := undiverted_keeps hg
  refine ⟨_, (execYield_settled hs sw).trans (congrArg _ (if_pos hp)),
    threadsKept_modLanes (undiverted_issKey s) _ (fun _ => ⟨rfl, rfl, rfl, rfl, rfl⟩) hthr,
    memKept_trans hmem (modLanes_keeps _ _ _ fun _ => rfl), fun l hl => ?_⟩
  rw [lane_modLanes_mem hg (undiverted_issKey s)
    (fun p => (isSome_modLanes _ _ _ p).trans (isSome_finish s false _ p)) _ hl]
  obtain ⟨hpos, -⟩ := hadv l hl
  exact ⟨rfl, hpos, by rw [lane_undiverted hg hl]⟩

/-! ## `ychk` without a save record -/

/-- Below its S point: the handler, or on. -/
theorem execYchk_noRequest {s : State} (h : Settled s) (hp : (s.issCtx).set.preq = false) (sw : Bool) :
    exec (.ychk sw) s = .next (s.finish false s.issue.lanes) := by
  show execYchk sw s = _
  simp only [execYchk, syncFirst_of_settled h, hp]
  rfl

theorem execYchk_diverted {s : State} (h : Settled s) (hp : (s.issCtx).set.preq = true)
    (hd : ∀ l ∈ s.issue.lanes, (s.lane l).diverted = true) (sw : Bool) :
    exec (.ychk sw) s = .next (s.finish false s.issue.lanes) := by
  have hgo : s.issue.lanes.filter (fun l => !(s.lane l).diverted) = [] :=
    List.filter_eq_nil_iff.mpr fun l hl => by simp [hd l hl]
  have hstay : s.issue.lanes.filter (fun l => (s.lane l).diverted) = s.issue.lanes := List.filter_eq_self.mpr hd
  show execYchk sw s = _
  simp only [execYchk, syncFirst_of_settled h, hp, hgo, hstay]
  rfl

/-- A lane as it enters the yield handler. -/
def diverting (w : Nat) (t : Thread) : Thread := if t.pos = ⟨w, false⟩ ∧ t.stat = .run then { t with diverted := true } else t

/-- The write of its lanes' save records by a `ychk` whose lanes all go to the handler, and their diversion. -/
def saving (s : State) : State :=
  (s.bump.memIssueTo s false none (s.issue.lanes.map (fun l =>
      let t := s.lane l
      let r := ((s.launchOf t).map (·.recd)).getD 0
      (l, .store .g false ((saveBase r + t.tid * saveStride r) % 2 ^ 64) (saveBytes (s.issue.pos.word + 1) t.wb))))
      (fun _ _ => toWord s.issCtx.set.yhnd)).modLanes s.issue.lanes (diverting s.issCtx.set.yhnd)

theorem execYchk_diverts {s : State} (hne : s.issue.lanes ≠ []) (h : Settled s) (hp : (s.issCtx).set.preq = true)
    (hd : ∀ l ∈ s.issue.lanes, (s.lane l).diverted = false) (sw : Bool) :
    exec (.ychk sw) s = if s.validTarget s.issCtx.set.yhnd then .next (saving s) else
      .next (s.bump.takeTrap s.issKey s.issue.lanes s.issue.pos { code := .controlTarget, info := s.issCtx.set.yhnd }) := by
  have hgo : s.issue.lanes.filter (fun l => !(s.lane l).diverted) = s.issue.lanes :=
    List.filter_eq_self.mpr fun l hl => by simp [hd l hl]
  have hstay : s.issue.lanes.filter (fun l => (s.lane l).diverted) = [] :=
    List.filter_eq_nil_iff.mpr fun l hl => by simp [hd l hl]
  have he : s.issue.lanes.isEmpty = false := by simpa using hne
  show execYchk sw s = _
  simp only [execYchk, syncFirst_of_settled h, hp, hgo, hstay, he, saving]
  cases s.validTarget s.issCtx.set.yhnd <;> rfl

theorem validTarget_iff {s : State} {k : Kernel} (hne : s.issue.lanes ≠ []) (hk : OneKernel s k) (w : Nat) :
    s.validTarget w = true ↔ blockAt k w := by
  have hhead : s.kernelOf (s.lane (s.issue.lanes.headD 0)) = some k := by
    refine hk _ ?_
    cases hl : s.issue.lanes with
    | nil => exact absurd hl hne
    | cons a r => exact List.mem_cons_self
  simp only [State.validTarget, hhead, isBlockStart, Bool.and_eq_true, List.any_eq_true, decide_eq_true_eq, beq_iff_eq, blockAt]
  constructor
  · rintro ⟨⟨⟨w', p⟩, hm, rfl⟩, hlt⟩
    exact ⟨hlt, p, hm⟩
  · rintro ⟨hlt, p, hm⟩
    exact ⟨⟨_, hm, rfl⟩, hlt⟩

/-- A handler word that starts no block. -/
theorem ychk_traps {s : State} {k : Kernel} (sw : Bool) (hg : Gang s) (hs : Settled s) (hp : (s.issCtx).set.preq = true)
    (hd : ∀ l ∈ s.issue.lanes, (s.lane l).diverted = false) (hk : OneKernel s k) (hb : ¬ blockAt k (s.issCtx).set.yhnd) :
    ∃ t : State, exec (.ychk sw) s = .next t ∧ MemKept s t ∧
      Trapped s t s.issue.lanes s.issue.pos { code := .controlTarget, info := (s.issCtx).set.yhnd } := by
  obtain ⟨hne, hn, ht, -⟩ := hg
  refine ⟨_, (execYchk_diverts hne hs hp hd sw).trans (if_neg fun h => hb ((validTarget_iff hne hk _).mp h)), ?_, ?_⟩
  · exact memKept_takeTrap s.bump s.issue.pos _ hne
  · exact trapped_takeTrap s.bump s.issue.pos _ hne hn ht

end Sys2Proof.Proofs
end

section
/-!
PROOF. A store into one line of an L1 whose other lines are clean: nothing goes home, and the line holds the bytes dirty
(R270, R273, R289).
-/
namespace Sys2Proof.Proofs
open Sys2Proof Sys2Proof.Machine Sys2Proof.Claim Sys2Proof.Laws
set_option Elab.async false

/-! ## Lines without dirty bytes -/

/-- The L1 lines of a core other than one hold no dirty bytes. -/
def CleanBut (s : State) (c v la : Nat) : Prop := ∀ x ∈ (s.core c v).l1, x.ia ≠ la → ∀ b ∈ x.bytes, b.2.2 = false

theorem mem_of_l1Find {s : State} {c v la : Nat} {x : L1Line} (h : s.l1Find c v la = some x) : x ∈ (s.core c v).l1 ∧ x.ia = la :=
  ⟨List.mem_of_find?_eq_some h, by simpa using List.find?_some h⟩

theorem writeBack_clean {s : State} {c v la a : Nat} (hc : CleanBut s c v la) (ha : a ≠ la) : s.writeBack c v a = s := by
  unfold State.writeBack
  cases h : s.l1Find c v a with
  | none => rfl
  | some x =>
    obtain ⟨hm, rfl⟩ := mem_of_l1Find h
    have hd : x.bytes.filter (fun b => b.2.2) = [] := List.filter_eq_nil_iff.mpr fun b hb => by simp [hc x hm ha b hb]
    simp [hd]

theorem l1_l1Remove (s : State) (c v : Nat) (p : L1Line → Bool) :
    ((s.l1Remove c v p).core c v).l1 = (s.core c v).l1.filter (fun x => !p x) := by
  rw [State.l1Remove, core_modCore, if_pos ⟨rfl, rfl⟩]

theorem cleanBut_l1Remove {s : State} {c v la : Nat} (p : L1Line → Bool) (h : CleanBut s c v la) :
    CleanBut (s.l1Remove c v p) c v la := fun x hx => by
  rw [l1_l1Remove] at hx
  exact h x (List.mem_filter.mp hx).1

/-! ## What a change of the cores alone leaves -/

/-- One state is another but for its cores. -/
def CoresOnly (s t : State) : Prop := ∃ cs, t = { s with cores := cs }

theorem CoresOnly.refl (s : State) : CoresOnly s s := ⟨s.cores, rfl⟩
theorem CoresOnly.trans {s t u : State} (h : CoresOnly s t) (k : CoresOnly t u) : CoresOnly s u := by
  obtain ⟨cs, rfl⟩ := h
  obtain ⟨ds, rfl⟩ := k
  exact ⟨ds, rfl⟩
theorem coresOnly_modCore (s : State) (c v : Nat) (f : Core → Core) : CoresOnly s (s.modCore c v f) := ⟨_, rfl⟩

theorem dropAliases_clean {s : State} {c v la : Nat} (h : CleanBut s c v la) :
    CoresOnly s (s.dropAliases c v [la]) ∧ CleanBut (s.dropAliases c v [la]) c v la := by
  have hdrop : ∀ (ls : List L1Line), (∀ x ∈ ls, x.ia ≠ la) → ∀ t, CoresOnly s t → CleanBut t c v la →
      CoresOnly s (ls.foldl (fun s x => s.l1Drop c v x.ia) t) ∧ CleanBut (ls.foldl (fun s x => s.l1Drop c v x.ia) t) c v la := by
    intro ls
    induction ls with
    | nil => exact fun _ t ht hc => ⟨ht, hc⟩
    | cons x r ih =>
      intro hx t ht hc
      have he : t.l1Drop c v x.ia = t.l1Remove c v (fun z => z.ia == x.ia) := by
        rw [State.l1Drop, writeBack_clean hc (hx x List.mem_cons_self)]
      rw [List.foldl_cons, he]
      exact ih (fun y hy => hx y (List.mem_cons_of_mem _ hy)) _ (ht.trans (coresOnly_modCore ..)) (cleanBut_l1Remove _ hc)
  refine hdrop _ (fun x hx => ?_) s (.refl s) h
  have := (List.mem_filter.mp hx).2
  simp only [List.any_cons, List.any_nil, Bool.or_false, Bool.and_eq_true, bne_iff_ne, ne_eq] at this
  exact fun e => this.1 e.symm

/-- The line put last into L1 is the one found. -/
theorem l1Find_put (s : State) (c v : Nat) (x : L1Line) :
    ((s.modCore c v (fun y => { y with l1 := y.l1.filter (fun z => z.ia != x.ia) ++ [x] })).l1Touch c v x.ia).l1Find c v x.ia =
      some x := by
  rw [State.l1Find, State.l1Touch, core_modCore, if_pos ⟨rfl, rfl⟩, core_modCore, if_pos ⟨rfl, rfl⟩, List.find?_append,
    List.find?_eq_none.mpr]
  · simp
  · intro z hz
    simpa using (List.mem_filter.mp hz).2

/-- A line that takes its place evicts a clean one, if any. -/
theorem l1Insert_clean {s : State} {c v la : Nat} {x : L1Line} (hx : x.ia = la) (h : CleanBut s c v la) :
    CoresOnly s (s.l1Insert c v x) ∧ (s.l1Insert c v x).l1Find c v la = some x := by
  subst hx
  have hvictim : ∀ (set : List L1Line) (used : List Nat) (first : L1Line), (∀ z ∈ set, z.ia ≠ x.ia) → first ∈ set →
      (used.find? (fun a => set.any (fun z => z.ia == a))).getD first.ia ≠ x.ia := by
    intro set used first hset hf
    cases hu : used.find? (fun a => set.any (fun z => z.ia == a)) with
    | none => exact hset first hf
    | some a =>
      have ha : set.any (fun z => z.ia == a) = true := List.find?_some (p := fun a => set.any (fun z => z.ia == a)) hu
      obtain ⟨z, hz, he⟩ := List.any_eq_true.mp ha
      rw [Option.getD_some, ← beq_iff_eq.mp he]
      exact hset z hz
  unfold State.l1Insert
  dsimp only
  split
  next first rest _ hs =>
    have hset : ∀ z ∈ first :: rest, z.ia ≠ x.ia := fun z hz => by
      rw [← hs] at hz
      have := (List.mem_filter.mp hz).2
      simp only [Bool.and_eq_true, bne_iff_ne, ne_eq] at this
      exact this.1
    rw [hs, writeBack_clean h (hvictim _ _ first hset List.mem_cons_self)]
    exact ⟨((coresOnly_modCore ..).trans (coresOnly_modCore ..)).trans (coresOnly_modCore ..), l1Find_put ..⟩
  · exact ⟨(coresOnly_modCore ..).trans (coresOnly_modCore ..), l1Find_put ..⟩

/-! ## The bytes of the line -/

/-- Putting entries under keys of their own, one after another. -/
theorem look_foldl_put {κ α β : Type} [DecidableEq κ] (f : β → κ) (g : β → α) {l : List β} (hn : (l.map f).Nodup) {e : β}
    (he : e ∈ l) (t : List (κ × α)) : look (l.foldl (fun t e => put t (f e) (g e)) t) (f e) = some (g e) := by
  have hkeep : ∀ (r : List β) k (t : List (κ × α)), k ∉ r.map f → look (r.foldl (fun t e => put t (f e) (g e)) t) k = look t k := by
    intro r k
    induction r with
    | nil => exact fun _ _ => rfl
    | cons a r ih =>
      intro t hk
      rw [List.map_cons, List.mem_cons, not_or] at hk
      rw [List.foldl_cons, ih _ hk.2, look_put_other (Ne.symm hk.1)]
  induction l generalizing t with
  | nil => exact absurd he List.not_mem_nil
  | cons a r ih =>
    rw [List.map_cons, List.nodup_cons] at hn
    rw [List.foldl_cons]
    rcases List.mem_cons.mp he with rfl | hr
    · rw [hkeep r _ _ hn.1, look_put_self]
    · exact ih hn.2 hr _

/-- A dirty entry is found among the dirty ones. -/
theorem look_filter_dirty {κ α : Type} [DecidableEq κ] (t : List (κ × α × Bool)) (k : κ) (x : α) (h : look t k = some (x, true)) :
    look (t.filter (fun b => b.2.2)) k = some (x, true) := by
  induction t with
  | nil => exact absurd h (by simp [look])
  | cons e r ih =>
    obtain ⟨j, y, d⟩ := e
    by_cases hj : j = k
    · simp only [look, hj, if_true, Option.some.injEq, Prod.mk.injEq] at h
      obtain ⟨rfl, rfl⟩ := h
      simp [look, hj]
    · simp only [look, hj, if_false] at h
      cases d <;> simp [look, hj, ih h]

/-! ## The store -/

theorem dedup_const {a : Nat} {l : List Nat} (hl : ∀ x ∈ l, x = a) (hne : l ≠ []) : dedup l = [a] := by
  obtain ⟨x, r, rfl⟩ := List.exists_cons_of_ne_nil hne
  obtain rfl := hl x List.mem_cons_self
  have hr : ∀ r : List Nat, (∀ y ∈ r, y = x) → r.foldl (fun acc x => if acc.contains x then acc else acc ++ [x]) [x] = [x] := by
    intro r
    induction r with
    | nil => exact fun _ => rfl
    | cons y r ih =>
      intro h
      obtain rfl := h y List.mem_cons_self
      rw [List.foldl_cons]
      simpa using ih fun z hz => h z (List.mem_cons_of_mem _ hz)
  exact hr r fun y hy => hl y (List.mem_cons_of_mem _ hy)

/-- The core's own dirty byte at an address, as `ownDirty` reads it for the gang's core. -/
def dirtyByte (s : State) (c v ia : Nat) : Option Byte :=
  match s.l1Find c v (ia / 128 * 128) with
  | some x => (look (x.bytes.filter (fun b => b.2.2)) (ia % 128)).map (·.1)
  | none => none

theorem ownDirty_eq (s : State) (ia : Nat) : ownDirty s ia = dirtyByte s s.issue.ctx s.issue.vc ia := rfl

/-- The state before a store to bytes of L1 that no longer have a parity error. -/
def parityCleared (s : State) (c v : Nat) (l : List (Nat × Byte)) : State :=
  if s.badChip.isEmpty then s else
    { s with badChip := s.badChip.filter (fun x => !(x.lvl == .g && x.owner == (c, v) && (l.map (·.1)).contains x.addr)) }

/-- The line that a store writes to, as L1 holds it or as it enters L1. -/
def lineBefore (s : State) (c v la : Nat) : L1Line :=
  match s.l1Find c v la with
  | some x => s.fresh c v x
  | none => { ia := la, cls := s.pageClass c la, epoch := s.epochOf c v (s.pageClass c la), bytes := [] }

theorem lineBefore_ia (s : State) (c v la : Nat) : (lineBefore s c v la).ia = la := by
  unfold lineBefore
  split
  next y hy =>
    obtain ⟨-, rfl⟩ := mem_of_l1Find hy
    unfold State.fresh
    split <;> rfl
  · rfl

/-- The line after a store to its bytes. -/
def lineAfter (x : L1Line) (who : Who) (l : List (Nat × Byte)) : L1Line := { x with
  bytes := l.foldl (fun b e => put b (e.1 % 128) (e.2, true)) x.bytes
  stores := l.foldl (fun w e => put w (e.1 % 128) ⟨who.line, who.lanes.headD 0, who.pos, who.kind == .atomic⟩) x.stores }

theorem storeL1_eq {s : State} {c v la : Nat} {l : List (Nat × Byte)} (who : Who) (hl : ∀ e ∈ l, lineOf e.1 = la) (hne : l ≠ []) :
    s.storeL1 c v who l = ((parityCleared s c v l).dropAliases c v [la]).l1Insert c v
      (lineAfter (lineBefore ((parityCleared s c v l).dropAliases c v [la]) c v la) who l) := by
  have hlines : linesOf (l.map (·.1)) = [la] := dedup_const
    (fun x hx => by
      obtain ⟨y, hy, rfl⟩ := List.mem_map.mp hx
      obtain ⟨e, he, rfl⟩ := List.mem_map.mp hy
      exact hl e he) (by simpa using hne)
  have hmine : l.filter (fun e => lineOf e.1 == la) = l := List.filter_eq_self.mpr fun e he => by simp [hl e he]
  unfold State.storeL1
  dsimp only
  rw [hlines, List.foldl_cons, List.foldl_nil, hmine]
  rfl

/-- A store within one line, of bytes each at an address of its own: it changes cores and parity errors alone, and its bytes
are dirty in the line. -/
theorem storeL1_oneLine {s : State} {c v la : Nat} {l : List (Nat × Byte)} (who : Who) (hl : ∀ e ∈ l, lineOf e.1 = la)
    (hne : l ≠ []) (hn : (l.map (·.1)).Nodup) (hc : CleanBut s c v la) :
    (∃ cs bc, s.storeL1 c v who l = { s with cores := cs, badChip := bc }) ∧
      ∀ e ∈ l, dirtyByte (s.storeL1 c v who l) c v e.1 = some e.2 := by
  have hkeys : (l.map (fun e => e.1 % 128)).Nodup := by
    refine (List.nodup_map_iff_inj_on hn.of_map).mpr fun x hx y hy hxy => List.inj_on_of_nodup_map hn hx hy ?_
    have h1 := hl x hx
    have h2 := hl y hy
    simp only [lineOf] at h1 h2
    omega
  obtain ⟨bc, hbc⟩ : ∃ bc, parityCleared s c v l = { s with badChip := bc } := by
    unfold parityCleared
    split
    · exact ⟨s.badChip, rfl⟩
    · exact ⟨_, rfl⟩
  have hc' : CleanBut (parityCleared s c v l) c v la := by rw [hbc]; exact hc
  obtain ⟨hcores, hclean⟩ := dropAliases_clean hc'
  have hia : (lineAfter (lineBefore ((parityCleared s c v l).dropAliases c v [la]) c v la) who l).ia = la := lineBefore_ia ..
  obtain ⟨hput, hfind⟩ := l1Insert_clean hia hclean
  rw [storeL1_eq who hl hne]
  refine ⟨?_, fun e he => ?_⟩
  · obtain ⟨cs, hcs⟩ := hcores.trans hput
    exact ⟨cs, bc, hcs.trans (congrArg (fun u : State => { u with cores := cs }) hbc)⟩
  · have hat : e.1 / 128 * 128 = la := hl e he
    rw [dirtyByte, hat, hfind]
    exact congrArg (Option.map (·.1))
      (look_filter_dirty _ _ e.2 (look_foldl_put (fun e : Nat × Byte => e.1 % 128) (fun e => (e.2, true)) hkeys he _))

end Sys2Proof.Proofs
end

section
/-!
PROOF. A lone lane's global store at its issue, and the save record of `ychk` (R138, R147, R273).
-/
namespace Sys2Proof.Proofs
open Sys2Proof Sys2Proof.Machine Sys2Proof.Claim Sys2Proof.Laws
set_option Elab.async false

/-! ## A lone lane's store -/

theorem strongest_lone (sp : Span) : strongest [sp] = sp.attr := by simp [strongest]

section
variable {sp : Span} (hat : sp.attr ≠ 2)
include hat

theorem reqRelease_store (nt : Bool) (a : Nat) (bs : List Byte) : reqRelease (.store .g nt a bs) (some [sp]) = none := by
  simp [reqRelease, strongest_lone, hat]

theorem reqAcquire_store (nt : Bool) (a : Nat) (bs : List Byte) : reqAcquire (.store .g nt a bs) (some [sp]) = none := by
  simp [reqAcquire, strongest_lone, hat]

theorem perform_store (s : State) (c v line l : Nat) (pos : Pos) (a : Nat) (bs : List Byte) (hc : crossesPage (spanIas [sp]) = false) :
    s.perform c v line l pos (.store .g false a bs) (some [sp]) =
      .done (s.storeL1 c v (Who.of .store v line l pos) ((spanIas [sp]).zip bs)) none := by
  have hb : s.performBare c v line l pos (.store .g false a bs) (some [sp]) =
      .done (s.storeL1 c v (Who.of .store v line l pos) ((spanIas [sp]).zip bs)) none := by
    simp [State.performBare, strongest_lone, hat, hc]
  have ht : s.reqTrap c v (s.thread ⟨c, v, line, l⟩) (.store .g false a bs) (some [sp]) = none := rfl
  simp only [State.perform, ht, hb, reqAcquire_store hat]

end

/-- What a lone lane's store to global memory meets at its issue: its lane and its core have room, and nothing is to be
awaited. -/
structure StoreIssues (s : State) (l a : Nat) (bs : List Byte) (sp : Span) : Prop where
  board : (s.readStore (.board s.issue.ctx s.issue.vc)).1 = false
  maps : s.mapReq s.issue.ctx (.store .g false a bs) = some [sp]
  free : (s.lane l).held = []
  room : s.heldCount s.issue.ctx s.issue.vc < 64
  attr : sp.attr ≠ 2
  page : crossesPage (spanIas [sp]) = false
  jobs : s.boardWaits s.issue.ctx s.issue.vc .g [(sp.ia, sp.ia + sp.len - 1)] true = false
  drains : (s.issLine).drains = []

/-- A reading of the scoreboard changes the counters of corrected errors and the errors alone. -/
theorem readStore_eq (s : State) (x : StoreAt) :
    ∃ r b, (s.readStore x).2 = { s with hub := { s.hub with ras := r }, badStores := b } := by
  unfold State.readStore
  split
  · exact ⟨s.hub.ras, s.badStores, rfl⟩
  · dsimp only
    split
    · exact ⟨_, _, rfl⟩
    · exact ⟨s.hub.ras, _, rfl⟩

/-- The state in which a store of the issuing gang takes place. -/
def storeBase (s : State) : State := ((s.readStore (.board s.issue.ctx s.issue.vc)).2).countIssue
/-- A lane's store performed. -/
def storedBy (s : State) (l : Nat) (bs : List Byte) (sp : Span) : State :=
  (storeBase s).storeL1 s.issue.ctx s.issue.vc (Who.of .store s.issue.vc s.issue.line l s.issue.pos) ((spanIas [sp]).zip bs)

/-- Nothing of a store to a range that is not SO waits for a drain or a fence. -/
theorem store_waits_for_no_fence (s : State) (c v : Nat) {sp : Span} (hat : sp.attr ≠ 2) (a : Nat) (bs : List Byte) :
    s.fenceFirst c v (.store .g false a bs) (some [sp]) = s ∧ s.fenceWaits c v (.store .g false a bs) (some [sp]) = false := by
  simp only [State.fenceFirst, State.fenceWaits, reqRelease_store hat, reqAcquire_store hat, Bool.or_self, and_self]

theorem drainWaits_store (s : State) {c v line : Nat} (l : Nat) {sp : Span} (hat : sp.attr ≠ 2) (a : Nat) (bs : List Byte)
    (hd : (s.line c v line).drains = []) : s.drainWaits c v line l (.store .g false a bs) (some [sp]) = false := by
  simp [State.drainWaits, hd, reqRelease_store hat, State.spansMeet, overlaps]

/-- A lane that holds nothing performs its store. -/
theorem issuedLane_store (s : State) (l a : Nat) (bs : List Byte) (sp : Span) (hat : sp.attr ≠ 2)
    (hc : crossesPage (spanIas [sp]) = false) (hh : (s.lane l).held = []) :
    ({ s := s } : Issued).lane l (.store .g false a bs) (some [sp]) =
      { s := s.storeL1 s.issue.ctx s.issue.vc (Who.of .store s.issue.vc s.issue.line l s.issue.pos) ((spanIas [sp]).zip bs) } := by
  have hgs : (MemReq.store .g false a bs).withGs [] = .store .g false a bs := rfl
  simp only [Issued.lane, hgs, hh, perform_store hat _ _ _ _ _ _ _ _ hc]
  rfl

theorem trapsNow_store (s : State) (l a : Nat) (bs : List Byte) (sp : Span) (hat : sp.attr ≠ 2)
    (hc : crossesPage (spanIas [sp]) = false) : s.trapsNow l (.store .g false a bs) (some [sp]) = none := by
  unfold State.trapsNow
  rw [perform_store hat _ _ _ _ _ _ _ _ hc]
  split <;> rfl

theorem lane_countIssue (s : State) (l : Nat) : s.countIssue.lane l = s.lane l :=
  (thread_countIssue s _).trans (congrArg _ (countIssue_place s l))

theorem countIssue_where (s : State) : s.countIssue.issue.ctx = s.issue.ctx ∧ s.countIssue.issue.vc = s.issue.vc ∧
    s.countIssue.issue.line = s.issue.line ∧ s.countIssue.issue.pos = s.issue.pos := by
  unfold State.countIssue
  split <;> exact ⟨rfl, rfl, rfl, rfl⟩

/-- A lone lane's store issues: it is performed, and the lane goes on. -/
theorem memIssueTo_store {s : State} (s0 : State) {l a : Nat} {bs : List Byte} {sp : Span} (h : StoreIssues s l a bs sp)
    (ht : (storedBy s l bs sp).threads = s.threads) (nx : Nat → Thread → Pos × Bool) :
    s.memIssueTo s0 false none [(l, .store .g false a bs)] nx = (storedBy s l bs sp).finishTo false [l] nx := by
  obtain ⟨hboard, hmaps, hfree, hroom, hattr, hpage, hjobs, hdrains⟩ := h
  obtain ⟨r, x, hb⟩ := readStore_eq s (.board s.issue.ctx s.issue.vc)
  have hst : storedBy s l bs sp = ({ s with hub := { s.hub with ras := r }, badStores := x } : State).countIssue.storeL1
      s.issue.ctx s.issue.vc (Who.of .store s.issue.vc s.issue.line l s.issue.pos) ((spanIas [sp]).zip bs) := by
    rw [storedBy, storeBase, hb]
  generalize hu : ({ s with hub := { s.hub with ras := r }, badStores := x } : State) = u at *
  have hmap : u.mapReq s.issue.ctx (.store .g false a bs) = some [sp] := by subst hu; exact hmaps
  have hwait : u.reqWaits s.issue.ctx s.issue.vc (.store .g false a bs) (some [sp]) = false := by subst hu; exact hjobs
  have hline : (u.line s.issue.ctx s.issue.vc s.issue.line).drains = [] := by subst hu; exact hdrains
  have hcount : ¬ 64 ≤ u.heldCount s.issue.ctx s.issue.vc := by subst hu; exact Nat.not_le.mpr hroom
  have hlane : (u.lane l).held = [] := by subst hu; exact hfree
  have hissue : u.issue = s.issue := by subst hu; rfl
  obtain ⟨hfirst, hfence⟩ := store_waits_for_no_fence u s.issue.ctx s.issue.vc hattr a bs
  have hreply : u.countIssue.laneReplies none [(l, .store .g false a bs)] true = ([(l, .store .g false a bs)], u.countIssue) := rfl
  have hissued : ({ s := u.countIssue } : Issued).lane l (.store .g false a bs) (some [sp]) = { s := storedBy s l bs sp } := by
    obtain ⟨hc, hv, hl, hp⟩ := countIssue_where u
    rw [issuedLane_store _ l a bs sp hattr hpage ((congrArg Thread.held (lane_countIssue u l)).trans hlane), hst, hc, hv, hl, hp, hissue]
  have hafter : ¬ Config.heldLimit < (storedBy s l bs sp).heldCount s.issue.ctx s.issue.vc := by
    simp only [State.heldCount, State.coreThreads, ht]
    exact Nat.not_lt.mpr hroom.le
  have hbefore : decide (Config.heldLimit ≤ u.heldCount s.issue.ctx s.issue.vc) = false := decide_eq_false hcount
  unfold State.memIssueTo
  simp only [hboard, hb, List.map_cons, List.map_nil, hmap, List.filterMap_cons, List.filterMap_nil,
    trapsNow_store _ _ _ _ _ hattr hpage, Option.map_none, List.any_nil, Bool.not_false, List.filter_cons, List.filter_nil, if_true,
    List.any_cons, hwait, hissue, drainWaits_store u l hattr a bs hline, hlane, List.isEmpty_nil, List.isEmpty_cons, List.foldl_cons,
    List.foldl_nil, hfirst, hfence, Bool.or_false, Bool.false_eq_true, if_false, hbefore, hreply, List.zip_cons_cons, List.zip_nil_right,
    hissued, hafter]
  rfl

end Sys2Proof.Proofs
end

section
/-!
PROOF. The save record of `ychk`, and O19 (R138, R139, R357).
-/
namespace Sys2Proof.Proofs
open Sys2Proof Sys2Proof.Machine Sys2Proof.Claim Sys2Proof.Laws
set_option Elab.async false

/-! ## The bytes of a save record -/

theorem bytesOfNat_eq (n x : Nat) : bytesOfNat x n = (List.range n).map (byteOf x) := by
  induction n generalizing x with
  | zero => rfl
  | succ n ih =>
    rw [bytesOfNat, ih, List.range_succ_eq_map, List.map_cons, List.map_map]
    refine congrArg₂ _ (by simp [byteOf]) (List.map_congr_left fun k _ => ?_)
    show BitVec.ofNat 8 (x / 256 / 256 ^ k) = BitVec.ofNat 8 (x / 256 ^ (k + 1))
    rw [Nat.div_div_eq_div_mul, Nat.pow_succ']

theorem spanIas_lone (sp : Span) : spanIas [sp] = (List.range sp.len).map (fun i => sp.ia + i) := by simp [spanIas]

/-- The bytes that a store of a number sets at the addresses of a stretch. -/
theorem zip_spanIas {sp : Span} {n : Nat} (hn : sp.len = n) (x : Nat) :
    (spanIas [sp]).zip (bytesOfNat x n) = (List.range n).map (fun i => (sp.ia + i, byteOf x i)) := by
  rw [spanIas_lone, bytesOfNat_eq, hn, List.zip_map']

section
variable {sp : Span} (h16 : sp.len = 16) (hone : OneLine sp.ia 16)
include h16 hone

theorem crossesPage_oneLine : crossesPage (spanIas [sp]) = false := by
  rw [spanIas_lone, h16]
  simp only [crossesPage, List.any_map, List.any_eq_false, List.mem_range, Function.comp, bne_iff_ne, ne_eq, not_not]
  intro i hi
  show (sp.ia + i) / 2 ^ 18 = (sp.ia + 0) / 2 ^ 18
  unfold OneLine at hone
  omega

/-- A store of 16 bytes in one line. -/
theorem storeL1_record {s : State} {c v : Nat} (who : Who) (x : Nat) (hc : CleanBut s c v (sp.ia / 128 * 128)) :
    (∃ cs bc, s.storeL1 c v who ((spanIas [sp]).zip (bytesOfNat x 16)) = { s with cores := cs, badChip := bc }) ∧
      ∀ k, k < 16 → dirtyByte (s.storeL1 c v who ((spanIas [sp]).zip (bytesOfNat x 16))) c v (sp.ia + k) = some (byteOf x k) := by
  rw [zip_spanIas h16]
  have hs := storeL1_oneLine (s := s) (c := c) (v := v) (la := sp.ia / 128 * 128)
    (l := (List.range 16).map (fun i => (sp.ia + i, byteOf x i))) who ?_ (by simp) ?_ hc
  · obtain ⟨hcores, hbytes⟩ := hs
    exact ⟨hcores, fun k hk => hbytes (sp.ia + k, byteOf x k) (List.mem_map.mpr ⟨k, List.mem_range.mpr hk, rfl⟩)⟩
  · rintro e he
    obtain ⟨i, hi, rfl⟩ := List.mem_map.mp he
    have := List.mem_range.mp hi
    unfold OneLine at hone
    simp only [lineOf]
    omega
  · rw [List.map_map]
    exact List.nodup_range.map fun a b hab => Nat.add_left_cancel hab

end

/-! ## The lane that goes to the handler -/

/-- The record's address of a lane (R138, R224). -/
def saveAddr (s : State) (l : Nat) (a : Launch) : Nat :=
  (a.recd.toNat / 2 ^ 128 % 2 ^ 57 + (s.lane l).tid * (a.recd.toNat / 2 ^ 224 % 2 ^ 32)) % 2 ^ 64
/-- The bytes of a lane's save record. -/
def recordBytes (s : State) (l : Nat) : List Byte := bytesOfNat (saveRecord (s.issue.pos.word + 1) (s.lane l).wb) 16

/-- What `ychk` of a lone lane does once its record can be stored. -/
theorem saving_lone {s : State} {l : Nat} {a : Launch} {sp : Span} (hl : s.issue.lanes = [l])
    (ha : look s.launches (s.lane l).launch = some a) (h : StoreIssues s.bump l (saveAddr s l a) (recordBytes s l) sp)
    (ht : (storedBy s.bump l (recordBytes s l) sp).threads = s.threads) :
    saving s = ((storedBy s.bump l (recordBytes s l) sp).finishTo false [l] (fun _ _ => toWord s.issCtx.set.yhnd)).modLanes [l]
      (diverting s.issCtx.set.yhnd) := by
  have hreq : s.issue.lanes.map (fun l =>
      let t := s.lane l
      let r := ((s.launchOf t).map (·.recd)).getD 0
      (l, MemReq.store .g false ((saveBase r + t.tid * saveStride r) % 2 ^ 64) (saveBytes (s.issue.pos.word + 1) t.wb))) =
      [(l, .store .g false (saveAddr s l a) (recordBytes s l))] := by
    rw [hl]
    simp only [List.map_cons, List.map_nil, State.launchOf, ha, saveAddr, saveBase, saveStride, bits, Nat.shiftRight_eq_div_pow,
      Option.map_some, Option.getD_some, recordBytes, saveBytes, saveRecord]
  unfold saving
  rw [hreq, memIssueTo_store s h ht, hl]

theorem saving_issues {s : State} {l : Nat} {a : Launch} {sp : Span} (hl : s.issue.lanes = [l]) (hu : Unheld s)
    (hm : Maps s (saveAddr s l a) 16 false true sp) (h16 : sp.len = 16) (hat : sp.attr ≠ 2) (hf : GlobalFree s sp true)
    (hone : OneLine sp.ia 16) : StoreIssues s.bump l (saveAddr s l a) (recordBytes s l) sp where
  board := by
    obtain ⟨-, -, hbad⟩ := hu
    show (s.bump.readStore (.board s.issue.ctx s.issue.vc)).1 = false
    unfold State.readStore
    split
    · rfl
    · refine Bool.eq_false_iff.mpr fun h => ?_
      rw [List.contains_iff_mem] at h
      exact hbad _ h rfl
  maps := by
    obtain ⟨hlt, hmap⟩ := hm
    have hlen : (recordBytes s l).length = 16 := length_bytesOfNat
    show (if saveAddr s l a < 2 ^ 57 then s.mapVa s.issue.ctx (saveAddr s l a) (recordBytes s l).length false true else none) = _
    rw [if_pos hlt, hlen, hmap]
  free := by
    obtain ⟨hfree, -⟩ := hu
    exact hfree l (by rw [hl]; exact List.mem_cons_self)
  room := by
    obtain ⟨-, hroom, -⟩ := hu
    exact hroom
  attr := hat
  page := crossesPage_oneLine h16 hone
  jobs := by
    obtain ⟨hjobs, -⟩ := hf
    exact hjobs
  drains := by
    obtain ⟨-, hdrains, -⟩ := hf
    exact hdrains

theorem pops_countIssue (s : State) : s.countIssue.issue.pops = s.issue.pops := by
  unfold State.countIssue
  split <;> rfl

theorem finishTo_lone {s : State} (hp : s.issue.pops = []) (l : Nat) (nx : Nat → Thread → Pos × Bool) :
    s.finishTo false [l] nx = s.countIssue.moveTo false [l] nx := by
  rw [State.finishTo, popFor_nil s hp]
  rfl

/-- What the store of the record leaves as it was, and where its bytes stand. -/
structure Saved (s w : State) (l : Nat) (sp : Span) : Prop where
  threads : w.threads = s.threads
  mem : w.mem = s.mem
  key : w.issKey = s.issKey
  pops : w.issue.pops = s.issue.pops
  bytes : ∀ k, k < 16 →
    dirtyByte w s.issue.ctx s.issue.vc (sp.ia + k) = some (byteOf (saveRecord (s.issue.pos.word + 1) (s.lane l).wb) k)

theorem saved_storedBy {s : State} {l : Nat} {sp : Span} (h16 : sp.len = 16) (hone : OneLine sp.ia 16) (hc : OthersClean s sp.ia) :
    Saved s (storedBy s.bump l (recordBytes s l) sp) l sp := by
  obtain ⟨r, x, hb⟩ := readStore_eq s.bump (.board s.issue.ctx s.issue.vc)
  have hbase : storeBase s.bump = ({ s.bump with hub := { s.bump.hub with ras := r }, badStores := x } : State).countIssue :=
    congrArg State.countIssue hb
  have hclean : CleanBut (storeBase s.bump) s.issue.ctx s.issue.vc (sp.ia / 128 * 128) := fun y hy => by
    rw [hbase, core_countIssue_inv (·.l1) (fun _ _ _ => rfl)] at hy
    exact hc y hy
  obtain ⟨⟨cs, bc, hw⟩, hbytes⟩ := storeL1_record h16 hone (Who.of .store s.issue.vc s.issue.line l s.issue.pos)
    (saveRecord (s.issue.pos.word + 1) (s.lane l).wb) hclean
  have hst : storedBy s.bump l (recordBytes s l) sp = { storeBase s.bump with cores := cs, badChip := bc } := hw
  refine ⟨?_, ?_, ?_, ?_, hbytes⟩ <;> rw [hst]
  · exact (congrArg State.threads hbase).trans (countIssue_threads _)
  · exact (congrArg State.mem hbase).trans (countIssue_mem _)
  · exact (congrArg State.issKey hbase).trans (countIssue_issKey _)
  · exact (congrArg (fun s : State => s.issue.pops) hbase).trans (pops_countIssue _)

theorem lane_congr {s t : State} (hk : t.issKey = s.issKey) (ht : t.threads = s.threads) (l : Nat) : t.lane l = s.lane l := by
  have hp : t.lane l = t.thread (at' s l) := congrArg t.thread (at'_congr hk l)
  rw [hp, State.thread, ht]
  rfl

theorem lane_moveTo_lone (s : State) (l : Nat) (nx : Nat → Thread → Pos × Bool) (h : (look s.threads (at' s l)).isSome) :
    ((s.moveTo false [l] nx).lane l).pos = (nx l (s.lane l)).1 ∧ ((s.moveTo false [l] nx).lane l).regs = (s.lane l).regs ∧
      ((s.moveTo false [l] nx).lane l).stat = .run := by
  obtain ⟨hpos, -, -, hregs, -, -, hstat⟩ := thread_moveTo s false [l] nx l (List.nodup_singleton l) List.mem_cons_self
    fun m hm => by rw [List.mem_singleton.mp hm]; exact h
  rw [lane_moveTo]
  exact ⟨hpos, hregs, hstat⟩

theorem dirtyByte_congr {s t : State} {c v : Nat} (h : (t.core c v).l1 = (s.core c v).l1) (ia : Nat) :
    dirtyByte t c v ia = dirtyByte s c v ia := by simp only [dirtyByte, State.l1Find, h]

/-- With its record stored, the lane goes to the handler. -/
theorem saved_diverts {s w : State} {l : Nat} {sp : Span} (h : Saved s w l sp) (hg : Gang s) (hl : s.issue.lanes = [l]) (y : Nat) :
    let t := (w.finishTo false [l] (fun _ _ => toWord y)).modLanes [l] (diverting y)
    (t.lane l).pos = ⟨y, false⟩ ∧ (t.lane l).stat = .run ∧ (t.lane l).diverted = true ∧ (t.lane l).regs = (s.lane l).regs ∧
      (∀ a, t.mem.byte a = s.mem.byte a) ∧
      ∀ k, k < 16 → ownDirty t (sp.ia + k) = some (byteOf (saveRecord (s.issue.pos.word + 1) (s.lane l).wb) k) := by
  obtain ⟨hthr, hmem, hkey, hpops, hbytes⟩ := h
  have hmem_l : l ∈ s.issue.lanes := hl ▸ List.mem_cons_self
  have hkeyC : w.countIssue.issKey = s.issKey := (countIssue_issKey w).trans hkey
  have hthrC : w.countIssue.threads = s.threads := (countIssue_threads w).trans hthr
  have ⟨_, _, hplace, hnopops⟩ := hg
  rw [finishTo_lone (hpops.trans hnopops)]
  obtain ⟨hpos, hregs, hstat⟩ := lane_moveTo_lone w.countIssue l (fun _ _ => toWord y) (by
    rw [at'_congr hkeyC, hthrC]
    exact hplace l hmem_l)
  have hkeyM := (moveTo_issKey w.countIssue false [l] (fun _ _ => toWord y)).trans hkeyC
  have hdiv := lane_modLanes_mem hg hkeyM (fun p => by rw [isSome_moveTo, hthrC]) (diverting y) hmem_l
  rw [hl, diverting, if_pos ⟨hpos, hstat⟩] at hdiv
  have hkeyT := (modLanes_issKey _ [l] (diverting y)).trans hkeyM
  generalize ht : (w.countIssue.moveTo false [l] (fun _ _ => toWord y)).modLanes [l] (diverting y) = t at *
  refine ⟨?_, ?_, ?_, ?_, fun a => ?_, fun k hk => ?_⟩
  · rw [hdiv]; exact hpos
  · rw [hdiv]; exact hstat
  · rw [hdiv]
  · rw [hdiv]; exact hregs.trans (congrArg Thread.regs (lane_congr hkeyC hthrC l))
  · rw [← ht, modLanes_mem, moveTo_mem, countIssue_mem, hmem]
  · have hcore : t.core s.issue.ctx s.issue.vc = w.countIssue.core s.issue.ctx s.issue.vc :=
      core_congr (by rw [← ht, modLanes_cores, moveTo_cores]) ..
    have hc : t.issue.ctx = s.issue.ctx := congrArg LineKey.ctx hkeyT
    have hv : t.issue.vc = s.issue.vc := congrArg LineKey.vc hkeyT
    rw [ownDirty_eq, hc, hv, ← hbytes k hk]
    exact dirtyByte_congr ((congrArg Core.l1 hcore).trans (core_countIssue_inv (·.l1) (fun _ _ _ => rfl) w _ _)) _

/-- A lone lane's `ychk` with the request flag set. -/
theorem ychk_saves {s : State} {k : Kernel} {l : Nat} {sp : Span} {a : Launch} (sw : Bool) (hg : Gang s) (hs : Settled s) (hu : Unheld s)
    (hp : (s.issCtx).set.preq = true) (hl : s.issue.lanes = [l]) (hd : (s.lane l).diverted = false) (hk : OneKernel s k)
    (hb : blockAt k (s.issCtx).set.yhnd) (ha : look s.launches (s.lane l).launch = some a)
    (hm : Maps s (saveAddr s l a) 16 false true sp) (h16 : sp.len = 16) (hat : sp.attr ≠ 2) (hf : GlobalFree s sp true)
    (hone : OneLine sp.ia 16) (hc : OthersClean s sp.ia) :
    ∃ t : State, exec (.ychk sw) s = .next t ∧ (t.lane l).pos = ⟨(s.issCtx).set.yhnd, false⟩ ∧ (t.lane l).stat = .run ∧
      (t.lane l).diverted = true ∧ (t.lane l).regs = (s.lane l).regs ∧ (∀ a, t.mem.byte a = s.mem.byte a) ∧
      ∀ k, k < 16 → ownDirty t (sp.ia + k) = some (byteOf (saveRecord (s.issue.pos.word + 1) (s.lane l).wb) k) := by
  have hw := saved_storedBy (l := l) h16 hone hc
  have hexec := (execYchk_diverts hg.1 hs hp (fun m hm => by rw [hl, List.mem_singleton] at hm; rw [hm, hd]) sw).trans
    (if_pos ((validTarget_iff hg.1 hk _).mpr hb))
  rw [saving_lone hl ha (saving_issues hl hu hm h16 hat hf hone) hw.threads] at hexec
  exact ⟨_, hexec, saved_diverts hw hg hl _⟩

/-! ## The obligation -/

theorem yielding : Yielding := by
  refine ⟨fun s sw hg hs hp => ?_, fun s sw hg hs hp => yield_stops sw hg hs hp, fun s sw hg hs hp hd => ?_,
    fun s sw k hg hs hp hd hk hb => ychk_traps sw hg hs hp hd hk hb,
    fun s sw k l sp _ hg hs hu hp hl hd hk hb ⟨a, ha, hm⟩ h16 hat hf hone hc =>
      ychk_saves sw hg hs hu hp hl hd hk hb ha hm h16 hat hf hone hc⟩
  · obtain ⟨hadv, hthr⟩ := finish_goes_on hg false
    obtain ⟨hthrU, hmemU, hadvU⟩ := undiverted_keeps hg
    exact ⟨_, _, execYchk_noRequest hs hp sw, hthr, memKept_finish .., hadv, diverted_finish s false _,
      (execYield_settled hs sw).trans (congrArg _ (if_neg (Bool.eq_false_iff.mp hp))), hthrU, hmemU, hadvU,
      fun l hl => by rw [lane_undiverted hg hl]⟩
  · obtain ⟨hadv, hthr⟩ := finish_goes_on hg false
    exact ⟨_, execYchk_diverted hs hp hd sw, hthr, memKept_finish .., hadv, fun l hl => by rw [diverted_lane_finish, hd l hl]⟩

/-- Settles O19: a point waits while its lanes have results outstanding or accesses held, and past it `ychk` and `yield` do as
the request flag says. -/
theorem yieldPoints : Obligations.YieldPoints := ⟨pointsWait, yielding⟩

end Sys2Proof.Proofs
end
